-- ==== Sys2Proof/Word.lean ====
section
/-! DEFINITION. The words of the register space and their plainest arithmetic (R7: every register is one
32-bit word; R16: [msb:lsb] bit ranges with bit 0 least significant). -/

namespace Sys2Proof

/-- One register word (R7). -/
abbrev Word := BitVec 32

/-- A 64-bit quantity (R8). -/
abbrev Word64 := BitVec 64

/-- Bits `hi` to `lo` of `v`, as a number. -/
def bitsOf (v hi lo : Nat) : Nat := v / 2 ^ lo % 2 ^ (hi + 1 - lo)

/-- Bit `i` of `v`. -/
def bitOf (v i : Nat) : Bool := v / 2 ^ i % 2 == 1

/-- `true` is 1 and `false` is 0, as a one-bit field holds them. -/
def b2n (b : Bool) : Nat := if b then 1 else 0

/-- The numbers `0 … n - 1`. -/
def upTo (n : Nat) : List Nat := List.range n

/-- `v` with bit `i` made `b`. -/
def setBit (v i : Nat) (b : Bool) : Nat :=
  if bitOf v i then (if b then v else v - 2 ^ i) else (if b then v + 2 ^ i else v)

/-- How many of the low `n` bits of `v` are set. -/
def popCount (n v : Nat) : Nat := ((upTo n).filter (bitOf v)).length

end Sys2Proof
end

