-- ==== Sys2Proof/Config.lean ====
section
/-! DEFINITION. What one part fixes (order code, package wiring), and the free values: functions the spec leaves open or
takes from a published standard, as constants with no body. -/

namespace Sys2Proof

/-- What manufacture fixes of a part (R2, R5, Table 0.3). -/
structure Part where
  /-- 1, 2 or 3: 2, 4 or 8 dies (R5). -/
  dieLog2 : Nat
  /-- 1 = S (64 GT/s), 2 = H (128 GT/s) (R5). -/
  grade : Nat
  /-- 0x10 = B0 (R5). -/
  stepping : Nat
  deriving DecidableEq, Repr

/-- How many dies the part has. -/
def Part.dies (p : Part) : Nat := 2 ^ p.dieLog2

/-- The die that site `s` of die `d` is wired to (R138, Table 5.1). -/
def Part.peerDie (p : Part) (d s : Nat) : Nat :=
  if p.dieLog2 = 1 then 1 - d
  else if p.dieLog2 = 2 then
    (if s < 2 then d ^^^ 1 else if s < 4 then d ^^^ 2 else d ^^^ 3)
  else d ^^^ (s + 1)

/-- The group size G of the Loft's coarse vector (Table 8.4). -/
def Part.coarseG (p : Part) : Nat := 2 ^ (p.dieLog2 - 1)

/-- A free value: the `n`-th value the spec leaves open in a run. Nothing constrains it. -/
opaque Config.free : Nat → Nat

/-- R95: −16 · log10 of the part's Gaussian error estimate from the vertical and horizontal eye margins, rounded down. The
spec gives no formula. -/
opaque Config.eyeBaro : Nat → Nat → Nat

/-- The standard's pre-cursor and post-cursor of a preset at full swing 48 (R100, R103): the PCI Express tables, which the
spec names and does not restate. -/
opaque Config.presetPre : Nat → Nat
opaque Config.presetPost : Nat → Nat

/-- Whether the access control services that the host has set in a vPPB's emulated configuration space send a peer-to-peer
request upstream (R223): the standard's registers, which the spec does not restate, as (offset, word) pairs. -/
opaque Config.acsUpstream : List (Nat × Nat) → Bool

/-- A word of the emulated configuration space (R223) that the host has not written, by (whether it is a vPPB's, word offset),
and what a word holds after a write, by (word offset, old, written): the standard's registers, which the spec does not
restate. -/
opaque Config.cfgReset : Bool → Nat → Nat
opaque Config.cfgStore : Nat → Nat → Nat → Nat

/-- The same for the endpoint at function 1 of an upstream port (R350), but for its BAR0: a word that the host has not written, and what
a word holds after a write, by (word offset, old, written). -/
opaque Config.fn1Reset : Nat → Nat
opaque Config.fn1Store : Nat → Nat → Nat → Nat

/-- The same for function 2 of an FM port (R419), but for its two BARs. -/
opaque Config.fn2Reset : Nat → Nat
opaque Config.fn2Store : Nat → Nat → Nat → Nat

/-- The number that a queued command slot shows for a return code (Table 15.3): the standard's. -/
opaque Config.rcCode : Nat → Nat

/-- The capability header, and the global control register at reset, of the HDM Decoder Capability of the device or LD at (port, LD), as the
part's shadow shows them (R212): the standard's registers, with what the device implements. -/
opaque Config.hdmCap : Nat → Nat → Nat
opaque Config.hdmGlobal : Nat → Nat → Nat

/-- The TLP header, with its prefixes, of a CXL.io message that the part itself makes, as one number of 64 bytes (R183): by class,
source, destination, requester tag, byte address and bytes. The PCI Express formats are the standard's. -/
opaque Config.tlpHeader : Nat → Nat → Nat → Nat → Nat → Nat → Nat

/-- The SRAM address (R376) of a word of the Larder (0, by cell) or of the Loft (1, by entry). -/
opaque Config.sramAt : Nat → Nat → Nat

/-- The opcode field of the header of a message that the part itself makes (R182): by class and kind. The codes are the protocols' own,
which the spec does not restate. -/
opaque Config.opcodeOf : Nat → Nat → Nat

/-- The metadata field of a message header (Table 6.1) for a kind and a MetaValue, by number: the protocol's own encoding,
which the spec does not restate. -/
opaque Config.headerMeta : Nat → Nat → Nat

/-- The hash that places a stream on a site or on a crossbar port of a wide port (R173, R185). The spec gives no function. -/
opaque Config.streamHash : Nat → Nat

/-- The Larder cell of the header of the message with a number, on a die (R242): the allocator's, whose order is not defined. -/
opaque Config.headerCell : Nat → Option Nat → Nat

/-- KMAC256 (R463, R471): key, input, output bits, customisation string; bytes in and out. The spec names the standard and
does not restate it. -/
opaque Config.kmac256 : List Nat → List Nat → Nat → List Nat → List Nat

/-- KMACXOF256 (R475), as above. -/
opaque Config.kmacXof256 : List Nat → List Nat → Nat → List Nat → List Nat

/-- SHAKE256 of bytes, with the number of output bits (R461, R466); bytes out. The spec names the standard. -/
opaque Config.shake256 : List Nat → Nat → List Nat

/-- XMSS verification (R462, RFC 8391): public key, message, signature. -/
opaque Config.xmssVerify : List Nat → List Nat → List Nat → Bool

/-- XMSS signing (R468): device secret, index, message. -/
opaque Config.xmssSign : List Nat → Nat → List Nat → List Nat

/-- The public key (68 bytes) and the nodes at height 10 of the XMSS key that a device secret gives (R462, Table 17.2). -/
opaque Config.xmssPublic : List Nat → List Nat
opaque Config.xmssNodes : List Nat → List Nat

/-- The bytes of the boot ROM (R466). -/
opaque Config.bootRom : List Nat

/-- The endpoint UUID that a device_id gives (R495), and the MCTP versions supported, as the standard's reply lists them. -/
opaque Config.uuid : Nat → List Nat
opaque Config.mctpVersions : List Nat

end Sys2Proof
end

