-- ==== Sys2Proof/Syntax.lean ====
section
/-! DEFINITION. The commands of the block, one constructor for every row of spec/opcode_table.json, with the data each one
carries. What a command carries is what comes from outside the part at that event: a register write's value, a message, a
measurement, a partner's answer. -/

namespace Sys2Proof

/-- Who sends a register access (R476): a Warden core of a die, BAR2 of a Fabric Manager port, the management chain
(channel 4), or a tenant or hypervisor through function 1 of upstream port `v`, which holds the doorbell pages and the admin window of
its VCS (R350). -/
inductive Src where
  | warden (die : Fin 8)
  | fm (k : Fin 4)
  | chain
  | tenant (v : Fin 128)
  deriving DecidableEq, Repr

/-- Sources of a package reset (R529, Table 20.1). -/
inductive ResetSrc where
  | thermtrip | rail | refclk | pwrOk | sysRst | lifecycle | command
  deriving DecidableEq, Repr

/-- The rails of PD_PKG_STATUS rail_low, bit 0 to bit 7 (Table 2.17). -/
inductive Rail where
  | vddc | vdds | vddk | vdda | vddh | vddio | vddio33 | v12Bias
  deriving DecidableEq, Repr


/-- What a message asks or answers, by the standard's names (Table 1.5, R245 to R256). -/
inductive MKind where
  | memRd | memRdData | memInv | memInvNT | memSpecRd | memClnEvct
  | memWr | memWrPtl
  | biRspI | biRspS | biRspE | biConflict | biConflictAck
  | ndr | drs
  | biSnpInv | biSnpData | biSnpCur
  | cacheReq | cacheRsp | cacheData
  | ioMemRd | ioMemWr | ioCfg | ioMsg | ioCpl | ioUR
  | mgmt
  deriving DecidableEq, Repr

/-- MetaValue of a request (R245), or the state a completion grants (R248: Cmp, Cmp-S, Cmp-E). -/
inductive MetaV where
  | i | s | a | noOp
  deriving DecidableEq, Repr

/-- A message inside the part (R181, R182, Table 6.1). A request that enters on a host port carries its host physical
address in `addr` until it is decoded (R219). `data` is the payload, one number of 512 bits for each data cell. -/
structure Msg where
  tc : Nat
  kind : MKind
  dst : Nat := 0
  src : Nat := 0
  cells : Nat := 0
  poison : Bool := false
  relay : Bool := false
  copy : Nat := 0
  trkDie : Nat := 0
  trk : Nat := 0
  opcode : Nat := 0
  ld : Nat := 0
  /-- Address bits [51:6]. -/
  addr : Nat := 0
  /-- Address bits [5:0] of a TLP, which its header carries (R183). -/
  off : Nat := 0
  mv : MetaV := .i
  ptag : Nat := 0
  /-- BI-ID of a back-invalidate message (R224). -/
  biId : Nat := 0
  /-- BITag of a back-invalidate message (R252). -/
  biTag : Nat := 0
  /-- TLP attributes of TC0 to TC2 (R198): Relaxed Ordering, ID-Based Ordering, and the requester ID, or a completion's completer
  ID. -/
  ro : Bool := false
  ido : Bool := false
  req : Nat := 0
  /-- A TC9 or TC10 response is the final one of its request (R32). -/
  last : Bool := false
  /-- Bytes that a TLP read requests (R306), or that a TLP write carries. -/
  len : Nat := 0
  /-- Bus number of an ID-routed TLP (R223). -/
  bus : Nat := 0
  /-- The message is in port-based format (R225), with `pid` its DPID, or its SPID on the way out. -/
  pbr : Bool := false
  pid : Nat := 0
  /-- The die whose agent or tracker the message goes to before or instead of `dst` (R222, R264). -/
  via : Option Nat := none
  /-- No overlay or Loft lookup is made on the receiving die (R29, R290). -/
  noLook : Bool := false
  /-- The copy of a mirrored request has been chosen, and its agent has served it: neither is done again (R264, R269, R280). -/
  placed : Bool := false
  /-- `trk` is an overlay tag of `trkDie` (R293); `copy` 1 marks the copy to the new location. -/
  ovTag : Bool := false
  /-- A guarded rewrite of a line (R280 step 4). -/
  rewrite : Bool := false
  /-- The group that the message names, or of which it is a copy (R200). -/
  grp : Option Nat := none
  /-- The crossbar input by which it entered the die where it stands (R173). -/
  inp : Nat := 0
  data : List Nat := []
  deriving DecidableEq, Repr

/-- What the far side of an output cannot take at a match (R196): messages of a class of more than `cells` cells; at the data movers,
those for the engine `eng`, or for any. -/
structure NoRoom where
  out : Fin 32
  cls : Fin 12
  cells : Fin 11 := 0
  eng : Option (Fin 8) := none
  deriving DecidableEq, Repr

/-- The first data cell holds the protocol header extension (R183): in every message of TC0 to TC2 the TLP header, in a TC4
partial write the byte-enable mask. -/
def Msg.ext (m : Msg) : Bool := decide (m.tc ≤ 2) || m.kind == .memWrPtl


/-- Cells of a message in the Larder (R181). -/
def Msg.size (m : Msg) : Nat := 1 + m.cells



/-- What a read of a Larder cell finds wrong (R192): a corrected bit, or two bits in a data cell or in the header cell. -/
inductive CellErr where
  | single | data | header
  deriving DecidableEq, Repr

/-- An error met while a crossbar input reads the cells of its message (R192): its kind and the cell's address. -/
structure CellRead where
  input : Fin 32
  kind : CellErr
  cell : Fin 524288
  deriving DecidableEq, Repr

/-- What a lane's measurement gives (R95): the vertical and horizontal margins of each eye, one at NRZ rates and three at PAM4
rates, and the errors found on known symbols. -/
structure Meas where
  eyes : List (Nat × Nat)
  errors : Nat
  deriving DecidableEq, Repr

/-- What the partner offers at negotiation (R117, R118, Tables 4.12 and 4.13). -/
structure Offer where
  /-- Bit r: rate code r (Table 3.1). -/
  rates : Nat
  pcie : Bool
  cxl : Bool
  cache : Bool
  mem : Bool
  bi : Bool
  latOpt : Bool
  flit256 : Bool
  bypass : Bool
  noEq : Bool
  mld : Bool
  pbr : Bool
  reversed : Bool
  retimers : Fin 3
  clocking : Fin 3
  deriving DecidableEq, Repr

/-- Why a link in Up goes down (Table 4.7), as the part sees it from outside: 1, 2 or 3, or 4 from the slot controller. -/
inductive DownCause where
  | lost | partnerOff | perst | slotOff
  deriving DecidableEq, Repr


/-- What a partner asks of a lane's transmitter (R103): a preset, or cursors. -/
inductive TxAsk where
  | preset (k : Fin 16)
  | cursors (pre main post : Fin 64)
  deriving DecidableEq, Repr

/-- A margin run asked for (Table 3.21). -/
structure MarginAsk where
  lane : Fin 4
  voltage : Bool
  down : Bool
  steps : Fin 128
  limit : Fin 64
  deriving DecidableEq, Repr


/-- A receive map of a Casub direction (R168): its lanes, ascending, its width code and speed code (Table 5.12). -/
structure LaneMap where
  lanes : List Nat
  width : Nat
  speed : Nat
  epoch : Nat
  deriving DecidableEq, Repr

/-- What a CMD flit carries (R163, R168). -/
inductive FlitCmd where
  /-- The receiver's new map of the opposite direction (R168). -/
  | mapChange (m : LaneMap)
  /-- An audit of one class (R163). -/
  | audit (cls : Nat)
  /-- Its reply: free entries and cumulative returned counts of headers and of data; in XON/XOFF mode the free pool cells
  stand in `freeH`. -/
  | auditReply (cls freeH retH freeD retD : Nat)
  deriving DecidableEq, Repr

/-- The site that an exchange in Init names (R164), and, of a wiring error, the port whose own die-side logic the RAS unit locates as its source
(Table 13.4, reason 5), if it is one. -/
structure PeerSite where
  site : Fin 8
  source : Option (Fin 16) := none
  deriving DecidableEq, Repr

/-- Flit types (Table 5.3). -/
inductive FlitType where
  | null | data | cmd | replayReq
  deriving DecidableEq, Repr

/-- A Casub flit (R140, R141): its header fields; its fourteen slots of 128 bits; the messages that start in it and those
whose last slot it carries. In XON/XOFF mode `crCount` carries the mask as Table 5.3 places it. -/
structure Flit where
  type : FlitType
  seq : Nat := 0
  ack : Nat := 0
  slotStart : Nat := 0
  crKind : Nat := 0
  crClass : Nat := 0
  crCount : Nat := 0
  slots : List Nat := []
  starts : List Msg := []
  ends : List Msg := []
  cmd : Option FlitCmd := none
  deriving DecidableEq, Repr

/-- What a REPLAY_REQ flit carries beside its type (R145, R150, Table 5.3): its ack_seq and its credit field; in XON/XOFF mode `count`
carries the mask. -/
structure ReplayReq where
  ack : Fin 1024
  kind : Fin 2
  cls : Fin 12
  count : Fin 65536
  deriving DecidableEq, Repr

/-- How the master's count came to a die (R37): the site it came by, and the site of the relaying die towards die 0 if one
relayed it. -/
structure CountPath where
  site : Fin 7
  relay : Option (Fin 7)
  deriving DecidableEq, Repr

/-- A link that has come up: its quad, and whether the hold timer of its port expires in the same cycle (R131). -/
structure LinkUp where
  q : Fin 16
  expired : Bool
  deriving DecidableEq, Repr

/-- What re-evaluates the lanes of a site (R167). -/
inductive ReevalBy where
  | refresh | signal | squall | twice
  deriving DecidableEq, Repr


/-- State of a copy (Table 9.1). -/
inductive CopySt where
  | healthy | failed | resilvering
  deriving DecidableEq, Repr

/-- A copy-state message (R284): it names (port, LD), all LDs of a port, or a group's copy. -/
inductive CopyMsg where
  | failPort (port : Fin 128) (ld : Option (Fin 16)) (cause : Fin 8)
  | setCopy (grp : Fin 4096) (copy : Fin 2) (st : CopySt) (cause : Fin 8)
  deriving DecidableEq, Repr



/-- An access of a host to one decoder of a device's HDM Decoder Capability, answered from the shadow (R212), register by
register; its capability header and its global control register. Base, size and skip are in units of 256 MiB (R217). -/
inductive HdmAcc where
  | read
  | base (v : Fin 16777216)
  | size (v : Fin 16777216)
  | skip (v : Fin 16777216)
  /-- The control register: ways, granularity, back-invalidate enable (R239), Commit. -/
  | control (ways gran : Fin 16) (bi commit : Bool)
  | cap
  | globalCtl
  | setGlobal (v : BitVec 32)
  deriving DecidableEq, Repr

/-- What a host's configuration request is for (R223): its upstream port, the endpoint at function 1 beside it (R350), the Switch Mailbox
CCI at its function 2 (R419), vPPB `n`, or a device below a vPPB, by bus. -/
inductive CfgTo where
  | usp
  | fn1
  | fn2
  | vppb (n : Fin 256)
  | device (bus : Fin 256)
  deriving DecidableEq, Repr

/-- A host's configuration access: a word read or written, by word offset; or the two writes to the emulated PCI Express
capability that Table 7.4 waits for, Link Disable and the slot's Power Controller Control. -/
inductive CfgAcc where
  | read (word : Fin 1024)
  | write (word : Fin 1024) (val : BitVec 32)
  | linkDisable (on : Bool)
  | powerOff (off : Bool)
  /-- Reads, by what they show: the slot status of a vPPB (R210), the header of the upstream port's HDM Decoder Capability (R214)
  and one of its decoders (R215). -/
  | slotStatus
  | hdmCap
  | hdmDec (n : Fin 32)
  deriving DecidableEq, Repr

/-- Where a command came from (R419 to R421): the primary mailbox, a queued command slot, an MCTP requester with its message
tag, or the primary pair. -/
inductive CmdFrom where
  | mailbox
  | slot (n : Fin 256)
  | mctp (requester : Fin 256) (tag : Fin 8)
  | primary
  deriving DecidableEq, Repr

/-- What a device answers to a request that the Fabric Manager sent it: the standard's return code and bytes. -/
structure DevAnswer where
  rc : Nat
  bytes : List (BitVec 8)
  deriving DecidableEq, Repr


/-- What a migrate descriptor is told (R320): done, aborted, or a refusal with its code of Table 9.10. -/
inductive MigAnswer where
  | done
  | aborted
  | refused (code : Fin 16)
  deriving DecidableEq, Repr

/-- Where a queue's doorbell, cq_head, pause, resume or invalidate is written (R328, R351): at its own registers, or in slot `j`
of instance `i`'s doorbell page. -/
inductive QTo where
  | reg (q : Fin 2048)
  | page (i : Fin 512) (j : Fin 16)
  deriving DecidableEq, Repr



/-- What stands in an SRAM word with a double-bit error (R377): an entry of a table, a tracker entry with or without its host and
tag intact, a flit of a replay buffer, the state of a data-mover queue, a Loft entry (R260), or something that no rule names. -/
inductive SramHolds where
  | decoder (i : Fin 2048)
  | vppb (i : Fin 2048)
  | group (i : Fin 4096)
  | mirror (i : Fin 4096)
  | overlay (i : Fin 65536)
  | region (i : Fin 64)
  | pid (i : Fin 4096)
  | shaper (i : Fin 1024)
  | tracker (t : Fin 16384) (intact : Bool)
  | replay (site : Fin 7) (seq : Fin 1024)
  | queue (q : Fin 2048)
  | loft (i : Fin 1048576)
  | other
  deriving DecidableEq, Repr

/-- What the patrol scrub finds in the next word (R376): nothing, a single-bit error (in the Larder or not), a double-bit error;
with the word's SRAM address. -/
inductive ScrubHit where
  | clean
  | single (addr : Fin 4294967296) (larder : Bool)
  | double (addr : Fin 4294967296) (what : SramHolds)
  deriving DecidableEq, Repr



/-- One sample of a slot's inputs (R392): feeds, common node, VOUT and GATE in mV; ISP − ISN in 10 µV. -/
structure SlotSample where
  fa : Nat
  fb : Nat
  isp : Nat
  vout : Nat
  gate : Nat
  sense : Nat
  deriving DecidableEq, Repr



/-- One value that a section of an Inventory image holds (Table 16.1, R443): bits of a register; what no register shows; a table
entry, as its words. -/
inductive InvVal where
  | reg (addr : Fin 268435456) (mask val : BitVec 32)
  /-- Type 0x0001: REFCLK is spread; host port `p` is FM port `k`. -/
  | spread (on : Bool)
  | fmPort (k : Fin 4) (p : Fin 128)
  /-- Type 0x0004: the transmitter setting of a lane of a Casub site. -/
  | laneTx (d : Fin 8) (t : Fin 7) (lane : Fin 32) (v : BitVec 32)
  /-- Type 0x0005: a group's bifurcation code, a quad's use (0 host port, 1 class M, 2 class A), its rate limit and clocking. -/
  | bifur (d : Fin 8) (g : Fin 4) (code : Fin 8)
  | use (d : Fin 8) (q : Fin 16) (u : Fin 4)
  | rate (d : Fin 8) (q : Fin 16) (code : Fin 8)
  | clocking (d : Fin 8) (q : Fin 16) (c : Fin 4)
  /-- Type 0x0006: the VCS of a host port. -/
  | vcs (p : Fin 128) (first : Fin 1024) (count : Fin 512) (fmDecode pantryFn : Bool)
  /-- Type 0x0008: group, mirror, PID and shared-region entries, and the share bits of a port. -/
  | group (d : Fin 8) (i : Fin 4096) (w : List (BitVec 32))
  | mirror (d : Fin 8) (i : Fin 4096) (w : List (BitVec 32))
  | pid (d : Fin 8) (i : Fin 4096) (w : BitVec 32)
  | region (d : Fin 8) (i : Fin 64) (w : List (BitVec 32))
  | share (d : Fin 8) (q : Fin 16) (mask : Fin 65536)
  deriving DecidableEq, Repr

/-- An image as read from a flash slot (R441 to R445, R467): its bytes, and for each section of types 0x0001 to 0x0008 the values
that it holds. Eznil's listing places them in the section; the spec does not. -/
structure Image where
  raw : List (BitVec 8)
  vals : List (List InvVal)
  deriving DecidableEq, Repr

/-- What the flash's parameter table says (R538): the read modes it reports among 1-4-4, 1-1-4, 1-2-2, 1-1-2 and 1-1-1, each with
its dummy cycles; its size in bytes; its highest clock in kHz, when stated. -/
structure Sfdp where
  modes : List (Option Nat)
  bytes : Nat
  maxKhz : Option Nat
  deriving DecidableEq, Repr

/-- A chain frame as received (Table 18.1): its bytes after the SOF, the crc last. -/
structure ChFrame where
  bytes : List (BitVec 8)
  deriving DecidableEq, Repr

/-- One 32-bit access of an inbound request of the Hatch (R426, R427): its byte enables, and the word of a write. -/
structure HWord where
  be : Fin 16
  val : Option (BitVec 32)
  deriving DecidableEq, Repr

/-- How a transaction of an external bus ends (R434): well, with the bytes read; NACK; stretching beyond stretch_us; SDA low when
the bus should be idle. -/
inductive XEnd where
  | ok (bytes : List (BitVec 8))
  | nack
  | stretch
  | low
  deriving DecidableEq, Repr


/-- The commands (spec/opcode_table.json, row by row). -/
inductive Instr where
  /-- REGISTER_WRITE (R454). -/
  | registerWrite (src : Src) (addr : Fin 268435456) (val : BitVec 32)
  /-- PAIR_LOW_READ (R9). -/
  | pairLowRead (addr : Fin 268435456)
  /-- PAIR_HIGH_WRITE (R8). -/
  | pairHighWrite (src : Src) (addr : Fin 268435456) (val : BitVec 32)
  /-- ISLAND_POWER_ON (R525). -/
  | islandPowerOn (vaux : Bool)
  /-- ISLAND_SOURCE_CHANGE (R58). -/
  | islandSourceChange (toVaux : Bool)
  /-- PWR_OK_FALL (R56). -/
  | pwrOkFall
  /-- SYS_RST_ASSERT (R526). -/
  | sysRstAssert
  /-- RAIL_DIP (R55). -/
  | railDip (d : Fin 8) (rail : Rail)
  /-- RAIL_RECOVERED (R55). -/
  | railRecovered
  /-- V12_BIAS_LOW (R52). -/
  | v12BiasLow
  /-- REFCLK_LOSS (R75). -/
  | refclkLoss (d : Fin 8)
  /-- PACKAGE_RESET (R56). -/
  | packageReset (srcs : List ResetSrc)
  /-- PACKAGE_RESET_EXIT (R527). -/
  | packageResetExit (pwrLow fuseBad : Bool)
  /-- RESET_HOLD_EXPIRY (R527). -/
  | resetHoldExpiry
  /-- PLL_LOCK (R531). -/
  | pllLock
  /-- PLL_LOCK_TIMEOUT (R532). -/
  | pllLockTimeout
  /-- DIE_CHAIN_COMPLETE (R502). -/
  | dieChainComplete (number : Fin 16) (mask : Fin 256)
  /-- DIE_CHAIN_TIMEOUT (R502). -/
  | dieChainTimeout (mask : Fin 256)
  /-- STRONGROOM_SELFTEST (R465). -/
  | strongroomSelftest (pass : Bool)
  /-- STORE_RECORD_DURABLE (R461). -/
  | storeRecordDurable
  /-- INV_FLASH_DIRECTORY_READ (R538). -/
  | invFlashDirectoryRead (sfdp : Option Sfdp) (copy0 copy1 : List (BitVec 8))
  /-- INV_IMAGE_READ (R449). -/
  | invImageRead (got : Option Image)
  /-- INV_CHECKS (R446). -/
  | invChecks
  /-- INV_SECTIONS_APPLY (R449). -/
  | invSectionsApply
  /-- FIRMWARE_VERIFY (R467). -/
  | firmwareVerify (d : Fin 8) (img0 img1 : Option Image)
  /-- MASTER_COUNT_SEND (R37). -/
  | masterCountSend
  /-- MASTER_COUNT_RECEIVE (R38). -/
  | masterCountReceive (d : Fin 8) (count : Nat) (path : CountPath)
  /-- ALIGNMENT_TIMEOUT (R39). -/
  | alignmentTimeout (d : Fin 8)
  /-- THERMAL_SAMPLE (R77). -/
  | thermalSample (d : Fin 8) (temps : List Int)
  /-- POWER_MONITOR_UPDATE (R72). -/
  | powerMonitorUpdate (dies : List Nat) (pkg : Nat)
  /-- DOM_REQ_WRITE (R63). -/
  | domReqWrite (src : Src) (d : Fin 8) (v : Fin 4194304)
  /-- P1_REQ_WRITE (R63). -/
  | p1ReqWrite (src : Src) (on : Bool)
  /-- DOMAIN_POWERED (R65). -/
  | domainPowered (d : Fin 8) (k : Fin 24)
  /-- LULL_ENTRY (R67). -/
  | lullEntry (d : Fin 8) (k : Fin 23)
  /-- LULL_WAKE (R68). -/
  | lullWake (d : Fin 8) (k : Fin 23)
  /-- LULL_EXIT_DONE (R68). -/
  | lullExitDone (d : Fin 8) (k : Fin 23)
  /-- QUAD_EN_WRITE (R91). -/
  | quadEnWrite (src : Src) (d : Fin 8) (q : Fin 16) (en : Bool)
  /-- LANE_DETECT_PULSE (R91). -/
  | laneDetectPulse (d : Fin 8) (q : Fin 16) (l : Fin 4)
  /-- PARTNER_TERMINATION_SENSED (R91). -/
  | partnerTerminationSensed (d : Fin 8) (q : Fin 16) (l : Fin 4)
  /-- LANE_SYMBOL_LOCK (R91). -/
  | laneSymbolLock (d : Fin 8) (q : Fin 16) (l : Fin 4) (inverted : Bool)
  /-- EQ_EVALUATION_END (R101). -/
  | eqEvaluationEnd (d : Fin 8) (q : Fin 16) (l : Fin 4) (got : Option Meas)
  /-- EQ_BUDGET_EXPIRED (R101). -/
  | eqBudgetExpired (d : Fin 8) (q : Fin 16) (l : Fin 4)
  /-- LANE_LOCK_TIMEOUT (R91). -/
  | laneLockTimeout (d : Fin 8) (q : Fin 16) (l : Fin 4)
  /-- LANE_ALIGNMENT_FOUND (R91). -/
  | laneAlignmentFound (d : Fin 8) (q : Fin 16) (l : Fin 4)
  /-- EXCHANGE_DONE (R91). -/
  | exchangeDone (d : Fin 8) (q : Fin 16) (l : Fin 4) (accepted : Bool)
  /-- BAROMETER_REFRESH (R98). -/
  | barometerRefresh (d : Fin 8) (q : Fin 16) (l : Fin 4) (got : Meas)
  /-- LOSS_OF_SIGNAL (R91). -/
  | lossOfSignal (d : Fin 8) (q : Fin 16) (l : Fin 4)
  /-- FAR_END_LOOPBACK_REQUEST (R91). -/
  | farEndLoopbackRequest (d : Fin 8) (q : Fin 16) (l : Fin 4)
  /-- FAR_END_LOOPBACK_EXIT (R91). -/
  | farEndLoopbackExit (d : Fin 8) (q : Fin 16) (l : Fin 4)
  /-- LOOP_GO_WRITE (R106). -/
  | loopGoWrite (src : Src) (d : Fin 8) (q : Fin 16) (go : Bool)
  /-- COEFFICIENT_REQUEST (R103). -/
  | coefficientRequest (d : Fin 8) (q : Fin 16) (l : Fin 4) (ask : TxAsk)
  /-- CHECK_EN_RISE (R105). -/
  | checkEnRise (src : Src) (d : Fin 8) (q : Fin 16)
  /-- LANE_MARGIN_START (R109). -/
  | laneMarginStart (src : Src) (d : Fin 8) (q : Fin 16) (ask : MarginAsk)
  /-- PROTOCOL_MARGIN_REQUEST (R109). -/
  | protocolMarginRequest (d : Fin 8) (q : Fin 16) (ask : MarginAsk)
  /-- MARGIN_STEP_DONE (R108). -/
  | marginStepDone (d : Fin 8) (q : Fin 16) (l : Fin 4) (errors : Nat)
  /-- BARO_MIN_CLEAR (R111). -/
  | baroMinClear (src : Src) (d : Fin 8) (q : Fin 16) (l : Fin 4)
  /-- BARO_THR_WRITE (R99). -/
  | baroThrWrite (src : Src) (d : Fin 8) (q : Fin 16) (pam4 : Bool) (accept target degrade fail : Fin 256)
  /-- PORT_TRAINING_START (R127). -/
  | portTrainingStart (d : Fin 8) (q : Fin 16)
  /-- PROTOCOL_NEGOTIATION_END (R118). -/
  | protocolNegotiationEnd (d : Fin 8) (q : Fin 16) (offer : Offer)
  /-- NEG_FAIL_RETRY (R121). -/
  | negFailRetry (d : Fin 8) (q : Fin 16)
  /-- DL_ACTIVE (R127). -/
  | dlActive (d : Fin 8) (up : LinkUp)
  /-- IDENTITY_READ_DONE (R123). -/
  | identityReadDone (d : Fin 8) (q : Fin 16) (walk : List (Option (BitVec 64))) (caps : List Nat)
  /-- IDENTITY_READ_TIMEOUT (R123). -/
  | identityReadTimeout (d : Fin 8) (q : Fin 16)
  /-- LINK_DOWN (R128). -/
  | linkDown (d : Fin 8) (q : Fin 16) (cause : DownCause) (unacked : List Msg)
  /-- CELLAR_HOLD_EXPIRY (R131). -/
  | cellarHoldExpiry (d : Fin 8) (q : Fin 16)
  /-- FLUSH_NOW (R134). -/
  | flushNow (src : Src) (d : Fin 8) (q : Fin 16)
  /-- PT_RETRAIN (R137). -/
  | ptRetrain (src : Src) (d : Fin 8) (q : Fin 16) (unacked : List Msg)
  /-- PORT_EN_WRITE (R128). -/
  | portEnWrite (src : Src) (d : Fin 8) (q : Fin 16) (en : Bool)
  /-- L0P_WIDTH_CHANGE (R122). -/
  | l0pWidthChange (d : Fin 8) (q : Fin 16) (width : Fin 17)
  /-- HOST_PERST_ASSERT (R228). -/
  | hostPerstAssert (d : Fin 8) (q : Fin 16) (hotReset : Bool)
  /-- FLIT_SEND (R146). -/
  | flitSend (d : Fin 8) (t : Fin 7)
  /-- FLIT_RECEIVE (R148). -/
  | flitReceive (d : Fin 8) (t : Fin 7) (f : Flit) (e0 e1 : Nat)
  /-- REPLAY_REQ_RECEIVE (R150). -/
  | replayReqReceive (d : Fin 8) (t : Fin 7) (req : ReplayReq)
  /-- REPLAY_TIMEOUT (R152). -/
  | replayTimeout (d : Fin 8) (t : Fin 7)
  /-- ACK_TIMER (R151). -/
  | ackTimer (d : Fin 8) (t : Fin 7)
  /-- DROUGHT_SUSPICION (R162). -/
  | droughtSuspicion (d : Fin 8) (t : Fin 7) (c : Fin 12)
  /-- AUDIT_COMMAND_RECEIVE (R163). -/
  | auditCommandReceive (d : Fin 8) (t : Fin 7) (c : Fin 12)
  /-- AUDIT_REPLY_RECEIVE (R163). -/
  | auditReplyReceive (d : Fin 8) (t : Fin 7) (c : Fin 12) (freeH retH freeD retD : Fin 65536)
  /-- CASUB_BARO_REFRESH (R165). -/
  | casubBaroRefresh (d : Fin 8) (t : Fin 7) (got : List (Option Meas))
  /-- MAP_CHANGE_CMD_RECEIVE (R168). -/
  | mapChangeCmdReceive (d : Fin 8) (t : Fin 7) (map : LaneMap)
  /-- MARKER_RECEIVE (R169). -/
  | markerReceive (d : Fin 8) (t : Fin 7) (words : List (BitVec 64))
  /-- PERIODIC_MARKER (R170). -/
  | periodicMarker (d : Fin 8) (t : Fin 7)
  /-- SITE_EN_WRITE (R172). -/
  | siteEnWrite (src : Src) (d : Fin 8) (t : Fin 7) (en : Bool)
  /-- SITE_CALIBRATE_DONE (R172). -/
  | siteCalibrateDone (d : Fin 8) (t : Fin 7) (got : List (Option Meas))
  /-- SITE_CALIBRATE_TIMEOUT (R172). -/
  | siteCalibrateTimeout (d : Fin 8) (t : Fin 7)
  /-- SITE_ALIGN_FOUND (R172). -/
  | siteAlignFound (d : Fin 8) (t : Fin 7) (delay : Fin 65536)
  /-- SITE_ALIGN_TIMEOUT (R172). -/
  | siteAlignTimeout (d : Fin 8) (t : Fin 7)
  /-- SITE_INIT_EXCHANGE (R172). -/
  | siteInitExchange (d : Fin 8) (t : Fin 7) (peerDie : Fin 8) (peerSite : PeerSite) (adv : List Nat) (rxExp : Fin 1024)
  /-- SITE_INIT_TIMEOUT (R172). -/
  | siteInitTimeout (d : Fin 8) (t : Fin 7)
  /-- CL_RETRAIN (R172). -/
  | clRetrain (src : Src) (d : Fin 8) (t : Fin 7)
  /-- CL_RETIRE (R172). -/
  | clRetire (src : Src) (d : Fin 8) (t : Fin 7)
  /-- CL_REVIVE (R172). -/
  | clRevive (src : Src) (d : Fin 8) (t : Fin 7)
  /-- HOLD_US_EXPIRY (R174). -/
  | holdUsExpiry (d : Fin 8) (t : Fin 7)
  /-- HANDOVER_QUERY_RECEIVE (R175). -/
  | handoverQueryReceive (d : Fin 8) (t : Fin 7)
  /-- HANDOVER_REPLY_RECEIVE (R175). -/
  | handoverReplyReceive (d : Fin 8) (t : Fin 7) (rxExp : Fin 1024)
  /-- RELAY_RETURN (R177). -/
  | relayReturn (d : Fin 8) (t : Fin 7)
  /-- MESSAGE_ARRIVAL (R188). -/
  | messageArrival (d : Fin 8) (input : Fin 32) (m : Msg) (own : Option (Fin 128))
  /-- CROSSBAR_MATCH (R194). -/
  | crossbarMatch (d : Fin 8) (full : List NoRoom) (errs : List CellRead)
  /-- XB_GRP_READ (R205). -/
  | xbGrpRead (src : Src) (d : Fin 8) (index : Fin 4096)
  /-- XB_GRP_WRITE (R202). -/
  | xbGrpWrite (src : Src) (d : Fin 8) (index : Fin 4096)
  /-- XB_GRP_CLEAR (R205). -/
  | xbGrpClear (src : Src) (d : Fin 8) (index : Fin 4096)
  /-- XB_COMMIT (R207). -/
  | xbCommit (src : Src) (d : Fin 8)
  /-- XB_LARDER_MIN_CLEAR (R207). -/
  | xbLarderMinClear (src : Src) (d : Fin 8)
  /-- HDM_CONFIG_ACCESS (R212). -/
  | hdmConfigAccess (v : Fin 128) (n : Fin 256) (k : Fin 32) (acc : HdmAcc)
  /-- HOST_CONFIG_REQUEST (R223). -/
  | hostConfigRequest (v : Fin 128) (goal : CfgTo) (acc : CfgAcc)
  /-- HOST_DECODER_COMMIT (R217). -/
  | hostDecoderCommit (v : Fin 128) (n : Fin 32) (base size : Fin 16777216) (ways gran : Fin 16) (targets : List (Fin 256))
  /-- HOST_DECODER_COMMIT_CLEAR (R218). -/
  | hostDecoderCommitClear (v : Fin 128) (n : Fin 32)
  /-- BD_TBL_READ (R234). -/
  | bdTblRead (src : Src) (d : Fin 8) (table : Fin 4) (index : Fin 4096)
  /-- BD_TBL_WRITE (R217). -/
  | bdTblWrite (src : Src) (d : Fin 8) (table : Fin 4) (index : Fin 4096)
  /-- BD_TBL_CLEAR (R234). -/
  | bdTblClear (src : Src) (d : Fin 8) (table : Fin 4) (index : Fin 4096)
  /-- BD_SET_MIRROR (R221). -/
  | bdSetMirror (src : Src) (d : Fin 8) (table : Fin 4) (index : Fin 4096)
  /-- IDENTIFY_SWITCH_DEVICE (R231). -/
  | identifySwitchDevice (c : Fin 5)
  /-- GET_PHYSICAL_PORT_STATE (R231). -/
  | getPhysicalPortState (c : Fin 5) (ports : List (Fin 256))
  /-- PHYSICAL_PORT_CONTROL (R408). -/
  | physicalPortControl (c : Fin 5) (port act : Fin 256)
  /-- SEND_PPB_CONFIG_REQUEST (R231). -/
  | sendPpbConfigRequest (c : Fin 5) (port : Fin 256) (reg : Fin 1024) (put : Option (BitVec 32)) (got : DevAnswer)
  /-- GET_VIRTUAL_CXL_SWITCH_INFO (R231). -/
  | getVirtualCxlSwitchInfo (c : Fin 5) (vcss : List (Fin 256)) (start count : Fin 256)
  /-- BIND_VPPB (R228). -/
  | bindVppb (c : Fin 5) (vcs : Fin 256) (n : Fin 256) (port : Fin 256) (ld : Fin 65536)
  /-- VPPB_BINDING_DONE (R228). -/
  | vppbBindingDone (d : Fin 8) (slot : Fin 1024)
  /-- UNBIND_VPPB (R228). -/
  | unbindVppb (c : Fin 5) (vcs : Fin 256) (n : Fin 256) (option : Fin 256)
  /-- UNBIND_DRAIN_DONE (R228). -/
  | unbindDrainDone (d : Fin 8) (slot : Fin 1024)
  /-- UNBIND_TMO_EXPIRY (R228). -/
  | unbindTmoExpiry (d : Fin 8) (slot : Fin 1024)
  /-- GENERATE_AER_EVENT (R231). -/
  | generateAerEvent (c : Fin 5) (vcs : Fin 256) (n : Fin 256) (bytes : List (BitVec 8))
  /-- TUNNEL_MANAGEMENT_COMMAND (R226). -/
  | tunnelManagementCommand (c : Fin 5) (port : Fin 256) (ld : Option (Fin 16)) (opcode : Fin 65536) (bytes : List (BitVec 8)) (got : DevAnswer)
  /-- SEND_LD_CONFIG_REQUEST (R231). -/
  | sendLdConfigRequest (c : Fin 5) (port : Fin 256) (ld : Fin 65536) (reg : Fin 1024) (put : Option (BitVec 32)) (got : DevAnswer)
  /-- SEND_LD_MEMORY_REQUEST (R231). -/
  | sendLdMemoryRequest (c : Fin 5) (port : Fin 256) (ld : Fin 65536) (addr : BitVec 64) (len : Fin 4096) (put : Option (List (BitVec 8))) (got : DevAnswer)
  /-- MLD_COMPONENT_COMMAND (R226). -/
  | mldComponentCommand (c : Fin 5) (port : Fin 256) (bytes : List (BitVec 8)) (got : DevAnswer)
  /-- DCD_MANAGEMENT_COMMAND (R227). -/
  | dcdManagementCommand (c : Fin 5) (port : Fin 256) (ld : Option (Fin 16)) (bytes : List (BitVec 8)) (got : DevAnswer)
  /-- SET_LD_SHARE (R232). -/
  | setLdShare (c : Fin 5) (port : Fin 256) (ld : Fin 65536) (share : Bool)
  /-- GET_BINDING_TABLE (R231). -/
  | getBindingTable (c : Fin 5) (vcs : Fin 256)
  /-- UNSUPPORTED_OPCODE (R231). -/
  | unsupportedOpcode (c : Fin 5)
  /-- IDENTIFY (R544). -/
  | identify (c : Fin 5)
  /-- BACKGROUND_OPERATION_STATUS (R544). -/
  | backgroundOperationStatus (c : Fin 5)
  /-- GET_RESPONSE_MESSAGE_LIMIT (R544). -/
  | getResponseMessageLimit (c : Fin 5)
  /-- SET_RESPONSE_MESSAGE_LIMIT (R544). -/
  | setResponseMessageLimit (c : Fin 5) (n : Fin 256)
  /-- GET_FW_INFO (R544). -/
  | getFwInfo (c : Fin 5) (versions : List (Option Nat))
  /-- TRANSFER_FW (R540). -/
  | transferFw (c : Fin 5) (slot : Fin 256) (bytes : List (BitVec 8))
  /-- ACTIVATE_FW (R540). -/
  | activateFw (c : Fin 5) (slot : Fin 256)
  /-- AGENT_MESSAGE (R246). -/
  | agentMessage (d : Fin 8) (bad : Option (Fin 16 × Bool))
  /-- DEVICE_RESPONSE_PASS (R250). -/
  | deviceResponsePass (d : Fin 8) (trkDie : Fin 8) (trk : Fin 16384)
  /-- SNOOP_ISSUE (R252). -/
  | snoopIssue (d : Fin 8)
  /-- BIRSP_RECEIVE (R247). -/
  | birspReceive (d : Fin 8) (tag : Fin 4096) (v : Fin 128) (kind : MKind)
  /-- BIRSP_HOLD_RELEASE (R254). -/
  | birspHoldRelease (d : Fin 8)
  /-- BICONFLICT (R255). -/
  | biconflict (d : Fin 8) (v : Fin 128) (quad ld : Fin 16) (line : Fin 70368744177664) (tag : Fin 65536)
  /-- SNOOP_TIMEOUT (R256). -/
  | snoopTimeout (d : Fin 8) (tag : Fin 4096)
  /-- CA_TBL_READ (R268). -/
  | caTblRead (src : Src) (d : Fin 8) (table : Fin 4) (index : Fin 1048576)
  /-- CA_REGION_WRITE (R237). -/
  | caRegionWrite (src : Src) (d : Fin 8) (table : Fin 4) (index : Fin 1048576)
  /-- CA_REGION_CLEAR (R237). -/
  | caRegionClear (src : Src) (d : Fin 8) (table : Fin 4) (index : Fin 1048576)
  /-- CA_LOFT_LOOKUP (R268). -/
  | caLoftLookup (src : Src) (d : Fin 8) (table : Fin 4) (index : Fin 1048576)
  /-- LOFT_WALK_START (R263). -/
  | loftWalkStart (d : Fin 8)
  /-- LOFT_WALK_END (R263). -/
  | loftWalkEnd (d : Fin 8)
  /-- WRITE_COPY_NDR (R274). -/
  | writeCopyNdr (d : Fin 8) (trk : Fin 16384) (copy : Fin 2)
  /-- COPY_TMO_EXPIRY (R275). -/
  | copyTmoExpiry (d : Fin 8) (trk : Fin 16384) (copy : Fin 2)
  /-- MIRROR_READ_RETURN (R278). -/
  | mirrorReadReturn (d trkDie : Fin 8) (trk : Fin 16384)
  /-- POISONED_READ_REPAIR (R279). -/
  | poisonedReadRepair (d : Fin 8) (trk : Fin 16384) (data : Nat)
  /-- GUARD_ARM_REQUEST (R280). -/
  | guardArmRequest (d chooser : Fin 8) (grp : Fin 4096) (copy : Fin 2) (port : Fin 128) (ld : Fin 16) (lines : List Nat)
  /-- GUARD_ACK (R280). -/
  | guardAck (d : Fin 8) (grp : Fin 4096) (copy : Fin 2) (lines : List Nat)
  /-- PAIR_QUERY (R280). -/
  | pairQuery (d chooser : Fin 8) (grp : Fin 4096) (copy : Fin 2) (lines : List Nat)
  /-- PAIR_QUERY_ANSWERED (R280). -/
  | pairQueryAnswered (d : Fin 8) (grp : Fin 4096) (copy : Fin 2) (line : Nat)
  /-- GUARDED_REWRITE (R280). -/
  | guardedRewrite (d chooser : Fin 8) (grp : Fin 4096) (copy : Fin 2) (line : Nat) (poison : Bool) (data : Nat)
  /-- COPY_STATE_MESSAGE (R284). -/
  | copyStateMessage (d from_ : Fin 8) (m : CopyMsg)
  /-- MR_TBL_READ (R299). -/
  | mrTblRead (src : Src) (d : Fin 8) (index : Fin 4096)
  /-- MR_TBL_WRITE (R272). -/
  | mrTblWrite (src : Src) (d : Fin 8) (index : Fin 4096)
  /-- MR_TBL_CLEAR (R272). -/
  | mrTblClear (src : Src) (d : Fin 8) (index : Fin 4096)
  /-- MR_COPY_FAIL (R283). -/
  | mrCopyFail (src : Src) (d : Fin 8) (index : Fin 4096) (copy : Fin 2)
  /-- MR_COPY_RESILVER (R286). -/
  | mrCopyResilver (src : Src) (d : Fin 8) (index : Fin 4096) (copy : Fin 2)
  /-- MR_COPY_FORCE_HEALTHY (R285). -/
  | mrCopyForceHealthy (src : Src) (d : Fin 8) (index : Fin 4096) (copy : Fin 2)
  /-- MR_COPY_STOP_RESILVER (R288). -/
  | mrCopyStopResilver (src : Src) (d : Fin 8) (index : Fin 4096) (copy : Fin 2)
  /-- RESILVER_STATE_ACK (R287). -/
  | resilverStateAck (d : Fin 8)
  /-- RESILVER_BLOCK_DONE (R287). -/
  | resilverBlockDone (d : Fin 8) (line : Nat)
  /-- BLK_GAP_EXPIRY (R287). -/
  | blkGapExpiry (d : Fin 8)
  /-- OV_LOOKUP (R299). -/
  | ovLookup (src : Src) (d : Fin 8)
  /-- OV_START (R291). -/
  | ovStart (src : Src) (d : Fin 8)
  /-- OV_ABORT (R295). -/
  | ovAbort (src : Src) (d : Fin 8)
  /-- OV_CLEAR (R296). -/
  | ovClear (src : Src) (d : Fin 8)
  /-- LINE_COPY_READ_RETURN (R292). -/
  | lineCopyReadReturn (d : Fin 8) (slot line : Fin 64) (poison : Bool) (data : Nat)
  /-- LINE_COPY_DONE (R292). -/
  | lineCopyDone (d : Fin 8) (slot line : Fin 64)
  /-- MIGRATION_DRAINED (R294). -/
  | migrationDrained (d : Fin 8) (slot : Fin 64)
  /-- DUAL_WRITE_NDR (R293). -/
  | dualWriteNdr (d : Fin 8) (tag : Fin 1024) (newCopy : Bool)
  /-- STARVE_PROMOTION (R302). -/
  | starvePromotion (d : Fin 8) (o : Fin 16) (e : Fin 9)
  /-- SC_COMMIT (R304). -/
  | scCommit (src : Src) (d : Fin 8)
  /-- WHEEL_SLOT (R311). -/
  | wheelSlot (d : Fin 8)
  /-- SC_SHP_READ (R316). -/
  | scShpRead (src : Src) (d : Fin 8) (index : Fin 1024)
  /-- SC_SHP_WRITE (R312). -/
  | scShpWrite (src : Src) (d : Fin 8) (index : Fin 1024) (tokReset : Fin 4)
  /-- SC_SHP_CLEAR (R313). -/
  | scShpClear (src : Src) (d : Fin 8) (index : Fin 1024) (tokReset : Fin 4)
  /-- SHAPER_WRITE_EFFECT (R312). -/
  | shaperWriteEffect (d : Fin 8)
  /-- POLICER_CREDIT_RETURN (R309). -/
  | policerCreditReturn (d : Fin 8) (q : Fin 16) (c : Fin 12)
  /-- DM_DOORBELL (R328). -/
  | dmDoorbell (src : Src) (d : Fin 8) (q : QTo)
  /-- SCAN_READ_RETURN (R329). -/
  | scanReadReturn (d : Fin 8) (tag : Fin 65536) (line : Nat) (poison : Bool)
  /-- ENGINE_ARBITRATION (R343). -/
  | engineArbitration (d e : Fin 8)
  /-- DM_LINE_RESPONSE (R318). -/
  | dmLineResponse (d : Fin 8) (tag : Fin 65536) (line : Nat) (poison : Bool)
  /-- DESCRIPTOR_RETIRE (R333). -/
  | descriptorRetire (d : Fin 8) (q : Fin 2048)
  /-- MIGRATE_REPLY (R320). -/
  | migrateReply (d : Fin 8) (tag : Fin 65536) (answer : MigAnswer)
  /-- LINK_REREAD_RETURN (R331). -/
  | linkRereadReturn (d : Fin 8) (tag : Fin 65536) (line : Nat) (poison : Bool)
  /-- DM_Q_ENABLE (R342). -/
  | dmQEnable (src : Src) (d : Fin 8) (q : Fin 2048)
  /-- DM_Q_DISABLE (R341). -/
  | dmQDisable (src : Src) (d : Fin 8) (q : Fin 2048)
  /-- DM_Q_PAUSE (R330). -/
  | dmQPause (src : Src) (d : Fin 8) (q : QTo)
  /-- DM_Q_UNPAUSE (R341). -/
  | dmQUnpause (src : Src) (d : Fin 8) (q : QTo)
  /-- DM_Q_RESUME (R340). -/
  | dmQResume (src : Src) (d : Fin 8) (q : QTo)
  /-- DM_Q_INVALIDATE (R330). -/
  | dmQInvalidate (src : Src) (d : Fin 8) (q : QTo)
  /-- CQ_HEAD_WRITE (R337). -/
  | cqHeadWrite (src : Src) (d : Fin 8) (q : QTo) (v : BitVec 32)
  /-- PN_READ_ENTRY (R353). -/
  | pnReadEntry (src : Src) (d : Fin 8) (chan : Fin 17) (i : Fin 512)
  /-- PN_CREATE (R348). -/
  | pnCreate (src : Src) (d : Fin 8) (chan : Fin 17) (i : Fin 512)
  /-- PN_REMOVE (R355). -/
  | pnRemove (src : Src) (d : Fin 8) (chan : Fin 17) (i : Fin 512)
  /-- PN_RESET (R355). -/
  | pnReset (src : Src) (d : Fin 8) (chan : Fin 17) (i : Fin 512)
  /-- PN_SET_QUEUE (R354). -/
  | pnSetQueue (src : Src) (d : Fin 8) (chan : Fin 17) (i : Fin 512) (j : Fin 16)
  /-- PN_SET_SHAPER (R353). -/
  | pnSetShaper (src : Src) (d : Fin 8) (chan : Fin 17) (i : Fin 512) (j : Fin 16) (tokReset : Fin 4)
  /-- PN_SET_COUNTER (R511). -/
  | pnSetCounter (src : Src) (d : Fin 8) (chan : Fin 17) (i : Fin 512) (k : Fin 16)
  /-- PN_FREEZE (R357). -/
  | pnFreeze (src : Src) (d : Fin 8) (chan : Fin 17) (i : Fin 512)
  /-- FREEZE_COMPLETE (R357). -/
  | freezeComplete (d : Fin 8) (i : Fin 512)
  /-- FREEZE_TMO_EXPIRY (R357). -/
  | freezeTmoExpiry (d : Fin 8) (i : Fin 512)
  /-- PN_SAVE (R358). -/
  | pnSave (src : Src) (d : Fin 8) (chan : Fin 17) (i : Fin 512)
  /-- PN_RESTORE (R359). -/
  | pnRestore (src : Src) (d : Fin 8) (chan : Fin 17) (i : Fin 512)
  /-- PN_THAW (R360). -/
  | pnThaw (src : Src) (d : Fin 8) (chan : Fin 17) (i : Fin 512)
  /-- STALE_OUT_ZERO (R355). -/
  | staleOutZero (d : Fin 8) (i : Fin 512)
  /-- FENCE_CMD (R373). -/
  | fenceCmd (src : Src) (d : Fin 8) (q : Fin 16)
  /-- UNFENCE_CMD (R374). -/
  | unfenceCmd (src : Src) (d : Fin 8) (q : Fin 16)
  /-- SCRUB_STEP (R376). -/
  | scrubStep (d : Fin 8) (hit : ScrubHit)
  /-- WATCHDOG_KICK (R382). -/
  | watchdogKick (src : Src) (d : Fin 8) (v : BitVec 32)
  /-- WATCHDOG_EXPIRY (R382). -/
  | watchdogExpiry (d : Fin 8)
  /-- SLOT_EN_WRITE (R397). -/
  | slotEnWrite (src : Src) (d : Fin 8) (q : Fin 16) (en : Bool)
  /-- PRSNT_FALL (R397). -/
  | prsntFall (d : Fin 8) (q : Fin 16)
  /-- PRESENCE_CONFIRMED (R395). -/
  | presenceConfirmed (d : Fin 8) (q : Fin 16)
  /-- PRSNT_RISE (R396). -/
  | prsntRise (d : Fin 8) (q : Fin 16)
  /-- SLOT_POWER_WRITE (R397). -/
  | slotPowerWrite (src : Src) (d : Fin 8) (q : Fin 16) (on : Bool)
  /-- RAMP_SHORT_CHECK (R398). -/
  | rampShortCheck (d : Fin 8) (q : Fin 16) (vout : Nat)
  /-- GATE_CHECK (R398). -/
  | gateCheck (d : Fin 8) (q : Fin 16) (gate : Nat)
  /-- RAMP_COMPLETE (R398). -/
  | rampComplete (d : Fin 8) (q : Fin 16) (gate vout : Nat) (feedsHigh : Bool)
  /-- RAMP_TIMEOUT (R398). -/
  | rampTimeout (d : Fin 8) (q : Fin 16)
  /-- FAULT_TIMER_EXPIRY (R399). -/
  | faultTimerExpiry (d : Fin 8) (q : Fin 16)
  /-- FAST_TRIP (R400). -/
  | fastTrip (d : Fin 8) (q : Fin 16) (sense : Nat)
  /-- OUTPUT_UNDER_VOLTAGE (R401). -/
  | outputUnderVoltage (d : Fin 8) (q : Fin 16)
  /-- PGOOD_LOST (R401). -/
  | pgoodLost (d : Fin 8) (q : Fin 16)
  /-- RETRY_TIMER_END (R397). -/
  | retryTimerEnd (d : Fin 8) (q : Fin 16)
  /-- SLOT_UNLOCK (R397). -/
  | slotUnlock (src : Src) (d : Fin 8) (q : Fin 16)
  /-- FEED_GOOD (R393). -/
  | feedGood (d : Fin 8) (q : Fin 16) (feed : Fin 2)
  /-- FEED_LOST (R394). -/
  | feedLost (d : Fin 8) (q : Fin 16) (feed : Fin 2) (high : Bool)
  /-- REVERSE_CURRENT (R394). -/
  | reverseCurrent (d : Fin 8) (q : Fin 16) (feed : Fin 2)
  /-- ORING_REENABLE (R394). -/
  | oringReenable (d : Fin 8) (q : Fin 16) (feed : Fin 2)
  /-- SLOT_SAMPLE (R392). -/
  | slotSample (d : Fin 8) (q : Fin 16) (got : SlotSample)
  /-- FET_TEMP_SAMPLE (R404). -/
  | fetTempSample (d : Fin 8) (q : Fin 16) (got : Int)
  /-- SLOT_MEASUREMENT_UPDATE (R392). -/
  | slotMeasurementUpdate (d : Fin 8) (q : Fin 16)
  /-- FORECAST_ASSERT (R406). -/
  | forecastAssert (d : Fin 8) (q : Fin 16)
  /-- FORECAST_CLEAR (R405). -/
  | forecastClear (d : Fin 8) (q : Fin 16)
  /-- PERST_RELEASE_TIMER (R408). -/
  | perstReleaseTimer (d : Fin 8) (q : Fin 16)
  /-- PERST_HOLD_WRITE (R408). -/
  | perstHoldWrite (src : Src) (d : Fin 8) (q : Fin 16) (hold : Bool)
  /-- FC_LEAD_EXPIRY (R409). -/
  | fcLeadExpiry (d : Fin 8) (q : Fin 16)
  /-- GATE_OFF_DELAY (R409). -/
  | gateOffDelay (d : Fin 8) (q : Fin 16)
  /-- STOPPING_END (R397). -/
  | stoppingEnd (d : Fin 8) (q : Fin 16)
  /-- COMMAND_ACCEPT (R416). -/
  | commandAccept (d : Fin 8) (c : Fin 6) (opcode : Fin 65536) (payload : List (BitVec 8)) (requester : Fin 256) (tag : Fin 8)
  /-- COMMAND_START (R417). -/
  | commandStart (d : Fin 8)
  /-- MB_QDOORBELL (R420). -/
  | mbQdoorbell (k : Fin 4) (n : Fin 256) (wrote : Option (Fin 65536 × List (BitVec 8)))
  /-- HATCH_INBOUND_ACCESS (R424). -/
  | hatchInboundAccess (d : Fin 8) (fm : Fin 4) (tag : Fin 1024) (addr : Fin 268435456) (words : List HWord) (conflict : Option (Fin 8))
  /-- HATCH_ACCESS_DONE (R428). -/
  | hatchAccessDone (d : Fin 8)
  /-- DELAYED_READ_START (R429). -/
  | delayedReadStart (src : Src) (d : Fin 8) (k : Fin 8) (space : Bool) (addr : Fin 268435456)
  /-- DELAYED_READ_DATA (R429). -/
  | delayedReadData (d : Fin 8) (k : Fin 8) (words : List (BitVec 32))
  /-- DELAYED_READ_COLLECT (R429). -/
  | delayedReadCollect (d : Fin 8) (k : Fin 8)
  /-- DR_TMO_EXPIRY (R429). -/
  | drTmoExpiry (d : Fin 8) (k : Fin 8)
  /-- PF_TMO_EXPIRY (R432). -/
  | pfTmoExpiry (d : Fin 8)
  /-- XBUS_TRANSACTION_END (R434). -/
  | xbusTransactionEnd (d : Fin 8) (g : Fin 4) (how : XEnd)
  /-- XBUS_RECOVERY (R435). -/
  | xbusRecovery (d : Fin 8) (g : Fin 4) (sdaHigh : Bool)
  /-- OVERCAST_UPDATE (R423). -/
  | overcastUpdate (d : Fin 8) (load0 load1 : Fin 101)
  /-- INVENTORY_CONTROL (R451). -/
  | inventoryControl (c : Fin 5) (op : Fin 4) (slot : Fin 2)
  /-- INV_VERIFY (R452). -/
  | invVerify (got : Option Image)
  /-- INV_APPLY (R451). -/
  | invApply (got : Option Image)
  /-- INV_ARM (R452). -/
  | invArm (got : Option Image)
  /-- GET_IDENTITY (R470). -/
  | getIdentity (c : Fin 5)
  /-- GET_ATTESTATION_REPORT (R470). -/
  | getAttestationReport (c : Fin 5)
  /-- OPEN_REGISTER_SESSION (R477). -/
  | openRegisterSession (c : Fin 5)
  /-- CLOSE_REGISTER_SESSION (R477). -/
  | closeRegisterSession (c : Fin 5)
  /-- SESSION_EXPIRY (R477). -/
  | sessionExpiry (c : Fin 5)
  /-- GET_COUNTER (R474). -/
  | getCounter (c : Fin 5)
  /-- GET_NONCE (R479). -/
  | getNonce (c : Fin 5)
  /-- NONCE_EXPIRY (R479). -/
  | nonceExpiry
  /-- SUBMIT_TOKEN (R479). -/
  | submitToken (c : Fin 5)
  /-- TRANSITION_RESET_TIMER (R481). -/
  | transitionResetTimer
  /-- TAKE_OWNERSHIP (R480). -/
  | takeOwnership (c : Fin 5)
  /-- ROTATE_COMMAND_ROOT (R475). -/
  | rotateCommandRoot (c : Fin 5)
  /-- RELEASE_RESERVATION (R469). -/
  | releaseReservation (c : Fin 5)
  /-- TAP_PROVISION_MAKER (R480). -/
  | tapProvisionMaker (secret : List (BitVec 8)) (id : BitVec 64) (keys : List (List (BitVec 8))) (cert : List (BitVec 8))
  /-- LOCKOUT_EXPIRY (R472). -/
  | lockoutExpiry (c : Fin 5)
  /-- CHAIN_FRAME_RECEIVE (R492). -/
  | chainFrameReceive (f : ChFrame)
  /-- CHAIN_FRAME_FORWARD (R493). -/
  | chainFrameForward
  /-- STOCKTAKE (R497). -/
  | stocktake
  /-- CHAIN_BREAK (R498). -/
  | chainBreak
  /-- NOTICE_SEND (R498). -/
  | noticeSend
  /-- MCTP_PACKET (R494). -/
  | mctpPacket
  /-- SET_ENDPOINT_ID (R494). -/
  | setEndpointId
  /-- GET_ENDPOINT_ID (R495). -/
  | getEndpointId
  /-- GET_ENDPOINT_UUID (R495). -/
  | getEndpointUuid
  /-- GET_MCTP_VERSION_SUPPORT (R495). -/
  | getMctpVersionSupport
  /-- GET_MESSAGE_TYPE_SUPPORT (R495). -/
  | getMessageTypeSupport
  /-- REG_ACCESS_READ (R496). -/
  | regAccessRead
  /-- REG_ACCESS_WRITE (R496). -/
  | regAccessWrite
  /-- COUNTER_EVT_WRITE (R508). -/
  | counterEvtWrite (src : Src) (d : Fin 8) (k : Fin 512) (val : BitVec 32)
  /-- COUNTER_CAPTURE_READ (R512). -/
  | counterCaptureRead (d : Fin 8) (k : Fin 512)
  /-- COUNTER_WRAP (R510). -/
  | counterWrap (d : Fin 8) (k : Fin 512)
  /-- FROST_ARM_ALL (R514). -/
  | frostArmAll (src : Src) (d : Fin 8)
  /-- FROST_ARM_DIE (R514). -/
  | frostArmDie (src : Src) (d : Fin 8)
  /-- FROST_CANCEL (R516). -/
  | frostCancel (src : Src) (d : Fin 8)
  /-- FROST_ARM_RECEIVE (R514). -/
  | frostArmReceive (d : Fin 8) (target : Nat)
  /-- FROST_ACK_RECEIVE (R514). -/
  | frostAckReceive (d : Fin 8)
  /-- FROST_SNAP (R515). -/
  | frostSnap (d : Fin 8)
  /-- ATTIC_EN_WRITE (R521). -/
  | atticEnWrite (src : Src) (d : Fin 8) (val : BitVec 32)
  /-- ATTIC_TAIL_WRITE (R520). -/
  | atticTailWrite (src : Src) (d : Fin 8) (val : BitVec 32)
  /-- CK_RST_PACKAGE (R527). -/
  | ckRstPackage (src : Src) (key : Fin 256)
  /-- CK_RST_DELAY_EXPIRY (R527). -/
  | ckRstDelayExpiry
  /-- CK_RST_WARDEN (R528). -/
  | ckRstWarden (src : Src) (key : Fin 256) (die : Fin 8)
  /-- V12_BIAS_VALID (R397). -/
  | v12BiasValid
  /-- CASUB_LANE_SIGNAL_LOSS (R167). -/
  | casubLaneSignalLoss (d : Fin 8) (t : Fin 7) (n : Fin 34)
  /-- VIRAL_INDICATION (R375). -/
  | viralIndication (d : Fin 8) (q : Fin 16)
  /-- ISLAND_POWER_LOSS (R58). -/
  | islandPowerLoss
  deriving DecidableEq, Repr

end Sys2Proof
end

