-- ==== Sys2Proof/Machine/Table.lean ====
section
/-! DEFINITION. Sparse tables: lists of (key, value) pairs with strictly rising keys. A table with a default lists no
entry equal to the default, so that equal tables are equal data. -/

namespace Sys2Proof.Machine

/-- A sparse table keyed by numbers. -/
abbrev Tbl (α : Type) := List (Nat × α)

variable {α : Type}

/-- The entry at `k`, if listed. -/
def Tbl.get : Tbl α → Nat → Option α
  | [], _ => none
  | (k', v) :: t, k => if k' = k then some v else if k < k' then none else Tbl.get t k

/-- The entry at `k`, or `d` when `k` is not listed. -/
def Tbl.getD (t : Tbl α) (k : Nat) (d : α) : α := (Tbl.get t k).getD d

/-- List `v` at `k`. -/
def Tbl.put : Tbl α → Nat → α → Tbl α
  | [], k, v => [(k, v)]
  | (k', v') :: t, k, v =>
    if k < k' then (k, v) :: (k', v') :: t
    else if k' = k then (k, v) :: t
    else (k', v') :: Tbl.put t k v

/-- Take `k` off the list. -/
def Tbl.del : Tbl α → Nat → Tbl α
  | [], _ => []
  | (k', v') :: t, k => if k' = k then t else if k < k' then (k', v') :: t else (k', v') :: Tbl.del t k

/-- Write `v` at `k` in a table whose unlisted keys read as `d`. -/
def Tbl.set [DecidableEq α] (t : Tbl α) (k : Nat) (v d : α) : Tbl α :=
  if v = d then Tbl.del t k else Tbl.put t k v

/-- Change the entry at `k` of a table whose unlisted keys read as `d`. -/
def Tbl.mod [DecidableEq α] (t : Tbl α) (k : Nat) (d : α) (f : α → α) : Tbl α :=
  Tbl.set t k (f (Tbl.getD t k d)) d

/-- Every key of the list is above `k`, and the keys rise strictly. -/
def Tbl.above : Nat → Tbl α → Bool
  | _, [] => true
  | k, (k', _) :: t => decide (k < k') && Tbl.above k' t

/-- The canonical form: strictly rising keys. -/
def Tbl.wf : Tbl α → Bool
  | [] => true
  | (k, _) :: t => Tbl.above k t

/-- The listed values that `p` holds of, with their keys, in rising order of key. -/
def Tbl.filter (t : Tbl α) (p : Nat → α → Bool) : Tbl α := List.filter (fun e => p e.1 e.2) t

/-- Drop every listed entry that `p` holds of. -/
def Tbl.drop (t : Tbl α) (p : Nat → α → Bool) : Tbl α := List.filter (fun e => !p e.1 e.2) t

/-- The smallest number below `n` that is not a listed key. -/
def Tbl.free (t : Tbl α) (n : Nat) : Option Nat := (upTo n).find? (fun k => (Tbl.get t k).isNone)

/-- The lowest number from `k` on that is not a key, in a table of rising keys. -/
def Tbl.lowest : Tbl α → Nat → Nat
  | [], k => k
  | (k', _) :: t, k => if k' < k then Tbl.lowest t k else if k' = k then Tbl.lowest t (k + 1) else k

/-- The first entry, in rising order of key, that `p` holds of. -/
def Tbl.find (t : Tbl α) (p : Nat → α → Bool) : Option (Nat × α) := List.find? (fun e => p e.1 e.2) t

/-- One key for a pair of numbers (Cantor's pairing, so that different pairs have different keys). -/
def key2 (a b : Nat) : Nat := Nat.pair a b

/-- One key for three numbers. -/
def key3 (a b c : Nat) : Nat := Nat.pair a (Nat.pair b c)

end Sys2Proof.Machine
end

