-- ==== Sys2Proof/Machine/Regs.lean ====
section
/-! DEFINITION. The registers of the part, one constructor for every register the spec's register tables give, with the
place of each in its block (R42 to R44 and the block chapters' offsets). -/

namespace Sys2Proof.Machine

/-- The blocks of the register space (Tables 1.15 and 1.16). `pkg` is the package block; the others repeat on every die.
`pnc` is a Pantry channel window: unit 0 the die channel, unit 1 + q the admin channel of the VCS at quad q (R353). -/
inductive Blk where
  | pkg | die | lq | pt | cl | xb | sc | bd | ca | mr | dmq | dme | pnc | pn | rs | sp | pm | mb
  deriving DecidableEq, Repr

/-- The registers, by the spec's names. -/
inductive Reg where
  /-- 00_scope.md R5, Table 0.2. -/
  | LC_PART_ID
  /-- 01_architecture.md R40, Table 1.9. -/
  | CK_FTIME_LO
  /-- 01_architecture.md R40, Table 1.10. -/
  | CK_FTIME_HI
  /-- 01_architecture.md R40, Table 1.11. -/
  | CK_FTIME_STATUS
  /-- 01_architecture.md R40, Table 1.9. -/
  | CK_DIE_FTIME_LO
  /-- 01_architecture.md R40, Table 1.10. -/
  | CK_DIE_FTIME_HI
  /-- 02_package_power_electrical.md R71, Table 2.10. -/
  | PD_DOM_REQ
  /-- 02_package_power_electrical.md R71, Table 2.11. -/
  | PD_DOM_LULL_EN
  /-- 02_package_power_electrical.md R71, Table 2.12. -/
  | PD_DOM_STATE0
  /-- 02_package_power_electrical.md R71, Table 2.13. -/
  | PD_DOM_STATE1
  /-- 02_package_power_electrical.md R71, Table 2.14. -/
  | PD_DOM_REFUSED
  /-- 02_package_power_electrical.md R71, Table 2.15. -/
  | PD_LULL_IDLE
  /-- 02_package_power_electrical.md R72, Table 2.16. -/
  | PD_PKG_CTRL
  /-- 02_package_power_electrical.md R72, Table 2.17. -/
  | PD_PKG_STATUS
  /-- 02_package_power_electrical.md R72, Table 2.18. -/
  | PD_PKG_POWER
  /-- 02_package_power_electrical.md R80, Table 2.22. -/
  | TM_TEMP_n
  /-- 02_package_power_electrical.md R80, Table 2.23. -/
  | TM_TEMP_MAX
  /-- 02_package_power_electrical.md R80, Table 2.24. -/
  | TM_LIMITS
  /-- 02_package_power_electrical.md R80, Table 2.25. -/
  | TM_STATUS
  /-- 02_package_power_electrical.md R80, Table 2.26. -/
  | TM_DIE_POWER
  /-- 03_lane_quads.md R111, Table 3.10. -/
  | LQ_CTRL
  /-- 03_lane_quads.md R111, Table 3.11. -/
  | LQ_STATUS
  /-- 03_lane_quads.md R111, Table 3.12. -/
  | LQ_EQ_CTRL
  /-- 03_lane_quads.md R111, Table 3.13. -/
  | LQ_EQ_BUDGET
  /-- 03_lane_quads.md R111, Table 3.14. -/
  | LQ_BARO_THR_NRZ
  /-- 03_lane_quads.md R111, Table 3.14. -/
  | LQ_BARO_THR_PAM4
  /-- 03_lane_quads.md R111, Table 3.15. -/
  | LQ_BARO_n
  /-- 03_lane_quads.md R111, Table 3.16. -/
  | LQ_EQ_RESULT_n
  /-- 03_lane_quads.md R111, Table 3.17. -/
  | LQ_TX_n
  /-- 03_lane_quads.md R111, Table 3.18. -/
  | LQ_LOOP
  /-- 03_lane_quads.md R111, Table 3.19. -/
  | LQ_PATTERN
  /-- 03_lane_quads.md R111, Table 3.20. -/
  | LQ_PAT_ERR_n
  /-- 03_lane_quads.md R111, Table 3.21. -/
  | LQ_MARGIN_CTRL
  /-- 03_lane_quads.md R111, Table 3.21. -/
  | LQ_MARGIN_STATUS
  /-- 03_lane_quads.md R111, Table 3.22. -/
  | LQ_EVENT
  /-- 04_ports_negotiation.md R137, Table 4.10. -/
  | PT_CTRL
  /-- 04_ports_negotiation.md R137, Table 4.11. -/
  | PT_STATUS
  /-- 04_ports_negotiation.md R137, Table 4.12. -/
  | PT_NEG_LINK
  /-- 04_ports_negotiation.md R137, Table 4.13. -/
  | PT_NEG_PROTO
  /-- 04_ports_negotiation.md R137, Table 4.14. -/
  | PT_PARTNER_SN_LO
  /-- 04_ports_negotiation.md R137, Table 4.15. -/
  | PT_PARTNER_SN_HI
  /-- 04_ports_negotiation.md R137, Table 4.16. -/
  | PT_IDENT
  /-- 04_ports_negotiation.md R137, Table 4.17. -/
  | PT_CELLAR_CTRL
  /-- 04_ports_negotiation.md R137, Table 4.18. -/
  | PT_CELLAR_STATUS
  /-- 04_ports_negotiation.md R137, Table 4.19. -/
  | PT_CELLAR_COUNT
  /-- 04_ports_negotiation.md R137, Table 4.20. -/
  | PT_FLUSH_DETAIL
  /-- 04_ports_negotiation.md R137, Table 4.21. -/
  | PT_EVENT
  /-- 05_casub_links.md R180, Table 5.11. -/
  | CL_CTRL
  /-- 05_casub_links.md R180, Table 5.12. -/
  | CL_STATUS
  /-- 05_casub_links.md R180, Table 5.13. -/
  | CL_PEER
  /-- 05_casub_links.md R180, Table 5.14. -/
  | CL_PATH_DELAY
  /-- 05_casub_links.md R180, Table 5.15. -/
  | CL_BARO_THR
  /-- 05_casub_links.md R180, Table 5.16. -/
  | CL_REPLAY
  /-- 05_casub_links.md R180, Table 5.17. -/
  | CL_SEQ
  /-- 05_casub_links.md R180, Table 5.18. -/
  | CL_CNT_FEC
  /-- 05_casub_links.md R180, Table 5.18. -/
  | CL_CNT_CRC
  /-- 05_casub_links.md R180, Table 5.18. -/
  | CL_CNT_MISC
  /-- 05_casub_links.md R180, Table 5.19. -/
  | CL_DROUGHT
  /-- 05_casub_links.md R180, Table 5.20. -/
  | CL_XOFF
  /-- 05_casub_links.md R180, Table 5.20. -/
  | CL_XOFF_CTRL
  /-- 05_casub_links.md R180, Table 5.21. -/
  | CL_CREDIT_ADV_c
  /-- 05_casub_links.md R180, Table 5.22. -/
  | CL_CREDIT_AVAIL_c
  /-- 05_casub_links.md R180, Table 5.23. -/
  | CL_BARO_n
  /-- 05_casub_links.md R180, Table 5.23. -/
  | CL_EVENT
  /-- 06_switch_core.md R207, Table 6.6. -/
  | XB_CTRL
  /-- 06_switch_core.md R207, Table 6.7. -/
  | XB_IN_STALL
  /-- 06_switch_core.md R207, Table 6.8. -/
  | XB_LARDER_FREE
  /-- 06_switch_core.md R207, Table 6.8. -/
  | XB_LARDER_MIN
  /-- 06_switch_core.md R207, Table 6.9. -/
  | XB_IN_CAP
  /-- 06_switch_core.md R207, Table 6.9. -/
  | XB_RESP_RESERVE
  /-- 06_switch_core.md R207, Table 6.9. -/
  | XB_CELLAR_TOTAL
  /-- 06_switch_core.md R207, Table 6.10. -/
  | XB_CELLAR_USED
  /-- 06_switch_core.md R207, Table 6.11. -/
  | XB_PART_FLOORS
  /-- 06_switch_core.md R207, Table 6.11. -/
  | XB_PART_CASUB
  /-- 06_switch_core.md R207, Table 6.11. -/
  | XB_PART_RELAY
  /-- 06_switch_core.md R207, Table 6.11. -/
  | XB_PART_SHARED
  /-- 06_switch_core.md R207, Table 6.12. -/
  | XB_FLOOR_c
  /-- 06_switch_core.md R207, Table 6.13. -/
  | XB_GRP_CMD
  /-- 06_switch_core.md R207, Table 6.13. -/
  | XB_GRP_DATAw
  /-- 06_switch_core.md R207, Table 6.14. -/
  | XB_CNT_STALL
  /-- 06_switch_core.md R207, Table 6.14. -/
  | XB_CNT_MCAST_DROP
  /-- 06_switch_core.md R207, Table 6.14. -/
  | XB_CNT_ECC
  /-- 06_switch_core.md R207, Table 6.14. -/
  | XB_CNT_ERR
  /-- 06_switch_core.md R207, Table 6.15. -/
  | XB_ECC_LOG
  /-- 06_switch_core.md R207, Table 6.15. -/
  | XB_EVENT
  /-- 07_binding_routing.md R234, Table 7.10. -/
  | BD_STATUS
  /-- 07_binding_routing.md R234, Table 7.10. -/
  | BD_UNBIND_TMO
  /-- 07_binding_routing.md R234, Table 7.11. -/
  | BD_TBL_CMD
  /-- 07_binding_routing.md R234, Table 7.11. -/
  | BD_TBL_DATAw
  /-- 07_binding_routing.md R234, Table 7.12. -/
  | BD_LD_SHARE_q
  /-- 07_binding_routing.md R234, Table 7.13. -/
  | BD_CNT_MISS
  /-- 07_binding_routing.md R234, Table 7.13. -/
  | BD_CNT_MISC
  /-- 07_binding_routing.md R234, Table 7.13. -/
  | BD_MISS_LOG_LO
  /-- 07_binding_routing.md R234, Table 7.13. -/
  | BD_MISS_LOG_HI
  /-- 07_binding_routing.md R234, Table 7.13. -/
  | BD_EVENT
  /-- 08_coherence_agent.md R268, Table 8.11. -/
  | CA_CTRL
  /-- 08_coherence_agent.md R268, Table 8.11. -/
  | CA_STATUS
  /-- 08_coherence_agent.md R268, Table 8.11. -/
  | CA_SNOOP_TMO
  /-- 08_coherence_agent.md R268, Table 8.12. -/
  | CA_TBL_CMD
  /-- 08_coherence_agent.md R268, Table 8.12. -/
  | CA_TBL_DATAw
  /-- 08_coherence_agent.md R268, Table 8.13. -/
  | CA_OCCUPANCY
  /-- 08_coherence_agent.md R268, Table 8.13. -/
  | CA_CNT_LOOKUP
  /-- 08_coherence_agent.md R268, Table 8.14. -/
  | CA_CNT_SNOOP
  /-- 08_coherence_agent.md R268, Table 8.14. -/
  | CA_CNT_EVICT
  /-- 08_coherence_agent.md R268, Table 8.15. -/
  | CA_CNT_MISC
  /-- 08_coherence_agent.md R268, Table 8.15. -/
  | CA_CNT_MISC2
  /-- 08_coherence_agent.md R268, Table 8.16. -/
  | CA_LOST_LOG_LO
  /-- 08_coherence_agent.md R268, Table 8.16. -/
  | CA_LOST_LOG_HI
  /-- 08_coherence_agent.md R268, Table 8.17. -/
  | CA_EVENT
  /-- 09_mirroring_overlay.md R299, Table 9.9. -/
  | MR_CTRL
  /-- 09_mirroring_overlay.md R299, Table 9.9. -/
  | MR_STATUS
  /-- 09_mirroring_overlay.md R299, Table 9.9. -/
  | MR_TMO
  /-- 09_mirroring_overlay.md R299, Table 9.9. -/
  | MR_TBL_CMD
  /-- 09_mirroring_overlay.md R299, Table 9.9. -/
  | MR_TBL_DATAw
  /-- 09_mirroring_overlay.md R299, Table 9.9. -/
  | MR_COPY_CMD
  /-- 09_mirroring_overlay.md R299, Table 9.9. -/
  | MR_RESILVER
  /-- 09_mirroring_overlay.md R299, Table 9.9. -/
  | MR_CNT_REPAIR
  /-- 09_mirroring_overlay.md R299, Table 9.9. -/
  | MR_CNT_MISC
  /-- 09_mirroring_overlay.md R299, Table 9.9. -/
  | MR_CNT_FAIL
  /-- 09_mirroring_overlay.md R299, Table 9.9. -/
  | MR_LOG
  /-- 09_mirroring_overlay.md R299, Table 9.9. -/
  | MR_EVENT
  /-- 09_mirroring_overlay.md R299, Table 9.11. -/
  | OV_CTRL
  /-- 09_mirroring_overlay.md R299, Table 9.11. -/
  | OV_STATUS
  /-- 09_mirroring_overlay.md R299, Table 9.11. -/
  | OV_CMD
  /-- 09_mirroring_overlay.md R299, Table 9.11. -/
  | OV_DATA0
  /-- 09_mirroring_overlay.md R299, Table 9.11. -/
  | OV_DATA1
  /-- 09_mirroring_overlay.md R299, Table 9.11. -/
  | OV_DATA2
  /-- 09_mirroring_overlay.md R299, Table 9.11. -/
  | OV_DATA3
  /-- 09_mirroring_overlay.md R299, Table 9.11. -/
  | OV_DATA4_7
  /-- 09_mirroring_overlay.md R299, Table 9.11. -/
  | OV_CNT_MIG
  /-- 09_mirroring_overlay.md R299, Table 9.11. -/
  | OV_CNT_MISC
  /-- 09_mirroring_overlay.md R299, Table 9.11. -/
  | OV_SLOT_s
  /-- 09_mirroring_overlay.md R299, Table 9.11. -/
  | OV_EVENT
  /-- 10_scheduling_qos.md R316, Table 10.7. -/
  | SC_CTRL
  /-- 10_scheduling_qos.md R316, Table 10.7. -/
  | SC_STATUS
  /-- 10_scheduling_qos.md R316, Table 10.7. -/
  | SC_SHP_CMD
  /-- 10_scheduling_qos.md R316, Table 10.7. -/
  | SC_SHP_DATAw
  /-- 10_scheduling_qos.md R316, Table 10.8. -/
  | SC_CNT_SPILL
  /-- 10_scheduling_qos.md R316, Table 10.8. -/
  | SC_CNT_MISC
  /-- 10_scheduling_qos.md R316, Table 10.8. -/
  | SC_EVENT
  /-- 10_scheduling_qos.md R316, Table 10.6. -/
  | SC_ARB_PRIO_q
  /-- 10_scheduling_qos.md R316, Table 10.6. -/
  | SC_ARB_WGT0_q
  /-- 10_scheduling_qos.md R316, Table 10.6. -/
  | SC_ARB_WGT1_q
  /-- 10_scheduling_qos.md R316, Table 10.6. -/
  | SC_ARB_WGT2_q
  /-- 10_scheduling_qos.md R316, Table 10.6. -/
  | SC_ARB_STARVE_q
  /-- 11_data_movers_queues.md R346, Table 11.9. -/
  | DM_Q_CTRL
  /-- 11_data_movers_queues.md R346, Table 11.9. -/
  | DM_Q_CFG
  /-- 11_data_movers_queues.md R346, Table 11.9. -/
  | DM_Q_BASE_LO
  /-- 11_data_movers_queues.md R346, Table 11.9. -/
  | DM_Q_BASE_HI
  /-- 11_data_movers_queues.md R346, Table 11.9. -/
  | DM_Q_CQ_BASE_LO
  /-- 11_data_movers_queues.md R346, Table 11.9. -/
  | DM_Q_CQ_BASE_HI
  /-- 11_data_movers_queues.md R346, Table 11.9. -/
  | DM_Q_CQ_CFG
  /-- 11_data_movers_queues.md R346, Table 11.9. -/
  | DM_Q_CQ_HEAD
  /-- 11_data_movers_queues.md R346, Table 11.9. -/
  | DM_Q_DOORBELL
  /-- 11_data_movers_queues.md R346, Table 11.9. -/
  | DM_Q_INVALIDATE
  /-- 11_data_movers_queues.md R346, Table 11.9. -/
  | DM_Q_STATUS
  /-- 11_data_movers_queues.md R346, Table 11.9. -/
  | DM_Q_POS
  /-- 11_data_movers_queues.md R346, Table 11.9. -/
  | DM_Q_CQ_TAIL
  /-- 11_data_movers_queues.md R346, Table 11.9. -/
  | DM_Q_INT_ADDR_LO
  /-- 11_data_movers_queues.md R346, Table 11.9. -/
  | DM_Q_INT_ADDR_HI
  /-- 11_data_movers_queues.md R346, Table 11.9. -/
  | DM_Q_INT_DATA
  /-- 11_data_movers_queues.md R346, Table 11.10. -/
  | DM_ENG_CTRL
  /-- 11_data_movers_queues.md R346, Table 11.10. -/
  | DM_ENG_STATUS
  /-- 11_data_movers_queues.md R346, Table 11.10. -/
  | DM_ENG_BYTES_LO
  /-- 11_data_movers_queues.md R346, Table 11.10. -/
  | DM_ENG_BYTES_HI
  /-- 11_data_movers_queues.md R346, Table 11.10. -/
  | DM_ENG_CNT_DESC
  /-- 11_data_movers_queues.md R346, Table 11.10. -/
  | DM_EVENT
  /-- 11_data_movers_queues.md R346, Table 11.10. -/
  | DM_HALT_LOG
  /-- 11_data_movers_queues.md R346, Table 11.10. -/
  | DM_REFUSE_LOG
  /-- 11_data_movers_queues.md R346, Table 11.10. -/
  | DM_CNT_MISC
  /-- 12_pantry_instances.md R365, Table 12.6. -/
  | PN_CMD
  /-- 12_pantry_instances.md R365, Table 12.6. -/
  | PN_RESULT
  /-- 12_pantry_instances.md R365, Table 12.6. -/
  | PN_DATAw
  /-- 12_pantry_instances.md R365, Table 12.6. -/
  | PN_BLOB_w
  /-- 12_pantry_instances.md R365, Table 12.8. -/
  | PN_STATUS
  /-- 12_pantry_instances.md R365, Table 12.8. -/
  | PN_FREE
  /-- 12_pantry_instances.md R365, Table 12.8. -/
  | PN_FREEZE_TMO
  /-- 12_pantry_instances.md R365, Table 12.8. -/
  | PN_CNT_STALE
  /-- 12_pantry_instances.md R365, Table 12.8. -/
  | PN_CNT_MISC
  /-- 12_pantry_instances.md R365, Table 12.8. -/
  | PN_EVENT
  /-- 13_recovery_guarantee.md R389, Table 13.11. -/
  | RS_CTRL
  /-- 13_recovery_guarantee.md R389, Table 13.11. -/
  | RS_STATUS
  /-- 13_recovery_guarantee.md R389, Table 13.11. -/
  | RS_ALERT_MASK
  /-- 13_recovery_guarantee.md R389, Table 13.11. -/
  | RS_LOG_HEAD
  /-- 13_recovery_guarantee.md R389, Table 13.11. -/
  | RS_LOG_TAIL
  /-- 13_recovery_guarantee.md R389, Table 13.11. -/
  | RS_CNT_CLASS
  /-- 13_recovery_guarantee.md R389, Table 13.11. -/
  | RS_CNT_SRAM
  /-- 13_recovery_guarantee.md R389, Table 13.12. -/
  | RS_FENCE_CMD
  /-- 13_recovery_guarantee.md R389, Table 13.12. -/
  | RS_FENCE_STATUS
  /-- 13_recovery_guarantee.md R389, Table 13.11. -/
  | RS_SCRUB
  /-- 13_recovery_guarantee.md R389, Table 13.12. -/
  | RS_LOST_LOG_LO
  /-- 13_recovery_guarantee.md R389, Table 13.12. -/
  | RS_LOST_LOG_HI
  /-- 13_recovery_guarantee.md R389, Table 13.13. -/
  | RS_WDOG_CTRL
  /-- 13_recovery_guarantee.md R389, Table 13.13. -/
  | RS_WDOG_KICK
  /-- 13_recovery_guarantee.md R389, Table 13.13. -/
  | RS_WDOG_STATUS
  /-- 13_recovery_guarantee.md R389, Table 13.13. -/
  | RS_EVENT
  /-- 13_recovery_guarantee.md R389, Table 13.11. -/
  | RS_LOG_r
  /-- 14_slot_power.md R412, Table 14.9. -/
  | SP_CTRL
  /-- 14_slot_power.md R412, Table 14.10. -/
  | SP_STATUS
  /-- 14_slot_power.md R412, Table 14.9. -/
  | SP_SHUNT_LIM
  /-- 14_slot_power.md R412, Table 14.9. -/
  | SP_RAMP
  /-- 14_slot_power.md R412, Table 14.9. -/
  | SP_TIMERS
  /-- 14_slot_power.md R412, Table 14.9. -/
  | SP_THRESH
  /-- 14_slot_power.md R412, Table 14.9. -/
  | SP_FET_MODEL
  /-- 14_slot_power.md R412, Table 14.9. -/
  | SP_FET_LIMIT
  /-- 14_slot_power.md R412, Table 14.10. -/
  | SP_MEAS_FEED
  /-- 14_slot_power.md R412, Table 14.10. -/
  | SP_MEAS_OUT
  /-- 14_slot_power.md R412, Table 14.10. -/
  | SP_MEAS_I
  /-- 14_slot_power.md R412, Table 14.10. -/
  | SP_MEAS_T
  /-- 14_slot_power.md R412, Table 14.10. -/
  | SP_COUNT
  /-- 14_slot_power.md R412, Table 14.10. -/
  | SP_FAULT_LOG
  /-- 14_slot_power.md R412, Table 14.10. -/
  | SP_EVENT
  /-- 19_performance_monitor.md R524, Table 19.6. -/
  | PM_STATUS
  /-- 19_performance_monitor.md R524, Table 19.6. -/
  | PM_FROST_CTRL
  /-- 19_performance_monitor.md R524, Table 19.6. -/
  | PM_FROST_STATUS
  /-- 19_performance_monitor.md R524, Table 19.6. -/
  | PM_FROST_AT_LO
  /-- 19_performance_monitor.md R524, Table 19.6. -/
  | PM_FROST_AT_HI
  /-- 19_performance_monitor.md R524, Table 19.6. -/
  | PM_FROST_TIME_LO
  /-- 19_performance_monitor.md R524, Table 19.6. -/
  | PM_FROST_TIME_HI
  /-- 19_performance_monitor.md R524, Table 19.7. -/
  | PM_ATTIC_CTRL
  /-- 19_performance_monitor.md R524, Table 19.7. -/
  | PM_ATTIC_FILT
  /-- 19_performance_monitor.md R524, Table 19.7. -/
  | PM_ATTIC_AMATCH
  /-- 19_performance_monitor.md R524, Table 19.7. -/
  | PM_ATTIC_AMASK
  /-- 19_performance_monitor.md R524, Table 19.7. -/
  | PM_ATTIC_LAT_MIN
  /-- 19_performance_monitor.md R524, Table 19.7. -/
  | PM_ATTIC_HEAD
  /-- 19_performance_monitor.md R524, Table 19.7. -/
  | PM_ATTIC_TAIL
  /-- 19_performance_monitor.md R524, Table 19.7. -/
  | PM_ATTIC_STATUS
  /-- 19_performance_monitor.md R524, Table 19.6. -/
  | PM_EVENT
  /-- 19_performance_monitor.md R524, Table 19.6. -/
  | PM_CNT_MISC
  /-- 19_performance_monitor.md R524, Table 19.6. -/
  | PM_OVF_j
  /-- 19_performance_monitor.md R524, Table 19.5. -/
  | EVT
  /-- 19_performance_monitor.md R524, Table 19.5. -/
  | OWN
  /-- 19_performance_monitor.md R524, Table 19.5. -/
  | CNT_LO
  /-- 19_performance_monitor.md R524, Table 19.5. -/
  | CNT_HI
  /-- 19_performance_monitor.md R524, Table 19.5. -/
  | STAMP_LO
  /-- 19_performance_monitor.md R524, Table 19.5. -/
  | STAMP_HI
  /-- 19_performance_monitor.md R524, Table 19.5. -/
  | SHADOW_LO
  /-- 19_performance_monitor.md R524, Table 19.5. -/
  | SHADOW_HI
  /-- 19_performance_monitor.md R524, Table 19.4. -/
  | PM_ATTIC_REC
  /-- 15_warden_hatch.md R438, Table 15.6. -/
  | MB_STATUS
  /-- 15_warden_hatch.md R438, Table 15.6. -/
  | MB_OVERCAST
  /-- 15_warden_hatch.md R438, Table 15.6. -/
  | MB_OVERCAST_AGE
  /-- 15_warden_hatch.md R438, Table 15.6. -/
  | MB_CCI_CTRL
  /-- 15_warden_hatch.md R438, Table 15.6. -/
  | MB_CHAN_c
  /-- 15_warden_hatch.md R438, Table 15.7. -/
  | MB_HATCH_CTRL
  /-- 15_warden_hatch.md R438, Table 15.7. -/
  | MB_HATCH_CNT0
  /-- 15_warden_hatch.md R438, Table 15.7. -/
  | MB_HATCH_CNT1
  /-- 15_warden_hatch.md R438, Table 15.9. -/
  | MB_EVENT
  /-- 15_warden_hatch.md R438, Table 15.8. -/
  | MB_DM_INT_k
  /-- 15_warden_hatch.md R438, Table 15.8. -/
  | MB_DM_INT_SUM_LO
  /-- 15_warden_hatch.md R438, Table 15.8. -/
  | MB_DM_INT_SUM_HI
  /-- 15_warden_hatch.md R438, Table 15.7. -/
  | MB_RANGE_r_word0
  /-- 15_warden_hatch.md R438, Table 15.7. -/
  | MB_RANGE_r_word1
  /-- 15_warden_hatch.md R438, Table 15.9. -/
  | MB_XBUS_CTRL_g
  /-- 15_warden_hatch.md R438, Table 15.9. -/
  | MB_XBUS_STATUS_g
  /-- 15_warden_hatch.md R438, Table 15.8. -/
  | MB_DR_CMD_s
  /-- 15_warden_hatch.md R438, Table 15.8. -/
  | MB_DR_DATA_s
  /-- 15_warden_hatch.md R438, Table 15.8. -/
  | MB_DR_DADDR_s_LO
  /-- 15_warden_hatch.md R438, Table 15.8. -/
  | MB_DR_DADDR_s_HI
  /-- 16_inventory.md R459, Table 16.12. -/
  | INV_STATUS
  /-- 16_inventory.md R459, Table 16.12. -/
  | INV_VERSION
  /-- 16_inventory.md R459, Table 16.12. -/
  | INV_FLOOR
  /-- 16_inventory.md R459, Table 16.12. -/
  | INV_BUILD_i
  /-- 16_inventory.md R459, Table 16.12. -/
  | INV_CMD
  /-- 16_inventory.md R459, Table 16.12. -/
  | INV_RESULT
  /-- 16_inventory.md R459, Table 16.12. -/
  | INV_CHANGES
  /-- 16_inventory.md R459, Table 16.12. -/
  | INV_IGNORED_CNT
  /-- 16_inventory.md R459, Table 16.12. -/
  | INV_IGNORED_LOG
  /-- 16_inventory.md R459, Table 16.12. -/
  | INV_EVENT
  /-- 17_strongroom_lifecycle.md R484, Table 17.15. -/
  | LC_STATE
  /-- 17_strongroom_lifecycle.md R484, Table 17.15. -/
  | LC_DEVICE_ID_LO
  /-- 17_strongroom_lifecycle.md R484, Table 17.15. -/
  | LC_DEVICE_ID_HI
  /-- 17_strongroom_lifecycle.md R484, Table 17.15. -/
  | SEC_STATUS
  /-- 17_strongroom_lifecycle.md R484, Table 17.15. -/
  | SEC_XMSS_NEXT
  /-- 17_strongroom_lifecycle.md R484, Table 17.15. -/
  | SEC_XMSS_RESERVE
  /-- 17_strongroom_lifecycle.md R484, Table 17.15. -/
  | SEC_STORE
  /-- 17_strongroom_lifecycle.md R484, Table 17.16. -/
  | SEC_CTR_c_LO
  /-- 17_strongroom_lifecycle.md R484, Table 17.16. -/
  | SEC_CTR_c_HI
  /-- 17_strongroom_lifecycle.md R484, Table 17.16. -/
  | SEC_SESSION_c
  /-- 17_strongroom_lifecycle.md R484, Table 17.16. -/
  | SEC_CNT_AUTH
  /-- 17_strongroom_lifecycle.md R484, Table 17.16. -/
  | SEC_MEAS_m_w
  /-- 17_strongroom_lifecycle.md R484, Table 17.16. -/
  | SEC_KEYS
  /-- 17_strongroom_lifecycle.md R484, Table 17.16. -/
  | SEC_EVENT
  /-- 18_chain_stocktake.md R504, Table 18.5. -/
  | CH_STATUS
  /-- 18_chain_stocktake.md R504, Table 18.5. -/
  | CH_CNT
  /-- 18_chain_stocktake.md R504, Table 18.5. -/
  | CH_CNT_ERR
  /-- 18_chain_stocktake.md R504, Table 18.5. -/
  | CH_DIE
  /-- 18_chain_stocktake.md R504, Table 18.5. -/
  | CH_EVENT
  /-- 20_startup.md R542, Table 20.7. -/
  | CK_RESET_CAUSE
  /-- 20_startup.md R542, Table 20.8. -/
  | CK_BOOT_STATUS
  /-- 20_startup.md R542, Table 20.9. -/
  | CK_RST_CMD
  deriving DecidableEq, Repr

/-- Where a register stands: its block, the offset of its first word, the distance between repeats and how many there are. -/
structure RegInfo where
  blk : Blk
  off : Nat
  stride : Nat
  count : Nat

/-- The place of each register in its block. -/
def Reg.info : Reg → RegInfo
  | .LC_PART_ID => ⟨.pkg, 0x0, 0, 1⟩
  | .CK_FTIME_LO => ⟨.pkg, 0x40000, 0, 1⟩
  | .CK_FTIME_HI => ⟨.pkg, 0x40004, 0, 1⟩
  | .CK_FTIME_STATUS => ⟨.pkg, 0x40008, 0, 1⟩
  | .CK_DIE_FTIME_LO => ⟨.die, 0x40, 0, 1⟩
  | .CK_DIE_FTIME_HI => ⟨.die, 0x44, 0, 1⟩
  | .PD_DOM_REQ => ⟨.die, 0x100, 0, 1⟩
  | .PD_DOM_LULL_EN => ⟨.die, 0x104, 0, 1⟩
  | .PD_DOM_STATE0 => ⟨.die, 0x108, 0, 1⟩
  | .PD_DOM_STATE1 => ⟨.die, 0x10C, 0, 1⟩
  | .PD_DOM_REFUSED => ⟨.die, 0x110, 0, 1⟩
  | .PD_LULL_IDLE => ⟨.die, 0x114, 0, 1⟩
  | .PD_PKG_CTRL => ⟨.pkg, 0x50000, 0, 1⟩
  | .PD_PKG_STATUS => ⟨.pkg, 0x50004, 0, 1⟩
  | .PD_PKG_POWER => ⟨.pkg, 0x50008, 0, 1⟩
  | .TM_TEMP_n => ⟨.die, 0x210, 4, 8⟩
  | .TM_TEMP_MAX => ⟨.die, 0x200, 0, 1⟩
  | .TM_LIMITS => ⟨.die, 0x204, 0, 1⟩
  | .TM_STATUS => ⟨.die, 0x208, 0, 1⟩
  | .TM_DIE_POWER => ⟨.die, 0x20C, 0, 1⟩
  | .LQ_CTRL => ⟨.lq, 0x0, 0, 1⟩
  | .LQ_STATUS => ⟨.lq, 0x4, 0, 1⟩
  | .LQ_EQ_CTRL => ⟨.lq, 0x8, 0, 1⟩
  | .LQ_EQ_BUDGET => ⟨.lq, 0xC, 0, 1⟩
  | .LQ_BARO_THR_NRZ => ⟨.lq, 0x10, 0, 1⟩
  | .LQ_BARO_THR_PAM4 => ⟨.lq, 0x14, 0, 1⟩
  | .LQ_BARO_n => ⟨.lq, 0x20, 4, 4⟩
  | .LQ_EQ_RESULT_n => ⟨.lq, 0x30, 4, 4⟩
  | .LQ_TX_n => ⟨.lq, 0x40, 4, 4⟩
  | .LQ_LOOP => ⟨.lq, 0x50, 0, 1⟩
  | .LQ_PATTERN => ⟨.lq, 0x54, 0, 1⟩
  | .LQ_PAT_ERR_n => ⟨.lq, 0x60, 4, 4⟩
  | .LQ_MARGIN_CTRL => ⟨.lq, 0x70, 0, 1⟩
  | .LQ_MARGIN_STATUS => ⟨.lq, 0x74, 0, 1⟩
  | .LQ_EVENT => ⟨.lq, 0x80, 0, 1⟩
  | .PT_CTRL => ⟨.pt, 0x0, 0, 1⟩
  | .PT_STATUS => ⟨.pt, 0x4, 0, 1⟩
  | .PT_NEG_LINK => ⟨.pt, 0x10, 0, 1⟩
  | .PT_NEG_PROTO => ⟨.pt, 0x14, 0, 1⟩
  | .PT_PARTNER_SN_LO => ⟨.pt, 0x20, 0, 1⟩
  | .PT_PARTNER_SN_HI => ⟨.pt, 0x24, 0, 1⟩
  | .PT_IDENT => ⟨.pt, 0x28, 0, 1⟩
  | .PT_CELLAR_CTRL => ⟨.pt, 0x40, 0, 1⟩
  | .PT_CELLAR_STATUS => ⟨.pt, 0x44, 0, 1⟩
  | .PT_CELLAR_COUNT => ⟨.pt, 0x48, 0, 1⟩
  | .PT_FLUSH_DETAIL => ⟨.pt, 0x4C, 0, 1⟩
  | .PT_EVENT => ⟨.pt, 0x80, 0, 1⟩
  | .CL_CTRL => ⟨.cl, 0x0, 0, 1⟩
  | .CL_STATUS => ⟨.cl, 0x4, 0, 1⟩
  | .CL_PEER => ⟨.cl, 0x8, 0, 1⟩
  | .CL_PATH_DELAY => ⟨.cl, 0xC, 0, 1⟩
  | .CL_BARO_THR => ⟨.cl, 0x10, 0, 1⟩
  | .CL_REPLAY => ⟨.cl, 0x14, 0, 1⟩
  | .CL_SEQ => ⟨.cl, 0x18, 0, 1⟩
  | .CL_CNT_FEC => ⟨.cl, 0x20, 0, 1⟩
  | .CL_CNT_CRC => ⟨.cl, 0x24, 0, 1⟩
  | .CL_CNT_MISC => ⟨.cl, 0x28, 0, 1⟩
  | .CL_DROUGHT => ⟨.cl, 0x30, 0, 1⟩
  | .CL_XOFF => ⟨.cl, 0x34, 0, 1⟩
  | .CL_XOFF_CTRL => ⟨.cl, 0x38, 0, 1⟩
  | .CL_CREDIT_ADV_c => ⟨.cl, 0x80, 4, 12⟩
  | .CL_CREDIT_AVAIL_c => ⟨.cl, 0xC0, 4, 12⟩
  | .CL_BARO_n => ⟨.cl, 0x100, 4, 34⟩
  | .CL_EVENT => ⟨.cl, 0x200, 0, 1⟩
  | .XB_CTRL => ⟨.xb, 0x0, 0, 1⟩
  | .XB_IN_STALL => ⟨.xb, 0x4, 0, 1⟩
  | .XB_LARDER_FREE => ⟨.xb, 0x8, 0, 1⟩
  | .XB_LARDER_MIN => ⟨.xb, 0xC, 0, 1⟩
  | .XB_IN_CAP => ⟨.xb, 0x10, 0, 1⟩
  | .XB_RESP_RESERVE => ⟨.xb, 0x14, 0, 1⟩
  | .XB_CELLAR_TOTAL => ⟨.xb, 0x18, 0, 1⟩
  | .XB_CELLAR_USED => ⟨.xb, 0x1C, 0, 1⟩
  | .XB_PART_FLOORS => ⟨.xb, 0x20, 0, 1⟩
  | .XB_PART_CASUB => ⟨.xb, 0x24, 0, 1⟩
  | .XB_PART_RELAY => ⟨.xb, 0x28, 0, 1⟩
  | .XB_PART_SHARED => ⟨.xb, 0x2C, 0, 1⟩
  | .XB_FLOOR_c => ⟨.xb, 0x40, 4, 12⟩
  | .XB_GRP_CMD => ⟨.xb, 0x80, 0, 1⟩
  | .XB_GRP_DATAw => ⟨.xb, 0x84, 4, 8⟩
  | .XB_CNT_STALL => ⟨.xb, 0xC0, 0, 1⟩
  | .XB_CNT_MCAST_DROP => ⟨.xb, 0xC4, 0, 1⟩
  | .XB_CNT_ECC => ⟨.xb, 0xC8, 0, 1⟩
  | .XB_CNT_ERR => ⟨.xb, 0xCC, 0, 1⟩
  | .XB_ECC_LOG => ⟨.xb, 0x100, 0, 1⟩
  | .XB_EVENT => ⟨.xb, 0x200, 0, 1⟩
  | .BD_STATUS => ⟨.bd, 0x0, 0, 1⟩
  | .BD_UNBIND_TMO => ⟨.bd, 0x4, 0, 1⟩
  | .BD_TBL_CMD => ⟨.bd, 0x10, 0, 1⟩
  | .BD_TBL_DATAw => ⟨.bd, 0x14, 4, 12⟩
  | .BD_LD_SHARE_q => ⟨.bd, 0x60, 4, 16⟩
  | .BD_CNT_MISS => ⟨.bd, 0xA0, 0, 1⟩
  | .BD_CNT_MISC => ⟨.bd, 0xA4, 0, 1⟩
  | .BD_MISS_LOG_LO => ⟨.bd, 0xB0, 0, 1⟩
  | .BD_MISS_LOG_HI => ⟨.bd, 0xB4, 0, 1⟩
  | .BD_EVENT => ⟨.bd, 0x100, 0, 1⟩
  | .CA_CTRL => ⟨.ca, 0x0, 0, 1⟩
  | .CA_STATUS => ⟨.ca, 0x4, 0, 1⟩
  | .CA_SNOOP_TMO => ⟨.ca, 0x8, 0, 1⟩
  | .CA_TBL_CMD => ⟨.ca, 0x10, 0, 1⟩
  | .CA_TBL_DATAw => ⟨.ca, 0x14, 4, 4⟩
  | .CA_OCCUPANCY => ⟨.ca, 0x40, 0, 1⟩
  | .CA_CNT_LOOKUP => ⟨.ca, 0x80, 0, 1⟩
  | .CA_CNT_SNOOP => ⟨.ca, 0x84, 0, 1⟩
  | .CA_CNT_EVICT => ⟨.ca, 0x88, 0, 1⟩
  | .CA_CNT_MISC => ⟨.ca, 0x8C, 0, 1⟩
  | .CA_CNT_MISC2 => ⟨.ca, 0x90, 0, 1⟩
  | .CA_LOST_LOG_LO => ⟨.ca, 0x100, 0, 1⟩
  | .CA_LOST_LOG_HI => ⟨.ca, 0x104, 0, 1⟩
  | .CA_EVENT => ⟨.ca, 0x200, 0, 1⟩
  | .MR_CTRL => ⟨.mr, 0x0, 0, 1⟩
  | .MR_STATUS => ⟨.mr, 0x4, 0, 1⟩
  | .MR_TMO => ⟨.mr, 0x8, 0, 1⟩
  | .MR_TBL_CMD => ⟨.mr, 0x10, 0, 1⟩
  | .MR_TBL_DATAw => ⟨.mr, 0x14, 4, 8⟩
  | .MR_COPY_CMD => ⟨.mr, 0x40, 0, 1⟩
  | .MR_RESILVER => ⟨.mr, 0x44, 0, 1⟩
  | .MR_CNT_REPAIR => ⟨.mr, 0x80, 0, 1⟩
  | .MR_CNT_MISC => ⟨.mr, 0x84, 0, 1⟩
  | .MR_CNT_FAIL => ⟨.mr, 0x88, 0, 1⟩
  | .MR_LOG => ⟨.mr, 0x100, 0, 1⟩
  | .MR_EVENT => ⟨.mr, 0x200, 0, 1⟩
  | .OV_CTRL => ⟨.mr, 0x80000, 0, 1⟩
  | .OV_STATUS => ⟨.mr, 0x80004, 0, 1⟩
  | .OV_CMD => ⟨.mr, 0x80010, 0, 1⟩
  | .OV_DATA0 => ⟨.mr, 0x80014, 0, 1⟩
  | .OV_DATA1 => ⟨.mr, 0x80018, 0, 1⟩
  | .OV_DATA2 => ⟨.mr, 0x8001C, 0, 1⟩
  | .OV_DATA3 => ⟨.mr, 0x80020, 0, 1⟩
  | .OV_DATA4_7 => ⟨.mr, 0x80024, 4, 4⟩
  | .OV_CNT_MIG => ⟨.mr, 0x80040, 0, 1⟩
  | .OV_CNT_MISC => ⟨.mr, 0x80044, 0, 1⟩
  | .OV_SLOT_s => ⟨.mr, 0x80100, 4, 64⟩
  | .OV_EVENT => ⟨.mr, 0x80200, 0, 1⟩
  | .SC_CTRL => ⟨.sc, 0x0, 0, 1⟩
  | .SC_STATUS => ⟨.sc, 0x4, 0, 1⟩
  | .SC_SHP_CMD => ⟨.sc, 0x10, 0, 1⟩
  | .SC_SHP_DATAw => ⟨.sc, 0x14, 4, 4⟩
  | .SC_CNT_SPILL => ⟨.sc, 0x40, 0, 1⟩
  | .SC_CNT_MISC => ⟨.sc, 0x44, 0, 1⟩
  | .SC_EVENT => ⟨.sc, 0x80, 0, 1⟩
  | .SC_ARB_PRIO_q => ⟨.sc, 0x1000, 32, 16⟩
  | .SC_ARB_WGT0_q => ⟨.sc, 0x1004, 32, 16⟩
  | .SC_ARB_WGT1_q => ⟨.sc, 0x1008, 32, 16⟩
  | .SC_ARB_WGT2_q => ⟨.sc, 0x100C, 32, 16⟩
  | .SC_ARB_STARVE_q => ⟨.sc, 0x1010, 32, 16⟩
  | .DM_Q_CTRL => ⟨.dmq, 0x0, 0, 1⟩
  | .DM_Q_CFG => ⟨.dmq, 0x4, 0, 1⟩
  | .DM_Q_BASE_LO => ⟨.dmq, 0x8, 0, 1⟩
  | .DM_Q_BASE_HI => ⟨.dmq, 0xC, 0, 1⟩
  | .DM_Q_CQ_BASE_LO => ⟨.dmq, 0x10, 0, 1⟩
  | .DM_Q_CQ_BASE_HI => ⟨.dmq, 0x14, 0, 1⟩
  | .DM_Q_CQ_CFG => ⟨.dmq, 0x18, 0, 1⟩
  | .DM_Q_CQ_HEAD => ⟨.dmq, 0x1C, 0, 1⟩
  | .DM_Q_DOORBELL => ⟨.dmq, 0x20, 0, 1⟩
  | .DM_Q_INVALIDATE => ⟨.dmq, 0x24, 0, 1⟩
  | .DM_Q_STATUS => ⟨.dmq, 0x28, 0, 1⟩
  | .DM_Q_POS => ⟨.dmq, 0x2C, 0, 1⟩
  | .DM_Q_CQ_TAIL => ⟨.dmq, 0x30, 0, 1⟩
  | .DM_Q_INT_ADDR_LO => ⟨.dmq, 0x34, 0, 1⟩
  | .DM_Q_INT_ADDR_HI => ⟨.dmq, 0x38, 0, 1⟩
  | .DM_Q_INT_DATA => ⟨.dmq, 0x3C, 0, 1⟩
  | .DM_ENG_CTRL => ⟨.dme, 0x0, 256, 8⟩
  | .DM_ENG_STATUS => ⟨.dme, 0x4, 256, 8⟩
  | .DM_ENG_BYTES_LO => ⟨.dme, 0x8, 256, 8⟩
  | .DM_ENG_BYTES_HI => ⟨.dme, 0xC, 256, 8⟩
  | .DM_ENG_CNT_DESC => ⟨.dme, 0x10, 256, 8⟩
  | .DM_EVENT => ⟨.dme, 0x1000, 0, 1⟩
  | .DM_HALT_LOG => ⟨.dme, 0x1004, 0, 1⟩
  | .DM_REFUSE_LOG => ⟨.dme, 0x1008, 0, 1⟩
  | .DM_CNT_MISC => ⟨.dme, 0x100C, 0, 1⟩
  | .PN_CMD => ⟨.pnc, 0x10, 0, 1⟩
  | .PN_RESULT => ⟨.pnc, 0x14, 0, 1⟩
  | .PN_DATAw => ⟨.pnc, 0x80, 4, 32⟩
  | .PN_BLOB_w => ⟨.pnc, 0x1000, 4, 384⟩
  | .PN_STATUS => ⟨.pn, 0x0, 0, 1⟩
  | .PN_FREE => ⟨.pn, 0x4, 0, 1⟩
  | .PN_FREEZE_TMO => ⟨.pn, 0x8, 0, 1⟩
  | .PN_CNT_STALE => ⟨.pn, 0x40, 0, 1⟩
  | .PN_CNT_MISC => ⟨.pn, 0x44, 0, 1⟩
  | .PN_EVENT => ⟨.pn, 0x48, 0, 1⟩
  | .RS_CTRL => ⟨.rs, 0x0, 0, 1⟩
  | .RS_STATUS => ⟨.rs, 0x4, 0, 1⟩
  | .RS_ALERT_MASK => ⟨.rs, 0x8, 0, 1⟩
  | .RS_LOG_HEAD => ⟨.rs, 0x10, 0, 1⟩
  | .RS_LOG_TAIL => ⟨.rs, 0x14, 0, 1⟩
  | .RS_CNT_CLASS => ⟨.rs, 0x20, 0, 1⟩
  | .RS_CNT_SRAM => ⟨.rs, 0x24, 0, 1⟩
  | .RS_FENCE_CMD => ⟨.rs, 0x30, 0, 1⟩
  | .RS_FENCE_STATUS => ⟨.rs, 0x34, 0, 1⟩
  | .RS_SCRUB => ⟨.rs, 0x40, 0, 1⟩
  | .RS_LOST_LOG_LO => ⟨.rs, 0x50, 0, 1⟩
  | .RS_LOST_LOG_HI => ⟨.rs, 0x54, 0, 1⟩
  | .RS_WDOG_CTRL => ⟨.rs, 0x60, 0, 1⟩
  | .RS_WDOG_KICK => ⟨.rs, 0x64, 0, 1⟩
  | .RS_WDOG_STATUS => ⟨.rs, 0x68, 0, 1⟩
  | .RS_EVENT => ⟨.rs, 0x80, 0, 1⟩
  | .RS_LOG_r => ⟨.rs, 0x1000, 4, 1024⟩
  | .SP_CTRL => ⟨.sp, 0x0, 0, 1⟩
  | .SP_STATUS => ⟨.sp, 0x4, 0, 1⟩
  | .SP_SHUNT_LIM => ⟨.sp, 0x8, 0, 1⟩
  | .SP_RAMP => ⟨.sp, 0xC, 0, 1⟩
  | .SP_TIMERS => ⟨.sp, 0x10, 0, 1⟩
  | .SP_THRESH => ⟨.sp, 0x14, 0, 1⟩
  | .SP_FET_MODEL => ⟨.sp, 0x18, 0, 1⟩
  | .SP_FET_LIMIT => ⟨.sp, 0x1C, 0, 1⟩
  | .SP_MEAS_FEED => ⟨.sp, 0x20, 0, 1⟩
  | .SP_MEAS_OUT => ⟨.sp, 0x24, 0, 1⟩
  | .SP_MEAS_I => ⟨.sp, 0x28, 0, 1⟩
  | .SP_MEAS_T => ⟨.sp, 0x2C, 0, 1⟩
  | .SP_COUNT => ⟨.sp, 0x30, 0, 1⟩
  | .SP_FAULT_LOG => ⟨.sp, 0x34, 0, 1⟩
  | .SP_EVENT => ⟨.sp, 0x40, 0, 1⟩
  | .PM_STATUS => ⟨.pm, 0x0, 0, 1⟩
  | .PM_FROST_CTRL => ⟨.pm, 0x10, 0, 1⟩
  | .PM_FROST_STATUS => ⟨.pm, 0x14, 0, 1⟩
  | .PM_FROST_AT_LO => ⟨.pm, 0x18, 0, 1⟩
  | .PM_FROST_AT_HI => ⟨.pm, 0x1C, 0, 1⟩
  | .PM_FROST_TIME_LO => ⟨.pm, 0x20, 0, 1⟩
  | .PM_FROST_TIME_HI => ⟨.pm, 0x24, 0, 1⟩
  | .PM_ATTIC_CTRL => ⟨.pm, 0x40, 0, 1⟩
  | .PM_ATTIC_FILT => ⟨.pm, 0x44, 0, 1⟩
  | .PM_ATTIC_AMATCH => ⟨.pm, 0x48, 0, 1⟩
  | .PM_ATTIC_AMASK => ⟨.pm, 0x4C, 0, 1⟩
  | .PM_ATTIC_LAT_MIN => ⟨.pm, 0x50, 0, 1⟩
  | .PM_ATTIC_HEAD => ⟨.pm, 0x54, 0, 1⟩
  | .PM_ATTIC_TAIL => ⟨.pm, 0x58, 0, 1⟩
  | .PM_ATTIC_STATUS => ⟨.pm, 0x5C, 0, 1⟩
  | .PM_EVENT => ⟨.pm, 0x80, 0, 1⟩
  | .PM_CNT_MISC => ⟨.pm, 0x84, 0, 1⟩
  | .PM_OVF_j => ⟨.pm, 0x100, 4, 16⟩
  | .EVT => ⟨.pm, 0x10000, 32, 512⟩
  | .OWN => ⟨.pm, 0x10004, 32, 512⟩
  | .CNT_LO => ⟨.pm, 0x10008, 32, 512⟩
  | .CNT_HI => ⟨.pm, 0x1000C, 32, 512⟩
  | .STAMP_LO => ⟨.pm, 0x10010, 32, 512⟩
  | .STAMP_HI => ⟨.pm, 0x10014, 32, 512⟩
  | .SHADOW_LO => ⟨.pm, 0x10018, 32, 512⟩
  | .SHADOW_HI => ⟨.pm, 0x1001C, 32, 512⟩
  | .PM_ATTIC_REC => ⟨.pm, 0x40000, 4, 16384⟩
  | .MB_STATUS => ⟨.mb, 0x0, 0, 1⟩
  | .MB_OVERCAST => ⟨.mb, 0x4, 0, 1⟩
  | .MB_OVERCAST_AGE => ⟨.mb, 0x8, 0, 1⟩
  | .MB_CCI_CTRL => ⟨.mb, 0x10, 0, 1⟩
  | .MB_CHAN_c => ⟨.mb, 0x20, 4, 6⟩
  | .MB_HATCH_CTRL => ⟨.mb, 0x40, 0, 1⟩
  | .MB_HATCH_CNT0 => ⟨.mb, 0x44, 0, 1⟩
  | .MB_HATCH_CNT1 => ⟨.mb, 0x48, 0, 1⟩
  | .MB_EVENT => ⟨.mb, 0x80, 0, 1⟩
  | .MB_DM_INT_k => ⟨.mb, 0x1000, 4, 64⟩
  | .MB_DM_INT_SUM_LO => ⟨.mb, 0x1100, 0, 1⟩
  | .MB_DM_INT_SUM_HI => ⟨.mb, 0x1104, 0, 1⟩
  | .MB_RANGE_r_word0 => ⟨.mb, 0x2000, 8, 16⟩
  | .MB_RANGE_r_word1 => ⟨.mb, 0x2004, 8, 16⟩
  | .MB_XBUS_CTRL_g => ⟨.mb, 0x3000, 16, 4⟩
  | .MB_XBUS_STATUS_g => ⟨.mb, 0x3004, 16, 4⟩
  | .MB_DR_CMD_s => ⟨.mb, 0x4000, 16, 8⟩
  | .MB_DR_DATA_s => ⟨.mb, 0x4004, 16, 8⟩
  | .MB_DR_DADDR_s_LO => ⟨.mb, 0x4008, 16, 8⟩
  | .MB_DR_DADDR_s_HI => ⟨.mb, 0x400C, 16, 8⟩
  | .INV_STATUS => ⟨.pkg, 0x20000, 0, 1⟩
  | .INV_VERSION => ⟨.pkg, 0x20004, 0, 1⟩
  | .INV_FLOOR => ⟨.pkg, 0x20008, 0, 1⟩
  | .INV_BUILD_i => ⟨.pkg, 0x20010, 4, 4⟩
  | .INV_CMD => ⟨.pkg, 0x20020, 0, 1⟩
  | .INV_RESULT => ⟨.pkg, 0x20024, 0, 1⟩
  | .INV_CHANGES => ⟨.pkg, 0x20028, 0, 1⟩
  | .INV_IGNORED_CNT => ⟨.pkg, 0x20030, 0, 1⟩
  | .INV_IGNORED_LOG => ⟨.pkg, 0x20034, 0, 1⟩
  | .INV_EVENT => ⟨.pkg, 0x20040, 0, 1⟩
  | .LC_STATE => ⟨.pkg, 0x4, 0, 1⟩
  | .LC_DEVICE_ID_LO => ⟨.pkg, 0x8, 0, 1⟩
  | .LC_DEVICE_ID_HI => ⟨.pkg, 0xC, 0, 1⟩
  | .SEC_STATUS => ⟨.pkg, 0x10000, 0, 1⟩
  | .SEC_XMSS_NEXT => ⟨.pkg, 0x10004, 0, 1⟩
  | .SEC_XMSS_RESERVE => ⟨.pkg, 0x10008, 0, 1⟩
  | .SEC_STORE => ⟨.pkg, 0x1000C, 0, 1⟩
  | .SEC_CTR_c_LO => ⟨.pkg, 0x10010, 8, 5⟩
  | .SEC_CTR_c_HI => ⟨.pkg, 0x10014, 8, 5⟩
  | .SEC_SESSION_c => ⟨.pkg, 0x10040, 4, 5⟩
  | .SEC_CNT_AUTH => ⟨.pkg, 0x10060, 0, 1⟩
  | .SEC_MEAS_m_w => ⟨.pkg, 0x10080, 4, 32⟩
  | .SEC_KEYS => ⟨.pkg, 0x10100, 0, 1⟩
  | .SEC_EVENT => ⟨.pkg, 0x10200, 0, 1⟩
  | .CH_STATUS => ⟨.pkg, 0x30000, 0, 1⟩
  | .CH_CNT => ⟨.pkg, 0x30004, 0, 1⟩
  | .CH_CNT_ERR => ⟨.pkg, 0x30008, 0, 1⟩
  | .CH_DIE => ⟨.pkg, 0x3000C, 0, 1⟩
  | .CH_EVENT => ⟨.pkg, 0x30010, 0, 1⟩
  | .CK_RESET_CAUSE => ⟨.pkg, 0x40010, 0, 1⟩
  | .CK_BOOT_STATUS => ⟨.pkg, 0x40014, 0, 1⟩
  | .CK_RST_CMD => ⟨.pkg, 0x40018, 0, 1⟩

/-- The registers of each block. -/
def Blk.regs : Blk → List Reg
  | .pkg => [.LC_PART_ID, .CK_FTIME_LO, .CK_FTIME_HI, .CK_FTIME_STATUS, .PD_PKG_CTRL, .PD_PKG_STATUS, .PD_PKG_POWER, .INV_STATUS, .INV_VERSION, .INV_FLOOR, .INV_BUILD_i, .INV_CMD, .INV_RESULT, .INV_CHANGES, .INV_IGNORED_CNT, .INV_IGNORED_LOG, .INV_EVENT, .LC_STATE, .LC_DEVICE_ID_LO, .LC_DEVICE_ID_HI, .SEC_STATUS, .SEC_XMSS_NEXT, .SEC_XMSS_RESERVE, .SEC_STORE, .SEC_CTR_c_LO, .SEC_CTR_c_HI, .SEC_SESSION_c, .SEC_CNT_AUTH, .SEC_MEAS_m_w, .SEC_KEYS, .SEC_EVENT, .CH_STATUS, .CH_CNT, .CH_CNT_ERR, .CH_DIE, .CH_EVENT, .CK_RESET_CAUSE, .CK_BOOT_STATUS, .CK_RST_CMD]
  | .die => [.CK_DIE_FTIME_LO, .CK_DIE_FTIME_HI, .PD_DOM_REQ, .PD_DOM_LULL_EN, .PD_DOM_STATE0, .PD_DOM_STATE1, .PD_DOM_REFUSED, .PD_LULL_IDLE, .TM_TEMP_n, .TM_TEMP_MAX, .TM_LIMITS, .TM_STATUS, .TM_DIE_POWER]
  | .lq => [.LQ_CTRL, .LQ_STATUS, .LQ_EQ_CTRL, .LQ_EQ_BUDGET, .LQ_BARO_THR_NRZ, .LQ_BARO_THR_PAM4, .LQ_BARO_n, .LQ_EQ_RESULT_n, .LQ_TX_n, .LQ_LOOP, .LQ_PATTERN, .LQ_PAT_ERR_n, .LQ_MARGIN_CTRL, .LQ_MARGIN_STATUS, .LQ_EVENT]
  | .pt => [.PT_CTRL, .PT_STATUS, .PT_NEG_LINK, .PT_NEG_PROTO, .PT_PARTNER_SN_LO, .PT_PARTNER_SN_HI, .PT_IDENT, .PT_CELLAR_CTRL, .PT_CELLAR_STATUS, .PT_CELLAR_COUNT, .PT_FLUSH_DETAIL, .PT_EVENT]
  | .cl => [.CL_CTRL, .CL_STATUS, .CL_PEER, .CL_PATH_DELAY, .CL_BARO_THR, .CL_REPLAY, .CL_SEQ, .CL_CNT_FEC, .CL_CNT_CRC, .CL_CNT_MISC, .CL_DROUGHT, .CL_XOFF, .CL_XOFF_CTRL, .CL_CREDIT_ADV_c, .CL_CREDIT_AVAIL_c, .CL_BARO_n, .CL_EVENT]
  | .xb => [.XB_CTRL, .XB_IN_STALL, .XB_LARDER_FREE, .XB_LARDER_MIN, .XB_IN_CAP, .XB_RESP_RESERVE, .XB_CELLAR_TOTAL, .XB_CELLAR_USED, .XB_PART_FLOORS, .XB_PART_CASUB, .XB_PART_RELAY, .XB_PART_SHARED, .XB_FLOOR_c, .XB_GRP_CMD, .XB_GRP_DATAw, .XB_CNT_STALL, .XB_CNT_MCAST_DROP, .XB_CNT_ECC, .XB_CNT_ERR, .XB_ECC_LOG, .XB_EVENT]
  | .sc => [.SC_CTRL, .SC_STATUS, .SC_SHP_CMD, .SC_SHP_DATAw, .SC_CNT_SPILL, .SC_CNT_MISC, .SC_EVENT, .SC_ARB_PRIO_q, .SC_ARB_WGT0_q, .SC_ARB_WGT1_q, .SC_ARB_WGT2_q, .SC_ARB_STARVE_q]
  | .bd => [.BD_STATUS, .BD_UNBIND_TMO, .BD_TBL_CMD, .BD_TBL_DATAw, .BD_LD_SHARE_q, .BD_CNT_MISS, .BD_CNT_MISC, .BD_MISS_LOG_LO, .BD_MISS_LOG_HI, .BD_EVENT]
  | .ca => [.CA_CTRL, .CA_STATUS, .CA_SNOOP_TMO, .CA_TBL_CMD, .CA_TBL_DATAw, .CA_OCCUPANCY, .CA_CNT_LOOKUP, .CA_CNT_SNOOP, .CA_CNT_EVICT, .CA_CNT_MISC, .CA_CNT_MISC2, .CA_LOST_LOG_LO, .CA_LOST_LOG_HI, .CA_EVENT]
  | .mr => [.MR_CTRL, .MR_STATUS, .MR_TMO, .MR_TBL_CMD, .MR_TBL_DATAw, .MR_COPY_CMD, .MR_RESILVER, .MR_CNT_REPAIR, .MR_CNT_MISC, .MR_CNT_FAIL, .MR_LOG, .MR_EVENT, .OV_CTRL, .OV_STATUS, .OV_CMD, .OV_DATA0, .OV_DATA1, .OV_DATA2, .OV_DATA3, .OV_DATA4_7, .OV_CNT_MIG, .OV_CNT_MISC, .OV_SLOT_s, .OV_EVENT]
  | .dmq => [.DM_Q_CTRL, .DM_Q_CFG, .DM_Q_BASE_LO, .DM_Q_BASE_HI, .DM_Q_CQ_BASE_LO, .DM_Q_CQ_BASE_HI, .DM_Q_CQ_CFG, .DM_Q_CQ_HEAD, .DM_Q_DOORBELL, .DM_Q_INVALIDATE, .DM_Q_STATUS, .DM_Q_POS, .DM_Q_CQ_TAIL, .DM_Q_INT_ADDR_LO, .DM_Q_INT_ADDR_HI, .DM_Q_INT_DATA]
  | .dme => [.DM_ENG_CTRL, .DM_ENG_STATUS, .DM_ENG_BYTES_LO, .DM_ENG_BYTES_HI, .DM_ENG_CNT_DESC, .DM_EVENT, .DM_HALT_LOG, .DM_REFUSE_LOG, .DM_CNT_MISC]
  | .pnc => [.PN_CMD, .PN_RESULT, .PN_DATAw, .PN_BLOB_w]
  | .pn => [.PN_STATUS, .PN_FREE, .PN_FREEZE_TMO, .PN_CNT_STALE, .PN_CNT_MISC, .PN_EVENT]
  | .rs => [.RS_CTRL, .RS_STATUS, .RS_ALERT_MASK, .RS_LOG_HEAD, .RS_LOG_TAIL, .RS_CNT_CLASS, .RS_CNT_SRAM, .RS_FENCE_CMD, .RS_FENCE_STATUS, .RS_SCRUB, .RS_LOST_LOG_LO, .RS_LOST_LOG_HI, .RS_WDOG_CTRL, .RS_WDOG_KICK, .RS_WDOG_STATUS, .RS_EVENT, .RS_LOG_r]
  | .sp => [.SP_CTRL, .SP_STATUS, .SP_SHUNT_LIM, .SP_RAMP, .SP_TIMERS, .SP_THRESH, .SP_FET_MODEL, .SP_FET_LIMIT, .SP_MEAS_FEED, .SP_MEAS_OUT, .SP_MEAS_I, .SP_MEAS_T, .SP_COUNT, .SP_FAULT_LOG, .SP_EVENT]
  | .pm => [.PM_STATUS, .PM_FROST_CTRL, .PM_FROST_STATUS, .PM_FROST_AT_LO, .PM_FROST_AT_HI, .PM_FROST_TIME_LO, .PM_FROST_TIME_HI, .PM_ATTIC_CTRL, .PM_ATTIC_FILT, .PM_ATTIC_AMATCH, .PM_ATTIC_AMASK, .PM_ATTIC_LAT_MIN, .PM_ATTIC_HEAD, .PM_ATTIC_TAIL, .PM_ATTIC_STATUS, .PM_EVENT, .PM_CNT_MISC, .PM_OVF_j, .EVT, .OWN, .CNT_LO, .CNT_HI, .STAMP_LO, .STAMP_HI, .SHADOW_LO, .SHADOW_HI, .PM_ATTIC_REC]
  | .mb => [.MB_STATUS, .MB_OVERCAST, .MB_OVERCAST_AGE, .MB_CCI_CTRL, .MB_CHAN_c, .MB_HATCH_CTRL, .MB_HATCH_CNT0, .MB_HATCH_CNT1, .MB_EVENT, .MB_DM_INT_k, .MB_DM_INT_SUM_LO, .MB_DM_INT_SUM_HI, .MB_RANGE_r_word0, .MB_RANGE_r_word1, .MB_XBUS_CTRL_g, .MB_XBUS_STATUS_g, .MB_DR_CMD_s, .MB_DR_DATA_s, .MB_DR_DADDR_s_LO, .MB_DR_DADDR_s_HI]

/-- How many units of a block a die has. -/
def Blk.units : Blk → Nat
  | .lq => 16 | .pt => 16 | .cl => 7 | .dmq => 2048 | .pnc => 17 | .sp => 16
  | .pkg => 1 | .die => 1 | .xb => 1 | .sc => 1 | .bd => 1 | .ca => 1 | .mr => 1 | .dme => 1 | .pn => 1 | .rs => 1
  | .pm => 1 | .mb => 1

/-- The offset of unit `u` of a block from its die's base (Table 1.16; `pkg` counts from address 0). -/
def Blk.base (b : Blk) (u : Nat) : Nat :=
  match b with
  | .pkg => 0
  | .die => 0
  | .lq => 0x1_0000 + u * 0x1000
  | .pt => 0x4_0000 + u * 0x2000
  | .cl => 0x8_0000 + u * 0x2000
  | .xb => 0xA_0000
  | .sc => 0xC_0000
  | .bd => 0x10_0000
  | .ca => 0x20_0000
  | .mr => 0x30_0000
  | .dmq => 0x40_0000 + u * 0x40
  | .dme => 0x48_0000
  | .pn => 0x50_0000
  | .pnc => if u = 0 then 0x50_0000 else 0x51_0000 + (u - 1) * 0x2000
  | .rs => 0x60_0000
  | .sp => 0x68_0000 + u * 0x400
  | .pm => 0x70_0000
  | .mb => 0x78_0000

/-- Which register, unit and index stands at an offset inside a die (or of the package block), if any (R11). -/
def regAtIn (b : Blk) (off : Nat) : Option (Reg × Nat × Nat) :=
  (upTo b.units).findSome? fun u =>
    if off < b.base u then none else
    b.regs.findSome? fun r =>
      let i := r.info
      let rel := off - b.base u
      if rel < i.off then none
      else if i.stride = 0 then (if rel = i.off then some (r, u, 0) else none)
      else if (rel - i.off) % i.stride = 0 && decide ((rel - i.off) / i.stride < i.count) then
        some (r, u, (rel - i.off) / i.stride)
      else none

end Sys2Proof.Machine
end

