-- ==== Sys2Proof/Machine/Fields.lean ====
section
/-! DEFINITION. The fields of every register: bit range, access code (Table 0.4), class (Table 0.5) and reset value, as the
spec's register tables give them. A reset value that the spec gives as "per Inventory", "per part", "per store" and so on is
the value log entries 2 to 5 name. -/

namespace Sys2Proof.Machine

/-- Access codes (Table 0.4). W1S is a code no register uses. -/
inductive Acc where
  | ro | rw | w1c | wo
  deriving DecidableEq, Repr

/-- Field classes (Table 0.5). -/
inductive Cls where
  | fixed | quiet | staged | live
  deriving DecidableEq, Repr

/-- Which copy of a register: its die (0 for the package blocks), its unit in the die, its index in the unit. -/
structure Loc where
  die : Nat := 0
  unit : Nat := 0
  idx : Nat := 0
  deriving DecidableEq, Repr

/-- A field of a register. -/
structure Fld where
  reg : Reg
  hi : Nat
  lo : Nat
  acc : Acc
  cls : Cls
  rst : Part → Loc → Nat

/-- How many bits a field has. -/
def Fld.width (f : Fld) : Nat := f.hi + 1 - f.lo

/-- LC_PART_ID.family: Family code. Always 0x5C for the Sweiskade family. -/
def F.LC_PART_ID_family : Fld := ⟨.LC_PART_ID, 31, 24, .ro, .fixed, fun _ _ => 92⟩
/-- LC_PART_ID.die_count_log2: 1 = 2 dies, 2 = 4 dies, 3 = 8 dies. Other values are reserved. -/
def F.LC_PART_ID_die_count_log2 : Fld := ⟨.LC_PART_ID, 23, 20, .ro, .fixed, fun p _ => p.dieLog2⟩
/-- LC_PART_ID.lane_grade: 0b01 = S (64 GT/s), 0b10 = H (128 GT/s). 0b00 and 0b11 are reserved. -/
def F.LC_PART_ID_lane_grade : Fld := ⟨.LC_PART_ID, 19, 18, .ro, .fixed, fun p _ => p.grade⟩
/-- LC_PART_ID.stepping: 0x00 = A0, 0x01 = A1, 0x10 = B0. The high nibble gives the letter and the low nibble gives the digit. -/
def F.LC_PART_ID_stepping : Fld := ⟨.LC_PART_ID, 15, 8, .ro, .fixed, fun p _ => p.stepping⟩
/-- LC_PART_ID.die_mask: Bit n is set when die n received its number on the die chain at the last reset. -/
def F.LC_PART_ID_die_mask : Fld := ⟨.LC_PART_ID, 7, 0, .ro, .fixed, fun _ _ => 0⟩
/-- CK_FTIME_LO.ftime_lo: Bits [31:0] of fabric time. Reading this register captures the high word. -/
def F.CK_FTIME_LO_ftime_lo : Fld := ⟨.CK_FTIME_LO, 31, 0, .ro, .live, fun _ _ => 0⟩
/-- CK_FTIME_HI.ftime_hi: Bits [63:32] of fabric time, as captured at the last read of the low word -/
def F.CK_FTIME_HI_ftime_hi : Fld := ⟨.CK_FTIME_HI, 31, 0, .ro, .live, fun _ _ => 0⟩
/-- CK_FTIME_STATUS.step_count: Forward jumps of more than 2 cycles since reset, summed over all dies. Saturates at 0xFF. -/
def F.CK_FTIME_STATUS_step_count : Fld := ⟨.CK_FTIME_STATUS, 23, 16, .ro, .live, fun _ _ => 0⟩
/-- CK_FTIME_STATUS.aligned_mask, part i of 8 (1 bit each): Bit n is set while die n is aligned with die 0. Bit 0 is always set. -/
def F.CK_FTIME_STATUS_aligned_mask (i : Nat) : Fld := ⟨.CK_FTIME_STATUS, 0 + 1 * i + 0, 0 + 1 * i, .ro, .live, fun _ _ => if i = 0 then 1 else 0⟩
/-- CK_DIE_FTIME_LO.ftime_lo: Bits [31:0] of fabric time. Reading this register captures the high word. -/
def F.CK_DIE_FTIME_LO_ftime_lo : Fld := ⟨.CK_DIE_FTIME_LO, 31, 0, .ro, .live, fun _ _ => 0⟩
/-- CK_DIE_FTIME_HI.ftime_hi: Bits [63:32] of fabric time, as captured at the last read of the low word -/
def F.CK_DIE_FTIME_HI_ftime_hi : Fld := ⟨.CK_DIE_FTIME_HI, 31, 0, .ro, .live, fun _ _ => 0⟩
/-- PD_DOM_REQ.dom_on, part i of 22 (1 bit each): Bit k requests Dk On (1) or Off (0). A refused bit keeps its previous value (R63). Writing 0 to bit 21 is always refused. Before the Inventory is applied, reads as R63 gives. -/
def F.PD_DOM_REQ_dom_on (i : Nat) : Fld := ⟨.PD_DOM_REQ, 0 + 1 * i + 0, 0 + 1 * i, .rw, .live, fun p _ => if p.dieLog2 = 2 ∧ i = 14 then 0 else 1⟩
/-- PD_DOM_LULL_EN.lull_en_d21: Allows D21 to enter Lull. Reads 0 on die 0, and writes to it there are ignored. -/
def F.PD_DOM_LULL_EN_lull_en_d21 : Fld := ⟨.PD_DOM_LULL_EN, 21, 21, .rw, .live, fun _ _ => 0⟩
/-- PD_DOM_LULL_EN.lull_en, part i of 3 (1 bit each): Bit k allows Dk to enter Lull, for k = 17…19 -/
def F.PD_DOM_LULL_EN_lull_en (i : Nat) : Fld := ⟨.PD_DOM_LULL_EN, 17 + 1 * i + 0, 17 + 1 * i, .rw, .live, fun _ _ => 0⟩
/-- PD_DOM_STATE0.state_d0_d15, part i of 16 (2 bit each): Two bits per domain, Dk at [2k+1:2k]. 0b00 Off, 0b01 Powering, 0b10 Lull, 0b11 On. -/
def F.PD_DOM_STATE0_state_d0_d15 (i : Nat) : Fld := ⟨.PD_DOM_STATE0, 0 + 2 * i + 1, 0 + 2 * i, .ro, .live, fun p _ => if p.dieLog2 = 2 ∧ i = 14 then 0 else 3⟩
/-- PD_DOM_STATE1.state_d16_d21, part i of 6 (2 bit each): Two bits per domain, Dk at [2(k−16)+1:2(k−16)], encoded as in PD_DOM_STATE0 -/
def F.PD_DOM_STATE1_state_d16_d21 (i : Nat) : Fld := ⟨.PD_DOM_STATE1, 0 + 2 * i + 1, 0 + 2 * i, .ro, .live, fun _ _ => 3⟩
/-- PD_DOM_REFUSED.refused, part i of 22 (1 bit each): Bit k is set when a request for Dk was refused -/
def F.PD_DOM_REFUSED_refused (i : Nat) : Fld := ⟨.PD_DOM_REFUSED, 0 + 1 * i + 0, 0 + 1 * i, .w1c, .live, fun _ _ => 0⟩
/-- PD_LULL_IDLE.idle_us: Idle time before Lull, 1 to 1,023 µs. 0 stops automatic Lull entry on the die. Reads 0x064 until the Inventory is applied (R63). Eznil gives 0x064 where the system description names no value. -/
def F.PD_LULL_IDLE_idle_us : Fld := ⟨.PD_LULL_IDLE, 9, 0, .rw, .live, fun _ _ => 0x64⟩
/-- PD_PKG_CTRL.p1_refused: Set when a request for P1 was refused -/
def F.PD_PKG_CTRL_p1_refused : Fld := ⟨.PD_PKG_CTRL, 2, 2, .w1c, .live, fun _ _ => 0⟩
/-- PD_PKG_CTRL.p1_on: Requests P1 On (1) or Off (0) -/
def F.PD_PKG_CTRL_p1_on : Fld := ⟨.PD_PKG_CTRL, 1, 1, .rw, .live, fun _ _ => 1⟩
/-- PD_PKG_CTRL.p0_lull_en: Allows P0 to enter Lull -/
def F.PD_PKG_CTRL_p0_lull_en : Fld := ⟨.PD_PKG_CTRL, 0, 0, .rw, .live, fun _ _ => 0⟩
/-- PD_PKG_STATUS.rail_low, part i of 8 (1 bit each): Bit set while the rail is below its minimum on any die. Bit 0 VDDC, 1 VDDS, 2 VDDK, 3 VDDA, 4 VDDH, 5 VDDIO, 6 VDDIO33, 7 V12_BIAS. -/
def F.PD_PKG_STATUS_rail_low (i : Nat) : Fld := ⟨.PD_PKG_STATUS, 24 + 1 * i + 0, 24 + 1 * i, .ro, .live, fun _ _ => 0⟩
/-- PD_PKG_STATUS.p1_state: Encoded as in PD_DOM_STATE0 -/
def F.PD_PKG_STATUS_p1_state : Fld := ⟨.PD_PKG_STATUS, 11, 10, .ro, .live, fun _ _ => 3⟩
/-- PD_PKG_STATUS.p0_state: Encoded as in PD_DOM_STATE0 -/
def F.PD_PKG_STATUS_p0_state : Fld := ⟨.PD_PKG_STATUS, 9, 8, .ro, .live, fun _ _ => 3⟩
/-- PD_PKG_STATUS.thermtrip_seen: Set when THERMTRIP# was asserted. Kept until written or until the island loses power. -/
def F.PD_PKG_STATUS_thermtrip_seen : Fld := ⟨.PD_PKG_STATUS, 6, 6, .w1c, .live, fun _ _ => 0⟩
/-- PD_PKG_STATUS.refclk_lost: Set when loss of REFCLK or of PLL lock reset the package. Kept as thermtrip_seen. -/
def F.PD_PKG_STATUS_refclk_lost : Fld := ⟨.PD_PKG_STATUS, 5, 5, .w1c, .live, fun _ _ => 0⟩
/-- PD_PKG_STATUS.rail_reset: Set when R55 reset the package. Kept as thermtrip_seen. -/
def F.PD_PKG_STATUS_rail_reset : Fld := ⟨.PD_PKG_STATUS, 4, 4, .w1c, .live, fun _ _ => 0⟩
/-- PD_PKG_STATUS.island_source: 0b01 VAUX, 0b10 CH_IN. Other values are reserved. -/
def F.PD_PKG_STATUS_island_source : Fld := ⟨.PD_PKG_STATUS, 1, 0, .ro, .live, fun _ _ => 1⟩
/-- PD_PKG_POWER.power_mw: Package input power in mW, the sum of all rail monitors. Updated every 100 µs. Accuracy ±5% above 20 W. -/
def F.PD_PKG_POWER_power_mw : Fld := ⟨.PD_PKG_POWER, 23, 0, .ro, .live, fun _ _ => 0⟩
/-- TM_TEMP_n.temp: Latest reading of sensor n, signed, 1/16 °C -/
def F.TM_TEMP_n_temp : Fld := ⟨.TM_TEMP_n, 15, 0, .ro, .live, fun _ _ => 0⟩
/-- TM_TEMP_MAX.sensor: Number of the hottest sensor in the latest sample -/
def F.TM_TEMP_MAX_sensor : Fld := ⟨.TM_TEMP_MAX, 18, 16, .ro, .live, fun _ _ => 0⟩
/-- TM_TEMP_MAX.temp: Its reading, signed, 1/16 °C -/
def F.TM_TEMP_MAX_temp : Fld := ⟨.TM_TEMP_MAX, 15, 0, .ro, .live, fun _ _ => 0⟩
/-- TM_LIMITS.trip_c: Trip threshold, °C -/
def F.TM_LIMITS_trip_c : Fld := ⟨.TM_LIMITS, 23, 16, .ro, .fixed, fun _ _ => 110⟩
/-- TM_LIMITS.throttle_c: Throttle threshold, °C. A value above 100 is stored as 100. A value below 60 is stored as 60. -/
def F.TM_LIMITS_throttle_c : Fld := ⟨.TM_LIMITS, 15, 8, .rw, .live, fun _ _ => 100⟩
/-- TM_LIMITS.warn_c: Warning threshold, °C. A value above 100 is stored as 100. -/
def F.TM_LIMITS_warn_c : Fld := ⟨.TM_LIMITS, 7, 0, .rw, .live, fun _ _ => 95⟩
/-- TM_STATUS.throttle_active: Set while the die is throttled -/
def F.TM_STATUS_throttle_active : Fld := ⟨.TM_STATUS, 2, 2, .ro, .live, fun _ _ => 0⟩
/-- TM_STATUS.throttle_event: Set when the die entered throttle -/
def F.TM_STATUS_throttle_event : Fld := ⟨.TM_STATUS, 1, 1, .w1c, .live, fun _ _ => 0⟩
/-- TM_STATUS.warn_event: Set when the hottest sensor rose above warn_c; not set again while it stays above (R77) -/
def F.TM_STATUS_warn_event : Fld := ⟨.TM_STATUS, 0, 0, .w1c, .live, fun _ _ => 0⟩
/-- TM_DIE_POWER.power_mw: Die power in mW from its rail monitors. Updated every 100 µs. Accuracy ±5% above 10 W. -/
def F.TM_DIE_POWER_power_mw : Fld := ⟨.TM_DIE_POWER, 23, 0, .ro, .live, fun _ _ => 0⟩
/-- LQ_CTRL.lane_en: Bit l enables lane l -/
def F.LQ_CTRL_lane_en : Fld := ⟨.LQ_CTRL, 11, 8, .rw, .quiet, fun _ _ => 15⟩
/-- LQ_CTRL.max_rate: Highest rate code (Table 3.1). A value above the Inventory limit or the grade is stored as the lower of the two. -/
def F.LQ_CTRL_max_rate : Fld := ⟨.LQ_CTRL, 6, 4, .rw, .staged, fun _ _ => 0⟩
/-- LQ_CTRL.quad_en: Enables the quad. 0 moves every lane to Off. When those lanes carry a trained link, the port goes down with cause 6 (Table 4.7). Reads 0 until the Inventory is applied (R534). Eznil gives 1 to every quad of a port where the system description names no value. -/
def F.LQ_CTRL_quad_en : Fld := ⟨.LQ_CTRL, 0, 0, .rw, .live, fun _ _ => 0⟩
/-- LQ_STATUS.signal_detect, part i of 4 (1 bit each): Bit l set while lane l sees signal -/
def F.LQ_STATUS_signal_detect (i : Nat) : Fld := ⟨.LQ_STATUS, 28 + 1 * i + 0, 28 + 1 * i, .ro, .live, fun _ _ => 0⟩
/-- LQ_STATUS.partner_detect, part i of 4 (1 bit each): Bit l set when lane l's last detect pulse sensed termination -/
def F.LQ_STATUS_partner_detect (i : Nat) : Fld := ⟨.LQ_STATUS, 24 + 1 * i + 0, 24 + 1 * i, .ro, .live, fun _ _ => 0⟩
/-- LQ_STATUS.polarity_inverted, part i of 4 (1 bit each): Bit l set when lane l's receive polarity was found inverted -/
def F.LQ_STATUS_polarity_inverted (i : Nat) : Fld := ⟨.LQ_STATUS, 20 + 1 * i + 0, 20 + 1 * i, .ro, .live, fun _ _ => 0⟩
/-- LQ_STATUS.rate: Rate code in use -/
def F.LQ_STATUS_rate : Fld := ⟨.LQ_STATUS, 18, 16, .ro, .live, fun _ _ => 0⟩
/-- LQ_STATUS.stage, part i of 4 (4 bit each): Four bits per lane, lane l at [4l+3:4l], coded as in Table 3.2 -/
def F.LQ_STATUS_stage (i : Nat) : Fld := ⟨.LQ_STATUS, 0 + 4 * i + 3, 0 + 4 * i, .ro, .live, fun _ _ => 0⟩
/-- LQ_EQ_CTRL.eq_reuse: Try the stored result first (R102) -/
def F.LQ_EQ_CTRL_eq_reuse : Fld := ⟨.LQ_EQ_CTRL, 31, 31, .rw, .staged, fun _ _ => 1⟩
/-- LQ_EQ_CTRL.preset_mask: Bit k includes preset k in the search. If the mask is 0, only start_preset is evaluated. -/
def F.LQ_EQ_CTRL_preset_mask : Fld := ⟨.LQ_EQ_CTRL, 26, 16, .rw, .staged, fun _ _ => 2047⟩
/-- LQ_EQ_CTRL.start_preset: First preset requested, 0–10; a larger value is stored as 10 -/
def F.LQ_EQ_CTRL_start_preset : Fld := ⟨.LQ_EQ_CTRL, 15, 12, .rw, .staged, fun _ _ => 4⟩
/-- LQ_EQ_CTRL.max_coef_steps: Coefficient evaluations after the presets, 0–15 -/
def F.LQ_EQ_CTRL_max_coef_steps : Fld := ⟨.LQ_EQ_CTRL, 11, 8, .rw, .staged, fun _ _ => 8⟩
/-- LQ_EQ_CTRL.dwell_us: Measurement per evaluation, 1–255 µs; 0 is stored as 1 -/
def F.LQ_EQ_CTRL_dwell_us : Fld := ⟨.LQ_EQ_CTRL, 7, 0, .rw, .staged, fun _ _ => 100⟩
/-- LQ_EQ_BUDGET.budget_ms: Equalisation budget, 1–20 ms; 0 is stored as 1, and above 20 as 20 -/
def F.LQ_EQ_BUDGET_budget_ms : Fld := ⟨.LQ_EQ_BUDGET, 4, 0, .rw, .staged, fun _ _ => 16⟩
/-- LQ_BARO_THR_NRZ.accept: Accept threshold -/
def F.LQ_BARO_THR_NRZ_accept : Fld := ⟨.LQ_BARO_THR_NRZ, 31, 24, .rw, .staged, fun _ _ => 192⟩
/-- LQ_BARO_THR_NRZ.target: Target threshold -/
def F.LQ_BARO_THR_NRZ_target : Fld := ⟨.LQ_BARO_THR_NRZ, 23, 16, .rw, .staged, fun _ _ => 208⟩
/-- LQ_BARO_THR_NRZ.degrade: Degrade threshold, applied at the next refresh -/
def F.LQ_BARO_THR_NRZ_degrade : Fld := ⟨.LQ_BARO_THR_NRZ, 15, 8, .rw, .live, fun _ _ => 184⟩
/-- LQ_BARO_THR_NRZ.fail: Fail threshold, applied at the next refresh -/
def F.LQ_BARO_THR_NRZ_fail : Fld := ⟨.LQ_BARO_THR_NRZ, 7, 0, .rw, .live, fun _ _ => 168⟩
/-- LQ_BARO_THR_PAM4.accept: Accept threshold -/
def F.LQ_BARO_THR_PAM4_accept : Fld := ⟨.LQ_BARO_THR_PAM4, 31, 24, .rw, .staged, fun _ _ => 96⟩
/-- LQ_BARO_THR_PAM4.target: Target threshold -/
def F.LQ_BARO_THR_PAM4_target : Fld := ⟨.LQ_BARO_THR_PAM4, 23, 16, .rw, .staged, fun _ _ => 112⟩
/-- LQ_BARO_THR_PAM4.degrade: Degrade threshold, applied at the next refresh -/
def F.LQ_BARO_THR_PAM4_degrade : Fld := ⟨.LQ_BARO_THR_PAM4, 15, 8, .rw, .live, fun _ _ => 88⟩
/-- LQ_BARO_THR_PAM4.fail: Fail threshold, applied at the next refresh -/
def F.LQ_BARO_THR_PAM4_fail : Fld := ⟨.LQ_BARO_THR_PAM4, 7, 0, .rw, .live, fun _ _ => 72⟩
/-- LQ_BARO_n.min_clear: Writing 1 sets baro_min to the current value -/
def F.LQ_BARO_n_min_clear : Fld := ⟨.LQ_BARO_n, 31, 31, .wo, .live, fun _ _ => 0⟩
/-- LQ_BARO_n.baro_min: Lowest value since reset or min_clear -/
def F.LQ_BARO_n_baro_min : Fld := ⟨.LQ_BARO_n, 23, 16, .ro, .live, fun _ _ => 255⟩
/-- LQ_BARO_n.baro_lock: Value when the lane last entered Lock -/
def F.LQ_BARO_n_baro_lock : Fld := ⟨.LQ_BARO_n, 15, 8, .ro, .live, fun _ _ => 0⟩
/-- LQ_BARO_n.baro: Latest value -/
def F.LQ_BARO_n_baro : Fld := ⟨.LQ_BARO_n, 7, 0, .ro, .live, fun _ _ => 0⟩
/-- LQ_EQ_RESULT_n.reused: Stored result accepted without search -/
def F.LQ_EQ_RESULT_n_reused : Fld := ⟨.LQ_EQ_RESULT_n, 31, 31, .ro, .live, fun _ _ => 0⟩
/-- LQ_EQ_RESULT_n.budget_expired: Search ended by budget_ms -/
def F.LQ_EQ_RESULT_n_budget_expired : Fld := ⟨.LQ_EQ_RESULT_n, 30, 30, .ro, .live, fun _ _ => 0⟩
/-- LQ_EQ_RESULT_n.base_preset: Preset on which the result is based -/
def F.LQ_EQ_RESULT_n_base_preset : Fld := ⟨.LQ_EQ_RESULT_n, 29, 26, .ro, .live, fun _ _ => 0⟩
/-- LQ_EQ_RESULT_n.pre_coef: Pre-cursor requested of the partner, in the standard's coefficient units -/
def F.LQ_EQ_RESULT_n_pre_coef : Fld := ⟨.LQ_EQ_RESULT_n, 25, 20, .ro, .live, fun _ _ => 0⟩
/-- LQ_EQ_RESULT_n.post_coef: Post-cursor requested of the partner -/
def F.LQ_EQ_RESULT_n_post_coef : Fld := ⟨.LQ_EQ_RESULT_n, 19, 14, .ro, .live, fun _ _ => 0⟩
/-- LQ_EQ_RESULT_n.evals: Evaluations made, including rejected ones -/
def F.LQ_EQ_RESULT_n_evals : Fld := ⟨.LQ_EQ_RESULT_n, 13, 8, .ro, .live, fun _ _ => 0⟩
/-- LQ_EQ_RESULT_n.best_baro: Barometer of the result -/
def F.LQ_EQ_RESULT_n_best_baro : Fld := ⟨.LQ_EQ_RESULT_n, 7, 0, .ro, .live, fun _ _ => 0⟩
/-- LQ_TX_n.force: Use the written coefficients and reject partner requests; see Table 3.7 -/
def F.LQ_TX_n_force : Fld := ⟨.LQ_TX_n, 31, 31, .rw, .quiet, fun _ _ => 0⟩
/-- LQ_TX_n.pre: Pre-cursor applied; a write sets the value used while force = 1 -/
def F.LQ_TX_n_pre : Fld := ⟨.LQ_TX_n, 23, 18, .rw, .quiet, fun _ _ => 0⟩
/-- LQ_TX_n.main: Main cursor applied -/
def F.LQ_TX_n_main : Fld := ⟨.LQ_TX_n, 17, 12, .rw, .quiet, fun _ _ => 48⟩
/-- LQ_TX_n.post: Post-cursor applied -/
def F.LQ_TX_n_post : Fld := ⟨.LQ_TX_n, 11, 6, .rw, .quiet, fun _ _ => 0⟩
/-- LQ_TX_n.preset: Last preset requested by the partner -/
def F.LQ_TX_n_preset : Fld := ⟨.LQ_TX_n, 3, 0, .ro, .live, fun _ _ => 0⟩
/-- LQ_LOOP.far_end_active: Set while the quad is far-end loopback follower -/
def F.LQ_LOOP_far_end_active : Fld := ⟨.LQ_LOOP, 9, 9, .ro, .live, fun _ _ => 0⟩
/-- LQ_LOOP.loop_refused: Set when a write of 1 to loop_go was refused (R106) -/
def F.LQ_LOOP_loop_refused : Fld := ⟨.LQ_LOOP, 8, 8, .w1c, .live, fun _ _ => 0⟩
/-- LQ_LOOP.loop_go: Starts (1) or ends (0) the near-end loopback -/
def F.LQ_LOOP_loop_go : Fld := ⟨.LQ_LOOP, 7, 7, .rw, .live, fun _ _ => 0⟩
/-- LQ_LOOP.mode: 0b00 none, 0b01 near-end serial, 0b10 near-end parallel, 0b11 reserved -/
def F.LQ_LOOP_mode : Fld := ⟨.LQ_LOOP, 1, 0, .rw, .quiet, fun _ _ => 0⟩
/-- LQ_PATTERN.check_en: Enables the checker on all four lanes -/
def F.LQ_PATTERN_check_en : Fld := ⟨.LQ_PATTERN, 7, 7, .rw, .live, fun _ _ => 0⟩
/-- LQ_PATTERN.gen_en: Enables the generator on all four lanes -/
def F.LQ_PATTERN_gen_en : Fld := ⟨.LQ_PATTERN, 6, 6, .rw, .live, fun _ _ => 0⟩
/-- LQ_PATTERN.pattern: 0 PRBS7, 1 PRBS15, 2 PRBS23, 3 PRBS31, 4 alternating lowest and highest levels; 5–7 reserved -/
def F.LQ_PATTERN_pattern : Fld := ⟨.LQ_PATTERN, 2, 0, .rw, .quiet, fun _ _ => 0⟩
/-- LQ_PAT_ERR_n.errors: Bit errors on lane n since check_en last rose; saturates -/
def F.LQ_PAT_ERR_n_errors : Fld := ⟨.LQ_PAT_ERR_n, 31, 0, .ro, .live, fun _ _ => 0⟩
/-- LQ_MARGIN_CTRL.start: Starts a local run (R109) -/
def F.LQ_MARGIN_CTRL_start : Fld := ⟨.LQ_MARGIN_CTRL, 31, 31, .wo, .live, fun _ _ => 0⟩
/-- LQ_MARGIN_CTRL.lane: Lane to margin -/
def F.LQ_MARGIN_CTRL_lane : Fld := ⟨.LQ_MARGIN_CTRL, 27, 26, .rw, .live, fun _ _ => 0⟩
/-- LQ_MARGIN_CTRL.type: 0 timing, 1 voltage -/
def F.LQ_MARGIN_CTRL_type : Fld := ⟨.LQ_MARGIN_CTRL, 25, 25, .rw, .live, fun _ _ => 0⟩
/-- LQ_MARGIN_CTRL.dir: 0 right or up, 1 left or down -/
def F.LQ_MARGIN_CTRL_dir : Fld := ⟨.LQ_MARGIN_CTRL, 24, 24, .rw, .live, fun _ _ => 0⟩
/-- LQ_MARGIN_CTRL.steps: Steps to move; a value above the steps per side of Table 3.8 is stored as that limit -/
def F.LQ_MARGIN_CTRL_steps : Fld := ⟨.LQ_MARGIN_CTRL, 22, 16, .rw, .live, fun _ _ => 0⟩
/-- LQ_MARGIN_CTRL.error_limit: Errors at which the run stops; 0 is stored as 1 -/
def F.LQ_MARGIN_CTRL_error_limit : Fld := ⟨.LQ_MARGIN_CTRL, 5, 0, .rw, .live, fun _ _ => 4⟩
/-- LQ_MARGIN_STATUS.busy: A run is active on the selected lane -/
def F.LQ_MARGIN_STATUS_busy : Fld := ⟨.LQ_MARGIN_STATUS, 31, 31, .ro, .live, fun _ _ => 0⟩
/-- LQ_MARGIN_STATUS.aborted: The last local run was stopped (R109, R110) -/
def F.LQ_MARGIN_STATUS_aborted : Fld := ⟨.LQ_MARGIN_STATUS, 30, 30, .w1c, .live, fun _ _ => 0⟩
/-- LQ_MARGIN_STATUS.done: The last local run finished -/
def F.LQ_MARGIN_STATUS_done : Fld := ⟨.LQ_MARGIN_STATUS, 29, 29, .w1c, .live, fun _ _ => 0⟩
/-- LQ_MARGIN_STATUS.steps_reached: Furthest step passed without reaching error_limit -/
def F.LQ_MARGIN_STATUS_steps_reached : Fld := ⟨.LQ_MARGIN_STATUS, 23, 16, .ro, .live, fun _ _ => 0⟩
/-- LQ_MARGIN_STATUS.errors: Errors counted in the last run, saturating at 255 -/
def F.LQ_MARGIN_STATUS_errors : Fld := ⟨.LQ_MARGIN_STATUS, 15, 8, .ro, .live, fun _ _ => 0⟩
/-- LQ_EVENT.baro_fail, part i of 4 (1 bit each): Per lane; R91 -/
def F.LQ_EVENT_baro_fail (i : Nat) : Fld := ⟨.LQ_EVENT, 16 + 1 * i + 0, 16 + 1 * i, .w1c, .live, fun _ _ => 0⟩
/-- LQ_EVENT.baro_degrade, part i of 4 (1 bit each): Per lane; R98 -/
def F.LQ_EVENT_baro_degrade (i : Nat) : Fld := ⟨.LQ_EVENT, 12 + 1 * i + 0, 12 + 1 * i, .w1c, .live, fun _ _ => 0⟩
/-- LQ_EVENT.eq_fail, part i of 4 (1 bit each): Per lane; equalisation ended below accept -/
def F.LQ_EVENT_eq_fail (i : Nat) : Fld := ⟨.LQ_EVENT, 8 + 1 * i + 0, 8 + 1 * i, .w1c, .live, fun _ _ => 0⟩
/-- LQ_EVENT.lock_lost, part i of 4 (1 bit each): Per lane; lock not gained or signal lost -/
def F.LQ_EVENT_lock_lost (i : Nat) : Fld := ⟨.LQ_EVENT, 4 + 1 * i + 0, 4 + 1 * i, .w1c, .live, fun _ _ => 0⟩
/-- LQ_EVENT.thr_refused: R99 -/
def F.LQ_EVENT_thr_refused : Fld := ⟨.LQ_EVENT, 3, 3, .w1c, .live, fun _ _ => 0⟩
/-- LQ_EVENT.ignored_write: A Quiet write in this block was ignored -/
def F.LQ_EVENT_ignored_write : Fld := ⟨.LQ_EVENT, 2, 2, .w1c, .live, fun _ _ => 0⟩
/-- PT_CTRL.retrain: Commits the Staged fields and renegotiates. The link goes down with cause 2. -/
def F.PT_CTRL_retrain : Fld := ⟨.PT_CTRL, 28, 28, .wo, .live, fun _ _ => 0⟩
/-- PT_CTRL.role: 0 host port, 1 class M slot, 2 class A slot, 3 absorbed (R113); 4–7 reserved -/
def F.PT_CTRL_role : Fld := ⟨.PT_CTRL, 26, 24, .ro, .fixed, fun _ _ => 0⟩
/-- PT_CTRL.width_cfg: Configured width: 0 x4, 1 x8, 2 x16; 3 reserved -/
def F.PT_CTRL_width_cfg : Fld := ⟨.PT_CTRL, 23, 22, .ro, .fixed, fun _ _ => 0⟩
/-- PT_CTRL.cxl_en: Offer CXL -/
def F.PT_CTRL_cxl_en : Fld := ⟨.PT_CTRL, 15, 15, .rw, .staged, fun _ _ => 0⟩
/-- PT_CTRL.cache_en: Offer CXL.cache where Table 4.4 allows -/
def F.PT_CTRL_cache_en : Fld := ⟨.PT_CTRL, 14, 14, .rw, .staged, fun _ _ => 0⟩
/-- PT_CTRL.mem_en: Offer CXL.mem -/
def F.PT_CTRL_mem_en : Fld := ⟨.PT_CTRL, 13, 13, .rw, .staged, fun _ _ => 0⟩
/-- PT_CTRL.bi_en: Offer back-invalidate -/
def F.PT_CTRL_bi_en : Fld := ⟨.PT_CTRL, 12, 12, .rw, .staged, fun _ _ => 0⟩
/-- PT_CTRL.lat_opt_en: Allow latency-optimised 256-byte flits -/
def F.PT_CTRL_lat_opt_en : Fld := ⟨.PT_CTRL, 11, 11, .rw, .staged, fun _ _ => 1⟩
/-- PT_CTRL.flit256_en: Allow 256-byte flits below 64 GT/s -/
def F.PT_CTRL_flit256_en : Fld := ⟨.PT_CTRL, 10, 10, .rw, .staged, fun _ _ => 1⟩
/-- PT_CTRL.clocking: 0 common-clock, 1 SRNS, 2 SRIS; 3 reserved -/
def F.PT_CTRL_clocking : Fld := ⟨.PT_CTRL, 9, 8, .ro, .fixed, fun _ _ => 0⟩
/-- PT_CTRL.port_en: Enables the port. 0 takes the link down with cause 6. -/
def F.PT_CTRL_port_en : Fld := ⟨.PT_CTRL, 0, 0, .rw, .live, fun _ _ => 0⟩
/-- PT_STATUS.pstate: Port state, Table 4.5 -/
def F.PT_STATUS_pstate : Fld := ⟨.PT_STATUS, 27, 24, .ro, .live, fun _ _ => 0⟩
/-- PT_STATUS.cellar: 0 empty, 1 holding, 2 releasing, 3 flushing -/
def F.PT_STATUS_cellar : Fld := ⟨.PT_STATUS, 21, 20, .ro, .live, fun _ _ => 0⟩
/-- PT_STATUS.down_reason: Cause of the last link-down, Table 4.7 -/
def F.PT_STATUS_down_reason : Fld := ⟨.PT_STATUS, 3, 0, .ro, .live, fun _ _ => 0⟩
/-- PT_NEG_LINK.rate: Rate code in use, Table 3.1 -/
def F.PT_NEG_LINK_rate : Fld := ⟨.PT_NEG_LINK, 31, 29, .ro, .live, fun _ _ => 0⟩
/-- PT_NEG_LINK.width: Trained lanes: 1, 2, 4, 8 or 16 -/
def F.PT_NEG_LINK_width : Fld := ⟨.PT_NEG_LINK, 28, 24, .ro, .live, fun _ _ => 0⟩
/-- PT_NEG_LINK.flit: 0 non-flit, 1 68-byte, 2 256-byte standard, 3 256-byte latency-optimised -/
def F.PT_NEG_LINK_flit : Fld := ⟨.PT_NEG_LINK, 23, 22, .ro, .live, fun _ _ => 0⟩
/-- PT_NEG_LINK.fec: FEC in use -/
def F.PT_NEG_LINK_fec : Fld := ⟨.PT_NEG_LINK, 21, 21, .ro, .live, fun _ _ => 0⟩
/-- PT_NEG_LINK.lane_reversed: Lane reversal in use -/
def F.PT_NEG_LINK_lane_reversed : Fld := ⟨.PT_NEG_LINK, 20, 20, .ro, .live, fun _ _ => 0⟩
/-- PT_NEG_LINK.clock_mode: Clocking in use, coded as clocking -/
def F.PT_NEG_LINK_clock_mode : Fld := ⟨.PT_NEG_LINK, 19, 18, .ro, .live, fun _ _ => 0⟩
/-- PT_NEG_LINK.eq_path: 0 no equalisation, 1 full, 2 bypass to highest rate, 3 no equalisation needed -/
def F.PT_NEG_LINK_eq_path : Fld := ⟨.PT_NEG_LINK, 17, 16, .ro, .live, fun _ _ => 0⟩
/-- PT_NEG_LINK.retimers: Retimers found, 0–2 -/
def F.PT_NEG_LINK_retimers : Fld := ⟨.PT_NEG_LINK, 15, 14, .ro, .live, fun _ _ => 0⟩
/-- PT_NEG_LINK.base_width: W0 -/
def F.PT_NEG_LINK_base_width : Fld := ⟨.PT_NEG_LINK, 13, 9, .ro, .live, fun _ _ => 0⟩
/-- PT_NEG_LINK.partner_max_rate: Highest rate code the partner offered -/
def F.PT_NEG_LINK_partner_max_rate : Fld := ⟨.PT_NEG_LINK, 8, 6, .ro, .live, fun _ _ => 0⟩
/-- PT_NEG_LINK.rates_tried: Rates tried by R119 -/
def F.PT_NEG_LINK_rates_tried : Fld := ⟨.PT_NEG_LINK, 5, 3, .ro, .live, fun _ _ => 0⟩
/-- PT_NEG_LINK.degraded_width: width is below the configured width -/
def F.PT_NEG_LINK_degraded_width : Fld := ⟨.PT_NEG_LINK, 2, 2, .ro, .live, fun _ _ => 0⟩
/-- PT_NEG_LINK.degraded_rate: rate is below the highest common rate -/
def F.PT_NEG_LINK_degraded_rate : Fld := ⟨.PT_NEG_LINK, 1, 1, .ro, .live, fun _ _ => 0⟩
/-- PT_NEG_LINK.valid: The fields describe the current link. Cleared at link-down. -/
def F.PT_NEG_LINK_valid : Fld := ⟨.PT_NEG_LINK, 0, 0, .ro, .live, fun _ _ => 0⟩
/-- PT_NEG_PROTO.p_cxl: Partner offered CXL -/
def F.PT_NEG_PROTO_p_cxl : Fld := ⟨.PT_NEG_PROTO, 15, 15, .ro, .live, fun _ _ => 0⟩
/-- PT_NEG_PROTO.p_cache: Partner offered CXL.cache -/
def F.PT_NEG_PROTO_p_cache : Fld := ⟨.PT_NEG_PROTO, 14, 14, .ro, .live, fun _ _ => 0⟩
/-- PT_NEG_PROTO.p_mem: Partner offered CXL.mem -/
def F.PT_NEG_PROTO_p_mem : Fld := ⟨.PT_NEG_PROTO, 13, 13, .ro, .live, fun _ _ => 0⟩
/-- PT_NEG_PROTO.p_bi: Partner advertised back-invalidate -/
def F.PT_NEG_PROTO_p_bi : Fld := ⟨.PT_NEG_PROTO, 12, 12, .ro, .live, fun _ _ => 0⟩
/-- PT_NEG_PROTO.p_lat_opt: Partner supports latency-optimised flits -/
def F.PT_NEG_PROTO_p_lat_opt : Fld := ⟨.PT_NEG_PROTO, 11, 11, .ro, .live, fun _ _ => 0⟩
/-- PT_NEG_PROTO.p_flit256: Partner supports 256-byte flits -/
def F.PT_NEG_PROTO_p_flit256 : Fld := ⟨.PT_NEG_PROTO, 10, 10, .ro, .live, fun _ _ => 0⟩
/-- PT_NEG_PROTO.cxl: CXL agreed; 0 means PCIe -/
def F.PT_NEG_PROTO_cxl : Fld := ⟨.PT_NEG_PROTO, 7, 7, .ro, .live, fun _ _ => 0⟩
/-- PT_NEG_PROTO.cache: CXL.cache agreed -/
def F.PT_NEG_PROTO_cache : Fld := ⟨.PT_NEG_PROTO, 6, 6, .ro, .live, fun _ _ => 0⟩
/-- PT_NEG_PROTO.mem: CXL.mem agreed -/
def F.PT_NEG_PROTO_mem : Fld := ⟨.PT_NEG_PROTO, 5, 5, .ro, .live, fun _ _ => 0⟩
/-- PT_NEG_PROTO.bi: Back-invalidate agreed -/
def F.PT_NEG_PROTO_bi : Fld := ⟨.PT_NEG_PROTO, 4, 4, .ro, .live, fun _ _ => 0⟩
/-- PT_NEG_PROTO.mld: Partner is a multi-logical device -/
def F.PT_NEG_PROTO_mld : Fld := ⟨.PT_NEG_PROTO, 3, 3, .ro, .live, fun _ _ => 0⟩
/-- PT_NEG_PROTO.pbr: Port-based routing available on the link -/
def F.PT_NEG_PROTO_pbr : Fld := ⟨.PT_NEG_PROTO, 2, 2, .ro, .live, fun _ _ => 0⟩
/-- PT_PARTNER_SN_LO.sn_lo: Partner serial number bits [31:0]. Read as R9. -/
def F.PT_PARTNER_SN_LO_sn_lo : Fld := ⟨.PT_PARTNER_SN_LO, 31, 0, .ro, .live, fun _ _ => 0⟩
/-- PT_PARTNER_SN_HI.sn_hi: Partner serial number bits [63:32] -/
def F.PT_PARTNER_SN_HI_sn_hi : Fld := ⟨.PT_PARTNER_SN_HI, 31, 0, .ro, .live, fun _ _ => 0⟩
/-- PT_IDENT.sn_valid: The serial number was read (R123) -/
def F.PT_IDENT_sn_valid : Fld := ⟨.PT_IDENT, 31, 31, .ro, .live, fun _ _ => 0⟩
/-- PT_IDENT.insert_gen: Insertion generation at the last link up. Reads 0 on host ports. -/
def F.PT_IDENT_insert_gen : Fld := ⟨.PT_IDENT, 15, 0, .ro, .live, fun _ _ => 0⟩
/-- PT_CELLAR_CTRL.flush_now: R134 -/
def F.PT_CELLAR_CTRL_flush_now : Fld := ⟨.PT_CELLAR_CTRL, 31, 31, .wo, .live, fun _ _ => 0⟩
/-- PT_CELLAR_CTRL.cellar_max: Cellar limit in units of 64 cells; 0 is stored as 1 -/
def F.PT_CELLAR_CTRL_cellar_max : Fld := ⟨.PT_CELLAR_CTRL, 25, 16, .rw, .staged, fun _ _ => 128⟩
/-- PT_CELLAR_CTRL.hold: Hold time in units of 10 µs, from 1 to 10,000. 0 is stored as 1, and a value above 10,000 as 10,000. -/
def F.PT_CELLAR_CTRL_hold : Fld := ⟨.PT_CELLAR_CTRL, 13, 0, .rw, .staged, fun _ _ => 100⟩
/-- PT_CELLAR_STATUS.held_txn: Transactions held; saturates at 0xFFFF -/
def F.PT_CELLAR_STATUS_held_txn : Fld := ⟨.PT_CELLAR_STATUS, 31, 16, .ro, .live, fun _ _ => 0⟩
/-- PT_CELLAR_STATUS.held_cells: Cells held -/
def F.PT_CELLAR_STATUS_held_cells : Fld := ⟨.PT_CELLAR_STATUS, 15, 0, .ro, .live, fun _ _ => 0⟩
/-- PT_CELLAR_COUNT.flushes: Flushes since package reset; saturates -/
def F.PT_CELLAR_COUNT_flushes : Fld := ⟨.PT_CELLAR_COUNT, 31, 16, .ro, .live, fun _ _ => 0⟩
/-- PT_CELLAR_COUNT.releases: Releases since package reset; saturates -/
def F.PT_CELLAR_COUNT_releases : Fld := ⟨.PT_CELLAR_COUNT, 15, 0, .ro, .live, fun _ _ => 0⟩
/-- PT_FLUSH_DETAIL.reads_reissued: Mirrored reads re-issued in the last flush; saturates at 255 -/
def F.PT_FLUSH_DETAIL_reads_reissued : Fld := ⟨.PT_FLUSH_DETAIL, 31, 24, .ro, .live, fun _ _ => 0⟩
/-- PT_FLUSH_DETAIL.reads_poisoned: Reads completed with poison in the last flush -/
def F.PT_FLUSH_DETAIL_reads_poisoned : Fld := ⟨.PT_FLUSH_DETAIL, 23, 16, .ro, .live, fun _ _ => 0⟩
/-- PT_FLUSH_DETAIL.writes_survivor: Mirrored writes completed by the surviving copy -/
def F.PT_FLUSH_DETAIL_writes_survivor : Fld := ⟨.PT_FLUSH_DETAIL, 15, 8, .ro, .live, fun _ _ => 0⟩
/-- PT_FLUSH_DETAIL.writes_dropped: Other writes dropped -/
def F.PT_FLUSH_DETAIL_writes_dropped : Fld := ⟨.PT_FLUSH_DETAIL, 7, 0, .ro, .live, fun _ _ => 0⟩
/-- PT_EVENT.cxl_dropped: R120 -/
def F.PT_EVENT_cxl_dropped : Fld := ⟨.PT_EVENT, 12, 12, .w1c, .live, fun _ _ => 0⟩
/-- PT_EVENT.ignored_write: A Quiet write in this block was ignored -/
def F.PT_EVENT_ignored_write : Fld := ⟨.PT_EVENT, 11, 11, .w1c, .live, fun _ _ => 0⟩
/-- PT_EVENT.flap: R133 -/
def F.PT_EVENT_flap : Fld := ⟨.PT_EVENT, 10, 10, .w1c, .live, fun _ _ => 0⟩
/-- PT_EVENT.cellar_overflow: R132 -/
def F.PT_EVENT_cellar_overflow : Fld := ⟨.PT_EVENT, 9, 9, .w1c, .live, fun _ _ => 0⟩
/-- PT_EVENT.id_mismatch: R130 -/
def F.PT_EVENT_id_mismatch : Fld := ⟨.PT_EVENT, 8, 8, .w1c, .live, fun _ _ => 0⟩
/-- PT_EVENT.cellar_flush: The Cellar was flushed -/
def F.PT_EVENT_cellar_flush : Fld := ⟨.PT_EVENT, 7, 7, .w1c, .live, fun _ _ => 0⟩
/-- PT_EVENT.cellar_release: The Cellar was released -/
def F.PT_EVENT_cellar_release : Fld := ⟨.PT_EVENT, 6, 6, .w1c, .live, fun _ _ => 0⟩
/-- PT_EVENT.proto_mismatch: R130 -/
def F.PT_EVENT_proto_mismatch : Fld := ⟨.PT_EVENT, 5, 5, .w1c, .live, fun _ _ => 0⟩
/-- PT_EVENT.rate_degraded: The link came up with degraded_rate = 1 -/
def F.PT_EVENT_rate_degraded : Fld := ⟨.PT_EVENT, 4, 4, .w1c, .live, fun _ _ => 0⟩
/-- PT_EVENT.width_degraded: The link came up, or moved by L0p, below its configured width -/
def F.PT_EVENT_width_degraded : Fld := ⟨.PT_EVENT, 3, 3, .w1c, .live, fun _ _ => 0⟩
/-- PT_EVENT.link_down: R128 -/
def F.PT_EVENT_link_down : Fld := ⟨.PT_EVENT, 2, 2, .w1c, .live, fun _ _ => 0⟩
/-- PT_EVENT.link_up: The port reached Up -/
def F.PT_EVENT_link_up : Fld := ⟨.PT_EVENT, 1, 1, .w1c, .live, fun _ _ => 0⟩
/-- PT_EVENT.neg_fail: R121 -/
def F.PT_EVENT_neg_fail : Fld := ⟨.PT_EVENT, 0, 0, .w1c, .live, fun _ _ => 0⟩
/-- CL_CTRL.retrain: Moves an Active site to Retrain -/
def F.CL_CTRL_retrain : Fld := ⟨.CL_CTRL, 31, 31, .wo, .live, fun _ _ => 0⟩
/-- CL_CTRL.retire: Retires the site (Table 5.9) -/
def F.CL_CTRL_retire : Fld := ⟨.CL_CTRL, 30, 30, .wo, .live, fun _ _ => 0⟩
/-- CL_CTRL.revive: Moves a Retired site to Calibrate; ignored in other states -/
def F.CL_CTRL_revive : Fld := ⟨.CL_CTRL, 29, 29, .wo, .live, fun _ _ => 0⟩
/-- CL_CTRL.speed_max: 0 full speed allowed, 1 half speed only -/
def F.CL_CTRL_speed_max : Fld := ⟨.CL_CTRL, 25, 25, .rw, .staged, fun _ _ => 0⟩
/-- CL_CTRL.width_min: Smallest width allowed: 0 x32, 1 x16, 2 x8; 3 is stored as 2 -/
def F.CL_CTRL_width_min : Fld := ⟨.CL_CTRL, 24, 23, .rw, .staged, fun _ _ => 2⟩
/-- CL_CTRL.spare_en: Allows sparing (R167) -/
def F.CL_CTRL_spare_en : Fld := ⟨.CL_CTRL, 22, 22, .rw, .live, fun _ _ => 1⟩
/-- CL_CTRL.half_speed_en: Allows the step to half speed (R167) -/
def F.CL_CTRL_half_speed_en : Fld := ⟨.CL_CTRL, 21, 21, .rw, .live, fun _ _ => 1⟩
/-- CL_CTRL.xoff_mode: 1 in the SK8080 -/
def F.CL_CTRL_xoff_mode : Fld := ⟨.CL_CTRL, 20, 20, .ro, .fixed, fun p _ => if p.dieLog2 = 3 then 1 else 0⟩
/-- CL_CTRL.hold_us: R174, 1 to 255 µs; 0 is stored as 1 -/
def F.CL_CTRL_hold_us : Fld := ⟨.CL_CTRL, 15, 8, .rw, .live, fun _ _ => 20⟩
/-- CL_CTRL.site_en: Enables the site. Reads 1 until the Inventory is applied (R159). Eznil gives 1 to every site where the system description names no value, site 6 of an SK8040 included (R139). -/
def F.CL_CTRL_site_en : Fld := ⟨.CL_CTRL, 0, 0, .rw, .live, fun _ _ => 1⟩
/-- CL_STATUS.state: 0 Off, 1 Calibrate, 2 Align, 3 Init, 4 Active, 5 Retrain, 6 Retired -/
def F.CL_STATUS_state : Fld := ⟨.CL_STATUS, 31, 28, .ro, .live, fun _ _ => 0⟩
/-- CL_STATUS.width: Receive map: 0 x32, 1 x16, 2 x8, 3 none -/
def F.CL_STATUS_width : Fld := ⟨.CL_STATUS, 27, 26, .ro, .live, fun _ _ => 3⟩
/-- CL_STATUS.speed: Receive map: 0 full, 1 half -/
def F.CL_STATUS_speed : Fld := ⟨.CL_STATUS, 25, 25, .ro, .live, fun _ _ => 0⟩
/-- CL_STATUS.map_pending: A map change of R168 is pending -/
def F.CL_STATUS_map_pending : Fld := ⟨.CL_STATUS, 24, 24, .ro, .live, fun _ _ => 0⟩
/-- CL_STATUS.epoch: Receive map epoch -/
def F.CL_STATUS_epoch : Fld := ⟨.CL_STATUS, 23, 20, .ro, .live, fun _ _ => 0⟩
/-- CL_STATUS.spares_left: Spares outside the map with baro ≥ accept, 0–2 -/
def F.CL_STATUS_spares_left : Fld := ⟨.CL_STATUS, 17, 16, .ro, .live, fun _ _ => 0⟩
/-- CL_STATUS.retrains: Entries to Retrain since package reset; saturates -/
def F.CL_STATUS_retrains : Fld := ⟨.CL_STATUS, 15, 8, .ro, .live, fun _ _ => 0⟩
/-- CL_PEER.peer_die: Partner die, Table 5.1 -/
def F.CL_PEER_peer_die : Fld := ⟨.CL_PEER, 26, 24, .ro, .fixed, fun p x => p.peerDie x.die x.unit⟩
/-- CL_PEER.peer_site: Partner site -/
def F.CL_PEER_peer_site : Fld := ⟨.CL_PEER, 22, 20, .ro, .fixed, fun _ x => x.unit⟩
/-- CL_PEER.route: Path to peer_die for this site's streams: 0 this site, 1 sibling site, 2 third die, 3 unreachable -/
def F.CL_PEER_route : Fld := ⟨.CL_PEER, 19, 18, .ro, .live, fun _ _ => 0⟩
/-- CL_PEER.via_die: Die k when route = 2 -/
def F.CL_PEER_via_die : Fld := ⟨.CL_PEER, 17, 15, .ro, .live, fun _ _ => 0⟩
/-- CL_PATH_DELAY.valid: Set at the last Align -/
def F.CL_PATH_DELAY_valid : Fld := ⟨.CL_PATH_DELAY, 31, 31, .ro, .live, fun _ _ => 0⟩
/-- CL_PATH_DELAY.delay: One-way path delay in core cycles, used by R37 -/
def F.CL_PATH_DELAY_delay : Fld := ⟨.CL_PATH_DELAY, 15, 0, .ro, .live, fun _ _ => 0⟩
/-- CL_BARO_THR.accept: Table 5.6, applied at the next refresh -/
def F.CL_BARO_THR_accept : Fld := ⟨.CL_BARO_THR, 31, 24, .rw, .live, fun _ _ => 176⟩
/-- CL_BARO_THR.spare_thr: Table 5.6 -/
def F.CL_BARO_THR_spare_thr : Fld := ⟨.CL_BARO_THR, 23, 16, .rw, .live, fun _ _ => 160⟩
/-- CL_BARO_THR.fail: Table 5.6 -/
def F.CL_BARO_THR_fail : Fld := ⟨.CL_BARO_THR, 15, 8, .rw, .live, fun _ _ => 144⟩
/-- CL_REPLAY.unacked: Unacknowledged flits, 0–256 -/
def F.CL_REPLAY_unacked : Fld := ⟨.CL_REPLAY, 24, 16, .ro, .live, fun _ _ => 0⟩
/-- CL_REPLAY.replay_timeout: R152, in units of 10 ns, 10 to 500; values outside the range are stored as the nearer limit -/
def F.CL_REPLAY_replay_timeout : Fld := ⟨.CL_REPLAY, 8, 0, .rw, .live, fun _ _ => 50⟩
/-- CL_SEQ.tx_next: Next sequence number to send -/
def F.CL_SEQ_tx_next : Fld := ⟨.CL_SEQ, 29, 20, .ro, .live, fun _ _ => 0⟩
/-- CL_SEQ.tx_acked: Last acknowledged sequence number -/
def F.CL_SEQ_tx_acked : Fld := ⟨.CL_SEQ, 19, 10, .ro, .live, fun _ _ => 1023⟩
/-- CL_SEQ.rx_expected: R148 -/
def F.CL_SEQ_rx_expected : Fld := ⟨.CL_SEQ, 9, 0, .ro, .live, fun _ _ => 0⟩
/-- CL_CNT_FEC.fec_flits: Flits received with at least one corrected symbol -/
def F.CL_CNT_FEC_fec_flits : Fld := ⟨.CL_CNT_FEC, 31, 0, .ro, .live, fun _ _ => 0⟩
/-- CL_CNT_CRC.crc_fail: Flits that failed the CRC -/
def F.CL_CNT_CRC_crc_fail : Fld := ⟨.CL_CNT_CRC, 31, 16, .ro, .live, fun _ _ => 0⟩
/-- CL_CNT_CRC.replays: REPLAY_REQ sent -/
def F.CL_CNT_CRC_replays : Fld := ⟨.CL_CNT_CRC, 15, 0, .ro, .live, fun _ _ => 0⟩
/-- CL_CNT_MISC.squalls: Squalls -/
def F.CL_CNT_MISC_squalls : Fld := ⟨.CL_CNT_MISC, 31, 24, .ro, .live, fun _ _ => 0⟩
/-- CL_CNT_MISC.spares_used: Lanes replaced by spares -/
def F.CL_CNT_MISC_spares_used : Fld := ⟨.CL_CNT_MISC, 23, 16, .ro, .live, fun _ _ => 0⟩
/-- CL_CNT_MISC.map_downs: Width or speed reductions -/
def F.CL_CNT_MISC_map_downs : Fld := ⟨.CL_CNT_MISC, 15, 8, .ro, .live, fun _ _ => 0⟩
/-- CL_CNT_MISC.handovers: Hand-overs (R175) -/
def F.CL_CNT_MISC_handovers : Fld := ⟨.CL_CNT_MISC, 7, 0, .ro, .live, fun _ _ => 0⟩
/-- CL_DROUGHT.drought_thr: R162; 0 is stored as 1 -/
def F.CL_DROUGHT_drought_thr : Fld := ⟨.CL_DROUGHT, 23, 16, .rw, .live, fun _ _ => 2⟩
/-- CL_DROUGHT.drought_us: R162, in µs. 0 disables the watch. -/
def F.CL_DROUGHT_drought_us : Fld := ⟨.CL_DROUGHT, 15, 0, .rw, .live, fun _ _ => 50⟩
/-- CL_XOFF.xoff_sent, part i of 12 (1 bit each): Bit c set while this die sends XOFF for TCc on this site -/
def F.CL_XOFF_xoff_sent (i : Nat) : Fld := ⟨.CL_XOFF, 16 + 1 * i + 0, 16 + 1 * i, .ro, .live, fun _ _ => 0⟩
/-- CL_XOFF.xoff_recv, part i of 12 (1 bit each): Bit c set while the partner holds TCc in XOFF -/
def F.CL_XOFF_xoff_recv (i : Nat) : Fld := ⟨.CL_XOFF, 0 + 1 * i + 0, 0 + 1 * i, .ro, .live, fun _ _ => 0⟩
/-- CL_XOFF_CTRL.xon_hyst: R160, in cells. A value above the smallest casub_pool of any class less 2,688 is stored as that limit. -/
def F.CL_XOFF_CTRL_xon_hyst : Fld := ⟨.CL_XOFF_CTRL, 15, 0, .rw, .live, fun _ _ => 1024⟩
/-- CL_CREDIT_ADV_c.hdr_adv: Header credits advertised for TCc, 1 to 4,095 -/
def F.CL_CREDIT_ADV_c_hdr_adv : Fld := ⟨.CL_CREDIT_ADV_c, 27, 16, .ro, .fixed, fun _ _ => 0⟩
/-- CL_CREDIT_ADV_c.data_adv: Data credits advertised for TCc, 1 to 16,383 -/
def F.CL_CREDIT_ADV_c_data_adv : Fld := ⟨.CL_CREDIT_ADV_c, 13, 0, .ro, .fixed, fun _ _ => 0⟩
/-- CL_CREDIT_AVAIL_c.hdr_avail: Header credits available to this transmitter for TCc (R156) -/
def F.CL_CREDIT_AVAIL_c_hdr_avail : Fld := ⟨.CL_CREDIT_AVAIL_c, 27, 16, .ro, .live, fun _ _ => 0⟩
/-- CL_CREDIT_AVAIL_c.data_avail: Data credits available for TCc -/
def F.CL_CREDIT_AVAIL_c_data_avail : Fld := ⟨.CL_CREDIT_AVAIL_c, 13, 0, .ro, .live, fun _ _ => 0⟩
/-- CL_BARO_n.min_clear: Sets baro_min to the current value -/
def F.CL_BARO_n_min_clear : Fld := ⟨.CL_BARO_n, 31, 31, .wo, .live, fun _ _ => 0⟩
/-- CL_BARO_n.use: 0 in the map, 1 spare, 2 benched, 3 failed -/
def F.CL_BARO_n_use : Fld := ⟨.CL_BARO_n, 25, 24, .ro, .live, fun _ _ => 0⟩
/-- CL_BARO_n.baro_min: Lowest value since reset or min_clear -/
def F.CL_BARO_n_baro_min : Fld := ⟨.CL_BARO_n, 23, 16, .ro, .live, fun _ _ => 255⟩
/-- CL_BARO_n.baro: Latest value (R165) -/
def F.CL_BARO_n_baro : Fld := ⟨.CL_BARO_n, 7, 0, .ro, .live, fun _ _ => 0⟩
/-- CL_EVENT.ignored_write: A Quiet write in this block was ignored -/
def F.CL_EVENT_ignored_write : Fld := ⟨.CL_EVENT, 13, 13, .w1c, .live, fun _ _ => 0⟩
/-- CL_EVENT.thr_refused: R166 -/
def F.CL_EVENT_thr_refused : Fld := ⟨.CL_EVENT, 12, 12, .w1c, .live, fun _ _ => 0⟩
/-- CL_EVENT.wiring_err: Table 5.9 -/
def F.CL_EVENT_wiring_err : Fld := ⟨.CL_EVENT, 11, 11, .w1c, .live, fun _ _ => 0⟩
/-- CL_EVENT.credit_overflow: R158 -/
def F.CL_EVENT_credit_overflow : Fld := ⟨.CL_EVENT, 10, 10, .w1c, .live, fun _ _ => 0⟩
/-- CL_EVENT.audit_leak: R163 -/
def F.CL_EVENT_audit_leak : Fld := ⟨.CL_EVENT, 9, 9, .w1c, .live, fun _ _ => 0⟩
/-- CL_EVENT.drought: R163 -/
def F.CL_EVENT_drought : Fld := ⟨.CL_EVENT, 8, 8, .w1c, .live, fun _ _ => 0⟩
/-- CL_EVENT.handover: R175 -/
def F.CL_EVENT_handover : Fld := ⟨.CL_EVENT, 7, 7, .w1c, .live, fun _ _ => 0⟩
/-- CL_EVENT.retired: The site entered Retired -/
def F.CL_EVENT_retired : Fld := ⟨.CL_EVENT, 6, 6, .w1c, .live, fun _ _ => 0⟩
/-- CL_EVENT.retrain: The site entered Retrain -/
def F.CL_EVENT_retrain : Fld := ⟨.CL_EVENT, 5, 5, .w1c, .live, fun _ _ => 0⟩
/-- CL_EVENT.speed_down: The receive map moved to half speed -/
def F.CL_EVENT_speed_down : Fld := ⟨.CL_EVENT, 4, 4, .w1c, .live, fun _ _ => 0⟩
/-- CL_EVENT.width_down: The receive map narrowed -/
def F.CL_EVENT_width_down : Fld := ⟨.CL_EVENT, 3, 3, .w1c, .live, fun _ _ => 0⟩
/-- CL_EVENT.spare_used: A spare entered the map -/
def F.CL_EVENT_spare_used : Fld := ⟨.CL_EVENT, 2, 2, .w1c, .live, fun _ _ => 0⟩
/-- CL_EVENT.twice_failed: Table 5.5 -/
def F.CL_EVENT_twice_failed : Fld := ⟨.CL_EVENT, 1, 1, .w1c, .live, fun _ _ => 0⟩
/-- CL_EVENT.squall: Table 5.5 -/
def F.CL_EVENT_squall : Fld := ⟨.CL_EVENT, 0, 0, .w1c, .live, fun _ _ => 0⟩
/-- XB_CTRL.commit: Applies the Staged fields of this block -/
def F.XB_CTRL_commit : Fld := ⟨.XB_CTRL, 31, 31, .wo, .live, fun _ _ => 0⟩
/-- XB_CTRL.iter: Rounds per cell time, minus one: 0b00 = 1 to 0b11 = 4 (R194) -/
def F.XB_CTRL_iter : Fld := ⟨.XB_CTRL, 3, 2, .rw, .staged, fun _ _ => 2⟩
/-- XB_CTRL.core_up: Set once the Inventory has been applied and the core switches traffic -/
def F.XB_CTRL_core_up : Fld := ⟨.XB_CTRL, 0, 0, .ro, .live, fun _ _ => 0⟩
/-- XB_IN_STALL.in_stall, part i of 32 (1 bit each): Bit i set while crossbar input i withholds credit for lack of cells (R189) -/
def F.XB_IN_STALL_in_stall (i : Nat) : Fld := ⟨.XB_IN_STALL, 0 + 1 * i + 0, 0 + 1 * i, .ro, .live, fun _ _ => 0⟩
/-- XB_LARDER_FREE.shared_free: Free cells in the shared region -/
def F.XB_LARDER_FREE_shared_free : Fld := ⟨.XB_LARDER_FREE, 18, 0, .ro, .live, fun _ _ => 0⟩
/-- XB_LARDER_MIN.min_clear: Sets shared_min to the current shared_free -/
def F.XB_LARDER_MIN_min_clear : Fld := ⟨.XB_LARDER_MIN, 31, 31, .wo, .live, fun _ _ => 0⟩
/-- XB_LARDER_MIN.shared_min: Lowest shared_free since reset or min_clear -/
def F.XB_LARDER_MIN_shared_min : Fld := ⟨.XB_LARDER_MIN, 18, 0, .ro, .live, fun _ _ => 524287⟩
/-- XB_IN_CAP.in_cap: Shared cells one input may hold (R188). 0 is stored as 64. -/
def F.XB_IN_CAP_in_cap : Fld := ⟨.XB_IN_CAP, 18, 0, .rw, .staged, fun _ _ => 8192⟩
/-- XB_RESP_RESERVE.resp_reserve: Shared cells kept for response classes. A value above half of shared_total is stored as half. The reset value is clamped in the same way when the Inventory is applied. -/
def F.XB_RESP_RESERVE_resp_reserve : Fld := ⟨.XB_RESP_RESERVE, 18, 0, .rw, .staged, fun _ _ => 16384⟩
/-- XB_CELLAR_TOTAL.cellar_total: R190. A value above shared_total is stored as shared_total. The reset value is clamped in the same way when the Inventory is applied. -/
def F.XB_CELLAR_TOTAL_cellar_total : Fld := ⟨.XB_CELLAR_TOTAL, 18, 0, .rw, .staged, fun _ _ => 65536⟩
/-- XB_CELLAR_USED.cellar_used: Cells held in all Cellars of the die -/
def F.XB_CELLAR_USED_cellar_used : Fld := ⟨.XB_CELLAR_USED, 18, 0, .ro, .live, fun _ _ => 0⟩
/-- XB_PART_FLOORS.floors_total: Table 6.2 -/
def F.XB_PART_FLOORS_floors_total : Fld := ⟨.XB_PART_FLOORS, 18, 0, .ro, .fixed, fun _ _ => 0⟩
/-- XB_PART_CASUB.casub_total: Table 6.2 -/
def F.XB_PART_CASUB_casub_total : Fld := ⟨.XB_PART_CASUB, 18, 0, .ro, .fixed, fun _ _ => 0⟩
/-- XB_PART_RELAY.relay_total: 8,064, or 0 in the SK8020 -/
def F.XB_PART_RELAY_relay_total : Fld := ⟨.XB_PART_RELAY, 18, 0, .ro, .fixed, fun p _ => if p.dieLog2 = 1 then 0 else 8064⟩
/-- XB_PART_SHARED.shared_total: Table 6.2 -/
def F.XB_PART_SHARED_shared_total : Fld := ⟨.XB_PART_SHARED, 18, 0, .ro, .fixed, fun _ _ => 0⟩
/-- XB_FLOOR_c.casub_pool: SK8080: receive pool cells for TCc (R160). 0 in other parts. -/
def F.XB_FLOOR_c_casub_pool : Fld := ⟨.XB_FLOOR_c, 31, 16, .ro, .fixed, fun _ _ => 0⟩
/-- XB_FLOOR_c.floor: Floor cells per input for TCc, 1 to 1,023. Inventory default 32, 64 or 16 as in the worked example. -/
def F.XB_FLOOR_c_floor : Fld := ⟨.XB_FLOOR_c, 9, 0, .ro, .fixed, fun _ _ => 0⟩
/-- XB_GRP_CMD.go: Starts the operation in op -/
def F.XB_GRP_CMD_go : Fld := ⟨.XB_GRP_CMD, 31, 31, .wo, .live, fun _ _ => 0⟩
/-- XB_GRP_CMD.busy: An operation is in progress (R205) -/
def F.XB_GRP_CMD_busy : Fld := ⟨.XB_GRP_CMD, 30, 30, .ro, .live, fun _ _ => 0⟩
/-- XB_GRP_CMD.op: 0 read the entry into DATA0–7; 1 write DATA0–7 to the entry; 2 clear the entry; 3 reserved -/
def F.XB_GRP_CMD_op : Fld := ⟨.XB_GRP_CMD, 29, 28, .rw, .live, fun _ _ => 0⟩
/-- XB_GRP_CMD.index: Entry index. An operation on index 0 is refused, and grp_refused is set. -/
def F.XB_GRP_CMD_index : Fld := ⟨.XB_GRP_CMD, 11, 0, .rw, .live, fun _ _ => 0⟩
/-- XB_GRP_DATAw.data: Word w of the entry, Table 6.3 -/
def F.XB_GRP_DATAw_data : Fld := ⟨.XB_GRP_DATAw, 31, 0, .rw, .live, fun _ _ => 0⟩
/-- XB_CNT_STALL.stalls: Entries of any input into withheld credit (R189) -/
def F.XB_CNT_STALL_stalls : Fld := ⟨.XB_CNT_STALL, 31, 0, .ro, .live, fun _ _ => 0⟩
/-- XB_CNT_MCAST_DROP.copies: Copies dropped by R204 -/
def F.XB_CNT_MCAST_DROP_copies : Fld := ⟨.XB_CNT_MCAST_DROP, 31, 0, .ro, .live, fun _ _ => 0⟩
/-- XB_CNT_ECC.uncorrected: Double-bit Larder errors (R192) -/
def F.XB_CNT_ECC_uncorrected : Fld := ⟨.XB_CNT_ECC, 31, 16, .ro, .live, fun _ _ => 0⟩
/-- XB_CNT_ECC.corrected: Single-bit Larder errors -/
def F.XB_CNT_ECC_corrected : Fld := ⟨.XB_CNT_ECC, 15, 0, .ro, .live, fun _ _ => 0⟩
/-- XB_CNT_ERR.grp_miss: Messages discarded by R203 -/
def F.XB_CNT_ERR_grp_miss : Fld := ⟨.XB_CNT_ERR, 31, 16, .ro, .live, fun _ _ => 0⟩
/-- XB_CNT_ERR.hdr_err: Malformed messages (R184) -/
def F.XB_CNT_ERR_hdr_err : Fld := ⟨.XB_CNT_ERR, 15, 0, .ro, .live, fun _ _ => 0⟩
/-- XB_ECC_LOG.valid: A double-bit error has been logged since the last clear. Clearing it frees the log for the next error. -/
def F.XB_ECC_LOG_valid : Fld := ⟨.XB_ECC_LOG, 31, 31, .w1c, .live, fun _ _ => 0⟩
/-- XB_ECC_LOG.header: 1 header cell, 0 data cell -/
def F.XB_ECC_LOG_header : Fld := ⟨.XB_ECC_LOG, 30, 30, .ro, .live, fun _ _ => 0⟩
/-- XB_ECC_LOG.input: Crossbar input that wrote the cell -/
def F.XB_ECC_LOG_input : Fld := ⟨.XB_ECC_LOG, 29, 25, .ro, .live, fun _ _ => 0⟩
/-- XB_ECC_LOG.cell: Larder cell address -/
def F.XB_ECC_LOG_cell : Fld := ⟨.XB_ECC_LOG, 18, 0, .ro, .live, fun _ _ => 0⟩
/-- XB_EVENT.grp_busy: R205 -/
def F.XB_EVENT_grp_busy : Fld := ⟨.XB_EVENT, 6, 6, .w1c, .live, fun _ _ => 0⟩
/-- XB_EVENT.grp_refused: R202, or an operation on index 0 -/
def F.XB_EVENT_grp_refused : Fld := ⟨.XB_EVENT, 5, 5, .w1c, .live, fun _ _ => 0⟩
/-- XB_EVENT.grp_miss: R203 -/
def F.XB_EVENT_grp_miss : Fld := ⟨.XB_EVENT, 4, 4, .w1c, .live, fun _ _ => 0⟩
/-- XB_EVENT.hdr_err: R184 -/
def F.XB_EVENT_hdr_err : Fld := ⟨.XB_EVENT, 3, 3, .w1c, .live, fun _ _ => 0⟩
/-- XB_EVENT.ecc_uncorrected: R192 -/
def F.XB_EVENT_ecc_uncorrected : Fld := ⟨.XB_EVENT, 2, 2, .w1c, .live, fun _ _ => 0⟩
/-- XB_EVENT.resp_reserve_hit: shared_free fell to resp_reserve -/
def F.XB_EVENT_resp_reserve_hit : Fld := ⟨.XB_EVENT, 1, 1, .w1c, .live, fun _ _ => 0⟩
/-- XB_EVENT.in_stall: Some input began to withhold credit -/
def F.XB_EVENT_in_stall : Fld := ⟨.XB_EVENT, 0, 0, .w1c, .live, fun _ _ => 0⟩
/-- BD_STATUS.tables_ready: Set once the Inventory's tables are loaded and decoding runs -/
def F.BD_STATUS_tables_ready : Fld := ⟨.BD_STATUS, 0, 0, .ro, .live, fun _ _ => 0⟩
/-- BD_UNBIND_TMO.unbind_tmo: Drain limit of Table 7.4 in units of 100 µs; 0 is stored as 1 -/
def F.BD_UNBIND_TMO_unbind_tmo : Fld := ⟨.BD_UNBIND_TMO, 15, 0, .rw, .live, fun _ _ => 1000⟩
/-- BD_TBL_CMD.go: Starts the operation. Ignored while busy = 1, with tbl_busy set. -/
def F.BD_TBL_CMD_go : Fld := ⟨.BD_TBL_CMD, 31, 31, .wo, .live, fun _ _ => 0⟩
/-- BD_TBL_CMD.busy: An operation is in progress -/
def F.BD_TBL_CMD_busy : Fld := ⟨.BD_TBL_CMD, 30, 30, .ro, .live, fun _ _ => 0⟩
/-- BD_TBL_CMD.op: 0 read into DATA; 1 write DATA to the entry; 2 clear the entry; 3 set mirror_grp from DATA0 [23:12] (table 2 only, R221) -/
def F.BD_TBL_CMD_op : Fld := ⟨.BD_TBL_CMD, 29, 28, .rw, .live, fun _ _ => 0⟩
/-- BD_TBL_CMD.table: Table 7.9 -/
def F.BD_TBL_CMD_table : Fld := ⟨.BD_TBL_CMD, 27, 26, .rw, .live, fun _ _ => 0⟩
/-- BD_TBL_CMD.index: Entry index -/
def F.BD_TBL_CMD_index : Fld := ⟨.BD_TBL_CMD, 11, 0, .rw, .live, fun _ _ => 0⟩
/-- BD_TBL_DATAw.data: Word w of the entry -/
def F.BD_TBL_DATAw_data : Fld := ⟨.BD_TBL_DATAw, 31, 0, .rw, .live, fun _ _ => 0⟩
/-- BD_LD_SHARE_q.share, part i of 16 (1 bit each): Bit l allows LD l of the port at quad q to be bound in several VCSs (R211). Changed by Set LD Share. -/
def F.BD_LD_SHARE_q_share (i : Nat) : Fld := ⟨.BD_LD_SHARE_q, 0 + 1 * i + 0, 0 + 1 * i, .ro, .live, fun _ _ => 0⟩
/-- BD_CNT_MISS.dec_miss: Requests completed by R220 -/
def F.BD_CNT_MISS_dec_miss : Fld := ⟨.BD_CNT_MISS, 31, 0, .ro, .live, fun _ _ => 0⟩
/-- BD_CNT_MISC.shared_cfg_wr: Writes discarded by R213 -/
def F.BD_CNT_MISC_shared_cfg_wr : Fld := ⟨.BD_CNT_MISC, 31, 16, .ro, .live, fun _ _ => 0⟩
/-- BD_CNT_MISC.bi_misroute: BISnp dropped by R224 -/
def F.BD_CNT_MISC_bi_misroute : Fld := ⟨.BD_CNT_MISC, 15, 0, .ro, .live, fun _ _ => 0⟩
/-- BD_MISS_LOG_LO.hpa: HPA bits [31:6] of the first miss since valid was cleared -/
def F.BD_MISS_LOG_LO_hpa : Fld := ⟨.BD_MISS_LOG_LO, 31, 6, .ro, .live, fun _ _ => 0⟩
/-- BD_MISS_LOG_HI.valid: A miss is logged. Clearing it frees the log. -/
def F.BD_MISS_LOG_HI_valid : Fld := ⟨.BD_MISS_LOG_HI, 31, 31, .w1c, .live, fun _ _ => 0⟩
/-- BD_MISS_LOG_HI.tc: Class of the request -/
def F.BD_MISS_LOG_HI_tc : Fld := ⟨.BD_MISS_LOG_HI, 30, 27, .ro, .live, fun _ _ => 0⟩
/-- BD_MISS_LOG_HI.vcs: VCS number -/
def F.BD_MISS_LOG_HI_vcs : Fld := ⟨.BD_MISS_LOG_HI, 26, 20, .ro, .live, fun _ _ => 0⟩
/-- BD_MISS_LOG_HI.hpa: HPA bits [51:32] -/
def F.BD_MISS_LOG_HI_hpa : Fld := ⟨.BD_MISS_LOG_HI, 19, 0, .ro, .live, fun _ _ => 0⟩
/-- BD_EVENT.unbind_forced: Table 7.4 -/
def F.BD_EVENT_unbind_forced : Fld := ⟨.BD_EVENT, 5, 5, .w1c, .live, fun _ _ => 0⟩
/-- BD_EVENT.tbl_busy: go written while busy -/
def F.BD_EVENT_tbl_busy : Fld := ⟨.BD_EVENT, 4, 4, .w1c, .live, fun _ _ => 0⟩
/-- BD_EVENT.tbl_refused: R234 -/
def F.BD_EVENT_tbl_refused : Fld := ⟨.BD_EVENT, 3, 3, .w1c, .live, fun _ _ => 0⟩
/-- BD_EVENT.dec_refused: R217, R221 -/
def F.BD_EVENT_dec_refused : Fld := ⟨.BD_EVENT, 2, 2, .w1c, .live, fun _ _ => 0⟩
/-- BD_EVENT.bi_misroute: R224 -/
def F.BD_EVENT_bi_misroute : Fld := ⟨.BD_EVENT, 1, 1, .w1c, .live, fun _ _ => 0⟩
/-- BD_EVENT.dec_miss: R220 -/
def F.BD_EVENT_dec_miss : Fld := ⟨.BD_EVENT, 0, 0, .w1c, .live, fun _ _ => 0⟩
/-- CA_CTRL.bisnp_max: Snoops outstanding per VCS (R252); 0 is stored as 1 -/
def F.CA_CTRL_bisnp_max : Fld := ⟨.CA_CTRL, 23, 16, .rw, .live, fun _ _ => 64⟩
/-- CA_CTRL.snoop_retry_en: Resend a timed-out snoop once (R256) -/
def F.CA_CTRL_snoop_retry_en : Fld := ⟨.CA_CTRL, 1, 1, .rw, .live, fun _ _ => 1⟩
/-- CA_CTRL.ready: D15 is On and the agent runs -/
def F.CA_CTRL_ready : Fld := ⟨.CA_CTRL, 0, 0, .ro, .live, fun _ _ => 0⟩
/-- CA_STATUS.walk_busy: A pass of R263 is running -/
def F.CA_STATUS_walk_busy : Fld := ⟨.CA_STATUS, 31, 31, .ro, .live, fun _ _ => 0⟩
/-- CA_STATUS.walk_vcs: Lowest VCS in the unbinding or reset set of the running pass. Meaningful only while walk_unbind or walk_reset is 1. -/
def F.CA_STATUS_walk_vcs : Fld := ⟨.CA_STATUS, 30, 24, .ro, .live, fun _ _ => 0⟩
/-- CA_STATUS.walk_region: The running pass discards regions -/
def F.CA_STATUS_walk_region : Fld := ⟨.CA_STATUS, 23, 23, .ro, .live, fun _ _ => 0⟩
/-- CA_STATUS.walk_unbind: The running pass snoops out unbinding VCSs -/
def F.CA_STATUS_walk_unbind : Fld := ⟨.CA_STATUS, 22, 22, .ro, .live, fun _ _ => 0⟩
/-- CA_STATUS.walk_reset: The running pass removes reset VCSs -/
def F.CA_STATUS_walk_reset : Fld := ⟨.CA_STATUS, 21, 21, .ro, .live, fun _ _ => 0⟩
/-- CA_STATUS.walk_queued: Work waits for the next pass -/
def F.CA_STATUS_walk_queued : Fld := ⟨.CA_STATUS, 20, 20, .ro, .live, fun _ _ => 0⟩
/-- CA_STATUS.snoops_out: Snoop slots in use, 0–4,096 -/
def F.CA_STATUS_snoops_out : Fld := ⟨.CA_STATUS, 12, 0, .ro, .live, fun _ _ => 0⟩
/-- CA_SNOOP_TMO.snoop_tmo: Snoop timeout in µs; 0 is stored as 1 -/
def F.CA_SNOOP_TMO_snoop_tmo : Fld := ⟨.CA_SNOOP_TMO, 15, 0, .rw, .live, fun _ _ => 100⟩
/-- CA_TBL_CMD.go: Starts the operation. Ignored while busy = 1, with tbl_busy set. -/
def F.CA_TBL_CMD_go : Fld := ⟨.CA_TBL_CMD, 31, 31, .wo, .live, fun _ _ => 0⟩
/-- CA_TBL_CMD.busy: An operation is in progress -/
def F.CA_TBL_CMD_busy : Fld := ⟨.CA_TBL_CMD, 30, 30, .ro, .live, fun _ _ => 0⟩
/-- CA_TBL_CMD.op: 0 read; 1 write; 2 clear; 3 look up by key (table 1 only) -/
def F.CA_TBL_CMD_op : Fld := ⟨.CA_TBL_CMD, 29, 28, .rw, .live, fun _ _ => 0⟩
/-- CA_TBL_CMD.table: 0 regions, index 0–63, words 0–2; 1 Loft, index set × 16 + way, words 0–3 with word 3 holding bits [127:96]; 2 and 3 reserved -/
def F.CA_TBL_CMD_table : Fld := ⟨.CA_TBL_CMD, 27, 26, .rw, .live, fun _ _ => 0⟩
/-- CA_TBL_CMD.hit: The last look-up found an entry and wrote its index to index -/
def F.CA_TBL_CMD_hit : Fld := ⟨.CA_TBL_CMD, 25, 25, .ro, .live, fun _ _ => 0⟩
/-- CA_TBL_CMD.index: Entry index -/
def F.CA_TBL_CMD_index : Fld := ⟨.CA_TBL_CMD, 19, 0, .rw, .live, fun _ _ => 0⟩
/-- CA_TBL_DATAw.data: Word w of the entry. For a look-up, DATA0 holds address bits [37:6]; DATA1 holds address bits [51:38] in [13:0], quad in [23:20] and ld in [27:24]. -/
def F.CA_TBL_DATAw_data : Fld := ⟨.CA_TBL_DATAw, 31, 0, .rw, .live, fun _ _ => 0⟩
/-- CA_OCCUPANCY.entries: Valid Loft entries -/
def F.CA_OCCUPANCY_entries : Fld := ⟨.CA_OCCUPANCY, 20, 0, .ro, .live, fun _ _ => 0⟩
/-- CA_CNT_LOOKUP.lookups: Agent messages looked up -/
def F.CA_CNT_LOOKUP_lookups : Fld := ⟨.CA_CNT_LOOKUP, 31, 0, .ro, .live, fun _ _ => 0⟩
/-- CA_CNT_SNOOP.bisnp: BISnp sent, resends included -/
def F.CA_CNT_SNOOP_bisnp : Fld := ⟨.CA_CNT_SNOOP, 31, 0, .ro, .live, fun _ _ => 0⟩
/-- CA_CNT_EVICT.evictions: Entries evicted (R258) -/
def F.CA_CNT_EVICT_evictions : Fld := ⟨.CA_CNT_EVICT, 31, 16, .ro, .live, fun _ _ => 0⟩
/-- CA_CNT_EVICT.coarse: Lines turned coarse (R243) -/
def F.CA_CNT_EVICT_coarse : Fld := ⟨.CA_CNT_EVICT, 15, 0, .ro, .live, fun _ _ => 0⟩
/-- CA_CNT_MISC.snoop_retry: Snoops resent (R256) -/
def F.CA_CNT_MISC_snoop_retry : Fld := ⟨.CA_CNT_MISC, 31, 24, .ro, .live, fun _ _ => 0⟩
/-- CA_CNT_MISC.snoop_lost: Snoops lost (R256, R257) -/
def F.CA_CNT_MISC_snoop_lost : Fld := ⟨.CA_CNT_MISC, 23, 16, .ro, .live, fun _ _ => 0⟩
/-- CA_CNT_MISC.dev_bi_drop: Device BISnp dropped (R238) -/
def F.CA_CNT_MISC_dev_bi_drop : Fld := ⟨.CA_CNT_MISC, 15, 8, .ro, .live, fun _ _ => 0⟩
/-- CA_CNT_MISC.non_bi_req: Requests refused by R240 -/
def F.CA_CNT_MISC_non_bi_req : Fld := ⟨.CA_CNT_MISC, 7, 0, .ro, .live, fun _ _ => 0⟩
/-- CA_CNT_MISC2.birsp_unexpected: R247 -/
def F.CA_CNT_MISC2_birsp_unexpected : Fld := ⟨.CA_CNT_MISC2, 31, 16, .ro, .live, fun _ _ => 0⟩
/-- CA_CNT_MISC2.poison_writes: Lines poisoned by R256 -/
def F.CA_CNT_MISC2_poison_writes : Fld := ⟨.CA_CNT_MISC2, 15, 0, .ro, .live, fun _ _ => 0⟩
/-- CA_LOST_LOG_LO.addr_lo: Device address bits [37:6] of the first lost snoop since valid was cleared. Read as R9. -/
def F.CA_LOST_LOG_LO_addr_lo : Fld := ⟨.CA_LOST_LOG_LO, 31, 0, .ro, .live, fun _ _ => 0⟩
/-- CA_LOST_LOG_HI.valid: A loss is logged. Clearing it frees the log. -/
def F.CA_LOST_LOG_HI_valid : Fld := ⟨.CA_LOST_LOG_HI, 31, 31, .w1c, .live, fun _ _ => 0⟩
/-- CA_LOST_LOG_HI.vcs: VCS snooped -/
def F.CA_LOST_LOG_HI_vcs : Fld := ⟨.CA_LOST_LOG_HI, 30, 24, .ro, .live, fun _ _ => 0⟩
/-- CA_LOST_LOG_HI.quad: Memory port quad -/
def F.CA_LOST_LOG_HI_quad : Fld := ⟨.CA_LOST_LOG_HI, 23, 20, .ro, .live, fun _ _ => 0⟩
/-- CA_LOST_LOG_HI.ld: LD -/
def F.CA_LOST_LOG_HI_ld : Fld := ⟨.CA_LOST_LOG_HI, 19, 16, .ro, .live, fun _ _ => 0⟩
/-- CA_LOST_LOG_HI.poisoned: The line was poisoned -/
def F.CA_LOST_LOG_HI_poisoned : Fld := ⟨.CA_LOST_LOG_HI, 15, 15, .ro, .live, fun _ _ => 0⟩
/-- CA_LOST_LOG_HI.addr_hi: Device address bits [51:38] -/
def F.CA_LOST_LOG_HI_addr_hi : Fld := ⟨.CA_LOST_LOG_HI, 13, 0, .ro, .live, fun _ _ => 0⟩
/-- CA_EVENT.loft_uncorrected: R260 -/
def F.CA_EVENT_loft_uncorrected : Fld := ⟨.CA_EVENT, 8, 8, .w1c, .live, fun _ _ => 0⟩
/-- CA_EVENT.snoop_lost: R256, R257 -/
def F.CA_EVENT_snoop_lost : Fld := ⟨.CA_EVENT, 7, 7, .w1c, .live, fun _ _ => 0⟩
/-- CA_EVENT.snoop_retry: A snoop was resent -/
def F.CA_EVENT_snoop_retry : Fld := ⟨.CA_EVENT, 6, 6, .w1c, .live, fun _ _ => 0⟩
/-- CA_EVENT.birsp_unexpected: R247 -/
def F.CA_EVENT_birsp_unexpected : Fld := ⟨.CA_EVENT, 5, 5, .w1c, .live, fun _ _ => 0⟩
/-- CA_EVENT.dev_bi_drop: R238 -/
def F.CA_EVENT_dev_bi_drop : Fld := ⟨.CA_EVENT, 4, 4, .w1c, .live, fun _ _ => 0⟩
/-- CA_EVENT.non_bi_req: R240 -/
def F.CA_EVENT_non_bi_req : Fld := ⟨.CA_EVENT, 3, 3, .w1c, .live, fun _ _ => 0⟩
/-- CA_EVENT.region_refused: R237 -/
def F.CA_EVENT_region_refused : Fld := ⟨.CA_EVENT, 2, 2, .w1c, .live, fun _ _ => 0⟩
/-- CA_EVENT.tbl_refused: A write or clear of table 1, or an operation on an index or table out of range (Table 8.12) -/
def F.CA_EVENT_tbl_refused : Fld := ⟨.CA_EVENT, 1, 1, .w1c, .live, fun _ _ => 0⟩
/-- CA_EVENT.tbl_busy: go written while busy -/
def F.CA_EVENT_tbl_busy : Fld := ⟨.CA_EVENT, 0, 0, .w1c, .live, fun _ _ => 0⟩
/-- MR_CTRL.engine: Data-mover engine used by resilvers -/
def F.MR_CTRL_engine : Fld := ⟨.MR_CTRL, 22, 20, .rw, .staged, fun _ _ => 0⟩
/-- MR_CTRL.poison_fail: Table 9.3, cause 6; 0 disables -/
def F.MR_CTRL_poison_fail : Fld := ⟨.MR_CTRL, 15, 8, .rw, .live, fun _ _ => 16⟩
/-- MR_CTRL.blk_gap: Wait between resilver blocks, in units of 100 ns -/
def F.MR_CTRL_blk_gap : Fld := ⟨.MR_CTRL, 7, 0, .rw, .live, fun _ _ => 0⟩
/-- MR_STATUS.ready: D16 is On -/
def F.MR_STATUS_ready : Fld := ⟨.MR_STATUS, 31, 31, .ro, .live, fun _ _ => 0⟩
/-- MR_STATUS.guards_used: Guards in use, 0–64 -/
def F.MR_STATUS_guards_used : Fld := ⟨.MR_STATUS, 22, 16, .ro, .live, fun _ _ => 0⟩
/-- MR_STATUS.repair_q: Lines in the repair queue, 0–256 -/
def F.MR_STATUS_repair_q : Fld := ⟨.MR_STATUS, 8, 0, .ro, .live, fun _ _ => 0⟩
/-- MR_TMO.copy_tmo: R275, in units of 100 µs; 0 is stored as 1 -/
def F.MR_TMO_copy_tmo : Fld := ⟨.MR_TMO, 15, 0, .rw, .live, fun _ _ => 20⟩
/-- MR_TBL_CMD.go: Starts op. Ignored while busy = 1, with tbl_busy set. -/
def F.MR_TBL_CMD_go : Fld := ⟨.MR_TBL_CMD, 31, 31, .wo, .live, fun _ _ => 0⟩
/-- MR_TBL_CMD.busy: An operation is in progress -/
def F.MR_TBL_CMD_busy : Fld := ⟨.MR_TBL_CMD, 30, 30, .ro, .live, fun _ _ => 0⟩
/-- MR_TBL_CMD.op: 0 read into DATA; 1 write; 2 clear; 3 reserved -/
def F.MR_TBL_CMD_op : Fld := ⟨.MR_TBL_CMD, 29, 28, .rw, .live, fun _ _ => 0⟩
/-- MR_TBL_CMD.index: Group index; index 0 is refused with mr_refused -/
def F.MR_TBL_CMD_index : Fld := ⟨.MR_TBL_CMD, 11, 0, .rw, .live, fun _ _ => 0⟩
/-- MR_TBL_DATAw.data: Word w of Table 9.1 -/
def F.MR_TBL_DATAw_data : Fld := ⟨.MR_TBL_DATAw, 31, 0, .rw, .live, fun _ _ => 0⟩
/-- MR_COPY_CMD.go: Starts op. Ignored while busy = 1, with tbl_busy set. -/
def F.MR_COPY_CMD_go : Fld := ⟨.MR_COPY_CMD, 31, 31, .wo, .live, fun _ _ => 0⟩
/-- MR_COPY_CMD.busy: A command is in progress -/
def F.MR_COPY_CMD_busy : Fld := ⟨.MR_COPY_CMD, 30, 30, .ro, .live, fun _ _ => 0⟩
/-- MR_COPY_CMD.op: 0 fail; 1 resilver; 2 force Healthy (R285); 3 stop resilver -/
def F.MR_COPY_CMD_op : Fld := ⟨.MR_COPY_CMD, 29, 28, .rw, .live, fun _ _ => 0⟩
/-- MR_COPY_CMD.copy: 0 copy A, 1 copy B -/
def F.MR_COPY_CMD_copy : Fld := ⟨.MR_COPY_CMD, 27, 27, .rw, .live, fun _ _ => 0⟩
/-- MR_COPY_CMD.index: Group index -/
def F.MR_COPY_CMD_index : Fld := ⟨.MR_COPY_CMD, 11, 0, .rw, .live, fun _ _ => 0⟩
/-- MR_RESILVER.active: A resilver runs on this die -/
def F.MR_RESILVER_active : Fld := ⟨.MR_RESILVER, 31, 31, .ro, .live, fun _ _ => 0⟩
/-- MR_RESILVER.copy: Copy being resilvered -/
def F.MR_RESILVER_copy : Fld := ⟨.MR_RESILVER, 30, 30, .ro, .live, fun _ _ => 0⟩
/-- MR_RESILVER.index: Group index -/
def F.MR_RESILVER_index : Fld := ⟨.MR_RESILVER, 23, 12, .ro, .live, fun _ _ => 0⟩
/-- MR_RESILVER.in_flight: Blocks in flight, 0–8 -/
def F.MR_RESILVER_in_flight : Fld := ⟨.MR_RESILVER, 3, 0, .ro, .live, fun _ _ => 0⟩
/-- MR_CNT_REPAIR.reads_repaired: R279 -/
def F.MR_CNT_REPAIR_reads_repaired : Fld := ⟨.MR_CNT_REPAIR, 31, 16, .ro, .live, fun _ _ => 0⟩
/-- MR_CNT_REPAIR.rewrites_done: Lines rewritten by R280 -/
def F.MR_CNT_REPAIR_rewrites_done : Fld := ⟨.MR_CNT_REPAIR, 15, 0, .ro, .live, fun _ _ => 0⟩
/-- MR_CNT_MISC.dual_poison: R279 -/
def F.MR_CNT_MISC_dual_poison : Fld := ⟨.MR_CNT_MISC, 31, 24, .ro, .live, fun _ _ => 0⟩
/-- MR_CNT_MISC.repair_skipped: R281 -/
def F.MR_CNT_MISC_repair_skipped : Fld := ⟨.MR_CNT_MISC, 23, 16, .ro, .live, fun _ _ => 0⟩
/-- MR_CNT_MISC.rewrites_discarded: R280, step 4 -/
def F.MR_CNT_MISC_rewrites_discarded : Fld := ⟨.MR_CNT_MISC, 15, 8, .ro, .live, fun _ _ => 0⟩
/-- MR_CNT_MISC.out_of_range: R271 -/
def F.MR_CNT_MISC_out_of_range : Fld := ⟨.MR_CNT_MISC, 7, 0, .ro, .live, fun _ _ => 0⟩
/-- MR_CNT_FAIL.copy_fails: Copies entered Failed -/
def F.MR_CNT_FAIL_copy_fails : Fld := ⟨.MR_CNT_FAIL, 31, 24, .ro, .live, fun _ _ => 0⟩
/-- MR_CNT_FAIL.lost: Entries that set lost -/
def F.MR_CNT_FAIL_lost : Fld := ⟨.MR_CNT_FAIL, 23, 16, .ro, .live, fun _ _ => 0⟩
/-- MR_CNT_FAIL.resilvers_done: Resilvers completed -/
def F.MR_CNT_FAIL_resilvers_done : Fld := ⟨.MR_CNT_FAIL, 15, 8, .ro, .live, fun _ _ => 0⟩
/-- MR_CNT_FAIL.copy_tmo_hits: Copies resolved by copy_tmo -/
def F.MR_CNT_FAIL_copy_tmo_hits : Fld := ⟨.MR_CNT_FAIL, 7, 0, .ro, .live, fun _ _ => 0⟩
/-- MR_LOG.valid: A failure is logged. Clearing it frees the log. -/
def F.MR_LOG_valid : Fld := ⟨.MR_LOG, 31, 31, .w1c, .live, fun _ _ => 0⟩
/-- MR_LOG.cause: Table 9.3 -/
def F.MR_LOG_cause : Fld := ⟨.MR_LOG, 30, 28, .ro, .live, fun _ _ => 0⟩
/-- MR_LOG.copy: Copy that failed -/
def F.MR_LOG_copy : Fld := ⟨.MR_LOG, 27, 27, .ro, .live, fun _ _ => 0⟩
/-- MR_LOG.port: Its port -/
def F.MR_LOG_port : Fld := ⟨.MR_LOG, 26, 20, .ro, .live, fun _ _ => 0⟩
/-- MR_LOG.ld: Its LD -/
def F.MR_LOG_ld : Fld := ⟨.MR_LOG, 19, 16, .ro, .live, fun _ _ => 0⟩
/-- MR_LOG.index: Group index -/
def F.MR_LOG_index : Fld := ⟨.MR_LOG, 11, 0, .ro, .live, fun _ _ => 0⟩
/-- MR_EVENT.tbl_busy: go written while busy -/
def F.MR_EVENT_tbl_busy : Fld := ⟨.MR_EVENT, 8, 8, .w1c, .live, fun _ _ => 0⟩
/-- MR_EVENT.out_of_range: R271 -/
def F.MR_EVENT_out_of_range : Fld := ⟨.MR_EVENT, 7, 7, .w1c, .live, fun _ _ => 0⟩
/-- MR_EVENT.copy_refused: R286, or an op not allowed in the copy's state -/
def F.MR_EVENT_copy_refused : Fld := ⟨.MR_EVENT, 6, 6, .w1c, .live, fun _ _ => 0⟩
/-- MR_EVENT.mr_refused: R272 -/
def F.MR_EVENT_mr_refused : Fld := ⟨.MR_EVENT, 5, 5, .w1c, .live, fun _ _ => 0⟩
/-- MR_EVENT.dual_poison: R279 -/
def F.MR_EVENT_dual_poison : Fld := ⟨.MR_EVENT, 4, 4, .w1c, .live, fun _ _ => 0⟩
/-- MR_EVENT.repair: A read was repaired -/
def F.MR_EVENT_repair : Fld := ⟨.MR_EVENT, 3, 3, .w1c, .live, fun _ _ => 0⟩
/-- MR_EVENT.resilver_done: R287 -/
def F.MR_EVENT_resilver_done : Fld := ⟨.MR_EVENT, 2, 2, .w1c, .live, fun _ _ => 0⟩
/-- MR_EVENT.lost: R285 -/
def F.MR_EVENT_lost : Fld := ⟨.MR_EVENT, 1, 1, .w1c, .live, fun _ _ => 0⟩
/-- MR_EVENT.copy_failed: R283 -/
def F.MR_EVENT_copy_failed : Fld := ⟨.MR_EVENT, 0, 0, .w1c, .live, fun _ _ => 0⟩
/-- OV_CTRL.engine: Data-mover engine used by migrations -/
def F.OV_CTRL_engine : Fld := ⟨.OV_CTRL, 18, 16, .rw, .staged, fun _ _ => 1⟩
/-- OV_CTRL.mig_window: R292, 1 to 16; 0 is stored as 1, and above 16 as 16 -/
def F.OV_CTRL_mig_window : Fld := ⟨.OV_CTRL, 12, 8, .rw, .live, fun _ _ => 8⟩
/-- OV_STATUS.ready: D16 is On -/
def F.OV_STATUS_ready : Fld := ⟨.OV_STATUS, 31, 31, .ro, .live, fun _ _ => 0⟩
/-- OV_STATUS.slots_used: Migration slots in use, 0–64 -/
def F.OV_STATUS_slots_used : Fld := ⟨.OV_STATUS, 30, 24, .ro, .live, fun _ _ => 0⟩
/-- OV_STATUS.entries: Valid overlay entries -/
def F.OV_STATUS_entries : Fld := ⟨.OV_STATUS, 16, 0, .ro, .live, fun _ _ => 0⟩
/-- OV_CMD.go: Starts op. Ignored while busy = 1, with tbl_busy set. -/
def F.OV_CMD_go : Fld := ⟨.OV_CMD, 31, 31, .wo, .live, fun _ _ => 0⟩
/-- OV_CMD.busy: A command is in progress -/
def F.OV_CMD_busy : Fld := ⟨.OV_CMD, 30, 30, .ro, .live, fun _ _ => 0⟩
/-- OV_CMD.op: 0 look up; 1 start; 2 abort; 3 clear -/
def F.OV_CMD_op : Fld := ⟨.OV_CMD, 29, 28, .rw, .live, fun _ _ => 0⟩
/-- OV_CMD.hit: The key has an entry -/
def F.OV_CMD_hit : Fld := ⟨.OV_CMD, 27, 27, .ro, .live, fun _ _ => 0⟩
/-- OV_CMD.result: Table 9.10 -/
def F.OV_CMD_result : Fld := ⟨.OV_CMD, 26, 24, .ro, .live, fun _ _ => 0⟩
/-- OV_CMD.index: Entry index found or allocated -/
def F.OV_CMD_index : Fld := ⟨.OV_CMD, 15, 0, .ro, .live, fun _ _ => 0⟩
/-- OV_DATA0.key_lo: Key address bits [43:12] -/
def F.OV_DATA0_key_lo : Fld := ⟨.OV_DATA0, 31, 0, .rw, .live, fun _ _ => 0⟩
/-- OV_DATA1.quad: Key quad -/
def F.OV_DATA1_quad : Fld := ⟨.OV_DATA1, 23, 20, .rw, .live, fun _ _ => 0⟩
/-- OV_DATA1.ld: Key LD -/
def F.OV_DATA1_ld : Fld := ⟨.OV_DATA1, 19, 16, .rw, .live, fun _ _ => 0⟩
/-- OV_DATA1.key_hi: Key address bits [51:44] -/
def F.OV_DATA1_key_hi : Fld := ⟨.OV_DATA1, 7, 0, .rw, .live, fun _ _ => 0⟩
/-- OV_DATA2.new_a: Start: destination laid out as word 2 of Table 9.4 -/
def F.OV_DATA2_new_a : Fld := ⟨.OV_DATA2, 31, 0, .rw, .live, fun _ _ => 0⟩
/-- OV_DATA3.new_b: Start: destination laid out as word 3 of Table 9.4 -/
def F.OV_DATA3_new_b : Fld := ⟨.OV_DATA3, 31, 0, .rw, .live, fun _ _ => 0⟩
/-- OV_DATA4_7.data: Unused by commands. A look-up that hits overwrites DATA0–7 with the entry's eight words. -/
def F.OV_DATA4_7_data : Fld := ⟨.OV_DATA4_7, 31, 0, .rw, .live, fun _ _ => 0⟩
/-- OV_CNT_MIG.done: Migrations completed -/
def F.OV_CNT_MIG_done : Fld := ⟨.OV_CNT_MIG, 31, 16, .ro, .live, fun _ _ => 0⟩
/-- OV_CNT_MIG.aborted: Migrations aborted -/
def F.OV_CNT_MIG_aborted : Fld := ⟨.OV_CNT_MIG, 15, 0, .ro, .live, fun _ _ => 0⟩
/-- OV_CNT_MISC.dual_writes: R293 -/
def F.OV_CNT_MISC_dual_writes : Fld := ⟨.OV_CNT_MISC, 31, 16, .ro, .live, fun _ _ => 0⟩
/-- OV_CNT_MISC.write_waits: Writes that waited for a line being copied -/
def F.OV_CNT_MISC_write_waits : Fld := ⟨.OV_CNT_MISC, 15, 0, .ro, .live, fun _ _ => 0⟩
/-- OV_SLOT_s.active: The slot holds a migration -/
def F.OV_SLOT_s_active : Fld := ⟨.OV_SLOT_s, 31, 31, .ro, .live, fun _ _ => 0⟩
/-- OV_SLOT_s.draining: Switched or aborted, with messages outstanding -/
def F.OV_SLOT_s_draining : Fld := ⟨.OV_SLOT_s, 30, 30, .ro, .live, fun _ _ => 0⟩
/-- OV_SLOT_s.done: R294 -/
def F.OV_SLOT_s_done : Fld := ⟨.OV_SLOT_s, 29, 29, .w1c, .live, fun _ _ => 0⟩
/-- OV_SLOT_s.aborted: R295 -/
def F.OV_SLOT_s_aborted : Fld := ⟨.OV_SLOT_s, 28, 28, .w1c, .live, fun _ _ => 0⟩
/-- OV_SLOT_s.copied: Lines copied, 0–64 -/
def F.OV_SLOT_s_copied : Fld := ⟨.OV_SLOT_s, 27, 21, .ro, .live, fun _ _ => 0⟩
/-- OV_SLOT_s.index: Entry index -/
def F.OV_SLOT_s_index : Fld := ⟨.OV_SLOT_s, 15, 0, .ro, .live, fun _ _ => 0⟩
/-- OV_EVENT.poison_copied: R292 -/
def F.OV_EVENT_poison_copied : Fld := ⟨.OV_EVENT, 4, 4, .w1c, .live, fun _ _ => 0⟩
/-- OV_EVENT.tbl_busy: go written while busy -/
def F.OV_EVENT_tbl_busy : Fld := ⟨.OV_EVENT, 3, 3, .w1c, .live, fun _ _ => 0⟩
/-- OV_EVENT.cmd_refused: A command ended with a result other than 0 -/
def F.OV_EVENT_cmd_refused : Fld := ⟨.OV_EVENT, 2, 2, .w1c, .live, fun _ _ => 0⟩
/-- OV_EVENT.mig_aborted: R295 -/
def F.OV_EVENT_mig_aborted : Fld := ⟨.OV_EVENT, 1, 1, .w1c, .live, fun _ _ => 0⟩
/-- OV_EVENT.mig_done: R294 -/
def F.OV_EVENT_mig_done : Fld := ⟨.OV_EVENT, 0, 0, .w1c, .live, fun _ _ => 0⟩
/-- SC_CTRL.commit: Applies the Staged fields of this block -/
def F.SC_CTRL_commit : Fld := ⟨.SC_CTRL, 31, 31, .wo, .live, fun _ _ => 0⟩
/-- SC_CTRL.ready: Set once the Inventory has been applied and the scheduler runs -/
def F.SC_CTRL_ready : Fld := ⟨.SC_CTRL, 0, 0, .ro, .live, fun _ _ => 0⟩
/-- SC_STATUS.wheel_slot: Slot being served, 0–4,095 -/
def F.SC_STATUS_wheel_slot : Fld := ⟨.SC_STATUS, 27, 16, .ro, .live, fun _ _ => 0⟩
/-- SC_STATUS.shapers_en: Enabled shapers, 0–1,024 -/
def F.SC_STATUS_shapers_en : Fld := ⟨.SC_STATUS, 10, 0, .ro, .live, fun _ _ => 0⟩
/-- SC_SHP_CMD.go: Starts op. Ignored while busy = 1, with tbl_busy set. -/
def F.SC_SHP_CMD_go : Fld := ⟨.SC_SHP_CMD, 31, 31, .wo, .live, fun _ _ => 0⟩
/-- SC_SHP_CMD.busy: An operation is in progress -/
def F.SC_SHP_CMD_busy : Fld := ⟨.SC_SHP_CMD, 30, 30, .ro, .live, fun _ _ => 0⟩
/-- SC_SHP_CMD.op: 0 read into DATA0–3; 1 write DATA0–2; 2 clear; 3 reserved -/
def F.SC_SHP_CMD_op : Fld := ⟨.SC_SHP_CMD, 29, 28, .rw, .live, fun _ _ => 0⟩
/-- SC_SHP_CMD.tok_reset: 0 keep, 1 full, 2 zero (R312, R313); 3 is stored as 0 -/
def F.SC_SHP_CMD_tok_reset : Fld := ⟨.SC_SHP_CMD, 27, 26, .rw, .live, fun _ _ => 0⟩
/-- SC_SHP_CMD.index: Shaper, 0–1,023 -/
def F.SC_SHP_CMD_index : Fld := ⟨.SC_SHP_CMD, 9, 0, .rw, .live, fun _ _ => 0⟩
/-- SC_SHP_DATAw.data: Word w of Table 10.9. A write ignores DATA3. -/
def F.SC_SHP_DATAw_data : Fld := ⟨.SC_SHP_DATAw, 31, 0, .rw, .live, fun _ _ => 0⟩
/-- SC_CNT_SPILL.spills: Shapers moved to a later slot (R311) -/
def F.SC_CNT_SPILL_spills : Fld := ⟨.SC_CNT_SPILL, 31, 0, .ro, .live, fun _ _ => 0⟩
/-- SC_CNT_MISC.starve_promotions: R302 -/
def F.SC_CNT_MISC_starve_promotions : Fld := ⟨.SC_CNT_MISC, 31, 16, .ro, .live, fun _ _ => 0⟩
/-- SC_CNT_MISC.police_holds: Entries of any policer into withholding (R309) -/
def F.SC_CNT_MISC_police_holds : Fld := ⟨.SC_CNT_MISC, 15, 0, .ro, .live, fun _ _ => 0⟩
/-- SC_EVENT.arb_refused: R304 -/
def F.SC_EVENT_arb_refused : Fld := ⟨.SC_EVENT, 4, 4, .w1c, .live, fun _ _ => 0⟩
/-- SC_EVENT.shp_refused: R307, R312, R315 -/
def F.SC_EVENT_shp_refused : Fld := ⟨.SC_EVENT, 3, 3, .w1c, .live, fun _ _ => 0⟩
/-- SC_EVENT.tbl_busy: go written while busy -/
def F.SC_EVENT_tbl_busy : Fld := ⟨.SC_EVENT, 2, 2, .w1c, .live, fun _ _ => 0⟩
/-- SC_EVENT.starve: R302 -/
def F.SC_EVENT_starve : Fld := ⟨.SC_EVENT, 1, 1, .w1c, .live, fun _ _ => 0⟩
/-- SC_EVENT.wheel_spill: R311 -/
def F.SC_EVENT_wheel_spill : Fld := ⟨.SC_EVENT, 0, 0, .w1c, .live, fun _ _ => 0⟩
/-- SC_ARB_PRIO_q.level, part i of 9 (2 bit each): Level of entry e at [2e+1:2e] (R301, R304) -/
def F.SC_ARB_PRIO_q_level (i : Nat) : Fld := ⟨.SC_ARB_PRIO_q, 0 + 2 * i + 1, 0 + 2 * i, .rw, .staged, fun _ _ => 0x5015 / 2 ^ (2 * i) % 4⟩
/-- SC_ARB_WGT0_q.weight, part i of 4 (8 bit each): Weights of entries 0–3, entry e at [8e+7:8e]; 0 is stored as 1 -/
def F.SC_ARB_WGT0_q_weight (i : Nat) : Fld := ⟨.SC_ARB_WGT0_q, 0 + 8 * i + 7, 0 + 8 * i, .rw, .staged, fun _ _ => 134744072 / 2 ^ (8 * i) % 256⟩
/-- SC_ARB_WGT1_q.weight, part i of 4 (8 bit each): Entries 4–7, entry e at [8(e−4)+7:8(e−4)]; 0 is stored as 1 -/
def F.SC_ARB_WGT1_q_weight (i : Nat) : Fld := ⟨.SC_ARB_WGT1_q, 0 + 8 * i + 7, 0 + 8 * i, .rw, .staged, fun _ _ => 134744072 / 2 ^ (8 * i) % 256⟩
/-- SC_ARB_WGT2_q.weight: Entry 8; 0 is stored as 1 -/
def F.SC_ARB_WGT2_q_weight : Fld := ⟨.SC_ARB_WGT2_q, 7, 0, .rw, .staged, fun _ _ => 2⟩
/-- SC_ARB_STARVE_q.starve: R302, in units of 64 cycles; 0 disables the guard -/
def F.SC_ARB_STARVE_q_starve : Fld := ⟨.SC_ARB_STARVE_q, 7, 0, .rw, .staged, fun _ _ => 16⟩
/-- DM_Q_CTRL.en: Enables the queue (Table 11.5, R342) -/
def F.DM_Q_CTRL_en : Fld := ⟨.DM_Q_CTRL, 31, 31, .rw, .live, fun _ _ => 0⟩
/-- DM_Q_CTRL.pause: R330 -/
def F.DM_Q_CTRL_pause : Fld := ⟨.DM_Q_CTRL, 30, 30, .rw, .live, fun _ _ => 0⟩
/-- DM_Q_CTRL.resume: Leaves Halted (R340) -/
def F.DM_Q_CTRL_resume : Fld := ⟨.DM_Q_CTRL, 29, 29, .wo, .live, fun _ _ => 0⟩
/-- DM_Q_CFG.owned: Carved for an instance; set by the Pantry -/
def F.DM_Q_CFG_owned : Fld := ⟨.DM_Q_CFG, 31, 31, .ro, .live, fun _ _ => 0⟩
/-- DM_Q_CFG.owner: Owning instance, 0–511 -/
def F.DM_Q_CFG_owner : Fld := ⟨.DM_Q_CFG, 30, 22, .ro, .live, fun _ _ => 0⟩
/-- DM_Q_CFG.type: 0 ring, 1 chain -/
def F.DM_Q_CFG_type : Fld := ⟨.DM_Q_CFG, 21, 21, .rw, .quiet, fun _ _ => 0⟩
/-- DM_Q_CFG.asp: Address form (R321) -/
def F.DM_Q_CFG_asp : Fld := ⟨.DM_Q_CFG, 20, 20, .rw, .quiet, fun _ _ => 0⟩
/-- DM_Q_CFG.engine: Engine serving the queue -/
def F.DM_Q_CFG_engine : Fld := ⟨.DM_Q_CFG, 19, 17, .rw, .quiet, fun _ _ => 0⟩
/-- DM_Q_CFG.vcs_quad: Local quad of the VCS, asp = 0 -/
def F.DM_Q_CFG_vcs_quad : Fld := ⟨.DM_Q_CFG, 16, 13, .rw, .quiet, fun _ _ => 0⟩
/-- DM_Q_CFG.size_log2: Ring entries 2^size_log2, 5–16; ignored for chains -/
def F.DM_Q_CFG_size_log2 : Fld := ⟨.DM_Q_CFG, 12, 8, .rw, .quiet, fun _ _ => 5⟩
/-- DM_Q_CFG.weight: R343; 0 is stored as 1 -/
def F.DM_Q_CFG_weight : Fld := ⟨.DM_Q_CFG, 7, 0, .rw, .quiet, fun _ _ => 4⟩
/-- DM_Q_BASE_LO.base: Ring base, or first chain descriptor. Read as R9, written as R8. -/
def F.DM_Q_BASE_LO_base : Fld := ⟨.DM_Q_BASE_LO, 31, 0, .rw, .quiet, fun _ _ => 0⟩
/-- DM_Q_BASE_HI.base: Ring base, or first chain descriptor. Read as R9, written as R8. -/
def F.DM_Q_BASE_HI_base : Fld := ⟨.DM_Q_BASE_HI, 31, 0, .rw, .quiet, fun _ _ => 0⟩
/-- DM_Q_CQ_BASE_LO.cq_base: Completion-ring base -/
def F.DM_Q_CQ_BASE_LO_cq_base : Fld := ⟨.DM_Q_CQ_BASE_LO, 31, 0, .rw, .quiet, fun _ _ => 0⟩
/-- DM_Q_CQ_BASE_HI.cq_base: Completion-ring base -/
def F.DM_Q_CQ_BASE_HI_cq_base : Fld := ⟨.DM_Q_CQ_BASE_HI, 31, 0, .rw, .quiet, fun _ _ => 0⟩
/-- DM_Q_CQ_CFG.int_en: R338 -/
def F.DM_Q_CQ_CFG_int_en : Fld := ⟨.DM_Q_CQ_CFG, 7, 7, .rw, .quiet, fun _ _ => 0⟩
/-- DM_Q_CQ_CFG.int_on_err: R338 -/
def F.DM_Q_CQ_CFG_int_on_err : Fld := ⟨.DM_Q_CQ_CFG, 6, 6, .rw, .quiet, fun _ _ => 0⟩
/-- DM_Q_CQ_CFG.cq_size_log2: 4–16 -/
def F.DM_Q_CQ_CFG_cq_size_log2 : Fld := ⟨.DM_Q_CQ_CFG, 4, 0, .rw, .quiet, fun _ _ => 4⟩
/-- DM_Q_CQ_HEAD.cq_head: Completions consumed since enable (R336) -/
def F.DM_Q_CQ_HEAD_cq_head : Fld := ⟨.DM_Q_CQ_HEAD, 31, 0, .rw, .live, fun _ _ => 0⟩
/-- DM_Q_DOORBELL.doorbell: R328 -/
def F.DM_Q_DOORBELL_doorbell : Fld := ⟨.DM_Q_DOORBELL, 31, 0, .wo, .live, fun _ _ => 0⟩
/-- DM_Q_INVALIDATE.inv: R330 -/
def F.DM_Q_INVALIDATE_inv : Fld := ⟨.DM_Q_INVALIDATE, 0, 0, .wo, .live, fun _ _ => 0⟩
/-- DM_Q_STATUS.state: 0 Disabled, 1 Idle, 2 Active, 3 Parked, 4 Paused, 5 Halted, 6 Draining -/
def F.DM_Q_STATUS_state : Fld := ⟨.DM_Q_STATUS, 31, 28, .ro, .live, fun _ _ => 0⟩
/-- DM_Q_STATUS.rescan: R328 -/
def F.DM_Q_STATUS_rescan : Fld := ⟨.DM_Q_STATUS, 27, 27, .ro, .live, fun _ _ => 0⟩
/-- DM_Q_STATUS.held: Held descriptors, 0–16 -/
def F.DM_Q_STATUS_held : Fld := ⟨.DM_Q_STATUS, 26, 22, .ro, .live, fun _ _ => 0⟩
/-- DM_Q_STATUS.shaped: The queue shaper is paused -/
def F.DM_Q_STATUS_shaped : Fld := ⟨.DM_Q_STATUS, 21, 21, .ro, .live, fun _ _ => 0⟩
/-- DM_Q_STATUS.last_status: Status that halted the queue -/
def F.DM_Q_STATUS_last_status : Fld := ⟨.DM_Q_STATUS, 20, 14, .ro, .live, fun _ _ => 0⟩
/-- DM_Q_POS.start_pos: Next descriptor to start: ring index, or chain sequence -/
def F.DM_Q_POS_start_pos : Fld := ⟨.DM_Q_POS, 31, 16, .ro, .live, fun _ _ => 0⟩
/-- DM_Q_POS.dev_pos: Next descriptor to retire -/
def F.DM_Q_POS_dev_pos : Fld := ⟨.DM_Q_POS, 15, 0, .ro, .live, fun _ _ => 0⟩
/-- DM_Q_CQ_TAIL.cq_tail: Completions written since enable -/
def F.DM_Q_CQ_TAIL_cq_tail : Fld := ⟨.DM_Q_CQ_TAIL, 31, 0, .ro, .live, fun _ _ => 0⟩
/-- DM_Q_INT_ADDR_LO.int_addr: Interrupt address, 4-byte aligned -/
def F.DM_Q_INT_ADDR_LO_int_addr : Fld := ⟨.DM_Q_INT_ADDR_LO, 31, 0, .rw, .quiet, fun _ _ => 0⟩
/-- DM_Q_INT_ADDR_HI.int_addr: Interrupt address, 4-byte aligned -/
def F.DM_Q_INT_ADDR_HI_int_addr : Fld := ⟨.DM_Q_INT_ADDR_HI, 31, 0, .rw, .quiet, fun _ _ => 0⟩
/-- DM_Q_INT_DATA.int_data: Interrupt data -/
def F.DM_Q_INT_DATA_int_data : Fld := ⟨.DM_Q_INT_DATA, 31, 0, .rw, .quiet, fun _ _ => 0⟩
/-- DM_ENG_CTRL.int_weight: R343; 0 is stored as 1 -/
def F.DM_ENG_CTRL_int_weight : Fld := ⟨.DM_ENG_CTRL, 23, 16, .rw, .live, fun _ _ => 16⟩
/-- DM_ENG_CTRL.max_lines: 64–512; values outside are stored as the nearer limit -/
def F.DM_ENG_CTRL_max_lines : Fld := ⟨.DM_ENG_CTRL, 9, 0, .rw, .live, fun _ _ => 512⟩
/-- DM_ENG_STATUS.busy: A line is outstanding -/
def F.DM_ENG_STATUS_busy : Fld := ⟨.DM_ENG_STATUS, 31, 31, .ro, .live, fun _ _ => 0⟩
/-- DM_ENG_STATUS.throttled: Half rate (R77) -/
def F.DM_ENG_STATUS_throttled : Fld := ⟨.DM_ENG_STATUS, 30, 30, .ro, .live, fun _ _ => 0⟩
/-- DM_ENG_STATUS.queues: Enabled queues on the engine -/
def F.DM_ENG_STATUS_queues : Fld := ⟨.DM_ENG_STATUS, 27, 16, .ro, .live, fun _ _ => 0⟩
/-- DM_ENG_STATUS.lines_out: Lines outstanding -/
def F.DM_ENG_STATUS_lines_out : Fld := ⟨.DM_ENG_STATUS, 9, 0, .ro, .live, fun _ _ => 0⟩
/-- DM_ENG_BYTES_LO.bytes: Bytes written or compared. Read as R9. -/
def F.DM_ENG_BYTES_LO_bytes : Fld := ⟨.DM_ENG_BYTES_LO, 31, 0, .ro, .live, fun _ _ => 0⟩
/-- DM_ENG_BYTES_HI.bytes: Bytes written or compared. Read as R9. -/
def F.DM_ENG_BYTES_HI_bytes : Fld := ⟨.DM_ENG_BYTES_HI, 31, 0, .ro, .live, fun _ _ => 0⟩
/-- DM_ENG_CNT_DESC.retired: Descriptors retired -/
def F.DM_ENG_CNT_DESC_retired : Fld := ⟨.DM_ENG_CNT_DESC, 31, 0, .ro, .live, fun _ _ => 0⟩
/-- DM_EVENT.cq_head_bad: A write to cq_head was ignored (R337) -/
def F.DM_EVENT_cq_head_bad : Fld := ⟨.DM_EVENT, 5, 5, .w1c, .live, fun _ _ => 0⟩
/-- DM_EVENT.ignored_write: A Quiet write was ignored -/
def F.DM_EVENT_ignored_write : Fld := ⟨.DM_EVENT, 4, 4, .w1c, .live, fun _ _ => 0⟩
/-- DM_EVENT.owned_write: A write to an owned queue was ignored -/
def F.DM_EVENT_owned_write : Fld := ⟨.DM_EVENT, 3, 3, .w1c, .live, fun _ _ => 0⟩
/-- DM_EVENT.cq_full: R336 -/
def F.DM_EVENT_cq_full : Fld := ⟨.DM_EVENT, 2, 2, .w1c, .live, fun _ _ => 0⟩
/-- DM_EVENT.q_halted: R340 -/
def F.DM_EVENT_q_halted : Fld := ⟨.DM_EVENT, 1, 1, .w1c, .live, fun _ _ => 0⟩
/-- DM_EVENT.q_refused: R342 -/
def F.DM_EVENT_q_refused : Fld := ⟨.DM_EVENT, 0, 0, .w1c, .live, fun _ _ => 0⟩
/-- DM_HALT_LOG.valid: A halt is logged. Clearing it frees the log. -/
def F.DM_HALT_LOG_valid : Fld := ⟨.DM_HALT_LOG, 31, 31, .w1c, .live, fun _ _ => 0⟩
/-- DM_HALT_LOG.status: Table 11.4 -/
def F.DM_HALT_LOG_status : Fld := ⟨.DM_HALT_LOG, 30, 24, .ro, .live, fun _ _ => 0⟩
/-- DM_HALT_LOG.queue: Local queue -/
def F.DM_HALT_LOG_queue : Fld := ⟨.DM_HALT_LOG, 10, 0, .ro, .live, fun _ _ => 0⟩
/-- DM_REFUSE_LOG.valid: A refusal is logged. Clearing it frees the log. -/
def F.DM_REFUSE_LOG_valid : Fld := ⟨.DM_REFUSE_LOG, 31, 31, .w1c, .live, fun _ _ => 0⟩
/-- DM_REFUSE_LOG.reason: 1 engine domain not On; 2 D19 not On; 3 no VCS at vcs_quad; 4 size out of range; 5 base not aligned; 6 asp = 1 on an owned queue -/
def F.DM_REFUSE_LOG_reason : Fld := ⟨.DM_REFUSE_LOG, 30, 27, .ro, .live, fun _ _ => 0⟩
/-- DM_REFUSE_LOG.queue: Local queue -/
def F.DM_REFUSE_LOG_queue : Fld := ⟨.DM_REFUSE_LOG, 10, 0, .ro, .live, fun _ _ => 0⟩
/-- DM_CNT_MISC.db_ignored: Doorbells ignored (Table 11.5) -/
def F.DM_CNT_MISC_db_ignored : Fld := ⟨.DM_CNT_MISC, 31, 16, .ro, .live, fun _ _ => 0⟩
/-- DM_CNT_MISC.cq_full_stalls: R336 -/
def F.DM_CNT_MISC_cq_full_stalls : Fld := ⟨.DM_CNT_MISC, 15, 0, .ro, .live, fun _ _ => 0⟩
/-- PN_CMD.go: Starts op -/
def F.PN_CMD_go : Fld := ⟨.PN_CMD, 31, 31, .wo, .live, fun _ _ => 0⟩
/-- PN_CMD.busy: A command runs -/
def F.PN_CMD_busy : Fld := ⟨.PN_CMD, 30, 30, .ro, .live, fun _ _ => 0⟩
/-- PN_CMD.op: Table 12.3 -/
def F.PN_CMD_op : Fld := ⟨.PN_CMD, 29, 26, .rw, .live, fun _ _ => 0⟩
/-- PN_CMD.tok_reset: For op 5, as R312; 3 is stored as 0 -/
def F.PN_CMD_tok_reset : Fld := ⟨.PN_CMD, 25, 24, .rw, .live, fun _ _ => 0⟩
/-- PN_CMD.obj: Queue j or counter k -/
def F.PN_CMD_obj : Fld := ⟨.PN_CMD, 19, 16, .rw, .live, fun _ _ => 0⟩
/-- PN_CMD.inst: Instance, 0–511 -/
def F.PN_CMD_inst : Fld := ⟨.PN_CMD, 8, 0, .rw, .live, fun _ _ => 0⟩
/-- PN_RESULT.result: 0 done; 1 invalid instance, object, op or count; 2 wrong state; 3 not permitted on this channel; 4 pool exhausted; 5 engine not allowed; 6 blob check failed; 7 freeze timed out; 8 queue refused by R342 -/
def F.PN_RESULT_result : Fld := ⟨.PN_RESULT, 3, 0, .ro, .live, fun _ _ => 0⟩
/-- PN_DATAw.data: Word w, w = 0…31 -/
def F.PN_DATAw_data : Fld := ⟨.PN_DATAw, 31, 0, .rw, .live, fun _ _ => 0⟩
/-- PN_BLOB_w.data: Word w of the blob, w = 0…383 -/
def F.PN_BLOB_w_data : Fld := ⟨.PN_BLOB_w, 31, 0, .rw, .live, fun _ _ => 0⟩
/-- PN_STATUS.ready: D19 is On -/
def F.PN_STATUS_ready : Fld := ⟨.PN_STATUS, 31, 31, .ro, .live, fun _ _ => 0⟩
/-- PN_STATUS.instances: Instances not Free, 0–512 -/
def F.PN_STATUS_instances : Fld := ⟨.PN_STATUS, 25, 16, .ro, .live, fun _ _ => 0⟩
/-- PN_STATUS.queues_free: Free queues -/
def F.PN_STATUS_queues_free : Fld := ⟨.PN_STATUS, 11, 0, .ro, .live, fun _ _ => 2048⟩
/-- PN_FREE.shapers_free: Free shapers -/
def F.PN_FREE_shapers_free : Fld := ⟨.PN_FREE, 26, 16, .ro, .live, fun _ _ => 1024⟩
/-- PN_FREE.counters_free: Free event counters -/
def F.PN_FREE_counters_free : Fld := ⟨.PN_FREE, 9, 0, .ro, .live, fun _ _ => 512⟩
/-- PN_FREEZE_TMO.freeze_tmo: R357, in units of 10 µs; 0 is stored as 1 -/
def F.PN_FREEZE_TMO_freeze_tmo : Fld := ⟨.PN_FREEZE_TMO, 15, 0, .rw, .live, fun _ _ => 100⟩
/-- PN_CNT_STALE.stale_drop: R355 -/
def F.PN_CNT_STALE_stale_drop : Fld := ⟨.PN_CNT_STALE, 31, 0, .ro, .live, fun _ _ => 0⟩
/-- PN_CNT_MISC.db_discard: R351, R358, Table 12.5a -/
def F.PN_CNT_MISC_db_discard : Fld := ⟨.PN_CNT_MISC, 31, 16, .ro, .live, fun _ _ => 0⟩
/-- PN_CNT_MISC.freeze_fails: R357 -/
def F.PN_CNT_MISC_freeze_fails : Fld := ⟨.PN_CNT_MISC, 15, 0, .ro, .live, fun _ _ => 0⟩
/-- PN_EVENT.freeze_fail: R357 -/
def F.PN_EVENT_freeze_fail : Fld := ⟨.PN_EVENT, 3, 3, .w1c, .live, fun _ _ => 0⟩
/-- PN_EVENT.cmd_refused: A command ended with result other than 0, on any channel -/
def F.PN_EVENT_cmd_refused : Fld := ⟨.PN_EVENT, 2, 2, .w1c, .live, fun _ _ => 0⟩
/-- PN_EVENT.tbl_busy: go written while busy, on any channel -/
def F.PN_EVENT_tbl_busy : Fld := ⟨.PN_EVENT, 1, 1, .w1c, .live, fun _ _ => 0⟩
/-- PN_EVENT.stale_drop: R355 -/
def F.PN_EVENT_stale_drop : Fld := ⟨.PN_EVENT, 0, 0, .w1c, .live, fun _ _ => 0⟩
/-- RS_CTRL.flap_window: R372, in ms; 0 is stored as 1 -/
def F.RS_CTRL_flap_window : Fld := ⟨.RS_CTRL, 15, 0, .rw, .live, fun _ _ => 1000⟩
/-- RS_STATUS.outside: Set when a class 4 record is written on this die. Cleared only by writing 1 to it. Asserts ALERT# unless mask bit 15 is set (R378, R388). -/
def F.RS_STATUS_outside : Fld := ⟨.RS_STATUS, 31, 31, .w1c, .live, fun _ _ => 0⟩
/-- RS_STATUS.pending: Bit b set while the event register of block b (Table 13.9) has any bit set -/
def F.RS_STATUS_pending : Fld := ⟨.RS_STATUS, 15, 0, .ro, .live, fun _ _ => 0⟩
/-- RS_ALERT_MASK.mask: Bit b stops pending bit b from asserting ALERT#. Bit 15 also stops outside from asserting it (R378, R388). -/
def F.RS_ALERT_MASK_mask : Fld := ⟨.RS_ALERT_MASK, 15, 0, .rw, .live, fun _ _ => 0⟩
/-- RS_LOG_HEAD.head: Records written since package reset -/
def F.RS_LOG_HEAD_head : Fld := ⟨.RS_LOG_HEAD, 31, 0, .ro, .live, fun _ _ => 0⟩
/-- RS_LOG_TAIL.tail: Records consumed. You write it after reading. -/
def F.RS_LOG_TAIL_tail : Fld := ⟨.RS_LOG_TAIL, 31, 0, .rw, .live, fun _ _ => 0⟩
/-- RS_CNT_CLASS.transient: Class 1 records -/
def F.RS_CNT_CLASS_transient : Fld := ⟨.RS_CNT_CLASS, 31, 24, .ro, .live, fun _ _ => 0⟩
/-- RS_CNT_CLASS.lasting: Class 2 records -/
def F.RS_CNT_CLASS_lasting : Fld := ⟨.RS_CNT_CLASS, 23, 16, .ro, .live, fun _ _ => 0⟩
/-- RS_CNT_CLASS.outside: Class 4 records -/
def F.RS_CNT_CLASS_outside : Fld := ⟨.RS_CNT_CLASS, 15, 8, .ro, .live, fun _ _ => 0⟩
/-- RS_CNT_CLASS.suppressed: Records not written (R387) -/
def F.RS_CNT_CLASS_suppressed : Fld := ⟨.RS_CNT_CLASS, 7, 0, .ro, .live, fun _ _ => 0⟩
/-- RS_CNT_SRAM.corrected: Single-bit errors, all SRAM of the die -/
def F.RS_CNT_SRAM_corrected : Fld := ⟨.RS_CNT_SRAM, 31, 16, .ro, .live, fun _ _ => 0⟩
/-- RS_CNT_SRAM.uncorrected: Double-bit errors -/
def F.RS_CNT_SRAM_uncorrected : Fld := ⟨.RS_CNT_SRAM, 15, 0, .ro, .live, fun _ _ => 0⟩
/-- RS_FENCE_CMD.go: Starts op -/
def F.RS_FENCE_CMD_go : Fld := ⟨.RS_FENCE_CMD, 31, 31, .wo, .live, fun _ _ => 0⟩
/-- RS_FENCE_CMD.busy: A command is in progress -/
def F.RS_FENCE_CMD_busy : Fld := ⟨.RS_FENCE_CMD, 30, 30, .ro, .live, fun _ _ => 0⟩
/-- RS_FENCE_CMD.op: 0 fence (reason 4); 1 unfence; 2 and 3 reserved -/
def F.RS_FENCE_CMD_op : Fld := ⟨.RS_FENCE_CMD, 29, 28, .rw, .live, fun _ _ => 0⟩
/-- RS_FENCE_CMD.quad: First quad of the port. Any other quad is refused with fence_refused (R374). -/
def F.RS_FENCE_CMD_quad : Fld := ⟨.RS_FENCE_CMD, 3, 0, .rw, .live, fun _ _ => 0⟩
/-- RS_FENCE_STATUS.last_reason: Reason of the last fence, Table 13.4 -/
def F.RS_FENCE_STATUS_last_reason : Fld := ⟨.RS_FENCE_STATUS, 18, 16, .ro, .live, fun _ _ => 0⟩
/-- RS_FENCE_STATUS.fenced, part i of 16 (1 bit each): Bit q set while the port at quad q is Fenced -/
def F.RS_FENCE_STATUS_fenced (i : Nat) : Fld := ⟨.RS_FENCE_STATUS, 0 + 1 * i + 0, 0 + 1 * i, .ro, .live, fun _ _ => 0⟩
/-- RS_SCRUB.scrub_en: Enables the patrol scrub (R376) -/
def F.RS_SCRUB_scrub_en : Fld := ⟨.RS_SCRUB, 31, 31, .rw, .live, fun _ _ => 1⟩
/-- RS_SCRUB.scrub_period: Seconds per pass; 0 is stored as 1 -/
def F.RS_SCRUB_scrub_period : Fld := ⟨.RS_SCRUB, 15, 0, .rw, .live, fun _ _ => 10⟩
/-- RS_LOST_LOG_LO.addr: Device address bits [31:6] of the first lost write since valid was cleared. Read as R9. -/
def F.RS_LOST_LOG_LO_addr : Fld := ⟨.RS_LOST_LOG_LO, 31, 6, .ro, .live, fun _ _ => 0⟩
/-- RS_LOST_LOG_HI.valid: A lost write is logged. Clearing it frees the log. -/
def F.RS_LOST_LOG_HI_valid : Fld := ⟨.RS_LOST_LOG_HI, 31, 31, .w1c, .live, fun _ _ => 0⟩
/-- RS_LOST_LOG_HI.port: Target port -/
def F.RS_LOST_LOG_HI_port : Fld := ⟨.RS_LOST_LOG_HI, 30, 24, .ro, .live, fun _ _ => 0⟩
/-- RS_LOST_LOG_HI.ld: Target LD -/
def F.RS_LOST_LOG_HI_ld : Fld := ⟨.RS_LOST_LOG_HI, 23, 20, .ro, .live, fun _ _ => 0⟩
/-- RS_LOST_LOG_HI.addr_hi: Device address bits [51:32] -/
def F.RS_LOST_LOG_HI_addr_hi : Fld := ⟨.RS_LOST_LOG_HI, 19, 0, .ro, .live, fun _ _ => 0⟩
/-- RS_WDOG_CTRL.wdog_en: Enables the watchdog -/
def F.RS_WDOG_CTRL_wdog_en : Fld := ⟨.RS_WDOG_CTRL, 31, 31, .ro, .fixed, fun _ _ => 0⟩
/-- RS_WDOG_CTRL.wdog_ms: Kick interval limit, in ms; a value below 10 is stored as 10 -/
def F.RS_WDOG_CTRL_wdog_ms : Fld := ⟨.RS_WDOG_CTRL, 15, 0, .rw, .live, fun _ _ => 1000⟩
/-- RS_WDOG_KICK.kick: R382 -/
def F.RS_WDOG_KICK_kick : Fld := ⟨.RS_WDOG_KICK, 31, 0, .wo, .live, fun _ _ => 0⟩
/-- RS_WDOG_STATUS.held: R386 -/
def F.RS_WDOG_STATUS_held : Fld := ⟨.RS_WDOG_STATUS, 31, 31, .ro, .live, fun _ _ => 0⟩
/-- RS_WDOG_STATUS.restarting: Between t0 and t3 of Table 13.7 -/
def F.RS_WDOG_STATUS_restarting : Fld := ⟨.RS_WDOG_STATUS, 30, 30, .ro, .live, fun _ _ => 0⟩
/-- RS_WDOG_STATUS.restarts: Restarts since package reset -/
def F.RS_WDOG_STATUS_restarts : Fld := ⟨.RS_WDOG_STATUS, 23, 16, .ro, .live, fun _ _ => 0⟩
/-- RS_EVENT.fence_refused: R374 -/
def F.RS_EVENT_fence_refused : Fld := ⟨.RS_EVENT, 10, 10, .w1c, .live, fun _ _ => 0⟩
/-- RS_EVENT.kick_err: R382 -/
def F.RS_EVENT_kick_err : Fld := ⟨.RS_EVENT, 9, 9, .w1c, .live, fun _ _ => 0⟩
/-- RS_EVENT.wdog_held: R386 -/
def F.RS_EVENT_wdog_held : Fld := ⟨.RS_EVENT, 8, 8, .w1c, .live, fun _ _ => 0⟩
/-- RS_EVENT.wdog_restart: R382 -/
def F.RS_EVENT_wdog_restart : Fld := ⟨.RS_EVENT, 7, 7, .w1c, .live, fun _ _ => 0⟩
/-- RS_EVENT.lost_write: R379 -/
def F.RS_EVENT_lost_write : Fld := ⟨.RS_EVENT, 6, 6, .w1c, .live, fun _ _ => 0⟩
/-- RS_EVENT.sram_uncorrected: R377 -/
def F.RS_EVENT_sram_uncorrected : Fld := ⟨.RS_EVENT, 5, 5, .w1c, .live, fun _ _ => 0⟩
/-- RS_EVENT.sram_lasting: R376 -/
def F.RS_EVENT_sram_lasting : Fld := ⟨.RS_EVENT, 4, 4, .w1c, .live, fun _ _ => 0⟩
/-- RS_EVENT.unfence: A fence ended (R374) -/
def F.RS_EVENT_unfence : Fld := ⟨.RS_EVENT, 3, 3, .w1c, .live, fun _ _ => 0⟩
/-- RS_EVENT.fence: R373 -/
def F.RS_EVENT_fence : Fld := ⟨.RS_EVENT, 2, 2, .w1c, .live, fun _ _ => 0⟩
/-- RS_EVENT.rate_capped: R372 -/
def F.RS_EVENT_rate_capped : Fld := ⟨.RS_EVENT, 1, 1, .w1c, .live, fun _ _ => 0⟩
/-- RS_EVENT.log_overrun: R387 -/
def F.RS_EVENT_log_overrun : Fld := ⟨.RS_EVENT, 0, 0, .w1c, .live, fun _ _ => 0⟩
/-- RS_LOG_r.word: Words of Table 13.8 -/
def F.RS_LOG_r_word : Fld := ⟨.RS_LOG_r, 31, 0, .ro, .live, fun _ _ => 0⟩
/-- SP_CTRL.unlock: Leaves Locked (Table 14.2) -/
def F.SP_CTRL_unlock : Fld := ⟨.SP_CTRL, 31, 31, .wo, .live, fun _ _ => 0⟩
/-- SP_CTRL.slot_class: 1 class M, 2 class A, coded as role -/
def F.SP_CTRL_slot_class : Fld := ⟨.SP_CTRL, 25, 24, .ro, .fixed, fun _ _ => 0⟩
/-- SP_CTRL.tdiode_en: A temperature diode is fitted (R404) -/
def F.SP_CTRL_tdiode_en : Fld := ⟨.SP_CTRL, 8, 8, .rw, .quiet, fun _ _ => 0⟩
/-- SP_CTRL.retry_max: Automatic retries (R402); 0 locks at the first trip -/
def F.SP_CTRL_retry_max : Fld := ⟨.SP_CTRL, 7, 4, .rw, .live, fun _ _ => 3⟩
/-- SP_CTRL.perst_hold: R408 -/
def F.SP_CTRL_perst_hold : Fld := ⟨.SP_CTRL, 3, 3, .rw, .live, fun _ _ => 0⟩
/-- SP_CTRL.auto_on: Value given to power at each insertion (R395) -/
def F.SP_CTRL_auto_on : Fld := ⟨.SP_CTRL, 2, 2, .rw, .live, fun _ _ => 0⟩
/-- SP_CTRL.power: Requests slot power -/
def F.SP_CTRL_power : Fld := ⟨.SP_CTRL, 1, 1, .rw, .live, fun _ _ => 0⟩
/-- SP_CTRL.slot_en: Enables the controller -/
def F.SP_CTRL_slot_en : Fld := ⟨.SP_CTRL, 0, 0, .rw, .live, fun _ _ => 0⟩
/-- SP_STATUS.state: Table 14.2 code -/
def F.SP_STATUS_state : Fld := ⟨.SP_STATUS, 31, 28, .ro, .live, fun _ _ => 0⟩
/-- SP_STATUS.present: Presence confirmed -/
def F.SP_STATUS_present : Fld := ⟨.SP_STATUS, 27, 27, .ro, .live, fun _ _ => 0⟩
/-- SP_STATUS.prsnt_raw: Filtered PRSNT# is low -/
def F.SP_STATUS_prsnt_raw : Fld := ⟨.SP_STATUS, 26, 26, .ro, .live, fun _ _ => 0⟩
/-- SP_STATUS.forecast: Forecast asserted -/
def F.SP_STATUS_forecast : Fld := ⟨.SP_STATUS, 25, 25, .ro, .live, fun _ _ => 1⟩
/-- SP_STATUS.pgood: Ramp complete and VOUT ≥ pg_v -/
def F.SP_STATUS_pgood : Fld := ⟨.SP_STATUS, 24, 24, .ro, .live, fun _ _ => 0⟩
/-- SP_STATUS.perst: PERST# driven low -/
def F.SP_STATUS_perst : Fld := ⟨.SP_STATUS, 23, 23, .ro, .live, fun _ _ => 1⟩
/-- SP_STATUS.oring_on, part i of 2 (1 bit each): Bit 22 ORA on, bit 21 ORB on -/
def F.SP_STATUS_oring_on (i : Nat) : Fld := ⟨.SP_STATUS, 21 + 1 * i + 0, 21 + 1 * i, .ro, .live, fun _ _ => 0⟩
/-- SP_STATUS.feed_good, part i of 2 (1 bit each): Bit 20 feed A, bit 19 feed B (R393) -/
def F.SP_STATUS_feed_good (i : Nat) : Fld := ⟨.SP_STATUS, 19 + 1 * i + 0, 19 + 1 * i, .ro, .live, fun _ _ => 0⟩
/-- SP_STATUS.ilim_active: Current held at the limit -/
def F.SP_STATUS_ilim_active : Fld := ⟨.SP_STATUS, 18, 18, .ro, .live, fun _ _ => 0⟩
/-- SP_STATUS.flt_count: Fault timer in µs -/
def F.SP_STATUS_flt_count : Fld := ⟨.SP_STATUS, 13, 0, .ro, .live, fun _ _ => 0⟩
/-- SP_SHUNT_LIM.rsense: Shunt in 10 µΩ; 0 is stored as 1 -/
def F.SP_SHUNT_LIM_rsense : Fld := ⟨.SP_SHUNT_LIM, 31, 16, .rw, .quiet, fun _ _ => 0⟩
/-- SP_SHUNT_LIM.ilim: Limit sense voltage in 0.1 mV, 10–300; values outside are stored as the nearer limit -/
def F.SP_SHUNT_LIM_ilim : Fld := ⟨.SP_SHUNT_LIM, 8, 0, .rw, .live, fun _ _ => 0⟩
/-- SP_RAMP.perst_ms: R408, 100–255 ms; below 100 is stored as 100 -/
def F.SP_RAMP_perst_ms : Fld := ⟨.SP_RAMP, 31, 24, .rw, .staged, fun _ _ => 100⟩
/-- SP_RAMP.gate_ua: Gate charge (code + 1) × 5 µA -/
def F.SP_RAMP_gate_ua : Fld := ⟨.SP_RAMP, 23, 20, .rw, .staged, fun _ _ => 1⟩
/-- SP_RAMP.gate_ms: Gate timer, 1–255 ms; 0 is stored as 1 -/
def F.SP_RAMP_gate_ms : Fld := ⟨.SP_RAMP, 19, 12, .rw, .staged, fun _ _ => 20⟩
/-- SP_RAMP.ramp_ms: Ramp timeout, 1–1,000 ms; values outside are stored as the nearer limit -/
def F.SP_RAMP_ramp_ms : Fld := ⟨.SP_RAMP, 9, 0, .rw, .staged, fun _ _ => 200⟩
/-- SP_TIMERS.fc_lead: Forecast lead in ms, 0–255 (Table 14.5) -/
def F.SP_TIMERS_fc_lead : Fld := ⟨.SP_TIMERS, 31, 24, .rw, .live, fun _ _ => 10⟩
/-- SP_TIMERS.retry: Retry timer in units of 100 ms, 1–600; 0 is stored as 1, and above 600 as 600 -/
def F.SP_TIMERS_retry : Fld := ⟨.SP_TIMERS, 23, 14, .rw, .live, fun _ _ => 10⟩
/-- SP_TIMERS.flt_us: Fault timer, 10–10,000 µs; values outside are stored as the nearer limit -/
def F.SP_TIMERS_flt_us : Fld := ⟨.SP_TIMERS, 13, 0, .rw, .live, fun _ _ => 500⟩
/-- SP_THRESH.feed_uv: Feed good minimum, 100 mV units -/
def F.SP_THRESH_feed_uv : Fld := ⟨.SP_THRESH, 31, 24, .rw, .live, fun _ _ => 108⟩
/-- SP_THRESH.fc_v: Forecast threshold (R405) -/
def F.SP_THRESH_fc_v : Fld := ⟨.SP_THRESH, 23, 16, .rw, .live, fun _ _ => 114⟩
/-- SP_THRESH.pg_v: Power-good threshold -/
def F.SP_THRESH_pg_v : Fld := ⟨.SP_THRESH, 15, 8, .rw, .live, fun _ _ => 110⟩
/-- SP_THRESH.out_uv: Output under voltage (R401) -/
def F.SP_THRESH_out_uv : Fld := ⟨.SP_THRESH, 7, 0, .rw, .live, fun _ _ => 100⟩
/-- SP_FET_MODEL.rth: Thermal resistance in 0.01 °C/W -/
def F.SP_FET_MODEL_rth : Fld := ⟨.SP_FET_MODEL, 31, 16, .rw, .quiet, fun _ _ => 3000⟩
/-- SP_FET_MODEL.tau: Time constant in ms; 0 is stored as 1 -/
def F.SP_FET_MODEL_tau : Fld := ⟨.SP_FET_MODEL, 15, 0, .rw, .quiet, fun _ _ => 2000⟩
/-- SP_FET_LIMIT.t_trip: °C -/
def F.SP_FET_LIMIT_t_trip : Fld := ⟨.SP_FET_LIMIT, 31, 24, .rw, .live, fun _ _ => 150⟩
/-- SP_FET_LIMIT.t_warn: °C; a value above t_trip is stored as t_trip -/
def F.SP_FET_LIMIT_t_warn : Fld := ⟨.SP_FET_LIMIT, 23, 16, .rw, .live, fun _ _ => 125⟩
/-- SP_FET_LIMIT.t_amb: Model ambient, °C -/
def F.SP_FET_LIMIT_t_amb : Fld := ⟨.SP_FET_LIMIT, 15, 8, .rw, .live, fun _ _ => 60⟩
/-- SP_MEAS_FEED.fa_mv: FA and FB in mV -/
def F.SP_MEAS_FEED_fa_mv : Fld := ⟨.SP_MEAS_FEED, 31, 16, .ro, .live, fun _ _ => 0⟩
/-- SP_MEAS_FEED.fb_mv: FA and FB in mV -/
def F.SP_MEAS_FEED_fb_mv : Fld := ⟨.SP_MEAS_FEED, 15, 0, .ro, .live, fun _ _ => 0⟩
/-- SP_MEAS_OUT.vout_mv: VOUT, and GATE to SGND, in mV -/
def F.SP_MEAS_OUT_vout_mv : Fld := ⟨.SP_MEAS_OUT, 31, 16, .ro, .live, fun _ _ => 0⟩
/-- SP_MEAS_OUT.gate_mv: VOUT, and GATE to SGND, in mV -/
def F.SP_MEAS_OUT_gate_mv : Fld := ⟨.SP_MEAS_OUT, 15, 0, .ro, .live, fun _ _ => 0⟩
/-- SP_MEAS_I.current: Slot current in 10 mA -/
def F.SP_MEAS_I_current : Fld := ⟨.SP_MEAS_I, 31, 16, .ro, .live, fun _ _ => 0⟩
/-- SP_MEAS_I.power: VOUT × current in 100 mW -/
def F.SP_MEAS_I_power : Fld := ⟨.SP_MEAS_I, 15, 0, .ro, .live, fun _ _ => 0⟩
/-- SP_MEAS_T.t_direct: Diode temperature, signed, 1/16 °C; 0 when tdiode_en = 0 -/
def F.SP_MEAS_T_t_direct : Fld := ⟨.SP_MEAS_T, 31, 16, .ro, .live, fun _ _ => 0⟩
/-- SP_MEAS_T.t_model: Model temperature, signed, 1/16 °C -/
def F.SP_MEAS_T_t_model : Fld := ⟨.SP_MEAS_T, 15, 0, .ro, .live, fun _ _ => 0⟩
/-- SP_COUNT.insert_gen: Insertion generation (R395) -/
def F.SP_COUNT_insert_gen : Fld := ⟨.SP_COUNT, 31, 16, .ro, .live, fun _ _ => 0⟩
/-- SP_COUNT.trips: Trips -/
def F.SP_COUNT_trips : Fld := ⟨.SP_COUNT, 15, 8, .ro, .live, fun _ _ => 0⟩
/-- SP_COUNT.retries: Retries used since the last insertion or unlock -/
def F.SP_COUNT_retries : Fld := ⟨.SP_COUNT, 7, 4, .ro, .live, fun _ _ => 0⟩
/-- SP_FAULT_LOG.valid: A trip or a removal is logged (R396, R402). Clearing it frees the log. -/
def F.SP_FAULT_LOG_valid : Fld := ⟨.SP_FAULT_LOG, 31, 31, .w1c, .live, fun _ _ => 0⟩
/-- SP_FAULT_LOG.cause: Table 14.3 -/
def F.SP_FAULT_LOG_cause : Fld := ⟨.SP_FAULT_LOG, 30, 27, .ro, .live, fun _ _ => 0⟩
/-- SP_FAULT_LOG.state: State at the trip -/
def F.SP_FAULT_LOG_state : Fld := ⟨.SP_FAULT_LOG, 26, 23, .ro, .live, fun _ _ => 0⟩
/-- SP_FAULT_LOG.sense: ISP − ISN at the trip, in 10 µV -/
def F.SP_FAULT_LOG_sense : Fld := ⟨.SP_FAULT_LOG, 15, 0, .ro, .live, fun _ _ => 0⟩
/-- SP_EVENT.ignored_write: A Quiet write in this block was ignored -/
def F.SP_EVENT_ignored_write : Fld := ⟨.SP_EVENT, 15, 15, .w1c, .live, fun _ _ => 0⟩
/-- SP_EVENT.locked: R402 -/
def F.SP_EVENT_locked : Fld := ⟨.SP_EVENT, 14, 14, .w1c, .live, fun _ _ => 0⟩
/-- SP_EVENT.forecast: R406 -/
def F.SP_EVENT_forecast : Fld := ⟨.SP_EVENT, 13, 13, .w1c, .live, fun _ _ => 0⟩
/-- SP_EVENT.pgood_lost: R401 -/
def F.SP_EVENT_pgood_lost : Fld := ⟨.SP_EVENT, 12, 12, .w1c, .live, fun _ _ => 0⟩
/-- SP_EVENT.reverse_b: R394 -/
def F.SP_EVENT_reverse_b : Fld := ⟨.SP_EVENT, 11, 11, .w1c, .live, fun _ _ => 0⟩
/-- SP_EVENT.reverse_a: R394 -/
def F.SP_EVENT_reverse_a : Fld := ⟨.SP_EVENT, 10, 10, .w1c, .live, fun _ _ => 0⟩
/-- SP_EVENT.feed_b_lost: R394 -/
def F.SP_EVENT_feed_b_lost : Fld := ⟨.SP_EVENT, 9, 9, .w1c, .live, fun _ _ => 0⟩
/-- SP_EVENT.feed_a_lost: R394 -/
def F.SP_EVENT_feed_a_lost : Fld := ⟨.SP_EVENT, 8, 8, .w1c, .live, fun _ _ => 0⟩
/-- SP_EVENT.feed_ov: R394 -/
def F.SP_EVENT_feed_ov : Fld := ⟨.SP_EVENT, 7, 7, .w1c, .live, fun _ _ => 0⟩
/-- SP_EVENT.fet_warn: R404 -/
def F.SP_EVENT_fet_warn : Fld := ⟨.SP_EVENT, 6, 6, .w1c, .live, fun _ _ => 0⟩
/-- SP_EVENT.trip: R402 -/
def F.SP_EVENT_trip : Fld := ⟨.SP_EVENT, 5, 5, .w1c, .live, fun _ _ => 0⟩
/-- SP_EVENT.fet_damaged: Causes 4 and 5 -/
def F.SP_EVENT_fet_damaged : Fld := ⟨.SP_EVENT, 4, 4, .w1c, .live, fun _ _ => 0⟩
/-- SP_EVENT.removed: R396 -/
def F.SP_EVENT_removed : Fld := ⟨.SP_EVENT, 3, 3, .w1c, .live, fun _ _ => 0⟩
/-- SP_EVENT.inserted: R395 -/
def F.SP_EVENT_inserted : Fld := ⟨.SP_EVENT, 2, 2, .w1c, .live, fun _ _ => 0⟩
/-- SP_EVENT.power_on: The slot reached On -/
def F.SP_EVENT_power_on : Fld := ⟨.SP_EVENT, 1, 1, .w1c, .live, fun _ _ => 0⟩
/-- SP_EVENT.power_off: A managed power-off completed -/
def F.SP_EVENT_power_off : Fld := ⟨.SP_EVENT, 0, 0, .w1c, .live, fun _ _ => 0⟩
/-- PM_STATUS.ready: D20 is On -/
def F.PM_STATUS_ready : Fld := ⟨.PM_STATUS, 31, 31, .ro, .live, fun _ _ => 0⟩
/-- PM_STATUS.enabled: Counters with en = 1, 0–512 -/
def F.PM_STATUS_enabled : Fld := ⟨.PM_STATUS, 25, 16, .ro, .live, fun _ _ => 0⟩
/-- PM_STATUS.owned: Owned counters, 0–512 -/
def F.PM_STATUS_owned : Fld := ⟨.PM_STATUS, 9, 0, .ro, .live, fun _ _ => 0⟩
/-- PM_FROST_CTRL.go: Performs op (R514, R516) -/
def F.PM_FROST_CTRL_go : Fld := ⟨.PM_FROST_CTRL, 31, 31, .wo, .live, fun _ _ => 0⟩
/-- PM_FROST_CTRL.op: 0 arm every die (die 0 only); 1 arm this die; 2 cancel; 3 reserved, refused -/
def F.PM_FROST_CTRL_op : Fld := ⟨.PM_FROST_CTRL, 29, 28, .rw, .live, fun _ _ => 0⟩
/-- PM_FROST_STATUS.state: 0 none since reset, 1 armed, 2 held -/
def F.PM_FROST_STATUS_state : Fld := ⟨.PM_FROST_STATUS, 31, 30, .ro, .live, fun _ _ => 0⟩
/-- PM_FROST_STATUS.late: R516, for the last snap -/
def F.PM_FROST_STATUS_late : Fld := ⟨.PM_FROST_STATUS, 29, 29, .ro, .live, fun _ _ => 0⟩
/-- PM_FROST_STATUS.unaligned: R516, for the last snap -/
def F.PM_FROST_STATUS_unaligned : Fld := ⟨.PM_FROST_STATUS, 28, 28, .ro, .live, fun _ _ => 0⟩
/-- PM_FROST_STATUS.frost_id: R515 -/
def F.PM_FROST_STATUS_frost_id : Fld := ⟨.PM_FROST_STATUS, 23, 16, .ro, .live, fun _ _ => 0⟩
/-- PM_FROST_STATUS.ack_mask, part i of 8 (1 bit each): Die 0: dies that acknowledged the last op 0. Reads 0 on other dies. -/
def F.PM_FROST_STATUS_ack_mask (i : Nat) : Fld := ⟨.PM_FROST_STATUS, 0 + 1 * i + 0, 0 + 1 * i, .ro, .live, fun _ _ => 0⟩
/-- PM_FROST_AT_LO.target: T, written as R8 -/
def F.PM_FROST_AT_LO_target : Fld := ⟨.PM_FROST_AT_LO, 31, 0, .rw, .live, fun _ _ => 0⟩
/-- PM_FROST_AT_HI.target: T, written as R8 -/
def F.PM_FROST_AT_HI_target : Fld := ⟨.PM_FROST_AT_HI, 31, 0, .rw, .live, fun _ _ => 0⟩
/-- PM_FROST_TIME_LO.snapped: Fabric time of the last snap -/
def F.PM_FROST_TIME_LO_snapped : Fld := ⟨.PM_FROST_TIME_LO, 31, 0, .ro, .live, fun _ _ => 0⟩
/-- PM_FROST_TIME_HI.snapped: Fabric time of the last snap -/
def F.PM_FROST_TIME_HI_snapped : Fld := ⟨.PM_FROST_TIME_HI, 31, 0, .ro, .live, fun _ _ => 0⟩
/-- PM_ATTIC_CTRL.en: Enables sampling (R521) -/
def F.PM_ATTIC_CTRL_en : Fld := ⟨.PM_ATTIC_CTRL, 31, 31, .rw, .live, fun _ _ => 0⟩
/-- PM_ATTIC_CTRL.mode: 0 ring, 1 stop (R520) -/
def F.PM_ATTIC_CTRL_mode : Fld := ⟨.PM_ATTIC_CTRL, 30, 30, .rw, .quiet, fun _ _ => 0⟩
/-- PM_ATTIC_CTRL.addr_kind: 0 device address, 1 HPA -/
def F.PM_ATTIC_CTRL_addr_kind : Fld := ⟨.PM_ATTIC_CTRL, 29, 29, .rw, .quiet, fun _ _ => 0⟩
/-- PM_ATTIC_CTRL.random: R518 -/
def F.PM_ATTIC_CTRL_random : Fld := ⟨.PM_ATTIC_CTRL, 28, 28, .rw, .quiet, fun _ _ => 0⟩
/-- PM_ATTIC_CTRL.rate_log2: One candidate in 2^rate_log2 -/
def F.PM_ATTIC_CTRL_rate_log2 : Fld := ⟨.PM_ATTIC_CTRL, 27, 24, .rw, .quiet, fun _ _ => 10⟩
/-- PM_ATTIC_CTRL.wm: Watermark in records; 0 disables. A value above 2,048 is stored as 2,048. -/
def F.PM_ATTIC_CTRL_wm : Fld := ⟨.PM_ATTIC_CTRL, 11, 0, .rw, .live, fun _ _ => 0⟩
/-- PM_ATTIC_FILT.tc_sel: Bit 31 TC1, bit 30 TC3, bit 29 TC4 -/
def F.PM_ATTIC_FILT_tc_sel : Fld := ⟨.PM_ATTIC_FILT, 31, 29, .rw, .quiet, fun _ _ => 7⟩
/-- PM_ATTIC_FILT.src_any: Ignore src -/
def F.PM_ATTIC_FILT_src_any : Fld := ⟨.PM_ATTIC_FILT, 28, 28, .rw, .quiet, fun _ _ => 1⟩
/-- PM_ATTIC_FILT.src: Source to match, coded as in Table 6.1 -/
def F.PM_ATTIC_FILT_src : Fld := ⟨.PM_ATTIC_FILT, 27, 20, .rw, .quiet, fun _ _ => 0⟩
/-- PM_ATTIC_FILT.vcs_any: Ignore vcs -/
def F.PM_ATTIC_FILT_vcs_any : Fld := ⟨.PM_ATTIC_FILT, 19, 19, .rw, .quiet, fun _ _ => 1⟩
/-- PM_ATTIC_FILT.vcs: Global VCS to match -/
def F.PM_ATTIC_FILT_vcs : Fld := ⟨.PM_ATTIC_FILT, 18, 12, .rw, .quiet, fun _ _ => 0⟩
/-- PM_ATTIC_FILT.tc9_sel: Sample TC9 -/
def F.PM_ATTIC_FILT_tc9_sel : Fld := ⟨.PM_ATTIC_FILT, 11, 11, .rw, .quiet, fun _ _ => 1⟩
/-- PM_ATTIC_FILT.tc10_sel: Sample TC10 -/
def F.PM_ATTIC_FILT_tc10_sel : Fld := ⟨.PM_ATTIC_FILT, 10, 10, .rw, .quiet, fun _ _ => 1⟩
/-- PM_ATTIC_AMATCH.amatch: Address bits [43:12] to match -/
def F.PM_ATTIC_AMATCH_amatch : Fld := ⟨.PM_ATTIC_AMATCH, 31, 0, .rw, .quiet, fun _ _ => 0⟩
/-- PM_ATTIC_AMASK.amask: Bits of amatch compared; 0 matches every address -/
def F.PM_ATTIC_AMASK_amask : Fld := ⟨.PM_ATTIC_AMASK, 31, 0, .rw, .quiet, fun _ _ => 0⟩
/-- PM_ATTIC_LAT_MIN.lat_min: R519, in core cycles -/
def F.PM_ATTIC_LAT_MIN_lat_min : Fld := ⟨.PM_ATTIC_LAT_MIN, 27, 0, .rw, .quiet, fun _ _ => 0⟩
/-- PM_ATTIC_HEAD.head: Records written since en last rose -/
def F.PM_ATTIC_HEAD_head : Fld := ⟨.PM_ATTIC_HEAD, 31, 0, .ro, .live, fun _ _ => 0⟩
/-- PM_ATTIC_TAIL.tail: Records consumed; used in stop mode -/
def F.PM_ATTIC_TAIL_tail : Fld := ⟨.PM_ATTIC_TAIL, 31, 0, .rw, .live, fun _ _ => 0⟩
/-- PM_ATTIC_STATUS.full: R520 -/
def F.PM_ATTIC_STATUS_full : Fld := ⟨.PM_ATTIC_STATUS, 31, 31, .ro, .live, fun _ _ => 0⟩
/-- PM_ATTIC_STATUS.wrapped: R520 -/
def F.PM_ATTIC_STATUS_wrapped : Fld := ⟨.PM_ATTIC_STATUS, 30, 30, .ro, .live, fun _ _ => 0⟩
/-- PM_ATTIC_STATUS.outstanding: Samples awaiting completion, 0–64 -/
def F.PM_ATTIC_STATUS_outstanding : Fld := ⟨.PM_ATTIC_STATUS, 6, 0, .ro, .live, fun _ _ => 0⟩
/-- PM_EVENT.owned_write: R511 -/
def F.PM_EVENT_owned_write : Fld := ⟨.PM_EVENT, 7, 7, .w1c, .live, fun _ _ => 0⟩
/-- PM_EVENT.ignored_write: A Quiet write in this block was ignored -/
def F.PM_EVENT_ignored_write : Fld := ⟨.PM_EVENT, 6, 6, .w1c, .live, fun _ _ => 0⟩
/-- PM_EVENT.attic_full: R520 -/
def F.PM_EVENT_attic_full : Fld := ⟨.PM_EVENT, 5, 5, .w1c, .live, fun _ _ => 0⟩
/-- PM_EVENT.attic_wm: R520 -/
def F.PM_EVENT_attic_wm : Fld := ⟨.PM_EVENT, 4, 4, .w1c, .live, fun _ _ => 0⟩
/-- PM_EVENT.evt_refused: R508 -/
def F.PM_EVENT_evt_refused : Fld := ⟨.PM_EVENT, 3, 3, .w1c, .live, fun _ _ => 0⟩
/-- PM_EVENT.frost_refused: R514 -/
def F.PM_EVENT_frost_refused : Fld := ⟨.PM_EVENT, 2, 2, .w1c, .live, fun _ _ => 0⟩
/-- PM_EVENT.frost_done: R515 -/
def F.PM_EVENT_frost_done : Fld := ⟨.PM_EVENT, 1, 1, .w1c, .live, fun _ _ => 0⟩
/-- PM_EVENT.ovf: R510 -/
def F.PM_EVENT_ovf : Fld := ⟨.PM_EVENT, 0, 0, .w1c, .live, fun _ _ => 0⟩
/-- PM_CNT_MISC.attic_skip: R518 -/
def F.PM_CNT_MISC_attic_skip : Fld := ⟨.PM_CNT_MISC, 31, 16, .ro, .live, fun _ _ => 0⟩
/-- PM_CNT_MISC.lat_discard: R519 -/
def F.PM_CNT_MISC_lat_discard : Fld := ⟨.PM_CNT_MISC, 15, 0, .ro, .live, fun _ _ => 0⟩
/-- PM_OVF_j.ovf, part i of 32 (1 bit each): Bit b: counter 32j + b has wrapped (R510) -/
def F.PM_OVF_j_ovf (i : Nat) : Fld := ⟨.PM_OVF_j, 0 + 1 * i + 0, 0 + 1 * i, .w1c, .live, fun _ _ => 0⟩
/-- EVT.en: Enables counting (R508) -/
def F.EVT_en : Fld := ⟨.EVT, 31, 31, .rw, .live, fun _ _ => 0⟩
/-- EVT.int_en: R510 -/
def F.EVT_int_en : Fld := ⟨.EVT, 30, 30, .rw, .live, fun _ _ => 0⟩
/-- EVT.unit_all: Count every unit of the block -/
def F.EVT_unit_all : Fld := ⟨.EVT, 28, 28, .rw, .quiet, fun _ _ => 0⟩
/-- EVT.unit: Unit, Table 19.1 -/
def F.EVT_unit : Fld := ⟨.EVT, 27, 16, .rw, .quiet, fun _ _ => 0⟩
/-- EVT.event: Event number -/
def F.EVT_event : Fld := ⟨.EVT, 15, 0, .rw, .quiet, fun _ _ => 0⟩
/-- OWN.owned: Carved for an instance (R511) -/
def F.OWN_owned : Fld := ⟨.OWN, 31, 31, .ro, .live, fun _ _ => 0⟩
/-- OWN.owner: Owning instance, 0–511 -/
def F.OWN_owner : Fld := ⟨.OWN, 30, 22, .ro, .live, fun _ _ => 0⟩
/-- CNT_LO.value_lo: Bits [31:0]. A read captures (R512). -/
def F.CNT_LO_value_lo : Fld := ⟨.CNT_LO, 31, 0, .rw, .quiet, fun _ _ => 0⟩
/-- CNT_HI.seq: Capture sequence (R513) -/
def F.CNT_HI_seq : Fld := ⟨.CNT_HI, 31, 24, .ro, .live, fun _ _ => 0⟩
/-- CNT_HI.value_hi: Bits [47:32]. A write commits the value (R8). -/
def F.CNT_HI_value_hi : Fld := ⟨.CNT_HI, 15, 0, .rw, .quiet, fun _ _ => 0⟩
/-- STAMP_LO.stamp: Fabric time of the capture, low word then high word -/
def F.STAMP_LO_stamp : Fld := ⟨.STAMP_LO, 31, 0, .ro, .live, fun _ _ => 0⟩
/-- STAMP_HI.stamp: Fabric time of the capture, low word then high word -/
def F.STAMP_HI_stamp : Fld := ⟨.STAMP_HI, 31, 0, .ro, .live, fun _ _ => 0⟩
/-- SHADOW_LO.shadow_lo: Value bits [31:0] at the last snap -/
def F.SHADOW_LO_shadow_lo : Fld := ⟨.SHADOW_LO, 31, 0, .ro, .live, fun _ _ => 0⟩
/-- SHADOW_HI.frost_id: frost_id of that snap -/
def F.SHADOW_HI_frost_id : Fld := ⟨.SHADOW_HI, 31, 24, .ro, .live, fun _ _ => 0⟩
/-- SHADOW_HI.ovf: ovf bit at the snap -/
def F.SHADOW_HI_ovf : Fld := ⟨.SHADOW_HI, 16, 16, .ro, .live, fun _ _ => 0⟩
/-- SHADOW_HI.shadow_hi: Value bits [47:32] -/
def F.SHADOW_HI_shadow_hi : Fld := ⟨.SHADOW_HI, 15, 0, .ro, .live, fun _ _ => 0⟩
/-- PM_ATTIC_REC.word: Attic record word, Table 19.2 -/
def F.PM_ATTIC_REC_word : Fld := ⟨.PM_ATTIC_REC, 31, 0, .ro, .live, fun _ _ => 0⟩
/-- MB_STATUS.running: The Warden pair runs and accepts commands -/
def F.MB_STATUS_running : Fld := ⟨.MB_STATUS, 31, 31, .ro, .live, fun _ _ => 0⟩
/-- MB_STATUS.primary: 1 on die 0 -/
def F.MB_STATUS_primary : Fld := ⟨.MB_STATUS, 30, 30, .ro, .fixed, fun _ x => if x.die = 0 then 1 else 0⟩
/-- MB_STATUS.fm_ports, part i of 4 (1 bit each): Bit k set when channel k is present (Table 15.2); 0 on dies 1 and up -/
def F.MB_STATUS_fm_ports (i : Nat) : Fld := ⟨.MB_STATUS, 0 + 1 * i + 0, 0 + 1 * i, .ro, .fixed, fun _ _ => 0⟩
/-- MB_OVERCAST.level: R423 -/
def F.MB_OVERCAST_level : Fld := ⟨.MB_OVERCAST, 31, 30, .ro, .live, fun _ _ => 0⟩
/-- MB_OVERCAST.load1: Core 1 load, % -/
def F.MB_OVERCAST_load1 : Fld := ⟨.MB_OVERCAST, 23, 16, .ro, .live, fun _ _ => 0⟩
/-- MB_OVERCAST.load0: Core 0 load, % -/
def F.MB_OVERCAST_load0 : Fld := ⟨.MB_OVERCAST, 15, 8, .ro, .live, fun _ _ => 0⟩
/-- MB_OVERCAST_AGE.oldest_us: Age in µs of the oldest accepted command not started, on any channel of the die; 0 when none -/
def F.MB_OVERCAST_AGE_oldest_us : Fld := ⟨.MB_OVERCAST_AGE, 31, 0, .ro, .live, fun _ _ => 0⟩
/-- MB_CCI_CTRL.dm_int_en: Bit k allows vector 1 of FM port k (R422). Reads 0 on dies 1 and up. -/
def F.MB_CCI_CTRL_dm_int_en : Fld := ⟨.MB_CCI_CTRL, 3, 0, .rw, .live, fun _ _ => 0⟩
/-- MB_CHAN_c.present: Channel c exists on this die -/
def F.MB_CHAN_c_present : Fld := ⟨.MB_CHAN_c, 31, 31, .ro, .fixed, fun _ x => if (x.die = 0 ∧ x.idx = 4) ∨ (x.die ≠ 0 ∧ x.idx = 5) then 1 else 0⟩
/-- MB_CHAN_c.bg_running: A background command runs -/
def F.MB_CHAN_c_bg_running : Fld := ⟨.MB_CHAN_c, 30, 30, .ro, .live, fun _ _ => 0⟩
/-- MB_CHAN_c.depth: Queue entries in use, 0–256 -/
def F.MB_CHAN_c_depth : Fld := ⟨.MB_CHAN_c, 24, 16, .ro, .live, fun _ _ => 0⟩
/-- MB_CHAN_c.db_ignored: R420 -/
def F.MB_CHAN_c_db_ignored : Fld := ⟨.MB_CHAN_c, 15, 8, .ro, .live, fun _ _ => 0⟩
/-- MB_CHAN_c.busy_rejects: R416 -/
def F.MB_CHAN_c_busy_rejects : Fld := ⟨.MB_CHAN_c, 7, 0, .ro, .live, fun _ _ => 0⟩
/-- MB_HATCH_CTRL.dr_tmo: R429, in µs; 0 is stored as 1 -/
def F.MB_HATCH_CTRL_dr_tmo : Fld := ⟨.MB_HATCH_CTRL, 31, 16, .rw, .live, fun _ _ => 50⟩
/-- MB_HATCH_CTRL.pf_words: R432, 0–8; above 8 is stored as 8 -/
def F.MB_HATCH_CTRL_pf_words : Fld := ⟨.MB_HATCH_CTRL, 15, 12, .rw, .live, fun _ _ => 4⟩
/-- MB_HATCH_CTRL.pf_tmo: R432, in µs; 0 is stored as 1 -/
def F.MB_HATCH_CTRL_pf_tmo : Fld := ⟨.MB_HATCH_CTRL, 11, 0, .rw, .live, fun _ _ => 100⟩
/-- MB_HATCH_CNT0.pf_discard: Prefetched words discarded -/
def F.MB_HATCH_CNT0_pf_discard : Fld := ⟨.MB_HATCH_CNT0, 31, 16, .ro, .live, fun _ _ => 0⟩
/-- MB_HATCH_CNT0.dr_discard: Delayed reads discarded -/
def F.MB_HATCH_CNT0_dr_discard : Fld := ⟨.MB_HATCH_CNT0, 15, 0, .ro, .live, fun _ _ => 0⟩
/-- MB_HATCH_CNT1.backoffs: R430 -/
def F.MB_HATCH_CNT1_backoffs : Fld := ⟨.MB_HATCH_CNT1, 31, 16, .ro, .live, fun _ _ => 0⟩
/-- MB_HATCH_CNT1.partial_wr: R427 -/
def F.MB_HATCH_CNT1_partial_wr : Fld := ⟨.MB_HATCH_CNT1, 15, 0, .ro, .live, fun _ _ => 0⟩
/-- MB_EVENT.ignored_write: A Quiet write in this block was ignored -/
def F.MB_EVENT_ignored_write : Fld := ⟨.MB_EVENT, 9, 9, .w1c, .live, fun _ _ => 0⟩
/-- MB_EVENT.overcast: R423 -/
def F.MB_EVENT_overcast : Fld := ⟨.MB_EVENT, 8, 8, .w1c, .live, fun _ _ => 0⟩
/-- MB_EVENT.busy_reject: R416 -/
def F.MB_EVENT_busy_reject : Fld := ⟨.MB_EVENT, 7, 7, .w1c, .live, fun _ _ => 0⟩
/-- MB_EVENT.recovered: R435 -/
def F.MB_EVENT_recovered : Fld := ⟨.MB_EVENT, 6, 6, .w1c, .live, fun _ _ => 0⟩
/-- MB_EVENT.stuck: R435 -/
def F.MB_EVENT_stuck : Fld := ⟨.MB_EVENT, 5, 5, .w1c, .live, fun _ _ => 0⟩
/-- MB_EVENT.bus_err: R434 -/
def F.MB_EVENT_bus_err : Fld := ⟨.MB_EVENT, 4, 4, .w1c, .live, fun _ _ => 0⟩
/-- MB_EVENT.nack: R434 -/
def F.MB_EVENT_nack : Fld := ⟨.MB_EVENT, 3, 3, .w1c, .live, fun _ _ => 0⟩
/-- MB_EVENT.partial_wr: R427 -/
def F.MB_EVENT_partial_wr : Fld := ⟨.MB_EVENT, 2, 2, .w1c, .live, fun _ _ => 0⟩
/-- MB_EVENT.dr_discard: R429 -/
def F.MB_EVENT_dr_discard : Fld := ⟨.MB_EVENT, 1, 1, .w1c, .live, fun _ _ => 0⟩
/-- MB_EVENT.pf_discard: R432 -/
def F.MB_EVENT_pf_discard : Fld := ⟨.MB_EVENT, 0, 0, .w1c, .live, fun _ _ => 0⟩
/-- MB_DM_INT_k.pending, part i of 32 (1 bit each): Bit b set by queue 32k + b (R422) -/
def F.MB_DM_INT_k_pending (i : Nat) : Fld := ⟨.MB_DM_INT_k, 0 + 1 * i + 0, 0 + 1 * i, .w1c, .live, fun _ _ => 0⟩
/-- MB_DM_INT_SUM_LO.sum: Bit k set while MB_DM_INT_k is not 0, k = 0…31 -/
def F.MB_DM_INT_SUM_LO_sum : Fld := ⟨.MB_DM_INT_SUM_LO, 31, 0, .ro, .live, fun _ _ => 0⟩
/-- MB_DM_INT_SUM_HI.sum: Bit k − 32 set while MB_DM_INT_k is not 0, k = 32…63 -/
def F.MB_DM_INT_SUM_HI_sum : Fld := ⟨.MB_DM_INT_SUM_HI, 31, 0, .ro, .live, fun _ _ => 0⟩
/-- MB_RANGE_r_word0.valid: The range is marked side-effect-free -/
def F.MB_RANGE_r_word0_valid : Fld := ⟨.MB_RANGE_r_word0, 31, 31, .ro, .fixed, fun _ _ => 0⟩
/-- MB_RANGE_r_word0.base: Register-space address bits [27:8] of the first byte -/
def F.MB_RANGE_r_word0_base : Fld := ⟨.MB_RANGE_r_word0, 27, 8, .ro, .fixed, fun _ _ => 0⟩
/-- MB_RANGE_r_word1.limit: Address bits [27:8] of the last 256-byte unit -/
def F.MB_RANGE_r_word1_limit : Fld := ⟨.MB_RANGE_r_word1, 27, 8, .ro, .fixed, fun _ _ => 0⟩
/-- MB_XBUS_CTRL_g.en: Enables bus g. While 0, window accesses end as errors (R434). -/
def F.MB_XBUS_CTRL_g_en : Fld := ⟨.MB_XBUS_CTRL_g, 31, 31, .rw, .live, fun _ _ => 0⟩
/-- MB_XBUS_CTRL_g.speed: 0 100 kHz, 1 400 kHz, 2 1 MHz; 3 is stored as 2 -/
def F.MB_XBUS_CTRL_g_speed : Fld := ⟨.MB_XBUS_CTRL_g, 29, 28, .rw, .quiet, fun _ _ => 0⟩
/-- MB_XBUS_CTRL_g.stretch_us: R434, in µs; 0 is stored as 1 -/
def F.MB_XBUS_CTRL_g_stretch_us : Fld := ⟨.MB_XBUS_CTRL_g, 15, 0, .rw, .live, fun _ _ => 1000⟩
/-- MB_XBUS_STATUS_g.busy: A transaction is in progress -/
def F.MB_XBUS_STATUS_g_busy : Fld := ⟨.MB_XBUS_STATUS_g, 31, 31, .ro, .live, fun _ _ => 0⟩
/-- MB_XBUS_STATUS_g.stuck: R435 -/
def F.MB_XBUS_STATUS_g_stuck : Fld := ⟨.MB_XBUS_STATUS_g, 30, 30, .ro, .live, fun _ _ => 0⟩
/-- MB_XBUS_STATUS_g.nacks: Transactions ended by NACK -/
def F.MB_XBUS_STATUS_g_nacks : Fld := ⟨.MB_XBUS_STATUS_g, 15, 8, .ro, .live, fun _ _ => 0⟩
/-- MB_XBUS_STATUS_g.bus_errs: Transactions ended by stretching or a stuck bus -/
def F.MB_XBUS_STATUS_g_bus_errs : Fld := ⟨.MB_XBUS_STATUS_g, 7, 0, .ro, .live, fun _ _ => 0⟩
/-- MB_DR_CMD_s.go: Starts the read; ignored while busy = 1 -/
def F.MB_DR_CMD_s_go : Fld := ⟨.MB_DR_CMD_s, 31, 31, .wo, .live, fun _ _ => 0⟩
/-- MB_DR_CMD_s.busy: The read is in progress -/
def F.MB_DR_CMD_s_busy : Fld := ⟨.MB_DR_CMD_s, 30, 30, .ro, .live, fun _ _ => 0⟩
/-- MB_DR_CMD_s.done: Data waits to be collected -/
def F.MB_DR_CMD_s_done : Fld := ⟨.MB_DR_CMD_s, 29, 29, .ro, .live, fun _ _ => 0⟩
/-- MB_DR_CMD_s.space: 0 register space; 1 device-form memory, read through this die's Hatch (R429) -/
def F.MB_DR_CMD_s_space : Fld := ⟨.MB_DR_CMD_s, 28, 28, .rw, .live, fun _ _ => 0⟩
/-- MB_DR_CMD_s.addr: Register-space address, 4-byte aligned. Ignored for space = 1. -/
def F.MB_DR_CMD_s_addr : Fld := ⟨.MB_DR_CMD_s, 27, 0, .rw, .live, fun _ _ => 0⟩
/-- MB_DR_DATA_s.data: The data. Reading frees the slot. 0xFFFF_FFFF after a discard. -/
def F.MB_DR_DATA_s_data : Fld := ⟨.MB_DR_DATA_s, 31, 0, .ro, .live, fun _ _ => 4294967295⟩
/-- MB_DR_DADDR_s_LO.daddr_lo: For space = 1: bits [31:0] of the device-form address (R321), 4-byte aligned. Written as R8. -/
def F.MB_DR_DADDR_s_LO_daddr_lo : Fld := ⟨.MB_DR_DADDR_s_LO, 31, 0, .rw, .live, fun _ _ => 0⟩
/-- MB_DR_DADDR_s_HI.daddr_hi: Bits [63:32] of the device-form address: port in [31:25], LD in [24:21], 0 in [20], device address bits [51:32] in [19:0] -/
def F.MB_DR_DADDR_s_HI_daddr_hi : Fld := ⟨.MB_DR_DADDR_s_HI, 31, 0, .rw, .live, fun _ _ => 0⟩
/-- INV_STATUS.state: 0 None, 1 Loading, 2 Applied, 3 Failed (R448), 4 Applying -/
def F.INV_STATUS_state : Fld := ⟨.INV_STATUS, 31, 28, .ro, .live, fun _ _ => 0⟩
/-- INV_STATUS.boot_slot: Slot loaded first at reset -/
def F.INV_STATUS_boot_slot : Fld := ⟨.INV_STATUS, 27, 27, .ro, .live, fun _ _ => 0⟩
/-- INV_STATUS.loaded_slot: Slot of the image in force -/
def F.INV_STATUS_loaded_slot : Fld := ⟨.INV_STATUS, 26, 26, .ro, .live, fun _ _ => 0⟩
/-- INV_STATUS.fallback: The other slot was loaded (R448) -/
def F.INV_STATUS_fallback : Fld := ⟨.INV_STATUS, 25, 25, .ro, .live, fun _ _ => 0⟩
/-- INV_STATUS.pending_restart: An armed image waits for reset (R452) -/
def F.INV_STATUS_pending_restart : Fld := ⟨.INV_STATUS, 24, 24, .ro, .live, fun _ _ => 0⟩
/-- INV_VERSION.version: version of the image in force -/
def F.INV_VERSION_version : Fld := ⟨.INV_VERSION, 31, 0, .ro, .live, fun _ _ => 0⟩
/-- INV_FLOOR.floor: Stored floor (R447) -/
def F.INV_FLOOR_floor : Fld := ⟨.INV_FLOOR, 31, 0, .ro, .live, fun _ _ => 0⟩
/-- INV_BUILD_i.build_id: Bytes 4i to 4i + 3 of build_id -/
def F.INV_BUILD_i_build_id : Fld := ⟨.INV_BUILD_i, 31, 0, .ro, .live, fun _ _ => 0⟩
/-- INV_CMD.go: Starts op. Only the primary Warden pair's writes act. -/
def F.INV_CMD_go : Fld := ⟨.INV_CMD, 31, 31, .wo, .live, fun _ _ => 0⟩
/-- INV_CMD.busy: An op runs -/
def F.INV_CMD_busy : Fld := ⟨.INV_CMD, 30, 30, .ro, .live, fun _ _ => 0⟩
/-- INV_CMD.op: 0 verify, 1 apply, 2 arm; 3 reserved -/
def F.INV_CMD_op : Fld := ⟨.INV_CMD, 29, 28, .rw, .live, fun _ _ => 0⟩
/-- INV_CMD.slot: Flash slot -/
def F.INV_CMD_slot : Fld := ⟨.INV_CMD, 27, 27, .rw, .live, fun _ _ => 0⟩
/-- INV_RESULT.result: 0 done; 1 signature failed; 2 target mismatch; 3 below floor; 4 malformed; 5 blocked; 6 restart needed; 7 flash error or empty slot; 8 signer not accepted -/
def F.INV_RESULT_result : Fld := ⟨.INV_RESULT, 31, 28, .ro, .live, fun _ _ => 0⟩
/-- INV_RESULT.section: Section table index of the failure, or 0xFF where no section is at fault (R446) -/
def F.INV_RESULT_section : Fld := ⟨.INV_RESULT, 27, 20, .ro, .live, fun _ _ => 0⟩
/-- INV_RESULT.die: Die of the first blocked item -/
def F.INV_RESULT_die : Fld := ⟨.INV_RESULT, 19, 17, .ro, .live, fun _ _ => 0⟩
/-- INV_RESULT.quad: Quad or other local index of that item -/
def F.INV_RESULT_quad : Fld := ⟨.INV_RESULT, 16, 13, .ro, .live, fun _ _ => 0⟩
/-- INV_CHANGES.changed: Bit t set when section type t differs (R450) -/
def F.INV_CHANGES_changed : Fld := ⟨.INV_CHANGES, 9, 1, .ro, .live, fun _ _ => 0⟩
/-- INV_IGNORED_CNT.ignored_writes: Ignored Quiet writes on all dies (R455) -/
def F.INV_IGNORED_CNT_ignored_writes : Fld := ⟨.INV_IGNORED_CNT, 31, 0, .ro, .live, fun _ _ => 0⟩
/-- INV_IGNORED_LOG.valid: An ignored write is logged. Clearing it frees the log. -/
def F.INV_IGNORED_LOG_valid : Fld := ⟨.INV_IGNORED_LOG, 31, 31, .w1c, .live, fun _ _ => 0⟩
/-- INV_IGNORED_LOG.source: 0 the fabric through a Hatch, 1 a Warden pair -/
def F.INV_IGNORED_LOG_source : Fld := ⟨.INV_IGNORED_LOG, 30, 30, .ro, .live, fun _ _ => 0⟩
/-- INV_IGNORED_LOG.addr: Register address bits [27:2] -/
def F.INV_IGNORED_LOG_addr : Fld := ⟨.INV_IGNORED_LOG, 25, 0, .ro, .live, fun _ _ => 0⟩
/-- INV_EVENT.inv_busy: go written while busy -/
def F.INV_EVENT_inv_busy : Fld := ⟨.INV_EVENT, 2, 2, .w1c, .live, fun _ _ => 0⟩
/-- INV_EVENT.apply_refused: An op ended with a result other than 0 -/
def F.INV_EVENT_apply_refused : Fld := ⟨.INV_EVENT, 1, 1, .w1c, .live, fun _ _ => 0⟩
/-- INV_EVENT.fallback: R448 -/
def F.INV_EVENT_fallback : Fld := ⟨.INV_EVENT, 0, 0, .w1c, .live, fun _ _ => 0⟩
/-- LC_STATE.intent_valid: A transition is in progress (R481) -/
def F.LC_STATE_intent_valid : Fld := ⟨.LC_STATE, 31, 31, .ro, .live, fun _ _ => 0⟩
/-- LC_STATE.intent_state: Its target -/
def F.LC_STATE_intent_state : Fld := ⟨.LC_STATE, 30, 28, .ro, .live, fun _ _ => 0⟩
/-- LC_STATE.debug_unlocked: A kind 2 token is in force -/
def F.LC_STATE_debug_unlocked : Fld := ⟨.LC_STATE, 27, 27, .ro, .live, fun _ _ => 0⟩
/-- LC_STATE.fuse_err: R465 -/
def F.LC_STATE_fuse_err : Fld := ⟨.LC_STATE, 26, 26, .ro, .live, fun _ _ => 0⟩
/-- LC_STATE.state: Table 17.8 -/
def F.LC_STATE_state : Fld := ⟨.LC_STATE, 2, 0, .ro, .fixed, fun _ _ => 0⟩
/-- LC_DEVICE_ID_LO.device_id: 64-bit device identity. Read as R9. -/
def F.LC_DEVICE_ID_LO_device_id : Fld := ⟨.LC_DEVICE_ID_LO, 31, 0, .ro, .fixed, fun _ _ => 0⟩
/-- LC_DEVICE_ID_HI.device_id: 64-bit device identity. Read as R9. -/
def F.LC_DEVICE_ID_HI_device_id : Fld := ⟨.LC_DEVICE_ID_HI, 31, 0, .ro, .fixed, fun _ _ => 0⟩
/-- SEC_STATUS.boot_stage: 0 self-test, 1 store, 2 Inventory, 3 firmware, 4 done, 15 halted -/
def F.SEC_STATUS_boot_stage : Fld := ⟨.SEC_STATUS, 31, 28, .ro, .live, fun _ _ => 0⟩
/-- SEC_STATUS.selftest_fail: R465 -/
def F.SEC_STATUS_selftest_fail : Fld := ⟨.SEC_STATUS, 27, 27, .ro, .live, fun _ _ => 0⟩
/-- SEC_STATUS.store_err: No valid state record was found -/
def F.SEC_STATUS_store_err : Fld := ⟨.SEC_STATUS, 26, 26, .ro, .live, fun _ _ => 0⟩
/-- SEC_STATUS.xmss_exhausted: R468 -/
def F.SEC_STATUS_xmss_exhausted : Fld := ⟨.SEC_STATUS, 25, 25, .ro, .live, fun _ _ => 0⟩
/-- SEC_XMSS_NEXT.next: Next signature index -/
def F.SEC_XMSS_NEXT_next : Fld := ⟨.SEC_XMSS_NEXT, 20, 0, .ro, .live, fun _ _ => 0⟩
/-- SEC_XMSS_RESERVE.reserve: Durable xmss_reserve -/
def F.SEC_XMSS_RESERVE_reserve : Fld := ⟨.SEC_XMSS_RESERVE, 20, 0, .ro, .live, fun _ _ => 0⟩
/-- SEC_STORE.boot_count: Table 17.3 -/
def F.SEC_STORE_boot_count : Fld := ⟨.SEC_STORE, 31, 8, .ro, .live, fun _ _ => 0⟩
/-- SEC_STORE.slot: Ring slot of the current record -/
def F.SEC_STORE_slot : Fld := ⟨.SEC_STORE, 5, 0, .ro, .live, fun _ _ => 0⟩
/-- SEC_CTR_c_LO.last: last_c (R474). Read as R9. -/
def F.SEC_CTR_c_LO_last : Fld := ⟨.SEC_CTR_c_LO, 31, 0, .ro, .live, fun _ _ => 0⟩
/-- SEC_CTR_c_HI.last: last_c (R474). Read as R9. -/
def F.SEC_CTR_c_HI_last : Fld := ⟨.SEC_CTR_c_HI, 31, 0, .ro, .live, fun _ _ => 0⟩
/-- SEC_SESSION_c.open: A session is open on channel c -/
def F.SEC_SESSION_c_open : Fld := ⟨.SEC_SESSION_c, 31, 31, .ro, .live, fun _ _ => 0⟩
/-- SEC_SESSION_c.remaining_ms: R477 -/
def F.SEC_SESSION_c_remaining_ms : Fld := ⟨.SEC_SESSION_c, 15, 0, .ro, .live, fun _ _ => 0⟩
/-- SEC_CNT_AUTH.reg_denied: R476 -/
def F.SEC_CNT_AUTH_reg_denied : Fld := ⟨.SEC_CNT_AUTH, 31, 16, .ro, .live, fun _ _ => 0⟩
/-- SEC_CNT_AUTH.tag_fail: R472 -/
def F.SEC_CNT_AUTH_tag_fail : Fld := ⟨.SEC_CNT_AUTH, 15, 8, .ro, .live, fun _ _ => 0⟩
/-- SEC_CNT_AUTH.ctr_fail: R472 -/
def F.SEC_CNT_AUTH_ctr_fail : Fld := ⟨.SEC_CNT_AUTH, 7, 0, .ro, .live, fun _ _ => 0⟩
/-- SEC_MEAS_m_w.bytes: Bytes 4w to 4w + 3 of Mm (R466) -/
def F.SEC_MEAS_m_w_bytes : Fld := ⟨.SEC_MEAS_m_w, 31, 0, .ro, .live, fun _ _ => 0⟩
/-- SEC_KEYS.vendor_present, part i of 4 (1 bit each): Bit i: vendor slot i programmed -/
def F.SEC_KEYS_vendor_present (i : Nat) : Fld := ⟨.SEC_KEYS, 28 + 1 * i + 0, 28 + 1 * i, .ro, .fixed, fun _ _ => 0⟩
/-- SEC_KEYS.vendor_revoked, part i of 4 (1 bit each): Bit i: vendor slot i revoked -/
def F.SEC_KEYS_vendor_revoked (i : Nat) : Fld := ⟨.SEC_KEYS, 24 + 1 * i + 0, 24 + 1 * i, .ro, .live, fun _ _ => 0⟩
/-- SEC_KEYS.owner_present, part i of 4 (1 bit each): Bit i: owner slot i holds a key -/
def F.SEC_KEYS_owner_present (i : Nat) : Fld := ⟨.SEC_KEYS, 20 + 1 * i + 0, 20 + 1 * i, .ro, .live, fun _ _ => 0⟩
/-- SEC_EVENT.xmss_low: R469 -/
def F.SEC_EVENT_xmss_low : Fld := ⟨.SEC_EVENT, 8, 8, .w1c, .live, fun _ _ => 0⟩
/-- SEC_EVENT.xmss_exhausted: R468 -/
def F.SEC_EVENT_xmss_exhausted : Fld := ⟨.SEC_EVENT, 7, 7, .w1c, .live, fun _ _ => 0⟩
/-- SEC_EVENT.fw_fail: R467 -/
def F.SEC_EVENT_fw_fail : Fld := ⟨.SEC_EVENT, 6, 6, .w1c, .live, fun _ _ => 0⟩
/-- SEC_EVENT.store_err: No valid state record at reset -/
def F.SEC_EVENT_store_err : Fld := ⟨.SEC_EVENT, 5, 5, .w1c, .live, fun _ _ => 0⟩
/-- SEC_EVENT.token_refused: R479 -/
def F.SEC_EVENT_token_refused : Fld := ⟨.SEC_EVENT, 4, 4, .w1c, .live, fun _ _ => 0⟩
/-- SEC_EVENT.lockout: R472 -/
def F.SEC_EVENT_lockout : Fld := ⟨.SEC_EVENT, 3, 3, .w1c, .live, fun _ _ => 0⟩
/-- SEC_EVENT.reg_denied: R476 -/
def F.SEC_EVENT_reg_denied : Fld := ⟨.SEC_EVENT, 2, 2, .w1c, .live, fun _ _ => 0⟩
/-- SEC_EVENT.ctr_fail: R472 -/
def F.SEC_EVENT_ctr_fail : Fld := ⟨.SEC_EVENT, 1, 1, .w1c, .live, fun _ _ => 0⟩
/-- SEC_EVENT.tag_fail: R472 -/
def F.SEC_EVENT_tag_fail : Fld := ⟨.SEC_EVENT, 0, 0, .w1c, .live, fun _ _ => 0⟩
/-- CH_STATUS.gen: Generation of the last Stocktake that addressed the package -/
def F.CH_STATUS_gen : Fld := ⟨.CH_STATUS, 31, 24, .ro, .live, fun _ _ => 0⟩
/-- CH_STATUS.addr: Chain address; 0xFE when none -/
def F.CH_STATUS_addr : Fld := ⟨.CH_STATUS, 23, 16, .ro, .live, fun _ _ => 254⟩
/-- CH_STATUS.eid: MCTP endpoint ID; 0 when none -/
def F.CH_STATUS_eid : Fld := ⟨.CH_STATUS, 15, 8, .ro, .live, fun _ _ => 0⟩
/-- CH_STATUS.line_ok: CH_IN idle-high for 1 ms or carrying frames -/
def F.CH_STATUS_line_ok : Fld := ⟨.CH_STATUS, 7, 7, .ro, .live, fun _ _ => 0⟩
/-- CH_CNT.rx_frames: Valid frames received -/
def F.CH_CNT_rx_frames : Fld := ⟨.CH_CNT, 31, 16, .ro, .live, fun _ _ => 0⟩
/-- CH_CNT.tx_frames: Frames sent, forwarded ones included -/
def F.CH_CNT_tx_frames : Fld := ⟨.CH_CNT, 15, 0, .ro, .live, fun _ _ => 0⟩
/-- CH_CNT_ERR.crc_err: R492 -/
def F.CH_CNT_ERR_crc_err : Fld := ⟨.CH_CNT_ERR, 31, 24, .ro, .live, fun _ _ => 0⟩
/-- CH_CNT_ERR.fwd_drop: R493 -/
def F.CH_CNT_ERR_fwd_drop : Fld := ⟨.CH_CNT_ERR, 23, 16, .ro, .live, fun _ _ => 0⟩
/-- CH_CNT_ERR.breaks: R498 -/
def F.CH_CNT_ERR_breaks : Fld := ⟨.CH_CNT_ERR, 15, 8, .ro, .live, fun _ _ => 0⟩
/-- CH_CNT_ERR.oversize: R492 -/
def F.CH_CNT_ERR_oversize : Fld := ⟨.CH_CNT_ERR, 7, 0, .ro, .live, fun _ _ => 0⟩
/-- CH_DIE.done: The die chain succeeded (R502) -/
def F.CH_DIE_done : Fld := ⟨.CH_DIE, 31, 31, .ro, .live, fun _ _ => 0⟩
/-- CH_DIE.chain_err: The die chain failed -/
def F.CH_DIE_chain_err : Fld := ⟨.CH_DIE, 30, 30, .ro, .live, fun _ _ => 0⟩
/-- CH_DIE.returned: Number carried by the returning token, modulo 8 -/
def F.CH_DIE_returned : Fld := ⟨.CH_DIE, 29, 27, .ro, .live, fun _ _ => 0⟩
/-- CH_EVENT.chain_err: R502 -/
def F.CH_EVENT_chain_err : Fld := ⟨.CH_EVENT, 5, 5, .w1c, .live, fun _ _ => 0⟩
/-- CH_EVENT.st_overflow: R497 -/
def F.CH_EVENT_st_overflow : Fld := ⟨.CH_EVENT, 4, 4, .w1c, .live, fun _ _ => 0⟩
/-- CH_EVENT.stocktake: The package took an address -/
def F.CH_EVENT_stocktake : Fld := ⟨.CH_EVENT, 3, 3, .w1c, .live, fun _ _ => 0⟩
/-- CH_EVENT.ch_break: R498 -/
def F.CH_EVENT_ch_break : Fld := ⟨.CH_EVENT, 2, 2, .w1c, .live, fun _ _ => 0⟩
/-- CH_EVENT.fwd_drop: R493 -/
def F.CH_EVENT_fwd_drop : Fld := ⟨.CH_EVENT, 1, 1, .w1c, .live, fun _ _ => 0⟩
/-- CH_EVENT.frame_err: R492 -/
def F.CH_EVENT_frame_err : Fld := ⟨.CH_EVENT, 0, 0, .w1c, .live, fun _ _ => 0⟩
/-- CK_RESET_CAUSE.pkg_resets: Package resets since the island gained power; saturates -/
def F.CK_RESET_CAUSE_pkg_resets : Fld := ⟨.CK_RESET_CAUSE, 15, 8, .ro, .live, fun _ _ => 0⟩
/-- CK_RESET_CAUSE.cause: Last reset: 1 island power-on, 2 PWR_OK, 3 SYS_RST#, 4 rail monitor, 5 REFCLK or PLL, 6 THERMTRIP#, 7 life-cycle transition, 8 command (R529) -/
def F.CK_RESET_CAUSE_cause : Fld := ⟨.CK_RESET_CAUSE, 3, 0, .ro, .live, fun _ _ => 1⟩
/-- CK_BOOT_STATUS.stage: 0 reset, 1 clocks, 2 die chain, 3 Strongroom, 4 Inventory, 5 firmware, 6 running, 15 halted -/
def F.CK_BOOT_STATUS_stage : Fld := ⟨.CK_BOOT_STATUS, 31, 28, .ro, .live, fun _ _ => 0⟩
/-- CK_BOOT_STATUS.error: Table 20.4; 0 none -/
def F.CK_BOOT_STATUS_error : Fld := ⟨.CK_BOOT_STATUS, 27, 24, .ro, .live, fun _ _ => 0⟩
/-- CK_BOOT_STATUS.fw_released, part i of 8 (1 bit each): Bit n set once die n's Warden pair has been released -/
def F.CK_BOOT_STATUS_fw_released (i : Nat) : Fld := ⟨.CK_BOOT_STATUS, 16 + 1 * i + 0, 16 + 1 * i, .ro, .live, fun _ _ => 0⟩
/-- CK_BOOT_STATUS.applied_ms: Fabric time at Applied, in ms; saturates -/
def F.CK_BOOT_STATUS_applied_ms : Fld := ⟨.CK_BOOT_STATUS, 15, 0, .ro, .live, fun _ _ => 0⟩
/-- CK_RST_CMD.go: Performs op when key is 0xA5 -/
def F.CK_RST_CMD_go : Fld := ⟨.CK_RST_CMD, 31, 31, .wo, .live, fun _ _ => 0⟩
/-- CK_RST_CMD.op: 0 package reset, 10 µs after the write completes; 1 Warden restart of die (R528); 2 and 3 reserved -/
def F.CK_RST_CMD_op : Fld := ⟨.CK_RST_CMD, 30, 29, .rw, .live, fun _ _ => 0⟩
/-- CK_RST_CMD.bad_cmd: A go with a wrong key, a reserved op, an absent die or R541 -/
def F.CK_RST_CMD_bad_cmd : Fld := ⟨.CK_RST_CMD, 28, 28, .w1c, .live, fun _ _ => 0⟩
/-- CK_RST_CMD.key: Must be 0xA5; cleared after each go -/
def F.CK_RST_CMD_key : Fld := ⟨.CK_RST_CMD, 23, 16, .rw, .live, fun _ _ => 0⟩
/-- CK_RST_CMD.die: Die for op 1 -/
def F.CK_RST_CMD_die : Fld := ⟨.CK_RST_CMD, 2, 0, .rw, .live, fun _ _ => 0⟩

/-- The fields of each register. -/
def Reg.fields : Reg → List Fld
  | .LC_PART_ID => [F.LC_PART_ID_family, F.LC_PART_ID_die_count_log2, F.LC_PART_ID_lane_grade, F.LC_PART_ID_stepping, F.LC_PART_ID_die_mask]
  | .CK_FTIME_LO => [F.CK_FTIME_LO_ftime_lo]
  | .CK_FTIME_HI => [F.CK_FTIME_HI_ftime_hi]
  | .CK_FTIME_STATUS => [F.CK_FTIME_STATUS_step_count] ++ (upTo 8).map F.CK_FTIME_STATUS_aligned_mask
  | .CK_DIE_FTIME_LO => [F.CK_DIE_FTIME_LO_ftime_lo]
  | .CK_DIE_FTIME_HI => [F.CK_DIE_FTIME_HI_ftime_hi]
  | .PD_DOM_REQ => (upTo 22).map F.PD_DOM_REQ_dom_on
  | .PD_DOM_LULL_EN => [F.PD_DOM_LULL_EN_lull_en_d21] ++ (upTo 3).map F.PD_DOM_LULL_EN_lull_en
  | .PD_DOM_STATE0 => (upTo 16).map F.PD_DOM_STATE0_state_d0_d15
  | .PD_DOM_STATE1 => (upTo 6).map F.PD_DOM_STATE1_state_d16_d21
  | .PD_DOM_REFUSED => (upTo 22).map F.PD_DOM_REFUSED_refused
  | .PD_LULL_IDLE => [F.PD_LULL_IDLE_idle_us]
  | .PD_PKG_CTRL => [F.PD_PKG_CTRL_p1_refused, F.PD_PKG_CTRL_p1_on, F.PD_PKG_CTRL_p0_lull_en]
  | .PD_PKG_STATUS => [F.PD_PKG_STATUS_p1_state, F.PD_PKG_STATUS_p0_state, F.PD_PKG_STATUS_thermtrip_seen, F.PD_PKG_STATUS_refclk_lost, F.PD_PKG_STATUS_rail_reset, F.PD_PKG_STATUS_island_source] ++ (upTo 8).map F.PD_PKG_STATUS_rail_low
  | .PD_PKG_POWER => [F.PD_PKG_POWER_power_mw]
  | .TM_TEMP_n => [F.TM_TEMP_n_temp]
  | .TM_TEMP_MAX => [F.TM_TEMP_MAX_sensor, F.TM_TEMP_MAX_temp]
  | .TM_LIMITS => [F.TM_LIMITS_trip_c, F.TM_LIMITS_throttle_c, F.TM_LIMITS_warn_c]
  | .TM_STATUS => [F.TM_STATUS_throttle_active, F.TM_STATUS_throttle_event, F.TM_STATUS_warn_event]
  | .TM_DIE_POWER => [F.TM_DIE_POWER_power_mw]
  | .LQ_CTRL => [F.LQ_CTRL_lane_en, F.LQ_CTRL_max_rate, F.LQ_CTRL_quad_en]
  | .LQ_STATUS => [F.LQ_STATUS_rate] ++ (upTo 4).map F.LQ_STATUS_signal_detect ++ (upTo 4).map F.LQ_STATUS_partner_detect ++ (upTo 4).map F.LQ_STATUS_polarity_inverted ++ (upTo 4).map F.LQ_STATUS_stage
  | .LQ_EQ_CTRL => [F.LQ_EQ_CTRL_eq_reuse, F.LQ_EQ_CTRL_preset_mask, F.LQ_EQ_CTRL_start_preset, F.LQ_EQ_CTRL_max_coef_steps, F.LQ_EQ_CTRL_dwell_us]
  | .LQ_EQ_BUDGET => [F.LQ_EQ_BUDGET_budget_ms]
  | .LQ_BARO_THR_NRZ => [F.LQ_BARO_THR_NRZ_accept, F.LQ_BARO_THR_NRZ_target, F.LQ_BARO_THR_NRZ_degrade, F.LQ_BARO_THR_NRZ_fail]
  | .LQ_BARO_THR_PAM4 => [F.LQ_BARO_THR_PAM4_accept, F.LQ_BARO_THR_PAM4_target, F.LQ_BARO_THR_PAM4_degrade, F.LQ_BARO_THR_PAM4_fail]
  | .LQ_BARO_n => [F.LQ_BARO_n_min_clear, F.LQ_BARO_n_baro_min, F.LQ_BARO_n_baro_lock, F.LQ_BARO_n_baro]
  | .LQ_EQ_RESULT_n => [F.LQ_EQ_RESULT_n_reused, F.LQ_EQ_RESULT_n_budget_expired, F.LQ_EQ_RESULT_n_base_preset, F.LQ_EQ_RESULT_n_pre_coef, F.LQ_EQ_RESULT_n_post_coef, F.LQ_EQ_RESULT_n_evals, F.LQ_EQ_RESULT_n_best_baro]
  | .LQ_TX_n => [F.LQ_TX_n_force, F.LQ_TX_n_pre, F.LQ_TX_n_main, F.LQ_TX_n_post, F.LQ_TX_n_preset]
  | .LQ_LOOP => [F.LQ_LOOP_far_end_active, F.LQ_LOOP_loop_refused, F.LQ_LOOP_loop_go, F.LQ_LOOP_mode]
  | .LQ_PATTERN => [F.LQ_PATTERN_check_en, F.LQ_PATTERN_gen_en, F.LQ_PATTERN_pattern]
  | .LQ_PAT_ERR_n => [F.LQ_PAT_ERR_n_errors]
  | .LQ_MARGIN_CTRL => [F.LQ_MARGIN_CTRL_start, F.LQ_MARGIN_CTRL_lane, F.LQ_MARGIN_CTRL_type, F.LQ_MARGIN_CTRL_dir, F.LQ_MARGIN_CTRL_steps, F.LQ_MARGIN_CTRL_error_limit]
  | .LQ_MARGIN_STATUS => [F.LQ_MARGIN_STATUS_busy, F.LQ_MARGIN_STATUS_aborted, F.LQ_MARGIN_STATUS_done, F.LQ_MARGIN_STATUS_steps_reached, F.LQ_MARGIN_STATUS_errors]
  | .LQ_EVENT => [F.LQ_EVENT_thr_refused, F.LQ_EVENT_ignored_write] ++ (upTo 4).map F.LQ_EVENT_baro_fail ++ (upTo 4).map F.LQ_EVENT_baro_degrade ++ (upTo 4).map F.LQ_EVENT_eq_fail ++ (upTo 4).map F.LQ_EVENT_lock_lost
  | .PT_CTRL => [F.PT_CTRL_retrain, F.PT_CTRL_role, F.PT_CTRL_width_cfg, F.PT_CTRL_cxl_en, F.PT_CTRL_cache_en, F.PT_CTRL_mem_en, F.PT_CTRL_bi_en, F.PT_CTRL_lat_opt_en, F.PT_CTRL_flit256_en, F.PT_CTRL_clocking, F.PT_CTRL_port_en]
  | .PT_STATUS => [F.PT_STATUS_pstate, F.PT_STATUS_cellar, F.PT_STATUS_down_reason]
  | .PT_NEG_LINK => [F.PT_NEG_LINK_rate, F.PT_NEG_LINK_width, F.PT_NEG_LINK_flit, F.PT_NEG_LINK_fec, F.PT_NEG_LINK_lane_reversed, F.PT_NEG_LINK_clock_mode, F.PT_NEG_LINK_eq_path, F.PT_NEG_LINK_retimers, F.PT_NEG_LINK_base_width, F.PT_NEG_LINK_partner_max_rate, F.PT_NEG_LINK_rates_tried, F.PT_NEG_LINK_degraded_width, F.PT_NEG_LINK_degraded_rate, F.PT_NEG_LINK_valid]
  | .PT_NEG_PROTO => [F.PT_NEG_PROTO_p_cxl, F.PT_NEG_PROTO_p_cache, F.PT_NEG_PROTO_p_mem, F.PT_NEG_PROTO_p_bi, F.PT_NEG_PROTO_p_lat_opt, F.PT_NEG_PROTO_p_flit256, F.PT_NEG_PROTO_cxl, F.PT_NEG_PROTO_cache, F.PT_NEG_PROTO_mem, F.PT_NEG_PROTO_bi, F.PT_NEG_PROTO_mld, F.PT_NEG_PROTO_pbr]
  | .PT_PARTNER_SN_LO => [F.PT_PARTNER_SN_LO_sn_lo]
  | .PT_PARTNER_SN_HI => [F.PT_PARTNER_SN_HI_sn_hi]
  | .PT_IDENT => [F.PT_IDENT_sn_valid, F.PT_IDENT_insert_gen]
  | .PT_CELLAR_CTRL => [F.PT_CELLAR_CTRL_flush_now, F.PT_CELLAR_CTRL_cellar_max, F.PT_CELLAR_CTRL_hold]
  | .PT_CELLAR_STATUS => [F.PT_CELLAR_STATUS_held_txn, F.PT_CELLAR_STATUS_held_cells]
  | .PT_CELLAR_COUNT => [F.PT_CELLAR_COUNT_flushes, F.PT_CELLAR_COUNT_releases]
  | .PT_FLUSH_DETAIL => [F.PT_FLUSH_DETAIL_reads_reissued, F.PT_FLUSH_DETAIL_reads_poisoned, F.PT_FLUSH_DETAIL_writes_survivor, F.PT_FLUSH_DETAIL_writes_dropped]
  | .PT_EVENT => [F.PT_EVENT_cxl_dropped, F.PT_EVENT_ignored_write, F.PT_EVENT_flap, F.PT_EVENT_cellar_overflow, F.PT_EVENT_id_mismatch, F.PT_EVENT_cellar_flush, F.PT_EVENT_cellar_release, F.PT_EVENT_proto_mismatch, F.PT_EVENT_rate_degraded, F.PT_EVENT_width_degraded, F.PT_EVENT_link_down, F.PT_EVENT_link_up, F.PT_EVENT_neg_fail]
  | .CL_CTRL => [F.CL_CTRL_retrain, F.CL_CTRL_retire, F.CL_CTRL_revive, F.CL_CTRL_speed_max, F.CL_CTRL_width_min, F.CL_CTRL_spare_en, F.CL_CTRL_half_speed_en, F.CL_CTRL_xoff_mode, F.CL_CTRL_hold_us, F.CL_CTRL_site_en]
  | .CL_STATUS => [F.CL_STATUS_state, F.CL_STATUS_width, F.CL_STATUS_speed, F.CL_STATUS_map_pending, F.CL_STATUS_epoch, F.CL_STATUS_spares_left, F.CL_STATUS_retrains]
  | .CL_PEER => [F.CL_PEER_peer_die, F.CL_PEER_peer_site, F.CL_PEER_route, F.CL_PEER_via_die]
  | .CL_PATH_DELAY => [F.CL_PATH_DELAY_valid, F.CL_PATH_DELAY_delay]
  | .CL_BARO_THR => [F.CL_BARO_THR_accept, F.CL_BARO_THR_spare_thr, F.CL_BARO_THR_fail]
  | .CL_REPLAY => [F.CL_REPLAY_unacked, F.CL_REPLAY_replay_timeout]
  | .CL_SEQ => [F.CL_SEQ_tx_next, F.CL_SEQ_tx_acked, F.CL_SEQ_rx_expected]
  | .CL_CNT_FEC => [F.CL_CNT_FEC_fec_flits]
  | .CL_CNT_CRC => [F.CL_CNT_CRC_crc_fail, F.CL_CNT_CRC_replays]
  | .CL_CNT_MISC => [F.CL_CNT_MISC_squalls, F.CL_CNT_MISC_spares_used, F.CL_CNT_MISC_map_downs, F.CL_CNT_MISC_handovers]
  | .CL_DROUGHT => [F.CL_DROUGHT_drought_thr, F.CL_DROUGHT_drought_us]
  | .CL_XOFF => (upTo 12).map F.CL_XOFF_xoff_sent ++ (upTo 12).map F.CL_XOFF_xoff_recv
  | .CL_XOFF_CTRL => [F.CL_XOFF_CTRL_xon_hyst]
  | .CL_CREDIT_ADV_c => [F.CL_CREDIT_ADV_c_hdr_adv, F.CL_CREDIT_ADV_c_data_adv]
  | .CL_CREDIT_AVAIL_c => [F.CL_CREDIT_AVAIL_c_hdr_avail, F.CL_CREDIT_AVAIL_c_data_avail]
  | .CL_BARO_n => [F.CL_BARO_n_min_clear, F.CL_BARO_n_use, F.CL_BARO_n_baro_min, F.CL_BARO_n_baro]
  | .CL_EVENT => [F.CL_EVENT_ignored_write, F.CL_EVENT_thr_refused, F.CL_EVENT_wiring_err, F.CL_EVENT_credit_overflow, F.CL_EVENT_audit_leak, F.CL_EVENT_drought, F.CL_EVENT_handover, F.CL_EVENT_retired, F.CL_EVENT_retrain, F.CL_EVENT_speed_down, F.CL_EVENT_width_down, F.CL_EVENT_spare_used, F.CL_EVENT_twice_failed, F.CL_EVENT_squall]
  | .XB_CTRL => [F.XB_CTRL_commit, F.XB_CTRL_iter, F.XB_CTRL_core_up]
  | .XB_IN_STALL => (upTo 32).map F.XB_IN_STALL_in_stall
  | .XB_LARDER_FREE => [F.XB_LARDER_FREE_shared_free]
  | .XB_LARDER_MIN => [F.XB_LARDER_MIN_min_clear, F.XB_LARDER_MIN_shared_min]
  | .XB_IN_CAP => [F.XB_IN_CAP_in_cap]
  | .XB_RESP_RESERVE => [F.XB_RESP_RESERVE_resp_reserve]
  | .XB_CELLAR_TOTAL => [F.XB_CELLAR_TOTAL_cellar_total]
  | .XB_CELLAR_USED => [F.XB_CELLAR_USED_cellar_used]
  | .XB_PART_FLOORS => [F.XB_PART_FLOORS_floors_total]
  | .XB_PART_CASUB => [F.XB_PART_CASUB_casub_total]
  | .XB_PART_RELAY => [F.XB_PART_RELAY_relay_total]
  | .XB_PART_SHARED => [F.XB_PART_SHARED_shared_total]
  | .XB_FLOOR_c => [F.XB_FLOOR_c_casub_pool, F.XB_FLOOR_c_floor]
  | .XB_GRP_CMD => [F.XB_GRP_CMD_go, F.XB_GRP_CMD_busy, F.XB_GRP_CMD_op, F.XB_GRP_CMD_index]
  | .XB_GRP_DATAw => [F.XB_GRP_DATAw_data]
  | .XB_CNT_STALL => [F.XB_CNT_STALL_stalls]
  | .XB_CNT_MCAST_DROP => [F.XB_CNT_MCAST_DROP_copies]
  | .XB_CNT_ECC => [F.XB_CNT_ECC_uncorrected, F.XB_CNT_ECC_corrected]
  | .XB_CNT_ERR => [F.XB_CNT_ERR_grp_miss, F.XB_CNT_ERR_hdr_err]
  | .XB_ECC_LOG => [F.XB_ECC_LOG_valid, F.XB_ECC_LOG_header, F.XB_ECC_LOG_input, F.XB_ECC_LOG_cell]
  | .XB_EVENT => [F.XB_EVENT_grp_busy, F.XB_EVENT_grp_refused, F.XB_EVENT_grp_miss, F.XB_EVENT_hdr_err, F.XB_EVENT_ecc_uncorrected, F.XB_EVENT_resp_reserve_hit, F.XB_EVENT_in_stall]
  | .BD_STATUS => [F.BD_STATUS_tables_ready]
  | .BD_UNBIND_TMO => [F.BD_UNBIND_TMO_unbind_tmo]
  | .BD_TBL_CMD => [F.BD_TBL_CMD_go, F.BD_TBL_CMD_busy, F.BD_TBL_CMD_op, F.BD_TBL_CMD_table, F.BD_TBL_CMD_index]
  | .BD_TBL_DATAw => [F.BD_TBL_DATAw_data]
  | .BD_LD_SHARE_q => (upTo 16).map F.BD_LD_SHARE_q_share
  | .BD_CNT_MISS => [F.BD_CNT_MISS_dec_miss]
  | .BD_CNT_MISC => [F.BD_CNT_MISC_shared_cfg_wr, F.BD_CNT_MISC_bi_misroute]
  | .BD_MISS_LOG_LO => [F.BD_MISS_LOG_LO_hpa]
  | .BD_MISS_LOG_HI => [F.BD_MISS_LOG_HI_valid, F.BD_MISS_LOG_HI_tc, F.BD_MISS_LOG_HI_vcs, F.BD_MISS_LOG_HI_hpa]
  | .BD_EVENT => [F.BD_EVENT_unbind_forced, F.BD_EVENT_tbl_busy, F.BD_EVENT_tbl_refused, F.BD_EVENT_dec_refused, F.BD_EVENT_bi_misroute, F.BD_EVENT_dec_miss]
  | .CA_CTRL => [F.CA_CTRL_bisnp_max, F.CA_CTRL_snoop_retry_en, F.CA_CTRL_ready]
  | .CA_STATUS => [F.CA_STATUS_walk_busy, F.CA_STATUS_walk_vcs, F.CA_STATUS_walk_region, F.CA_STATUS_walk_unbind, F.CA_STATUS_walk_reset, F.CA_STATUS_walk_queued, F.CA_STATUS_snoops_out]
  | .CA_SNOOP_TMO => [F.CA_SNOOP_TMO_snoop_tmo]
  | .CA_TBL_CMD => [F.CA_TBL_CMD_go, F.CA_TBL_CMD_busy, F.CA_TBL_CMD_op, F.CA_TBL_CMD_table, F.CA_TBL_CMD_hit, F.CA_TBL_CMD_index]
  | .CA_TBL_DATAw => [F.CA_TBL_DATAw_data]
  | .CA_OCCUPANCY => [F.CA_OCCUPANCY_entries]
  | .CA_CNT_LOOKUP => [F.CA_CNT_LOOKUP_lookups]
  | .CA_CNT_SNOOP => [F.CA_CNT_SNOOP_bisnp]
  | .CA_CNT_EVICT => [F.CA_CNT_EVICT_evictions, F.CA_CNT_EVICT_coarse]
  | .CA_CNT_MISC => [F.CA_CNT_MISC_snoop_retry, F.CA_CNT_MISC_snoop_lost, F.CA_CNT_MISC_dev_bi_drop, F.CA_CNT_MISC_non_bi_req]
  | .CA_CNT_MISC2 => [F.CA_CNT_MISC2_birsp_unexpected, F.CA_CNT_MISC2_poison_writes]
  | .CA_LOST_LOG_LO => [F.CA_LOST_LOG_LO_addr_lo]
  | .CA_LOST_LOG_HI => [F.CA_LOST_LOG_HI_valid, F.CA_LOST_LOG_HI_vcs, F.CA_LOST_LOG_HI_quad, F.CA_LOST_LOG_HI_ld, F.CA_LOST_LOG_HI_poisoned, F.CA_LOST_LOG_HI_addr_hi]
  | .CA_EVENT => [F.CA_EVENT_loft_uncorrected, F.CA_EVENT_snoop_lost, F.CA_EVENT_snoop_retry, F.CA_EVENT_birsp_unexpected, F.CA_EVENT_dev_bi_drop, F.CA_EVENT_non_bi_req, F.CA_EVENT_region_refused, F.CA_EVENT_tbl_refused, F.CA_EVENT_tbl_busy]
  | .MR_CTRL => [F.MR_CTRL_engine, F.MR_CTRL_poison_fail, F.MR_CTRL_blk_gap]
  | .MR_STATUS => [F.MR_STATUS_ready, F.MR_STATUS_guards_used, F.MR_STATUS_repair_q]
  | .MR_TMO => [F.MR_TMO_copy_tmo]
  | .MR_TBL_CMD => [F.MR_TBL_CMD_go, F.MR_TBL_CMD_busy, F.MR_TBL_CMD_op, F.MR_TBL_CMD_index]
  | .MR_TBL_DATAw => [F.MR_TBL_DATAw_data]
  | .MR_COPY_CMD => [F.MR_COPY_CMD_go, F.MR_COPY_CMD_busy, F.MR_COPY_CMD_op, F.MR_COPY_CMD_copy, F.MR_COPY_CMD_index]
  | .MR_RESILVER => [F.MR_RESILVER_active, F.MR_RESILVER_copy, F.MR_RESILVER_index, F.MR_RESILVER_in_flight]
  | .MR_CNT_REPAIR => [F.MR_CNT_REPAIR_reads_repaired, F.MR_CNT_REPAIR_rewrites_done]
  | .MR_CNT_MISC => [F.MR_CNT_MISC_dual_poison, F.MR_CNT_MISC_repair_skipped, F.MR_CNT_MISC_rewrites_discarded, F.MR_CNT_MISC_out_of_range]
  | .MR_CNT_FAIL => [F.MR_CNT_FAIL_copy_fails, F.MR_CNT_FAIL_lost, F.MR_CNT_FAIL_resilvers_done, F.MR_CNT_FAIL_copy_tmo_hits]
  | .MR_LOG => [F.MR_LOG_valid, F.MR_LOG_cause, F.MR_LOG_copy, F.MR_LOG_port, F.MR_LOG_ld, F.MR_LOG_index]
  | .MR_EVENT => [F.MR_EVENT_tbl_busy, F.MR_EVENT_out_of_range, F.MR_EVENT_copy_refused, F.MR_EVENT_mr_refused, F.MR_EVENT_dual_poison, F.MR_EVENT_repair, F.MR_EVENT_resilver_done, F.MR_EVENT_lost, F.MR_EVENT_copy_failed]
  | .OV_CTRL => [F.OV_CTRL_engine, F.OV_CTRL_mig_window]
  | .OV_STATUS => [F.OV_STATUS_ready, F.OV_STATUS_slots_used, F.OV_STATUS_entries]
  | .OV_CMD => [F.OV_CMD_go, F.OV_CMD_busy, F.OV_CMD_op, F.OV_CMD_hit, F.OV_CMD_result, F.OV_CMD_index]
  | .OV_DATA0 => [F.OV_DATA0_key_lo]
  | .OV_DATA1 => [F.OV_DATA1_quad, F.OV_DATA1_ld, F.OV_DATA1_key_hi]
  | .OV_DATA2 => [F.OV_DATA2_new_a]
  | .OV_DATA3 => [F.OV_DATA3_new_b]
  | .OV_DATA4_7 => [F.OV_DATA4_7_data]
  | .OV_CNT_MIG => [F.OV_CNT_MIG_done, F.OV_CNT_MIG_aborted]
  | .OV_CNT_MISC => [F.OV_CNT_MISC_dual_writes, F.OV_CNT_MISC_write_waits]
  | .OV_SLOT_s => [F.OV_SLOT_s_active, F.OV_SLOT_s_draining, F.OV_SLOT_s_done, F.OV_SLOT_s_aborted, F.OV_SLOT_s_copied, F.OV_SLOT_s_index]
  | .OV_EVENT => [F.OV_EVENT_poison_copied, F.OV_EVENT_tbl_busy, F.OV_EVENT_cmd_refused, F.OV_EVENT_mig_aborted, F.OV_EVENT_mig_done]
  | .SC_CTRL => [F.SC_CTRL_commit, F.SC_CTRL_ready]
  | .SC_STATUS => [F.SC_STATUS_wheel_slot, F.SC_STATUS_shapers_en]
  | .SC_SHP_CMD => [F.SC_SHP_CMD_go, F.SC_SHP_CMD_busy, F.SC_SHP_CMD_op, F.SC_SHP_CMD_tok_reset, F.SC_SHP_CMD_index]
  | .SC_SHP_DATAw => [F.SC_SHP_DATAw_data]
  | .SC_CNT_SPILL => [F.SC_CNT_SPILL_spills]
  | .SC_CNT_MISC => [F.SC_CNT_MISC_starve_promotions, F.SC_CNT_MISC_police_holds]
  | .SC_EVENT => [F.SC_EVENT_arb_refused, F.SC_EVENT_shp_refused, F.SC_EVENT_tbl_busy, F.SC_EVENT_starve, F.SC_EVENT_wheel_spill]
  | .SC_ARB_PRIO_q => (upTo 9).map F.SC_ARB_PRIO_q_level
  | .SC_ARB_WGT0_q => (upTo 4).map F.SC_ARB_WGT0_q_weight
  | .SC_ARB_WGT1_q => (upTo 4).map F.SC_ARB_WGT1_q_weight
  | .SC_ARB_WGT2_q => [F.SC_ARB_WGT2_q_weight]
  | .SC_ARB_STARVE_q => [F.SC_ARB_STARVE_q_starve]
  | .DM_Q_CTRL => [F.DM_Q_CTRL_en, F.DM_Q_CTRL_pause, F.DM_Q_CTRL_resume]
  | .DM_Q_CFG => [F.DM_Q_CFG_owned, F.DM_Q_CFG_owner, F.DM_Q_CFG_type, F.DM_Q_CFG_asp, F.DM_Q_CFG_engine, F.DM_Q_CFG_vcs_quad, F.DM_Q_CFG_size_log2, F.DM_Q_CFG_weight]
  | .DM_Q_BASE_LO => [F.DM_Q_BASE_LO_base]
  | .DM_Q_BASE_HI => [F.DM_Q_BASE_HI_base]
  | .DM_Q_CQ_BASE_LO => [F.DM_Q_CQ_BASE_LO_cq_base]
  | .DM_Q_CQ_BASE_HI => [F.DM_Q_CQ_BASE_HI_cq_base]
  | .DM_Q_CQ_CFG => [F.DM_Q_CQ_CFG_int_en, F.DM_Q_CQ_CFG_int_on_err, F.DM_Q_CQ_CFG_cq_size_log2]
  | .DM_Q_CQ_HEAD => [F.DM_Q_CQ_HEAD_cq_head]
  | .DM_Q_DOORBELL => [F.DM_Q_DOORBELL_doorbell]
  | .DM_Q_INVALIDATE => [F.DM_Q_INVALIDATE_inv]
  | .DM_Q_STATUS => [F.DM_Q_STATUS_state, F.DM_Q_STATUS_rescan, F.DM_Q_STATUS_held, F.DM_Q_STATUS_shaped, F.DM_Q_STATUS_last_status]
  | .DM_Q_POS => [F.DM_Q_POS_start_pos, F.DM_Q_POS_dev_pos]
  | .DM_Q_CQ_TAIL => [F.DM_Q_CQ_TAIL_cq_tail]
  | .DM_Q_INT_ADDR_LO => [F.DM_Q_INT_ADDR_LO_int_addr]
  | .DM_Q_INT_ADDR_HI => [F.DM_Q_INT_ADDR_HI_int_addr]
  | .DM_Q_INT_DATA => [F.DM_Q_INT_DATA_int_data]
  | .DM_ENG_CTRL => [F.DM_ENG_CTRL_int_weight, F.DM_ENG_CTRL_max_lines]
  | .DM_ENG_STATUS => [F.DM_ENG_STATUS_busy, F.DM_ENG_STATUS_throttled, F.DM_ENG_STATUS_queues, F.DM_ENG_STATUS_lines_out]
  | .DM_ENG_BYTES_LO => [F.DM_ENG_BYTES_LO_bytes]
  | .DM_ENG_BYTES_HI => [F.DM_ENG_BYTES_HI_bytes]
  | .DM_ENG_CNT_DESC => [F.DM_ENG_CNT_DESC_retired]
  | .DM_EVENT => [F.DM_EVENT_cq_head_bad, F.DM_EVENT_ignored_write, F.DM_EVENT_owned_write, F.DM_EVENT_cq_full, F.DM_EVENT_q_halted, F.DM_EVENT_q_refused]
  | .DM_HALT_LOG => [F.DM_HALT_LOG_valid, F.DM_HALT_LOG_status, F.DM_HALT_LOG_queue]
  | .DM_REFUSE_LOG => [F.DM_REFUSE_LOG_valid, F.DM_REFUSE_LOG_reason, F.DM_REFUSE_LOG_queue]
  | .DM_CNT_MISC => [F.DM_CNT_MISC_db_ignored, F.DM_CNT_MISC_cq_full_stalls]
  | .PN_CMD => [F.PN_CMD_go, F.PN_CMD_busy, F.PN_CMD_op, F.PN_CMD_tok_reset, F.PN_CMD_obj, F.PN_CMD_inst]
  | .PN_RESULT => [F.PN_RESULT_result]
  | .PN_DATAw => [F.PN_DATAw_data]
  | .PN_BLOB_w => [F.PN_BLOB_w_data]
  | .PN_STATUS => [F.PN_STATUS_ready, F.PN_STATUS_instances, F.PN_STATUS_queues_free]
  | .PN_FREE => [F.PN_FREE_shapers_free, F.PN_FREE_counters_free]
  | .PN_FREEZE_TMO => [F.PN_FREEZE_TMO_freeze_tmo]
  | .PN_CNT_STALE => [F.PN_CNT_STALE_stale_drop]
  | .PN_CNT_MISC => [F.PN_CNT_MISC_db_discard, F.PN_CNT_MISC_freeze_fails]
  | .PN_EVENT => [F.PN_EVENT_freeze_fail, F.PN_EVENT_cmd_refused, F.PN_EVENT_tbl_busy, F.PN_EVENT_stale_drop]
  | .RS_CTRL => [F.RS_CTRL_flap_window]
  | .RS_STATUS => [F.RS_STATUS_outside, F.RS_STATUS_pending]
  | .RS_ALERT_MASK => [F.RS_ALERT_MASK_mask]
  | .RS_LOG_HEAD => [F.RS_LOG_HEAD_head]
  | .RS_LOG_TAIL => [F.RS_LOG_TAIL_tail]
  | .RS_CNT_CLASS => [F.RS_CNT_CLASS_transient, F.RS_CNT_CLASS_lasting, F.RS_CNT_CLASS_outside, F.RS_CNT_CLASS_suppressed]
  | .RS_CNT_SRAM => [F.RS_CNT_SRAM_corrected, F.RS_CNT_SRAM_uncorrected]
  | .RS_FENCE_CMD => [F.RS_FENCE_CMD_go, F.RS_FENCE_CMD_busy, F.RS_FENCE_CMD_op, F.RS_FENCE_CMD_quad]
  | .RS_FENCE_STATUS => [F.RS_FENCE_STATUS_last_reason] ++ (upTo 16).map F.RS_FENCE_STATUS_fenced
  | .RS_SCRUB => [F.RS_SCRUB_scrub_en, F.RS_SCRUB_scrub_period]
  | .RS_LOST_LOG_LO => [F.RS_LOST_LOG_LO_addr]
  | .RS_LOST_LOG_HI => [F.RS_LOST_LOG_HI_valid, F.RS_LOST_LOG_HI_port, F.RS_LOST_LOG_HI_ld, F.RS_LOST_LOG_HI_addr_hi]
  | .RS_WDOG_CTRL => [F.RS_WDOG_CTRL_wdog_en, F.RS_WDOG_CTRL_wdog_ms]
  | .RS_WDOG_KICK => [F.RS_WDOG_KICK_kick]
  | .RS_WDOG_STATUS => [F.RS_WDOG_STATUS_held, F.RS_WDOG_STATUS_restarting, F.RS_WDOG_STATUS_restarts]
  | .RS_EVENT => [F.RS_EVENT_fence_refused, F.RS_EVENT_kick_err, F.RS_EVENT_wdog_held, F.RS_EVENT_wdog_restart, F.RS_EVENT_lost_write, F.RS_EVENT_sram_uncorrected, F.RS_EVENT_sram_lasting, F.RS_EVENT_unfence, F.RS_EVENT_fence, F.RS_EVENT_rate_capped, F.RS_EVENT_log_overrun]
  | .RS_LOG_r => [F.RS_LOG_r_word]
  | .SP_CTRL => [F.SP_CTRL_unlock, F.SP_CTRL_slot_class, F.SP_CTRL_tdiode_en, F.SP_CTRL_retry_max, F.SP_CTRL_perst_hold, F.SP_CTRL_auto_on, F.SP_CTRL_power, F.SP_CTRL_slot_en]
  | .SP_STATUS => [F.SP_STATUS_state, F.SP_STATUS_present, F.SP_STATUS_prsnt_raw, F.SP_STATUS_forecast, F.SP_STATUS_pgood, F.SP_STATUS_perst, F.SP_STATUS_ilim_active, F.SP_STATUS_flt_count] ++ (upTo 2).map F.SP_STATUS_oring_on ++ (upTo 2).map F.SP_STATUS_feed_good
  | .SP_SHUNT_LIM => [F.SP_SHUNT_LIM_rsense, F.SP_SHUNT_LIM_ilim]
  | .SP_RAMP => [F.SP_RAMP_perst_ms, F.SP_RAMP_gate_ua, F.SP_RAMP_gate_ms, F.SP_RAMP_ramp_ms]
  | .SP_TIMERS => [F.SP_TIMERS_fc_lead, F.SP_TIMERS_retry, F.SP_TIMERS_flt_us]
  | .SP_THRESH => [F.SP_THRESH_feed_uv, F.SP_THRESH_fc_v, F.SP_THRESH_pg_v, F.SP_THRESH_out_uv]
  | .SP_FET_MODEL => [F.SP_FET_MODEL_rth, F.SP_FET_MODEL_tau]
  | .SP_FET_LIMIT => [F.SP_FET_LIMIT_t_trip, F.SP_FET_LIMIT_t_warn, F.SP_FET_LIMIT_t_amb]
  | .SP_MEAS_FEED => [F.SP_MEAS_FEED_fa_mv, F.SP_MEAS_FEED_fb_mv]
  | .SP_MEAS_OUT => [F.SP_MEAS_OUT_vout_mv, F.SP_MEAS_OUT_gate_mv]
  | .SP_MEAS_I => [F.SP_MEAS_I_current, F.SP_MEAS_I_power]
  | .SP_MEAS_T => [F.SP_MEAS_T_t_direct, F.SP_MEAS_T_t_model]
  | .SP_COUNT => [F.SP_COUNT_insert_gen, F.SP_COUNT_trips, F.SP_COUNT_retries]
  | .SP_FAULT_LOG => [F.SP_FAULT_LOG_valid, F.SP_FAULT_LOG_cause, F.SP_FAULT_LOG_state, F.SP_FAULT_LOG_sense]
  | .SP_EVENT => [F.SP_EVENT_ignored_write, F.SP_EVENT_locked, F.SP_EVENT_forecast, F.SP_EVENT_pgood_lost, F.SP_EVENT_reverse_b, F.SP_EVENT_reverse_a, F.SP_EVENT_feed_b_lost, F.SP_EVENT_feed_a_lost, F.SP_EVENT_feed_ov, F.SP_EVENT_fet_warn, F.SP_EVENT_trip, F.SP_EVENT_fet_damaged, F.SP_EVENT_removed, F.SP_EVENT_inserted, F.SP_EVENT_power_on, F.SP_EVENT_power_off]
  | .PM_STATUS => [F.PM_STATUS_ready, F.PM_STATUS_enabled, F.PM_STATUS_owned]
  | .PM_FROST_CTRL => [F.PM_FROST_CTRL_go, F.PM_FROST_CTRL_op]
  | .PM_FROST_STATUS => [F.PM_FROST_STATUS_state, F.PM_FROST_STATUS_late, F.PM_FROST_STATUS_unaligned, F.PM_FROST_STATUS_frost_id] ++ (upTo 8).map F.PM_FROST_STATUS_ack_mask
  | .PM_FROST_AT_LO => [F.PM_FROST_AT_LO_target]
  | .PM_FROST_AT_HI => [F.PM_FROST_AT_HI_target]
  | .PM_FROST_TIME_LO => [F.PM_FROST_TIME_LO_snapped]
  | .PM_FROST_TIME_HI => [F.PM_FROST_TIME_HI_snapped]
  | .PM_ATTIC_CTRL => [F.PM_ATTIC_CTRL_en, F.PM_ATTIC_CTRL_mode, F.PM_ATTIC_CTRL_addr_kind, F.PM_ATTIC_CTRL_random, F.PM_ATTIC_CTRL_rate_log2, F.PM_ATTIC_CTRL_wm]
  | .PM_ATTIC_FILT => [F.PM_ATTIC_FILT_tc_sel, F.PM_ATTIC_FILT_src_any, F.PM_ATTIC_FILT_src, F.PM_ATTIC_FILT_vcs_any, F.PM_ATTIC_FILT_vcs, F.PM_ATTIC_FILT_tc9_sel, F.PM_ATTIC_FILT_tc10_sel]
  | .PM_ATTIC_AMATCH => [F.PM_ATTIC_AMATCH_amatch]
  | .PM_ATTIC_AMASK => [F.PM_ATTIC_AMASK_amask]
  | .PM_ATTIC_LAT_MIN => [F.PM_ATTIC_LAT_MIN_lat_min]
  | .PM_ATTIC_HEAD => [F.PM_ATTIC_HEAD_head]
  | .PM_ATTIC_TAIL => [F.PM_ATTIC_TAIL_tail]
  | .PM_ATTIC_STATUS => [F.PM_ATTIC_STATUS_full, F.PM_ATTIC_STATUS_wrapped, F.PM_ATTIC_STATUS_outstanding]
  | .PM_EVENT => [F.PM_EVENT_owned_write, F.PM_EVENT_ignored_write, F.PM_EVENT_attic_full, F.PM_EVENT_attic_wm, F.PM_EVENT_evt_refused, F.PM_EVENT_frost_refused, F.PM_EVENT_frost_done, F.PM_EVENT_ovf]
  | .PM_CNT_MISC => [F.PM_CNT_MISC_attic_skip, F.PM_CNT_MISC_lat_discard]
  | .PM_OVF_j => (upTo 32).map F.PM_OVF_j_ovf
  | .EVT => [F.EVT_en, F.EVT_int_en, F.EVT_unit_all, F.EVT_unit, F.EVT_event]
  | .OWN => [F.OWN_owned, F.OWN_owner]
  | .CNT_LO => [F.CNT_LO_value_lo]
  | .CNT_HI => [F.CNT_HI_seq, F.CNT_HI_value_hi]
  | .STAMP_LO => [F.STAMP_LO_stamp]
  | .STAMP_HI => [F.STAMP_HI_stamp]
  | .SHADOW_LO => [F.SHADOW_LO_shadow_lo]
  | .SHADOW_HI => [F.SHADOW_HI_frost_id, F.SHADOW_HI_ovf, F.SHADOW_HI_shadow_hi]
  | .PM_ATTIC_REC => [F.PM_ATTIC_REC_word]
  | .MB_STATUS => [F.MB_STATUS_running, F.MB_STATUS_primary] ++ (upTo 4).map F.MB_STATUS_fm_ports
  | .MB_OVERCAST => [F.MB_OVERCAST_level, F.MB_OVERCAST_load1, F.MB_OVERCAST_load0]
  | .MB_OVERCAST_AGE => [F.MB_OVERCAST_AGE_oldest_us]
  | .MB_CCI_CTRL => [F.MB_CCI_CTRL_dm_int_en]
  | .MB_CHAN_c => [F.MB_CHAN_c_present, F.MB_CHAN_c_bg_running, F.MB_CHAN_c_depth, F.MB_CHAN_c_db_ignored, F.MB_CHAN_c_busy_rejects]
  | .MB_HATCH_CTRL => [F.MB_HATCH_CTRL_dr_tmo, F.MB_HATCH_CTRL_pf_words, F.MB_HATCH_CTRL_pf_tmo]
  | .MB_HATCH_CNT0 => [F.MB_HATCH_CNT0_pf_discard, F.MB_HATCH_CNT0_dr_discard]
  | .MB_HATCH_CNT1 => [F.MB_HATCH_CNT1_backoffs, F.MB_HATCH_CNT1_partial_wr]
  | .MB_EVENT => [F.MB_EVENT_ignored_write, F.MB_EVENT_overcast, F.MB_EVENT_busy_reject, F.MB_EVENT_recovered, F.MB_EVENT_stuck, F.MB_EVENT_bus_err, F.MB_EVENT_nack, F.MB_EVENT_partial_wr, F.MB_EVENT_dr_discard, F.MB_EVENT_pf_discard]
  | .MB_DM_INT_k => (upTo 32).map F.MB_DM_INT_k_pending
  | .MB_DM_INT_SUM_LO => [F.MB_DM_INT_SUM_LO_sum]
  | .MB_DM_INT_SUM_HI => [F.MB_DM_INT_SUM_HI_sum]
  | .MB_RANGE_r_word0 => [F.MB_RANGE_r_word0_valid, F.MB_RANGE_r_word0_base]
  | .MB_RANGE_r_word1 => [F.MB_RANGE_r_word1_limit]
  | .MB_XBUS_CTRL_g => [F.MB_XBUS_CTRL_g_en, F.MB_XBUS_CTRL_g_speed, F.MB_XBUS_CTRL_g_stretch_us]
  | .MB_XBUS_STATUS_g => [F.MB_XBUS_STATUS_g_busy, F.MB_XBUS_STATUS_g_stuck, F.MB_XBUS_STATUS_g_nacks, F.MB_XBUS_STATUS_g_bus_errs]
  | .MB_DR_CMD_s => [F.MB_DR_CMD_s_go, F.MB_DR_CMD_s_busy, F.MB_DR_CMD_s_done, F.MB_DR_CMD_s_space, F.MB_DR_CMD_s_addr]
  | .MB_DR_DATA_s => [F.MB_DR_DATA_s_data]
  | .MB_DR_DADDR_s_LO => [F.MB_DR_DADDR_s_LO_daddr_lo]
  | .MB_DR_DADDR_s_HI => [F.MB_DR_DADDR_s_HI_daddr_hi]
  | .INV_STATUS => [F.INV_STATUS_state, F.INV_STATUS_boot_slot, F.INV_STATUS_loaded_slot, F.INV_STATUS_fallback, F.INV_STATUS_pending_restart]
  | .INV_VERSION => [F.INV_VERSION_version]
  | .INV_FLOOR => [F.INV_FLOOR_floor]
  | .INV_BUILD_i => [F.INV_BUILD_i_build_id]
  | .INV_CMD => [F.INV_CMD_go, F.INV_CMD_busy, F.INV_CMD_op, F.INV_CMD_slot]
  | .INV_RESULT => [F.INV_RESULT_result, F.INV_RESULT_section, F.INV_RESULT_die, F.INV_RESULT_quad]
  | .INV_CHANGES => [F.INV_CHANGES_changed]
  | .INV_IGNORED_CNT => [F.INV_IGNORED_CNT_ignored_writes]
  | .INV_IGNORED_LOG => [F.INV_IGNORED_LOG_valid, F.INV_IGNORED_LOG_source, F.INV_IGNORED_LOG_addr]
  | .INV_EVENT => [F.INV_EVENT_inv_busy, F.INV_EVENT_apply_refused, F.INV_EVENT_fallback]
  | .LC_STATE => [F.LC_STATE_intent_valid, F.LC_STATE_intent_state, F.LC_STATE_debug_unlocked, F.LC_STATE_fuse_err, F.LC_STATE_state]
  | .LC_DEVICE_ID_LO => [F.LC_DEVICE_ID_LO_device_id]
  | .LC_DEVICE_ID_HI => [F.LC_DEVICE_ID_HI_device_id]
  | .SEC_STATUS => [F.SEC_STATUS_boot_stage, F.SEC_STATUS_selftest_fail, F.SEC_STATUS_store_err, F.SEC_STATUS_xmss_exhausted]
  | .SEC_XMSS_NEXT => [F.SEC_XMSS_NEXT_next]
  | .SEC_XMSS_RESERVE => [F.SEC_XMSS_RESERVE_reserve]
  | .SEC_STORE => [F.SEC_STORE_boot_count, F.SEC_STORE_slot]
  | .SEC_CTR_c_LO => [F.SEC_CTR_c_LO_last]
  | .SEC_CTR_c_HI => [F.SEC_CTR_c_HI_last]
  | .SEC_SESSION_c => [F.SEC_SESSION_c_open, F.SEC_SESSION_c_remaining_ms]
  | .SEC_CNT_AUTH => [F.SEC_CNT_AUTH_reg_denied, F.SEC_CNT_AUTH_tag_fail, F.SEC_CNT_AUTH_ctr_fail]
  | .SEC_MEAS_m_w => [F.SEC_MEAS_m_w_bytes]
  | .SEC_KEYS => (upTo 4).map F.SEC_KEYS_vendor_present ++ (upTo 4).map F.SEC_KEYS_vendor_revoked ++ (upTo 4).map F.SEC_KEYS_owner_present
  | .SEC_EVENT => [F.SEC_EVENT_xmss_low, F.SEC_EVENT_xmss_exhausted, F.SEC_EVENT_fw_fail, F.SEC_EVENT_store_err, F.SEC_EVENT_token_refused, F.SEC_EVENT_lockout, F.SEC_EVENT_reg_denied, F.SEC_EVENT_ctr_fail, F.SEC_EVENT_tag_fail]
  | .CH_STATUS => [F.CH_STATUS_gen, F.CH_STATUS_addr, F.CH_STATUS_eid, F.CH_STATUS_line_ok]
  | .CH_CNT => [F.CH_CNT_rx_frames, F.CH_CNT_tx_frames]
  | .CH_CNT_ERR => [F.CH_CNT_ERR_crc_err, F.CH_CNT_ERR_fwd_drop, F.CH_CNT_ERR_breaks, F.CH_CNT_ERR_oversize]
  | .CH_DIE => [F.CH_DIE_done, F.CH_DIE_chain_err, F.CH_DIE_returned]
  | .CH_EVENT => [F.CH_EVENT_chain_err, F.CH_EVENT_st_overflow, F.CH_EVENT_stocktake, F.CH_EVENT_ch_break, F.CH_EVENT_fwd_drop, F.CH_EVENT_frame_err]
  | .CK_RESET_CAUSE => [F.CK_RESET_CAUSE_pkg_resets, F.CK_RESET_CAUSE_cause]
  | .CK_BOOT_STATUS => [F.CK_BOOT_STATUS_stage, F.CK_BOOT_STATUS_error, F.CK_BOOT_STATUS_applied_ms] ++ (upTo 8).map F.CK_BOOT_STATUS_fw_released
  | .CK_RST_CMD => [F.CK_RST_CMD_go, F.CK_RST_CMD_op, F.CK_RST_CMD_bad_cmd, F.CK_RST_CMD_key, F.CK_RST_CMD_die]

end Sys2Proof.Machine
end

