-- ==== Sys2Proof/Machine/State.lean ====
section
/-! DEFINITION. The state of one Sweiskade package, as plain data: the register file field by field, and beside it what
the rules name that no register shows (queues, table entries, engines, pins, the queue of waiting commands). -/

namespace Sys2Proof.Machine

/-- Why the block stops. No rule of the spec stops it, so there is no such reason: no command ends in a fault. -/
inductive Fault
  deriving DecidableEq, Repr

/-- Why a command has no meaning. -/
inductive Refusal where
  /-- A command that the model has not given its meaning yet. Safe. -/
  | notModelled (mnemonic : String)
  deriving DecidableEq, Repr


/-- What one reset waits for before the package may leave it (R527). -/
structure ResetWait where
  /-- R75: PWR_OK must have been low for 10 µs. -/
  pwrLow : Bool := false
  /-- R55: every monitored rail must have been within tolerance for 1 ms. -/
  rails : Bool := false
  /-- R527: 100 µs must have passed since a transition or command reset began. -/
  hold : Bool := false
  deriving DecidableEq, Repr

/-- Supplies, package pins and the reset controller (chapters 2 and 20). -/
structure Pkg where
  /-- The always-on island is powered (R57). -/
  islandUp : Bool := true
  /-- VAUX is valid (R54, R57). -/
  vaux : Bool := true
  /-- PWR_OK is high (R527). -/
  pwrOk : Bool := false
  /-- SYS_RST# is high (R527). -/
  sysRstHigh : Bool := true
  /-- THERMTRIP# is asserted (R77). -/
  thermtrip : Bool := false
  /-- The package is in reset (R56, R527). -/
  inReset : Bool := true
  /-- What must happen before the package leaves reset (R527). -/
  wait : ResetWait := {}
  /-- Dies and rails now below their minimum (R55, Table 2.17), as (die, rail bit). -/
  lowRails : List (Nat × Nat) := []
  /-- V12_BIAS is within its tolerance (R52). -/
  v12ok : Bool := true
  /-- A package reset by CK_RST_CMD op 0 is due 10 µs after the write (Table 20.9). -/
  cmdReset : Bool := false
  /-- A package reset 10 ms after a life-cycle transition is due (R481). -/
  lcReset : Bool := false
  deriving DecidableEq, Repr

/-- One log record kept to find duplicates within 1 µs (R387). -/
structure Recent where
  blk : Nat
  bit : Nat
  unit : Nat
  cls : Nat
  time : Nat
  deriving DecidableEq, Repr


/-- A transmitter setting of the partner: preset, and pre- and post-cursor units (R100). -/
structure EqSetting where
  preset : Nat
  pre : Nat
  post : Nat
  deriving DecidableEq, Repr

/-- Where the equalisation search of a lane stands (R100). -/
inductive EqPhase where
  /-- No search. -/
  | idle
  /-- The stored setting is being tried (R102). -/
  | reuse
  /-- Presets still to try (step 1). -/
  | presets (left : List Nat)
  /-- Stepping the post-cursor up; whether a step has been kept (step 3). -/
  | postUp (kept : Bool)
  /-- The one downward post-cursor step. -/
  | postDown
  /-- Stepping the pre-cursor (step 4). -/
  | preUp (kept : Bool)
  | preDown
  /-- One measurement of the setting in effect, nothing being requested: both ends need no equalisation (R118 step 7). -/
  | single
  deriving DecidableEq, Repr

/-- The equalisation search of one lane (R100 to R102): the setting being tried, the setting from which it steps, with its
Barometer, and the best setting measured. -/
structure EqSearch where
  phase : EqPhase := .idle
  cur : EqSetting := ⟨0, 0, 0⟩
  best : Option (EqSetting × Nat) := none
  top : Option (EqSetting × Nat) := none
  evals : Nat := 0
  coefs : Nat := 0
  deriving DecidableEq, Repr

/-- A result kept for one rate (R102, Table 3.16): the setting and its Barometer, none where nothing was measured; the partner serial
reported when it was made; reused, budget_expired and the evaluations. -/
structure EqKept where
  rate : Nat
  setting : Option (EqSetting × Nat)
  serial : Option Nat
  reused : Bool
  expired : Bool
  evals : Nat
  deriving DecidableEq, Repr

/-- A margin run (R108, R109). -/
structure MarginRun where
  /-- Started by the standard's protocol, not locally. -/
  proto : Bool
  voltage : Bool
  down : Bool
  steps : Nat
  limit : Nat
  /-- Steps passed so far. -/
  reached : Nat
  errors : Nat
  deriving DecidableEq, Repr

/-- What a lane holds beside its registers (chapter 3). -/
structure LaneSt where
  eq : EqSearch := {}
  kept : List EqKept := []
  margin : Option MarginRun := none
  /-- Consecutive Active refreshes below fail (R91). -/
  fails : Nat := 0
  /-- baro_degrade has been raised and no refresh has reached degrade + 8 since (R98). -/
  degraded : Bool := false
  /-- The last bits of the pattern generator, the latest in bit 0 (R105). -/
  gen : Nat := 0
  deriving DecidableEq, Repr

/-- The identity of a slot port's partner (R124). -/
structure Ident where
  sn : Option Nat
  gen : Nat
  deriving DecidableEq, Repr

/-- A message in a queue of the switch core or a Cellar: the Larder message it belongs to (none for one the part made), its
crossbar input and output, the message, and whether a Cellar has released it (Table 4.11). -/
structure QEnt where
  mid : Option Nat
  input : Nat
  out : Nat
  msg : Msg
  held : Bool := false
  deriving DecidableEq, Repr

/-- What a port controller holds beside its registers (chapter 4). -/
structure PortSt where
  /-- The partner's offer at the last negotiation (R118). -/
  offer : Option Offer := none
  /-- A rate search is under way (R119). -/
  searching : Bool := false
  /-- Common rates of code 2 and up still to try, highest first. -/
  left : List Nat := []
  /-- Candidates (rate, width), in the order tried. -/
  tried : List (Nat × Nat) := []
  /-- The rate being tried. -/
  trying : Nat := 0
  /-- Lanes whose equalisation at the tried rate has ended, and whether each reached accept. -/
  ended : List (Nat × Bool) := []
  /-- Step 1 found a common CXL protocol set (R120). -/
  cxlCommon : Bool := false
  /-- The rate and width are settled (R119). -/
  settled : Bool := false
  /-- The width that training settled on; L0p narrows the one in use below it (R122). -/
  trained : Nat := 0
  /-- neg_fail holds the port until the next retry (R121). -/
  negFailed : Bool := false
  /-- Identity at the last link up (R124). -/
  lastId : Option Ident := none
  /-- The host asserted PERST# or sent a hot reset since the link went down (R125). -/
  hostReset : Bool := false
  /-- PERST# of a host port is asserted (R536). -/
  perstIn : Bool := false
  /-- Frames held (R129), first to leave first. -/
  cellar : List QEnt := []
  /-- The hold timer runs; in units of 10 µs as loaded (R129). -/
  timer : Option Nat := none
  /-- Fabric time of the last release (R133). -/
  released : Option Nat := none
  /-- The rate the port last ran (R372). -/
  lastRate : Nat := 0
  /-- The flap window ends at this fabric time (R372). -/
  windowEnd : Option Nat := none
  /-- The cap has reached code 2 (R372). -/
  capped2 : Bool := false
  deriving DecidableEq, Repr



/-- A stream and the site it is pinned to (R173); `home` is the site it left by a hand-over, if any (R177). -/
structure Stream where
  die : Nat
  site : Nat
  input : Nat
  dst : Nat
  cls : Nat
  home : Option Nat := none
  /-- It carries messages that a third die relays (R176). -/
  relayed : Bool := false
  deriving DecidableEq, Repr

/-- An audit under way: the class, and the transmitter's view when the command was sent: adv − spent of headers and of data, and
whether the class was in XOFF (R163). -/
structure Audit where
  cls : Nat
  baseH : Nat
  baseD : Nat
  xoff : Bool
  deriving DecidableEq, Repr

/-- What a Casub site holds beside its registers (chapter 5). -/
structure SiteSt where
  /-- Messages granted by the crossbar and not yet cut into flits, and the one partly sent with its slots left. -/
  txq : List Msg := []
  partly : Option (Msg × List Nat) := none
  cmds : List FlitCmd := []
  /-- Flits not covered by an ack, oldest first (R146). -/
  replay : List Flit := []
  /-- Sequence number from which flits are being resent (R150, R152). -/
  resend : Option Nat := none
  /-- A REPLAY_REQ is to be sent (R149). -/
  sendReq : Bool := false
  /-- Flits sent since the last periodic marker (R170), and the map of the transmit direction (R168). -/
  flits : Nat := 0
  txMap : Option LaneMap := none
  /-- Credits (R156): the partner's advertisement, the returned counts received and the credits spent, by class × 2 + kind. -/
  adv : Tbl Nat := []
  returned : Tbl Nat := []
  spent : Tbl Nat := []
  /-- Credits this receiver has returned since the last Init, by class × 2 + kind; counters changed and not yet sent, oldest
  first; the round robin of R157 and the parity of flits sent. -/
  given : Tbl Nat := []
  changed : List Nat := []
  rr : Nat := 0
  odd : Bool := false
  /-- The receiver is waiting for a replay (R149), with the fabric time of the last REPLAY_REQ. -/
  waiting : Bool := false
  lastReq : Option Nat := none
  /-- Times of the REPLAY_REQs of the running squall count (Table 5.5). -/
  reqs : List Nat := []
  consec : Nat := 0
  failSeq : Nat := 0
  failCount : Nat := 0
  missed : Nat := 0
  /-- Markers that the partner has sent and this receiver has not met yet, oldest first; true for one of a map change (R168, R170). -/
  markers : List Bool := []
  /-- Accepted flits not yet acknowledged by this end (R151). -/
  unsentAck : Nat := 0
  /-- The next flit of any type must carry the ack (R151). -/
  ackDue : Bool := false
  /-- A message whose header slot has been accepted and whose last slot has not (R155). -/
  rxPart : Option Msg := none
  /-- A re-evaluation that waits for the pending map change (R371). -/
  rejudge : Option ReevalBy := none
  /-- Thresholds in force: accept, spare_thr, fail (Table 5.15: a write applies at the next refresh). -/
  thr : Nat × Nat × Nat := (176, 160, 144)
  /-- The receive map, and the change of R168 that is pending. -/
  rxMap : Option LaneMap := none
  pendMap : Option LaneMap := none
  /-- Fabric times of the entries to Retrain of the last 10 ms. -/
  retrains : List Nat := []
  /-- A Retrain that a fault caused is under way (R369). -/
  retry : Bool := false
  activeSince : Option Nat := none
  /-- The site has been Active for 10 ms since it came back: streams return to it (R177). -/
  back : Bool := false
  audit : Option Audit := none
  /-- A hand-over is under way and waits for the partner's rx_expected (R175). -/
  handing : Bool := false
  /-- The flits of the replay buffer and the messages behind them that the hand-over under way is for (R175 step 1). -/
  old : List Flit := []
  oldTx : List Msg := []
  /-- rx_expected of the old transmission, when the site starts afresh before the partner's hand-over has asked for it. -/
  oldExp : Option Nat := none
  /-- What this end advertised on entering Init, and its rx_expected then (R164, Table 5.9). -/
  advd : Option (List Nat × Nat) := none
  /-- The receiver has stopped accepting for the partner's hand-over (R175). -/
  stopped : Bool := false
  deriving DecidableEq, Repr


/-- Where a Larder message took its cells (R186, R188). -/
inductive LPart where
  | port | casub (site : Nat) | relay (site : Nat)
  deriving DecidableEq, Repr

/-- A message in the Larder: its cells and how many copies are still to leave (R188, R191, R199). -/
structure LMsg where
  input : Nat
  cls : Nat
  part : LPart
  floor : Nat
  shared : Nat
  copies : Nat
  deriving DecidableEq, Repr

/-- A matched pair of the crossbar, locked for the cell times left (R195). -/
structure Lock where
  input : Nat
  out : Nat
  left : Nat
  deriving DecidableEq, Repr

/-- A copy of a mirrored write, or the one copy of another request, as the tracker sees it (R274). -/
inductive CopyAt where
  | unsent | out | ndr | dropped
  deriving DecidableEq, Repr

/-- An Attic sample waiting for its completion (R518, R519). -/
structure Sample where
  time : Nat
  hpaForm : Bool
  dst : Nat
  deriving DecidableEq, Repr

/-- A transaction tracker entry (R32): the requester, its tag, the target, the mirror state. -/
structure Trk where
  src : Nat
  ptag : Nat
  tc : Nat
  kind : MKind
  opcode : Nat := 0
  vcs : Option Nat := none
  slot : Option Nat := none
  hpa : Nat := 0
  port : Nat := 0
  ld : Nat := 0
  addr : Nat := 0
  mirror : Option Nat := none
  atHome : Bool := false
  agent : Bool := false
  a : CopyAt := .unsent
  b : CopyAt := .unsent
  /-- A mirrored read has been re-read from the other copy (R279: at most once). -/
  reread : Bool := false
  reissued : Bool := false
  readB : Bool := false
  /-- The line copy X returned poisoned and is being repaired from the other copy. -/
  repairing : Option Nat := none
  /-- State the agent granted (R248). -/
  grant : MetaV := .i
  /-- A BIConflictAck follows the completion (R255). -/
  conflict : List Nat := []
  held : Bool := false
  /-- The host of the requester's VCS has been reset since: the completion is dropped (Table 7.4). -/
  stale : Bool := false
  relayed : Bool := false
  snooped : Bool := false
  redirected : Bool := false
  /-- The request belongs to descriptor work of a data mover: queue and generation (R355). -/
  dmQueue : Option Nat := none
  /-- The TLP of a TC1 request, as it came (R278). -/
  tlp : Option Msg := none
  /-- Copies of a mirrored write whose response has passed copy A's home die (R250). -/
  seen : List Nat := []
  sample : Option Sample := none
  time : Nat := 0
  deriving DecidableEq, Repr

/-- What a die's switch core holds beside its registers (chapter 6), and the arbitration state of its outputs (R301). -/
structure XbDie where
  /-- Messages waiting for an output, in order of arrival. -/
  queue : List QEnt := []
  /-- Messages in the Larder, by number. -/
  larder : Tbl LMsg := []
  nextMid : Nat := 0
  /-- Floor cells in use, by (input, class). -/
  floorUsed : Tbl Nat := []
  /-- Shared cells in use, by input. -/
  sharedUsed : Tbl Nat := []
  /-- Casub receive cells in use, by (site, class); relay cells in use, by (site, class). -/
  casubUsed : Tbl Nat := []
  relayUsed : Tbl Nat := []
  locks : List Lock := []
  grantPtr : Tbl Nat := []
  acceptPtr : Tbl Nat := []
  /-- Deficits of entries, by (output, entry), of entries that have been served (R301); unlisted is the weight. -/
  deficit : Tbl Int := []
  /-- The arbitration pointer of each level, by (output, level) (R301). -/
  lastServed : Tbl Nat := []
  /-- Entries promoted by starve, as (output, entry) (R302). -/
  promoted : List (Nat × Nat) := []
  /-- Credit withheld, as (input, class, cells that back it) (R189). -/
  withheld : List (Nat × Nat × Nat) := []
  /-- Messages that the die itself makes and that wait for cells of their input, and responses that stay behind one of them on the way to
  their host, oldest first: input, number in the Larder, message (R181, R188, R255). -/
  made : List (Nat × Option Nat × Msg) := []
  /-- Copies of mirrored writes that were resolved without their NDR and whose NDR may still come: tracker entry, copy, port (R274). -/
  late : List (Nat × Nat × Nat) := []
  /-- Cells taken for credit that a port has returned and its partner has not used, by (input, class), oldest first: from the floor and
  from the shared region (R189). -/
  backing : Tbl (List (Nat × Nat)) := []
  /-- The tracker entries of mirrored reads whose completion stands in the Larder, by message number: the entry's number and what it
  held (R192). -/
  mirrored : Tbl (Nat × Trk) := []
  deriving DecidableEq, Repr

/-- A BIRsp held at the ingress die for earlier writes of its line (R254). -/
structure HeldRsp where
  msg : Msg
  after : List Nat
  /-- The crossbar input by which it came, and its number in the Larder. -/
  input : Nat
  mid : Option Nat
  deriving DecidableEq, Repr

/-! ## Binding (chapter 7) -/

/-- A VCS entry (Table 7.15). -/
structure Vcs where
  valid : Bool := false
  fm : Bool := false
  usp : Nat := 0
  first : Nat := 0
  count : Nat := 0
  deriving DecidableEq, Repr

/-- A decoder of an endpoint's HDM Decoder Capability, as the part's shadow holds it (R212). -/
structure ShDec where
  base : Nat := 0
  size : Nat := 0
  ways : Nat := 0
  gran : Nat := 0
  skip : Nat := 0
  committed : Bool := false
  biEn : Bool := false
  deriving DecidableEq, Repr

/-- A vPPB slot: its entry (Table 7.16) and its emulated configuration space (R210, R212, R223). -/
structure Vppb where
  /-- 0 Unbound, 1 Binding, 2 Bound, 3 Unbinding (Table 7.1). -/
  state : Nat := 0
  ld : Nat := 0
  mld : Bool := false
  port : Nat := 0
  num : Nat := 0
  vcs : Nat := 0
  owner : Bool := false
  secBus : Nat := 0
  subBus : Nat := 0
  memBase : Nat := 0
  memLimit : Nat := 0
  prefBase : Nat := 0
  prefLimit : Nat := 0
  /-- The other emulated configuration words that the host has written, by offset (chapter 7, as the standard defines). -/
  cfg : Tbl Nat := []
  /-- Presence Detect and Data Link Layer Link Active of the emulated slot (Table 7.4). -/
  presence : Bool := false
  dlActive : Bool := false
  /-- The shadow of the device's HDM Decoder Capability: decoder by decoder, and its global control register as the host has written
  it (R212). -/
  shadow : Tbl ShDec := []
  hdmGlobal : Option Nat := none
  /-- The order of bindings, for R213. -/
  seq : Nat := 0
  /-- An Unbind that has been accepted and waits: option 0 or 1 (Table 7.4). -/
  unbindOpt : Option Nat := none
  /-- The channels whose background commands bind or unbind it. -/
  chans : List Nat := []
  deriving DecidableEq, Repr

/-- A decoder entry (Table 7.2); targets as (vPPB number, DPA base). -/
structure Dec where
  valid : Bool := false
  committed : Bool := false
  ways : Nat := 0
  gran : Nat := 0
  grp : Nat := 0
  base : Nat := 0
  size : Nat := 0
  targets : List (Nat × Nat) := []
  deriving DecidableEq, Repr

/-- A decoder of the upstream port's emulated capability as the host has programmed it (R214, R217). -/
structure HostDec where
  base : Nat := 0
  size : Nat := 0
  ways : Nat := 0
  gran : Nat := 0
  targets : List Nat := []
  committed : Bool := false
  errNotCommitted : Bool := false
  deriving DecidableEq, Repr

/-! ## The coherence agent (chapter 8) -/

/-- A shared-region entry (Table 8.1). -/
structure Region where
  lostPoison : Bool
  quad : Nat
  ld : Nat
  base : Nat
  size : Nat
  deriving DecidableEq, Repr

/-- A page location: port, LD and page address (bits [51:12]). -/
structure Place where
  port : Nat
  ld : Nat
  page : Nat
  deriving DecidableEq, Repr

/-- Where a message to memory goes after the overlay lookup of its home die (Table 9.5): to its own location, to the
current location, or to both as a dual write, each copy under its overlay tag. -/
inductive OvTo where
  | key
  | cur (p : Place)
  | dual (cur new : Place) (tagC tagN : Nat)
  deriving DecidableEq, Repr

/-- A message at the agent (R235): the line it is keyed by, taken before any redirect; its overlay route; copy B of a
mirrored write that goes on in the same step (R264); the host VCS for a coherent message (none for a request of R240's other
kinds). -/
structure AgMsg where
  e : QEnt
  quad : Nat
  ld : Nat
  /-- Device address bits [51:6]. -/
  line : Nat
  goal : OvTo := .key
  second : Option QEnt := none
  vcs : Option Nat := none
  /-- Its snoops have been asked for (R246). -/
  acted : Bool := false
  /-- The agent's own write of the line with poison, after a lost snoop (R256). -/
  poison : Bool := false
  deriving DecidableEq, Repr

/-- Holders of a line (Table 8.2). -/
inductive Holders where
  | none | shared | excl
  deriving DecidableEq, Repr

/-- A Loft entry (Table 8.2). `sharers` lists pointers; `vec` is the coarse vector. -/
structure LoftE where
  quad : Nat
  ld : Nat
  /-- Device address bits [51:6]. -/
  line : Nat
  holders : Holders := .none
  coarse : Bool := false
  evicting : Bool := false
  sharers : List Nat := []
  vec : Nat := 0
  snoops : Nat := 0
  /-- Snoops of the line that wait for a slot or an allowance (R252). -/
  asked : Nat := 0
  readsOut : Nat := 0
  writeOut : Bool := false
  wait : List AgMsg := []
  lastUse : Nat := 0
  /-- The BISnpInv of an eviction have been sent (R258). -/
  evSent : Bool := false
  /-- Reads and the write forwarded and not yet answered, by (tracker die, entry) (R250). -/
  fwd : List (Nat × Nat) := []
  deriving DecidableEq, Repr

/-- A snoop: outstanding in its slot, or waiting for one (R252, R256). -/
structure Snoop where
  quad : Nat
  ld : Nat
  line : Nat
  vcs : Nat
  kind : MKind
  resent : Bool := false
  deriving DecidableEq, Repr

/-- What a die's agent holds beside its registers. -/
structure CaDie where
  regions : Tbl Region := []
  /-- Loft entries, by index set × 16 + way (R241). -/
  loft : Tbl LoftE := []
  useCtr : Nat := 0
  /-- Agent messages not yet looked up, in arrival order (R249). -/
  input : List AgMsg := []
  /-- Messages set aside until a reset walk has passed (R263). -/
  aside : List AgMsg := []
  /-- Copies B of writes that wait here for their copy A (R264). -/
  pairs : List QEnt := []
  slots : Tbl Snoop := []
  /-- Snoops waiting for a slot or a VCS allowance, in order (R252). -/
  snoopWait : List Snoop := []
  /-- Pending sets of the walk (R263): regions to discard, (VCS, quad, ld) to snoop out, VCSs to remove. -/
  walkRegions : List Region := []
  walkUnbind : List (Nat × Nat × Nat) := []
  walkReset : List Nat := []
  /-- The sets of the running pass. -/
  passRegions : List Region := []
  passUnbind : List (Nat × Nat × Nat) := []
  passReset : List Nat := []
  deriving DecidableEq, Repr

/-! ## Mirror and overlay units (chapter 9) -/

/-- A mirror entry (Table 9.1). -/
structure Mir where
  valid : Bool := false
  atHome : Bool := false
  autoResilver : Bool := false
  lost : Bool := false
  stA : CopySt := .healthy
  stB : CopySt := .healthy
  pref : Nat := 0
  aBase : Nat := 0
  bBase : Nat := 0
  size : Nat := 0
  cursor : Nat := 0
  poisA : Nat := 0
  poisB : Nat := 0
  /-- Fabric times of the poisoned reads of the last 1 ms, by copy (Table 9.3, cause 6). -/
  recentA : List Nat := []
  recentB : List Nat := []
  deriving DecidableEq, Repr

/-- A guard armed on a copy's home die (R280, R282): lines of one 4 KiB block of copy X, by X's device address, with their
hit bits and the lines whose rewrite has not come. -/
structure Guard where
  chooser : Nat
  grp : Nat
  copy : Nat
  port : Nat
  ld : Nat
  lines : List Nat
  hits : List Nat := []
  left : List Nat
  deriving DecidableEq, Repr

/-- A pair query that a die has not answered (R280 step 2): the choosing die, the group and copy, the copy A lines, and the
tracker entries that it waits for. -/
structure PairQ where
  chooser : Nat
  grp : Nat
  copy : Nat
  lines : List Nat
  waits : List Nat
  deriving DecidableEq, Repr

/-- A guarded rewrite under way on its choosing die (R280): how far it has gone, and the dies that have answered. -/
structure Rewrite where
  grp : Nat
  copy : Nat
  /-- Copy A device lines covered. -/
  lines : List Nat
  resilver : Bool
  armed : Bool := false
  answered : List Nat := []
  reading : Bool := false
  /-- Lines of a resilver block still to be read from copy Y, and lines read and not yet come back, by the engine of MR_CTRL (R287). -/
  toRead : List Nat := []
  back : List Nat := []
  left : List Nat := []
  deriving DecidableEq, Repr

/-- The resilver of a die (R286, R287). -/
structure Resilver where
  grp : Nat
  copy : Nat
  /-- Dies that have acknowledged Resilvering. -/
  acks : List Nat := []
  /-- Copying has begun. -/
  copying : Bool := false
  /-- blk_gap is running. -/
  gap : Bool := false
  done : Nat := 0
  deriving DecidableEq, Repr

/-- What a die's mirror unit holds beside its registers. -/
structure MrDie where
  entries : Tbl Mir := []
  guards : Tbl Guard := []
  armWait : List Guard := []
  queries : List PairQ := []
  /-- Lines waiting to be repaired: (group, copy, copy A line) (R281). -/
  repairQ : List (Nat × Nat × Nat) := []
  rewrites : Tbl Rewrite := []
  resilver : Option Resilver := none
  /-- Rewrites that wait at X's home die for a free tracker entry: choosing die, group, copy, line, poison and data (R33). -/
  waiting : List (Nat × Nat × Nat × Nat × Bool × Nat) := []
  deriving DecidableEq, Repr

/-- An overlay entry (Table 9.4). -/
structure OvE where
  quad : Nat
  ld : Nat
  page : Nat
  cur : Place
  /-- Copying to this destination in this migration slot; none in Moved. -/
  copying : Option (Place × Nat) := none
  moves : Nat := 0
  deriving DecidableEq, Repr

/-- A migration slot (R292 to R295). -/
structure MigSlot where
  index : Nat
  quad : Nat
  ld : Nat
  page : Nat
  cur : Place
  new : Place
  /-- The engine that copies its lines (R292). -/
  eng : Nat := 0
  /-- Lines whose copy has started; lines read and not yet back; lines being written; lines copied (R292). -/
  started : Nat := 0
  reading : List Nat := []
  writing : List Nat := []
  copied : List Nat := []
  /-- Lines read whose write waits for a free tracker entry, with their poison and data (R33). -/
  came : List (Nat × Bool × List Nat) := []
  /-- Writes outstanding to lines not yet copied, as (line, tracker die, entry): pending[k] is how many name k (R292). -/
  pend : List (Nat × Nat × Nat) := []
  /-- Writes that wait for a line being copied, or for pending[k] to fall, in arrival order (Table 9.5). -/
  wait : List QEnt := []
  /-- Messages outstanding to the old location, by (tracker die, entry) (R294). -/
  atOld : List (Nat × Nat) := []
  draining : Bool := false
  abort : Bool := false
  /-- The migrate descriptor that waits for the outcome (R320): the die of its queue, and the engine's number for it. -/
  reply : Option (Nat × Nat) := none
  deriving DecidableEq, Repr

/-- A copy of a dual write under its overlay tag (R293): the tracker entry and the copy bit (R273) of the write it answers, its slot,
whether it is the copy to the new location, the tag of the other copy while that is out, and whether that one gave its NDR. -/
structure OvTag where
  trkDie : Nat
  trk : Nat
  copy : Nat
  slot : Nat
  new : Bool
  mate : Option Nat
  ndr : Bool := false
  deriving DecidableEq, Repr

/-- What a die's overlay unit holds beside its registers. -/
structure OvDie where
  entries : Tbl OvE := []
  slots : Tbl MigSlot := []
  tags : Tbl OvTag := []
  tagWait : List QEnt := []
  /-- The bits that a look-up has left in OV_DATA1 beside its fields (R299). -/
  data1 : Nat := 0
  deriving DecidableEq, Repr

/-- Work that a command has made and that belongs to the same command (a step is whole and indivisible): done before the
command ends, in order. -/
inductive Work where
  /-- Dispose of a frame bound for a port, as Table 4.8 gives. -/
  | dispose (port : Nat) (e : QEnt) (flush : Bool)
  /-- A frame meets a port that is not Up (R204, R220, R278). -/
  | notUp (port : Nat) (e : QEnt)
  /-- A message finds no path to its die (R380). -/
  | lostPath (die : Nat) (e : QEnt)
  /-- Complete a tracked request as the "other" rows of Table 4.8 give (R135, R220, R380). -/
  | other (at_ die trk : Nat)
  /-- Fence a port with a reason of Table 13.4 (R373). -/
  | fence (port reason : Nat)
  /-- A lasting fault of a port (R372, R373). -/
  | lasting (port : Nat)
  /-- A copy-state message (R284): fail every copy on (port, LD) or on all LDs, on every die that `from` reaches. -/
  | copyFail (src port : Nat) (ld : Option Nat) (cause : Nat)
  /-- Fail one copy of one group. -/
  | copyFailIdx (src grp copy cause : Nat)
  /-- A copy of a mirrored write resolved without NDR, or its NDR came (R274). -/
  | copyResolved (die trk copy : Nat) (ndr : Bool)
  /-- A message is looked up in the Loft (again) (R249, R258). -/
  | agLook (die : Nat) (a : AgMsg)
  /-- Copies that waited for their other copy are looked at again (R264). -/
  | pairServe (die : Nat)
  /-- Serve a line's wait list at the agent (R250). -/
  | serve (die index : Nat)
  /-- A BIConflict reaches the agent (R255). -/
  | biConflict (die : Nat) (m : Msg)
  /-- A BISnp was flushed on the way to its host (R257). -/
  | snoopFlushed (die : Nat) (m : Msg)
  /-- A snoop was lost (R256). -/
  | snoopLost (die slot : Nat)
  /-- A message made by the part enters a die's switch core. -/
  | send (die : Nat) (m : Msg)
  /-- A message reaches the home die's lookups (R28). -/
  | home (die input : Nat) (mid : Option Nat) (m : Msg)
  /-- A host's emulated hierarchy resets (Table 7.4, first row). -/
  | vcsReset (port : Nat)
  /-- Migrations at a port abort (R295). -/
  | migPort (port : Nat)
  /-- A mirrored read is sent again, to the other copy (R278, R284, Table 4.8). -/
  | reissue (die trk : Nat)
  /-- A migration slot goes on: waiting writes are looked up again. -/
  | migServe (die slot : Nat)
  /-- Dual writes that wait for a tag are looked up again (R293). -/
  | tagServe (die : Nat)
  /-- A response reaches a die: its tracker, or the way to it (R222). -/
  | resp (die : Nat) (m : Msg)
  /-- A copy under an overlay tag ended, with its NDR or not (R293). -/
  | dualEnd (die tag : Nat) (ndr : Bool)
  /-- A copy of a mirrored write is resolved while its NDR may still come (R274). -/
  | copyGivenUp (die trk copy : Nat)
  /-- A host's memory request falls into BAR0 of function 1 of its upstream port (R350). -/
  | bar0 (die input : Nat) (mid : Option Nat) (trk : Nat) (m : Msg)
  /-- A memory request of an FM port falls into BAR0 of its function 2 (R419). -/
  | mbox (die : Nat) (mid : Option Nat) (trk : Nat) (m : Msg)
  /-- A lasting fault of a Casub site (R167, R184). -/
  | siteFault (die site : Nat)
  /-- The host's VCS instances reset (Table 12.5a). -/
  | instReset (port : Nat)
  deriving DecidableEq, Repr



/-! ## Shapers (chapter 10) -/

/-- A shaper: words 0 to 2 of its entry (Table 10.9); its tokens in units of 1/65,536, brought up to date at `last` (R305);
its wheel slot and laps (R311). -/
structure Shaper where
  w0 : Nat := 0
  w1 : Nat := 0
  w2 : Nat := 0
  tok : Int := 0
  last : Nat := 0
  wheel : Option (Nat × Nat) := none
  deriving DecidableEq, Repr

/-- A table entry that a double-bit error has made not valid until it is written again (R377), by its index and what tells the requests that
would use it. -/
inductive Spoilt where
  | decoder (i : Nat) (x : Dec)
  | mirror (i : Nat)
  | overlay (i quad ld page : Nat)
  | region (i : Nat) (r : Region)
  | shaper (i : Nat) (target : Nat × Nat × Nat)
  deriving DecidableEq, Repr

/-- A shaper write that waits for the slot boundary (R312). -/
structure ShpWrite where
  index : Nat
  w0 : Nat
  w1 : Nat
  w2 : Nat
  tokReset : Nat
  deriving DecidableEq, Repr


/-! ## Data movers (chapter 11) -/

/-- One 64-byte piece of a descriptor's work in flight (R318, R319): its number; the line reads still to be sent, as (of the
destination, line within the piece's window, byte address); how many are out; the lines read; whether its write is ready or
out. -/
structure DmPiece where
  k : Nat
  ask : List (Bool × Nat × Nat) := []
  need : Nat := 0
  got : List (Bool × Nat × Nat) := []
  poison : Bool := false
  ready : Bool := false
  writing : Bool := false
  /-- Reads of it were dropped: it is neither compared nor written (R319). -/
  cut : Bool := false
  deriving DecidableEq, Repr

/-- A descriptor that a queue holds (R329): where it was read, its words 0 to 7, and how far it has gone. -/
structure DmHeld where
  idx : Nat
  addr : Nat
  w : List Nat
  started : Bool := false
  /-- It stands for a read that failed or a link to a descriptor not owned (statuses 0x22, 0x24). -/
  ghost : Bool := false
  status : Nat := 0
  result : Nat := 0
  /-- The next piece to begin, and how many there are. -/
  next : Nat := 0
  total : Nat := 0
  pieces : List DmPiece := []
  /-- A migrate waits to be sent to the overlay unit; it waits for its answer (R320). -/
  migDue : Bool := false
  migrating : Bool := false
  /-- Chain: it was read through a link (R332). -/
  viaLink : Bool := false
  deriving DecidableEq, Repr

/-- The retirement of a descriptor (R333): own bit, completion record, interrupt. -/
inductive RetStage where
  | own | ownOut | cq | cqOut | int_ | done
  deriving DecidableEq, Repr

/-- What a retiring descriptor leaves to do. -/
structure DmRet where
  stage : RetStage
  h : DmHeld
  deriving DecidableEq, Repr

/-- What a data-mover queue holds beside its registers. -/
structure DmQ where
  /-- Ring: fetch_pos (R329). Chain: the sequence number and address of the next descriptor to read. -/
  fetch : Nat := 0
  fetchAddr : Nat := 0
  held : List DmHeld := []
  /-- A descriptor read is out; its return is to be dropped (R330); the link re-read is out (R331). -/
  reading : Bool := false
  dropRead : Bool := false
  linking : Bool := false
  /-- A descriptor read, or the link re-read, is due. -/
  wantRead : Bool := false
  wantLink : Bool := false
  /-- The last read stopped on own = 0 or on eoc = 1. -/
  stopped : Bool := false
  /-- Chain: the last descriptor fetched had eoc = 1, and has not retired: there is nothing behind it to fetch (R331). -/
  ended : Bool := false
  /-- How often the queue has been enabled: reads of an earlier enable are dropped. -/
  era : Nat := 0
  /-- Chain: the last retired descriptor, parked on, with its index and words, when it had eoc = 1 (R331). -/
  parked : Option DmHeld := none
  /-- Chain: the next descriptor is read through a link (R332). -/
  viaLink : Bool := false
  /-- Chain: the clearing of own on the descriptor that the queue has left, still to be sent: its address and word 0 (R332). -/
  ownDue : Option (Nat × Nat) := none
  ret : Option DmRet := none
  /-- Descriptors retired since the last completion, and whether one of them had int = 1 (R335, R338). -/
  since : Nat := 0
  intDue : Bool := false
  /-- A completion waits for room (R336). -/
  cqWait : Bool := false
  /-- A status of 0x20 or above has stopped new starts (R340). -/
  halting : Option Nat := none
  deriving DecidableEq, Repr

/-- What a request of an engine is for. -/
inductive DmUse where
  /-- A descriptor read, of the ring index or chain sequence and address given. -/
  | desc (idx addr : Nat)
  /-- The re-read of a parked descriptor's link (R331). -/
  | link
  /-- A line read of a piece: descriptor, piece, whether of the destination (compare), which line of the window, its byte
  address. -/
  | read (idx k : Nat) (dstSide : Bool) (off addr : Nat)
  /-- A line write of a piece. -/
  | write (idx k : Nat)
  /-- A migration that the descriptor waits for (R320). -/
  | migrate (idx : Nat)
  /-- The own-bit write, the own-bit write of a parked descriptor that is left, the completion write. -/
  | own | parkOwn | cq
  deriving DecidableEq, Repr

/-- A request of an engine that is out: its engine, queue, the instance and generation of its tag (R355), its use, the queue's era, whether
it reads, and its line: port, LD and line address (R318). -/
structure DmReq where
  eng : Nat
  q : Nat
  inst : Option (Nat × Nat) := none
  use : DmUse
  era : Nat := 0
  reads : Bool := false
  at_ : Nat × Nat × Nat := (0, 0, 0)
  deriving DecidableEq, Repr

/-- What an engine holds beside its registers: the member whose turn it is (a local queue, or 2,048 for internal work), the
member last served, deficits by member (R343). -/
structure DmEng where
  turn : Option Nat := none
  last : Nat := 2048
  deficit : Tbl Int := []
  deriving DecidableEq, Repr

/-! ## Instances (chapter 12) -/

/-- A command that an instance carries out over several steps: its channel, and the Pantry op. -/
structure PnRun where
  chan : Nat
  op : Nat
  deriving DecidableEq, Repr

/-- An instance entry (Table 12.1), with what it waits for. -/
structure Inst where
  /-- Table 12.4. -/
  state : Nat := 0
  gen : Nat := 0
  vcsQuad : Nat := 0
  shaped : Bool := false
  saved : Bool := false
  mask : Nat := 0
  /-- Requests of older generations still out. -/
  stale : Nat := 0
  queues : List Nat := []
  shapers : List Nat := []
  counters : List Nat := []
  /-- The command that runs on it; a Reset or Remove that waits for an earlier reset (R356); a Remove that waits for the
  running command (Table 12.4). -/
  run : Option PnRun := none
  waiting : Option PnRun := none
  /-- Queue states at the Freeze, as (queue, DM_Q_STATUS code), to come back to (R357, R360). -/
  kept : List (Nat × Nat) := []
  deriving DecidableEq, Repr


/-! ## Slots (chapter 14) -/

/-- Sums of the samples of the running 100 µs interval (R392): how many, feeds, VOUT and GATE in mV, sense voltage in 10 µV, VOUT ×
sense, t_mod. -/
structure SlotSums where
  n : Nat := 0
  fa : Nat := 0
  fb : Nat := 0
  vout : Nat := 0
  gate : Nat := 0
  sense : Nat := 0
  power : Nat := 0
  temp : Rat := 0
  deriving DecidableEq, Repr

/-- A trip or removal of a slot (R403): when and by what cause, and what the controller held before it: its state, whether the
gate was on, SP_COUNT.retries, SP_CTRL.power, whether SP_FAULT_LOG was free, and SP_EVENT.locked. -/
structure TripMark where
  time : Nat
  cause : Nat
  st : Nat
  gate : Bool
  retries : Nat
  power : Bool
  free : Bool
  locked : Bool
  deriving DecidableEq, Repr

/-- What a slot controller holds beside its registers. Voltages are in millivolts, temperatures in °C. -/
structure SlotSt where
  /-- The slot has been On for perst_ms (R408). -/
  perstTime : Bool := false
  /-- A class M managed power-off: fc_lead runs and PERST# is still high (Table 14.5). -/
  lead : Bool := false
  /-- PRSNT# has been confirmed since presence was last absent (R395). -/
  confirmed : Bool := false
  /-- The lock was for a damaged FET (R402). -/
  damaged : Bool := false
  /-- The retry timer of Cooldown runs; Cooldown after a cause 3 trip (R404). -/
  retrying : Bool := false
  hot : Bool := false
  /-- The gate is on: enhanced, charging or regulating (R398, Table 14.5). -/
  gate : Bool := false
  /-- The fault timer in eighths of a microsecond (R399). -/
  fault : Nat := 0
  /-- The last 64 samples of VOUT, newest first (R399). -/
  vouts : List Nat := []
  /-- ISP − ISN as last sampled, in 10 µV. -/
  sense : Nat := 0
  /-- t_mod (R404), and the last measurement of the diode in 1/16 °C; either has reached t_warn. -/
  tMod : Rat := 0
  tDirect : Option Int := none
  warm : Bool := false
  sums : SlotSums := {}
  /-- Feeds whose ORing FET may turn on again only after 10 ms (R394): 1 feed A, 0 feed B. -/
  reversed : List Nat := []
  /-- Physical Port Control Reset holds PERST# for perst_ms, for the channel given (R408). -/
  resetFor : Option Nat := none
  /-- The last trip or removal, for causes of the same cycle (R403). -/
  tripped : Option TripMark := none
  deriving DecidableEq, Repr



/-! ## Command channels (chapter 15) -/

/-- Return codes of commands (Tables 7.6 and 17.7, R416 to R418), by the standard's names. `device` carries the code that a
device answered, or a code the spec does not state. -/
inductive Rc where
  | success | background | invalidInput | busy | resources | internal | unsupported | aborted | security
  | device (n : Nat)
  deriving DecidableEq, Repr

/-- A command that a channel holds (R415): its opcode, its input payload in bytes, where it came from, when it was accepted,
and, from its start on, the counter that its tag carried (R474). -/
structure Cmd where
  opcode : Nat
  payload : List Nat := []
  origin : CmdFrom := .mailbox
  time : Nat := 0
  counter : Option Nat := none
  /-- It waits for the record of its counter to be durable (R474). -/
  waits : Bool := false
  /-- It came in an MCTP message of the type that carries the standard's CCI commands alone (Table 18.2). -/
  cci : Bool := false
  deriving DecidableEq, Repr

/-- A queued command slot (Table 15.3): its header, and the words of its payload by number. `std` says that the part has put an answer
there whose layout is the standard's. -/
structure QSlot where
  st : Nat := 0
  opcode : Nat := 0
  inLen : Nat := 0
  rc : Option Rc := none
  outLen : Nat := 0
  mem : Tbl Nat := []
  std : Bool := false
  deriving DecidableEq, Repr

/-- A command channel (R415, R417). -/
structure Chan where
  /-- Accepted and not started, in order of acceptance. -/
  queue : List Cmd := []
  /-- The foreground command that has started. -/
  running : Option Cmd := none
  /-- The background command, with its outcome once it has one that the channel has not reported (R383). -/
  bg : Option Cmd := none
  bgLate : Option Rc := none
  /-- The last background command and how it ended (R544, 0002h). -/
  bgLast : Option (Nat × Rc) := none
  /-- Response message limit of the channel, as a power of two (R544). -/
  limit : Option Nat := none
  /-- The queued command slots of an FM port (R419, R420). -/
  slots : Tbl QSlot := []
  /-- Fabric times of tag failures of the last second (R472). -/
  tagFails : List Nat := []
  /-- The channel refuses critical commands without checking them (R472). -/
  locked : Bool := false
  /-- last_c, the last counter accepted (R474). -/
  last : Nat := 0
  deriving DecidableEq, Repr

/-- What a port shows the Fabric Manager (5101h): PT_STATUS and PT_NEG_LINK and PT_NEG_PROTO, whole. -/
structure PortInfo where
  port : Nat
  role : Nat
  status : Nat
  link : Nat
  proto : Nat
  deriving DecidableEq, Repr

/-- What a vPPB entry shows (5200h, C011h): number, state, port, LD, whether an LD is bound, ownership. -/
structure VppbInfo where
  vcs : Nat
  num : Nat
  state : Nat
  port : Nat
  ld : Nat
  mld : Bool
  owner : Bool
  secBus : Nat
  subBus : Nat
  memBase : Nat
  memLimit : Nat
  prefBase : Nat
  prefLimit : Nat
  deriving DecidableEq, Repr

/-- What a VCS shows (5200h). -/
structure VcsInfo where
  vcs : Nat
  usp : Nat
  state : Nat
  vppbs : List VppbInfo
  deriving DecidableEq, Repr

/-- What a response carries: nothing, bytes, or what the standard lays out of the values named. -/
inductive Reply where
  | none
  | bytes (b : List Nat)
  | word (n : Nat)
  /-- 5100h: physical ports, VCSs and vPPBs of the package. -/
  | switchDevice (ports vcss vppbs : Nat)
  | portStates (l : List PortInfo)
  | vcsInfos (l : List VcsInfo)
  | vppbs (l : List VppbInfo)
  /-- 0001h: LC_PART_ID and device_id. -/
  | identity (partId deviceId : Nat)
  /-- 0002h: whether one runs, its opcode, and how the last one ended. -/
  | background (running : Bool) (opcode : Nat) (rc : Option Rc)
  /-- 0200h: for slots 1 to 4, the version each holds if it holds an image; the firmware slot in use on die 0, the Inventory
  slot in force, both by the standard's numbers. -/
  | fwInfo (versions : List (Option Nat)) (fw inv : Option Nat)
  deriving DecidableEq, Repr

/-- What a Warden pair and the mailbox hold beside their registers. -/
structure WardenSt where
  /-- The channel that core 0 served last (R417). -/
  turn : Nat := 0
  /-- A command was rejected with Busy since the load was last computed (R423). -/
  rejected : Bool := false
  /-- Fabric times of the counted restarts (R386). -/
  restarts : List Nat := []
  deriving DecidableEq, Repr

/-! ## The Hatch (chapter 15) -/

/-- Who asked for a transaction of an external bus: the Hatch's inbound entry in service, a delayed read of a slot, or a Warden
core's write. -/
inductive XWho where
  | inbound | dr (slot : Nat) | core
  deriving DecidableEq, Repr

/-- A transaction of an external bus (R433): its target and register; words to read, or the bytes to write. -/
structure XTx where
  who : XWho
  target : Nat
  reg : Nat
  words : Nat := 0
  bytes : List Nat := []
  deriving DecidableEq, Repr

/-- An inbound request that the Hatch has accepted (R424 to R428): its FM port and the requester's tag; the words not yet served,
as (address, byte enables, value of a write); the words read so far; whether it has begun, and whether it waits for an
external bus. -/
structure HEnt where
  fm : Nat
  tag : Nat
  write : Bool
  todo : List (Nat × Nat × Nat)
  got : List Nat := []
  begun : Bool := false
  waits : Bool := false
  /-- It came over the crossbar: its tracker entry, by die and number, if it has one, and the byte offset in its first cell. -/
  crossed : Bool := false
  trk : Option (Nat × Nat) := none
  off : Nat := 0
  deriving DecidableEq, Repr

/-- The prefetch buffer (R432): the source whose read filled it (FM port, or 4 for the Warden's delayed reads), the address of the
first held word, and the words. -/
structure Prefetch where
  src : Nat
  addr : Nat
  words : List Nat
  deriving DecidableEq, Repr

/-- What a Hatch holds beside its registers. -/
structure HatchSt where
  inbound : List HEnt := []
  pf : Option Prefetch := none
  /-- Consecutive back-offs of each delayed read (R430); the one that goes before the next inbound entry. -/
  backs : Tbl Nat := []
  ahead : Option Nat := none
  /-- Transactions of each external bus, the first in progress (R434). -/
  bus : Tbl (List XTx) := []
  /-- External buses that are being freed after a bus error (R435). -/
  clearing : List Nat := []
  /-- Delayed reads of memory that wait for a tracker entry (R429, R33), oldest first. -/
  want : List Nat := []
  deriving DecidableEq, Repr



/-- A state record of the store (Table 17.3). `ok` says that its check matches (R461). -/
structure StoreRec where
  seq : Nat := 0
  reserve : Nat := 0
  floors : List Nat := [0, 0, 0, 0, 0]
  invFloor : Nat := 0
  fwFloor : Nat := 0
  boots : Nat := 0
  /-- intent_valid with intent_state. -/
  intent : Option Nat := none
  released : Bool := false
  bootSlot : Nat := 0
  ok : Bool := true
  deriving DecidableEq, Repr

/-- What a record write changes in the current record. -/
inductive RecSet where
  /-- boot_count + 1, or the same count while the part is Blank (R465, Table 17.3). -/
  | boot (count : Bool)
  | reserve (n : Nat)
  | floor (c n : Nat)
  | invFloor (n : Nat)
  | fwFloor (n : Nat)
  | bootSlot (slot floor : Nat)
  | released
  | intent (t : Nat)
  /-- intent_valid = 0, with what entry to state `t` does to the record (Table 17.11). -/
  | done (t : Nat)
  deriving DecidableEq, Repr

/-- What waits for a record to be durable. -/
inductive StoreNext where
  | nothing
  /-- Start-up goes on (Table 20.3, t4). -/
  | boot
  /-- A critical command of channel `c` with counter `v` executes (R474); or nothing does, for the command was aborted. -/
  | counter (c v : Nat)
  | counted (c v : Nat)
  /-- The XMSS engine goes on (R468, R469). -/
  | xmss
  /-- The command of channel `c` completes with Success. -/
  | reply (c : Nat)
  /-- A transition to `t` goes on with R481 step 2, for the command of channel `c` if any. -/
  | enter (t : Nat) (c : Option Nat)
  /-- A transition has ended (R481 step 5). -/
  | ended (t : Nat) (c : Option Nat)
  /-- At boot: a resumed transition has ended (R465 step 3). -/
  | resumed
  /-- INV_STATUS becomes Applied (R447). -/
  | applied
  /-- Die `d`'s Warden pair is released (R467). -/
  | release (d : Nat)
  deriving DecidableEq, Repr

/-- A record write that has not become durable. -/
structure StoreJob where
  set : RecSet
  next : StoreNext
  deriving DecidableEq, Repr

/-- A request of the XMSS signer (R468, R469): a report for a channel over a nonce, or Release Reservation. -/
inductive XReq where
  | sign (c : Nat) (nonce : List Nat)
  | release (c : Nat)
  deriving DecidableEq, Repr

/-- What the Strongroom holds (chapter 17). Keys, secrets and certificates are byte lists. -/
structure Strong where
  /-- Fuses: blown life-cycle bits (R478), device_id, the device secret and its kill fuse, vendor keys by slot, revoked slots. -/
  lc : Nat := 0
  deviceId : Nat := 0
  secret : List Nat := []
  killed : Bool := false
  vendorKeys : Tbl (List Nat) := []
  revoked : List Nat := []
  /-- Fixed items of the store (Table 17.2). -/
  devicePub : List Nat := []
  nodeCache : List Nat := []
  cert : List Nat := []
  ownerKeys : Tbl (List Nat) := []
  root : List Nat := []
  /-- The ring of state records, by slot, and the slot of the current record (R461). -/
  ring : Tbl StoreRec := []
  cur : Option Nat := none
  /-- Record writes that are not yet durable, first in first out. -/
  jobs : List StoreJob := []
  /-- The next signature index (R468), and the requests of the signer, first in first out. No signature is made while no record
  has been written after a reset that found none. -/
  next : Nat := 0
  signer : List XReq := []
  mute : Bool := false
  /-- The outstanding nonce, and how many have been made since reset (R479). -/
  nonce : Option (List Nat) := none
  nonces : Nat := 0
  /-- Fabric time of die 0 at which the session of a channel ends, or ended (R477). -/
  sessionEnd : Tbl Nat := []
  deriving DecidableEq, Repr

/-! ## Start-up, flash and Inventory (chapters 16 and 20) -/

/-- The flash settings that start-up chose (R538). -/
structure FlashSet where
  mode : Nat
  dummy : Nat
  addr4 : Bool
  khz : Nat
  bytes : Nat
  deriving DecidableEq, Repr

/-- The flash directory in use (Table 20.5): fw_boot; offset and room of slots 0 to 3, none for a slot treated as empty. -/
structure FlashDir where
  fwBoot : Nat
  slots : List (Option (Nat × Nat))
  deriving DecidableEq, Repr

/-- An Inventory op that runs (INV_CMD busy): the op, its slot, and the channel whose command waits. -/
structure InvOp where
  op : Nat
  slot : Nat
  chan : Option Nat
  deriving DecidableEq, Repr

/-- What the Inventory loader and the firmware loader hold. -/
structure InvSt where
  flash : Option FlashSet := none
  dir : Option FlashDir := none
  /-- The directory has been read (Table 16.8 t1). -/
  dirRead : Bool := false
  /-- The slot being loaded, and what was read from it: not yet, an error, or an image. -/
  slot : Nat := 0
  got : Option (Option Image) := none
  /-- The image has passed Table 16.6 and is to be applied. -/
  accepted : Bool := false
  /-- The image in force (R447). -/
  force : Option Image := none
  op : Option InvOp := none
  /-- Values in force that no register shows: REFCLK spread, FM ports, Casub transmitter settings by (die, (site, lane)),
  bifurcation codes by (die, group), uses by physical port. -/
  spread : Bool := false
  fmPorts : Tbl Nat := []
  laneTx : Tbl Nat := []
  bifur : Tbl Nat := []
  uses : Tbl Nat := []
  /-- Start-up: dies whose firmware has been dealt with (t7, t8); the firmware slot each die runs from; die 0's version. -/
  fwNext : Nat := 0
  fwSlot : Tbl Nat := []
  fwVersion : Nat := 0
  deriving DecidableEq, Repr

/-! ## The management chain (chapter 18) -/

/-- An MCTP message in reassembly or reassembled (R494): chain address and endpoint of its source, tag with its owner bit, the
next sequence number, its bytes. -/
structure Mctp where
  addr : Nat
  eid : Nat
  tag : Nat
  seq : Nat := 0
  bytes : List Nat := []
  deriving DecidableEq, Repr

/-- What the island holds beside its registers. Frames are byte lists, without the crc. -/
structure Island where
  /-- CH_IN is at its idle-high level (R57). -/
  chIn : Bool := true
  /-- CH_OUT is at its idle-high level; low while the island has no power (R86). -/
  chOut : Bool := true
  /-- Frames that the package has taken and not yet acted on; frames waiting to be forwarded (R493); its own frames waiting. -/
  taken : List (List Nat) := []
  fwd : List (List Nat) := []
  own : List (List Nat) := []
  /-- Messages in reassembly, by (endpoint, tag), and whole. -/
  parts : Tbl Mctp := []
  msgs : List Mctp := []
  deriving DecidableEq, Repr

/-! ## The performance monitor (chapter 19) -/

/-- A Frost that is armed on a die (R514): its target, and whether op 0 armed it. -/
structure FrostArm where
  at_ : Nat
  all : Bool
  deriving DecidableEq, Repr


/-- What the part sends out. -/
inductive Out where
  /-- An MSI-X vector of a Fabric Manager port (R419, R422). -/
  | msix (fm vector : Nat)
  /-- The overlay unit answers a migrate descriptor of a die's data movers (R320): 0 done, 4 aborted. -/
  | migReply (die id code : Nat)
  /-- The part interrupts a Warden core of a die (R510, R422). -/
  | wardenIrq (die core : Nat)
  /-- A lane requests a setting of its partner's transmitter (R100, R102). -/
  | eqRequest (lane : Nat) (set : EqSetting)
  /-- A lane answers its partner's coefficient request (R103). -/
  | coefReply (lane : Nat) (applied : Bool)
  /-- A command's response (R417), and the report of a background command that has ended (R383). -/
  | cmdReply (die chan opcode : Nat) (origin : CmdFrom) (rc : Rc) (r : Reply)
  | bgReport (die chan opcode : Nat) (rc : Rc)
  /-- An access to a device's HDM Decoder Capability is answered from the shadow (R212); a configuration access is completed
  by the part, with the word read (R223). -/
  | hdmReply (vcs num decoder : Nat) (d : ShDec) (bi : Bool)
  | hdmWord (vcs num word : Nat)
  | cfgReply (vcs : Nat) (word : Option Nat)
  /-- What a host sees of an emulated slot: presence and Data Link Layer Link Active (R210); of the upstream port's HDM Decoder
  Capability: decoders, ways, granularities in bytes, targets of a decoder (R214); and of one decoder: its values, committed,
  locked (R215). -/
  | slotReply (vcs num : Nat) (presence link : Bool)
  | capReply (vcs decoders : Nat) (ways grans : List Nat) (targets : Nat)
  | decRead (vcs decoder : Nat) (h : HostDec) (committed locked : Bool)
  /-- The completion of the host's write to a decoder's control register, with Committed and Error Not Committed (R217,
  R218). -/
  | decReply (vcs decoder : Nat) (committed err : Bool)
  /-- A request that the Fabric Manager sends: a configuration or memory request to a port's LD, a tunnelled command to the
  FM-owned LD (none) or an LD, with its opcode and bytes (R226, R227, R231). -/
  | devConfig (port : Nat) (ld : Option Nat) (word : Nat) (write : Option Nat)
  | devMemory (port ld addr : Nat) (len : Nat) (write : Option (List Nat))
  | tunnel (port : Nat) (ld : Option Nat) (opcode : Nat) (bytes : List Nat)
  /-- An AER event presented on a vPPB by command 5203h. -/
  | aerGen (die slot : Nat) (bytes : List Nat)
  /-- A message leaves on a physical port. -/
  | toPort (port : Nat) (m : Msg)
  /-- A message reaches the data movers of a die (crossbar port 30). -/
  | toDm (die : Nat) (m : Msg)
  /-- A message reaches the Hatch of a die (crossbar port 31). -/
  | toHatch (die : Nat) (m : Msg)
  /-- A flit, with its 256 bytes (R140 to R142), leaves on a Casub site, and the bits that each physical lane of the map
  carries, in the order sent (R143). -/
  | flit (die site : Nat) (f : Flit) (bytes : List Nat) (lanes : List (Nat × List Bool))
  /-- A marker leaves: the words that each physical lane of the map carries (R169). -/
  | marker (die site : Nat) (lanes : List (Nat × List Nat))
  /-- A site enters Init: its die and site, its advertisement by class × 2 + kind and its rx_expected go to the partner
  (R164, Table 5.9). -/
  | init (die site : Nat) (adv : List Nat) (rxExpected : Nat)
  /-- A hand-over asks the partner for a site's rx_expected, and the answer (R175). -/
  | handQuery (die site : Nat)
  | handReply (die site rxExpected : Nat)
  /-- An uncorrectable internal error presented through AER on a vPPB, or on an upstream port (R379, R231). -/
  | aerVppb (die slot : Nat)
  | aerUsp (port : Nat)
  /-- A hot-plug event of a vPPB, with its presence and link state (Table 7.4). -/
  | hotplug (die slot : Nat) (presence link : Bool)
  /-- A managed hot-remove request shown to the host (Table 7.4). -/
  | attention (die slot : Nat)
  /-- A downstream port containment event of a vPPB (R373). -/
  | containment (die slot : Nat)
  /-- Viral signalled to a host (R375). -/
  | viral (port : Nat)
  /-- The part programs decoder 0 (base 0, this size, one way, skip 0) and the BI-ID of a device or LD (R212, R224, R238). -/
  | programDevice (port ld size biId : Nat) (biEn : Bool)
  /-- A mirrored read that met a port not Up goes back to its choosing die (R278). -/
  | mirrorReturn (die trkDie trk : Nat)
  /-- A copy-state message in TC11 to a die (R284), and the acknowledgement of Resilvering to the resilvering die (R287). -/
  | copyState (die : Nat) (m : CopyMsg)
  | copyAck (die src grp : Nat)
  /-- Guarded rewrites (R280): the arm to copy X's home die, its acknowledgement to the choosing die, the pair query to a die
  and its answer, the read of the lines from copy Y, and the end of one line's rewrite. Lines of an arm and of an end are X's,
  the others copy A's. -/
  | guardArm (die chooser grp copy port ld : Nat) (lines : List Nat)
  | guardAck (die grp copy : Nat) (lines : List Nat)
  | pairQuery (die chooser grp copy : Nat) (lines : List Nat)
  | pairAnswer (die src grp copy : Nat) (lines : List Nat)
  | mirrorRead (die grp copy : Nat) (lines : List Nat)
  | rewriteDone (die grp copy line : Nat)
  /-- Die 0's master count to a die, on the site of die 0 given, relayed by a third die or not (R37). -/
  | masterCount (die count site : Nat) (via : Option Nat)
  /-- A package-wide Frost: the arm to a die, its acknowledgement to die 0, a cancel (R514, R516). -/
  | frostArm (die target : Nat)
  | frostAck (die : Nat)
  | frostCancel (die : Nat)
  /-- A frame leaves on CH_OUT, with its crc (R491). -/
  | chainFrame (bytes : List Nat)
  /-- A flash slot is erased and programmed; a directory copy is rewritten with fw_boot (R540). -/
  | flashSlot (slot : Nat) (bytes : List (BitVec 8))
  | flashDir (copy fwBoot : Nat)
  /-- The Hatch completes an inbound read with its words, or ends a write, for the FM port and tag given (R424, R428). -/
  | hatchRead (die fm tag : Nat) (words : List Nat)
  | hatchWrite (die fm tag : Nat)
  /-- A transaction of an external bus begins (R433); 9 clocks and a STOP (R435). -/
  | xbus (die g : Nat) (t : XTx)
  | xbusClear (die g : Nat)
  /-- A delayed read goes out: words of the register space, or a line in device form (R429). -/
  | readReg (die slot addr words : Nat)
  deriving DecidableEq, Repr


/-- The state of the package. -/
structure State where
  /-- What manufacture fixed (R5). -/
  part : Part
  /-- Every register field that does not read as its reset value (chapters' register tables). -/
  regs : Tbl Nat := []
  /-- Shadows of Staged fields (R14, R15, R457), by field. -/
  staged : Tbl Nat := []
  /-- The capture register of each 64-bit pair (R9), by its high word. -/
  capture : Tbl Nat := []
  /-- Low words written and not yet committed (R8), by the low word. -/
  held : Tbl Nat := []
  /-- Supplies, pins and reset control. -/
  pkg : Pkg := {}
  /-- Fabric time of each die, in core cycles (R36). -/
  ftime : Tbl Nat := []
  /-- Correction of each die's fabric time that is left, in cycles: to repeat when above 0, to catch up when below (R38). -/
  ftAdj : Tbl Int := []
  /-- The core clocks run (R531 t1). -/
  clocks : Bool := false
  /-- RAS: records written within the last 1 µs, by die (R387). -/
  recent : Tbl (List Recent) := []
  /-- Values of the event counters, 48 bits each, by (die, counter) (R505). -/
  cnt : Tbl Nat := []
  /-- Which counters of each die are enabled, as the EVT registers say (R506). -/
  cntOn : Tbl (List Nat) := []
  /-- Lanes, by lane number port × 4 + lane. -/
  lanes : Tbl LaneSt := []
  /-- Ports, by physical port. -/
  ports : Tbl PortSt := []
  /-- The Inventory's highest rate of each quad, by physical port (R88). -/
  invRate : Tbl Nat := []
  /-- Switch cores, by die. -/
  xb : Tbl XbDie := []
  /-- Group entries of Table 6.3 as their eight words, by (die, index). -/
  groups : Tbl (List Nat) := []
  /-- Transaction tracker entries, by (die, entry) (R32). -/
  trks : Tbl Trk := []
  /-- BIRsp held at ingress dies (R254), by die. -/
  heldRsp : Tbl (List HeldRsp) := []
  /-- Streams and their sites (R173), by (die, (input, (destination, class))); Casub sites, by (die, site). -/
  streams : Tbl Stream := []
  sites : Tbl SiteSt := []
  /-- VCS entries, by global number; vPPB slots, by (die, slot); decoders, by (die, index); host decoders, likewise;
  PID entries, by (die, PID). -/
  vcss : Tbl Vcs := []
  vppbs : Tbl Vppb := []
  decs : Tbl Dec := []
  hostDecs : Tbl HostDec := []
  pids : Tbl Nat := []
  /-- Upstream ports whose VCS has pantry_fn in the Inventory (R350). -/
  pantryFn : List Nat := []
  /-- Emulated configuration words of each upstream port, by VCS and offset. -/
  uspCfg : Tbl (Tbl Nat) := []
  /-- Configuration words of the endpoint at function 1 of each upstream port (R350), by VCS and offset. -/
  fn1Cfg : Tbl (Tbl Nat) := []
  /-- Configuration words of the Switch Mailbox CCI at function 2 of each FM port (R419), by port and offset. -/
  fn2Cfg : Tbl (Tbl Nat) := []
  /-- How many bindings have been made, for the order of R213. -/
  bindSeq : Nat := 0
  /-- Capacity that each device or LD reported, by (port, LD), in units of 256 MiB (R217 check 5). -/
  devCap : Tbl Nat := []
  /-- Back-invalidate use programmed into devices (R212, R238), by (port, LD): true while the part disabled it. -/
  devBiOff : List (Nat × Nat) := []
  /-- Coherence agents, mirror units and overlay units, by die. -/
  ca : Tbl CaDie := []
  mr : Tbl MrDie := []
  ov : Tbl OvDie := []
  /-- Shapers, by (die, index); shaper writes that wait, by die × 1,024 + shaper; credits owed by policed classes, by (port, class) (R309). -/
  shps : Tbl Shaper := []
  shpWrites : Tbl ShpWrite := []
  owed : Tbl (List Msg) := []
  /-- Data-mover queues, by (die, local queue); engines, by (die, engine); requests out, by die × 65,536 + tag; instances, by
  (die, instance). -/
  dmq : Tbl DmQ := []
  dmEng : Tbl DmEng := []
  dmReqs : Tbl DmReq := []
  insts : Tbl Inst := []
  /-- Slot controllers, by physical port. -/
  slots : Tbl SlotSt := []
  /-- Command channels, by (die, channel); Warden pairs, by die. -/
  chans : Tbl Chan := []
  wardens : Tbl WardenSt := []
  /-- Hatches, by die. -/
  hatches : Tbl HatchSt := []
  /-- SRAM words corrected and the fabric time of their rewrite, by (die, address) (R376). -/
  rewritten : Tbl Nat := []
  /-- Table entries that a double-bit error has made not valid, by die (R377). -/
  spoilt : List (Nat × Spoilt) := []
  /-- The Strongroom, its fuses and its store. -/
  strong : Strong := {}
  /-- The Inventory and firmware loaders (chapters 16, 20); the island's chain interface (chapter 18); armed Frosts, by die
  (R514). -/
  inv : InvSt := {}
  island : Island := {}
  frost : Tbl FrostArm := []
  /-- Dies whose last thermal sample found the hottest sensor above warn_c (R77). -/
  warm : List Nat := []
  /-- Domains in Lull that work has woken, as (die, domain); P0 is (0, 22) (R68). -/
  waking : List (Nat × Nat) := []
  /-- Fabric time at which a domain last had work, by (die, domain): the idle count of R67 runs from it. -/
  lastWork : Tbl Nat := []
  /-- Dies that are correcting a difference of more than 2 cycles, and so are not aligned (R38, R39). -/
  aligning : List Nat := []
  /-- Attic candidates seen since sampling was enabled, by die (R518). -/
  atticSeen : Tbl Nat := []
  /-- Work of the command in progress; empty between commands. -/
  todo : List Work := []
  /-- What the part has sent out, oldest first. -/
  out : List Out := []
  /-- How many free values have been used (the model's own field). -/
  freeCtr : Nat := 0
  /-- Commands waiting, first in first out. -/
  pending : List Instr := []
  deriving DecidableEq, Repr

/-- A package with every field as it is right after a package reset. -/
def State.fresh (p : Part) : State := { part := p }

/-- The package right after the island first gains power from VAUX, in reset (log entries 2 and 5): an SK8040H-B0. -/
def State.reset : State := State.fresh ⟨2, 2, 0x10⟩

end Sys2Proof.Machine
end

