-- ==== Sys2Proof/Machine/Ops.lean ====
section
/-! DEFINITION. The shared operations over the register file, the log and the counters: reading and writing a field,
saturating counters, events with their log records (R387), the event counters' additions (R506), free values, output. -/

namespace Sys2Proof.Machine

/-- What a command's meaning answers. -/
abbrev Outcome := Host.Outcome State Fault Refusal

/-- The package's own location. -/
def pkgL : Loc := {}
/-- Location of a die's registers. -/
def dieL (d : Nat) : Loc := { die := d }
/-- Location of a unit's registers. -/
def unitL (d u : Nat) : Loc := { die := d, unit := u }
/-- Location of an indexed register of a unit. -/
def idxL (d u i : Nat) : Loc := { die := d, unit := u, idx := i }

/-- The key of a field in the register file. -/
def fkey (f : Fld) (l : Loc) : Nat := Nat.pair (f.reg.ctorIdx * 32 + f.lo) (Nat.pair l.die (Nat.pair l.unit l.idx))

/-- The register file is in canonical form: its keys rise strictly, so that it lists each field of each register once. -/
def State.regsOk (s : State) : Bool := Tbl.wf s.regs

/-- What a field reads as when nothing is listed for it: its reset value. -/
def State.rst (s : State) (f : Fld) (l : Loc) : Nat := f.rst s.part l % 2 ^ f.width

/-- The value of a field. -/
def State.rd (s : State) (f : Fld) (l : Loc) : Nat := Tbl.getD s.regs (fkey f l) (s.rst f l)

/-- Give a field a value, kept to its width. -/
def State.wr (s : State) (f : Fld) (l : Loc) (v : Nat) : State :=
  { s with regs := Tbl.set s.regs (fkey f l) (v % 2 ^ f.width) (s.rst f l) }

/-- A one-bit field as a truth value. -/
def State.flag (s : State) (f : Fld) (l : Loc) : Bool := s.rd f l != 0

/-- Set a one-bit field. -/
def State.on (s : State) (f : Fld) (l : Loc) : State := s.wr f l 1

/-- Clear a field. -/
def State.off (s : State) (f : Fld) (l : Loc) : State := s.wr f l 0

/-- Give a one-bit field a truth value. -/
def State.wrB (s : State) (f : Fld) (l : Loc) (b : Bool) : State := s.wr f l (b2n b)

/-- Add to a counter that saturates at its width. -/
def State.add (s : State) (f : Fld) (l : Loc) (n : Nat) : State :=
  s.wr f l (min (s.rd f l + n) (2 ^ f.width - 1))

/-- Count one in a counter that saturates. -/
def State.inc (s : State) (f : Fld) (l : Loc) : State := s.add f l 1

/-- Put a field back to its reset value. -/
def State.rstFld (s : State) (f : Fld) (l : Loc) : State := s.wr f l (s.rst f l)

/-- Do `g` for each element in turn. -/
def State.forEach {α : Type} (s : State) (xs : List α) (g : State → α → State) : State := xs.foldl g s

/-- Do `g` when `b` holds. -/
def State.when (s : State) (b : Bool) (g : State → State) : State := if b then g s else s

/-- The whole word of a register, its fields put together (R7, R12). WO fields read as 0 (Table 0.4). -/
def State.word (s : State) (r : Reg) (l : Loc) : Nat :=
  (r.fields.map fun f => if f.acc = .wo then 0 else 2 ^ f.lo * s.rd f l).sum

/-- A 64-bit quantity held in a low and a high field. -/
def State.rd64 (s : State) (fl fh : Fld) (l : Loc) : Nat := s.rd fl l + 2 ^ 32 * s.rd fh l

/-- Write a 64-bit quantity into a low and a high field. -/
def State.wr64 (s : State) (fl fh : Fld) (l : Loc) (v : Nat) : State := (s.wr fl l v).wr fh l (v / 2 ^ 32)

/-- The fabric time of a die (R36). -/
def State.now (s : State) (d : Nat) : Nat := Tbl.getD s.ftime d 0

/-- Core cycles in one microsecond, at 1.6 GHz (R16). -/
def usCycles : Nat := 1600

/-- Send something out. -/
def State.emit (s : State) (o : Out) : State := { s with out := s.out ++ [o] }

/-- The next free value. -/
def State.free (s : State) : Nat := Config.free s.freeCtr

/-- Use up one free value. -/
def State.useFree (s : State) : State := { s with freeCtr := s.freeCtr + 1 }

/-- The register blocks as the log numbers them (Table 13.9); package registers are logged in block 14 (R388, R476). -/
def Blk.ras : Blk → Nat
  | .lq => 0 | .pt => 1 | .cl => 2 | .xb => 3 | .sc => 4 | .bd => 5 | .ca => 6 | .mr => 7
  | .dmq => 9 | .dme => 9 | .pnc => 10 | .pn => 10 | .mb => 11 | .sp => 12 | .pm => 13
  | .pkg => 14 | .die => 14 | .rs => 15

/-- The log's block code of a register; the overlay registers share the mirror block's address range and have code 8. -/
def Reg.ras (r : Reg) : Nat := if r = .OV_EVENT then 8 else r.info.blk.ras

/-! ## Power domains (R61 to R70) -/

/-- The state of a domain of a die (Table 2.12). -/
def State.domState (s : State) (d k : Nat) : Nat :=
  if k < 16 then s.rd (F.PD_DOM_STATE0_state_d0_d15 k) (dieL d) else s.rd (F.PD_DOM_STATE1_state_d16_d21 (k - 16)) (dieL d)

/-- A domain of a die is On. -/
def State.domOn (s : State) (d k : Nat) : Bool := s.domState d k == 3

/-- Give a domain a state (Tables 2.12, 2.17): P0 is domain 22 and P1 domain 23, both of the package. -/
def State.setDom (s : State) (d k v : Nat) : State :=
  if k < 16 then s.wr (F.PD_DOM_STATE0_state_d0_d15 k) (dieL d) v
  else if k < 22 then s.wr (F.PD_DOM_STATE1_state_d16_d21 (k - 16)) (dieL d) v
  else if k = 22 then s.wr F.PD_PKG_STATUS_p0_state pkgL v
  else s.wr F.PD_PKG_STATUS_p1_state pkgL v

/-- The state of a domain, P0 and P1 included. -/
def State.domAt (s : State) (d k : Nat) : Nat :=
  if k < 22 then s.domState d k
  else if k = 22 then s.rd F.PD_PKG_STATUS_p0_state pkgL
  else s.rd F.PD_PKG_STATUS_p1_state pkgL

/-- Work reaches a domain (R67): its idle count starts again (R69), and a domain in Lull is On before the work is done (R68).
DESIGN CHOICE (log entry 25): the exit takes no time, within the bounds of Table 2.9. -/
def State.wake (s : State) (d k : Nat) : State :=
  let s := { s with lastWork := Tbl.set s.lastWork (key2 d k) (s.now d) 0 }
  if s.domAt d k = 2 then ({ s with waking := s.waking.filter (· != (d, k)) }).setDom d k 3 else s

/-- A Shelf-bus interrupt to a Warden core of a die, which is work for D21 (R67). -/
def State.irqWarden (s : State) (d core : Nat) : State := (s.wake d 21).emit (.wardenIrq d core)

/-- A die's fabric time agrees with the master's: its bit of aligned_mask is set (R39). -/
def State.aligned (s : State) (d : Nat) : State :=
  { s.on (F.CK_FTIME_STATUS_aligned_mask d) pkgL with aligning := s.aligning.filter (· != d) }

/-! ## Event counters (R505 to R511) -/

/-- The key of counter `k` of die `d`. -/
def cntKey (d k : Nat) : Nat := key2 d k

/-- Add to the value of counter `k`; passing 2^48 − 1 wraps and sets its bit in PM_OVF_j (R510). -/
def State.cntBump (s : State) (d k n : Nat) : State :=
  let v := Tbl.getD s.cnt (cntKey d k) 0 + n
  let s := { s with cnt := Tbl.set s.cnt (cntKey d k) (v % 2 ^ 48) 0 }
  if v < 2 ^ 48 then s else s.on (F.PM_OVF_j_ovf (k % 32)) (idxL d 0 (k / 32))

/-- Does adding `n` wrap counter `k`? -/
def State.cntWraps (s : State) (d k n : Nat) : Bool := decide (2 ^ 48 ≤ Tbl.getD s.cnt (cntKey d k) 0 + n)

/-- Does counter `k` of die `d` count event `ev` of unit `u`, where the unit belongs to Pantry instance `inst` (if any)?
On an owned counter the unit is the instance (R511). -/
def State.cntSees (s : State) (d ev u : Nat) (inst : Option Nat) (k : Nat) : Bool :=
  let l := idxL d 0 k
  s.rd F.EVT_event l == ev &&
    (if s.flag F.OWN_owned l then inst == some (s.rd F.OWN_owner l)
     else s.flag F.EVT_unit_all l || s.rd F.EVT_unit l == u)

/-! ## The error log (R387) -/

/-- Count a record in RS_CNT_CLASS, and set outside for class 4 (Table 13.11). -/
def State.countClass (s : State) (d cls : Nat) : State :=
  match cls with
  | 1 => s.inc F.RS_CNT_CLASS_transient (dieL d)
  | 2 => s.inc F.RS_CNT_CLASS_lasting (dieL d)
  | 4 => (s.inc F.RS_CNT_CLASS_outside (dieL d)).on F.RS_STATUS_outside (dieL d)
  | _ => s

/-- Records of the last microsecond on die `d`. -/
def State.recents (s : State) (d : Nat) : List Recent :=
  (Tbl.getD s.recent d []).filter fun r => decide (s.now d ≤ r.time + usCycles)

/-- Would a record be a repeat within 1 µs of one with the same block, bit, unit and class (R387)? -/
def State.logRepeats (s : State) (d blk bit cls unit : Nat) : Bool :=
  (s.recents d).any fun r => r.blk == blk && r.bit == bit && r.unit == unit && r.cls == cls

/-- Put one record into the log ring (Table 13.8). When HEAD − TAIL would exceed 256 the oldest is overwritten and
log_overrun is set, with no record of its own (R387). -/
def State.logPut (s : State) (d blk bit cls unit detail : Nat) : State :=
  let n := s.rd F.RS_LOG_HEAD_head (dieL d)
  let w (k : Nat) : Loc := idxL d 0 (n % 256 * 4 + k)
  let t := s.now d
  let s := { s with recent := Tbl.set s.recent d (s.recents d ++ [Recent.mk blk bit unit cls t]) [] }
  let s := s.wr F.RS_LOG_r_word (w 0) t
  let s := s.wr F.RS_LOG_r_word (w 1) (t / 2 ^ 32)
  let s := s.wr F.RS_LOG_r_word (w 2) (2 ^ 28 * blk + 2 ^ 23 * bit + 2 ^ 20 * cls + unit % 2 ^ 16)
  let s := s.wr F.RS_LOG_r_word (w 3) detail
  let s := s.wr F.RS_LOG_HEAD_head (dieL d) (n + 1)
  let s := s.countClass d cls
  if (n + 1 + 2 ^ 32 - s.rd F.RS_LOG_TAIL_tail (dieL d)) % 2 ^ 32 > 256 then s.on F.RS_EVENT_log_overrun (dieL d) else s

/-- The counters of a die that count an event of a unit. -/
def State.cntsOf (s : State) (d ev u : Nat) (inst : Option Nat) : List Nat :=
  (Tbl.getD s.cntOn d []).filter (s.cntSees d ev u inst)

/-- A counter with int_en has wrapped: ovf in PM_EVENT, an interrupt to Warden core 1 and a block 13 record, itself counted
by the counters of log records (R510). -/
def State.cntIrq (s : State) (d : Nat) : State :=
  let s := (s.on F.PM_EVENT_ovf (dieL d)).irqWarden d 1
  if s.logRepeats d 13 0 0 0 then s.inc F.RS_CNT_CLASS_suppressed (dieL d)
  else (s.logPut d 13 0 0 0 0).forEach (s.cntsOf d 0xF000 0 none) fun s k => s.cntBump d k 1

/-- Add `n` to counter `k` of die `d`, with the interrupt of a wrap. An owned counter never sets ovf in PM_EVENT (R511). -/
def State.cntAdd (s : State) (d k n : Nat) : State :=
  let t := s.cntBump d k n
  if s.cntWraps d k n && s.flag F.EVT_int_en (idxL d 0 k) && !s.flag F.OWN_owned (idxL d 0 k) then t.cntIrq d else t

/-- `n` more of event `ev` of unit `u` on die `d`: every enabled counter of it adds `n` (R506). -/
def State.pmI (s : State) (d ev u n : Nat) (inst : Option Nat) : State :=
  s.forEach (s.cntsOf d ev u inst) fun s k => s.cntAdd d k n

/-- `n` more of event `ev` of unit `u` on die `d`, for a unit of no instance. -/
def State.pm (s : State) (d ev u n : Nat) : State := s.pmI d ev u n none

/-- Write one record of the log ring, unless it repeats one of the last 1 µs, which is counted in suppressed (R387). -/
def State.log (s : State) (d blk bit cls unit detail : Nat) : State :=
  if s.logRepeats d blk bit cls unit then s.inc F.RS_CNT_CLASS_suppressed (dieL d)
  else (s.logPut d blk bit cls unit detail).pm d 0xF000 cls 1

/-- Set an event bit and write its record (R387). The record goes to the location's die; package events to die 0. The
detail follows Table 13.8 for blocks 1, 2 and 7; other blocks give their own. -/
def State.evD (s : State) (f : Fld) (l : Loc) (unit cls detail : Nat) : State :=
  let s := s.on f l
  let det := match f.reg.ras with
    | 1 => s.rd F.PT_STATUS_down_reason l
    | 2 => s.word .CL_STATUS l
    | 7 => s.word .MR_LOG (dieL l.die)
    | _ => detail
  s.log l.die f.reg.ras f.lo cls unit det

/-- Set an event bit and write its record, class 0. -/
def State.ev (s : State) (f : Fld) (l : Loc) (unit : Nat) : State := s.evD f l unit 0 0

/-- Set an event bit and write its record with a class. -/
def State.evC (s : State) (f : Fld) (l : Loc) (unit cls : Nat) : State := s.evD f l unit cls 0

/-! ## Numbering (R17, R18) -/

/-- The physical port number of a quad of a die. -/
def portNo (d q : Nat) : Nat := d * 16 + q
/-- The die of a physical port. -/
def portDie (p : Nat) : Nat := p / 16
/-- The quad of a physical port. -/
def portQuad (p : Nat) : Nat := p % 16

/-- Die `d` is there: the part has it, and it is die 0 or took a number at the last reset (R6, R10). -/
def State.dieHere (s : State) (d : Nat) : Bool :=
  decide (d < s.part.dies) && (d == 0 || s.rd F.LC_PART_ID_die_mask pkgL / 2 ^ d % 2 == 1)

/-- The physical ports of the part. -/
def State.allPorts (s : State) : List Nat := upTo (s.part.dies * 16)

/-! ## Registers of a domain without power -/

/-- The domain that holds a register of a block (Table 2.8), by unit and index; none for those of the die base. -/
def blkDomain (b : Blk) (unit idx : Nat) : Option Nat :=
  match b with
  | .lq => some (unit / 4)
  | .pt => some (4 + unit / 4)
  | .cl => some (8 + unit)
  | .ca => some 15
  | .mr => some 16
  | .dme => some (if idx < 4 then 17 else 18)
  | .dmq => some 19
  | .pn => some 19
  | .pnc => some 19
  | .pm => some 20
  | _ => none

/-- A register stands in a domain that is Off or Powering. It keeps nothing that is written to it (R61): the domain's power-up gives
its fields their values (R65). -/
def State.unpowered (s : State) (r : Reg) (l : Loc) : Bool :=
  match blkDomain r.info.blk l.unit l.idx with
  | some k => decide (s.domState l.die k < 2) && (r.info.blk != .dme || r.info.stride != 0)
  | none => false

/-- A write with an effect of its own, to a register that has power. -/
def State.gated (s : State) (r : Reg) (l : Loc) (f : State → State) : State := if s.unpowered r l then s else f s

/-- VDDIO33 of a die is valid. Without it no 3.3 V sideband pin and neither line of a management bus is driven (R85). -/
def State.io33 (s : State) (d : Nat) : Bool := !s.pkg.lowRails.contains (d, 6)

/-! ## Entries with a double-bit error (R377) -/

/-- The table of a spoilt entry, and its index there. -/
def Spoilt.place : Spoilt → Nat × Nat
  | .decoder i _ => (0, i)
  | .mirror i => (1, i)
  | .overlay i _ _ _ => (2, i)
  | .region i _ => (3, i)
  | .shaper i _ => (4, i)

/-- An entry is written again. -/
def State.mend (s : State) (d table i : Nat) : State :=
  if s.spoilt.isEmpty then s else { s with spoilt := s.spoilt.filter fun e => e.1 != d || e.2.place != (table, i) }

/-- An entry is not valid until it is written again. -/
def State.spoil (s : State) (d : Nat) (x : Spoilt) : State :=
  let t := s.mend d x.place.1 x.place.2
  { t with spoilt := t.spoilt ++ [(d, x)] }

/-- A spoilt entry of die `d` that `p` holds of. -/
def State.spoiltBy (s : State) (d : Nat) (p : Spoilt → Bool) : Bool := s.spoilt.any fun e => e.1 == d && p e.2

/-- Would a request use a spoilt shaper of a target (Table 10.3)? -/
def State.spoiltShp (s : State) (d : Nat) (target : Nat × Nat × Nat) : Bool :=
  s.spoiltBy d fun x => match x with
    | .shaper _ t => t == target
    | _ => false

/-! ## Outcomes -/

/-- An event of die `d`, which happens only while the package is out of reset (R56). On a part without the die it changes nothing
(R2, R10; log entry 7). -/
def onDie (d : Nat) (s : State) (f : State → State) : Outcome :=
  .next (if s.part.dies ≤ d ∨ s.pkg.inReset then s else f s)

/-- An event of the package while it is out of reset. -/
def onPkg (s : State) (f : State → State) : Outcome := .next (if s.pkg.inReset then s else f s)

end Sys2Proof.Machine
end

