-- ==== Sys2Proof/Machine/LaneOps.lean ====
section
/-! DEFINITION. Lanes: stages and their changes (R90 to R92), the Barometer (R95 to R99), the equalisation search (R100 to
R102), margin runs (R108 to R110). -/

namespace Sys2Proof.Machine

/-! ## Staged fields (R14, R15, R457) -/

/-- Put a written value into a Staged field's shadow; a later write replaces it. -/
def State.stage (s : State) (f : Fld) (l : Loc) (v : Nat) : State :=
  { s with staged := Tbl.put s.staged (fkey f l) (v % 2 ^ f.width) }

/-- A boundary: the shadow, if written, takes effect. -/
def State.commitFld (s : State) (f : Fld) (l : Loc) : State :=
  match Tbl.get s.staged (fkey f l) with
  | none => s
  | some v => { s.wr f l v with staged := Tbl.del s.staged (fkey f l) }

/-- A boundary for every Staged field of a register. -/
def State.commitReg (s : State) (r : Reg) (l : Loc) : State :=
  s.forEach (r.fields.filter fun f => f.cls == .staged) fun s f => s.commitFld f l

/-! ## Lanes -/

/-- The number of lane `l` of quad `q` of die `d`. -/
def laneNo (d q l : Nat) : Nat := portNo d q * 4 + l

/-- What a lane holds beside its registers. -/
def State.lane (s : State) (d q l : Nat) : LaneSt := Tbl.getD s.lanes (laneNo d q l) {}

/-- Change what a lane holds beside its registers. -/
def State.updLane (s : State) (d q l : Nat) (f : LaneSt → LaneSt) : State :=
  { s with lanes := Tbl.mod s.lanes (laneNo d q l) {} f }

/-- The stage of a lane (Table 3.2). -/
def State.stageOf (s : State) (d q l : Nat) : Nat := s.rd (F.LQ_STATUS_stage l) (unitL d q)

/-- The rate code of a quad (Table 3.11). -/
def State.quadRate (s : State) (d q : Nat) : Nat := s.rd F.LQ_STATUS_rate (unitL d q)

/-- Every lane of the quad is in Off: the quad counts as disabled for its Quiet fields (R111). -/
def State.quadOff (s : State) (d q : Nat) : Bool := (upTo 4).all fun l => s.stageOf d q l == 0

/-- Any margin run of a lane stops with aborted set (R110). -/
def State.abortMargin (s : State) (d q l : Nat) : State :=
  match (s.lane d q l).margin with
  | none => s
  | some r =>
    let s := (s.updLane d q l fun x => { x with margin := none }).on F.LQ_MARGIN_STATUS_aborted (unitL d q)
    let s := s.wr F.LQ_MARGIN_STATUS_steps_reached (unitL d q) r.reached
    if s.rd F.LQ_MARGIN_CTRL_lane (unitL d q) = l then s.off F.LQ_MARGIN_STATUS_busy (unitL d q) else s

/-- The registers of a quad whose Staged fields take effect at Train (R111). -/
def lqStagedRegs : List Reg := [.LQ_CTRL, .LQ_EQ_CTRL, .LQ_EQ_BUDGET, .LQ_BARO_THR_NRZ, .LQ_BARO_THR_PAM4]

/-- Move a lane to a stage, with what every entry does: leaving Active stops margining (R110); the quad is no loopback follower once
its last lane has left Loopback (Table 3.18); Train commits the Staged fields (R111) and counts in event 0x0000, Lock keeps the
Barometer (Table 3.15), Active starts its refreshes anew. A lane that has locked, or exchanges, sees signal (Table 3.11). -/
def State.toStage (s : State) (d q l st : Nat) : State :=
  let u := unitL d q
  let was := s.stageOf d q l
  let s := if was = 5 ∧ st ≠ 5 then s.abortMargin d q l else s
  let s := s.wr (F.LQ_STATUS_stage l) u st
  let s := if was = 6 ∧ (upTo 4).all fun k => s.stageOf d q k != 6 then s.off F.LQ_LOOP_far_end_active u else s
  match st with
  | 0 => (s.updLane d q l fun x => { x with eq := {}, fails := 0 }).off (F.LQ_STATUS_signal_detect l) u
  | 2 => (s.forEach lqStagedRegs fun s r => s.commitReg r u).pm d 0x0000 q 1
  | 3 => (s.wr (F.LQ_BARO_n_baro_lock) (idxL d q l) (s.rd F.LQ_BARO_n_baro (idxL d q l))).on (F.LQ_STATUS_signal_detect l) u
  | 4 => s.on (F.LQ_STATUS_signal_detect l) u
  | 5 => (s.on (F.LQ_STATUS_signal_detect l) u).updLane d q l fun x => { x with fails := 0 }
  | _ => s

/-- Every lane of a quad goes to Off (Table 3.3, first row). -/
def State.quadToOff (s : State) (d q : Nat) : State := s.forEach (upTo 4) fun s l => s.toStage d q l 0

/-! ## The Barometer (R95 to R98) -/

/-- Megabits per second of a lane at a rate code (Table 3.1). -/
def rateMbps (r : Nat) : Nat := [2500, 5000, 8000, 16000, 32000, 64000, 128000].getD r 0

/-- floor(−16 · log10(errors / bits)), clamped to 0 … 255, for `errors` above 0. -/
def errBaro (errors bits : Nat) : Nat :=
  ((upTo 256).filter fun b => decide (errors ^ 16 * 10 ^ b ≤ bits ^ 16)).length - 1

/-- The Barometer of a measurement over `bits` bits (R95). The worst eye is the one whose margins give the lowest estimate. -/
def baroOver (m : Meas) (bits : Nat) : Nat :=
  let bEye := m.eyes.foldl (fun b e => min b (Config.eyeBaro e.1 e.2)) 255
  if m.errors = 0 then bEye else min bEye (errBaro m.errors bits)

/-- The Barometer of a measurement at a rate code over a window in microseconds (R95). -/
def baroOf (m : Meas) (rate windowUs : Nat) : Nat := baroOver m (rateMbps rate * windowUs)

/-- A rate is PAM4 (Table 3.1). -/
def isPam4 (rate : Nat) : Bool := decide (5 ≤ rate)

/-- The accept threshold in effect for a rate (R97). -/
def State.accept (s : State) (d q rate : Nat) : Nat :=
  if isPam4 rate then s.rd F.LQ_BARO_THR_PAM4_accept (unitL d q) else s.rd F.LQ_BARO_THR_NRZ_accept (unitL d q)
/-- The target threshold in effect for a rate (R97). -/
def State.target (s : State) (d q rate : Nat) : Nat :=
  if isPam4 rate then s.rd F.LQ_BARO_THR_PAM4_target (unitL d q) else s.rd F.LQ_BARO_THR_NRZ_target (unitL d q)
/-- The degrade threshold in effect for a rate (R97). -/
def State.degradeThr (s : State) (d q rate : Nat) : Nat :=
  if isPam4 rate then s.rd F.LQ_BARO_THR_PAM4_degrade (unitL d q) else s.rd F.LQ_BARO_THR_NRZ_degrade (unitL d q)
/-- The fail threshold in effect for a rate (R97). -/
def State.failThr (s : State) (d q rate : Nat) : Nat :=
  if isPam4 rate then s.rd F.LQ_BARO_THR_PAM4_fail (unitL d q) else s.rd F.LQ_BARO_THR_NRZ_fail (unitL d q)

/-- A new Barometer value, with the lowest one kept (Table 3.15). -/
def State.setBaro (s : State) (d q l v : Nat) : State :=
  let x := idxL d q l
  let s := s.wr F.LQ_BARO_n_baro x v
  s.wr F.LQ_BARO_n_baro_min x (min v (s.rd F.LQ_BARO_n_baro_min x))

/-! ## The equalisation search (R100 to R102) -/

/-- The presets in the order tried: start_preset, then the others of the mask, rising; an empty mask leaves the first. -/
def State.presetOrder (s : State) (d q : Nat) : Nat × List Nat :=
  let u := unitL d q
  let st := s.rd F.LQ_EQ_CTRL_start_preset u
  let mask := s.rd F.LQ_EQ_CTRL_preset_mask u
  (st, (upTo 11).filter fun p => bitOf mask p && p != st)

/-- The setting a preset names. -/
def presetSetting (p : Nat) : EqSetting := ⟨p, Config.presetPre p, Config.presetPost p⟩

/-- A setting is tried next: it is requested of the partner, but for the one that is in effect anyway. -/
def State.eqTry (s : State) (d q l : Nat) (p : EqPhase) (c : EqSetting) : State :=
  let s := s.updLane d q l fun x => { x with eq := { x.eq with phase := p, cur := c } }
  if p = .single then s else s.emit (.eqRequest (laneNo d q l) c)

/-- The full search from its first preset (R100 step 1). -/
def State.eqFull (s : State) (d q l : Nat) : State :=
  let (st, rest) := s.presetOrder d q
  (s.updLane d q l fun x => { x with eq := { x.eq with best := none, top := none } }).eqTry d q l (.presets rest) (presetSetting st)

/-- The result kept for a rate. -/
def State.keptFor (s : State) (d q l rate : Nat) : Option EqKept := (s.lane d q l).kept.find? fun k => k.rate == rate

/-- LQ_EQ_RESULT_n shows the result of the rate in use (Table 3.16). -/
def State.showEq (s : State) (d q l : Nat) : State :=
  let x := idxL d q l
  let k := (s.keptFor d q l (s.quadRate d q)).getD ⟨0, none, none, false, false, 0⟩
  let v := k.setting.getD (⟨0, 0, 0⟩, 0)
  let s := s.wrB F.LQ_EQ_RESULT_n_reused x k.reused
  let s := s.wrB F.LQ_EQ_RESULT_n_budget_expired x k.expired
  let s := s.wr F.LQ_EQ_RESULT_n_base_preset x v.1.preset
  let s := s.wr F.LQ_EQ_RESULT_n_pre_coef x v.1.pre
  let s := s.wr F.LQ_EQ_RESULT_n_post_coef x v.1.post
  let s := s.wr F.LQ_EQ_RESULT_n_evals x k.evals
  s.wr F.LQ_EQ_RESULT_n_best_baro x v.2

/-- The lanes of a quad run at a rate from now on (R88). -/
def State.setRate (s : State) (d q r : Nat) : State :=
  if s.quadRate d q = r then s
  else (s.wr F.LQ_STATUS_rate (unitL d q) r).forEach (upTo 4) fun s l => s.showEq d q l

/-- Begin equalisation as a lane enters Train at a rate of code 2 or up: one measurement alone where both ends need no equalisation
(R118 step 7); else the stored setting first when eq_reuse is set and it was made with the same partner serial (R102); else the
search. -/
def State.eqBegin (s : State) (d q l rate : Nat) (serial : Option Nat) (noEq : Bool) : State :=
  let s := s.updLane d q l fun x => { x with eq := {} }
  if noEq then s.eqTry d q l .single (presetSetting (s.presetOrder d q).1)
  else match s.keptFor d q l rate with
    | some k => match k.setting with
      | some v =>
        if s.flag F.LQ_EQ_CTRL_eq_reuse (unitL d q) && k.serial == serial && serial.isSome then s.eqTry d q l .reuse v.1
        else s.eqFull d q l
      | none => s.eqFull d q l
    | none => s.eqFull d q l

/-- A lane enters Train at a rate: at code 2 and up it equalises (R91). -/
def State.toTrain (s : State) (d q l rate : Nat) (serial : Option Nat) (noEq : Bool) : State :=
  let s := (s.setRate d q rate).toStage d q l 2
  if rate < 2 then s.updLane d q l fun x => { x with eq := {} } else s.eqBegin d q l rate serial noEq

/-- What the next step of a search is. -/
inductive EqNext where
  /-- Evaluate this setting next, in this phase. -/
  | eval (p : EqPhase) (c : EqSetting)
  /-- The stored setting reached accept (R102). -/
  | reused
  /-- Start the full search after the stored setting fell short (R102). -/
  | full
  /-- The search ends (R100 step 5). -/
  | finish

/-- A measured value is above the best so far. -/
def eqBetter (best : Option (EqSetting × Nat)) (c : EqSetting) (r : Option Nat) : Option (EqSetting × Nat) :=
  match best, r with
  | none, some v => some (c, v)
  | some (b, w), some v => if w < v then some (c, v) else some (b, w)
  | b, none => b

/-- Does a measured value raise the best by at least 2 (R100 step 3)? -/
def eqGain (best : Option (EqSetting × Nat)) (r : Option Nat) : Bool :=
  match best, r with
  | some (_, b), some v => decide (b + 2 ≤ v)
  | _, _ => false

/-- The pre-cursor phase from the best setting (R100 step 4), if coefficient evaluations are left. -/
def eqToPre (best : Option (EqSetting × Nat)) (coefs maxCoefs : Nat) : EqNext :=
  match best with
  | none => .finish
  | some (b, _) => if coefs < maxCoefs then .eval (.preUp false) { b with pre := b.pre + 1 } else .finish

/-- The search after one evaluation that gave `r` (none: rejected), with the accept and target thresholds and
max_coef_steps (R100). Answers the setting from which it steps on, the coefficient evaluations made and what comes next.
DESIGN CHOICE (log entry 124): from a cursor of 0 the downward step is left out, and counts as no evaluation. -/
def eqStep (e : EqSearch) (r : Option Nat) (accept target maxCoefs : Nat) :
    Option (EqSetting × Nat) × Nat × EqNext :=
  let c := e.coefs + 1
  let met : Bool := r.any fun v => decide (target ≤ v)
  match e.phase with
  | .idle => (e.best, e.coefs, .finish)
  | .single => (e.best, e.coefs, .finish)
  | .reuse =>
    if r.any fun v => decide (accept ≤ v) then (eqBetter none e.cur r, e.coefs, .reused) else (none, e.coefs, .full)
  | .presets (p :: ps) => (eqBetter e.best e.cur r, e.coefs, .eval (.presets ps) (presetSetting p))
  | .presets [] =>
    match eqBetter e.best e.cur r with
    | none => (none, e.coefs, .finish)
    | some (b, v) =>
      if target ≤ v ∨ maxCoefs = 0 then (some (b, v), e.coefs, .finish)
      else (some (b, v), e.coefs, .eval (.postUp false) { b with post := b.post + 1 })
  | .postUp kept =>
    let best := if eqGain e.best r then eqBetter none e.cur r else e.best
    if met ∨ maxCoefs ≤ c then (best, c, .finish)
    else if eqGain e.best r then (best, c, .eval (.postUp true) { e.cur with post := e.cur.post + 1 })
    else if kept then (best, c, eqToPre best c maxCoefs)
    else match best with
      | some (b, _) =>
        if b.post = 0 then (best, c, eqToPre best c maxCoefs) else (best, c, .eval .postDown { b with post := b.post - 1 })
      | none => (best, c, .finish)
  | .postDown =>
    let best := if eqGain e.best r then eqBetter none e.cur r else e.best
    if met then (best, c, .finish) else (best, c, eqToPre best c maxCoefs)
  | .preUp kept =>
    let best := if eqGain e.best r then eqBetter none e.cur r else e.best
    if met ∨ maxCoefs ≤ c then (best, c, .finish)
    else if eqGain e.best r then (best, c, .eval (.preUp true) { e.cur with pre := e.cur.pre + 1 })
    else if kept then (best, c, .finish)
    else match best with
      | some (b, _) => if b.pre = 0 then (best, c, .finish) else (best, c, .eval .preDown { b with pre := b.pre - 1 })
      | none => (best, c, .finish)
  | .preDown => (if eqGain e.best r then eqBetter none e.cur r else e.best, c, .finish)

/-- The search of a lane ends (R100 step 6): the best setting measured is requested where another was tried last; the result is
kept for the rate (R102) and shown; the lane enters Lock when its Barometer reaches accept; otherwise eq_fail is set (R91). DESIGN
CHOICE (log entry 143): LQ_BARO_n then shows again the value that the best setting was measured at. -/
def State.eqFinish (s : State) (d q l : Nat) (serial : Option Nat) (reused expired : Bool) : State :=
  let e := (s.lane d q l).eq
  let rate := s.quadRate d q
  let s := match e.top with
    | some (c, v) => (if c = e.cur then s else s.emit (.eqRequest (laneNo d q l) c)).setBaro d q l v
    | none => s
  let k : EqKept := { rate := rate, setting := e.top, serial := serial, reused := reused, expired := expired, evals := e.evals }
  let s := s.updLane d q l fun y => { y with eq := {}, kept := k :: y.kept.filter fun k => k.rate != rate }
  let s := s.showEq d q l
  if e.top.any fun t => decide (s.accept d q rate ≤ t.2) then s.toStage d q l 3
  else s.ev (F.LQ_EVENT_eq_fail l) (unitL d q) (portNo d q)

/-- One evaluation of a lane ends with a measured value, which LQ_BARO_n shows, or a rejection (R100, R101). Answers whether the
search ended. -/
def State.eqEval (s : State) (d q l : Nat) (r : Option Nat) (serial : Option Nat) : State × Bool :=
  let e := (s.lane d q l).eq
  let rate := s.quadRate d q
  let (best, coefs, nx) :=
    eqStep e r (s.accept d q rate) (s.target d q rate) (s.rd F.LQ_EQ_CTRL_max_coef_steps (unitL d q))
  let s := match r with
    | some v => s.setBaro d q l v
    | none => s
  let s := s.updLane d q l fun x =>
    { x with eq := { x.eq with best := best, top := eqBetter e.top e.cur r, coefs := coefs, evals := e.evals + 1 } }
  match nx with
  | .eval p c => (s.eqTry d q l p c, false)
  | .full => (s.eqFull d q l, false)
  | .reused => (s.eqFinish d q l serial true false, true)
  | .finish => (s.eqFinish d q l serial false false, true)

end Sys2Proof.Machine
end

