-- ==== Sys2Proof/Machine/Path.lean ====
section
/-! DEFINITION. The data path inside a die: Larder cells (R186 to R191), queues towards outputs, the Cellar's arrivals (R129,
R132, R190), the choice of an output and of a Casub site (R34, R173, R176, R185), the transaction tracker (R32, R33) and the
completions it makes. -/

namespace Sys2Proof.Machine

/-! ## Accessors -/

/-- The switch core of a die. -/
def State.xbd (s : State) (d : Nat) : XbDie := Tbl.getD s.xb d {}
/-- Change the switch core of a die. -/
def State.updXb (s : State) (d : Nat) (f : XbDie → XbDie) : State := { s with xb := Tbl.mod s.xb d {} f }
/-- What a port controller holds. -/
def State.port (s : State) (p : Nat) : PortSt := Tbl.getD s.ports p {}
/-- Change what a port controller holds. -/
def State.updPort (s : State) (p : Nat) (f : PortSt → PortSt) : State := { s with ports := Tbl.mod s.ports p {} f }
/-- Location of a port's registers. -/
def portL (p : Nat) : Loc := unitL (portDie p) (portQuad p)
/-- State of a port (Table 4.5). -/
def State.pstate (s : State) (p : Nat) : Nat := s.rd F.PT_STATUS_pstate (portL p)
/-- The port is in Up. -/
def State.portUp (s : State) (p : Nat) : Bool := s.pstate p == 4
/-- The port is holding (R129). -/
def State.holding (s : State) (p : Nat) : Bool := s.rd F.PT_STATUS_cellar (portL p) == 1
/-- Role of the quad (Table 4.10): 0 host, 1 class M, 2 class A, 3 absorbed. -/
def State.role (s : State) (p : Nat) : Nat := s.rd F.PT_CTRL_role (portL p)
/-- The port is a class M or class A slot. -/
def State.isSlot (s : State) (p : Nat) : Bool := s.role p == 1 || s.role p == 2
/-- How many quads the port has (Table 4.10 width_cfg). -/
def State.nQuads (s : State) (p : Nat) : Nat := 2 ^ s.rd F.PT_CTRL_width_cfg (portL p)
/-- The port that a quad belongs to: an absorbed quad belongs to the nearest lower quad that is not absorbed (R113). -/
def State.ownerPort (s : State) (p : Nat) : Nat :=
  if s.role p ≠ 3 then p
  else if s.role (p - 1) ≠ 3 then p - 1
  else if s.role (p - 2) ≠ 3 then p - 2 else p - 3
/-- Queue work that belongs to the command in progress. -/
def State.push (s : State) (w : Work) : State := { s with todo := s.todo ++ [w] }

/-- Table 1.5: the response classes (R188). The rest of TC0 to TC11 are request classes. -/
def isRespClass (c : Nat) : Bool := [2, 5, 6, 7, 8, 11].contains c
/-- Table 1.5: requests that take a tracker entry, by class and kind: of TC9 and TC10 the requests alone. -/
def takesTrk (tc : Nat) (k : MKind) : Bool := [1, 3, 4].contains tc || ((tc == 9 || tc == 10) && k == .cacheReq)

/-- A response, which its tracker entry routes (R222): TC2, TC6 and TC7, and the answers of CXL.cache in TC9 and TC10. -/
def isResponse (m : Msg) : Bool :=
  [2, 6, 7].contains m.tc || ((m.tc == 9 || m.tc == 10) && (m.kind == .cacheRsp || m.kind == .cacheData))

/-- A request that takes a tracker entry; a posted write of TC0 takes none, and none is looked up for it (R32). -/
def tracked (m : Msg) : Bool := takesTrk m.tc m.kind

/-- Entries of one die's tracker (R32). -/
def trkCap : Nat := 16384

/-! ## Cells (R186 to R191) -/

/-- The Inventory has been applied since the package reset (R159, R448). -/
def State.applied (s : State) : Bool := s.rd F.INV_STATUS_state pkgL == 2

/-- What a Casub site holds. -/
def State.site (s : State) (d t : Nat) : SiteSt := Tbl.getD s.sites (key2 d t) {}
/-- Change what a Casub site holds. -/
def State.updSite (s : State) (d t : Nat) (f : SiteSt → SiteSt) : State := { s with sites := Tbl.mod s.sites (key2 d t) {} f }

/-- The part uses XON/XOFF on its Casub links (SK8080). -/
def State.xoffMode (s : State) : Bool := s.part.dieLog2 == 3

/-- Cells of the Casub receive pool of a class in an SK8080 (R160, R161). -/
def State.pool (s : State) (d c : Nat) : Nat :=
  if s.applied then s.rd F.XB_FLOOR_c_casub_pool (idxL d 0 c) else if c = 11 then 4096 else 0

/-- The die that a destination code names (Table 6.1); 0x90 + n stands for die n as a message's next die. -/
def dstDie (dst : Nat) : Nat :=
  if dst < 0x80 then portDie dst else if dst < 0x88 then dst - 0x80 else if dst < 0x90 then dst - 0x88 else dst - 0x90

/-- The die whose block holds an address; none for the package blocks and for addresses that hold no block (Table 1.14). -/
def addrDie (a : Nat) : Option Nat :=
  if 0x100_0000 ≤ a ∧ a < 0x900_0000 then some (a / 0x100_0000 - 1) else none

/-- The die whose Hatch answers an access: that of the block; die 0 for package blocks; the ingress die where there is none (R424). -/
def State.hatchOf (s : State) (ingress a : Nat) : Nat :=
  if a < 0x100_0000 then 0
  else match addrDie a with
    | some d => if d < s.part.dies then d else ingress
    | none => ingress

/-- The die a message goes to next: the die named by `via`, until it is there, else that of its destination. -/
def nextDie (m : Msg) : Nat := m.via.getD (dstDie m.dst)

/-- Cells that the part of a message received so far has set aside in the pool of its class: a message takes its cells when
its header slot is accepted (R155). -/
def State.partCells (s : State) (d t c : Nat) : Nat :=
  match (s.site d t).rxPart with
  | some m => if m.tc = c ∧ nextDie m = d then m.size else 0
  | none => 0

/-- Cells of the pool in use: those that the die's sites took. -/
def State.poolUsed (s : State) (d c : Nat) : Nat :=
  ((upTo 7).map fun t => Tbl.getD (s.xbd d).casubUsed (key2 t c) 0 + s.partCells d t c).sum

/-- The XOFF bits of a class follow the free cells of its pool (R160): set on every site at 2,688 or fewer, cleared on a site
at 2,688 + xon_hyst of the site. -/
def State.xoffUpdate (s : State) (d c : Nat) : State :=
  if !s.xoffMode then s
  else
    let free := s.pool d c - s.poolUsed d c
    s.forEach (upTo 7) fun s t =>
      if free ≤ 2688 then s.on (F.CL_XOFF_xoff_sent c) (unitL d t)
      else if 2688 + s.rd F.CL_XOFF_CTRL_xon_hyst (unitL d t) ≤ free then s.off (F.CL_XOFF_xoff_sent c) (unitL d t)
      else s

/-- The key of a credit counter: class and kind (0 header, 1 data). -/
def crKey (c kind : Nat) : Nat := c * 2 + kind

/-- A Casub receive buffer entry is freed: its credits are returned (R155), and the pool has room again (R160). -/
def State.giveCredit (s : State) (d t c cells : Nat) : State :=
  if s.xoffMode then s.xoffUpdate d c
  else
    let ks := crKey c 0 :: if cells = 0 then [] else [crKey c 1]
    s.updSite d t fun x =>
      { x with
        given := Tbl.mod (Tbl.mod x.given (crKey c 0) 0 fun n => (n + 1) % 65536) (crKey c 1) 0 fun n => (n + cells) % 65536
        changed := x.changed ++ ks.filter fun k => !x.changed.contains k }

/-- May an input take `n` cells for a class now (R188)? Answers how many come from the floor and from the shared region. -/
def State.canTake (s : State) (d input c n : Nat) : Option (Nat × Nat) :=
  let x := s.xbd d
  let free := s.rd F.XB_FLOOR_c_floor (idxL d 0 c) - Tbl.getD x.floorUsed (key2 input c) 0
  let fromFloor := min n free
  let k := n - fromFloor
  let keep := if isRespClass c then 0 else s.rd F.XB_RESP_RESERVE_resp_reserve (dieL d)
  if k = 0 then some (fromFloor, 0)
  else if Tbl.getD x.sharedUsed input 0 + k ≤ s.rd F.XB_IN_CAP_in_cap (dieL d)
      ∧ keep + k ≤ s.rd F.XB_LARDER_FREE_shared_free (dieL d) then some (fromFloor, k)
  else none

/-- Set the free cells of the shared region, with the lowest value kept (Table 6.8). -/
def State.setShared (s : State) (d v : Nat) : State :=
  let s := s.wr F.XB_LARDER_FREE_shared_free (dieL d) v
  s.wr F.XB_LARDER_MIN_shared_min (dieL d) (min v (s.rd F.XB_LARDER_MIN_shared_min (dieL d)))

/-- Shared cells are taken; resp_reserve_hit when the free ones fall to resp_reserve (Table 6.15). -/
def State.takeShared (s : State) (d input n : Nat) : State :=
  let free := s.rd F.XB_LARDER_FREE_shared_free (dieL d)
  let keep := s.rd F.XB_RESP_RESERVE_resp_reserve (dieL d)
  if n = 0 then s
  else
    let s := s.setShared d (free - n)
    if keep < free ∧ free - n ≤ keep then s.ev F.XB_EVENT_resp_reserve_hit (dieL d) input else s

/-- Put a message into the Larder on the cells that are its own now; answers its number. -/
def State.putIn (s : State) (d : Nat) (l : LMsg) : Nat × State :=
  let x := s.xbd d
  let id := x.nextMid
  (id, s.updXb d fun x =>
    { x with
      larder := Tbl.put x.larder id l
      nextMid := id + 1
      floorUsed := Tbl.mod x.floorUsed (key2 l.input l.cls) 0 (· + l.floor)
      sharedUsed := Tbl.mod x.sharedUsed l.input 0 (· + l.shared)
      casubUsed := match l.part with
        | .casub t => Tbl.mod x.casubUsed (key2 t l.cls) 0 (· + l.floor)
        | _ => x.casubUsed
      relayUsed := match l.part with
        | .relay t => Tbl.mod x.relayUsed (key2 t l.cls) 0 (· + l.floor)
        | _ => x.relayUsed })

/-- Put a message into the Larder with the cells it takes; answers its number. -/
def State.store (s : State) (d : Nat) (l : LMsg) : Nat × State :=
  let (id, s) := s.putIn d l
  (id, s.takeShared d l.input l.shared)

/-- One copy of a Larder message has left or been disposed of; with the last copy its cells are freed (R191). -/
def State.freeCopy (s : State) (d : Nat) (mid : Option Nat) : State :=
  match mid with
  | none => s
  | some id =>
    match Tbl.get (s.xbd d).larder id with
    | none => s
    | some l =>
      if 1 < l.copies then
        s.updXb d fun x => { x with larder := Tbl.put x.larder id { l with copies := l.copies - 1 } }
      else
        let s := s.updXb d fun x =>
          { x with
            larder := Tbl.del x.larder id
            mirrored := Tbl.del x.mirrored id
            floorUsed := Tbl.mod x.floorUsed (key2 l.input l.cls) 0 (· - l.floor)
            sharedUsed := Tbl.mod x.sharedUsed l.input 0 (· - l.shared)
            casubUsed := match l.part with
              | .casub t => Tbl.mod x.casubUsed (key2 t l.cls) 0 (· - l.floor)
              | _ => x.casubUsed
            relayUsed := match l.part with
              | .relay t => Tbl.mod x.relayUsed (key2 t l.cls) 0 (· - l.floor)
              | _ => x.relayUsed }
        match l.part with
        | .port => if l.shared = 0 then s else s.setShared d (s.rd F.XB_LARDER_FREE_shared_free (dieL d) + l.shared)
        | .casub t => s.giveCredit d t l.cls (l.floor - 1)
        | .relay t => s.giveCredit d t l.cls (l.floor - 1)

/-- One more copy of a Larder message is outstanding (R199). -/
def State.addCopy (s : State) (d : Nat) (mid : Option Nat) : State :=
  match mid with
  | none => s
  | some id => s.updXb d fun x =>
      match Tbl.get x.larder id with
      | none => x
      | some l => { x with larder := Tbl.put x.larder id { l with copies := l.copies + 1 } }

/-- Set how many copies of a Larder message are outstanding (R200). -/
def State.setCopies (s : State) (d : Nat) (mid : Option Nat) (n : Nat) : State :=
  match mid with
  | none => s
  | some id => s.updXb d fun x =>
      match Tbl.get x.larder id with
      | none => x
      | some l => { x with larder := Tbl.put x.larder id { l with copies := n } }

/-- Take `n` cells for a credit that an input returns (R189), if it can. -/
def State.backCredit (s : State) (d input c n : Nat) : Option State :=
  (s.canTake d input c n).map fun (fl, sh) =>
    (s.updXb d fun x =>
      { x with
        backing := Tbl.mod x.backing (key2 input c) [] (· ++ [(fl, sh)])
        floorUsed := Tbl.mod x.floorUsed (key2 input c) 0 (· + fl)
        sharedUsed := Tbl.mod x.sharedUsed input 0 (· + sh) }).takeShared d input sh

/-- The cells of a message of `n` cells that uses a credit of an input, with the state in which they are its own (R189): the backing of
the oldest credit, what it does not need of it being free again; with none, or none large enough, cells taken now (R188). Answers how
many come from the floor and from the shared region. -/
def State.useCredit (s : State) (d input c n : Nat) : Option ((Nat × Nat) × State) :=
  let now : Option ((Nat × Nat) × State) := (s.canTake d input c n).map fun got => (got, s.takeShared d input got.2)
  match Tbl.getD (s.xbd d).backing (key2 input c) [] with
  | [] => now
  | (fl, sh) :: r =>
    if n ≤ fl + sh then
      let f := min n fl
      let k := n - f
      let s := s.updXb d fun x =>
        { x with backing := Tbl.set x.backing (key2 input c) r []
                 floorUsed := Tbl.mod x.floorUsed (key2 input c) 0 (· - fl)
                 sharedUsed := Tbl.mod x.sharedUsed input 0 (· - sh) }
      some ((f, k), if k < sh then s.setShared d (s.rd F.XB_LARDER_FREE_shared_free (dieL d) + (sh - k)) else s)
    else now

/-- An input withholds credit for a class that `n` cells would back (R189): the count and the bit of XB_IN_STALL say so. -/
def State.withhold (s : State) (d input c n : Nat) : State :=
  if (s.xbd d).withheld.any fun w => w.1 == input && w.2.1 == c then s
  else
    let s := s.updXb d fun x => { x with withheld := x.withheld ++ [(input, c, n)] }
    let s := (s.on (F.XB_IN_STALL_in_stall input) (dieL d)).inc F.XB_CNT_STALL_stalls (dieL d)
    s.ev F.XB_EVENT_in_stall (dieL d) input


/-- Lowest free tracker entry of a die, if any (R32, R33). DESIGN CHOICE (log entry 154): the number of an entry is not free while the NDR
of a copy given up under it may still come (R274). -/
def State.freeTrk (s : State) (d : Nat) : Option Nat :=
  let late := (s.xbd d).late
  let t := (if late.isEmpty then Tbl.lowest s.trks (d * trkCap)
    else Tbl.lowest (late.foldl (fun t n => Tbl.put t (d * trkCap + n.1) ()) (s.trks.map fun e => (e.1, ()))) (d * trkCap))
    - d * trkCap
  if t < trkCap then some t else none

/-- The NDR of copy `c` of entry `t` may still come though the copy is resolved (R274). -/
def State.lateCopy (s : State) (d t c : Nat) : Bool := (s.xbd d).late.any fun n => n.1 == t && n.2.1 == c

/-- A late copy has ended: its NDR came, or it was dropped. -/
def State.noLate (s : State) (d t c : Nat) : State :=
  if s.lateCopy d t c then s.updXb d fun x => { x with late := x.late.filter fun n => !(n.1 == t && n.2.1 == c) } else s

/-- Classes whose requests need a tracker entry (Table 1.5). -/
def entryClass (c : Nat) : Bool := [1, 3, 4, 9, 10].contains c

/-- A class waits for a tracker entry: the ports of the die return no credit for it (R33). -/
def State.trkFull (s : State) (d c : Nat) : Bool := entryClass c && (s.freeTrk d).isNone

/-- An input returns the credit that a message of `n` cells used, once it holds as many cells again (R189) and a tracker entry is free
for a class that needs one (R33); it withholds it until then. DESIGN CHOICE (log entry 138): the spec gives no count of credits and no
cells for one. -/
def State.grantCredit (s : State) (d input c n : Nat) : State :=
  if s.trkFull d c then s.updXb d fun x => { x with withheld := x.withheld ++ [(input, c, n)] }
  else match s.backCredit d input c n with
    | some s => s
    | none => s.withhold d input c n

/-- Inputs that can take the cells again return credit (R189), oldest first; the bit of an input that lacks none goes. -/
def State.returnCredit (s : State) (d : Nat) : State :=
  let ws := (s.xbd d).withheld
  if ws.isEmpty then s
  else
    let s := (s.updXb d fun x => { x with withheld := [] }).forEach ws fun s w =>
      match if s.trkFull d w.2.1 then none else s.backCredit d w.1 w.2.1 w.2.2 with
      | some s => s
      | none => s.updXb d fun x => { x with withheld := x.withheld ++ [w] }
    s.forEach (ws.map Prod.fst) fun s i =>
      if (s.xbd d).withheld.any fun w => w.1 == i && (s.canTake d i w.2.1 w.2.2).isNone then s
      else s.off (F.XB_IN_STALL_in_stall i) (dieL d)

/-- A port's link is down: its partner has no credit any more, and the cells behind it are free (R189). -/
def State.dropCredit (s : State) (p : Nat) : State :=
  let d := portDie p
  s.forEach ((upTo (s.nQuads p)).flatMap fun j => (upTo 12).map fun c => (portQuad p + j, c)) fun s ic =>
    let held := Tbl.getD (s.xbd d).backing (key2 ic.1 ic.2) []
    let fl := (held.map Prod.fst).sum
    let sh := (held.map Prod.snd).sum
    let s := s.updXb d fun x =>
      { x with backing := Tbl.set x.backing (key2 ic.1 ic.2) [] []
               withheld := x.withheld.filter fun w => !(w.1 == ic.1 && w.2.1 == ic.2)
               floorUsed := if fl = 0 then x.floorUsed else Tbl.mod x.floorUsed (key2 ic.1 ic.2) 0 (· - fl)
               sharedUsed := if sh = 0 then x.sharedUsed else Tbl.mod x.sharedUsed ic.1 0 (· - sh) }
    let s := if sh = 0 then s else s.setShared d (s.rd F.XB_LARDER_FREE_shared_free (dieL d) + sh)
    if (s.xbd d).withheld.any fun w => w.1 == ic.1 then s else s.off (F.XB_IN_STALL_in_stall ic.1) (dieL d)

/-! ## Outputs and sites -/

/-- A destination code is not reserved (R184). -/
def dstOk (dst : Nat) : Bool := decide (dst < 0x90)

/-- CL_STATUS.state of a site (Table 5.9). -/
def State.siteState (s : State) (d t : Nat) : Nat := s.rd F.CL_STATUS_state (unitL d t)
/-- A site is Active. -/
def State.siteActive (s : State) (d t : Nat) : Bool := s.siteState d t == 4

/-- Active sites of die `a` towards die `b`. -/
def State.sitesTo (s : State) (a b : Nat) : List Nat :=
  (upTo 7).filter fun t => s.part.peerDie a t == b && s.siteActive a t

/-- Traffic of TC0 to TC2 counts as one class for the hashes (R185). -/
def hashClass (c : Nat) : Nat := if c ≤ 2 then 0 else c

/-- The payload rate of a site's transmit direction in units of 175 Gb/s (Table 5.8), by its map (R168): width codes 0, 1 and 2 are x32,
x16 and x8. -/
def State.siteWeight (s : State) (d t : Nat) : Nat :=
  match (s.site d t).txMap with
  | some m => 2 ^ (2 - m.width) * (2 - m.speed)
  | none => 2 ^ (2 - s.rd F.CL_STATUS_width (unitL d t)) * (2 - s.rd F.CL_STATUS_speed (unitL d t))

/-- Pick from a list by weights, at position `h` modulo the total weight. -/
def pickWeighted : List (Nat × Nat) → Nat → Option Nat
  | [], _ => none
  | (t, w) :: r, h => if h < w then some t else pickWeighted r (h - w)

/-- The key of a stream (R173): class (TC0 to TC2 as one), ingress crossbar port and destination. -/
def streamKey (d input dst c : Nat) : Nat := Nat.pair d (Nat.pair input (Nat.pair dst (hashClass c)))

/-- The Active site that a new stream is given: a hash of the stream weighted by each site's payload rate (R173). -/
def State.chooseSite (s : State) (a b key : Nat) : Option Nat :=
  let ws := (s.sitesTo a b).map fun t => (t, s.siteWeight a t)
  let total := (ws.map Prod.snd).sum
  if total = 0 then none else pickWeighted ws (Config.streamHash key % total)

/-- The lowest third die through which die `a` reaches die `b` (R176). -/
def State.viaDie (s : State) (a b : Nat) : Option Nat :=
  (upTo s.part.dies).find? fun k =>
    k != a && k != b && !(s.sitesTo a k).isEmpty && !(s.sitesTo k b).isEmpty

/-- A site of die `a` towards die `b` that is not Active and has not failed: its hold_us runs, and it holds its streams
(R174). -/
def State.heldSite (s : State) (a b : Nat) : Option Nat :=
  (upTo 7).find? fun t =>
    s.part.peerDie a t == b && s.siteState a t != 0 && s.siteState a t != 4 && s.siteState a t != 6
      && s.rd F.CL_PEER_route (unitL a t) == 0

/-- The site that a stream from die `a` to die `b` is given: an Active direct one, else a direct one that holds its streams,
else, when every direct site has failed, one towards a third die (R34, R173, R174, R176). A message that a third die relays is
relayed no more. -/
def State.newSite (s : State) (a b key : Nat) (relayed : Bool) : Option Nat :=
  match s.chooseSite a b key with
  | some t => some t
  | none =>
    match s.heldSite a b with
    | some t => some t
    | none => if relayed then none else (s.viaDie a b).bind fun v => s.chooseSite a v key

/-- The destination by which a message's stream is known: its next die when it goes to one first. -/
def streamDst (m : Msg) : Nat := match m.via with
  | some v => 0x90 + v
  | none => m.dst

/-- A site holds a message with a property: waiting to be cut, partly sent, or in a flit that no ack covers. -/
def SiteSt.carries (x : SiteSt) (p : Msg → Bool) : Bool :=
  x.txq.any p || x.oldTx.any p || (x.replay ++ x.old).any (fun f => f.ends.any p || f.starts.any p)
    || match x.partly with
      | some m => p m.1
      | none => false

/-- A stream has messages on its path without an acknowledgement: on its site, in the queue for it, and on a relay path at the
third die as well (R173, R177). -/
def State.streamBusy (s : State) (key : Nat) (x : Stream) : Bool :=
  let same (m : Msg) : Bool := streamKey x.die m.inp (streamDst m) m.tc == key
  let third := s.part.peerDie x.die x.site
  let far (m : Msg) : Bool :=
    m.relay && m.inp / 2 == 8 + x.site && streamDst m == x.dst && hashClass m.tc == hashClass x.cls
  (s.site x.die x.site).carries same
    || (s.xbd x.die).queue.any (fun e => e.out / 2 == 8 + x.site && same e.msg)
    || (third != dstDie x.dst && ((s.xbd third).queue.any (fun e => far e.msg) || (upTo 7).any fun u => (s.site third u).carries far))

/-- May a stream be given a site anew (R173)? It is idle, and its site is Active and direct; a stream that an outage moved
waits for R177, except on a relay path that is no more. -/
def State.mayMove (s : State) (b key : Nat) (x : Stream) : Bool :=
  let third := s.part.peerDie x.die x.site
  !s.streamBusy key x &&
    (if third = b then s.siteActive x.die x.site && x.home.isNone else (s.sitesTo third b).isEmpty)

/-- A stream to die `b` that an outage of the direct site `t` put on a sibling, or any on a relay path. -/
def State.strayed (s : State) (b t : Nat) (x : Stream) : Bool :=
  dstDie x.dst == b && x.site != t && (x.home == some t || s.part.peerDie x.die x.site != b)

/-- The direct site to die `b` to which an idle stream returns: one that has been Active again for 10 ms (R177). -/
def State.backSite (s : State) (b key : Nat) (x : Stream) : Option Nat :=
  if s.streamBusy key x then none
  else (upTo 7).find? fun t =>
    s.part.peerDie x.die t == b && s.siteActive x.die t && (s.site x.die t).back && s.strayed b t x

/-- The site of die `a` that carries a stream to die `b`: the one it is pinned to while it is busy there, else the one that
the rules give it now (R34, R173, R174, R176, R177). -/
def State.siteFor (s : State) (a b input dst c : Nat) (relayed : Bool) : Option Nat × State :=
  let k := streamKey a input dst c
  let pin (t : Nat) (x : Stream) : Option Nat × State :=
    (some t, { s with streams := Tbl.put s.streams k { x with site := t } })
  match Tbl.get s.streams k with
  | some x =>
    match s.backSite b k x with
    | some t => pin t { x with home := none }
    | none =>
    if s.mayMove b k x then
      match s.newSite a b k relayed with
      | some t => pin t x
      | none => (some x.site, s)
    else (some x.site, s)
  | none =>
    match s.newSite a b k relayed with
    | some t => pin t { die := a, site := t, input := input, dst := dst, cls := c, relayed := relayed }
    | none => (none, s)

/-- The crossbar port that a message for a local destination leaves by (R26, R185). -/
def State.localOut (s : State) (input dst c : Nat) : Nat :=
  if dst < 0x80 then
    (if s.nQuads dst = 1 then portQuad dst
    else portQuad dst + Config.streamHash (Nat.pair input (hashClass c)) % s.nQuads dst)
  else if dst < 0x88 then 30 else 31

/-- May `m` not pass the earlier message `p` of its input and output, beside the order within a class (R198)? By the PCI Express
ordering rules (PRESUMED, log entry 134) a TC1 request passes a TC0 message only with ID-Based Ordering and another requester
ID, a write request of TC1 also with Relaxed Ordering, and a completion with either. -/
def mustFollow (m p : Msg) : Bool :=
  p.tc == 0 && ((m.tc == 1 && !(m.ido && m.req != p.req) && !(m.ro && decide (1 < m.cells)))
    || (m.tc == 2 && !m.ro && !(m.ido && m.req != p.req)))

/-! ## The Cellar's arrivals -/

/-- Show what a Cellar holds (Table 4.18, Table 6.10). -/
def State.showCellar (s : State) (p : Nat) : State :=
  let c := (s.port p).cellar
  let s := s.wr F.PT_CELLAR_STATUS_held_txn (portL p) (min c.length 0xFFFF)
  let s := s.wr F.PT_CELLAR_STATUS_held_cells (portL p) ((c.map fun e => e.msg.size).sum)
  let all := ((upTo 16).map fun q => ((s.port (portNo (portDie p) q)).cellar.map fun e => e.msg.size).sum).sum
  s.wr F.XB_CELLAR_USED_cellar_used (dieL (portDie p)) all

/-- A frame arrives for a holding port: it joins the tail, or is flushed on arrival at a full Cellar (R132, R190). -/
def State.cellarArrive (s : State) (p : Nat) (e : QEnt) : State :=
  let held := ((s.port p).cellar.map fun x => x.msg.size).sum
  if held + e.msg.size ≤ s.rd F.PT_CELLAR_CTRL_cellar_max (portL p) * 64
      ∧ s.rd F.XB_CELLAR_USED_cellar_used (dieL (portDie p)) + e.msg.size
        ≤ s.rd F.XB_CELLAR_TOTAL_cellar_total (dieL (portDie p)) then
    (s.updPort p fun x => { x with cellar := x.cellar ++ [e] }).showCellar p
  else (s.ev F.PT_EVENT_cellar_overflow (portL p) p).push (.dispose p e false)

/-- A request: one that takes a tracker entry, or a posted message of TC0. -/
def reqClass (m : Msg) : Bool := tracked m || m.tc == 0

/-- A message is put in the queue of its output; towards a port that is not Up it follows the state of the port (R204,
R220), which is settled before the command ends. A request whose output shaper a double-bit error has spoilt completes as the "other" rows give
(R377). -/
def State.enqueue (s : State) (d : Nat) (e : QEnt) : State :=
  if e.out < 16 ∧ reqClass e.msg ∧ s.spoiltShp d (0, portQuad (s.ownerPort (portNo d e.out)), if e.msg.tc ≤ 2 then 0 else e.msg.tc) then
    (if tracked e.msg ∧ !e.msg.ovTag then (s.freeCopy d e.mid).push (.other d e.msg.trkDie e.msg.trk) else s.push (.dispose e.msg.dst e false))
  else if e.out < 16 ∧ e.msg.dst < 0x80 ∧ !s.portUp e.msg.dst then s.push (.notUp e.msg.dst e)
  else s.updXb d fun x => { x with queue := x.queue ++ [e] }

/-- A message in the Larder leaves for its destination from input `input` of die `d`: to a local output, or to a Casub site
(R34). With no path left it is disposed of as for a lost path (R380). -/
def State.routeIn (s : State) (d input : Nat) (mid : Option Nat) (m : Msg) : State :=
  let m := { m with via := if m.via = some d then none else m.via, inp := input }
  if nextDie m = d then s.enqueue d ⟨mid, input, s.localOut input m.dst m.tc, m, false⟩
  else
    match s.siteFor d (nextDie m) input (streamDst m) m.tc m.relay with
    | (some t, s) => s.enqueue d ⟨mid, input, 16 + 2 * t + Config.streamHash (streamKey d input (streamDst m) m.tc) % 2, m, false⟩
    | (none, s) => s.push (.lostPath d ⟨mid, input, 16, m, false⟩)

/-- Both are TC6 or TC7 of one destination: towards a host port they leave in the order released (R255). -/
def inHostOrder (a b : Msg) : Bool := [6, 7].contains a.tc && [6, 7].contains b.tc && a.dst == b.dst

/-- Does a message wait behind one of `made`? One that the die makes waits behind another of its input and class, and any response behind
an earlier one to its host (R255). -/
def waitsBehind (made : List (Nat × Option Nat × Msg)) (input : Nat) (mid : Option Nat) (m : Msg) : Bool :=
  made.any fun w => inHostOrder w.2.2 m || (mid.isNone && w.2.1.isNone && w.1 == input && w.2.2.tc == m.tc)

/-- A message leaves for its destination from input `input` of die `d`. One that the die itself makes has no cells yet and takes them of
its input first (R181, R188); with none free it waits. DESIGN CHOICE (log entry 47): the spec names no input for what neither a port nor
the data movers send; it is 31. -/
def State.route (s : State) (d input : Nat) (mid : Option Nat) (m : Msg) : State :=
  let wait : State := s.updXb d fun x => { x with made := x.made ++ [(input, mid, m)] }
  if waitsBehind (s.xbd d).made input mid m then wait
  else match mid with
    | some id => s.routeIn d input (some id) m
    | none =>
      match s.canTake d input m.tc m.size with
      | none => wait
      | some (fl, sh) =>
        let (id, s) := s.store d { input := input, cls := m.tc, part := .port, floor := fl, shared := sh, copies := 1 }
        s.routeIn d input (some id) m

/-- Messages of the die that waited try again, oldest first. -/
def State.makeAgain (s : State) (d : Nat) : State :=
  (s.updXb d fun x => { x with made := [] }).forEach (s.xbd d).made fun s w => s.route d w.1 w.2.1 w.2.2

/-! ## The tracker (R32, R33) -/

/-- The key of a tracker entry. -/
def trkKey (d t : Nat) : Nat := d * trkCap + t
/-- A tracker entry, if in use. -/
def State.trk (s : State) (d t : Nat) : Option Trk := if t < trkCap then Tbl.get s.trks (trkKey d t) else none
/-- The entries of a die's tracker in use, by number. -/
def State.trksOf (s : State) (d : Nat) : List (Nat × Trk) :=
  (List.filter (fun e => e.1 / trkCap == d) s.trks).map fun e => (e.1 % trkCap, e.2)
/-- Put a tracker entry. -/
def State.putTrk (s : State) (d t : Nat) (x : Trk) : State := { s with trks := Tbl.put s.trks (trkKey d t) x }
/-- Change a tracker entry in use. -/
def State.updTrk (s : State) (d t : Nat) (f : Trk → Trk) : State :=
  match s.trk d t with
  | none => s
  | some x => s.putTrk d t (f x)
/-- The tracker entry of a request, if it takes one (R32). -/
def State.trkOf (s : State) (m : Msg) : Option Trk := if tracked m then s.trk m.trkDie m.trk else none
/-- Change the tracker entry of a request, if it has one. -/
def State.updTrkOf (s : State) (m : Msg) (f : Trk → Trk) : State := if tracked m then s.updTrk m.trkDie m.trk f else s
/-- The class of the response to a request (Table 1.5). -/
def respTc (tc : Nat) (k : MKind) : Nat :=
  if tc = 1 then 2
  else if tc = 9 then 10
  else if tc = 10 then 9
  else if k = .drs then 7 else 6

/-! ## The Attic's record (R519, R520) -/

/-- head − tail of the Attic, modulo 2^32. -/
def State.atticFill (s : State) (d : Nat) : Nat :=
  (s.rd F.PM_ATTIC_HEAD_head (dieL d) + 2 ^ 32 - s.rd F.PM_ATTIC_TAIL_tail (dieL d)) % 2 ^ 32

/-- The eight words of an Attic record (Table 19.2). -/
def atticWords (x : Trk) (sm : Sample) (t lat head : Nat) (poison err : Bool) (d : Nat) : List Nat :=
  let a := if sm.hpaForm then x.hpa else x.addr
  [ sm.time % 2 ^ 32,
    2 ^ 16 * (head % 2 ^ 16) + sm.time / 2 ^ 32 % 2 ^ 16,
    2 ^ 28 * x.tc + 2 ^ 20 * (x.opcode % 256) + 2 ^ 12 * (x.src % 256) + 2 ^ 5 * (sm.dst % 128) + x.ld % 16 * 2 + b2n poison,
    a % 2 ^ 32,
    2 ^ 18 * (a / 2 ^ 32 % 2 ^ 14) + 2 ^ 11 * (x.vcs.getD 0 % 128) + 2 ^ 10 * b2n sm.hpaForm + 2 ^ 9 * b2n err
      + 2 ^ 8 * b2n x.reissued + 2 ^ 7 * b2n x.held + 2 ^ 6 * b2n x.relayed + 2 ^ 5 * b2n (portDie x.port != d)
      + 2 ^ 4 * b2n x.snooped + 2 ^ 3 * b2n x.agent + 2 ^ 2 * b2n x.redirected + b2n x.readB * 2 + b2n x.mirror.isSome,
    min lat 0x0FFFFFFF,
    2 ^ 16 * (x.ptag % 2 ^ 16) + t % 2 ^ 14,
    0 ]

/-- A sampled request completes: its record is written, or discarded below lat_min (R519, R520). -/
def State.atticRecord (s : State) (d t : Nat) (x : Trk) (poison err : Bool) : State :=
  match x.sample with
  | none => s
  | some sm =>
    let l := dieL d
    let s := s.wr F.PM_ATTIC_STATUS_outstanding l (s.rd F.PM_ATTIC_STATUS_outstanding l - 1)
    let lat := s.now d - sm.time
    if lat < s.rd F.PM_ATTIC_LAT_MIN_lat_min l then s.inc F.PM_CNT_MISC_lat_discard l
    else
      let head := s.rd F.PM_ATTIC_HEAD_head l
      let ws := atticWords x sm t lat head poison err d
      let s := s.forEach (upTo 8) fun s k => s.wr F.PM_ATTIC_REC_word (idxL d 0 (head % 2048 * 8 + k)) (ws.getD k 0)
      let s := s.wr F.PM_ATTIC_HEAD_head l (head + 1)
      let s := s.pm d 0xD001 0 1
      let fill := s.atticFill d
      let s := if s.flag F.PM_ATTIC_CTRL_mode l then
          (if fill = 2048 then (s.on F.PM_ATTIC_STATUS_full l).ev F.PM_EVENT_attic_full l 0 else s)
        else if 2048 < head + 1 then s.on F.PM_ATTIC_STATUS_wrapped l else s
      let wm := s.rd F.PM_ATTIC_CTRL_wm l
      if wm ≠ 0 ∧ fill = wm then s.ev F.PM_EVENT_attic_wm l 0 else s

/-! ## Completions -/

/-- A forwarded request of tracker entry (d, t) is answered, as the agents of the dies in `p` see it: a Loft entry that counts it in
reads_out, or as its write, counts it no more and serves its wait list (R250). -/
def State.noteLoft (s : State) (p : Nat → Bool) (d t : Nat) : State :=
  let wr : Bool := match s.trk d t with
    | some x => x.tc == 4
    | none => false
  s.forEach (List.filter (fun hc => p hc.1) s.ca) fun s hc =>
    s.forEach (List.filter (fun ie => ie.2.fwd.contains (d, t)) hc.2.loft) fun s ie =>
      let e := ie.2
      let e := { e with fwd := e.fwd.erase (d, t), readsOut := if wr then e.readsOut else e.readsOut - 1,
                        writeOut := e.writeOut && !wr }
      let ca := Tbl.getD s.ca hc.1 {}
      { s with ca := Tbl.put s.ca hc.1 { ca with loft := Tbl.put ca.loft ie.1 e } }.push (.serve hc.1 ie.1)

/-- It is answered, as the overlay units of the dies in `p` see it: a slot that counts it as pending, or as outstanding at the old
location, forgets it (R292, R294). -/
def State.noteSlots (s : State) (p : Nat → Bool) (d t : Nat) : State :=
  s.forEach (List.filter (fun ho => p ho.1) s.ov) fun s ho =>
    s.forEach (List.filter (fun im => im.2.atOld.contains (d, t) || im.2.pend.any fun w => w.2 == (d, t)) ho.2.slots) fun s im =>
      let m := im.2
      let m := { m with atOld := m.atOld.erase (d, t), pend := m.pend.filter fun w => w.2 != (d, t) }
      let o := Tbl.getD s.ov ho.1 {}
      { s with ov := Tbl.put s.ov ho.1 { o with slots := Tbl.put o.slots im.1 m } }.push (.migServe ho.1 im.1)

/-- It is answered, as the dies in `p` see it. -/
def State.noteAt (s : State) (p : Nat → Bool) (d t : Nat) : State := (s.noteLoft p d t).noteSlots p d t

/-- A request has ended: every die that counts it counts it no more. -/
def State.noteDone (s : State) (d t : Nat) : State := s.noteAt (fun _ => true) d t

/-- A tracker entry ends: pair queries of its die wait for it no more (R280 step 2). -/
def State.unwait (s : State) (d t : Nat) : State :=
  let m := Tbl.getD s.mr d {}
  if m.queries.isEmpty then s
  else
    let qs := m.queries.map fun q => { q with waits := q.waits.filter fun w => w != t }
    { s with mr := Tbl.set s.mr d { m with queries := qs } {} }

/-- A message that the part itself makes carries the protocol's opcode for its kind (R182). -/
def made (m : Msg) : Msg := { m with opcode := Config.opcodeOf m.tc m.kind.ctorIdx % 256 }

/-- The TLP header cell of a CXL.io message that the part makes (R183). -/
def tlpCell (m : Msg) : Nat := Config.tlpHeader m.tc m.src m.dst m.ptag (64 * m.addr + m.off) m.len

/-- The data of a completion with data that the part itself makes for a tracked TC1 request: its header cell and the bytes (R183). -/
def Trk.cplData (x : Trk) (v : Nat) : List Nat :=
  [tlpCell { tc := 2, kind := .ioCpl, src := x.port, dst := x.src, ptag := x.ptag }, v]

/-- A message whose cells are its data, with the TLP header cell first when it is a CXL.io message that the part makes (R183). -/
def withCells (m : Msg) (data : List Nat) : Msg :=
  let data := if m.tc ≤ 2 ∧ data.isEmpty then [tlpCell m] else data
  { m with cells := data.length, data := data }

/-- What carries a completion: the input and the number in the Larder of the response that it was (R191), or none when the
tracker makes it. -/
abbrev Carry := Option (Nat × Option Nat)

/-- The response of a carry goes no further: its cells are freed. -/
def State.dropCarry (s : State) (d : Nat) (by_ : Carry) : State :=
  match by_ with
  | some x => s.freeCopy d x.2
  | none => s

/-- The tracker sends the final completion of a request to its requester and frees the entry (R32); BIConflictAcks that
wait for it follow (R255), and BIRsp held for it no longer wait (R254). The completion of a request from before a reset of its
host is dropped (Table 7.4). DESIGN CHOICE (log entry 47): a completion that no response carries, and a BIConflictAck, enter the
crossbar as input 31; the spec does not say which port such messages use. -/
def State.complete (s : State) (d t : Nat) (k : MKind) (poison err : Bool) (mv : MetaV) (data : List Nat) (by_ : Carry) : State :=
  match s.trk d t with
  | none => s.dropCarry d by_
  | some x =>
    let s := ((s.atticRecord d t x poison err).noteDone d t).unwait d t
    let unheld := (Tbl.getD s.heldRsp d []).map fun h => { h with after := h.after.filter fun a => a != t }
    let s := { s with trks := Tbl.del s.trks (trkKey d t), heldRsp := Tbl.set s.heldRsp d unheld [] }
    let m : Msg := { tc := respTc x.tc k, kind := k, dst := x.src, src := x.port, ptag := x.ptag, poison := poison,
                     mv := mv, ld := x.ld, trkDie := d, trk := t, last := true }
    let m := made (withCells m data)
    let s := match by_ with
      | some (_, some id) =>
        if x.mirror.isSome ∧ k = MKind.drs ∧ !poison then
          s.updXb d fun y => { y with mirrored := Tbl.put y.mirrored id (t, { x with sample := none }) }
        else s
      | _ => s
    let s := if x.stale then s.dropCarry d by_ else match by_ with
      | some c => s.route d c.1 c.2 m
      | none => s.route d 31 none m
    if x.stale then s else s.forEach x.conflict fun s tag =>
      s.route d 31 none (made { tc := 6, kind := .biConflictAck, dst := x.src, ptag := tag, trkDie := d, trk := t })

/-- A write was completed to the host but not written to memory: RS_LOST_LOG when free, lost_write with a class 4 record, and
a non-fatal internal error on the vPPB by which the host reached the target, else on the upstream port (R379). -/
def State.lostWriteAt (s : State) (at_ : Nat) (d : Nat) (x : Trk) : State :=
  let l := dieL at_
  let s := if s.flag F.RS_LOST_LOG_HI_valid l then s else
    let s := s.wr F.RS_LOST_LOG_LO_addr l x.addr
    let s := (s.on F.RS_LOST_LOG_HI_valid l).wr F.RS_LOST_LOG_HI_port l x.port
    (s.wr F.RS_LOST_LOG_HI_ld l x.ld).wr F.RS_LOST_LOG_HI_addr_hi l (x.addr / 2 ^ 26)
  let s := s.evC F.RS_EVENT_lost_write l x.port 4
  match x.slot with
  | some sl => s.emit (.aerVppb d sl)
  | none => if x.src < 0x80 then s.emit (.aerUsp x.src) else s

/-- Does a TC3 request bring data back (Table 4.8)? -/
def readsData (k : MKind) : Bool :=
  match k with
  | .memRd | .memRdData | .memSpecRd => true
  | _ => false

/-- Is a request a read of memory, of CXL.mem or of CXL.io? -/
def readsMem (k : MKind) : Bool := readsData k || k == .ioMemRd

/-- Complete a tracked request as the "other" rows of Table 4.8 give for its class. -/
def State.completeOther (s : State) (at_ d t : Nat) : State :=
  match s.trk d t with
  | none => s
  | some x =>
    match x.tc with
    | 3 => if readsData x.kind then s.complete d t .drs true true .i [0] none else s.complete d t .ndr false true .i [] none
    | 4 => (s.lostWriteAt at_ d x).complete d t .ndr false true .i [] none
    | 1 => s.complete d t .ioUR false true .i [] none
    | _ => { s.noteDone d t with trks := Tbl.del s.trks (trkKey d t) }

/-- A read of a mirrored range that no copy can serve completes with poison (R285); anything else as the "other" rows give. -/
def State.poisonOut (s : State) (at_ d t : Nat) : State :=
  match s.trk d t with
  | none => s
  | some x => if x.kind = .ioMemRd then s.complete d t .ioCpl true true .i (x.cplData 0) none else s.completeOther at_ d t

end Sys2Proof.Machine
end

