-- ==== Sys2Proof/Machine/BindOps.lean ====
section
/-! DEFINITION. The binding engine's tables (chapter 7): VCS, vPPB, decoder, PID and group entries, HDM decoding (R219), the
checks of a decoder (R217), what a port's link changes at a vPPB (Table 7.4). -/

namespace Sys2Proof.Machine

/-! ## Accessors -/

/-- The VCS entry of port `v`: valid on a host port alone, not on a slot and not on an absorbed quad (R208). -/
def State.vcs (s : State) (v : Nat) : Vcs :=
  let x := Tbl.getD s.vcss v {}
  { x with valid := x.valid && s.role v == 0 }
/-- A vPPB slot of a die. -/
def State.vppb (s : State) (d i : Nat) : Vppb := Tbl.getD s.vppbs (key2 d i) {}
/-- Change a vPPB slot. -/
def State.updVppb (s : State) (d i : Nat) (f : Vppb → Vppb) : State := { s with vppbs := Tbl.mod s.vppbs (key2 d i) {} f }
/-- A decoder entry of a die, index quad × 32 + n. -/
def State.dec (s : State) (d i : Nat) : Dec := Tbl.getD s.decs (key2 d i) {}
/-- Put a decoder entry. -/
def State.putDec (s : State) (d i : Nat) (x : Dec) : State := { s.mend d 0 i with decs := Tbl.set s.decs (key2 d i) x {} }
/-- A decoder of the upstream port's emulated capability. -/
def State.hostDec (s : State) (d i : Nat) : HostDec := Tbl.getD s.hostDecs (key2 d i) {}
/-- Put a host decoder. -/
def State.putHostDec (s : State) (d i : Nat) (x : HostDec) : State :=
  { s with hostDecs := Tbl.set s.hostDecs (key2 d i) x {} }
/-- The slot of vPPB number `n` of VCS `v` (R209). -/
def State.slotOf (s : State) (v n : Nat) : Nat := (s.vcs v).first + n
/-- The slots of a VCS. -/
def State.slotsOf (s : State) (v : Nat) : List Nat := (upTo (s.vcs v).count).map fun n => s.slotOf v n

/-- Every vPPB slot of the package, as (die, slot). -/
def State.allSlots (s : State) : List (Nat × Nat) :=
  (upTo s.part.dies).flatMap fun d => (upTo 16).flatMap fun q =>
    if (s.vcs (portNo d q)).valid then (s.slotsOf (portNo d q)).map fun i => (d, i) else []

/-- Does a vPPB hold the pair (port, LD)? A binding of a whole single-logical device holds LD 0. -/
def Vppb.holds (x : Vppb) (p l : Nat) : Bool := x.state != 0 && x.port == p && x.ld == l

/-- The slots whose vPPB holds a pair in Binding, Bound or Unbinding (R236). -/
def State.bindings (s : State) (p l : Nat) : List (Nat × Nat) :=
  s.allSlots.filter fun di => (s.vppb di.1 di.2).holds p l

/-- bind_count of a pair (R236). -/
def State.bindCount (s : State) (p l : Nat) : Nat := (s.bindings p l).length

/-- The vPPB of a slot holds a shared pair that another binding owns (R213). -/
def State.notOwner (s : State) (d i : Nat) : Bool :=
  let x := s.vppb d i
  !x.owner && decide (1 < s.bindCount x.port x.ld)

/-- The slots Bound to a port, on any LD. -/
def State.boundTo (s : State) (p : Nat) : List (Nat × Nat) :=
  s.allSlots.filter fun di => (s.vppb di.1 di.2).state == 2 && (s.vppb di.1 di.2).port == p

/-- The capacity that a device or LD last reported, in units of 256 MiB (R217 check 5). -/
def State.capOf (s : State) (p l : Nat) : Nat := Tbl.getD s.devCap (key2 p l) 0

/-- The share bit of a pair (R211). -/
def State.shareBit (s : State) (p l : Nat) : Bool := s.flag (F.BD_LD_SHARE_q_share l) (idxL (portDie p) 0 (portQuad p))

/-! ## Group entries (Table 6.3) -/

/-- The eight words of a group entry. -/
def State.grp (s : State) (d i : Nat) : List Nat := Tbl.getD s.groups (key2 d i) []
/-- Word `w` of an entry. -/
def wordAt (g : List Nat) (w : Nat) : Nat := g.getD w 0
/-- The entry is in use. -/
def grpValid (g : List Nat) : Bool := bitOf (wordAt g 0) 31
/-- 0 multicast, 1 mirror. -/
def grpKind (g : List Nat) : Nat := bitsOf (wordAt g 0) 30 29
/-- The class is allowed. -/
def grpClass (g : List Nat) (c : Nat) : Bool := bitOf (wordAt g 0) (16 + c)
/-- Port and LD of copy A or B of a mirror group. -/
def grpCopy (g : List Nat) (copy : Nat) : Nat × Nat :=
  if copy = 0 then (bitsOf (wordAt g 5) 30 24, bitsOf (wordAt g 5) 15 12)
  else (bitsOf (wordAt g 5) 22 16, bitsOf (wordAt g 5) 11 8)
/-- Members of a multicast group. -/
def grpMembers (g : List Nat) : List Nat := (upTo 128).filter fun p => bitOf (wordAt g (1 + p / 32)) (p % 32)

/-! ## Decoding (R219) -/

/-- 256 MiB in lines of 64 bytes. -/
def unitLines : Nat := 2 ^ 22

/-- What decoding an address gives: nothing hits, or a target vPPB slot with the device line address. -/
inductive Decoded where
  | miss
  | hit (idx slot line : Nat)
  deriving DecidableEq, Repr

/-- Does a decoder entry cover a host line address? -/
def Dec.covers (x : Dec) (hpa : Nat) : Bool :=
  x.valid && decide (x.base * unitLines ≤ hpa) && decide (hpa < (x.base + x.size) * unitLines)

/-- The way and the device offset, in lines, of an offset into a decoder's range (R219). Granularity is in whole lines. -/
def Dec.split (x : Dec) (off : Nat) : Nat × Nat :=
  let g := 4 * 2 ^ x.gran
  let chunk := off / g
  (chunk % 2 ^ x.ways, chunk / 2 ^ x.ways * g + off % g)

/-- Decode a host line address by the decoders of VCS `v` (R219). -/
def State.decode (s : State) (v hpa : Nat) : Decoded :=
  let d := portDie v
  match (upTo 32).find? fun n => (s.dec d (portQuad v * 32 + n)).covers hpa with
  | none => .miss
  | some n =>
    let i := portQuad v * 32 + n
    let x := s.dec d i
    let (way, off) := x.split (hpa - x.base * unitLines)
    let (num, dpa) := x.targets.getD way (0, 0)
    .hit i (s.slotOf v num) (dpa * unitLines + off)

/-- A host's address would use a decoder that a double-bit error has spoilt (R377). -/
def State.spoiltDec (s : State) (v hpa : Nat) : Bool :=
  s.spoiltBy (portDie v) fun x => match x with
    | .decoder i y => i / 32 == portQuad v && y.covers hpa
    | _ => false

/-- The shadow decoder of a vPPB that covers a host line address, if committed (R212, R240). -/
def Vppb.shadowAt (x : Vppb) (hpa : Nat) : Option ShDec :=
  (x.shadow.map Prod.snd).find? fun c =>
    c.committed && decide (c.base * unitLines ≤ hpa) && decide (hpa < (c.base + c.size) * unitLines)

/-! ## Function 1 of an upstream port (R350) -/

/-- A word of the configuration space of the endpoint at function 1. Words 4 and 5 are its one BAR: 64-bit, not prefetchable, of 4 MiB. -/
def State.fn1Word (s : State) (v w : Nat) : Nat :=
  let o := Tbl.get (Tbl.getD s.fn1Cfg v []) w
  match w with
  | 4 => 2 ^ 22 * bitsOf (o.getD 0) 31 22 + 4
  | 5 => o.getD 0
  | _ => o.getD (Config.fn1Reset w)

/-- A word of it is written. -/
def State.fn1Write (s : State) (v w x : Nat) : State :=
  let new := if w = 4 ∨ w = 5 then x else Config.fn1Store w (s.fn1Word v w) x
  { s with fn1Cfg := Tbl.put s.fn1Cfg v (Tbl.put (Tbl.getD s.fn1Cfg v []) w new) }

/-- The line address at which BAR0 of function 1 begins, while its VCS has pantry_fn and the host has enabled memory accesses (PRESUMED, log
entry 156: bit 1 of word 1, as in PCI Express). -/
def State.bar0 (s : State) (v : Nat) : Option Nat :=
  if s.pantryFn.contains v && bitOf (s.fn1Word v 1) 1 then
    some (2 ^ 26 * s.fn1Word v 5 + 2 ^ 16 * bitsOf (s.fn1Word v 4) 31 22)
  else none

/-- The byte offset in BAR0 of a request of the host of `v`, if it falls into it. -/
def State.bar0Off (s : State) (v : Nat) (m : Msg) : Option Nat :=
  match s.bar0 v with
  | none => none
  | some b => if b ≤ m.addr ∧ m.addr < b + 2 ^ 16 then some ((m.addr - b) * 64 + m.off) else none

/-! ## Function 2 of an FM port (R419) -/

/-- The channel of an FM port (Table 15.2); none for another host port. -/
def State.fmOf (s : State) (p : Nat) : Option Nat :=
  (upTo 4).find? fun k => s.flag F.MB_CHAN_c_present (idxL 0 0 k) && Tbl.get s.inv.fmPorts k == some p

/-- A word of the configuration space of function 2. Words 4 to 7 are its two BARs, 64-bit and not prefetchable: BAR0 of 2 MiB, BAR2 of 256 MiB. -/
def State.fn2Word (s : State) (p w : Nat) : Nat :=
  let o := Tbl.get (Tbl.getD s.fn2Cfg p []) w
  match w with
  | 4 => 2 ^ 21 * bitsOf (o.getD 0) 31 21 + 4
  | 5 => o.getD 0
  | 6 => 2 ^ 28 * bitsOf (o.getD 0) 31 28 + 4
  | 7 => o.getD 0
  | _ => o.getD (Config.fn2Reset w)

/-- A word of it is written. -/
def State.fn2Write (s : State) (p w x : Nat) : State :=
  let new := if 4 ≤ w ∧ w ≤ 7 then x else Config.fn2Store w (s.fn2Word p w) x
  { s with fn2Cfg := Tbl.put s.fn2Cfg p (Tbl.put (Tbl.getD s.fn2Cfg p []) w new) }

/-- The line address at which BAR `b` (0 or 2) of function 2 begins. -/
def State.fn2Bar (s : State) (p b : Nat) : Nat := 2 ^ 26 * s.fn2Word p (5 + b) + s.fn2Word p (4 + b) / 64

/-- Where a memory request of host port `p` falls into function 2, while the host has enabled memory accesses (log entry 156): whether that
is BAR2, and the byte offset in the BAR. -/
def State.fn2Off (s : State) (p : Nat) (m : Msg) : Option (Bool × Nat) :=
  if (s.fmOf p).isNone || !bitOf (s.fn2Word p 1) 1 then none
  else
    let hit (b size : Nat) : Bool := decide (s.fn2Bar p b ≤ m.addr) && decide (m.addr < s.fn2Bar p b + size)
    if hit 0 (2 ^ 15) then some (false, (m.addr - s.fn2Bar p 0) * 64 + m.off)
    else if hit 2 (2 ^ 22) then some (true, (m.addr - s.fn2Bar p 2) * 64 + m.off)
    else none

/-! ## Checks of a decoder (R217) -/

/-- Two ranges in 256 MiB units overlap. -/
def rangesOverlap (b1 s1 b2 s2 : Nat) : Bool := decide (b1 < b2 + s2) && decide (b2 < b1 + s1)

/-- No element occurs twice. -/
def distinct : List Nat → Bool
  | [] => true
  | x :: r => !r.contains x && distinct r

/-- mirror_grp of an entry meets R221. -/
def State.mirrorGrpOk (s : State) (v : Nat) (x : Dec) (grp : Nat) : Bool :=
  let g := s.grp (portDie v) grp
  let t := s.vppb (portDie v) (s.slotOf v (x.targets.getD 0 (0, 0)).1)
  x.valid && x.ways == 0 && grpValid g && grpKind g == 1 && grpCopy g 0 == (t.port, t.ld)

/-- Checks 1 to 3, 5 and 6 of R217 for entry `i` of VCS `v`. -/
def State.decChecks (s : State) (v i : Nat) (x : Dec) : Bool :=
  let d := portDie v
  let q := portQuad v
  let ts := x.targets.take (2 ^ x.ways)
  decide (x.ways ≤ 3) && decide (x.gran ≤ 6) && decide (1 ≤ x.size)
    && x.size % 2 ^ x.ways == 0 && decide (x.base + x.size ≤ 2 ^ 24)
    && (upTo 32).all (fun n => q * 32 + n == i ||
        !(s.dec d (q * 32 + n)).valid || !rangesOverlap x.base x.size (s.dec d (q * 32 + n)).base (s.dec d (q * 32 + n)).size)
    && ts.all (fun t => decide (t.1 < (s.vcs v).count) && (s.vppb d (s.slotOf v t.1)).state == 2)
    && distinct (ts.map Prod.fst)
    && ts.all (fun t => 
        decide (t.2 + x.size / 2 ^ x.ways ≤ s.capOf (s.vppb d (s.slotOf v t.1)).port (s.vppb d (s.slotOf v t.1)).ld))
    && (x.grp == 0 || s.mirrorGrpOk v x x.grp)

/-- Where the share of decoder `k` of a shadow begins, in eighths of 256 MiB: after the skips and shares of the committed
decoders before it (R217 check 4). -/
def dpaEighths (sh : Tbl ShDec) (k : Nat) : Nat :=
  ((List.filter (fun y => decide (y.1 < k) && y.2.committed) sh).map fun y => y.2.skip * 8 + y.2.size * 8 / 2 ^ y.2.ways).sum
    + (Tbl.getD sh k {}).skip * 8

/-- Checks 4 and 1 of R217: each target's shadow holds a committed decoder with the same base, size, ways and granularity,
whose skip and place give dpa_base, a whole number of units. -/
def State.hostTargets (s : State) (v : Nat) (h : HostDec) : Option (List (Nat × Nat)) :=
  ((h.targets.take (2 ^ h.ways)).mapM fun n =>
    let sh := (s.vppb (portDie v) (s.slotOf v n)).shadow
    match sh.find? fun e => e.2.committed && e.2.base == h.base && e.2.size == h.size && e.2.ways == h.ways
        && e.2.gran == h.gran with
    | none => none
    | some (k, _) => if dpaEighths sh k % 8 = 0 then some (n, dpaEighths sh k / 8) else none)

/-! ## vPPB events of links (Table 7.4) -/

/-- The port reaches Up: presence and link shown, hot-plug event, at each Bound vPPB. -/
def State.bindPortUp (s : State) (p : Nat) : State :=
  s.forEach (s.boundTo p) fun s di =>
    (s.updVppb di.1 di.2 fun x => { x with presence := true, dlActive := true }).emit (.hotplug di.1 di.2 true true)

/-- An Unbinding begins (Table 7.4): with a shared pair the agent of the pair's home die walks it for the VCS (R261). -/
def State.beginUnbinding (s : State) (d i : Nat) : State :=
  let x := s.vppb d i
  let s := s.updVppb d i fun x => { x with state := 3, unbindOpt := none }
  let h := portDie x.port
  let ca := Tbl.getD s.ca h {}
  if ca.regions.any fun r => r.2.quad == portQuad x.port && r.2.ld == x.ld then
    let ca' := { ca with walkUnbind := ca.walkUnbind ++ [(x.vcs, portQuad x.port, x.ld)] }
    { s with ca := Tbl.put s.ca h ca' }.on F.CA_STATUS_walk_queued (dieL h)
  else s

/-- The board of a slot leaves (Table 7.4, R229): presence and the shadow go at each Bound vPPB that still shows it, whatever
the state of the port. -/
def State.boardGone (s : State) (p : Nat) : State :=
  s.forEach ((s.boundTo p).filter fun di => (s.vppb di.1 di.2).presence || !(s.vppb di.1 di.2).shadow.isEmpty) fun s di =>
    let was := (s.vppb di.1 di.2).presence
    let s := s.updVppb di.1 di.2 fun x => { x with presence := false, dlActive := false, shadow := [], hdmGlobal := none }
    if was then s.emit (.hotplug di.1 di.2 false false) else s

/-- The port leaves Up with a cause: link shown down; with cause 4 presence and the shadow go too; an Unbind of option 0 that
waited goes on. -/
def State.bindPortDown (s : State) (p cause : Nat) : State :=
  s.forEach (s.boundTo p) fun s di =>
    let gone := cause == 4
    let s := s.updVppb di.1 di.2 fun x =>
      { x with dlActive := false, presence := x.presence && !gone, shadow := if gone then [] else x.shadow
               hdmGlobal := if gone then none else x.hdmGlobal }
    let s := s.emit (.hotplug di.1 di.2 (s.vppb di.1 di.2).presence false)
    if (s.vppb di.1 di.2).unbindOpt == some 0 then s.beginUnbinding di.1 di.2 else s

/-- The host's configuration resets (Table 7.4, first row): emulated configuration and shadows to their reset values; in
host mode every decoder entry is cleared; completions of the host's requests sent before are dropped. -/
def State.vcsReset (s : State) (v : Nat) : State :=
  let d := portDie v
  let s := s.forEach ((s.trksOf d).filter fun e => e.2.src == v) fun s e => s.putTrk d e.1 { e.2 with stale := true }
  let s := s.forEach (s.slotsOf v) fun s i => s.updVppb d i fun x =>
    { x with secBus := 0, subBus := 0, memBase := 0, memLimit := 0, prefBase := 0, prefLimit := 0, cfg := [], shadow := [],
             hdmGlobal := none }
  let s := s.forEach (upTo 32) fun s n => s.putHostDec d (portQuad v * 32 + n) {}
  let s := { s with uspCfg := Tbl.del s.uspCfg v, fn1Cfg := Tbl.del s.fn1Cfg v, fn2Cfg := Tbl.del s.fn2Cfg v }
  if (s.vcs v).fm then s else s.forEach (upTo 32) fun s n => s.putDec d (portQuad v * 32 + n) {}

end Sys2Proof.Machine
end

