-- ==== Sys2Proof/Machine/MirrorOps.lean ====
section
/-! DEFINITION. The mirror unit's operations (R269 to R288): addresses of copies, read choice, failure of copies and what
follows, poisoned reads, guarded rewrites and resilvers. -/

namespace Sys2Proof.Machine

/-- The mirror unit of a die. -/
def State.mrd (s : State) (d : Nat) : MrDie := Tbl.getD s.mr d {}
/-- Change the mirror unit of a die. -/
def State.updMr (s : State) (d : Nat) (f : MrDie → MrDie) : State := { s with mr := Tbl.mod s.mr d {} f }
/-- A mirror entry of a die. -/
def State.mir (s : State) (d i : Nat) : Mir := Tbl.getD (s.mrd d).entries i {}
/-- Put a mirror entry. -/
def State.putMir (s : State) (d i : Nat) (x : Mir) : State :=
  (s.mend d 1 i).updMr d fun m => { m with entries := Tbl.set m.entries i x {} }

/-- State of copy 0 (A) or 1 (B). -/
def Mir.st (x : Mir) (c : Nat) : CopySt := if c = 0 then x.stA else x.stB
/-- Set the state of a copy. -/
def Mir.setSt (x : Mir) (c : Nat) (v : CopySt) : Mir := if c = 0 then { x with stA := v } else { x with stB := v }
/-- A write goes to a copy in Healthy or Resilvering (R273). -/
def Mir.writable (x : Mir) (c : Nat) : Bool := x.st c != .failed
/-- The request at copy A line `a` is mirrored (R271). -/
def Mir.inRange (x : Mir) (a : Nat) : Bool :=
  x.valid && decide (x.aBase * unitLines ≤ a) && decide (a < (x.aBase + x.size) * unitLines)
/-- The line address of a copy of copy A line `a` (R271). -/
def Mir.lineOf (x : Mir) (c a : Nat) : Nat := if c = 0 then a else a - x.aBase * unitLines + x.bBase * unitLines

/-- The copy that a posted CXL.io write of a mirrored range goes to: copy A, or copy B while A is Failed; none when neither takes writes or
the range is lost. DESIGN CHOICE (log entry 152): the spec replicates TC4 writes alone, and says nothing of a TC0 write. -/
def Mir.postedTo (x : Mir) : Option Nat :=
  if x.lost then none else if x.writable 0 then some 0 else if x.writable 1 then some 1 else none

/-- The copy a read goes to at a choosing die: by pref when both are Healthy, else the Healthy one (R277, Table 9.2). -/
def Mir.choose (x : Mir) (g : List Nat) (d a : Nat) : Option Nat :=
  match x.st 0, x.st 1 with
  | .healthy, .healthy =>
    some (match x.pref with
      | 0 => 0
      | 1 => 1
      | 2 => if portDie (grpCopy g 1).1 = d ∧ portDie (grpCopy g 0).1 ≠ d then 1 else 0
      | _ => if a / 2 ^ 6 % 2 = 0 then 0 else 1)
  | .healthy, _ => some 0
  | _, .healthy => some 1
  | _, _ => none

/-- The dies of the part. -/
def State.dies (s : State) : List Nat := upTo s.part.dies

/-- Can a message pass from die `a` to die `b`, directly or through a third die? -/
def State.reaches (s : State) (a b : Nat) : Bool := a == b || !(s.sitesTo a b).isEmpty || (s.viaDie a b).isSome

/-- Every path between two dies is lost: neither a site that may still carry traffic nor a third die (R380). -/
def State.pathLost (s : State) (a b : Nat) : Bool := a != b && !s.reaches a b

/-! ## Guards and repairs (R280 to R282) -/

/-- Change the guards of a die, with what MR_STATUS shows. -/
def State.putGuards (s : State) (h : Nat) (f : Tbl Guard → Tbl Guard) : State :=
  let s := s.updMr h fun m => { m with guards := f m.guards }
  s.wr F.MR_STATUS_guards_used (dieL h) (s.mrd h).guards.length

/-- Arm a guard with a free slot and acknowledge it to the choosing die (R280 step 1). -/
def State.armGuard (s : State) (h : Nat) (g : Guard) : State :=
  match Tbl.free (s.mrd h).guards 64 with
  | none => s.updMr h fun m => { m with armWait := m.armWait ++ [g] }
  | some i => (s.putGuards h fun t => Tbl.put t i g).emit (.guardAck g.chooser g.grp g.copy g.lines)

/-- Arms that waited take the guards that are free (R282). -/
def State.serveArm (s : State) (h : Nat) : State :=
  let w := (s.mrd h).armWait
  let n := 64 - (s.mrd h).guards.length
  (s.updMr h fun m => { m with armWait := w.drop n }).forEach (w.take n) fun s g => s.armGuard h g

/-- Guards of abandoned rewrites are released (R281). -/
def State.releaseGuards (s : State) (chooser grp : Nat) (lines : List Nat) : State :=
  let hit (g : Guard) : Bool := g.chooser == chooser && g.grp == grp && g.lines.any lines.contains
  s.forEach s.dies fun s h =>
    if (s.mrd h).guards.any (fun e => hit e.2) || (s.mrd h).armWait.any hit then
      let s := s.updMr h fun m => { m with armWait := m.armWait.filter fun g => !hit g }
      (s.putGuards h fun t => Tbl.drop t fun _ g => hit g).serveArm h
    else s

/-- A write goes on towards a guarded line of copy X: its hit bit is set (R280 step 1). -/
def State.markHit (s : State) (h : Nat) (m : Msg) : State :=
  if (s.mrd h).guards.any fun e => e.2.port == m.dst && e.2.ld == m.ld && e.2.lines.contains m.addr then
    s.updMr h fun x => { x with guards := x.guards.map fun e =>
      if e.2.port == m.dst && e.2.ld == m.ld && e.2.lines.contains m.addr && !e.2.hits.contains m.addr then
        (e.1, { e.2 with hits := e.2.hits ++ [m.addr] }) else e }
  else s

/-- The lines of a rewrite as copy X's device lines. -/
def State.rewriteLines (s : State) (d : Nat) (r : Rewrite) : List Nat := r.lines.map ((s.mir d r.grp).lineOf r.copy)

/-- Ask copy X's home die for the guard of a rewrite (R280 step 1). -/
def State.askGuard (s : State) (d : Nat) (r : Rewrite) : State :=
  let (p, l) := grpCopy (s.grp d r.grp) r.copy
  s.emit (.guardArm (portDie p) d r.grp r.copy p l (s.rewriteLines d r))

/-- The rewrite of a choosing die for a group's copy that covers a copy A line. -/
def State.rewriteOf (s : State) (d grp copy line : Nat) : Option (Nat × Rewrite) :=
  (s.mrd d).rewrites.find? fun r => r.2.grp == grp && r.2.copy == copy && r.2.lines.contains line

/-- A die answers a pair query (R280 step 2): the choosing die notes it. -/
def State.pairAnswer (s : State) (src ch grp copy : Nat) (lines : List Nat) : State :=
  let s := match s.rewriteOf ch grp copy (lines.headD 0) with
    | some (i, r) => s.updMr ch fun m =>
        { m with rewrites := Tbl.put m.rewrites i { r with answered := r.answered.filter (· != src) ++ [src] } }
    | none => s
  s.emit (.pairAnswer ch src grp copy lines)

/-- Pair queries whose earlier writes have all ended are answered. -/
def State.answerPairs (s : State) (d : Nat) : State :=
  let ready := (s.mrd d).queries.filter fun q => q.waits.isEmpty
  if ready.isEmpty then s
  else
    let s := s.updMr d fun m => { m with queries := m.queries.filter fun q => !q.waits.isEmpty }
    s.forEach ready fun s q => s.pairAnswer d q.chooser q.grp q.copy q.lines

/-- Start the repair at the head of the queue when none runs: ask copy X's home die for a guard (R280 step 1, R281). -/
def State.startRepair (s : State) (d : Nat) : State :=
  let m := s.mrd d
  if m.rewrites.any fun r => !r.2.resilver then s
  else match m.repairQ with
    | [] => s
    | (g, c, a) :: _ =>
      let id := (Tbl.free m.rewrites 1024).getD 0
      let r : Rewrite := { grp := g, copy := c, lines := [a], resilver := false, left := [a] }
      (s.updMr d fun m => { m with rewrites := Tbl.put m.rewrites id r }).askGuard d r

/-- Queue a line of copy X for repair; a full queue skips it (R279, R281). -/
def State.queueRepair (s : State) (d g c a : Nat) : State :=
  if 256 ≤ (s.mrd d).repairQ.length then s.inc F.MR_CNT_MISC_repair_skipped (dieL d)
  else
    let s := s.updMr d fun m => { m with repairQ := m.repairQ ++ [(g, c, a)] }
    (s.wr F.MR_STATUS_repair_q (dieL d) (s.mrd d).repairQ.length).startRepair d

/-- Abandon repairs of a group: a queued or running rewrite ends when X or Y leaves Healthy (R281). -/
def State.dropRepairs (s : State) (d g : Nat) : State :=
  let gone := ((s.mrd d).rewrites.filter fun _ r => r.grp == g).flatMap fun r => s.rewriteLines d r.2
  let s := if gone.isEmpty then s else s.releaseGuards d g gone
  let s := s.updMr d fun m =>
    { m with repairQ := m.repairQ.filter fun r => r.1 != g,
             rewrites := Tbl.drop m.rewrites fun _ r => r.grp == g }
  (s.wr F.MR_STATUS_repair_q (dieL d) (s.mrd d).repairQ.length).startRepair d

/-- The domain of a data-mover engine (Table 2.8). -/
def engDom (e : Nat) : Nat := if e < 4 then 17 else 18
/-- A domain holds its state and works when asked: On, or in Lull, from which work wakes it (R64, R68). -/
def State.domUsable (s : State) (d k : Nat) : Bool := s.domState d k == 3 || s.domState d k == 2

/-- The line requests of an engine that are out. -/
def State.linesOut (s : State) (d e : Nat) : Nat := s.rd F.DM_ENG_STATUS_lines_out (idxL d 0 e)

/-- Lines outstanding of an engine changed (Table 11.10): a busy engine is work for its domain (R67). -/
def State.setLines (s : State) (d e n : Nat) : State :=
  ((s.wake d (engDom e)).wr F.DM_ENG_STATUS_lines_out (idxL d 0 e) n).wrB F.DM_ENG_STATUS_busy (idxL d 0 e) (n != 0)

/-- An engine may send one more line request: fewer than max_lines are out (R322). -/
def State.lineMay (s : State) (d e : Nat) : Bool := decide (s.linesOut d e < s.rd F.DM_ENG_CTRL_max_lines (idxL d 0 e))
/-- A line request of an engine goes out. -/
def State.lineSent (s : State) (d e : Nat) : State := s.setLines d e (s.linesOut d e + 1)
/-- Line requests of an engine are answered, or given up. -/
def State.linesBack (s : State) (d e n : Nat) : State := if n = 0 then s else s.setLines d e (s.linesOut d e - n)

/-- The first element that an operation can send something for: whether there was one, and the state then. -/
def State.firstSent (s : State) (xs : List α) (f : State → α → Bool × State) : Bool × State :=
  xs.foldl (fun r x => if r.1 then r else f r.2 x) (false, s)

/-- A resilver of a die stops (R288): cursor to 0, nothing in flight; the lines that its blocks read are out no more. -/
def State.endResilver (s : State) (d : Nat) : State :=
  match (s.mrd d).resilver with
  | none => s
  | some r =>
    let blocks := (s.mrd d).rewrites.filter fun _ x => x.grp == r.grp && x.resilver
    let gone := blocks.flatMap fun x => s.rewriteLines d x.2
    let s := s.linesBack d (s.rd F.MR_CTRL_engine (dieL d)) (blocks.map fun x => x.2.back.length).sum
    let s := if gone.isEmpty then s else s.releaseGuards d r.grp gone
    let s := s.updMr d fun m =>
      { m with resilver := none, rewrites := Tbl.drop m.rewrites fun _ x => x.grp == r.grp && x.resilver }
    let s := s.putMir d r.grp { s.mir d r.grp with cursor := 0 }
    let s := s.off F.MR_RESILVER_active (dieL d)
    s.off F.MR_RESILVER_in_flight (dieL d)

/-- The write copies of a failed copy that are still out resolve at once on this die's tracker (R274, R284). Their NDRs may still come,
and are discarded then. -/
def State.resolveCopies (s : State) (d g c : Nat) : State :=
  s.forEach ((s.trksOf d).filter fun e => e.2.mirror == some g && e.2.tc == 4 && (if c = 0 then e.2.a else e.2.b) == .out)
    fun s e => s.push (.copyGivenUp d e.1 c)

/-- Copy `c` of group `g` enters Failed on die `d` (R283 to R285, R288). Cause 0 is the end of a resilver by op = stop (R288),
which is no failure of Table 9.3 and is neither logged nor counted. `losing` is false for a copy that only lies beyond lost paths: lost is not
set for it (R380). -/
def State.failCopyBy (s : State) (d g c cause : Nat) (losing : Bool) : State :=
  let x := s.mir d g
  if !x.valid || x.st c == .failed then s
  else
    let l := dieL d
    let (p, ld) := grpCopy (s.grp d g) c
    let other := x.st (1 - c)
    let s := s.putMir d g (x.setSt c .failed)
    let s := if s.flag F.MR_LOG_valid l || cause == 0 then s else
      let s := ((s.on F.MR_LOG_valid l).wr F.MR_LOG_cause l cause).wr F.MR_LOG_copy l c
      ((s.wr F.MR_LOG_port l p).wr F.MR_LOG_ld l ld).wr F.MR_LOG_index l g
    let s := if cause = 0 then s else (s.inc F.MR_CNT_FAIL_copy_fails l).evC F.MR_EVENT_copy_failed l g 3
    let s := match (s.mrd d).resilver with
      | some r => if r.grp = g then s.endResilver d else s
      | none => s
    let s := s.dropRepairs d g
    let s := if other == .healthy then s
      else
        let y := s.mir d g
        let y := if other == .resilvering then y.setSt (1 - c) .failed else y
        let s := s.putMir d g { y with lost := x.lost || losing }
        if x.lost || !losing then s else (s.inc F.MR_CNT_FAIL_lost l).evC F.MR_EVENT_lost l g 4
    if other == .resilvering then (s.resolveCopies d g c).resolveCopies d g (1 - c) else s.resolveCopies d g c

/-- A copy enters Failed by an event of Table 9.3. -/
def State.failCopy (s : State) (d g c cause : Nat) : State := s.failCopyBy d g c cause true

/-- A die applies a copy-state message to each of its entries that it concerns (R284). -/
def State.applyCopyMsg (s : State) (d : Nat) (m : CopyMsg) : State :=
  match m with
  | .failPort p ld cause =>
    s.forEach ((s.mrd d).entries.map Prod.fst) fun s g =>
      s.forEach [0, 1] fun s c =>
        let (p', ld') := grpCopy (s.grp d g) c
        if p' = p ∧ (ld.isNone ∨ ld = some (Fin.ofNat 16 ld')) then s.failCopyBy d g c cause (cause.val != 7 || portDie p == d) else s
  | .setCopy g c st cause =>
    if st = .failed then s.failCopy d g c cause
    else if (s.mir d g).valid then
      let s := s.putMir d g ((s.mir d g).setSt c st)
      if st = .healthy then s.putMir d g { s.mir d g with lost := false } else s
    else s

/-- A die sends a copy-state message: it applies it itself and sends it to every other die that a path still joins (R284,
R380). -/
def State.sendCopyMsg (s : State) (d : Nat) (m : CopyMsg) : State :=
  s.forEach s.dies fun s k =>
    if k = d then s.applyCopyMsg d m else if s.reaches d k then s.emit (.copyState k m) else s

/-- A poisoned read of copy `c`: its count, and cause 6 when poison_fail of them fall within 1 ms (R279, Table 9.3). While the other copy
is not Healthy it fails no copy. -/
def State.countPoison (s : State) (d g c : Nat) : State :=
  let x := s.mir d g
  let t := s.now d
  let recent := ((if c = 0 then x.recentA else x.recentB).filter fun u => decide (t ≤ u + 1000 * usCycles)) ++ [t]
  let x := if c = 0 then { x with poisA := min (x.poisA + 1) 0xFFFF, recentA := recent }
    else { x with poisB := min (x.poisB + 1) 0xFFFF, recentB := recent }
  let s := s.putMir d g x
  let n := s.rd F.MR_CTRL_poison_fail (dieL d)
  if n ≠ 0 ∧ n ≤ recent.length ∧ x.st (1 - c) = .healthy then
    s.sendCopyMsg d (.setCopy (Fin.ofNat 4096 g) (Fin.ofNat 2 c) .failed 6)
  else s

/-! ## Resilver (R286, R287) -/

/-- Forecast of the slot of a port (Table 14's SP_STATUS). -/
def State.forecastOf (s : State) (p : Nat) : Bool := s.flag F.SP_STATUS_forecast (portL p)

/-- May a resilver of copy `c` of group `g` start on die `d` (R286)? -/
def State.resilverOk (s : State) (d g c : Nat) : Bool :=
  let x := s.mir d g
  let p := (grpCopy (s.grp d g) c).1
  x.valid && x.st c == .failed && x.st (1 - c) == .healthy && s.portUp p && !s.forecastOf p
    && (s.mrd d).resilver.isNone
    && s.domUsable d (engDom (match Tbl.get s.staged (fkey F.MR_CTRL_engine (dieL d)) with
      | some v => v | none => s.rd F.MR_CTRL_engine (dieL d)))

/-- Start a resilver, or refuse it (R286, R287 step 1). The Staged fields of MR_CTRL take effect at its start (R299). -/
def State.startResilver (s : State) (d g c : Nat) : State :=
  let l := dieL d
  if s.resilverOk d g c then
    let s := s.commitReg .MR_CTRL l
    let s := s.updMr d fun m => { m with resilver := some { grp := g, copy := c, acks := [d] } }
    let s := ((s.on F.MR_RESILVER_active l).wr F.MR_RESILVER_copy l c).wr F.MR_RESILVER_index l g
    let s := s.putMir d g { s.mir d g with cursor := 0 }
    s.sendCopyMsg d (.setCopy (Fin.ofNat 4096 g) (Fin.ofNat 2 c) .resilvering 0)
  else s.ev F.MR_EVENT_copy_refused l g

/-- Blocks of 4 KiB in a range (R287). -/
def Mir.blocks (x : Mir) : Nat := 65536 * x.size

/-- May the next block of a resilver start (R287 step 2)? Every die has acknowledged, blk_gap does not run, a block is left, and fewer
than eight are in flight. -/
def State.blockMay (s : State) (d : Nat) : Bool :=
  match (s.mrd d).resilver with
  | none => false
  | some r => r.copying && !r.gap && decide ((s.mir d r.grp).cursor < (s.mir d r.grp).blocks)
      && decide (s.rd F.MR_RESILVER_in_flight (dieL d) < 8)

/-- Start the next block of a resilver: a guarded rewrite of its 64 lines (R287 step 2). -/
def State.startBlock (s : State) (d : Nat) : State :=
  match (s.mrd d).resilver with
  | none => s
  | some r =>
    let x := s.mir d r.grp
    if !s.blockMay d then s
    else
      let a := x.aBase * unitLines + x.cursor * 64
      let lines := (upTo 64).map (a + ·)
      let id := (Tbl.free (s.mrd d).rewrites 1024).getD 0
      let gap := s.rd F.MR_CTRL_blk_gap (dieL d) != 0
      let w : Rewrite := { grp := r.grp, copy := r.copy, lines := lines, resilver := true, left := lines }
      let s := s.updMr d fun m =>
        { m with rewrites := Tbl.put m.rewrites id w, resilver := some { r with gap := gap } }
      let s := s.putMir d r.grp { x with cursor := x.cursor + 1 }
      let s := s.wr F.MR_RESILVER_in_flight (dieL d) (s.rd F.MR_RESILVER_in_flight (dieL d) + 1)
      s.askGuard d w

/-- Start blocks until eight are in flight, the range ends or blk_gap runs (R287). -/
def State.startBlocks (s : State) (d : Nat) : State := s.forEach (upTo 8) fun s _ => s.startBlock d

/-- The next line of a resilver block is read from copy Y by an engine (R287, R322). -/
def State.readLine (s : State) (d e i : Nat) : Bool × State :=
  match Tbl.get (s.mrd d).rewrites i with
  | none => (false, s)
  | some r =>
    match r.toRead with
    | [] => (false, s)
    | a :: rest =>
      let s := s.updMr d fun m => { m with rewrites := Tbl.put m.rewrites i { r with toRead := rest, back := r.back ++ [a] } }
      (true, (s.lineSent d e).emit (.mirrorRead (portDie (grpCopy (s.grp d r.grp) (1 - r.copy)).1) r.grp (1 - r.copy) [a]))

/-- A line that a resilver block read has come back, as its rewrite: the engine's line is free. -/
def State.lineCame (s : State) (d grp copy aline : Nat) : State :=
  match s.rewriteOf d grp copy aline with
  | none => s
  | some (i, r) =>
    if r.back.contains aline then
      (s.updMr d fun m => { m with rewrites := Tbl.put m.rewrites i { r with back := r.back.erase aline } }).linesBack d
        (s.rd F.MR_CTRL_engine (dieL d)) 1
    else s

/-- A copy's port reaches Up with Forecast clear: auto_resilver starts a resilver on the port's die (R284, R286). -/
def State.autoResilver (s : State) (p : Nat) : State :=
  let d := portDie p
  if s.forecastOf p then s
  else s.forEach ((s.mrd d).entries.map Prod.fst) fun s g =>
    s.forEach [0, 1] fun s c =>
      let x := s.mir d g
      if x.valid ∧ x.autoResilver ∧ x.st c = .failed ∧ (grpCopy (s.grp d g) c).1 = p then s.startResilver d g c else s

end Sys2Proof.Machine
end

