-- ==== Sys2Proof/Machine/OverlayOps.lean ====
section
/-! DEFINITION. The overlay unit's operations (R289 to R297): the lookup and its routes (Table 9.5), dual writes under
overlay tags, the line copies of a migration, its switch, its abort and its drain. -/

namespace Sys2Proof.Machine

/-- The overlay unit of a die. -/
def State.ovd (s : State) (d : Nat) : OvDie := Tbl.getD s.ov d {}
/-- Change the overlay unit of a die. -/
def State.updOv (s : State) (d : Nat) (f : OvDie → OvDie) : State := { s with ov := Tbl.mod s.ov d {} f }
/-- A migration slot of a die. -/
def State.mig (s : State) (d sl : Nat) : Option MigSlot := Tbl.get (s.ovd d).slots sl
/-- Put a migration slot. -/
def State.putMig (s : State) (d sl : Nat) (m : MigSlot) : State :=
  s.updOv d fun o => { o with slots := Tbl.put o.slots sl m }

/-- The set of a key (R289). -/
def ovSet (quad ld page : Nat) : Nat := (page % 4096) ^^^ (quad * 256 + ld * 16)

/-- The index of the entry of a key, if it has one. -/
def State.ovFind (s : State) (d quad ld page : Nat) : Option Nat :=
  ((upTo 16).map (ovSet quad ld page * 16 + ·)).find? fun i =>
    match Tbl.get (s.ovd d).entries i with
    | some e => e.quad == quad && e.ld == ld && e.page == page
    | none => false

/-- The index of a free way in the set of a key. -/
def State.ovFreeWay (s : State) (d quad ld page : Nat) : Option Nat :=
  ((upTo 16).map (ovSet quad ld page * 16 + ·)).find? fun i => (Tbl.get (s.ovd d).entries i).isNone

/-- Show the entries and slots in use (Table 9.11). -/
def State.showOv (s : State) (d : Nat) : State :=
  let s := s.wr F.OV_STATUS_entries (dieL d) (s.ovd d).entries.length
  s.wr F.OV_STATUS_slots_used (dieL d) (s.ovd d).slots.length

/-- Does a request write memory (Table 9.5)? -/
def writesMem (k : MKind) : Bool :=
  match k with
  | .memWr | .memWrPtl | .ioMemWr => true
  | _ => false

/-- Is a request addressed to memory (R289)? -/
def toMemory (k : MKind) : Bool :=
  match k with
  | .memRd | .memRdData | .memInv | .memInvNT | .memSpecRd | .memClnEvct | .memWr | .memWrPtl | .ioMemRd | .ioMemWr => true
  | _ => false

/-- pending[k] (R292). -/
def MigSlot.pending (m : MigSlot) (k : Nat) : Nat := (m.pend.filter fun w => w.1 == k).length

/-- A line is being copied. -/
def MigSlot.busy (m : MigSlot) (k : Nat) : Bool := m.reading.contains k || m.writing.contains k

/-- Two free overlay tags, for the copies of a dual write (R293). -/
def State.freeTags (s : State) (d : Nat) : Option (Nat × Nat) :=
  let ts := (s.ovd d).tags
  (Tbl.free ts 1024).bind fun t => ((upTo 1024).find? fun u => u != t && (Tbl.get ts u).isNone).map fun u => (t, u)

/-- The tag of a dual write that gives no NDR and takes no tag: a posted write of TC0. -/
def noTag : Nat := 1024

/-- The overlay lookup of a message on its home die (R290, Table 9.5). Answers its route, or none when the message waits.
DESIGN CHOICE (log entry 136): a posted write of TC0, which no answer ends, takes no overlay tag and counts neither in pending[k]
nor among the messages at the old location. -/
def State.ovLookup (s : State) (d : Nat) (e : QEnt) : Option OvTo × State :=
  let m := e.msg
  let k := m.addr % 64
  match s.ovFind d (portQuad m.dst) m.ld (m.addr / 64) with
  | none => (some .key, s)
  | some i =>
    match Tbl.get (s.ovd d).entries i with
    | none => (some .key, s)
    | some en =>
      match en.copying with
      | none => (some (.cur en.cur), s)
      | some (new, sl) =>
        match s.mig d sl with
        | none => (some (.cur en.cur), s)
        | some g =>
          let id := (m.trkDie, m.trk)
          if !writesMem m.kind then (some (.cur en.cur), s.putMig d sl { g with atOld := g.atOld ++ [id] })
          else if g.copied.contains k ∧ !tracked m then
            (some (.dual en.cur new noTag noTag), (s.inc F.OV_CNT_MISC_dual_writes (dieL d)).pm d 0x8001 0 1)
          else if g.copied.contains k then
            match s.freeTags d with
            | none => (none, s.updOv d fun o => { o with tagWait := o.tagWait ++ [e] })
            | some (t, u) =>
              let tag (toNew : Bool) (mate : Nat) : OvTag :=
                { trkDie := m.trkDie, trk := m.trk, copy := m.copy, slot := sl, new := toNew, mate := some mate }
              let s := s.updOv d fun o => { o with tags := Tbl.put (Tbl.put o.tags t (tag false u)) u (tag true t) }
              (some (.dual en.cur new t u), (s.inc F.OV_CNT_MISC_dual_writes (dieL d)).pm d 0x8001 0 1)
          else if g.busy k then
            (none, (s.putMig d sl { g with wait := g.wait ++ [e] }).inc F.OV_CNT_MISC_write_waits (dieL d))
          else if !tracked m then (some (.cur en.cur), s)
          else if 15 ≤ g.pending k then (none, s.putMig d sl { g with wait := g.wait ++ [e] })
          else (some (.cur en.cur), s.putMig d sl { g with pend := g.pend ++ [(k, id)], atOld := g.atOld ++ [id] })

/-- A message rewritten for a page location; no further lookup is made for it (R29, R290). -/
def redirect (m : Msg) (p : Place) : Msg :=
  { m with dst := p.port, ld := p.ld, addr := p.page * 64 + m.addr % 64, noLook := true, via := none }

/-- Send a message on by its overlay route; a write that is no rewrite itself sets the hit bit of a guarded line (R280). A dual
write sends one copy to each location, each under its own tag (R293). -/
def State.ovSend (s : State) (d : Nat) (e : QEnt) (o : OvTo) : State :=
  let s := if writesMem e.msg.kind && !e.msg.rewrite then s.markHit d e.msg else s
  match o with
  | .key => s.route d e.input e.mid { e.msg with via := none }
  | .cur p => ((s.pm d 0x8000 0 1).updTrkOf e.msg fun x => { x with redirected := true }).route d e.input e.mid (redirect e.msg p)
  | .dual c n tagC tagN =>
    let s := (s.addCopy d e.mid).pm d 0x8000 0 1
    let s := s.updTrkOf e.msg fun x => { x with redirected := true }
    let under (p : Place) (tag : Nat) : Msg :=
      if tag = noTag then redirect e.msg p else { redirect e.msg p with trkDie := d, trk := tag, ovTag := true }
    (s.route d e.input e.mid (under c tagC)).route d e.input e.mid (under n tagN)

/-- A dual write both of whose copies were dropped is itself dropped (R293); in a mirrored range its copy fails (Table 9.3, cause 4;
R297). -/
def State.dualLost (s : State) (d : Nat) (t : OvTag) : State :=
  let s := match (s.trk t.trkDie t.trk).bind Trk.mirror with
    | some g => if s.lateCopy t.trkDie t.trk t.copy then s else s.push (.copyFailIdx d g t.copy 4)
    | none => s
  s.push (.copyResolved t.trkDie t.trk t.copy false)

/-- A copy of a dual write ended, with its NDR or by being dropped (R293): its overlay tag is free. With both ended, one NDR goes on under
the tracker entry. -/
def State.dualEnd (s : State) (d tag : Nat) (ndr : Bool) : State :=
  match Tbl.get (s.ovd d).tags tag with
  | none => s
  | some t =>
    let s := s.updOv d fun o => { o with tags := Tbl.del o.tags tag }
    let s := match t.mate with
      | some u => s.updOv d fun o => match Tbl.get o.tags u with
          | some y => { o with tags := Tbl.put o.tags u { y with mate := none, ndr := ndr } }
          | none => o
      | none =>
        if ndr || t.ndr then
          (s.noteDone t.trkDie t.trk).push (.resp d (made { tc := 6, kind := .ndr, trkDie := t.trkDie, trk := t.trk, copy := t.copy }))
        else s.dualLost d t
    s.push (.tagServe d)

/-- Dual writes that waited for a tag are looked up again, in order (R293). -/
def State.tagServe (s : State) (d : Nat) : State :=
  let w := (s.ovd d).tagWait
  let s := s.updOv d fun o => { o with tagWait := [] }
  s.forEach w fun s e => s.push (.home d e.input e.mid e.msg)

/-- The request of a line copy's read or write, under a tracker entry of the home die, from its data movers (R292). -/
def State.migRequest (s : State) (d t sl k : Nat) (tc : Nat) (kind : MKind) (p : Place) (data : List Nat) (poison : Bool) :
    State × Msg :=
  let x : Trk := { src := 0x80 + d, ptag := sl * 64 + k, tc := tc, kind := kind, port := p.port, ld := p.ld,
                   addr := p.page * 64 + k, time := s.now d }
  let m : Msg := made
   { tc := tc, kind := kind, dst := p.port, src := 0x80 + d, cells := data.length, poison := poison, trkDie := d, trk := t,
     ld := p.ld, addr := p.page * 64 + k, mv := .noOp, ptag := sl * 64 + k, data := data }
  (s.putTrk d t { x with opcode := m.opcode }, m)

/-- May the copy of the next line start (R292)? Fewer than mig_window lines are in flight, and no write to it is pending. -/
def State.lineReady (s : State) (d : Nat) (g : MigSlot) : Bool :=
  !g.draining && decide (g.started < 64) && decide ((g.reading ++ g.writing).length < s.rd F.OV_CTRL_mig_window (dieL d))
    && g.pending g.started == 0

/-- Start the copy of a slot's next line, where it may: its read uses the key address, and is a line request of the slot's engine
(R292, R322). -/
def State.startLine (s : State) (d sl : Nat) : Bool × State :=
  match s.mig d sl with
  | none => (false, s)
  | some g =>
    let k := g.started
    if !s.lineReady d g then (false, s)
    else
      match s.freeTrk d with
      | none => (false, s)
      | some t =>
        let (s, m) := s.migRequest d t sl k 3 .memRd ⟨portNo d g.quad, g.ld, g.page⟩ [] false
        let s := s.putMig d sl { g with started := k + 1, reading := g.reading ++ [k] }
        (true, (s.lineSent d g.eng).push (.home d 30 none m))

/-- The copy read of a line came back (R292): its data waits for its write, and the engine's line is free. -/
def State.lineRead (s : State) (d sl k : Nat) (poison : Bool) (data : List Nat) : State :=
  match s.mig d sl with
  | none => s
  | some g =>
    if !g.reading.contains k || g.came.any fun c => c.1 == k then s
    else
      let s := s.linesBack d g.eng 1
      let s := if poison then s.ev F.OV_EVENT_poison_copied (dieL d) g.index else s
      if g.draining then s.putMig d sl { g with reading := g.reading.erase k }
      else s.putMig d sl { g with came := g.came ++ [(k, poison, data)] }

/-- The write of the first line that has been read goes to the destination, with no lookup there (R290), under a free tracker entry: a
line request of the slot's engine. -/
def State.writeLine (s : State) (d sl : Nat) : Bool × State :=
  match s.mig d sl with
  | none => (false, s)
  | some g =>
    match g.came, s.freeTrk d with
    | (k, poison, data) :: r, some t =>
      let (s, m) := s.migRequest d t sl k 4 .memWr g.new data poison
      let s := s.putMig d sl { g with reading := g.reading.erase k, came := r, writing := g.writing ++ [k] }
      (true, (s.lineSent d g.eng).route d 30 none { m with noLook := true })
    | _, _ => (false, s)

/-- The slot's waiting writes are looked up again, in arrival order. -/
def State.migWake (s : State) (d sl : Nat) (p : QEnt → Bool) : State :=
  match s.mig d sl with
  | none => s
  | some g =>
    let s := s.putMig d sl { g with wait := g.wait.filter fun e => !p e }
    s.forEach (g.wait.filter p) fun s e => s.push (.home d e.input e.mid e.msg)

/-- The entry switches to the destination (R294): cur becomes N and moves rises, or the entry goes when N is its key. -/
def State.migSwitch (s : State) (d sl : Nat) : State :=
  match s.mig d sl with
  | none => s
  | some g =>
    let key : Place := ⟨portNo d g.quad, g.ld, g.page⟩
    let s := s.updOv d fun o =>
      match Tbl.get o.entries g.index with
      | none => o
      | some en =>
        if g.new = key then { o with entries := Tbl.del o.entries g.index }
        else { o with entries := Tbl.put o.entries g.index
                        { en with cur := g.new, copying := none, moves := min (en.moves + 1) 0xFFFF } }
    let s := (s.putMig d sl { g with draining := true }).on F.OV_SLOT_s_draining (idxL d 0 sl)
    s.showOv d

/-- A line's write NDR returned: the line is copied, waiting writes go on as dual writes, and with all lines copied the
entry switches (R292, R294, R296). -/
def State.lineDone (s : State) (d sl k : Nat) : State :=
  match s.mig d sl with
  | none => s
  | some g =>
    if !g.writing.contains k then s
    else if g.draining then (s.putMig d sl { g with writing := g.writing.erase k }).linesBack d g.eng 1
    else
      let s := s.linesBack d g.eng 1
      let g := { g with writing := g.writing.erase k, copied := g.copied ++ [k] }
      let s := (s.putMig d sl g).wr F.OV_SLOT_s_copied (idxL d 0 sl) g.copied.length
      let s := s.migWake d sl fun e => e.msg.addr % 64 == k
      if g.copied.length = 64 then s.migSwitch d sl else s

/-- Pending writes of a slot have fallen: its waiting writes go on, ahead of the next copy (Table 9.6, first row). -/
def State.migServe (s : State) (d sl : Nat) : State :=
  match s.mig d sl with
  | none => s
  | some g => s.migWake d sl fun e => !g.busy (e.msg.addr % 64)

/-- A migration aborts (R295): the entry is Moved again with cur unchanged, or goes when cur is its key; waiting writes go to
cur; lines read and not yet written are given up; the slot drains. -/
def State.migAbort (s : State) (d sl : Nat) : State :=
  match s.mig d sl with
  | none => s
  | some g =>
    if g.draining then s
    else
      let key : Place := ⟨portNo d g.quad, g.ld, g.page⟩
      let s := s.updOv d fun o =>
        match Tbl.get o.entries g.index with
        | none => o
        | some en =>
          if en.cur = key then { o with entries := Tbl.del o.entries g.index }
          else { o with entries := Tbl.put o.entries g.index { en with copying := none } }
      let read := g.came.map Prod.fst
      let s := (s.putMig d sl { g with draining := true, abort := true, came := [], reading := g.reading.filter fun k => !read.contains k }).on F.OV_SLOT_s_draining (idxL d 0 sl)
      (s.migWake d sl fun _ => true).showOv d

/-- Everything sent to the old location has completed: the slot is freed and shows done or aborted (R294, R295). -/
def State.migDrained (s : State) (d sl : Nat) : State :=
  match s.mig d sl with
  | none => s
  | some g =>
    if !g.draining || !g.atOld.isEmpty || !(g.reading ++ g.writing).isEmpty || (s.ovd d).tags.any fun t => t.2.slot == sl then s
    else
      let l := idxL d 0 sl
      let s := s.updOv d fun o => { o with slots := Tbl.del o.slots sl }
      let s := ((s.off F.OV_SLOT_s_active l).off F.OV_SLOT_s_draining l).showOv d
      let s := if g.abort then
          ((s.on F.OV_SLOT_s_aborted l).inc F.OV_CNT_MIG_aborted (dieL d)).ev F.OV_EVENT_mig_aborted (dieL d) g.index
        else ((s.on F.OV_SLOT_s_done l).inc F.OV_CNT_MIG_done (dieL d)).ev F.OV_EVENT_mig_done (dieL d) g.index
      match g.reply with
      | some (die, eng) => s.emit (.migReply die eng (if g.abort then 4 else 0))
      | none => s

/-- Migrations with either location at a port that left Up without holding, was fenced or was flushed abort (R295). -/
def State.migPortAbort (s : State) (p : Nat) : State :=
  s.forEach s.dies fun s d =>
    s.forEach (s.ovd d).slots fun s im =>
      if im.2.cur.port = p ∨ im.2.new.port = p then s.migAbort d im.1 else s

/-! ## Starting a migration (R291) -/

/-- The engine that the next migration uses: a Staged value takes effect at its start (R299). -/
def State.ovEngine (s : State) (d : Nat) : Nat :=
  (Tbl.get s.staged (fkey F.OV_CTRL_engine (dieL d))).getD (s.rd F.OV_CTRL_engine (dieL d))

/-- The result code of a start (Table 9.10), 0 when it is accepted, for the key (quad, ld, page) of die `d` and destination `n`. -/
def State.ovCheck (s : State) (d quad ld page : Nat) (n : Place) : Nat :=
  let kp := portNo d quad
  let cur : Option Place × Bool := match (s.ovFind d quad ld page).bind (Tbl.get (s.ovd d).entries) with
    | none => (some ⟨kp, ld, page⟩, false)
    | some e => (if e.copying.isSome then none else some e.cur, true)
  let conflict : Bool :=
    (portDie n.port == d && n != ⟨kp, ld, page⟩ && (s.ovFind d (portQuad n.port) n.ld n.page).isSome)
      || (s.ovd d).slots.any fun m => !m.2.draining && m.2.new == n
  if !s.domOn d 16 ∨ !s.domUsable d (engDom (s.ovEngine d)) ∨ !s.isSlot kp ∨ !s.isSlot n.port ∨ !s.portUp n.port then 6
  else match cur.1 with
    | none => 4
    | some c =>
      if n = c then 7
      else if (Tbl.free (s.ovd d).slots 64).isNone then 3
      else if !cur.2 ∧ (s.ovFreeWay d quad ld page).isNone then 2
      else if conflict then 5 else 0

/-- A tracked request of die `h` goes to a page by its key: to its decoded place, or as copy B of a mirrored range (R271). -/
def State.goesTo (s : State) (h : Nat) (x : Trk) (p ld page : Nat) : Bool :=
  (x.port == p && x.ld == ld && x.addr / 64 == page)
    || match x.mirror with
      | some g => grpCopy (s.grp h g) 1 == (p, ld) && (s.mir h g).lineOf 1 x.addr / 64 == page
      | none => false

/-- An accepted start (R291): the entry becomes Copying in one step, and its lines are work for the engine. Requests already outstanding to the
page count as sent to the old location (DEDUCED, log entry 41). -/
def State.ovBegin (s : State) (d quad ld page : Nat) (n : Place) (reply : Option (Nat × Nat)) : State :=
  let s := s.commitReg .OV_CTRL (dieL d)
  let kp := portNo d quad
  let i := ((s.ovFind d quad ld page).orElse fun _ => s.ovFreeWay d quad ld page).getD 0
  let sl := (Tbl.free (s.ovd d).slots 64).getD 0
  let e : OvE := (Tbl.get (s.ovd d).entries i).getD { quad := quad, ld := ld, page := page, cur := ⟨kp, ld, page⟩ }
  let old := (List.filter (fun x : Nat × Trk => s.goesTo (x.1 / trkCap) x.2 kp ld page) s.trks).map
    fun x => (x.1 / trkCap, x.1 % trkCap)
  let g : MigSlot := { index := i, quad := quad, ld := ld, page := page, cur := e.cur, new := n, atOld := old, reply := reply,
                       eng := s.rd F.OV_CTRL_engine (dieL d) }
  let s := (s.mend d 2 i).updOv d fun o =>
    { o with entries := Tbl.put o.entries i { e with copying := some (n, sl) }, slots := Tbl.put o.slots sl g }
  let l := idxL d 0 sl
  let s := (((s.on F.OV_SLOT_s_active l).off F.OV_SLOT_s_draining l).off F.OV_SLOT_s_done l).off F.OV_SLOT_s_aborted l
  let s := (s.off F.OV_SLOT_s_copied l).wr F.OV_SLOT_s_index l i
  s.showOv d

/-! ## Guarded rewrites at their home die (R280) -/

/-- The copy A line of a group's line on copy `copy` (R271). -/
def Mir.lineA (x : Mir) (copy xline : Nat) : Nat :=
  if copy = 0 then xline else xline - x.bBase * unitLines + x.aBase * unitLines

/-- One line of a rewrite is done at its choosing die; a repair whose lines are all done ends and the next one starts (R281). -/
def State.rewriteEnded (s : State) (ch grp copy xline : Nat) : State :=
  let aline := (s.mir ch grp).lineA copy xline
  match s.rewriteOf ch grp copy aline with
  | none => s
  | some (i, r) =>
    let r := { r with left := r.left.erase aline }
    let s := if r.resilver then s.pm ch 0x7003 grp 1 else s
    if !r.left.isEmpty ∨ r.resilver then s.updMr ch fun m => { m with rewrites := Tbl.put m.rewrites i r }
    else
      let s := s.updMr ch fun m => { m with rewrites := Tbl.del m.rewrites i, repairQ := m.repairQ.drop 1 }
      (s.wr F.MR_STATUS_repair_q (dieL ch) (s.mrd ch).repairQ.length).startRepair ch

/-- The rewrite of one line reaches X's home die (R280 steps 4 and 5): forwarded towards X, by the overlay, when its hit bit is
clear, else discarded; with the last one the guard is released. One that is to be forwarded waits for a free tracker entry. -/
def State.rewriteLine (s : State) (d ch grp copy line : Nat) (poison : Bool) (data : Nat) : State :=
  let s := s.lineCame ch grp copy ((s.mir ch grp).lineA copy line)
  match (s.mrd d).guards.find? fun g =>
      g.2.chooser == ch && g.2.grp == grp && g.2.copy == copy && g.2.left.contains line with
  | none => s
  | some (i, g) =>
    let hit := g.hits.contains line
    match if hit then some 0 else s.freeTrk d with
    | none => s.updMr d fun m => { m with waiting := m.waiting ++ [(ch, grp, copy, line, poison, data)] }
    | some t =>
      let s := if hit then s.inc F.MR_CNT_MISC_rewrites_discarded (dieL d)
        else
          let m : Msg := made
           { tc := 4, kind := .memWr, dst := g.port, src := 0x88 + d, cells := 1, poison := poison, trkDie := d,
             trk := t, ld := g.ld, addr := line, mv := .noOp, data := [data], rewrite := true, placed := true }
          let s := s.putTrk d t { src := 0x88 + d, ptag := 0, tc := 4, kind := .memWr, opcode := m.opcode, port := g.port,
                                  ld := g.ld, addr := line, time := s.now d }
          let e : QEnt := ⟨none, 31, g.port, m, false⟩
          let s := s.inc F.MR_CNT_REPAIR_rewrites_done (dieL d)
          match s.ovLookup d e with
          | (some goal, s) => s.ovSend d e goal
          | (none, s) => s
      let left := g.left.erase line
      let s := if left.isEmpty then (s.putGuards d fun t => Tbl.del t i).serveArm d
        else s.putGuards d fun t => Tbl.put t i { g with left := left }
      (s.emit (.rewriteDone ch grp copy line)).rewriteEnded ch grp copy line

/-- Rewrites that waited for a tracker entry of a die try again (R33). -/
def State.rewritesAgain (s : State) (d : Nat) : State :=
  (s.updMr d fun m => { m with waiting := [] }).forEach (s.mrd d).waiting fun s w =>
    s.rewriteLine d w.1 w.2.1 w.2.2.1 w.2.2.2.1 w.2.2.2.2.1 w.2.2.2.2.2

end Sys2Proof.Machine
end

