-- ==== Sys2Proof/Machine/SchedOps.lean ====
section
/-! DEFINITION. Shapers, the timing wheel, policers and the arbitration of an output (chapter 10). -/

namespace Sys2Proof.Machine

/-! ## Shapers -/

/-- Shapers of one die (chapter 10). -/
def shpCap : Nat := 1024
/-- A shaper entry. -/
def State.shp (s : State) (d i : Nat) : Shaper := Tbl.getD s.shps (d * shpCap + i) {}
/-- Put a shaper entry. -/
def State.putShp (s : State) (d i : Nat) (x : Shaper) : State := { s with shps := Tbl.set s.shps (d * shpCap + i) x {} }
/-- The shapers of a die for which `p` holds, lowest first, among those ever written. -/
def State.shpsWith (s : State) (d : Nat) (p : Shaper → Bool) : List Nat :=
  (List.filter (fun e => e.1 / shpCap == d && p e.2) s.shps).map fun e => e.1 % shpCap

/-- Fields of a shaper entry (Table 10.9). -/
def Shaper.en (x : Shaper) : Bool := bitOf x.w0 31
def Shaper.kind (x : Shaper) : Nat := bitsOf x.w0 30 29
def Shaper.mode (x : Shaper) : Nat := bitsOf x.w0 28 27
def Shaper.quad (x : Shaper) : Nat := bitsOf x.w0 26 23
def Shaper.tc (x : Shaper) : Nat := bitsOf x.w0 22 19
def Shaper.queue (x : Shaper) : Nat := bitsOf x.w0 26 16
def Shaper.ovh (x : Shaper) : Nat := bitsOf x.w0 15 8
def Shaper.rate (x : Shaper) : Nat := bitsOf x.w1 22 0
def Shaper.owned (x : Shaper) : Bool := bitOf x.w2 31
def Shaper.owner (x : Shaper) : Nat := bitsOf x.w2 30 22
def Shaper.burst (x : Shaper) : Nat := bitsOf x.w2 15 0
/-- The bits that name its kind and target. -/
def Shaper.target (x : Shaper) : Nat × Nat × Nat :=
  if x.kind = 2 then (2, x.queue, 0) else (x.kind, x.quad, x.tc)

/-- The full bucket, in the units of `tok`. -/
def Shaper.full (x : Shaper) : Int := (65536 * (x.burst * 64) : Nat)

/-- Bring the token count up to date (R305). A disabled shaper accrues nothing (R313). -/
def Shaper.upTo (x : Shaper) (now : Nat) : Shaper :=
  if x.en then { x with tok := min x.full (x.tok + (x.rate * (now - x.last) : Nat)), last := now } else { x with last := now }

/-- Whether it lets its target proceed. -/
def Shaper.runs (x : Shaper) : Bool := !x.en || decide (0 ≤ x.tok)

/-- Put a shaper whose tokens are below 0 on the wheel, or take it off (R311, R312). -/
def Shaper.place (x : Shaper) (now slot : Nat) : Shaper :=
  if x.runs then { x with wheel := none }
  else
    let need := ((-x.tok).toNat + x.rate - 1) / max x.rate 1
    let ahead := (need + now % 32 + 31) / 32
    { x with wheel := some ((slot + ahead) % 4096, (ahead - 1) / 4096) }

/-- What a message costs (Table 10.2). -/
def Shaper.cost (x : Shaper) (m : Msg) : Nat :=
  match x.mode with
  | 0 => (if m.tc = 3 ∧ readsData m.kind then 64 else if m.tc = 1 ∧ m.cells ≤ 1 then m.len else 64 * m.cells - (if m.ext then 64 else 0)) + x.ovh
  | 1 => 64 * m.size
  | _ => 64

/-- Charge a shaper for a message (R305, R311). -/
def State.charge (s : State) (d i : Nat) (m : Msg) : State :=
  let now := s.now d
  let x := (s.shp d i).upTo now
  let c := x.cost m
  let y := { x with tok := x.tok - (65536 * c : Nat) }
  let y := if x.runs ∧ !y.runs then y.place now (s.rd F.SC_STATUS_wheel_slot (dieL d)) else y
  (s.putShp d i y).pm d 0x4000 i c

/-- The enabled shaper of a target, if any (R307: at most one). -/
def State.shaperOf (s : State) (d : Nat) (target : Nat × Nat × Nat) : Option Nat :=
  (s.shpsWith d fun x => x.en && x.target == target).head?

/-- Show how many shapers are enabled (Table 10.7). -/
def State.showShps (s : State) (d : Nat) : State :=
  s.wr F.SC_STATUS_shapers_en (dieL d) (s.shpsWith d Shaper.en).length

/-- Word 3 of a shaper entry (Table 10.9). -/
def Shaper.word3 (x : Shaper) : Nat :=
  2 ^ 31 * b2n (x.wheel.isSome && !x.runs) + (x.tok / 65536 % 2 ^ 25).toNat

/-- The stored form of a rate and a burst (Table 10.9). -/
def storedRate (r : Nat) : Nat := if r = 0 then 1 else min r 4194304
def storedBurst (b : Nat) : Nat := if b = 0 then 1 else b

/-- The words of a write as an entry, keeping owned and owner (R315); reserved bits are 0 (Table 10.9). -/
def Shaper.written (x : Shaper) (w : ShpWrite) : Shaper :=
  { x with w0 := if bitsOf w.w0 30 29 = 2 then 2 ^ 8 * bitsOf w.w0 31 8
                 else 2 ^ 19 * bitsOf w.w0 31 19 + 2 ^ 8 * bitsOf w.w0 15 8
           w1 := storedRate (bitsOf w.w1 22 0),
           w2 := 2 ^ 22 * bitsOf x.w2 31 22 + storedBurst (bitsOf w.w2 15 0) }

/-- Is a class allowed for a shaper's kind (Table 10.3)? -/
def classOk (kind tc : Nat) : Bool :=
  if kind = 0 then [0, 3, 4, 6, 7, 8, 9, 10].contains tc else if kind = 1 then [0, 1, 3, 4, 9, 10].contains tc else true

/-- Is a write to shaper `i` accepted (R307, R312)? `mediated` marks the Pantry's own path (R315). -/
def State.shpOk (s : State) (d : Nat) (w : ShpWrite) (mediated : Bool) : Bool :=
  let x := s.shp d w.index
  let y := x.written w
  (mediated || !x.owned) && y.kind != 3 && y.mode != 3 && classOk y.kind y.tc
    && (y.kind == 2 || s.role (portNo d y.quad) != 3)
    && (!y.en || ((match s.shaperOf d y.target with
        | none => true
        | some j => j == w.index)
      && !s.shpWrites.any fun e => e.1 / shpCap == d && e.2.index != w.index
          && ((s.shp d e.2.index).written e.2).en && ((s.shp d e.2.index).written e.2).target == y.target))
    && (!x.en || x.target == y.target)

/-- A shaper of a Frozen instance accrues nothing (R358). -/
def State.shpFrozen (s : State) (d : Nat) (x : Shaper) : Bool :=
  x.owned && (Tbl.getD s.insts (key2 d x.owner) {}).state == 4

/-- A shaper write takes effect (R312, R313). -/
def State.shpWrite (s : State) (d : Nat) (w : ShpWrite) : State :=
  let now := s.now d
  let x := s.shp d w.index
  let x := if s.shpFrozen d x then { x with last := now } else x.upTo now
  let y := x.written w
  let y := if !y.en then { y with wheel := none }
    else
      let y := match w.tokReset with
        | 1 => { y with tok := y.full }
        | 2 => { y with tok := 0 }
        | _ => { y with tok := min y.tok y.full }
      if s.shpFrozen d x then y else y.place now (s.rd F.SC_STATUS_wheel_slot (dieL d))
  let free := s.rd F.PN_FREE_shapers_free (dieL d)
  let s := if x.owned ∨ x.en = y.en then s
    else s.wr F.PN_FREE_shapers_free (dieL d) (if y.en then free - 1 else free + 1)
  ((s.mend d 4 w.index).putShp d w.index { y with last := now }).showShps d

/-- Serve one shaper of the wheel's slot (R311). -/
def State.serveShp (s : State) (d i : Nat) : State :=
  let x := s.shp d i
  match x.wheel with
  | some (slot, laps + 1) => s.putShp d i { x with wheel := some (slot, laps) }
  | some (_, 0) => s.putShp d i ((x.upTo (s.now d)).place (s.now d) (s.rd F.SC_STATUS_wheel_slot (dieL d)))
  | none => s

/-- The wheel moves to its next slot and serves at most 32 shapers of it (R311). -/
def State.wheelSlot (s : State) (d : Nat) : State :=
  let l := dieL d
  let s := s.wr F.SC_STATUS_wheel_slot l (s.rd F.SC_STATUS_wheel_slot l + 1)
  let slot := s.rd F.SC_STATUS_wheel_slot l
  let due := s.shpsWith d fun x => match x.wheel with
    | some w => w.1 == slot
    | none => false
  let s := s.forEach (due.take 32) fun s i => s.serveShp d i
  s.forEach (due.drop 32) fun s i =>
    let x := s.shp d i
    let s := s.putShp d i { x with wheel := x.wheel.map fun w => ((slot + 1) % 4096, w.2) }
    (s.inc F.SC_CNT_SPILL_spills l).ev F.SC_EVENT_wheel_spill l i

/-! ## Policers (R309) -/

/-- The policer of a port and class. -/
def State.policer (s : State) (p c : Nat) : Option Nat := s.shaperOf (portDie p) (1, portQuad p, c)

/-- A message has used a credit of port `p` at one of its inputs: the port owes it where the class is policed (R309), and returns it as
soon as it can otherwise (R189). -/
def State.owe (s : State) (p input : Nat) (m : Msg) : State :=
  if (s.policer p m.tc).isSome then { s with owed := Tbl.mod s.owed (key2 p m.tc) [] (· ++ [{ m with inp := input }]) }
  else s.grantCredit (portDie p) input m.tc m.size

/-- A port goes down: the credits it owes are discarded (Table 10.4), and those it has returned are worth nothing (R189). -/
def State.dropOwed (s : State) (p : Nat) : State :=
  (s.forEach (upTo 12) fun s c => { s with owed := Tbl.set s.owed (key2 p c) [] [] }).dropCredit p

/-- The port returns the oldest owed credit of a class when it may (R309): not without its cells, which it takes (R189), nor without a free tracker
entry for a class that needs one (R33), nor while its policer is on the wheel (R311); falling below 0 is an entry into withholding. -/
def State.payCredit (s : State) (p c : Nat) : State :=
  let d := portDie p
  match Tbl.getD s.owed (key2 p c) [] with
  | [] => s
  | m :: r =>
    if s.trkFull d c then s
    else
      let pay (s : State) : State := { s with owed := Tbl.set s.owed (key2 p c) r [] }
      match s.policer p c, s.backCredit d m.inp c m.size with
      | _, none => s
      | none, some t => pay t
      | some i, some t =>
        if (s.shp d i).wheel.isSome || !((s.shp d i).upTo (s.now d)).runs then s
        else
          let t := (pay t).charge d i m
          if (t.shp d i).runs then t else t.inc F.SC_CNT_MISC_police_holds (dieL d)

/-! ## Arbitration (R300 to R304) -/

/-- The arbitration entry of a class: 0 io, 1 TC3, 2 TC4, 3 TC6 … 8 TC11, and 9 for TC5. -/
def entryOf (c : Nat) : Nat := if c ≤ 2 then 0 else if c ≤ 4 then c - 2 else if c = 5 then 9 else c - 3

/-- The class by which a shaper names an entry (Table 10.3). -/
def entryTc (e : Nat) : Nat := if e = 0 then 0 else if e ≤ 2 then e + 2 else e + 3

/-- The port whose registers arbitrate an output, for outputs of quads (R303). -/
def State.arbPort (s : State) (d o : Nat) : Nat := s.ownerPort (portNo d o)

/-- Level of an entry at an output (R300, R303). -/
def State.levelOf (s : State) (d o e : Nat) : Nat :=
  if o < 16 then s.rd (F.SC_ARB_PRIO_q_level e) (idxL d 0 (portQuad (s.arbPort d o))) else 0

/-- Weight of an entry at an output. -/
def State.weightOf (s : State) (d o e : Nat) : Nat :=
  if o < 16 then
    let l := idxL d 0 (portQuad (s.arbPort d o))
    if e < 4 then s.rd (F.SC_ARB_WGT0_q_weight e) l
    else if e < 8 then s.rd (F.SC_ARB_WGT1_q_weight (e - 4)) l else s.rd F.SC_ARB_WGT2_q_weight l
  else 8

/-- Whether a shaper pauses an entry of an output (Table 10.3, kind 0). -/
def State.paused (s : State) (d o e : Nat) : Bool :=
  if o < 16 then
    match s.shaperOf d (0, portQuad (s.arbPort d o), entryTc e) with
    | some i => !((s.shp d i).upTo (s.now d)).runs || (s.shp d i).wheel.isSome
    | none => false
  else false

/-- The level at which an entry competes: a starved entry at level 0 (R302). -/
def State.levelNow (s : State) (d o e : Nat) : Nat :=
  if (s.xbd d).promoted.contains (o, e) then 0 else s.levelOf d o e

/-- Entries of an output from `p` on, in order, wrapping round. -/
def fromPtr (p : Nat) : List Nat := (upTo 9).map fun k => (p + k) % 9

/-- An output's choice among ready entries (R300, R301); an entry that the pointer passes without being ready starts again with
its weight. -/
def State.chooseEntry (s : State) (d o : Nat) (ready : Nat → Bool) : Option Nat × State :=
  if ready 9 then (some 9, s)
  else
    match (upTo 4).find? fun l => (upTo 9).any fun e => ready e && s.levelNow d o e == l with
    | none => (none, s)
    | some l =>
      let order := (fromPtr (Tbl.getD (s.xbd d).lastServed (key2 o l) 0)).filter fun e => s.levelNow d o e == l
      let passed := order.takeWhile fun e => !ready e
      let s := s.updXb d fun x => { x with deficit := passed.foldl (fun t e => Tbl.del t (key2 o e)) x.deficit }
      ((order.find? ready), s)

/-- The deficit of an entry: its weight until it has been served; it never exceeds the weight, which may have been lowered since (R301). -/
def State.deficitOf (s : State) (d o e : Nat) : Int :=
  match Tbl.get (s.xbd d).deficit (key2 o e) with
  | some v => min v (s.weightOf d o e)
  | none => s.weightOf d o e

/-- A match is made for an entry of an output (R301, R302): its deficit falls by the cells, and the pointer moves on when it is
used up. -/
def State.served (s : State) (d o e n : Nat) : State :=
  if e = 9 then s
  else
    let l := s.levelNow d o e
    let v : Int := max (s.deficitOf d o e - (n : Int)) (-9)
    let w : Int := s.weightOf d o e
    let (v, move) := if v ≤ 0 then (v + w, true) else (v, false)
    s.updXb d fun x =>
      { x with deficit := Tbl.put x.deficit (key2 o e) (min v w),
               lastServed := if move then Tbl.set x.lastServed (key2 o l) ((e + 1) % 9) 0 else x.lastServed,
               promoted := x.promoted.filter fun y => y != (o, e) }

/-- Charge the output shaper of a matched message's entry (R308). -/
def State.chargeOut (s : State) (d o : Nat) (m : Msg) : State :=
  if o < 16 then
    match s.shaperOf d (0, portQuad (s.arbPort d o), entryTc (entryOf m.tc)) with
    | some i => s.charge d i m
    | none => s
  else s

/-- Would the Staged arbitration levels keep rule 2 of Table 8.9 on every output (R304)? -/
def State.arbOk (s : State) (d : Nat) : Bool :=
  (upTo 16).all fun q =>
    let lev (e : Nat) : Nat :=
      let f := F.SC_ARB_PRIO_q_level e
      Tbl.getD s.staged (fkey f (idxL d 0 q)) (s.rd f (idxL d 0 q))
    decide (lev 5 ≤ lev 1) && decide (lev 5 ≤ lev 2)

end Sys2Proof.Machine
end

