-- ==== Sys2Proof/Machine/TrackOps.lean ====
section
/-! DEFINITION. The tracker's side of mirrored requests (R269 to R279), the responses that reach it (R222, R248), and what
becomes of frames that cannot be delivered (Table 4.8, R204, R380). -/

namespace Sys2Proof.Machine

/-! ## Mirrored requests -/

/-- The choosing die of a mirrored request of die `d` (R269). -/
def State.chooser (s : State) (d : Nat) (x : Trk) : Nat :=
  if x.atHome then portDie (grpCopy (s.grp d (x.mirror.getD 0)) 0).1 else d

/-- The mirror entry that decides for a tracked request of die `d`. -/
def State.mirOf (s : State) (d : Nat) (x : Trk) : Mir := s.mir (s.chooser d x) (x.mirror.getD 0)

/-- The other copy of a mirrored read, if it is Healthy (R136, R278). -/
def State.otherHealthy (s : State) (d : Nat) (x : Trk) : Bool :=
  x.mirror.isSome && (s.mirOf d x).valid && (s.mirOf d x).st (if x.readB then 0 else 1) == .healthy

/-- A mirrored read of memory that a port which is not Up sends back: its other copy is Healthy (R278). -/
def State.goesBack (s : State) (m : Msg) : Bool :=
  (m.tc == 3 || m.tc == 1) && !m.ovTag && match s.trk m.trkDie m.trk with
    | some x => readsMem x.kind && s.otherHealthy m.trkDie x
    | none => false

/-- A request as its tracker entry names it, bound for a copy of its range (R271). -/
def State.trkMsg (s : State) (d t : Nat) (x : Trk) (copy : Nat) (data : List Nat) : Msg :=
  let (p, l) := if x.mirror.isSome then grpCopy (s.grp d (x.mirror.getD 0)) copy else (x.port, x.ld)
  let line := if x.mirror.isSome then (s.mirOf d x).lineOf copy x.addr else x.addr
  match x.tlp with
  | some m => { m with dst := p, ld := l, addr := line, trkDie := d, trk := t, via := none }
  | none =>
    { tc := x.tc, kind := x.kind, dst := p, src := x.src, cells := data.length, copy := if x.tc = 4 then copy else 0,
      trkDie := d, trk := t, opcode := x.opcode, ld := l, addr := line,
      ptag := x.ptag, mv := if x.agent then .noOp else .i, data := data }

/-- A mirrored read is sent again under the same tracker entry, to the other copy; with no other Healthy copy it completes as
the "other" rows of Table 4.8 (R136, R278). -/
def State.reissue (s : State) (d t : Nat) : State :=
  match s.trk d t with
  | none => s
  | some x =>
    if s.otherHealthy d x then
      let copy := if x.readB then 0 else 1
      let x := { x with readB := !x.readB, reissued := true }
      let s := s.putTrk d t x
      s.push (.home (s.chooser d x) 31 none { s.trkMsg d t x copy [] with placed := x.atHome })
    else s.completeOther d d t

/-- A copy of a mirrored write is resolved, by its NDR or without one; when every copy sent is, the host receives its NDR,
and a write that no copy took is recorded as lost (R274). What comes of a copy that was given up is discarded. -/
def State.copyResolved (s : State) (d t c : Nat) (ndr : Bool) (by_ : Carry) : State :=
  if s.lateCopy d t c then (s.dropCarry d by_).noLate d t c
  else match s.trk d t with
  | none => s.dropCarry d by_
  | some x =>
    if x.tc ≠ 4 then s.dropCarry d by_
    else if x.mirror.isNone then
      if ndr then s.complete d t .ndr false false x.grant [] by_ else (s.dropCarry d by_).completeOther d d t
    else
      let v : CopyAt := if ndr then .ndr else .dropped
      let x := if c = 0 then (if x.a = .out then { x with a := v } else x)
        else if x.b = .out then { x with b := v } else x
      let s := if x.atHome ∧ !ndr then s.push (.pairServe (s.chooser d x)) else s
      if x.a = .out ∨ x.b = .out then (s.dropCarry d by_).putTrk d t x
      else if x.a = .ndr ∨ x.b = .ndr then (s.putTrk d t x).complete d t .ndr false false x.grant [] by_
      else ((s.putTrk d t x).lostWriteAt d d x).complete d t .ndr false false x.grant [] by_

/-- A copy of a mirrored write is out: sent, and not yet resolved. -/
def Trk.copyOut (x : Trk) (c : Nat) : Bool := x.tc == 4 && x.mirror.isSome && (if c = 0 then x.a else x.b) == .out

/-- A copy that is still out is resolved without its NDR (R274): by copy_tmo, or as its copy enters Failed. What comes of it later is
known as late. -/
def State.giveUpCopy (s : State) (d t c : Nat) : State :=
  match s.trk d t with
  | none => s
  | some x =>
    if x.copyOut c && !s.lateCopy d t c then
      let p := (grpCopy (s.grp d (x.mirror.getD 0)) c).1
      (s.copyResolved d t c false none).updXb d fun y => { y with late := y.late ++ [(t, c, p)] }
    else s

/-- A mirrored read came back poisoned from the copy it was sent to (R279): re-read from the other Healthy copy, at most
once; otherwise the host receives poison. -/
def State.poisonedRead (s : State) (d t : Nat) (data : List Nat) (by_ : Carry) : State :=
  match s.trk d t with
  | none => s.dropCarry d by_
  | some x =>
    let g := x.mirror.getD 0
    let ch := s.chooser d x
    let from_ := if x.readB then 1 else 0
    if x.reread then
      let s := ((s.inc F.MR_CNT_MISC_dual_poison (dieL ch)).evC F.MR_EVENT_dual_poison (dieL ch) g 4)
      s.complete d t .drs true false x.grant data by_
    else
      let s := s.countPoison ch g from_
      if s.otherHealthy d x then
        let s := (s.dropCarry d by_).putTrk d t { x with reread := true, repairing := some from_ }
        s.push (.reissue d t)
      else
        let s := ((s.inc F.MR_CNT_MISC_dual_poison (dieL ch)).evC F.MR_EVENT_dual_poison (dieL ch) g 4)
        s.complete d t .drs true false x.grant data by_

/-- Good data of a mirrored read reached its tracker: a read that was re-read counts as repaired and the line of the poisoned
copy is queued for rewriting (R279). -/
def State.mirroredData (s : State) (d t : Nat) (data : List Nat) (by_ : Carry) : State :=
  match s.trk d t with
  | none => s.dropCarry d by_
  | some x =>
    match x.repairing with
    | none => s.complete d t .drs false false x.grant data by_
    | some c =>
      let g := x.mirror.getD 0
      let ch := s.chooser d x
      let s := (s.inc F.MR_CNT_REPAIR_reads_repaired (dieL ch)).pm ch 0x7002 g 1
      let s := s.evC F.MR_EVENT_repair (dieL ch) g 1
      let s := s.queueRepair ch g c x.addr
      s.complete d t .drs false false x.grant data by_

/-- A frame is a request of tracker entry (d, t), or a copy of it that an overlay tag of some die stands for (R293). -/
def State.isOf (s : State) (m : Msg) (d t : Nat) : Bool :=
  takesTrk m.tc m.kind && if m.ovTag then (match Tbl.get (s.ovd m.trkDie).tags m.trk with
      | some g => g.trkDie == d && g.trk == t
      | none => false)
    else m.trkDie == d && m.trk == t

/-- The places of a request in the Cellars that hold it or a copy of it (R32): each a port and the position, oldest first. -/
def State.cellarPlaces (s : State) (d t : Nat) : List (Nat × Nat) :=
  s.allPorts.flatMap fun p =>
    ((List.range (s.port p).cellar.length).zip (s.port p).cellar).filterMap fun e =>
      if s.isOf e.2.msg d t then some (p, e.1) else none

/-! ## Responses (R222) -/

/-- A response reaches its tracker: the request completes, or its mirror state moves on; an answer of CXL.cache that is not the
final one goes on to the requester (R32). A response that matches no entry in use is dropped. -/
def State.trkResponse (s : State) (d : Nat) (m : Msg) (by_ : Carry) : State :=
  match s.trk d m.trk with
  | none => if m.tc = 6 then (s.dropCarry d by_).noLate d m.trk m.copy else s.dropCarry d by_
  | some x =>
    let mv := if x.agent then x.grant else m.mv
    match x.tc with
    | 4 => if x.mirror.isSome then s.copyResolved d m.trk m.copy true by_ else s.complete d m.trk .ndr false false mv [] by_
    | 3 =>
      if x.mirror.isSome ∧ readsData x.kind then
        (if m.poison then s.poisonedRead d m.trk m.data by_ else s.mirroredData d m.trk m.data by_)
      else s.complete d m.trk m.kind m.poison false mv m.data by_
    | 1 => s.complete d m.trk m.kind m.poison (m.kind == .ioUR) .i m.data by_
    | _ =>
      if m.last then s.complete d m.trk m.kind m.poison false .i m.data by_
      else
        let m := { m with dst := x.src, src := x.port, ptag := x.ptag, via := none }
        match by_ with
        | some c => s.route d c.1 c.2 m
        | none => s.route d 31 none m

/-- A response passes a die: under an overlay tag of this die it ends its copy (R293); at its tracker's die it is taken by
the tracker, and the completion keeps its cells (R191); otherwise it goes on towards it. The Loft only observes it (R250). -/
def State.response (s : State) (d input : Nat) (mid : Option Nat) (m : Msg) : State :=
  if m.ovTag ∧ m.trkDie = d then (s.freeCopy d mid).dualEnd d m.trk true
  else if m.trkDie = d then s.trkResponse d m (mid.map fun id => (input, some id))
  else s.route d input mid { m with via := some m.trkDie }

/-! ## Frames that cannot be delivered (Table 4.8) -/

/-- Count one frame of the last flush (Table 4.20). -/
def State.flushCount (s : State) (flush : Bool) (p : Nat) (f : Fld) : State := if flush then s.inc f (portL p) else s

/-- The record of a frame dropped and logged (Table 13.14). -/
def State.dropRecord (s : State) (p tc : Nat) : State :=
  s.log (portDie p) 1 25 0 p (tc * 16 + s.rd F.PT_STATUS_down_reason (portL p))

/-- A request of an unmirrored device that is lost ends with poison or Unsupported Request (Table 13.5): a class 4 record of the die that ends
it (R378; DEDUCED, log entry 80: no table names the record, which takes the bit of the flush). -/
def State.noteLoss (s : State) (at_ : Nat) (p : Nat) (x : Option Trk) : State :=
  if s.isSlot p && x.any (fun x => x.mirror.isNone && x.tc != 4) then
    s.log at_ 1 F.PT_EVENT_cellar_flush.lo 4 p (s.rd F.PT_STATUS_down_reason (portL p))
  else s

/-- Dispose of one frame bound for port `p`, as Table 4.8 gives for its class; `at_` is the die where it stands, `flush` that
it is part of a flush of the port's Cellar. The entry of a completion was freed when the completion was sent (R32): a response of
CXL.cache completes nothing. -/
def State.dispose (s : State) (at_ p : Nat) (e : QEnt) (flush : Bool) : State :=
  let m := e.msg
  let s := s.freeCopy at_ e.mid
  let d := m.trkDie
  let t := m.trk
  match m.tc with
  | 3 =>
    match s.trk d t with
    | none => s
    | some x =>
      if readsData x.kind then
        if s.otherHealthy d x then (s.flushCount flush p F.PT_FLUSH_DETAIL_reads_reissued).push (.reissue d t)
        else ((s.flushCount flush p F.PT_FLUSH_DETAIL_reads_poisoned).noteLoss at_ p (some x)).completeOther at_ d t
      else (s.dropRecord p 3).completeOther at_ d t
  | 4 =>
    if m.ovTag then s.push (.dualEnd d t false)
    else if s.lateCopy d t m.copy then s.noLate d t m.copy
    else
      match s.trk d t with
      | none => s
      | some x =>
        if x.mirror.isSome then
          let other := (s.mirOf d x).st (1 - m.copy) == .healthy
          let s := s.flushCount flush p
            (if other then F.PT_FLUSH_DETAIL_writes_survivor else F.PT_FLUSH_DETAIL_writes_dropped)
          let s := if other then s else s.dropRecord p 4
          let s := if flush ∧ p = (grpCopy (s.grp d (x.mirror.getD 0)) m.copy).1 then s else s.push (.copyFailIdx at_ (x.mirror.getD 0) m.copy 4)
          s.push (.copyResolved d t m.copy false)
        else ((s.flushCount flush p F.PT_FLUSH_DETAIL_writes_dropped).dropRecord p 4).completeOther at_ d t
  | 1 => if s.goesBack m then s.push (.reissue d t) else (s.noteLoss at_ p (s.trk d t)).completeOther at_ d t
  | 2 | 6 | 7 => s
  | 8 => s.push (.snoopFlushed at_ m)
  | 9 | 10 => if takesTrk m.tc m.kind then (s.dropRecord p m.tc).completeOther at_ d t else s.dropRecord p m.tc
  | _ => s.dropRecord p m.tc

/-- A mirrored read goes back from a port that is not Up to its choosing die, which sends it to the other copy (R278). -/
def State.sendBack (s : State) (at_ : Nat) (e : QEnt) : State :=
  let m := e.msg
  let s := s.freeCopy at_ e.mid
  let ch := match s.trk m.trkDie m.trk with
    | some x => s.chooser m.trkDie x
    | none => at_
  if ch = at_ then s.push (.reissue m.trkDie m.trk) else s.emit (.mirrorReturn ch m.trkDie m.trk)

/-- A frame enters the Cellar of a holding port, its tracker entry noting it (Table 19.2). -/
def State.hold (s : State) (p : Nat) (e : QEnt) : State :=
  let m := e.msg
  (if m.ovTag || !takesTrk m.tc m.kind then s else s.updTrk m.trkDie m.trk fun x => { x with held := true }).cellarArrive p e

/-- A frame meets a port that is not Up (R204, R220, R278, R129). One for a holding port waits for its match, by which it goes into the
Cellar (R308). -/
def State.notUp (s : State) (p : Nat) (e : QEnt) : State :=
  let m := e.msg
  let at_ := portDie p
  if s.goesBack m then s.sendBack at_ e
  else if s.holding p then s.updXb at_ fun x => { x with queue := x.queue ++ [e] }
  else
    let s := if m.grp.isSome then s.inc F.XB_CNT_MCAST_DROP_copies (dieL at_) else s
    s.dispose at_ p e false

/-- The die of the other copy of a mirrored read can still be reached from its choosing die (Table 13.5). -/
def State.otherReached (s : State) (d : Nat) (x : Trk) : Bool :=
  s.reaches (s.chooser d x) (portDie (grpCopy (s.grp d (x.mirror.getD 0)) (if x.readB then 0 else 1)).1)

/-- A message finds no path to its die (R380): a request completes as the "other" rows give, on the die where it stands. A mirrored read whose other
copy is Healthy and can be reached goes to it; a copy of a mirrored write is resolved, and neither fails a copy nor sets lost. -/
def State.lostPath (s : State) (d : Nat) (e : QEnt) : State :=
  let m := e.msg
  let mirrored : Option Trk := if m.ovTag ∨ !tracked m then none else (s.trk m.trkDie m.trk).filter fun x => x.mirror.isSome
  if 0x80 ≤ m.dst then s.freeCopy d e.mid
  else match mirrored with
    | none => s.dispose d m.dst e false
    | some x =>
      let s := s.freeCopy d e.mid
      if m.tc = 4 then
        (if s.lateCopy m.trkDie m.trk m.copy then s.noLate m.trkDie m.trk m.copy
        else (s.dropRecord m.dst 4).push (.copyResolved m.trkDie m.trk m.copy false))
      else if readsMem x.kind ∧ s.otherHealthy m.trkDie x ∧ s.otherReached m.trkDie x then s.push (.reissue m.trkDie m.trk)
      else s.poisonOut d m.trkDie m.trk

/-! ## Group replication (R200, R203) -/

/-- A message whose group is bad is counted (R203). -/
def State.grpMiss (s : State) (d input : Nat) : State :=
  (s.inc F.XB_CNT_ERR_grp_miss (dieL d)).ev F.XB_EVENT_grp_miss (dieL d) input

/-- A message that names a multicast group is enqueued once per member (R200); a bad group discards it (R203). DESIGN CHOICE (log entry
147): a member on a die that the part does not have gets no copy, and none is counted for it. -/
def State.replicate (s : State) (d input : Nat) (mid : Option Nat) (m : Msg) (gi : Nat) : State :=
  let g := s.grp d gi
  if gi = 0 ∨ !grpValid g ∨ !grpClass g m.tc ∨ grpKind g ≠ 0 then
    let s := (s.freeCopy d mid).grpMiss d input
    if m.tc = 4 then s.completeOther d m.trkDie m.trk
    else s.dropRecord (portNo d (input % 16)) m.tc
  else
    let excl := bitOf (wordAt g 0) 28
    let ms := (grpMembers g).filter fun p => decide (portDie p < s.part.dies) && !(excl && p == m.src)
    let s := s.setCopies d mid ms.length
    if ms.isEmpty then s.freeCopy d mid
    else s.forEach ms fun s p => s.route d input mid { m with dst := p, grp := some gi }

end Sys2Proof.Machine
end

