-- ==== Sys2Proof/Machine/AgentOps.lean ====
section
/-! DEFINITION. The coherence agent and its Loft (chapter 8): lookups, Table 8.6, snoops and their answers, eviction, walks. -/

namespace Sys2Proof.Machine

/-! ## Entries -/

/-- The agent of a die. -/
def State.cad (s : State) (d : Nat) : CaDie := Tbl.getD s.ca d {}
/-- Change the agent of a die. -/
def State.updCa (s : State) (d : Nat) (f : CaDie → CaDie) : State := { s with ca := Tbl.mod s.ca d {} f }
/-- A Loft entry of a die. -/
def State.loftAt (s : State) (d i : Nat) : Option LoftE := Tbl.get (s.cad d).loft i
/-- Show the entries in use and the snoop slots in use. -/
def State.showCa (s : State) (d : Nat) : State :=
  (s.wr F.CA_OCCUPANCY_entries (dieL d) (s.cad d).loft.length).wr F.CA_STATUS_snoops_out (dieL d) (s.cad d).slots.length
/-- Put a Loft entry. -/
def State.putLoft (s : State) (d i : Nat) (e : LoftE) : State :=
  (s.updCa d fun c => { c with loft := Tbl.put c.loft i e }).showCa d
/-- Remove a Loft entry. -/
def State.delLoft (s : State) (d i : Nat) : State := (s.updCa d fun c => { c with loft := Tbl.del c.loft i }).showCa d

/-- The set of a line (R241). -/
def loftSet (quad ld line : Nat) : Nat := (line % 65536) ^^^ (4096 * quad + ld * 256)

/-- The entry of a line, if it has one. -/
def State.loftFind (s : State) (d quad ld line : Nat) : Option Nat :=
  ((upTo 16).map (loftSet quad ld line * 16 + ·)).find? fun i =>
    match s.loftAt d i with
    | some e => e.quad == quad && e.ld == ld && e.line == line
    | none => false

/-- A region covers a line (R236: units of 2 MiB, 2^15 lines). -/
def Region.covers (r : Region) (quad ld line : Nat) : Bool :=
  r.quad == quad && r.ld == ld && decide (2 ^ 15 * r.base ≤ line) && decide (line < 2 ^ 15 * (r.base + r.size))

/-- The shared region that a line of a die lies in (R235). -/
def State.regionOf (s : State) (d quad ld line : Nat) : Option Region :=
  ((s.cad d).regions.map Prod.snd).find? fun r => r.covers quad ld line

/-- A pair is agent-managed: it has a valid region (R237, Table 8.8). -/
def State.agentPair (s : State) (p l : Nat) : Bool :=
  (s.cad (portDie p)).regions.any fun r => r.2.quad == portQuad p && r.2.ld == l

/-- Does the Loft name VCS `v` as a holder? -/
def LoftE.names (e : LoftE) (g v : Nat) : Bool :=
  match e.holders with
  | .none => false
  | .excl => e.sharers.contains v
  | .shared => if e.coarse then bitOf e.vec (v / g) else e.sharers.contains v

/-- The line has no holder. -/
def LoftE.toNone (e : LoftE) : LoftE := { e with holders := .none, coarse := false, sharers := [], vec := 0 }
/-- The line is exclusive to `v`. -/
def LoftE.toExcl (e : LoftE) (v : Nat) : LoftE := { e with holders := .excl, coarse := false, sharers := [v], vec := 0 }
/-- The line is shared by `v` alone. -/
def LoftE.toShared (e : LoftE) (v : Nat) : LoftE := { e with holders := .shared, coarse := false, sharers := [v], vec := 0 }

/-- `v` becomes one more sharer; a fifth turns the line coarse (R243). Answers whether it did. -/
def LoftE.addSharer (e : LoftE) (g v : Nat) : LoftE × Bool :=
  match e.holders with
  | .none => (e.toShared v, false)
  | .excl => ({ e with holders := .shared, sharers := if e.sharers.contains v then e.sharers else e.sharers ++ [v] }, false)
  | .shared =>
    if e.coarse then ({ e with vec := setBit e.vec (v / g) true }, false)
    else if e.sharers.contains v then (e, false)
    else if e.sharers.length < 4 then ({ e with sharers := e.sharers ++ [v] }, false)
    else ({ e with coarse := true, vec := (e.sharers ++ [v]).foldl (fun b w => setBit b (w / g) true) 0, sharers := [] }, true)

/-- `v` holds the line no more. A coarse vector whose groups hold several VCSs stays as it is (R247). -/
def LoftE.remove (e : LoftE) (g v : Nat) : LoftE :=
  match e.holders with
  | .none => e
  | .excl => if e.sharers.contains v then e.toNone else e
  | .shared =>
    if e.coarse then
      (if g = 1 then
        let w := setBit e.vec v false
        if w = 0 then e.toNone else { e with vec := w }
      else e)
    else
      let r := e.sharers.filter (· != v)
      if r.isEmpty then e.toNone else { e with sharers := r }

/-- The entry may be freed (R244). -/
def LoftE.idle (e : LoftE) : Bool :=
  e.holders == .none && e.snoops == 0 && e.asked == 0 && e.readsOut == 0 && !e.writeOut && e.wait.isEmpty && !e.evicting

/-- The VCSs with a Bound vPPB to a pair and bi = 1 on their host port (R253). -/
def State.snoopable (s : State) (p l : Nat) : List Nat :=
  ((s.bindings p l).filter fun di => (s.vppb di.1 di.2).state == 2).map (fun di => (s.vppb di.1 di.2).vcs)
    |>.filter fun v => s.flag F.PT_NEG_PROTO_bi (portL v)

/-- The holders of a line but `h`, as the hosts a snoop would go to (R253). -/
def State.holdersBut (s : State) (d : Nat) (e : LoftE) (h : Option Nat) : List Nat :=
  let vs := match e.holders with
    | .none => []
    | .excl => e.sharers
    | .shared => if e.coarse then
        (s.snoopable (portNo d e.quad) e.ld).filter fun v => bitOf e.vec (v / s.part.coarseG)
      else e.sharers
  vs.filter fun v => h != some v

/-! ## Snoops -/

/-- Ask for a snoop of `v` for a line: it waits for a slot and for its VCS's allowance, and holds the line's entry (R252). -/
def State.askSnoop (s : State) (d i : Nat) (kind : MKind) (v : Nat) : State :=
  match s.loftAt d i with
  | none => s
  | some e =>
    let s := s.putLoft d i { e with asked := e.asked + 1 }
    s.updCa d fun c => { c with snoopWait := c.snoopWait ++ [Snoop.mk e.quad e.ld e.line v kind false] }

/-- May a waiting snoop be issued (R252)? -/
def State.snoopMay (s : State) (d : Nat) (w : Snoop) : Bool :=
  let c := s.cad d
  decide (c.slots.length < 4096)
    && decide ((c.slots.filter fun _ x => x.vcs == w.vcs).length < s.rd F.CA_CTRL_bisnp_max (dieL d))
    && !c.slots.any fun x => x.2.vcs == w.vcs && x.2.line == w.line && x.2.quad == w.quad && x.2.ld == w.ld

/-- The BISnp of a snoop, from its slot towards its host (R239, R252). It carries `placed`, as what the agent has passed does: by
this a flush tells it from a device's own (R257). -/
def snoopMsg (d slot : Nat) (w : Snoop) : Msg :=
  let p := portNo d w.quad
  made { tc := 8, kind := w.kind, dst := w.vcs, src := p, addr := w.line, ld := w.ld, biId := p * 16 + w.ld, biTag := slot,
         placed := true }

/-- Send a snoop, first or again; counted in bisnp. -/
def State.sendSnoop (s : State) (d slot : Nat) (w : Snoop) : State :=
  let s := (s.inc F.CA_CNT_SNOOP_bisnp (dieL d)).pm d 0x6001 0 1
  s.push (.send d (snoopMsg d slot w))

/-- Change the Loft entry of a snoop's line, if it has one. -/
def State.updLine (s : State) (d : Nat) (w : Snoop) (f : LoftE → LoftE) : State :=
  match s.loftFind d w.quad w.ld w.line with
  | none => s
  | some i =>
    match s.loftAt d i with
    | none => s
    | some e => s.putLoft d i (f e)

/-- Issue the first waiting snoop that may go (R252); its line's entry counts it in snoops (R253). -/
def State.issueSnoop (s : State) (d : Nat) : State :=
  match (s.cad d).snoopWait.find? (s.snoopMay d) with
  | none => s
  | some w =>
    match Tbl.free (s.cad d).slots 4096 with
    | none => s
    | some k =>
      let s := s.updCa d fun c => { c with snoopWait := c.snoopWait.erase w, slots := Tbl.put c.slots k w }
      ((s.showCa d).updLine d w fun e => { e with asked := e.asked - 1, snoops := e.snoops + 1 }).sendSnoop d k w

/-! ## Table 8.6 -/

/-- What a message wants of a line (Table 8.5): invalid, shared or exclusive use; a clean eviction; a write with the state it
leaves. -/
inductive AgWant where
  | read (w : MetaV)
  | evict
  | write (w : MetaV)
  deriving DecidableEq, Repr

/-- The kind of an agent message (Table 8.5). -/
def AgMsg.want (a : AgMsg) : AgWant :=
  let m := a.e.msg
  let mv : MetaV := if a.vcs.isNone || m.mv == .noOp then .i else m.mv
  if writesMem m.kind then .write mv
  else match m.kind with
    | .memClnEvct => .evict
    | .memSpecRd => .read .i
    | _ => .read mv

/-- A write from the Exclusive holder (Table 8.5). -/
def AgMsg.ownerWrite (a : AgMsg) (e : LoftE) : Bool :=
  match a.want, a.vcs with
  | .write _, some v => e.holders == .excl && e.sharers.contains v
  | _, _ => false

/-- The snoops that a message's row of Table 8.6 sends: none goes to the host that the message is from, coherent or not (R240). -/
def State.rowSnoops (s : State) (d : Nat) (e : LoftE) (a : AgMsg) : MKind × List Nat :=
  let others := s.holdersBut d e (some a.e.msg.src)
  match a.want with
  | .evict => (.biSnpInv, [])
  | .read .a | .write _ => (.biSnpInv, others)
  | .read .s => (.biSnpData, if e.holders = .excl then others else [])
  | .read _ => (.biSnpCur, if e.holders = .excl then others else [])

/-- The holders after a message's row of Table 8.6. A line that is coarse and stays Shared keeps the coarse form (R243). -/
def LoftE.after (e : LoftE) (g : Nat) (a : AgMsg) : LoftE × Bool :=
  match a.want, a.vcs with
  | .evict, some v => (e.remove g v, false)
  | .evict, none => (e, false)
  | .read .a, some v => (e.toExcl v, false)
  | .read .s, some v => if e.holders = .excl ∧ e.sharers.contains v then (e.toShared v, false) else e.addSharer g v
  | .read _, _ => (e, false)
  | .write .a, some v => (e.toExcl v, false)
  | .write .s, some v =>
    if e.holders = .shared ∧ e.coarse then ({ e with vec := 2 ^ (v / g) }, false) else (e.toShared v, false)
  | .write _, _ => (e.toNone, false)

/-- The state that a message is granted (R248). -/
def AgMsg.grant (a : AgMsg) : MetaV :=
  match a.want with
  | .read .a => .a
  | .read .s => .s
  | _ => .i

/-- A posted CXL.io write of a mirrored range leaves the agent for the copy that takes it (log entry 152); with none it is recorded as lost
(R285). -/
def State.postedSend (s : State) (d g : Nat) (a : AgMsg) (onward : State → QEnt → State) : State :=
  let m := a.e.msg
  match (s.mir d g).postedTo with
  | some 0 => s.ovSend d a.e a.goal
  | some _ =>
    let (p, l) := grpCopy (s.grp d g) 1
    onward s { a.e with msg := { m with dst := p, ld := l, addr := (s.mir d g).lineOf 1 a.line } }
  | none =>
    (s.freeCopy d a.e.mid).lostWriteAt d m.trkDie
      { src := m.src, ptag := m.ptag, tc := m.tc, kind := m.kind, port := portNo d a.quad, ld := a.ld, addr := a.line }

/-- A message at or past the agent goes on to its port, by its overlay route; a mirrored range's read to the copy chosen here
and its write to both copies in one step (R264, R269, R277). -/
def State.agentSend (s : State) (d : Nat) (a : AgMsg) : State :=
  let m := a.e.msg
  let onward (s : State) (e : QEnt) : State :=
    let m := { e.msg with via := none, placed := true }
    if dstDie m.dst = d then s.push (.home d e.input e.mid m) else s.route d e.input e.mid m
  match s.trkOf m with
  | none =>
    match m.grp with
    | some g => if m.placed || !writesMem m.kind || grpKind (s.grp d g) != 1 then s.ovSend d a.e a.goal else s.postedSend d g a onward
    | none => s.ovSend d a.e a.goal
  | some x =>
    match x.mirror, x.atHome && !m.placed with
    | some g, true =>
      if writesMem m.kind then
        let s := if m.copy = 0 then s.ovSend d a.e a.goal else onward s a.e
        match a.second with
        | none => s
        | some b => onward s b
      else
        match (s.mir d g).choose (s.grp d g) d x.addr with
        | none => (s.freeCopy d a.e.mid).poisonOut d m.trkDie m.trk
        | some c =>
          let s := s.pm d 0x7000 g 1
          let s := s.putTrk m.trkDie m.trk { x with readB := c == 1 }
          if c = 0 then s.ovSend d a.e a.goal
          else
            let (p, l) := grpCopy (s.grp d g) 1
            onward s { a.e with msg := { m with dst := p, ld := l, addr := (s.mir d g).lineOf 1 x.addr } }
    | _, _ => s.ovSend d a.e a.goal

/-- The agent answers a message itself with NDR (R248). -/
def State.agentNdr (s : State) (d : Nat) (a : AgMsg) : State :=
  let m := a.e.msg
  (s.freeCopy d a.e.mid).push (.resp d (made { tc := 6, kind := .ndr, trkDie := m.trkDie, trk := m.trk, mv := a.grant }))

/-- The agent's grant reaches the request's tracker entry (R248, R518). -/
def State.setGrant (s : State) (a : AgMsg) (snooped : Bool) : State :=
  s.updTrkOf a.e.msg fun x =>
    { x with agent := true, grant := a.grant, snooped := x.snooped || snooped }

/-- The mirror range of copy A that a line of a pair lies in, when its requests pass this die's agent (R264): its group. -/
def State.agentGroup (s : State) (d p l line : Nat) : Option Nat :=
  ((s.mrd d).entries.find? fun e => e.2.atHome && e.2.inRange line && grpCopy (s.grp d e.1) 0 == (p, l)).map Prod.fst

/-- The agent writes the whole line of a lost snoop with poison (R256), under tracker entry `t` of its die: to the device, and in a
mirrored range to each copy that takes writes (R264, R273). -/
def State.poisonWrite (s : State) (d t : Nat) (a : AgMsg) : State :=
  let s := s.inc F.CA_CNT_MISC2_poison_writes (dieL d)
  let p := portNo d a.quad
  let g := s.agentGroup d p a.ld a.line
  let cs : List Nat := match g with
    | some g => [0, 1].filter (s.mir d g).writable
    | none => [0]
  let at_ (c : Nat) : CopyAt := if cs.contains c then .out else .unsent
  let s := s.putTrk d t { src := 0x88 + d, ptag := 0, tc := 4, kind := .memWr, opcode := (made { tc := 4, kind := .memWr }).opcode,
                          port := p, ld := a.ld, addr := a.line,
                          mirror := g, atHome := g.isSome, a := at_ 0, b := at_ 1, time := s.now d }
  s.forEach cs fun s c =>
    let (q, l) : Nat × Nat := match g with
      | some g => grpCopy (s.grp d g) c
      | none => (p, a.ld)
    let line := match g with
      | some g => (s.mir d g).lineOf c a.line
      | none => a.line
    let m : Msg := made
     { tc := 4, kind := .memWr, dst := q, src := 0x88 + d, cells := 1, poison := true, copy := c, trkDie := d,
       trk := t, ld := l, addr := line, mv := .noOp, placed := true, data := [0] }
    if portDie q = d then s.push (.home d 31 none m) else s.push (.send d m)

/-- The head of a line's wait list is served, if it can be (R246, R250, R251). Answers whether something was served. A write with
poison waits for a free tracker entry as well (R33). -/
def State.serveHead (s : State) (d i : Nat) : State × Bool :=
  match s.loftAt d i with
  | none => (s, false)
  | some e =>
    match e.wait with
    | [] => (if e.idle then s.delLoft d i else s, false)
    | a :: rest =>
      let own := a.quad == e.quad && a.ld == e.ld && a.line == e.line
      let owner := own && a.ownerWrite e
      if a.poison then
        (if e.writeOut ∨ e.readsOut ≠ 0 then (s, false)
        else match s.freeTrk d with
          | none => (s, false)
          | some t =>
            ((s.putLoft d i { e with wait := rest, writeOut := true, fwd := e.fwd ++ [(d, t)] }).poisonWrite d t a, true))
      else if e.evicting ∧ !owner then (s, false)
      else if (e.snoops ≠ 0 ∨ e.asked ≠ 0) ∧ !owner then (s, false)
      else
        let (k, vs) := s.rowSnoops d e a
        if !a.acted ∧ !owner ∧ !vs.isEmpty then
          let s := s.putLoft d i { e with wait := { a with acted := true } :: rest }
          (s.forEach vs fun s v => s.askSnoop d i k v, false)
        else
          let wr : Bool := match a.want with | .write _ => true | _ => false
          let ev : Bool := match a.want with | .evict => true | _ => false
          let free : Bool := if ev then true
            else if wr then !e.writeOut && e.readsOut == 0 else !e.writeOut && decide (e.readsOut < 31)
          if !free then (s, false)
          else
            let (e', turned) := e.after s.part.coarseG a
            let self : Bool := ev || a.e.msg.kind == .memInv || a.e.msg.kind == .memInvNT
            let counts : Bool := !self && tracked a.e.msg
            let e' := { e' with wait := rest,
                                readsOut := if counts && !wr then e'.readsOut + 1 else e'.readsOut,
                                writeOut := e'.writeOut || (counts && wr),
                                fwd := if counts then e'.fwd ++ [(a.e.msg.trkDie, a.e.msg.trk)] else e'.fwd }
            let s := if turned then s.inc F.CA_CNT_EVICT_coarse (dieL d) else s
            let s := (s.putLoft d i e').setGrant a a.acted
            let noOp (x : QEnt) : QEnt := { x with msg := { x.msg with mv := .noOp } }
            let s := if self then s.agentNdr d a else s.agentSend d { a with e := noOp a.e, second := a.second.map noOp }
            (s, true)

/-- A message joins a line's wait list: an owner write at the head, every other at the tail (R249, R251). -/
def State.joinLine (s : State) (d i : Nat) (a : AgMsg) : State :=
  match s.loftAt d i with
  | none => s
  | some e =>
    let own := a.quad == e.quad && a.ld == e.ld && a.line == e.line
    let wait := if own && a.ownerWrite e then a :: e.wait else e.wait ++ [a]
    let n := (s.cad d).useCtr + 1
    let s := s.updCa d fun c => { c with useCtr := n }
    let s := s.putLoft d i { e with wait := wait, lastUse := if own then n else e.lastUse }
    s.push (.serve d i)

/-- An evicting entry goes on (R258): once its reads and write are answered it is snooped out; once the snoops are answered it is
reused for the line of the first waiter, and the other waiters are looked up again in order. -/
def State.serveEvict (s : State) (d i : Nat) : State :=
  match s.loftAt d i with
  | none => s
  | some e =>
    if !e.evicting || e.readsOut != 0 || e.writeOut || e.snoops != 0 || e.asked != 0 || e.wait.any AgMsg.poison then s
    else if e.evSent then
      let s := s.inc F.CA_CNT_EVICT_evictions (dieL d) |>.pm d 0x6002 0 1
      match e.wait.map fun a => { a with acted := false } with
      | [] => s.delLoft d i
      | a :: rest =>
        let s := (s.putLoft d i { quad := a.quad, ld := a.ld, line := a.line }).joinLine d i a
        s.forEach rest fun s a => s.push (.agLook d a)
    else
      let vs := s.holdersBut d e none
      let s := s.putLoft d i { e with evSent := true }
      if vs.isEmpty then s.push (.serve d i) else s.forEach vs fun s v => s.askSnoop d i .biSnpInv v

/-- Serve a line (R250): its head, then the next as further work of the same command; then its eviction. -/
def State.serveLine (s : State) (d i : Nat) : State :=
  match s.serveHead d i with
  | (s, true) => s.push (.serve d i)
  | (s, false) => s.serveEvict d i

/-- The victim of a full set (R258): the least recently used entry with an empty wait list, else the least recently used. -/
def State.victim (s : State) (d set : Nat) : Option Nat :=
  let es := (upTo 16).filterMap fun w => (s.loftAt d (set * 16 + w)).map fun e => (set * 16 + w, e)
  let least (xs : List (Nat × LoftE)) : Option Nat :=
    (xs.foldl (fun b x => match b with
      | none => some x
      | some y => if x.2.lastUse < y.2.lastUse then some x else some y) none).map Prod.fst
  match least (es.filter fun x => x.2.wait.isEmpty) with
  | some i => some i
  | none => least es

/-- A message is looked up (R249, R258): its line's entry; the evicting entry of its set whose list already holds the line; a free
way; the set's evicting entry; else a victim. -/
def State.agentLook (s : State) (d : Nat) (a : AgMsg) : State :=
  let set := loftSet a.quad a.ld a.line
  let ways := (upTo 16).map (set * 16 + ·)
  let evicting (p : LoftE → Bool) : Option Nat := ways.find? fun i => match s.loftAt d i with
    | some e => e.evicting && p e
    | none => false
  let same (x : AgMsg) : Bool := x.quad == a.quad && x.ld == a.ld && x.line == a.line
  match (s.loftFind d a.quad a.ld a.line).orElse fun _ => evicting fun e => e.wait.any same with
  | some i => s.joinLine d i a
  | none =>
    match ways.find? fun i => (s.loftAt d i).isNone with
    | some i => (s.putLoft d i { quad := a.quad, ld := a.ld, line := a.line }).joinLine d i a
    | none =>
      match evicting fun _ => true with
      | some i => s.joinLine d i a
      | none =>
        match s.victim d set with
        | none => s
        | some i =>
          match s.loftAt d i with
          | none => s
          | some e => (s.putLoft d i { e with evicting := true }).joinLine d i a

/-- A message that is taken for look-up is counted (Table 8.13). -/
def State.countLook (s : State) (d : Nat) : State := (s.inc F.CA_CNT_LOOKUP_lookups (dieL d)).pm d 0x6000 0 1

/-- A message is coherent (R240): its host port has bi = 1 and the host has enabled back-invalidate on the shadow decoder
that covers the address. -/
def State.coherent (s : State) (d : Nat) (x : Trk) : Option Nat :=
  match x.vcs, x.slot with
  | some v, some sl =>
    if s.flag F.PT_NEG_PROTO_bi (portL v) then
      match (s.vppb d sl).shadowAt x.hpa with
      | some c => if c.biEn then some v else none
      | none => none
    else none
  | _, _ => none

/-- A message reaches the agent's input (R235, R240): a CXL.mem request of a host that is not coherent completes as a decode miss; one of
CXL.io or of a data mover is a want-I read or a foreign write. -/
def State.agentInput (s : State) (d : Nat) (a : AgMsg) : State :=
  let m := a.e.msg
  match s.trkOf m with
  | none => s.updCa d fun c => { c with input := c.input ++ [a] }
  | some x =>
    let io : Bool := x.tc == 1 || decide (0x80 ≤ x.src)
    let v := if io then none else s.coherent m.trkDie x
    if io || v.isSome then s.updCa d fun c => { c with input := c.input ++ [{ a with vcs := v }] }
    else
      let s := (s.inc F.CA_CNT_MISC_non_bi_req (dieL d)).ev F.CA_EVENT_non_bi_req (dieL d) a.quad
      let s := s.freeCopy d a.e.mid
      let s := match a.second with
        | some b => s.freeCopy d b.mid
        | none => s
      s.completeOther d m.trkDie m.trk

/-! ## Home die (R28, R235, R264, R289) -/

/-- Copies of a mirrored write under at_home wait for each other at copy A's home die (R264): true when the other copy was
sent and has not arrived. -/
def State.awaitsPair (s : State) (d : Nat) (m : Msg) : Bool :=
  match s.trkOf m with
  | none => false
  | some x => writesMem m.kind && x.atHome && x.a == .out && x.b == .out
      && !(s.cad d).pairs.any fun e => e.msg.trkDie == m.trkDie && e.msg.trk == m.trk && e.msg.copy != m.copy

/-- A request that the overlay has looked up goes through the agent when its line has a region, and on otherwise; one that has
passed its agent, and a guarded rewrite, go on (R264, R269, R280). -/
def State.homeServe (s : State) (d : Nat) (a : AgMsg) : State :=
  if !a.e.msg.placed ∧ (s.regionOf d a.quad a.ld a.line).isSome then s.agentInput d a else s.agentSend d a

/-- A line would use an overlay or shared-region entry that a double-bit error has spoilt (R377). -/
def State.spoiltKey (s : State) (d quad ld line : Nat) : Bool :=
  s.spoiltBy d fun x => match x with
    | .overlay _ q l page => q == quad && l == ld && page == line / 64
    | .region _ r => r.covers quad ld line
    | _ => false

/-- A message to memory on its home die: overlay lookup, then the agent, then its port (R28, R235, R290). `m.via = some d`
marks a mirrored request whose choosing die this is (R269). -/
def State.home (s : State) (d input : Nat) (mid : Option Nat) (m : Msg) : State :=
  let atHome := m.via == some d
  if 0x80 ≤ m.dst ∨ m.noLook ∨ !toMemory m.kind ∨ (!atHome ∧ nextDie m ≠ d) then s.route d input mid m
  else if atHome ∧ s.awaitsPair d m then
    s.updCa d fun c => { c with pairs := c.pairs ++ [QEnt.mk mid input m.dst m false] }
  else
    let x := s.trkOf m
    let mirrored : Bool := atHome && match x with | some y => y.mirror.isSome | none => false
    let (kp, kl, ka) : Nat × Nat × Nat := match x with
      | some y => if mirrored then
          let g := grpCopy (s.grp m.trkDie (y.mirror.getD 0)) 0
          (g.1, g.2, y.addr)
        else (m.dst, m.ld, m.addr)
      | none => (m.dst, m.ld, m.addr)
    let partner := if mirrored && writesMem m.kind then
        (s.cad d).pairs.find? fun e => e.msg.trkDie == m.trkDie && e.msg.trk == m.trk && e.msg.copy != m.copy
      else none
    let s := match partner with
      | some p => s.updCa d fun c => { c with pairs := c.pairs.erase p }
      | none => s
    let this : QEnt := ⟨mid, input, m.dst, m, false⟩
    let (first, second) := match partner with
      | some p => if m.copy = 0 then (this, some p) else (p, some this)
      | none => (this, none)
    let alone : Bool := mirrored && writesMem m.kind && first.msg.copy == 1
    let keyed : QEnt := { first with msg := { first.msg with dst := kp, ld := kl, addr := ka } }
    if s.spoiltKey d (portQuad kp) kl ka then
      let s := (s.freeCopy d mid).forEach second.toList fun s b => if b = this then s else s.freeCopy d b.mid
      let s := if partner.isSome ∧ first ≠ this then s.freeCopy d first.mid else s
      if tracked m then s.push (.other d m.trkDie m.trk) else s.dropRecord kp m.tc
    else if alone then s.homeServe d { e := first, quad := portQuad kp, ld := kl, line := ka, second := second }
    else match s.ovLookup d keyed with
    | (none, s) =>
      match second with
      | none => s
      | some b => s.updCa d fun c => { c with pairs := c.pairs ++ [b] }
    | (some goal, s) => s.homeServe d { e := keyed, quad := portQuad kp, ld := kl, line := ka, goal := goal, second := second }

/-- Copies that waited for their other copy are looked at again. -/
def State.pairServe (s : State) (d : Nat) : State :=
  let w := (s.cad d).pairs
  let s := s.updCa d fun c => { c with pairs := [] }
  s.forEach w fun s e => s.push (.home d e.input e.mid e.msg)

/-! ## Answers, losses and walks -/

/-- The line of a snoop that is no longer outstanding, or no longer waits, is served again. -/
def State.serveOf (s : State) (d : Nat) (w : Snoop) : State :=
  match s.loftFind d w.quad w.ld w.line with
  | some i => s.push (.serve d i)
  | none => s

/-- Drop one outstanding snoop from its slot and its line. -/
def State.closeSnoop (s : State) (d slot : Nat) (w : Snoop) (f : LoftE → LoftE) : State :=
  let s := (s.updCa d fun c => { c with slots := Tbl.del c.slots slot }).showCa d
  (s.updLine d w fun e => { f e with snoops := e.snoops - 1 }).serveOf d w

/-- A snoop is lost (R256), in its slot or waiting for one: the host is removed; a line that it held exclusively in a region with
lost_poison is to be written with poison, ahead of what waits; the loss is logged and the host port reported for its fence. -/
def State.loseSnoop (s : State) (d : Nat) (w : Snoop) (sent : Bool) : State :=
  let l := dieL d
  let e := (s.loftFind d w.quad w.ld w.line).bind (s.loftAt d)
  let excl : Bool := match e with
    | some e => e.holders == .excl && e.sharers.contains w.vcs
    | none => false
  let poison : Bool := excl && match s.regionOf d w.quad w.ld w.line with
    | some r => r.lostPoison
    | none => false
  let own : AgMsg := { e := ⟨none, 31, portNo d w.quad, { tc := 4, kind := .memWr, src := 0x88 + d }, false⟩, quad := w.quad, ld := w.ld,
                       line := w.line, poison := true }
  let s := (s.updLine d w fun e =>
    { e.remove s.part.coarseG w.vcs with
      snoops := if sent then e.snoops - 1 else e.snoops
      asked := if sent then e.asked else e.asked - 1
      wait := if poison then own :: e.wait else e.wait }).serveOf d w
  let s := s.inc F.CA_CNT_MISC_snoop_lost l
  let s := if s.flag F.CA_LOST_LOG_HI_valid l then s else
    let s := ((s.wr F.CA_LOST_LOG_LO_addr_lo l w.line).on F.CA_LOST_LOG_HI_valid l).wr F.CA_LOST_LOG_HI_vcs l w.vcs
    let s := (s.wr F.CA_LOST_LOG_HI_quad l w.quad).wr F.CA_LOST_LOG_HI_ld l w.ld
    (s.wrB F.CA_LOST_LOG_HI_poisoned l poison).wr F.CA_LOST_LOG_HI_addr_hi l (w.line / 2 ^ 32)
  let s := (s.evC F.CA_EVENT_snoop_lost l w.quad 2).evC F.CA_EVENT_snoop_lost l w.quad 4
  s.push (.fence w.vcs 2)

/-- The snoop of a slot is lost. -/
def State.snoopLost (s : State) (d slot : Nat) : State :=
  match Tbl.get (s.cad d).slots slot with
  | none => s
  | some w => ((s.updCa d fun c => { c with slots := Tbl.del c.slots slot }).showCa d).loseSnoop d w true

/-- Lines whose write with poison waits, for the device or for a tracker entry, are served again (R33, R256). -/
def State.poisonAgain (s : State) (d : Nat) : State :=
  s.forEach (List.filter (fun ie : Nat × LoftE => match ie.2.wait with
    | a :: _ => a.poison
    | [] => false) (s.cad d).loft) fun s ie => s.push (.serve d ie.1)

/-- A BIRsp reaches the agent (R247): it answers the outstanding snoop its BITag names. -/
def State.birsp (s : State) (d tag v : Nat) (k : MKind) : State :=
  let l := dieL d
  match Tbl.get (s.cad d).slots tag with
  | none => (s.inc F.CA_CNT_MISC2_birsp_unexpected l).ev F.CA_EVENT_birsp_unexpected l tag
  | some w =>
    if w.vcs ≠ v then (s.inc F.CA_CNT_MISC2_birsp_unexpected l).ev F.CA_EVENT_birsp_unexpected l tag
    else
      let valid : Bool := match k with
        | .biRspI => true
        | .biRspS => w.kind == .biSnpData || w.kind == .biSnpCur
        | .biRspE => w.kind == .biSnpCur
        | _ => false
      if !valid then
        ((s.inc F.CA_CNT_MISC2_birsp_unexpected l).ev F.CA_EVENT_birsp_unexpected l tag).snoopLost d tag
      else
        let s := if w.resent then s.log d 6 F.CA_EVENT_snoop_retry.lo 1 w.quad 0 else s
        s.closeSnoop d tag w fun e =>
          match k with
          | .biRspI => e.remove s.part.coarseG v
          | .biRspS => if e.holders = .excl ∧ e.sharers.contains v then e.toShared v else e
          | _ => e

/-- A snoop is unanswered after snoop_tmo (R256): resent once, then lost. -/
def State.snoopTimeout (s : State) (d slot : Nat) : State :=
  match Tbl.get (s.cad d).slots slot with
  | none => s
  | some w =>
    if !w.resent ∧ s.flag F.CA_CTRL_snoop_retry_en (dieL d) then
      let s := s.updCa d fun c => { c with slots := Tbl.put c.slots slot { w with resent := true } }
      let s := (s.inc F.CA_CNT_MISC_snoop_retry (dieL d)).ev F.CA_EVENT_snoop_retry (dieL d) w.quad
      s.sendSnoop d slot { w with resent := true }
    else s.snoopLost d slot

/-- A BISnp was flushed on its way to its host (R257): the agent's own counts as lost at once, when its slot is still open; one of a
device-managed pair is answered to the device with BIRspI, and the host port is reported. -/
def State.snoopFlushed (s : State) (m : Msg) : State :=
  let h := portDie m.src
  if m.placed then
    match Tbl.get (s.cad h).slots m.biTag with
    | some w =>
      if w.vcs = m.dst ∧ w.line = m.addr ∧ w.quad = portQuad m.src ∧ w.ld = m.ld then s.push (.snoopLost h m.biTag) else s
    | none => s
  else (s.push (.send h (made { tc := 5, kind := .biRspI, dst := m.src, src := m.dst, biId := m.dst, biTag := m.biTag,
                                ld := m.ld, noLook := true }))).push (.fence m.dst 2)

/-- Every snoop to a host resolves as lost at once (R373). -/
def State.loseSnoopsTo (s : State) (v : Nat) : State :=
  s.forEach s.dies fun s d =>
    let waiting := (s.cad d).snoopWait.filter fun w => w.vcs == v
    let s := s.updCa d fun c => { c with snoopWait := c.snoopWait.filter fun w => w.vcs != v }
    let s := s.forEach waiting fun s w => s.loseSnoop d w false
    s.forEach ((s.cad d).slots.filter fun _ w => w.vcs == v) fun s kw => s.push (.snoopLost d kw.1)

/-- The agent is asked to walk (R263): work of a kind joins its set, for the next pass. -/
def State.askWalk (s : State) (d : Nat) (regions : List Region) (unbind : List (Nat × Nat × Nat)) (reset : List Nat) : State :=
  (s.updCa d fun c => { c with
    walkRegions := c.walkRegions ++ regions.filter fun r => !c.walkRegions.contains r
    walkUnbind := c.walkUnbind ++ unbind.filter fun r => !c.walkUnbind.contains r
    walkReset := c.walkReset ++ reset.filter fun r => !c.walkReset.contains r }).on F.CA_STATUS_walk_queued (dieL d)

/-- A pass takes the three sets as they stand (R263). -/
def State.walkStart (s : State) (d : Nat) : State :=
  let c := s.cad d
  let l := dieL d
  if s.flag F.CA_STATUS_walk_busy l ∨ (c.walkRegions.isEmpty ∧ c.walkUnbind.isEmpty ∧ c.walkReset.isEmpty) then s
  else
    let s := s.updCa d fun c => { c with
      passRegions := c.walkRegions, passUnbind := c.walkUnbind, passReset := c.walkReset,
      walkRegions := [], walkUnbind := [], walkReset := [] }
    let s := ((s.on F.CA_STATUS_walk_busy l).off F.CA_STATUS_walk_queued l).wrB F.CA_STATUS_walk_region l
      (!c.walkRegions.isEmpty)
    let s := (s.wrB F.CA_STATUS_walk_unbind l (!c.walkUnbind.isEmpty)).wrB F.CA_STATUS_walk_reset l (!c.walkReset.isEmpty)
    match c.walkUnbind.map Prod.fst ++ c.walkReset with
    | [] => s
    | v :: vs => s.wr F.CA_STATUS_walk_vcs l (vs.foldl min v)

/-- One entry of the pass (R263): discarded with its region, snooped out for a VCS that unbinds, or without a VCS that reset. -/
def State.walkEntry (s : State) (d i : Nat) : State :=
  match s.loftAt d i with
  | none => s
  | some e =>
    let c := s.cad d
    if c.passRegions.any fun r => r.covers e.quad e.ld e.line then
      let s := s.delLoft d i
      s.forEach e.wait fun s a => s.push (.agLook d { a with acted := false })
    else
      let e' := c.passReset.foldl (fun e v => e.remove s.part.coarseG v) e
      let s := (s.putLoft d i e').push (.serve d i)
      s.forEach c.passUnbind fun s w =>
        if w.2.1 = e.quad ∧ w.2.2 = e.ld ∧ e'.names s.part.coarseG w.1
            ∧ !((s.cad d).slots.any fun x => x.2.vcs == w.1 && x.2.line == e.line && x.2.quad == e.quad && x.2.ld == e.ld)
            ∧ !((s.cad d).snoopWait.any fun x => x.vcs == w.1 && x.line == e.line && x.quad == e.quad && x.ld == e.ld) then
          s.askSnoop d i .biSnpInv w.1
        else s

/-- The pass has visited every set (R263); messages set aside for its resets are looked up in their order. -/
def State.walkEnd (s : State) (d : Nat) : State :=
  let l := dieL d
  if !s.flag F.CA_STATUS_walk_busy l then s
  else
    let s := s.forEach ((s.cad d).loft.map Prod.fst) fun s i => s.walkEntry d i
    let c := s.cad d
    let held (a : AgMsg) : Bool := c.walkReset.contains a.e.msg.src
    let s := s.updCa d fun c => { c with passRegions := [], passUnbind := [], passReset := [], aside := c.aside.filter held }
    let s := ((s.off F.CA_STATUS_walk_busy l).off F.CA_STATUS_walk_region l).off F.CA_STATUS_walk_unbind l
    let s := s.off F.CA_STATUS_walk_reset l
    s.forEach (c.aside.filter fun a => !held a) fun s a => (s.countLook d).push (.agLook d a)

end Sys2Proof.Machine
end

