-- ==== Sys2Proof/Machine/PortOps.lean ====
section
/-! DEFINITION. The port controller's operations (chapter 4) and the fence ladder of ports (R371 to R374): training and the
rate search, link up and link down, the Cellar's hold, release and flush. -/

namespace Sys2Proof.Machine

/-! ## Lanes of a port (R114) -/

/-- The lanes of a port, as (die, quad, lane), lane k at position k. -/
def State.portLanes (s : State) (p : Nat) : List (Nat × Nat × Nat) :=
  (upTo (s.nQuads p)).flatMap fun j => (upTo 4).map fun l => (portDie p, portQuad p + j, l)

/-- The lanes of a trained width: the lowest, or with lane reversal the highest (R114). -/
def State.widthLanes (s : State) (p w : Nat) (reversed : Bool) : List (Nat × Nat × Nat) :=
  let ls := s.portLanes p
  if reversed then ls.drop (ls.length - w) else ls.take w

/-- The widest width of R114 whose lanes all meet `ok`, or 0. -/
def State.widest (s : State) (p : Nat) (reversed : Bool) (ok : Nat × Nat × Nat → Bool) : Nat :=
  ([16, 8, 4, 2, 1].find? fun w => decide (w ≤ (s.portLanes p).length) && (s.widthLanes p w reversed).all ok).getD 0

/-- Lane reversal, as the partner's offer showed it. -/
def State.reversed (s : State) (p : Nat) : Bool := match (s.port p).offer with | some o => o.reversed | none => false

/-- Every lane of the port in Off. -/
def State.lanesOff (s : State) (p : Nat) : State := s.forEach (s.portLanes p) fun s x => s.toStage x.1 x.2.1 x.2.2 0

/-- The stage of a lane of a port. -/
def State.stageAt (s : State) (x : Nat × Nat × Nat) : Nat := s.stageOf x.1 x.2.1 x.2.2

/-- The enabled lanes of a port leave Off for Detect (Table 3.3). -/
def State.lanesDetect (s : State) (p : Nat) : State :=
  s.forEach (s.portLanes p) fun s x =>
    let u := unitL x.1 x.2.1
    if s.flag F.LQ_CTRL_quad_en u ∧ bitOf (s.rd F.LQ_CTRL_lane_en u) x.2.2 ∧ s.stageAt x = 0 then s.toStage x.1 x.2.1 x.2.2 1 else s

/-- The highest rate code that the part runs at on a port (R88): lane grade, Inventory and max_rate of every quad. -/
def State.rateLimit (s : State) (p : Nat) : Nat :=
  (upTo (s.nQuads p)).foldl (fun r j => min r (min (Tbl.getD s.invRate (p + j) 6) (s.rd F.LQ_CTRL_max_rate (portL (p + j)))))
    (if s.part.grade = 2 then 6 else 5)

/-- The rates both ends offer, highest first (R117, R118): codes 5 and 6 need 256-byte flits at both ends. -/
def State.commonRates (s : State) (p : Nat) (o : Offer) : List Nat :=
  [6, 5, 4, 3, 2, 1, 0].filter fun r => decide (r ≤ s.rateLimit p) && bitOf o.rates r && (decide (r < 5) || o.flit256)

/-- The partner serial that the port controller reports for R102: that of the last link up, while the insertion generation is
unchanged (R124). -/
def State.reportedSerial (s : State) (p : Nat) : Option Nat :=
  match (s.port p).lastId with
  | some i => if i.gen = s.rd F.SP_COUNT_insert_gen (portL p) then i.sn else none
  | none => none

/-! ## The rate search (R119) -/

/-- A lane of a port enters Train at a rate. -/
def State.trainLane (s : State) (p r : Nat) (x : Nat × Nat × Nat) : State :=
  s.toTrain x.1 x.2.1 x.2.2 r (s.reportedSerial p) ((s.port p).offer.any fun o => o.noEq)

/-- A lane starts anew with its port, by its own row of Table 3.3: in Active it enters Train at 2.5 GT/s, a rate change; in Exchange it
is rejected; in Train and Lock it goes on from there, at 2.5 GT/s. A lane in Off, Detect or Loopback stays. -/
def State.laneAfresh (s : State) (p : Nat) (x : Nat × Nat × Nat) : State :=
  match s.stageAt x with
  | 5 => s.trainLane p 0 x
  | 4 => s.toStage x.1 x.2.1 x.2.2 1
  | 3 => (s.setRate x.1 x.2.1 0).updLane x.1 x.2.1 x.2.2 fun y => { y with eq := {} }
  | 2 => (s.setRate x.1 x.2.1 0).updLane x.1 x.2.1 x.2.2 fun y => { y with eq := {} }
  | _ => s

/-- A lane that the port controller leaves out of the link (R92), by its own row of Table 3.3: in Exchange it is rejected, and one whose
equalisation has ended goes to Detect; in Active it enters Train at `r`, from where it goes to Detect as it finds no partner, and in Train
and Lock it stays until then. -/
def State.leaveOut (s : State) (p r : Nat) (x : Nat × Nat × Nat) : State :=
  match s.stageAt x with
  | 5 => s.trainLane p r x
  | 4 => s.toStage x.1 x.2.1 x.2.2 1
  | 2 => if 2 ≤ s.quadRate x.1 x.2.1 ∧ (s.lane x.1 x.2.1 x.2.2).eq.phase = .idle then s.toStage x.1 x.2.1 x.2.2 1 else s
  | _ => s

/-- A near-end loopback runs on a quad of the port (R93). -/
def State.loopRuns (s : State) (p : Nat) : Bool := (upTo (s.nQuads p)).any fun j => s.flag F.LQ_LOOP_loop_go (portL (p + j))

/-- What a negotiation has found is forgotten. -/
def PortSt.noSearch (x : PortSt) : PortSt := { x with settled := false, searching := false, left := [], tried := [], ended := [] }

/-- The port trains from the start, its lanes by the rows of Table 3.3. While a near-end loopback runs on one of its quads it starts no
training (R93), and stands in Down. -/
def State.restartTraining (s : State) (p : Nat) : State :=
  let s := s.updPort p PortSt.noSearch
  let s := s.forEach (s.portLanes p) fun s x => s.laneAfresh p x
  if !s.loopRuns p then s.lanesDetect p
  else if s.pstate p = 2 then s.wr F.PT_STATUS_pstate (portL p) 1 else s

/-- A lane that may enter Train at another rate (Table 3.3): in Active, or in Train once its equalisation has ended. -/
def State.trainable (s : State) (x : Nat × Nat × Nat) : Bool :=
  s.stageAt x == 5 || (s.stageAt x == 2 && (s.lane x.1 x.2.1 x.2.2).eq.phase == .idle)

/-- The Staged fields of lanes that are about to enter Train take effect (R111), so that a new max_rate bounds the rate (R88). -/
def State.commitLanes (s : State) (ls : List (Nat × Nat × Nat)) : State :=
  s.forEach ls fun s x => s.forEach lqStagedRegs fun s r => s.commitReg r (unitL x.1 x.2.1)

/-- The lanes of the base width. -/
def State.baseLanes (s : State) (p : Nat) : List (Nat × Nat × Nat) :=
  s.widthLanes p (s.rd F.PT_NEG_LINK_base_width (portL p)) (s.reversed p)

/-- The lanes of the width that training settled on. -/
def State.trainedLanes (s : State) (p : Nat) : List (Nat × Nat × Nat) := s.widthLanes p (s.port p).trained (s.reversed p)

/-- The port controller takes a lane into its link: the port is at work, negotiation has not failed, and the lane is none that it left
out (R92, R121). -/
def State.wanted (s : State) (p : Nat) (x : Nat × Nat × Nat) : Bool :=
  let y := s.port p
  decide (2 ≤ s.pstate p) && decide (s.pstate p ≤ 4) && !y.negFailed && (!y.searching || (s.baseLanes p).contains x)
    && (!y.settled || (s.trainedLanes p).contains x)

/-- The number of a lane within its port. -/
def laneIdx (p : Nat) (x : Nat × Nat × Nat) : Nat := (x.2.1 - portQuad p) * 4 + x.2.2

/-- The candidate with the largest rate × width, ties to the wider (R119). -/
def bestCandidate (xs : List (Nat × Nat)) : Option (Nat × Nat) :=
  xs.foldl (fun b x => match b with
    | none => some x
    | some y =>
      if rateMbps y.1 * y.2 < rateMbps x.1 * x.2 then some x
      else if rateMbps y.1 * y.2 = rateMbps x.1 * x.2 ∧ y.2 < x.2 then some x else some y) none

/-- A chosen rate and width are shown (Table 4.12), with the protocol set and format that follow (R118, R120). Lanes outside
the width are left out (R92). DESIGN CHOICE (log entry 33): where both ends advertise bypass and no equalisation needed, eq_path
shows the latter. -/
def State.settleLink (s : State) (p r w : Nat) : State :=
  let l := portL p
  match (s.port p).offer with
  | none => s
  | some o =>
    let common := s.commonRates p o
    let low := decide (r < 2)
    let ev6 := o.flit256 && (decide (5 ≤ r) || s.flag F.PT_CTRL_flit256_en l)
    let cxl : Bool := (s.port p).cxlCommon && !low
    let lat := ev6 && cxl && o.latOpt && s.flag F.PT_CTRL_lat_opt_en l
    let flit := if ev6 then (if lat then 3 else 2) else if cxl then 1 else 0
    let role := s.role p
    let cache : Bool := cxl && o.cache && s.flag F.PT_CTRL_cache_en l && role != 1
    let mem : Bool := cxl && o.mem && s.flag F.PT_CTRL_mem_en l
    let s := ((s.wr F.PT_NEG_LINK_rate l r).wr F.PT_NEG_LINK_width l w).wr F.PT_NEG_LINK_flit l flit
    let s := (s.wrB F.PT_NEG_LINK_fec l ev6).wrB F.PT_NEG_LINK_lane_reversed l o.reversed
    let s := s.wr F.PT_NEG_LINK_clock_mode l (s.rd F.PT_CTRL_clocking l)
    let path := if r < 2 then 0 else if o.noEq then 3 else if o.bypass then 2 else 1
    let s := (s.wr F.PT_NEG_LINK_eq_path l path).wr F.PT_NEG_LINK_retimers l o.retimers.val
    let s := s.wrB F.PT_NEG_LINK_degraded_width l (decide (w < (s.portLanes p).length))
    let s := s.wrB F.PT_NEG_LINK_degraded_rate l (decide (r < common.headD 0) || (low && (s.port p).cxlCommon))
    let s := (s.wrB F.PT_NEG_PROTO_cxl l cxl).wrB F.PT_NEG_PROTO_cache l cache
    let s := (s.wrB F.PT_NEG_PROTO_mem l mem).wrB F.PT_NEG_PROTO_bi l
      (mem && ev6 && s.flag F.PT_CTRL_bi_en l && o.bi)
    let s := (s.wrB F.PT_NEG_PROTO_mld l (cxl && o.mld)).wrB F.PT_NEG_PROTO_pbr l (cxl && ev6 && o.pbr)
    let s := if low && (s.port p).cxlCommon then s.ev F.PT_EVENT_cxl_dropped l p else s
    let s := s.updPort p fun x => { x with settled := true, searching := false, left := [], ended := [], trained := w }
    s.forEach ((s.portLanes p).filter fun x => !(s.widthLanes p w o.reversed).contains x) fun s x => s.leaveOut p r x

/-- The lanes of a settled link train at its rate (R119): nothing is trained where they run at it already; a lane that cannot be
trained from where it stands, or a limit that has fallen below the rate (R88), starts the port afresh. -/
def State.trainSettled (s : State) (p r w : Nat) : State :=
  let ls := s.widthLanes p w (s.reversed p)
  let rate := match ls.head? with
    | some x => s.quadRate x.1 x.2.1
    | none => 0
  if s.rateLimit p < r then s.restartTraining p
  else if rate = r ∧ ls.all fun x => s.stageAt x == 5 then s
  else if !(ls.all s.trainable) then s.restartTraining p
  else
    let s := s.commitLanes ls
    if s.rateLimit p < r then s.restartTraining p else s.forEach ls fun s x => s.trainLane p r x

/-- The search ends with a candidate, or without one at the highest common rate of code 0 or 1 with the base width (R119). -/
def State.chooseRate (s : State) (p : Nat) : State :=
  let x := s.port p
  match bestCandidate x.tried, x.offer with
  | some c, _ => (s.settleLink p c.1 c.2).trainSettled p c.1 c.2
  | none, none => s
  | none, some o =>
    let w0 := s.rd F.PT_NEG_LINK_base_width (portL p)
    let r := ((s.commonRates p o).filter fun r => decide (r < 2)).headD 0
    (s.settleLink p r w0).trainSettled p r w0

/-- The search goes on with the rates left (R119): a rate above the limits then in force (R88) is left out. A lane that has fallen
back to Detect cannot be trained at it and counts as one that did not reach accept; when none can, the rate is judged at once. -/
def State.searchFrom (s : State) (p : Nat) : List Nat → State
  | [] => s.chooseRate p
  | r :: rest =>
    let ls := s.baseLanes p
    let t := s.commitLanes (ls.filter s.trainable)
    if t.rateLimit p < r then State.searchFrom s p rest
    else
      let no := (ls.filter fun x => !s.trainable x).map fun x => (laneIdx p x, false)
      let t := t.updPort p fun y => { y with left := rest, trying := r, ended := no }
      let t := t.wr F.PT_NEG_LINK_rates_tried (portL p) (t.rd F.PT_NEG_LINK_rates_tried (portL p) + 1)
      if ls.any s.trainable then t.forEach (ls.filter s.trainable) fun t x => t.trainLane p r x else State.searchFrom t p rest

/-- The rate being tried is judged once every lane of the base width has ended its equalisation and stands in Active, or has not
reached accept (R119). -/
def State.judgeRate (s : State) (p : Nat) : State :=
  let x := s.port p
  let ls := s.baseLanes p
  let done (y : Nat × Nat × Nat) : Bool := x.ended.any fun e => e.1 == laneIdx p y && (!e.2 || s.stageAt y == 5)
  if !(x.searching && ls.all done) then s
  else
    let w := s.widest p (s.reversed p) fun y => x.ended.any fun e => e.1 == laneIdx p y && e.2
    let s := if w = 0 then s else s.updPort p fun x => { x with tried := x.tried ++ [(x.trying, w)] }
    if w = s.rd F.PT_NEG_LINK_base_width (portL p) then s.chooseRate p else s.searchFrom p x.left

/-- Equalisation of one lane at a tried rate has ended (R119), or the lane has fallen out of bring-up. -/
def State.laneEnded (s : State) (d q l : Nat) : State :=
  let p := s.ownerPort (portNo d q)
  let k := laneIdx p (d, q, l)
  if !(s.port p).searching then s
  else (s.updPort p fun x => { x with ended := (x.ended.filter fun e => e.1 != k) ++ [(k, decide (s.stageOf d q l = 3))] }).judgeRate p

/-- A lane equalises again at the rate being tried. -/
def State.laneAgain (s : State) (d q l : Nat) : State :=
  let p := s.ownerPort (portNo d q)
  s.updPort p fun x => { x with ended := x.ended.filter fun e => e.1 != laneIdx p (d, q, l) }

/-- A lane that failed outside the search goes to Detect; while the port is still training with that lane in its settled width, it
starts afresh (R91). -/
def State.laneLost (s : State) (d q l : Nat) : State :=
  let p := s.ownerPort (portNo d q)
  let s := s.toStage d q l 1
  if s.pstate p = 2 ∧ (s.port p).settled ∧ (s.trainedLanes p).contains (d, q, l) then s.restartTraining p else s

/-- A new limit lies below the rate in use (R88): a settled link goes on at the highest common rate within it, at its width, those of
`ls` and its lanes in Train and Active training at it; a port that is not settled starts afresh. -/
def State.rateDown (s : State) (p : Nat) (ls : List (Nat × Nat × Nat)) : State :=
  match (s.port p).offer with
  | none => (s.restartTraining p).forEach ls fun s x => if s.stageAt x = 2 then s else s.trainLane p 0 x
  | some o =>
    if (s.port p).settled then
      let r := (s.commonRates p o).headD 0
      let s := s.settleLink p r (s.port p).trained
      s.forEach ((s.trainedLanes p).filter fun x => ls.contains x || s.stageAt x == 2 || s.stageAt x == 5) fun s x => s.trainLane p r x
    else (s.restartTraining p).forEach ls fun s x => if s.stageAt x = 2 then s else s.trainLane p 0 x

/-- A lane goes back to Train at the rate in use (Table 3.3), or at a lower one where a Staged limit that takes effect now asks it
(R88). -/
def State.trainAgain (s : State) (p : Nat) (x : Nat × Nat × Nat) : State :=
  let s := s.commitLanes [x]
  let r := s.quadRate x.1 x.2.1
  if r ≤ s.rateLimit p then s.trainLane p r x else s.rateDown p [x]

/-! ## The Cellar (R129 to R135) -/

/-- The counts of a flush start at 0 (R135). -/
def State.noDetail (s : State) (p : Nat) : State :=
  s.forEach [F.PT_FLUSH_DETAIL_reads_reissued, F.PT_FLUSH_DETAIL_reads_poisoned, F.PT_FLUSH_DETAIL_writes_survivor,
    F.PT_FLUSH_DETAIL_writes_dropped] fun s f => s.off f (portL p)

/-- A frame is queued for a port. -/
def queuedFor (p : Nat) (e : QEnt) : Bool := e.msg.dst == p && decide (e.out < 16)

/-- A message of die `k`'s part of the machine has a property: it stands in a queue, a Cellar, a Casub link, the agent or the overlay unit. -/
def State.inDie (s : State) (k : Nat) (p : Msg → Bool) : Bool :=
  let of (e : QEnt) : Bool := p e.msg
  let ag (a : AgMsg) : Bool := of a.e || a.second.any of
  let x := s.xbd k
  let c := s.cad k
  let o := s.ovd k
  x.queue.any of || x.made.any (fun w => p w.2.2)
    || (upTo 16).any (fun q => (s.port (portNo k q)).cellar.any of)
    || (upTo 7).any (fun t => (s.site k t).carries p || (s.site k t).rxPart.any p)
    || c.input.any ag || c.aside.any ag || c.pairs.any of || List.any c.loft (fun ie => ie.2.wait.any ag)
    || o.tagWait.any of || List.any o.slots (fun im => im.2.wait.any of)

/-- Copy `c` of entry (d, t), or a copy of it that an overlay tag stands for, is still in the part. -/
def State.copyInPart (s : State) (d t c : Nat) : Bool :=
  let mine (m : Msg) : Bool := m.tc == 4 && !m.ovTag && m.trkDie == d && m.trk == t && m.copy == c
  s.dies.any fun k => s.inDie k mine || List.any (s.ovd k).tags fun g => g.2.trkDie == d && g.2.trk == t && g.2.copy == c

/-- A port that goes down without holding answers nothing any more: a late copy that has left for it is forgotten (R274). -/
def State.forgetLate (s : State) (p : Nat) : State :=
  s.forEach s.dies fun s d =>
    if (s.xbd d).late.any fun n => n.2.2 == p then
      s.updXb d fun x => { x with late := x.late.filter fun n => !(n.2.2 == p && !s.copyInPart d n.1 n.2.1) }
    else s

/-- Flush the Cellar of a port, with frames that would have joined it: those given, its own, then those queued for the port are
disposed of (R135). The detail of the last flush starts anew. -/
def State.flushAll (s : State) (p : Nat) (back : List QEnt) : State :=
  let d := portDie p
  let s := s.forgetLate p
  let queued := (s.xbd d).queue.filter (queuedFor p)
  let held := back ++ (s.port p).cellar
  if !s.holding p ∧ held.isEmpty ∧ queued.isEmpty then s
  else
    let was : Bool := s.holding p
    let s := s.updXb d fun x => { x with queue := x.queue.filter fun e => !queuedFor p e }
    let s := s.updPort p fun x => { x with cellar := [], timer := none }
    let s := (s.wr F.PT_STATUS_cellar (portL p) 0).showCellar p
    let s := s.noDetail p
    let s := (s.inc F.PT_CELLAR_COUNT_flushes (portL p)).ev F.PT_EVENT_cellar_flush (portL p) p
    let s := if was then s.push (.copyFail d p none 3) else s
    let s := s.push (.migPort p)
    s.forEach (held ++ queued) fun s e => s.push (.dispose p e true)

/-- Flush the Cellar of a port (R134, R135). -/
def State.flush (s : State) (p : Nat) : State := s.flushAll p []

/-- The protocol a frame needs on its link: CXL.mem, CXL.cache, or CXL.io, which every link has (R130). -/
def State.protoOk (s : State) (p : Nat) (m : Msg) : Bool :=
  match m.tc with
  | 3 | 4 | 5 | 6 | 7 | 8 => s.flag F.PT_NEG_PROTO_mem (portL p)
  | 9 | 10 => s.flag F.PT_NEG_PROTO_cache (portL p)
  | _ => true

/-- Release the Cellar (R130): held frames leave in arrival order; those of a missing protocol are flushed. Until the last has left,
PT_STATUS reads releasing (Table 4.11). -/
def State.release (s : State) (p : Nat) : State :=
  let d := portDie p
  let l := portL p
  let held := (s.port p).cellar
  let go := held.filter fun e => s.protoOk p e.msg
  let bad := held.filter fun e => !s.protoOk p e.msg
  let s := s.updPort p fun x => { x with cellar := [], timer := none, released := some (s.now d) }
  let s := (s.wr F.PT_STATUS_cellar l 0).showCellar p
  let s := s.updXb d fun x => { x with queue := (go.map fun e => { e with held := true }) ++ x.queue }
  let s := (s.inc F.PT_CELLAR_COUNT_releases l).evC F.PT_EVENT_cellar_release l p 1
  if bad.isEmpty then s
  else
    let s := s.noDetail p
    let s := s.evC F.PT_EVENT_proto_mismatch l p 2
    let s := (s.inc F.PT_CELLAR_COUNT_flushes l).ev F.PT_EVENT_cellar_flush l p
    let s := (s.push (.copyFail d p none 3)).push (.migPort p)
    let s := s.forEach bad fun s e => s.push (.dispose p e true)
    s.push (.lasting p)

/-! ## Link up (R127) -/

/-- The port reaches Up: events, vPPBs, resilvers. DESIGN CHOICE (log entry 126): PT_NEG_LINK.valid is set here. -/
def State.portUpNow (s : State) (p : Nat) : State :=
  let l := portL p
  let s := s.wr F.PT_STATUS_pstate l 4
  let s := s.on F.PT_NEG_LINK_valid l
  let s := s.ev F.PT_EVENT_link_up l p
  let s := if s.flag F.PT_NEG_LINK_degraded_rate l then s.ev F.PT_EVENT_rate_degraded l p else s
  let s := if s.flag F.PT_NEG_LINK_degraded_width l then s.ev F.PT_EVENT_width_degraded l p else s
  let s := s.updPort p fun x => { x with hostReset := false, lastRate := s.rd F.PT_NEG_LINK_rate l }
  (s.bindPortUp p).autoResilver p

/-- What the Cellar does at link up (R130): release, or flush with id_mismatch, which is a lasting fault (Table 13.2). -/
def State.cellarAtUp (s : State) (p : Nat) (same : Bool) : State :=
  if !s.holding p then s
  else if same then s.release p
  else ((s.evC F.PT_EVENT_id_mismatch (portL p) p 2).flush p).push (.lasting p)

/-- The partner's identity is known, or not within 100 µs (R123, R124): Cellar, then Up. -/
def State.identityKnown (s : State) (p : Nat) (known : Bool) (sn : Option Nat) : State :=
  let l := portL p
  let gen := s.rd F.SP_COUNT_insert_gen l
  let s := (s.wr64 F.PT_PARTNER_SN_LO_sn_lo F.PT_PARTNER_SN_HI_sn_hi l (sn.getD 0)).wrB F.PT_IDENT_sn_valid l sn.isSome
  let s := s.wr F.PT_IDENT_insert_gen l gen
  let same : Bool := known && (s.port p).lastId == some (Ident.mk sn gen)
  let s := s.updPort p fun x => { x with lastId := if known then some ⟨sn, gen⟩ else none }
  (s.cellarAtUp p same).portUpNow p

/-- DL_Active (R127, R130): the hold timer stops; a slot port reads its partner's identity, a host port goes Up. -/
def State.dlActive (s : State) (p : Nat) : State :=
  let s := s.updPort p fun x => { x with timer := none }
  if s.role p = 0 then (s.cellarAtUp p (!(s.port p).hostReset)).portUpNow p
  else s.wr F.PT_STATUS_pstate (portL p) 3

/-! ## Link down (R128, R129, R133) -/

/-- A lasting fault is due within the flap window (R372). -/
def State.inFlapWindow (s : State) (p : Nat) : Bool :=
  match (s.port p).windowEnd with
  | some t => decide (s.now (portDie p) ≤ t)
  | none => false

/-- The state a port that has gone down stands in, by the cause. -/
def downState (cause : Nat) : Nat := if cause = 6 then 0 else if cause = 5 then 5 else 1

/-- Of the frames sent and not acknowledged, those that return to the head of the Cellar (R129). -/
def returned (unacked : List QEnt) : List QEnt := unacked.filter fun e => e.msg.tc == 3 || e.msg.tc == 4

/-- Cells bound for the port join the Cellar at a link-down that holds: TC3 and TC4 requests sent and not acknowledged at the
head, whatever its limits; then those queued, within them (R129, R132). -/
def State.holdStart (s : State) (p : Nat) (unacked : List QEnt) : State :=
  let d := portDie p
  let queued := (s.xbd d).queue.filter (queuedFor p)
  let s := s.updXb d fun x => { x with queue := x.queue.filter fun e => !queuedFor p e }
  let s := s.updPort p fun x =>
    { x with cellar := returned unacked ++ x.cellar, timer := some (s.rd F.PT_CELLAR_CTRL_hold (portL p)) }
  let s := (s.wr F.PT_STATUS_cellar (portL p) 1).showCellar p
  s.forEach queued fun s e => (if e.held then s else s.chargeOut d e.out e.msg).cellarArrive p { e with held := false }

/-- The power domains of the port's quads and of its controller are On (Table 2.8). -/
def State.quadDom (s : State) (p : Nat) : Bool := s.domOn (portDie p) (portQuad p / 4) && s.domOn (portDie p) (4 + portQuad p / 4)

/-- The lanes of a link that goes down: all to Off where the port controller is disabled or fenced; otherwise each by its own row of
Table 3.3. -/
def State.lanesDown (s : State) (p cause : Nat) : State :=
  if cause = 5 ∨ cause = 6 ∧ !(s.flag F.PT_CTRL_port_en (portL p) && s.quadDom p) then s.lanesOff p
  else s.forEach (s.portLanes p) fun s x => s.laneAfresh p x

/-- A port in Identity or Up goes down with a cause of Table 4.7, `unacked` being the frames sent and not acknowledged. A flap flushes
and does not hold (R133). DESIGN CHOICE (log entry 127): a link lost in Identity while the port holds starts the hold afresh, with the
whole timer, and leaves down_reason as it was. PERST# or a hot reset of the host of a port that is not Up flushes nothing: the
partner's identity differs from then on (R125). -/
def State.linkDown (s : State) (p cause : Nat) (unacked : List QEnt) : State :=
  let l := portL p
  let was := s.pstate p
  let rate := s.rd F.PT_NEG_LINK_rate l
  let s := s.forEach [F.PT_CELLAR_CTRL_cellar_max, F.PT_CELLAR_CTRL_hold] fun s f => s.commitFld f l
  let s := ((s.wr F.PT_STATUS_pstate l (downState cause)).off F.PT_NEG_LINK_valid l).updPort p PortSt.noSearch
  let s := (s.lanesDown p cause).dropOwed p
  if was ≠ 4 then
    (if cause ≤ 2 then (if was = 3 ∧ s.holding p then s.holdStart p [] else s)
     else if cause = 3 ∧ s.role p = 0 then s.updPort p fun x => { x with hostReset := true }
     else (if s.holding p then s.flush p else s))
  else
    let s := (s.wr F.PT_STATUS_down_reason l cause).updPort p fun x => { x with hostReset := cause == 3, lastRate := rate }
    let s := s.ev F.PT_EVENT_link_down l p
    let s := s.bindPortDown p cause
    if cause ≤ 2 then
      let now := s.now (portDie p)
      let flap : Bool := match (s.port p).released with
        | some t => decide (now ≤ t + 100000 * usCycles)
        | none => false
      let again := s.inFlapWindow p
      if flap then
        let s := s.evC F.PT_EVENT_flap l p 2
        let s := (s.push (.copyFail (portDie p) p none 3)).flushAll p (returned unacked)
        s.push (.lasting p)
      else
        let s := s.holdStart p unacked
        if again then (s.evC F.PT_EVENT_link_down l p 2).push (.lasting p) else s
    else
      let s := (s.flush p).push (.copyFail (portDie p) p none 2)
      let s := s.push (.migPort p)
      if cause = 3 ∧ s.role p = 0 then (s.push (.vcsReset p)).push (.instReset p) else s

/-! ## The ladder of ports (R372 to R374) -/

/-- What a slot controller holds. -/
def State.slotSt (s : State) (p : Nat) : SlotSt := Tbl.getD s.slots p {}
/-- Change what a slot controller holds. -/
def State.updSlot (s : State) (p : Nat) (f : SlotSt → SlotSt) : State := { s with slots := Tbl.mod s.slots p {} f }

/-- The level of a slot's PERST# (R408, R373, Table 14.5): high only in On once perst_ms has passed, or in Stopping while
fc_lead runs, with perst_hold 0 and the port not fenced. SP_STATUS.perst shows it. -/
def State.setPerst (s : State) (p : Nat) : State :=
  let x := s.slotSt p
  let st := s.rd F.SP_STATUS_state (portL p)
  let high : Bool := ((st == 5 && x.perstTime) || (st == 6 && x.lead)) && !s.flag F.SP_CTRL_perst_hold (portL p)
    && s.pstate p != 5
  if s.isSlot p then s.wrB F.SP_STATUS_perst (portL p) (!high) else s

/-- The RAS unit fences a port (R373); a fence of a fenced port has no effect (R374). -/
def State.fence (s : State) (p reason : Nat) : State :=
  if s.pstate p = 5 then s
  else
    let d := portDie p
    let s := if s.pstate p = 4 then s.linkDown p 5 []
      else if s.holding p then (s.wr F.PT_STATUS_pstate (portL p) 5).flush p
      else (s.wr F.PT_STATUS_pstate (portL p) 5).push (.migPort p)
    let s := ((s.updPort p PortSt.noSearch).lanesOff p).setPerst p
    let s := (s.on (F.RS_FENCE_STATUS_fenced (portQuad p)) (dieL d)).wr F.RS_FENCE_STATUS_last_reason (dieL d) reason
    let s := s.evD F.RS_EVENT_fence (dieL d) p 3 reason
    if s.role p = 0 then (s.push (.instReset p)).loseSnoopsTo p
    else s.forEach (s.boundTo p) fun s di => s.emit (.containment di.1 di.2)

/-- A fence ends (R374): the port is Down and trains as usual, or Disabled where port_en is 0 or a domain is not On (Table 4.5). -/
def State.unfence (s : State) (p : Nat) : State :=
  if s.pstate p ≠ 5 then s
  else
    let d := portDie p
    let s := (s.wrB F.PT_STATUS_pstate (portL p) (s.flag F.PT_CTRL_port_en (portL p) && s.quadDom p)).off (F.RS_FENCE_STATUS_fenced (portQuad p)) (dieL d)
    (s.setPerst p).ev F.RS_EVENT_unfence (dieL d) p

/-- A lasting fault of a port (R372, R373): within the flap window, or once the cap has reached code 2, a fence; otherwise
max_rate of every quad becomes one code below the rate last run, not below 2, and the flap window starts. -/
def State.lastingFault (s : State) (p : Nat) : State :=
  let d := portDie p
  if s.pstate p = 5 then s
  else if s.inFlapWindow p ∨ (s.port p).capped2 then s.fence p 1
  else
    let cap := max 2 ((s.port p).lastRate - 1)
    let s := s.forEach (upTo (s.nQuads p)) fun s j => s.stage F.LQ_CTRL_max_rate (portL (p + j)) cap
    let t := s.now d + usCycles * (1000 * s.rd F.RS_CTRL_flap_window (dieL d))
    let s := s.updPort p fun x => { x with windowEnd := some t, capped2 := cap == 2 }
    s.evD F.RS_EVENT_rate_capped (dieL d) p 3 cap

/-- The port is disabled (R126, Table 4.7 cause 6): port_en, quad_en or its domains. -/
def State.portDisable (s : State) (p : Nat) : State :=
  match s.pstate p with
  | 0 | 5 => s
  | 4 => s.linkDown p 6 []
  | _ =>
    let s := if s.holding p then s.flush p else s
    let s := s.updPort p fun x => { x with settled := false, searching := false, negFailed := false }
    (s.wr F.PT_STATUS_pstate (portL p) 0).lanesOff p

/-- The port is enabled: it stands in Down until its training starts. -/
def State.portEnable (s : State) (p : Nat) : State :=
  if s.pstate p = 0 ∧ s.applied ∧ s.role p ≠ 3 ∧ s.flag F.PT_CTRL_port_en (portL p) ∧ s.quadDom p then
    s.wr F.PT_STATUS_pstate (portL p) 1
  else s

end Sys2Proof.Machine
end

