-- ==== Sys2Proof/Machine/ArriveOps.lean ====
section
/-! DEFINITION. A message arrives at a crossbar input (chapters 6 and 7): its cells (R188), the decode of a host's requests
(R219, R220), the mirror's choice and replication (R273, R277), back-invalidate and port-based routing (R224, R225), the
Attic's sampling (R518). -/

namespace Sys2Proof.Machine

/-! ## Requests of a host -/

/-- The line address that the Attic's filters see. -/
def atticMatch (s : State) (d addr : Nat) : Bool :=
  let l := dieL d
  let a := addr / 2 ^ 6 % 2 ^ 32
  (a &&& s.rd F.PM_ATTIC_AMASK_amask l) == (s.rd F.PM_ATTIC_AMATCH_amatch l &&& s.rd F.PM_ATTIC_AMASK_amask l)

/-- Is a request a candidate for the Attic (R518)? `hpa` is its host line address, `dev` its device line address, absent for
a decode that misses and for TC9 and TC10. -/
def State.atticCandidate (s : State) (d tc src vcs hpa : Nat) (dev : Option Nat) : Bool × Bool :=
  let l := dieL d
  let sel : Bool := match tc with
    | 1 => bitOf (s.rd F.PM_ATTIC_FILT_tc_sel l) 2
    | 3 => bitOf (s.rd F.PM_ATTIC_FILT_tc_sel l) 1
    | 4 => bitOf (s.rd F.PM_ATTIC_FILT_tc_sel l) 0
    | 9 => s.flag F.PM_ATTIC_FILT_tc9_sel l
    | 10 => s.flag F.PM_ATTIC_FILT_tc10_sel l
    | _ => false
  let hpaForm : Bool := dev.isNone || s.flag F.PM_ATTIC_CTRL_addr_kind l
  let a := if hpaForm then hpa else dev.getD 0
  (s.flag F.PM_ATTIC_CTRL_en l && sel
    && (s.flag F.PM_ATTIC_FILT_src_any l || s.rd F.PM_ATTIC_FILT_src l == src)
    && (s.flag F.PM_ATTIC_FILT_vcs_any l || s.rd F.PM_ATTIC_FILT_vcs l == vcs)
    && atticMatch s d a, hpaForm)

/-- Choose or skip a request for the Attic (R518): every 2^rate_log2-th candidate, or by chance with random, whose draw the
part's unspecified shift register makes: a free value. -/
def State.atticSelect (s : State) (d tc src vcs hpa : Nat) (dev : Option Nat) (dst : Nat) : Option Sample × State :=
  let l := dieL d
  let (cand, hpaForm) := s.atticCandidate d tc src vcs hpa dev
  if !cand then (none, s)
  else
    let n := 2 ^ s.rd F.PM_ATTIC_CTRL_rate_log2 l
    let out := s.rd F.PM_ATTIC_STATUS_outstanding l
    let room : Bool := decide (out < 64)
      && (!s.flag F.PM_ATTIC_CTRL_mode l || decide (s.atticFill d + out < 2048))
    if !room then (none, s.inc F.PM_CNT_MISC_attic_skip l)
    else
      let (take, s) : Bool × State :=
        if s.flag F.PM_ATTIC_CTRL_random l then (s.free % n == 0, s.useFree)
        else
          let k := Tbl.getD s.atticSeen d 0 + 1
          (k % n == 0, { s with atticSeen := Tbl.set s.atticSeen d (k % n) 0 })
      if take then (some ⟨s.now d, hpaForm, dst⟩, s.wr F.PM_ATTIC_STATUS_outstanding l (out + 1)) else (none, s)

/-- A decode that cannot be delivered is counted and logged (R220). -/
def State.noteMiss (s : State) (d v tc hpa : Nat) : State :=
  let l := dieL d
  let s := (s.inc F.BD_CNT_MISS_dec_miss l).pm d 0x5001 (portQuad v) 1
  let s := if s.flag F.BD_MISS_LOG_HI_valid l then s else
    let s := ((s.on F.BD_MISS_LOG_HI_valid l).wr F.BD_MISS_LOG_LO_hpa l hpa).wr F.BD_MISS_LOG_HI_tc l tc
    (s.wr F.BD_MISS_LOG_HI_vcs l v).wr F.BD_MISS_LOG_HI_hpa l (hpa / 2 ^ 26)
  s.ev F.BD_EVENT_dec_miss l (portQuad v)

/-- A host's request that is not delivered completes on the ingress die as the "other" rows give. -/
def State.turnedBack (s : State) (d v t : Nat) (m : Msg) : State :=
  match m.tc with
  | 0 => s.dropRecord v 0
  | _ => if takesTrk m.tc m.kind then s.completeOther d d t else s.dropRecord v m.tc

/-- A host's request whose decode cannot be delivered (R220) is noted and turned away. -/
def State.decodeMiss (s : State) (d v t : Nat) (m : Msg) : State := (s.noteMiss d v m.tc m.addr).turnedBack d v t m

/-- A request would use a mirror entry that a double-bit error has spoilt (R377). -/
def State.spoiltMir (s : State) (d g : Nat) : Bool :=
  s.spoiltBy d fun x => match x with
    | .mirror i => i == g
    | _ => false

/-- A mirrored read goes to one copy, chosen among the Healthy ones (R277); with none it completes with poison (R285). -/
def State.mirrorRead (s : State) (d input : Nat) (mid : Option Nat) (t g : Nat) (x : Trk) (m : Msg) : State :=
  match (s.mir d g).choose (s.grp d g) d x.addr with
  | none => (s.freeCopy d mid).poisonOut d d t
  | some c =>
    let (p, l) := grpCopy (s.grp d g) c
    let s := (s.putTrk d t { x with readB := c == 1 }).pm d 0x7000 g 1
    s.push (.home d input mid { m with dst := p, ld := l, addr := (s.mir d g).lineOf c x.addr })

/-- A mirrored write is sent to each copy that is Healthy or Resilvering (R273); with none, or with lost set, it completes to
the host and is recorded as lost (R285). `via` names copy A's home die when at_home is 1 (R264, R269). -/
def State.mirrorWrite (s : State) (d input : Nat) (mid : Option Nat) (t g : Nat) (x : Trk) (m : Msg) (via : Option Nat) :
    State :=
  let e := s.mir d g
  let cs := if e.lost then [] else [0, 1].filter e.writable
  if cs.isEmpty then (s.freeCopy d mid).completeOther d d t
  else
    let s := s.putTrk d t { x with a := if cs.contains 0 then .out else .unsent, b := if cs.contains 1 then .out else .unsent }
    let s := (s.setCopies d mid cs.length).pm d 0x7001 g 1
    s.forEach cs fun s c =>
      let (p, l) := grpCopy (s.grp d g) c
      s.push (.home d input mid { m with dst := p, ld := l, addr := e.lineOf c x.addr, copy := c, grp := some g, via := via })

/-- May a group be read for a mirrored write (R203): valid, a mirror, and TC4 in its class_mask? -/
def mirrorsWrites (g : List Nat) : Bool := grpValid g && grpKind g == 1 && grpClass g 4

/-- A posted CXL.io write of a mirrored range goes to one copy that takes writes, chosen on copy A's home die when at_home is 1 (R269; log
entry 152); with none it is recorded as lost (R285). -/
def State.mirrorPosted (s : State) (d input : Nat) (mid : Option Nat) (g : Nat) (x : Trk) (m : Msg) : State :=
  let e := s.mir d g
  if e.atHome then s.push (.home d input mid { m with via := some (portDie (grpCopy (s.grp d g) 0).1), grp := some g })
  else match e.postedTo with
    | none => (s.freeCopy d mid).lostWriteAt d d x
    | some c =>
      let (p, l) := grpCopy (s.grp d g) c
      s.push (.home d input mid { m with dst := p, ld := l, addr := e.lineOf c x.addr })

/-- A decoded memory request goes on: to its target alone, or by its mirrored range (R269, R271, R273, R277). A write whose group
is bad is discarded with grp_miss, and completes as the "TC4 write, other" row (R203); one whose mirror entry is spoilt as the "other" rows
give (R377). -/
def State.decoded (s : State) (d input : Nat) (mid : Option Nat) (t : Nat) (x : Trk) (m : Msg) (grp : Nat) : State :=
  if grp = 0 then s.push (.home d input mid m)
  else if s.spoiltMir d grp then (s.freeCopy d mid).turnedBack d m.src t m
  else
    let e := s.mir d grp
    if !e.inRange x.addr then
      let s := (s.inc F.MR_CNT_MISC_out_of_range (dieL d)).ev F.MR_EVENT_out_of_range (dieL d) grp
      s.push (.home d input mid m)
    else if !tracked m then s.mirrorPosted d input mid grp x m
    else
      let h := portDie (grpCopy (s.grp d grp) 0).1
      let x := { x with mirror := some grp, atHome := e.atHome }
      let s := s.putTrk d t x
      if writesMem m.kind then
        (if mirrorsWrites (s.grp d grp) then s.mirrorWrite d input mid t grp x m (if e.atHome then some h else none)
        else ((s.freeCopy d mid).grpMiss d input).completeOther d d t)
      else if e.atHome then s.push (.home d input mid { m with via := some h })
      else if readsMem m.kind then s.mirrorRead d input mid t grp x m
      else s.push (.home d input mid m)

/-- The mirrored range of a decoder takes a request (R271): the decode can be delivered though the port of copy A is down. -/
def State.mirrors (s : State) (d g : Nat) (m : Msg) (line : Nat) : Bool :=
  let e := s.mir d g
  g != 0 && toMemory m.kind && e.inRange line
    && (if tracked m then e.atHome || writesMem m.kind || readsMem m.kind else e.postedTo != some 0)

/-- A decode that hits can be delivered (R220): its vPPB is Bound, and its port is Up or holding or a mirrored range takes the request. -/
def State.usable (s : State) (d i : Nat) (b : Vppb) (m : Msg) (line : Nat) : Bool :=
  b.state == 2 && (s.portUp b.port || s.holding b.port || s.mirrors d (s.dec d i).grp m line)

/-- Decode a host's memory request (R219), with a tracker entry for the classes that need one (R32), and send it on. -/
def State.hostRequest (s : State) (d input v : Nat) (mid : Option Nat) (t : Nat) (m : Msg) : State :=
  let s := s.pm d 0x5000 (portQuad v) 1
  let tracked := takesTrk m.tc m.kind
  let x0 : Trk := { src := v, ptag := m.ptag, tc := m.tc, kind := m.kind, opcode := m.opcode, vcs := some v, hpa := m.addr,
                    time := s.now d, tlp := if m.tc = 1 then some m else none }
  let put (s : State) (x : Trk) : State := if tracked then s.putTrk d t x else s
  match s.decode v m.addr with
  | .miss =>
    let (sm, s) := s.atticSelect d m.tc v v m.addr none 0
    let s := (put s { x0 with sample := sm }).freeCopy d mid
    if s.spoiltDec v m.addr then s.turnedBack d v t m else s.decodeMiss d v t m
  | .hit i sl line =>
    let b := s.vppb d sl
    let (sm, s) := s.atticSelect d m.tc v v m.addr (some line) b.port
    let x := { x0 with slot := some sl, port := b.port, ld := b.ld, addr := line, sample := sm }
    let s := put s x
    if !s.usable d i b m line then
      ((if b.state == 2 then s.noteLoss d b.port (if tracked then s.trk d t else none) else s).freeCopy d mid).decodeMiss d v t m
    else
      let m := { m with dst := b.port, src := v, ld := b.ld, addr := line, trkDie := d, trk := t }
      s.decoded d input mid t x m (if toMemory m.kind then (s.dec d i).grp else 0)

/-- A message that holds a tracker entry without being decoded: routed to `dst`, by vPPB slot `sl` when it goes by one (R223,
R518). -/
def State.trackedTo (s : State) (d input v : Nat) (mid : Option Nat) (t : Nat) (m : Msg) (dst ld : Nat) (sl : Option Nat) :
    State :=
  let (sm, s) := s.atticSelect d m.tc m.src v m.addr none dst
  let x : Trk := { src := m.src, ptag := m.ptag, tc := m.tc, kind := m.kind, opcode := m.opcode, vcs := some v, hpa := m.addr,
                   slot := sl, port := dst, ld := ld, addr := m.addr, time := s.now d, sample := sm }
  let s := if takesTrk m.tc m.kind then s.putTrk d t x else s
  s.route d input mid (if takesTrk m.tc m.kind then { m with dst := dst, ld := ld, trkDie := d, trk := t }
    else { m with dst := dst, ld := ld })

/-- The vPPB slot of a VCS whose bus range holds a bus number (R223). -/
def State.slotByBus (s : State) (v bus : Nat) : Option Nat :=
  (s.slotsOf v).find? fun i =>
    let b := s.vppb (portDie v) i
    b.state == 2 && b.secBus != 0 && decide (b.secBus ≤ bus) && decide (bus ≤ b.subBus)

/-- How a message of CXL.io that is no memory request is routed (R223). PRESUMED (log entry 153): a TC0 message by the low three bits of its
opcode, as in PCI Express: 0 and 5 to the root, 1 by address, 2 by ID, 3 from the root to every port, the others end where they arrive;
any other by ID. -/
def msgWay (m : Msg) : Nat := if m.tc = 0 ∧ m.kind = .ioMsg then m.opcode % 8 else 2

/-- A message from the root goes to the port of every Bound vPPB of its VCS (R223). -/
def State.broadcast (s : State) (d input v : Nat) (mid : Option Nat) (m : Msg) : State :=
  let is := (s.slotsOf v).filter fun i => (s.vppb (portDie v) i).state == 2
  if is.isEmpty then s.freeCopy d mid
  else (s.setCopies d mid is.length).forEach is fun s i =>
    let b := s.vppb (portDie v) i
    s.route d input mid { m with src := v, dst := b.port, ld := b.ld }

/-- A sibling vPPB whose memory window claims an address of a device's request, where access control allows it (R223).
Windows are in units of 1 MiB, 2^14 lines. -/
def State.slotByWindow (s : State) (v own line : Nat) : Option Nat :=
  (s.slotsOf v).find? fun i =>
    let b := s.vppb (portDie v) i
    i != own && b.state == 2 && !Config.acsUpstream (s.vppb (portDie v) own).cfg
      && ((decide (b.memBase ≤ line / 2 ^ 14) && decide (line / 2 ^ 14 ≤ b.memLimit) && b.memLimit != 0)
        || (decide (b.prefBase ≤ line / 2 ^ 14) && decide (line / 2 ^ 14 ≤ b.prefLimit) && b.prefLimit != 0))

/-- TC4 requests of a host port to a line that have not had their NDR (R254). -/
def State.earlierWrites (s : State) (d v p ld line : Nat) : List Nat :=
  ((s.trksOf d).filter fun e =>
    e.2.src == v && e.2.tc == 4 && e.2.port == p && e.2.ld == ld && e.2.addr == line).map Prod.fst

/-- A BIRsp of an agent line goes to the agent on the home die of its pair (R247, R254): there it is taken on a path of its own
(Table 8.9, rule 1). -/
def State.toAgent (s : State) (d input : Nat) (mid : Option Nat) (m : Msg) : State :=
  if portDie m.dst = d then (s.freeCopy d mid).birsp d m.biTag m.biId m.kind else s.route d input mid m

/-- A BIConflict as it travels inside the part, after HDM decode (R255, Table 8.8): in TC5 for an agent-managed pair, in TC3 as the
standard carries it otherwise. -/
def State.conflictTc (s : State) (v : Nat) (m : Msg) : Nat :=
  match s.decode v m.addr with
  | .hit _ sl _ => if s.agentPair (s.vppb (portDie v) sl).port (s.vppb (portDie v) sl).ld then 5 else 3
  | .miss => 3

/-- The line of an outstanding snoop of the agent, by its pair, its VCS and its BITag. -/
def State.snoopLine (s : State) (p l v tag : Nat) : Option Nat :=
  match Tbl.get (s.cad (portDie p)).slots tag with
  | some w => if w.vcs = v ∧ w.quad = portQuad p ∧ w.ld = l then some w.line else none
  | none => none

/-- A BIRsp or BIConflict of a host (R224, R254, R255): a BIConflict goes to the agent of its line; a BIRsp goes by its BI-ID to
(p, l) and then carries the VCS; one for an agent line is held until the earlier writes of the line have their NDR. -/
def State.hostTc5 (s : State) (d input v : Nat) (mid : Option Nat) (m : Msg) : State :=
  if m.kind = .biConflict then
    match s.decode v m.addr with
    | .miss => (s.freeCopy d mid).route d 31 none (made { tc := 6, kind := .biConflictAck, dst := v, ptag := m.ptag })
    | .hit _ sl line =>
      let b := s.vppb d sl
      let m := { m with dst := b.port, ld := b.ld, addr := line, src := v }
      if portDie b.port = d then (s.freeCopy d mid).push (.biConflict d m) else s.route d input mid m
  else
    let p := m.biId / 16
    let l := m.biId % 16
    let m := { m with dst := p, ld := l, src := v, biId := v }
    if s.agentPair p l then
      let line := s.snoopLine p l v m.biTag
      let after := match line with
        | some a => s.earlierWrites d v p l a
        | none => []
      let m := { m with addr := line.getD 0 }
      if after.isEmpty then s.toAgent d input mid m
      else { s with heldRsp := Tbl.put s.heldRsp d ((Tbl.getD s.heldRsp d []) ++ [⟨m, after, input, mid⟩]) }
    else s.route d input mid m

/-- A BISnp from a device (R224, R238): to the upstream port of the VCS its BI-ID names, with the device's host-facing BI-ID;
dropped when the pair is agent-managed, or when the VCS has no Bound vPPB on the pair. -/
def State.deviceSnoop (s : State) (d input p : Nat) (mid : Option Nat) (m : Msg) : State :=
  let l := dieL d
  let q := portQuad p
  if s.agentPair p m.ld then
    ((s.freeCopy d mid).inc F.CA_CNT_MISC_dev_bi_drop l).ev F.CA_EVENT_dev_bi_drop l q
  else if (s.bindings p m.ld).any fun di => (s.vppb di.1 di.2).state == 2 && (s.vppb di.1 di.2).vcs == m.biId then
    s.route d input mid { m with dst := m.biId, src := p, biId := p * 16 + m.ld }
  else ((s.freeCopy d mid).inc F.BD_CNT_MISC_bi_misroute l).ev F.BD_EVENT_bi_misroute l q

/-- The VCS and the vPPB slot that a device (port, LD) sends to: its first Bound binding on its own die's table or another's. DESIGN
CHOICE (log entry 150): the spec does not say which one it is for a pair that several VCSs share; it is the first by die and slot. -/
def State.boundVcs (s : State) (p l : Nat) : Option (Nat × Nat) :=
  ((s.bindings p l).find? fun di => (s.vppb di.1 di.2).state == 2).map fun di => ((s.vppb di.1 di.2).vcs, di.2)

/-- The PID whose entry names a port (Table 7.14). DESIGN CHOICE (log entry 151): the spec does not say which one where several entries
name it; it is the lowest, whatever its LD. -/
def State.spidOf (s : State) (d p : Nat) : Option Nat :=
  ((List.filter (fun e => (Nat.unpair e.1).1 == d && bitOf e.2 31 && bitsOf e.2 30 24 == p) s.pids).map fun e =>
    (Nat.unpair e.1).2).head?

/-- A message in port-based format is routed by its DPID (R225); an invalid one is a decode miss. -/
def State.pbrRoute (s : State) (d input p : Nat) (mid : Option Nat) (t : Nat) (m : Msg) : State :=
  let e := Tbl.getD s.pids (key2 d m.pid) 0
  if bitOf e 31 then
    s.trackedTo d input p mid t { m with src := p } (bitsOf e 30 24) (bitsOf e 23 20) none
  else
    let x : Trk := { src := p, ptag := m.ptag, tc := m.tc, kind := m.kind, opcode := m.opcode, hpa := m.addr, time := s.now d }
    let s := if takesTrk m.tc m.kind then s.putTrk d t x else s
    (s.freeCopy d mid).decodeMiss d p t m

/-! ## Arrival -/

/-- A header with a reserved tc, destination or source, or more than 9 data cells (R184). -/
def malformed (m : Msg) : Bool := decide (11 < m.tc) || !dstOk m.dst || !dstOk m.src || decide (9 < m.cells)

/-- What becomes of a message from a Casub link, once it has its cells: to its tracker, to the lookups of its home die, or on
its way (R28, R176, R222). A message is relayed at most once: one that a third die has relayed and that is not at its
destination has no path. -/
def State.fromCasub (s : State) (d input : Nat) (mid : Option Nat) (m : Msg) : State :=
  if nextDie m ≠ d ∧ m.relay then s.push (.lostPath d ⟨mid, input, 16, m, false⟩)
  else if nextDie m ≠ d then
    let s := if takesTrk m.tc m.kind ∨ isResponse m then s.updTrk m.trkDie m.trk fun x => { x with relayed := true } else s
    s.route d input mid { m with relay := true }
  else
    if isResponse m then
      (if m.trkDie = d ∧ (s.trk d m.trk).isSome then s.response d input mid m
      else s.route d input mid { m with relay := false })
    else match m.tc with
    | 5 =>
      if m.kind = .biConflict then (s.freeCopy d mid).push (.biConflict d m)
      else if s.agentPair m.dst m.ld then s.toAgent d input mid m
      else s.route d input mid { m with relay := false }
    | _ => s.push (.home d input mid { m with relay := false })

/-- A TLP of host port `p` goes by its bus number (R223). A write to the configuration space of a shared device by a host that does not own
it is completed, discarded and counted (R213). -/
def State.hostById (s : State) (d input p : Nat) (mid : Option Nat) (t : Nat) (m : Msg) : State :=
  let x : Trk := { src := p, ptag := m.ptag, tc := m.tc, kind := m.kind, opcode := m.opcode, vcs := some p, time := s.now d }
  match s.slotByBus p m.bus with
  | some i =>
    let b := s.vppb d i
    if m.tc = 1 ∧ m.kind = .ioCfg ∧ 1 < m.cells ∧ s.notOwner d i then
      (((s.freeCopy d mid).inc F.BD_CNT_MISC_shared_cfg_wr (dieL d)).putTrk d t { x with slot := some i, port := b.port, ld := b.ld }).complete
        d t .ioCpl false false .i [] none
    else s.trackedTo d input p mid t { m with src := p } b.port b.ld (some i)
  | none =>
    let s := s.freeCopy d mid
    if m.tc = 1 then (s.putTrk d t x).completeOther d d t else s.dropRecord p 0

/-- A request into BAR2 of function 2 of FM port `p` goes to the Hatch of the die that holds the address, in its class (R424). On its way its
address is that of the register space. -/
def State.toSpace (s : State) (d input p : Nat) (mid : Option Nat) (t : Nat) (m : Msg) (o : Nat) : State :=
  let dst := 0x88 + s.hatchOf d o
  let x : Trk := { src := p, ptag := m.ptag, tc := m.tc, kind := m.kind, opcode := m.opcode, vcs := some p, hpa := m.addr, port := dst, addr := o / 64,
                   time := s.now d }
  let m : Msg := { m with src := p, dst := dst, ld := 0, addr := o / 64 }
  if takesTrk m.tc m.kind then (s.putTrk d t x).route d input mid { m with trkDie := d, trk := t } else s.route d input mid m

/-- A memory request of host port `p` goes on: into a BAR of its function 2 (R419) or 1 (R350), or by its decode (R219). -/
def State.hostMem (s : State) (d input p : Nat) (mid : Option Nat) (t : Nat) (m : Msg) : State :=
  match s.fn2Off p m with
  | some (true, o) => s.toSpace d input p mid t m o
  | some (false, _) => s.push (.mbox d mid t { m with src := p })
  | none =>
    if (s.bar0Off p m).isSome then s.push (.bar0 d input mid t { m with src := p }) else s.hostRequest d input p mid t m

/-- A CXL.io TLP of host port `p` goes on: a memory request by its address; a message by its own routing (R223), where one that is for the
root does not come from there. -/
def State.hostIo (s : State) (d input p : Nat) (mid : Option Nat) (t : Nat) (m : Msg) : State :=
  if toMemory m.kind then s.hostMem d input p mid t m
  else match msgWay m with
    | 2 => s.hostById d input p mid t m
    | 3 => s.broadcast d input p mid m
    | 0 | 5 => (s.freeCopy d mid).dropRecord p 0
    | _ => s.freeCopy d mid

/-- A message from host port `p` goes on (R219 to R222). -/
def State.fromHost (s : State) (d input p : Nat) (mid : Option Nat) (t : Nat) (m : Msg) : State :=
  match m.tc with
  | 3 | 4 => s.hostRequest d input p mid t m
  | 0 | 1 => s.hostIo d input p mid t m
  | 5 => s.hostTc5 d input p mid m
  | _ => if isResponse m then s.response d input mid m else s.trackedTo d input p mid t { m with src := p } m.dst m.ld none

/-- Where a device's TLP goes in its VCS by the rules of a switch (R223): by bus number for a TLP that is not a memory request,
by a sibling's memory window for one that is; upstream otherwise. -/
def State.peerOf (s : State) (v own : Nat) (m : Msg) : Option Nat :=
  if m.tc = 10 ∨ msgWay m = 0 ∨ msgWay m = 5 then none
  else if toMemory m.kind ∨ msgWay m = 1 then s.slotByWindow v own m.addr
  else (s.slotByBus v m.bus).filter fun i => i != own

/-- The NDR of copy `c` of a mirrored write under at_home passes (R250, R276): the overlay counts the copy no more, and the Loft the write
once every copy that is out has been answered. -/
def State.copySeen (s : State) (p : Nat → Bool) (d t c : Nat) : State :=
  match s.trk d t with
  | none => s
  | some x =>
    let x := { x with seen := if x.seen.contains c then x.seen else x.seen ++ [c] }
    let s := (s.putTrk d t x).noteSlots p d t
    if (!x.copyOut 0 || x.seen.contains 0) && (!x.copyOut 1 || x.seen.contains 1) then s.noteLoft p d t else s

/-- A device response passes the home die (R250): the Loft and the overlay count its request no more. With at_home the responses of
both copies pass copy A's home die, and a read that is to be re-read is counted until its repaired data leaves (R279). -/
def State.passed (s : State) (d : Nat) (m : Msg) : State :=
  if m.ovTag then s
  else match s.trk m.trkDie m.trk with
    | none => s
    | some x =>
      if x.mirror.isSome ∧ x.atHome then
        let p (k : Nat) : Bool := k == d || k == s.chooser m.trkDie x
        (if x.tc = 4 then s.copySeen p m.trkDie m.trk m.copy
        else if m.poison ∧ readsData x.kind ∧ !x.reread ∧ s.otherHealthy m.trkDie x then s
        else s.noteAt p m.trkDie m.trk)
      else s.noteAt (fun k => k == d) m.trkDie m.trk

/-- A message from the device of port `p` goes on, whichever die the port and its VCS are on (R21, R223, R224). -/
def State.fromDevice (s : State) (d input p : Nat) (mid : Option Nat) (t : Nat) (m : Msg) : State :=
  if isResponse m then (s.passed d m).response d input mid m
  else match m.tc with
  | 8 => s.deviceSnoop d input p mid m
  | 0 | 1 | 10 =>
    if msgWay m = 3 then (s.freeCopy d mid).dropRecord p 0
    else if msgWay m = 4 ∨ 5 < msgWay m then s.freeCopy d mid
    else match s.boundVcs p m.ld with
    | none =>
      let s := s.freeCopy d mid
      if takesTrk m.tc m.kind then
        (s.putTrk d t { src := p, ptag := m.ptag, tc := m.tc, kind := m.kind, time := s.now d }).completeOther d d t
      else s.dropRecord p m.tc
    | some (v, own) =>
      match s.peerOf v own m with
      | some i => s.trackedTo d input v mid t { m with src := p } (s.vppb (portDie v) i).port (s.vppb (portDie v) i).ld (some i)
      | none => s.trackedTo d input v mid t { m with src := p } v 0 none
  | _ => s.trackedTo d input p mid t { m with src := p } m.dst m.ld none

/-- What becomes of a message from a port of the die (R219 to R225). -/
def State.fromPort (s : State) (d input : Nat) (mid : Option Nat) (t : Nat) (m : Msg) : State :=
  let p := s.ownerPort (portNo d input)
  if m.pbr ∧ s.flag F.PT_NEG_PROTO_pbr (portL p) ∧ !isResponse m then s.pbrRoute d input p mid t m
  else
    match m.grp with
    | some g => s.replicate d input mid { m with src := p } g
    | none =>
      if s.role p = 0 then s.fromHost d input p mid t m else s.fromDevice d input p mid t m

/-- A message whose cells are its own, and that has its tracker entry, is stored and goes on by where it came from. -/
def State.arriveIn (s : State) (d input : Nat) (m : Msg) (part : LPart) (fl sh t : Nat) : State :=
  let (mid, s) := s.putIn d { input := input, cls := m.tc, part := part, floor := fl, shared := sh, copies := 1 }
  let s := s.pm d 0x3000 input m.size
  if part ≠ .port then s.fromCasub d input (some mid) m
  else if input < 16 then (s.owe (s.ownerPort (portNo d input)) input m).fromPort d input (some mid) t m
  else
    let m := { m with src := if input = 30 then 0x80 + d else 0x88 + d }
    if isResponse m then s.response d input (some mid) m
    else if toMemory m.kind then
      let x : Trk := { src := m.src, ptag := m.ptag, tc := m.tc, kind := m.kind, opcode := m.opcode,
                       port := m.dst, ld := m.ld, addr := m.addr, time := s.now d }
      if takesTrk m.tc m.kind then (s.putTrk d t x).push (.home d input (some mid) { m with trkDie := d, trk := t })
      else s.push (.home d input (some mid) m)
    else s.trackedTo d input 0 (some mid) t m m.dst m.ld none

/-- A message arrives at input `input` of die `d` (R184, R188, R189, R33): a malformed one is discarded; one that comes without a
credit, so that no cells are held for it and none can be taken, stays with its sender, as does one that needs a tracker entry while
every entry of the die is in use: no port of the die then returns credit for its class. Any other takes its cells and goes on. `own`
names a port whose die-side logic the RAS unit finds to be the source of a malformed message (Table 13.4). -/
def State.arrive (s : State) (d input : Nat) (m : Msg) (own : Option Nat) : State :=
  let casub : Bool := decide (16 ≤ input) && decide (input < 30)
  let site := (input - 16) / 2
  if casub ∧ malformed m then
    let s := (s.inc F.XB_CNT_ERR_hdr_err (dieL d)).ev F.XB_EVENT_hdr_err (dieL d) site
    let s := if m.tc < 12 then s.giveCredit d site m.tc m.cells else s
    match own with
    | some p => s.push (.fence p 5)
    | none => s.push (.siteFault d site)
  else
    let need : Bool := takesTrk m.tc m.kind && !casub
    let t := if need then s.freeTrk d else some 0
    let part := if casub then (if nextDie m != d then LPart.relay site else LPart.casub site) else LPart.port
    let got := if casub then some ((m.size, 0), s) else s.useCredit d input m.tc m.size
    match got, t with
    | none, _ => s.withhold d input m.tc m.size
    | some _, none => s
    | some ((fl, sh), s), some t => s.arriveIn d input m part fl sh t

/-- A BIConflict is answered (R255): after the final completion of the host's conflicting request, when the agent has forwarded or
completed that, at once otherwise. The request is the one of the host's tracker that the agent has granted. -/
def State.biConflict (s : State) (m : Msg) : State :=
  let v := m.src
  let di := portDie v
  match (s.trksOf di).find? fun e => e.2.src == v && e.2.agent && e.2.port == m.dst && e.2.ld == m.ld && e.2.addr == m.addr with
  | some e => s.updTrk di e.1 fun x => { x with conflict := x.conflict ++ [m.ptag] }
  | none => s.route di 31 none (made { tc := 6, kind := .biConflictAck, dst := v, ptag := m.ptag, trkDie := di })

/-- Held BIRsp whose earlier writes have all had their NDR go on (R254). -/
def State.releaseBirsp (s : State) (d : Nat) : State :=
  let hs := Tbl.getD s.heldRsp d []
  let s := { s with heldRsp := Tbl.set s.heldRsp d (hs.filter fun h => !h.after.isEmpty) [] }
  s.forEach (hs.filter fun h => h.after.isEmpty) fun s h => s.toAgent d h.input h.mid h.msg

end Sys2Proof.Machine
end

