-- ==== Sys2Proof/Machine/FlitCode.lean ====
section
/-! DEFINITION. The bytes of a Casub flit: the message header (Table 6.1), the slots (R140, R141), the flit header
(Table 5.3), CRC-64 and the Reed–Solomon parity (R142), the lane of a byte (R143), the marker word (Table 5.7). -/

namespace Sys2Proof.Machine

/-- The bytes of an `n`-byte number, most significant first. -/
def bytesBE (n v : Nat) : List Nat := (upTo n).map fun i => v / 2 ^ (8 * (n - 1 - i)) % 256

/-- The header slot of a message (Table 6.1). -/
def headerSlot (m : Msg) : Nat :=
  2 ^ 124 * (m.tc % 16) + 2 ^ 116 * (m.dst % 256) + 2 ^ 108 * (m.src % 256) + 2 ^ 104 * (m.cells % 16)
    + 2 ^ 103 * b2n m.ext + 2 ^ 102 * b2n m.poison + 2 ^ 101 * b2n m.relay + 2 ^ 100 * (m.copy % 2)
    + 2 ^ 97 * (m.trkDie % 8) + 2 ^ 83 * (m.trk % 2 ^ 14) + 2 ^ 75 * (m.opcode % 256) + 2 ^ 71 * (m.ld % 16)
    + 2 ^ 25 * (m.addr % 2 ^ 46) + 2 ^ 16 * (Config.headerMeta m.kind.ctorIdx m.mv.ctorIdx % 2 ^ 9) + m.ptag % 2 ^ 16

/-- A pad header (Table 6.1). -/
def padSlot : Nat := 15 * 2 ^ 124

/-- The four slots of a data cell; byte k of the cell is bits 8k + 7 to 8k of its number, and bytes go out in ascending
order. -/
def cellSlots (v : Nat) : List Nat :=
  (upTo 4).map fun i => ((upTo 16).map fun j => 2 ^ (8 * (15 - j)) * (v / 2 ^ (8 * (16 * i + j)) % 256)).sum

/-- All slots of a message: one header slot and then its data slots (R141). -/
def msgSlots (m : Msg) : List Nat := headerSlot m :: ((upTo m.cells).map fun i => cellSlots (m.data.getD i 0)).flatten

/-- The flit header (Table 5.3); the types are listed in the order of their codes. -/
def flitHeader (f : Flit) (xoff : Bool) : Nat :=
  2 ^ 61 * f.type.ctorIdx + 2 ^ 51 * (f.seq % 1024) + 2 ^ 41 * (f.ack % 1024) + 2 ^ 27 * (f.slotStart % 2 ^ 14)
    + (if xoff then 2 ^ 6 * (f.crCount % 2 ^ 12)
       else 2 ^ 26 * (f.crKind % 2) + 2 ^ 22 * (f.crClass % 16) + 2 ^ 6 * (f.crCount % 2 ^ 16))

/-- One bit of the ECMA-182 CRC-64 register, not reflected (R142). -/
def crcShift (r : Nat) : Nat :=
  if bitOf r 63 then (r * 2 % 2 ^ 64) ^^^ 0x42F0E1EBA9EA3693 else r * 2

/-- One byte of the CRC-64. -/
def crcByte (r b : Nat) : Nat :=
  let r := r ^^^ (2 ^ 56 * b)
  crcShift (crcShift (crcShift (crcShift (crcShift (crcShift (crcShift (crcShift r)))))))

/-- CRC-64 of bytes: starts at all ones, and the result is XORed with all ones (R142). -/
def crc64 (bs : List Nat) : Nat := bs.foldl crcByte (2 ^ 64 - 1) ^^^ (2 ^ 64 - 1)

/-- Doubling in GF(2^8) with the polynomial x^8 + x^4 + x^3 + x^2 + 1 (R142). -/
def gfDouble (a : Nat) : Nat := if a < 128 then a * 2 else (a * 2) ^^^ 0x11D

/-- α^i · a. -/
def gfPow (i a : Nat) : Nat := match i with
  | 0 => a
  | i + 1 => gfPow i (gfDouble a)

/-- Product in GF(2^8). -/
def gfMul (a b : Nat) : Nat := (upTo 8).foldl (fun r i => if bitOf b i then r ^^^ gfPow i a else r) 0

/-- A polynomial, highest power first, times (x + α^i). -/
def gfTimesRoot (p : List Nat) (i : Nat) : List Nat :=
  List.zipWith (fun a b => a ^^^ gfMul b (gfPow i 1)) (p ++ [0]) (0 :: p)

/-- The generator with roots α^0 to α^7 (R142), highest power first. -/
def rsGen : List Nat := (upTo 8).foldl gfTimesRoot [1]

/-- One step of systematic encoding: the eight parity symbols after one more symbol. -/
def rsStep (par : List Nat) (b : Nat) : List Nat :=
  let k := b ^^^ par.headD 0
  List.zipWith (fun p g => p ^^^ gfMul g k) (par.drop 1 ++ [0]) (rsGen.drop 1)

/-- The parity of one codeword. -/
def rsParity (bs : List Nat) : List Nat := bs.foldl rsStep (List.replicate 8 0)

/-- The even or the odd members of a list. -/
def everyOther (odd : Bool) (bs : List Nat) : List Nat :=
  ((upTo bs.length).filter fun i => (i % 2 == 1) == odd).map fun i => bs.getD i 0

/-- The 256 bytes of a flit (Table 5.2): header, fourteen slots, CRC, parity of the two interleaved codewords. DESIGN CHOICE
(log entry 129): the spec does not say where the fields of a command lie in the slots of a CMD flit; its slots are sent as pad
headers here, and the command travels as the field `cmd` of the flit. -/
def flitBytes (f : Flit) (xoff : Bool) : List Nat :=
  let body := bytesBE 8 (flitHeader f xoff) ++ ((upTo 14).map fun i => bytesBE 16 (f.slots.getD i padSlot)).flatten
  let body := body ++ bytesBE 8 (crc64 body)
  let p0 := rsParity (everyOther false body)
  let p1 := rsParity (everyOther true body)
  body ++ ((upTo 8).map fun i => [p0.getD i 0, p1.getD i 0]).flatten

/-- The logical lane on which byte `b` of a flit goes at width `w` (R143). -/
def laneOfByte (w b : Nat) : Nat := (b + b / w) % w

/-- The lanes of a width code (Table 5.7). -/
def widthOf (code : Nat) : Nat := [32, 16, 8].getD code 8

/-- The physical lane of logical lane `k`: the k-th lowest of the map (R143). -/
def mapLane (m : LaneMap) (k : Nat) : Option Nat := m.lanes[k]?

/-- The bits of a byte in the order sent, most significant first (R143); half speed sends each bit twice (R167). -/
def byteBits (speed b : Nat) : List Bool :=
  ((upTo 8).map fun i => List.replicate (speed + 1) (bitOf b (7 - i))).flatten

/-- What each physical lane of a map carries of bytes sent in ascending order (R143). -/
def laneBits (m : LaneMap) (bs : List Nat) : List (Nat × List Bool) :=
  let w := widthOf m.width
  (upTo w).filterMap fun k => (mapLane m k).map fun lane =>
    (lane, (((upTo bs.length).filter fun b => laneOfByte w b == k).map fun b => byteBits m.speed (bs.getD b 0)).flatten)

/-- The marker word that names a map (Table 5.7). -/
def markerWord (m : LaneMap) : Nat :=
  let hi := m.epoch % 16 * 16 + m.width % 4 * 4 + m.speed % 2 * 2
  0xF0C3A55A3C0F * 2 ^ 16 + 2 ^ 8 * hi + (255 - hi)

/-- A marker that names map `m`, as the lanes of map `old` carry it: the word 32/W times in a row at width W (R169). -/
def markerLanes (old m : LaneMap) : List (Nat × List Nat) :=
  old.lanes.map fun lane => (lane, List.replicate (32 / widthOf old.width) (markerWord m))

/-- Does one lane's word recognise as a marker (R169): at most 4 bit errors in sync, and check the inverse of bits [15:8]? -/
def markerSeen (w : Nat) : Option Nat :=
  let hi := bitsOf w 15 8
  if popCount 48 ((w / 2 ^ 16) ^^^ 0xF0C3A55A3C0F) ≤ 4 ∧ bitsOf w 7 0 = 255 - hi then some hi else none

end Sys2Proof.Machine
end

