-- ==== Sys2Proof/Machine/CasubOps.lean ====
section
/-! DEFINITION. The Casub links (chapter 5): lane maps and re-evaluation (R167, R168), site states (Table 5.9), hand-over and
lost paths (R174 to R177, R380), credits and XOFF (R154 to R161), the audit (R163), sending and receiving a flit (R140 to
R153). The two ends of a site leave a state together; log entry 60. -/

namespace Sys2Proof.Machine

/-! ## Lanes and maps -/

/-- The two ends of a site, as dies. -/
def State.ends (s : State) (d t : Nat) : List Nat := [d, s.part.peerDie d t]
/-- Lanes of a site and direction (chapter 5). -/
def casubLanes : Nat := 34
/-- Barometer of a Casub lane. -/
def State.cbaro (s : State) (d t n : Nat) : Nat := s.rd F.CL_BARO_n_baro (idxL d t n)
/-- Use of a Casub lane: 0 in the map, 1 spare, 2 benched, 3 failed (Table 5.23). -/
def State.cuse (s : State) (d t n : Nat) : Nat := s.rd F.CL_BARO_n_use (idxL d t n)

/-- Insert a lane into lanes sorted by Barometer, highest first; the lower lane stays first among equals. -/
def insertLane (baro : Nat → Nat) (n : Nat) : List Nat → List Nat
  | [] => [n]
  | m :: r => if baro m < baro n then n :: m :: r else m :: insertLane baro n r

/-- Lanes by Barometer, highest first. -/
def sortLanes (baro : Nat → Nat) (ls : List Nat) : List Nat := ls.foldl (fun r n => insertLane baro n r) []

/-- The largest width code whose lanes `n` fill, not above width_min and not below `least` (R167: code 0 is x32). -/
def widthFor (n least widthMin : Nat) : Option Nat :=
  (upTo 3).find? fun w => decide (least ≤ w) && decide (w ≤ widthMin) && decide (widthOf w ≤ n)

/-- The best lanes of a list, as a map; lanes in ascending order. -/
def mapOf (baro : Nat → Nat) (good : List Nat) (least widthMin speed epoch : Nat) : Option LaneMap :=
  (widthFor good.length least widthMin).map fun w =>
    let best := (sortLanes baro good).take (widthOf w)
    { lanes := (upTo casubLanes).filter best.contains, width := w, speed := speed, epoch := epoch }

/-- The map that Calibrate (`calib`) or a retrain forms (R167, Table 5.9). -/
def State.bestMap (s : State) (d t : Nat) (calib : Bool) : Option LaneMap :=
  let good := (upTo casubLanes).filter fun n =>
    decide ((s.site d t).thr.1 ≤ s.cbaro d t n) && (calib || s.cuse d t n != 3)
  mapOf (s.cbaro d t) good 0 (s.rd F.CL_CTRL_width_min (unitL d t)) (s.rd F.CL_CTRL_speed_max (unitL d t))
    ((s.rd F.CL_STATUS_epoch (unitL d t) + 1) % 16)

/-- Show the spares left (Table 5.12). -/
def State.showSpares (s : State) (d t : Nat) : State :=
  let n := ((upTo casubLanes).filter fun n => s.cuse d t n == 1 && decide ((s.site d t).thr.1 ≤ s.cbaro d t n)).length
  s.wr F.CL_STATUS_spares_left (unitL d t) (min n 2)

/-- A receive map takes effect (R167, R168): the uses of the lanes, CL_STATUS, the step events of rungs 1 and 2. DESIGN CHOICE (log
entry 166): after a Calibrate every lane outside the map that is not below fail is a spare, also beside a map narrower than x32. -/
def State.useMap (s : State) (d t : Nat) (m : LaneMap) (calib : Bool) : State :=
  let l := unitL d t
  let old := (s.site d t).rxMap
  let was := (old.map LaneMap.lanes).getD []
  let spared := if calib then 0 else (m.lanes.filter fun n => s.cuse d t n == 1 && !was.contains n).length
  let failT := (s.site d t).thr.2.2
  let s := s.forEach (upTo casubLanes) fun s n =>
    let u := s.cuse d t n
    s.wr F.CL_BARO_n_use (idxL d t n)
      (if m.lanes.contains n then 0
       else if s.cbaro d t n < failT then 3
       else if calib then 1
       else if was.contains n then 2 else u)
  let s := (s.wr F.CL_STATUS_width l m.width).wr F.CL_STATUS_speed l m.speed
  let s := ((s.wr F.CL_STATUS_epoch l m.epoch).off F.CL_STATUS_map_pending l).updSite d t fun x =>
    { x with rxMap := some m, pendMap := none }
  let s := (s.updSite (s.part.peerDie d t) t fun x => { x with txMap := some m }).showSpares d t
  let s := if spared = 0 then s else (s.add F.CL_CNT_MISC_spares_used l spared).evC F.CL_EVENT_spare_used l t 3
  match old with
  | none => s
  | some o =>
    let s := if o.width < m.width then (s.inc F.CL_CNT_MISC_map_downs l).evC F.CL_EVENT_width_down l t 3 else s
    if o.speed < m.speed then (s.inc F.CL_CNT_MISC_map_downs l).evC F.CL_EVENT_speed_down l t 3 else s

/-- The receiver asks for a new map (R168 step 1): it stays pending until its marker comes. -/
def State.askMap (s : State) (d t : Nat) (m : LaneMap) : State :=
  (s.on F.CL_STATUS_map_pending (unitL d t)).updSite d t fun x =>
    { x with pendMap := some m, cmds := x.cmds ++ [.mapChange m] }

/-! ## Site states (Table 5.9) -/

/-- Show how many flits are unacknowledged (Table 5.16). -/
def State.showReplay (s : State) (d t : Nat) : State :=
  s.wr F.CL_REPLAY_unacked (unitL d t) ((s.site d t).replay.length + (s.site d t).old.length)

/-- The messages that flits carry whole from sequence number `n` on, in order. -/
def endsFrom (q : List Flit) (n : Nat) : List Msg := ((q.dropWhile fun f => f.seq != n % 1024).map Flit.ends).flatten

/-- The messages of an end that its partner has not accepted whole, in order: those of the replay buffer from `n` onward, the
one partly sent, those still to be cut into flits (R175 step 3). -/
def SiteSt.unsent (x : SiteSt) (n : Nat) : List Msg :=
  endsFrom x.replay n
    ++ (match x.partly with
      | some p => [p.1]
      | none => []) ++ x.txq

/-- Give a site's end a state. -/
def State.toSite (s : State) (d t st : Nat) : State :=
  let s := s.wr F.CL_STATUS_state (unitL d t) st
  if st = 4 then s.updSite d t fun x => { x with activeSince := some (s.now d) }
  else s.updSite d t fun x => { x with activeSince := none, back := false, audit := none }

/-- A message-carrying flit that must go on after a retrain; a map change that was pending is dropped (Table 5.9). -/
def dropMapCmd (f : Flit) : Flit :=
  match f.cmd with
  | some (.mapChange _) => { f with cmd := none }
  | _ => f

/-- The receiver starts afresh: no replay awaited, no pending map, counters of Table 5.5 at zero. -/
def restart (x : SiteSt) : SiteSt :=
  { x with waiting := false, lastReq := none, reqs := [], retry := false, consec := 0, failSeq := 0, failCount := 0, missed := 0, markers := [],
           pendMap := none, rejudge := none, sendReq := false, resend := none, audit := none, advd := none,
           cmds := x.cmds.filter fun c => match c with
             | .mapChange _ => false
             | _ => true,
           replay := x.replay.map dropMapCmd }

/-- A site goes to Calibrate, at both ends (Table 5.9). -/
def State.siteCalibrate (s : State) (d t : Nat) : State :=
  s.forEach (s.ends d t) fun s e => ((s.updSite e t restart).off F.CL_STATUS_map_pending (unitL e t)).toSite e t 1

/-- Sequence numbers and buffers restart, from Off or Retired (Table 5.9). Messages that the site still holds, and that the
partner has not accepted, go as new messages (R174); those of a hand-over under way stay with it (R175). -/
def State.siteFresh (s : State) (d t : Nat) : State :=
  let kept := (s.ends d t).map fun e => (e, (s.site e t).unsent (s.rd F.CL_SEQ_rx_expected (unitL (s.part.peerDie e t) t)))
  s.forEach kept fun s em =>
    let e := em.1
    let l := unitL e t
    let s := s.updSite e t fun x =>
      { restart x with replay := [], partly := none, txq := em.2, rxPart := none, cmds := [], stopped := false,
                       oldExp := if (s.site (s.part.peerDie e t) t).handing then
                         some (x.oldExp.getD (s.rd F.CL_SEQ_rx_expected l)) else none,
                       unsentAck := 0, ackDue := false, changed := [], rr := 0, odd := false, flits := 0 }
    (((s.off F.CL_SEQ_tx_next l).wr F.CL_SEQ_tx_acked l 1023).off F.CL_SEQ_rx_expected l).showReplay e t

/-- Die numbering is complete and every die was found (R6, R502). -/
def State.numbered (s : State) : Bool := s.rd F.LC_PART_ID_die_mask pkgL == 2 ^ s.part.dies - 1

/-- May a site leave Off (Table 5.9)? -/
def State.siteMayStart (s : State) (d t : Nat) : Bool :=
  s.numbered && s.clocks && (s.ends d t).all fun e =>
    s.siteState e t == 0 && s.domOn e (8 + t) && s.flag F.CL_CTRL_site_en (unitL e t)

/-- A site leaves Off for Calibrate when it may (Table 5.9). -/
def State.siteStart (s : State) (d t : Nat) : State :=
  if s.siteMayStart d t then ((s.siteFresh d t).siteCalibrate d t) else s

/-- An Active site enters Retrain (Table 5.9): the third entry within 10 ms goes to Calibrate; else new maps, then Align, or
Calibrate when a direction finds no width. Its record has class `cls`: 0 asked for, 3 as the step of a lasting fault; the third entry is lasting
itself, and has a record of class 2 beside it (R369; log entry 165). -/
def State.siteRetrain (s : State) (d t cls : Nat) : State :=
  if s.siteState d t ≠ 4 then s
  else
    let n := s.now d
    let third : Bool := decide (2 ≤ ((s.site d t).retrains.filter fun u => decide (n < u + 10000 * usCycles)).length)
    let s := s.forEach ((s.ends d t).filter fun e => s.siteState e t == 4) fun s e =>
      let s := s.inc F.CL_STATUS_retrains (unitL e t)
      let s := (if third then s.evC F.CL_EVENT_retrain (unitL e t) t 2 else s).evC F.CL_EVENT_retrain (unitL e t) t cls
      (s.off F.CL_STATUS_map_pending (unitL e t)).updSite e t fun x =>
        { restart x with retrains := (x.retrains.filter fun u => decide (n < u + 10000 * usCycles)) ++ [n], retry := cls != 0 && !third }
    if third then s.siteCalibrate d t
    else
      match s.bestMap d t false, s.bestMap (s.part.peerDie d t) t false with
      | some a, some b =>
        let s := (s.useMap d t a false).useMap (s.part.peerDie d t) t b false
        s.forEach (s.ends d t) fun s e => s.toSite e t 2
      | _, _ => s.siteCalibrate d t

/-- Lane re-evaluation (R167) of the receive direction of an end; a trigger while a change is pending waits for it (R371). -/
def State.reeval (s : State) (d t : Nat) (by_ : ReevalBy) : State :=
  let x := s.site d t
  match s.siteState d t == 4, x.rxMap with
  | true, some m =>
    if x.pendMap.isSome then
      s.updSite d t fun x => { x with rejudge := match x.rejudge with
        | some .squall => some .squall
        | some .twice => some .twice
        | _ => some by_ }
    else
      let (accept, spareT, _) := x.thr
      let baro := s.cbaro d t
      let bad := (sortLanes baro (m.lanes.filter fun n => decide (baro n < spareT))).reverse
      let spares := (sortLanes baro ((upTo casubLanes).filter fun n =>
        s.cuse d t n == 1 && !m.lanes.contains n && decide (accept ≤ baro n)))
      let k := if s.flag F.CL_CTRL_spare_en (unitL d t) then min bad.length spares.length else 0
      let lanes := (m.lanes.filter fun n => !(bad.take k).contains n) ++ spares.take k
      let epoch := (m.epoch + 1) % 16
      if k < bad.length then
        let good := (lanes.filter fun n => decide (spareT ≤ baro n)) ++
          ((upTo casubLanes).filter fun n => !lanes.contains n && s.cuse d t n != 3 && decide (accept ≤ baro n))
        match mapOf baro good m.width (s.rd F.CL_CTRL_width_min (unitL d t)) m.speed epoch with
        | some m' => s.askMap d t m'
        | none => s.siteRetrain d t 3
      else if 0 < k then
        s.askMap d t { m with lanes := (upTo casubLanes).filter lanes.contains, epoch := epoch }
      else if (by_ = .squall ∨ by_ = .twice) ∧ s.flag F.CL_CTRL_half_speed_en (unitL d t) ∧ m.speed = 0 then
        s.askMap d t { m with speed := 1, epoch := epoch }
      else s
  | _, _ => s

/-- A marker naming the pending map comes (R168 step 4); a re-evaluation that waited for it runs now (R371). -/
def State.mapTaken (s : State) (d t : Nat) (m : LaneMap) : State :=
  let again := (s.site d t).rejudge
  let s := (s.useMap d t m false).updSite d t fun x => { x with rejudge := none }
  match again with
  | some b => s.reeval d t b
  | none => s

/-- The transmitter accepts a new map of its direction (R168 steps 2 and 3): a marker, then every flit in the new map. -/
def State.newTxMap (s : State) (d t : Nat) (m : LaneMap) : State :=
  match (s.site d t).txMap with
  | none => s
  | some old =>
    if old.epoch = m.epoch then s
    else
      let s := s.updSite (s.part.peerDie d t) t fun x => { x with markers := x.markers ++ [true] }
      (s.updSite d t fun x => { x with txMap := some m }).emit (.marker d t (markerLanes old m))

/-! ## Hand-over (R173 to R177, R380) -/

/-- Show the route of the streams of a site's end (Table 5.13). -/
def State.setRoute (s : State) (d t route via : Nat) : State :=
  (s.wr F.CL_PEER_route (unitL d t) route).wr F.CL_PEER_via_die (unitL d t) via

/-- CL_PEER of an end follows the paths there are (Table 5.13): 0 while its site is Active or holds its streams; else 1 with a
sibling Active, 2 with a third die, and else what it was. -/
def State.showRoute (s : State) (d t : Nat) : State :=
  let b := s.part.peerDie d t
  if s.siteActive d t then (if (s.site d t).handing then s else s.setRoute d t 0 0)
  else if s.rd F.CL_PEER_route (unitL d t) = 0 then s
  else if !(s.sitesTo d b).isEmpty then s.setRoute d t 1 0
  else match s.viaDie d b with
    | some k => s.setRoute d t 2 k
    | none => s

/-- CL_PEER of every end of the part follows the paths there are. -/
def State.showRoutes (s : State) : State :=
  s.forEach s.dies fun s d => s.forEach (upTo 7) fun s t => s.showRoute d t

/-- A site's transmitter stops, and what it held becomes the hand-over's (R175 step 1). -/
def stopTx (x : SiteSt) : SiteSt :=
  { x with handing := true, old := x.replay, replay := [], partly := none, txq := [], cmds := [], resend := none,
           oldTx := (match x.partly with
             | some p => [p.1]
             | none => []) ++ x.txq }

/-- Begin the hand-over of an end, when there is another path (R174, R175): the partner is asked for its rx_expected. -/
def State.startHandOver (s : State) (d t : Nat) : State :=
  let b := s.part.peerDie d t
  let go (route via : Nat) : State :=
    let s := ((s.setRoute d t route via).inc F.CL_CNT_MISC_handovers (unitL d t)).evC F.CL_EVENT_handover (unitL d t) t 3
    ((s.updSite d t stopTx).showReplay d t).emit (.handQuery b t)
  if (s.site d t).handing ∨ s.rd F.CL_PEER_route (unitL d t) ≠ 0 then s
  else if !(s.sitesTo d b).isEmpty then go 1 0
  else match s.viaDie d b with
    | some k => go 2 k
    | none => s

/-- Streams pinned to a site of a die. -/
def State.streamsOn (s : State) (d t : Nat) : List (Nat × Stream) :=
  List.filter (fun e => e.2.die == d && e.2.site == t) s.streams

/-- Move a stream to the site that the rules give it now, remembering the site it left (R174, R177); without one it is
unpinned. -/
def State.repin (s : State) (k : Nat) (x : Stream) : State :=
  let s := { s with streams := Tbl.del s.streams k }
  match s.siteFor x.die (dstDie x.dst) x.input x.dst x.cls x.relayed with
  | (some t, s') =>
    let was := x.home.getD x.site
    { s' with streams := Tbl.put s'.streams k { x with site := t, home := if t = was then none else some was } }
  | (none, _) => s

/-- The queue entries of a die bound for a site move with their streams (R175 step 4). -/
def State.requeue (s : State) (d t : Nat) : State :=
  let q := (s.xbd d).queue
  let s := s.updXb d fun x => { x with queue := [] }
  s.forEach q fun s e =>
    let back (s : State) (e : QEnt) : State := s.updXb d fun x => { x with queue := x.queue ++ [e] }
    if e.out = 16 + 2 * t ∨ e.out = 17 + 2 * t then
      match s.siteFor d (nextDie e.msg) e.input (streamDst e.msg) e.msg.tc e.msg.relay with
      | (some t', s) => back s { e with out := 16 + 2 * t' + e.out % 2 }
      | (none, s) => s.push (.lostPath d e)
    else back s e

/-- Send a message of an old site over the new path, as a new message there (R175 step 3). -/
def State.resendMsg (s : State) (d : Nat) (m : Msg) : State :=
  match s.siteFor d (nextDie m) m.inp (streamDst m) m.tc m.relay with
  | (some t, s) => s.updSite d t fun x => { x with txq := x.txq ++ [m] }
  | (none, s) => s.push (.lostPath d ⟨none, m.inp, 16, m, false⟩)

/-- Empty an end's transmitter, a hand-over under way included. -/
def emptyTx (x : SiteSt) : SiteSt :=
  { x with replay := [], partly := none, txq := [], handing := false, old := [], oldTx := [] }

/-- The partner's answer ends a hand-over (R175 steps 3 and 4): the old site's messages from rx_expected on go over the new
path, then those that came since. A site that has come back Active meanwhile goes on from that number. -/
def State.finishHandOver (s : State) (d t rxExp : Nat) : State :=
  let x := s.site d t
  let s := ((s.updSite d t emptyTx).updSite (s.part.peerDie d t) t fun x => { x with stopped := false }).showReplay d t
  let s := if s.siteActive d t then s.wr F.CL_SEQ_tx_next (unitL d t) rxExp else s
  let s := s.forEach (s.streamsOn d t) fun s e => s.repin e.1 e.2
  ((s.forEach (endsFrom x.old rxExp ++ x.oldTx ++ x.txq) fun s m => s.resendMsg d m).requeue d t).showRoute d t

/-- Die k of a pair without a path (R380): the one of the two that has no path to die 0, else the higher-numbered. -/
def State.dieK (s : State) (a b : Nat) : Nat :=
  if !s.reaches a 0 ∧ s.reaches b 0 then a
  else if !s.reaches b 0 ∧ s.reaches a 0 then b
  else max a b

/-- Every path between two dies is lost (R380): both show route 3 and write the record of Table 13.14; the copies on die k
fail with cause 7 on every die that a path still joins; requests between the two complete, a mirrored read on its other copy where it can. -/
def State.pathsLost (s : State) (a b : Nat) : State :=
  let sitesOf (x y : Nat) : List Nat := (upTo 7).filter fun t => s.part.peerDie x t == y
  let s := s.showRoutes
  if (sitesOf a b).all fun t => s.rd F.CL_PEER_route (unitL a t) == 3 then s
  else
    let s := s.forEach (sitesOf a b) fun s t => (s.setRoute a t 3 0).setRoute b t 3 0
    let t0 := (sitesOf a b).headD 0
    let s := s.log a 2 26 4 b (s.word .CL_STATUS (unitL a t0))
    let s := s.log b 2 26 4 a (s.word .CL_STATUS (unitL b t0))
    let k := s.dieK a b
    let s := s.forEach (upTo 16) fun s q => s.push (.copyFail k (portNo k q) none 7)
    let s := s.forEach [a, b] fun s x =>
      if x = k then s else s.forEach (upTo 16) fun s q => s.push (.copyFail x (portNo k q) none 7)
    s.forEach [(a, b), (b, a)] fun s xy =>
      s.forEach (s.trksOf xy.1) fun s e =>
        if e.2.mirror.isNone then (if portDie e.2.port == xy.2 then s.push (.other xy.1 xy.1 e.1) else s)
        else if readsMem e.2.kind && portDie (grpCopy (s.grp xy.1 (e.2.mirror.getD 0)) (if e.2.readB then 1 else 0)).1 == xy.2 then
          s.push (if s.otherHealthy xy.1 e.2 && s.otherReached xy.1 e.2 then .reissue xy.1 e.1 else .other xy.1 xy.1 e.1)
        else s

/-- The held messages of an end without a path are disposed of (R174). -/
def State.disposeSite (s : State) (d t : Nat) : State :=
  let x := s.site d t
  let ms := (x.old.map Flit.ends).flatten ++ x.oldTx ++ x.unsent (x.replay.headD { type := .null }).seq
  let q := (s.xbd d).queue
  let mine (e : QEnt) : Bool := e.out == 16 + 2 * t || e.out == 17 + 2 * t
  let s := (s.updSite d t emptyTx).showReplay d t
  let s := s.updXb d fun x => { x with queue := q.filter fun e => !mine e }
  let s := { s with streams := List.filter (fun e => !(e.2.die == d && e.2.site == t)) s.streams }
  let es := ms.map (fun m => QEnt.mk none m.inp 16 m false) ++ q.filter mine
  let s := if es.isEmpty then s else s.log d 2 27 4 t (s.word .CL_STATUS (unitL d t))
  s.forEach es fun s e => s.push (.lostPath d e)

/-- hold_us has passed at an end that is not Active (R174): a hand-over, or with no path the disposal of what this end holds;
each end and each site of a pair has its own. Two other dies whose path through a third die went by this site have none left. -/
def State.holdExpired (s : State) (d t : Nat) : State :=
  let b := s.part.peerDie d t
  if s.siteState d t = 4 then s
  else
    let s := if s.reaches d b then (s.startHandOver d t).showRoutes else (s.disposeSite d t).pathsLost d b
    s.forEach (s.dies.flatMap fun x => s.dies.map fun y => (x, y)) fun s xy =>
      let relayed : Bool := (upTo 7).any fun u => s.part.peerDie xy.1 u == xy.2 && s.rd F.CL_PEER_route (unitL xy.1 u) == 2
      if relayed ∧ !s.reaches xy.1 xy.2 then s.pathsLost xy.1 xy.2 else s

/-- Lanes off at an end: no map. -/
def State.lanesOut (s : State) (d t : Nat) : State :=
  let l := unitL d t
  let s := (s.wr F.CL_STATUS_width l 3).off F.CL_STATUS_map_pending l
  let s := (s.off F.CL_STATUS_speed l).updSite d t fun x => { x with rxMap := none, txMap := none, pendMap := none, rejudge := none }
  s.forEach (upTo casubLanes) fun s n => if s.cuse d t n = 0 then s.wr F.CL_BARO_n_use (idxL d t n) 1 else s

/-- In the SK8040, site 6 comes into service when site 4 or site 5 is Retired: its domain D14 is brought On, at both ends
(R139, R66). -/
def State.spareSite (s : State) (d t : Nat) : State :=
  if s.part.dieLog2 = 2 ∧ (t = 4 ∨ t = 5) then
    s.forEach (s.ends d 6) fun s e =>
      if s.domState e 14 = 0 then
        (s.on (F.PD_DOM_REQ_dom_on 14) (dieL e)).wr (F.PD_DOM_STATE0_state_d0_d15 14) (dieL e) 1
      else s
  else s

/-- A site leaves for Off (0) or Retired (6), at both ends, with a hand-over where another path exists (Table 5.9). -/
def State.siteDown (s : State) (d t st cls : Nat) : State :=
  let s := s.forEach (s.ends d t) fun s e => ((s.updSite e t restart).lanesOut e t).toSite e t st
  let s := (s.forEach (s.ends d t) fun s e => s.startHandOver e t).showRoutes
  if st = 6 then
    (s.forEach (s.ends d t) fun s e => s.evC F.CL_EVENT_retired (unitL e t) t cls).spareSite d t
  else s

/-- A lasting fault of a site that a fault of the sending die shows (R184): the ladder of Table 13.2 begins with R167. -/
def State.siteFault (s : State) (d t : Nat) : State := s.reeval d t .twice

/-- A Calibrate failed: a lasting fault (R369), by which the site is Retired. -/
def State.calibFailed (s : State) (d t : Nat) : State :=
  (s.forEach (s.ends d t) fun s e => s.evC F.CL_EVENT_retired (unitL e t) t 2).siteDown d t 6 3

/-- A site is Active (again): held streams continue on it (R174), and new messages use it. After a Retrain that a fault caused this was a transient
one (R369; log entry 165). -/
def State.siteUp (s : State) (d t : Nat) : State :=
  let s := if (s.site d t).retry then s.log d 2 F.CL_EVENT_retrain.lo 1 t (s.word .CL_STATUS (unitL d t)) else s
  ((s.updSite d t fun x => { x with retry := false }).toSite d t 4).showRoutes

/-- Each stream on a sibling site or a relay path returns to the direct site that is Active again, once no message of it on its
current path is unacknowledged or waits for it (R177): the idle ones now, each other one with the next message after that. -/
def State.returnStreams (s : State) (d t : Nat) : State :=
  let b := s.part.peerDie d t
  let s := s.updSite d t fun x => { x with back := true }
  s.forEach (List.filter (fun e => e.2.die == d && s.strayed b t e.2 && !s.streamBusy e.1 e.2) s.streams) fun s e =>
    { s with streams := Tbl.put s.streams e.1 { e.2 with site := t, home := none } }

/-! ## Credits (R154 to R164) -/

/-- Credits available (R156). -/
def SiteSt.avail (x : SiteSt) (c kind : Nat) : Nat :=
  (Tbl.getD x.adv (crKey c kind) 0 + Tbl.getD x.returned (crKey c kind) 0 + 65536 - Tbl.getD x.spent (crKey c kind) 0 % 65536)
    % 65536

/-- adv − spent of a class and kind: what is available beside the credits returned (R156, R163). -/
def SiteSt.unspent (x : SiteSt) (c kind : Nat) : Nat :=
  (Tbl.getD x.adv (crKey c kind) 0 + 65536 - Tbl.getD x.spent (crKey c kind) 0 % 65536) % 65536

/-- Show CL_CREDIT_AVAIL_c (Table 5.22). -/
def State.showAvail (s : State) (d t : Nat) : State :=
  if s.xoffMode then s
  else s.forEach (upTo 12) fun s c =>
    (s.wr F.CL_CREDIT_AVAIL_c_hdr_avail (idxL d t c) (min ((s.site d t).avail c 0) 4095)).wr
      F.CL_CREDIT_AVAIL_c_data_avail (idxL d t c) (min ((s.site d t).avail c 1) 16383)

/-- Entries of the receive buffer of a site that a class holds: headers and data. -/
def State.held_ (s : State) (d t c : Nat) : Nat × Nat :=
  let ls := List.filter (fun e : Nat × LMsg => e.2.cls == c && (e.2.part == .casub t || e.2.part == .relay t)) (s.xbd d).larder
  let part : List Msg := match (s.site d t).rxPart with
    | some m => if m.tc = c then [m] else []
    | none => []
  (ls.length + part.length, (ls.map fun e => e.2.floor - 1).sum + (part.map fun m => m.cells).sum)

/-- The relay cells that messages of a class take at a site, of the 96 there are (R176, R186). -/
def relayCap : Nat := 96

/-- The allotment of a class at a site's receiver (R159): headers and data. -/
def State.allot (s : State) (d t c : Nat) : Nat × Nat :=
  if s.xoffMode then (0, 0)
  else if s.applied then (s.rd F.CL_CREDIT_ADV_c_hdr_adv (idxL d t c), s.rd F.CL_CREDIT_ADV_c_data_adv (idxL d t c))
  else if c = 11 then (32, 128) else (0, 0)

/-- What the receiver of a site advertises at Init, by class × 2 + kind: allotment minus the entries it still holds (R164). -/
def State.advertise (s : State) (d t : Nat) : List Nat :=
  ((upTo 12).map fun c =>
    [(s.allot d t c).1 - (s.held_ d t c).1, (s.allot d t c).2 - (s.held_ d t c).2]).flatten

/-- Credits that messages cost, by class × 2 + kind (R154). -/
def spend (sp : Tbl Nat) (m : Msg) : Tbl Nat :=
  Tbl.mod (Tbl.mod sp (crKey m.tc 0) 0 fun n => (n + 1) % 65536) (crKey m.tc 1) 0 fun n => (n + m.cells) % 65536

/-- A list as a table without its zeros. -/
def tblOf (vs : List Nat) : Tbl Nat := (upTo vs.length).foldl (fun t i => Tbl.set t i (vs.getD i 0) 0) []

/-- A site's end enters Init (R164, Table 5.9): its advertisement and its rx_expected go to the partner, and the counts of
credits it has returned start at zero. -/
def State.enterInit (s : State) (d t : Nat) : State :=
  let adv := s.advertise d t
  let exp := s.rd F.CL_SEQ_rx_expected (unitL d t)
  let s := s.updSite d t fun x => { x with advd := some (adv, exp), given := [], changed := [] }
  (s.toSite d t 3).emit (.init d t adv exp)

/-- Init's exchange (R164, Table 5.9): credits from the partner's advertisement, replay from its rx_expected. With nothing to
replay, the next flit takes that number: a hand-over may have emptied the replay buffer (log entry 130). -/
def State.initSite (s : State) (d t : Nat) (adv : List Nat) (rxExp : Nat) : State :=
  let s := s.commitReg .CL_CTRL (unitL d t)
  let left := (s.site d t).replay.dropWhile fun f => f.seq != rxExp % 1024
  let s := s.updSite d t fun x =>
    { x with adv := if s.xoffMode then [] else tblOf adv, returned := [],
             spent := if s.xoffMode then [] else ((left.map Flit.starts).flatten).foldl spend [],
             replay := left, resend := left.head?.map Flit.seq }
  let s := s.wr F.CL_SEQ_tx_acked (unitL d t) ((rxExp + 1023) % 1024)
  let s := if left.isEmpty then s.wr F.CL_SEQ_tx_next (unitL d t) rxExp else s
  (((s.showReplay d t).showAvail d t).siteUp d t).forEach (upTo 12) fun s c => s.xoffUpdate d c

/-! ## Sending a flit (R145 to R147, R157) -/

/-- The messages cut into one flit (R140, R141): slots filled, messages that start and that end, what is left. -/
structure Cut where
  slots : List Nat := []
  starts : List Msg := []
  bits : Nat := 0
  ends : List Msg := []
  partly : Option (Msg × List Nat) := none
  rest : List Msg := []
  spent : Tbl Nat := []
  blocked : List Nat := []

/-- May a message start now: credits of both kinds, or no XOFF (R156, R160)? -/
def State.mayStart (s : State) (d t : Nat) (spent : Tbl Nat) (m : Msg) : Bool :=
  if s.xoffMode then !s.flag (F.CL_XOFF_xoff_recv m.tc) (unitL d t)
  else
    let x := { s.site d t with spent := spent }
    decide (1 ≤ x.avail m.tc 0) && decide (m.cells ≤ x.avail m.tc 1)

/-- Put the next message into the flit when it may start: behind no message of its class, and for TC1 and TC2 behind no TC0
message that it may not pass, that must wait (R197, R198). -/
def State.cutOne (s : State) (d t : Nat) (c : Cut) (m : Msg) : Cut :=
  let behind : Bool := c.blocked.contains m.tc || c.rest.any (mustFollow m)
  if c.slots.length < 14 ∧ !behind ∧ s.mayStart d t c.spent m then
    let all := msgSlots m
    let room := 14 - c.slots.length
    let c := { c with slots := c.slots ++ all.take room, starts := c.starts ++ [m], bits := c.bits + 2 ^ c.slots.length,
                      spent := if s.xoffMode then c.spent else spend c.spent m }
    if all.length ≤ room then { c with ends := c.ends ++ [m] } else { c with partly := some (m, all.drop room) }
  else { c with rest := c.rest ++ [m], blocked := c.blocked ++ [m.tc] }

/-- Cut messages into the fourteen slots of a flit. -/
def State.cut (s : State) (d t : Nat) : Cut :=
  let x := s.site d t
  let c : Cut := match x.partly with
    | none => { spent := x.spent }
    | some (m, left) =>
      if left.length ≤ 14 then { slots := left, ends := [m], spent := x.spent }
      else { slots := left.take 14, partly := some (m, left.drop 14), spent := x.spent }
  x.txq.foldl (s.cutOne d t) c

/-- Fill in what every transmission carries (R145, R151, R157, R160) and send the flit. -/
def State.putFlit (s : State) (d t : Nat) (f : Flit) : State :=
  let x := s.site d t
  let f := { f with ack := (s.rd F.CL_SEQ_rx_expected (unitL d t) + 1023) % 1024 }
  let byRound : Bool := !x.odd || x.changed.isEmpty
  let key := if byRound then x.rr else x.changed.headD 0
  let f :=
    if s.xoffMode then
      { f with crCount := ((upTo 12).map fun c => 2 ^ c * s.rd (F.CL_XOFF_xoff_sent c) (unitL d t)).sum }
    else { f with crKind := key % 2, crClass := key / 2, crCount := Tbl.getD x.given key 0 }
  let s := s.updSite d t fun x =>
    { x with rr := if byRound then (x.rr + 1) % 24 else x.rr, odd := !x.odd, changed := x.changed.erase key,
             unsentAck := 0, ackDue := false, flits := x.flits + 1 }
  let s := if f.type = .null then s.pm d 0x2003 t 1 else s
  let bytes := flitBytes f s.xoffMode
  s.emit (.flit d t f bytes (match x.txMap with
    | some m => laneBits m bytes
    | none => []))

/-- A new DATA or CMD flit takes the next sequence number and stays in the replay buffer (R146). -/
def State.newFlit (s : State) (d t : Nat) (f : Flit) : State :=
  let n := s.rd F.CL_SEQ_tx_next (unitL d t)
  let f := { f with seq := n }
  let s := s.wr F.CL_SEQ_tx_next (unitL d t) (n + 1)
  let s := (s.updSite d t fun x => { x with replay := x.replay ++ [f] }).showReplay d t
  (s.pm d 0x2000 t 1).putFlit d t f

/-- The next flit after `n` in the replay buffer, if any. -/
def nextReplay (q : List Flit) (n : Nat) : Option Nat := ((q.dropWhile fun f => f.seq != n).drop 1).head?.map Flit.seq

/-- One flit time of an Active site (R146, R147, R149, R150): a REPLAY_REQ that is due, else the next flit of a replay, else
a command, else messages, else NULL. With 256 flits unacknowledged only NULL and REPLAY_REQ go out. -/
def State.sendFlit (s : State) (d t : Nat) : State :=
  let x := s.site d t
  if x.sendReq then (s.updSite d t fun x => { x with sendReq := false }).putFlit d t { type := .replayReq }
  else
    match x.resend.bind fun n => x.replay.find? fun f => f.seq == n with
    | some f => (s.updSite d t fun x => { x with resend := nextReplay x.replay f.seq }).putFlit d t f
    | none =>
      let s := s.updSite d t fun x => { x with resend := none }
      if 256 ≤ x.replay.length then s.putFlit d t { type := .null }
      else
        match x.cmds with
        | c :: cs =>
          let s := s.updSite d t fun x =>
            { x with cmds := cs, audit := match c with
                | .audit k => some ⟨k, x.unspent k 0, x.unspent k 1, s.flag (F.CL_XOFF_xoff_recv k) (unitL d t)⟩
                | _ => x.audit }
          s.newFlit d t { type := .cmd, cmd := some c }
        | [] =>
          let c := s.cut d t
          if c.slots.isEmpty then s.putFlit d t { type := .null }
          else
            let s := (s.updSite d t fun x => { x with txq := c.rest, partly := c.partly, spent := c.spent }).showAvail d t
            s.newFlit d t { type := .data, slots := c.slots, slotStart := c.bits, starts := c.starts, ends := c.ends }

/-- Replay from the flit after `ack` (R150, R152). -/
def State.replayFrom (s : State) (d t ack : Nat) : State :=
  s.updSite d t fun x =>
    { x with resend := (x.replay.find? fun f => f.seq == (ack + 1) % 1024).map Flit.seq }

/-! ## Receiving a flit (R144 to R158) -/

/-- An ack of the partner: every flit up to it leaves the replay buffer (R146). -/
def State.takeAck (s : State) (d t ack : Nat) : State :=
  let x := s.site d t
  if x.replay.any fun f => f.seq == ack then
    let q := (x.replay.dropWhile fun f => f.seq != ack).drop 1
    let s := s.updSite d t fun x => { x with replay := q, resend := match x.resend with
      | none => none
      | some n => if q.any fun f => f.seq == n then some n else q.head?.map Flit.seq }
    (s.wr F.CL_SEQ_tx_acked (unitL d t) ack).showReplay d t
  else s

/-- The credit or XOFF field of a flit (R145). -/
def State.takeCredit (s : State) (d t : Nat) (f : Flit) : State :=
  if s.xoffMode then s.forEach (upTo 12) fun s c => s.wrB (F.CL_XOFF_xoff_recv c) (unitL d t) (bitOf f.crCount c)
  else (s.updSite d t fun x => { x with returned := Tbl.set x.returned (crKey f.crClass f.crKind) f.crCount 0 }).showAvail d t

/-- The relay cells of a class in use at a site: those of stored messages, and of one received in part (R155, R176). -/
def State.relayTaken (s : State) (d t c : Nat) : Nat :=
  Tbl.getD (s.xbd d).relayUsed (key2 t c) 0 + match (s.site d t).rxPart with
    | some m => if m.tc = c ∧ nextDie m ≠ d then m.size else 0
    | none => 0

/-- Have the messages of a flit that this die relays room among the relay cells of their class (R176, R186)? -/
def State.relayFits (s : State) (d t : Nat) (ms : List Msg) : Bool :=
  ms.all fun m => nextDie m == d ||
    decide (s.relayTaken d t m.tc
      + ((ms.filter fun n => n.tc == m.tc && nextDie n != d).map Msg.size).sum ≤ relayCap)

/-- Has every message that starts in a flit a free buffer entry (R158)? In XON/XOFF mode free cells in the pool of its class (R160);
one to be relayed takes relay cells alone (R188). -/
def State.fits (s : State) (d t : Nat) (ms : List Msg) : Bool :=
  s.relayFits d t ms && ms.all fun m =>
    let same := ms.filter fun n => n.tc == m.tc
    if s.xoffMode then
      nextDie m != d
        || decide (s.poolUsed d m.tc + ((same.filter fun n => nextDie n == d).map Msg.size).sum ≤ s.pool d m.tc)
    else decide ((s.held_ d t m.tc).1 + same.length ≤ (s.allot d t m.tc).1)
      && decide ((s.held_ d t m.tc).2 + (same.map fun n => n.cells).sum ≤ (s.allot d t m.tc).2)

/-- A message came with no free buffer entry (R158): the site retrains. -/
def State.overflow (s : State) (d t : Nat) : State :=
  (s.evC F.CL_EVENT_credit_overflow (unitL d t) t 2).siteRetrain d t 3

/-- A failed flit (R149, R153): the REPLAY_REQ, and every row of Table 5.5 that it meets. No field of it is used (R144): a flit
that fails once the REPLAY_REQ has gone, while the receiver waits, counts as the replayed copy (DEDUCED, log entry 128). -/
def State.flitFailed (s : State) (d t : Nat) : State :=
  let l := unitL d t
  let x := s.site d t
  let again : Bool := x.waiting && !x.sendReq
  let n := s.now d
  let s := (s.inc F.CL_CNT_CRC_crc_fail l).pm d 0x2002 t 1
  let exp := s.rd F.CL_SEQ_rx_expected l
  let cnt := if again ∨ !x.waiting then (if x.failSeq = exp then x.failCount else 0) + 1 else x.failCount
  let ask : Bool := !x.waiting || match x.lastReq with
    | none => true
    | some u => decide (u + 320 ≤ n)
  let reqs := if ask then ((x.reqs ++ [n]).drop ((x.reqs.length + 1) - 8)) else x.reqs
  let squall : Bool := ask && reqs.length == 8 && decide (n ≤ reqs.headD 0 + usCycles)
  let s := s.updSite d t fun x =>
    { x with waiting := true, consec := x.consec + 1, failSeq := exp, failCount := cnt, sendReq := x.sendReq || ask,
             lastReq := if ask then some n else x.lastReq, reqs := if squall then [] else reqs }
  let s := if ask then s.inc F.CL_CNT_CRC_replays l else s
  let lost : Bool := decide (4 ≤ x.consec + 1) || decide (4 ≤ cnt)
  let s := if x.waiting ∧ again then (s.evC F.CL_EVENT_twice_failed l t 2).reeval d t .twice else s
  let s := if squall then ((s.inc F.CL_CNT_MISC_squalls l).evC F.CL_EVENT_squall l t 2).reeval d t .squall else s
  if lost then (s.log d 2 25 2 t (s.word .CL_STATUS l)).siteRetrain d t 3 else s

/-- An audit command (R163): the reply carries the free entries and the returned counts of this moment. -/
def State.auditCmd (s : State) (d t c : Nat) : State :=
  let r : FlitCmd :=
    if s.xoffMode then .auditReply c (s.pool d c - s.poolUsed d c) 0 0 0
    else .auditReply c ((s.allot d t c).1 - (s.held_ d t c).1) (Tbl.getD (s.site d t).given (crKey c 0) 0)
      ((s.allot d t c).2 - (s.held_ d t c).2) (Tbl.getD (s.site d t).given (crKey c 1) 0)
  s.updSite d t fun x => { x with cmds := x.cmds ++ [r] }

/-- The reply to an audit (R163): its returned counts are adopted, and free entries other than adv + returned − spent, spent as it was
when the command was sent, are a leak. DESIGN CHOICE (log entry
131): the spec does not say whose xon_hyst the comparison takes; it is this site's own, the transmitter's. -/
def State.auditRep (s : State) (d t c freeH retH freeD retD : Nat) : State :=
  match (s.site d t).audit with
  | none => s
  | some a =>
    if a.cls ≠ c then s
    else
      let s := s.updSite d t fun x => { x with audit := none }
      let hyst := s.rd F.CL_XOFF_CTRL_xon_hyst (unitL d t)
      let leak : Bool := if s.xoffMode then a.xoff && decide (2688 + hyst < freeH)
        else freeH != (a.baseH + retH) % 65536 || freeD != (a.baseD + retD) % 65536
      let s := if s.xoffMode then s
        else (s.updSite d t fun x =>
          { x with returned := Tbl.set (Tbl.set x.returned (crKey c 0) retH 0) (crKey c 1) retD 0 }).showAvail d t
      if leak then
        ((s.evC F.CL_EVENT_drought (unitL d t) t 2).evC F.CL_EVENT_audit_leak (unitL d t) t 2).siteRetrain d t 3
      else s

/-- Carry out the command of an accepted CMD flit. -/
def State.flitCmd (s : State) (d t : Nat) (c : FlitCmd) : State :=
  match c with
  | .mapChange m => s.newTxMap d t m
  | .audit k => s.auditCmd d t k
  | .auditReply k fh rh fd rd => s.auditRep d t k fh rh fd rd

/-- Accept a flit in order (Table 5.4): messages whose last slot it carries arrive at the site's crossbar ports. -/
def State.acceptFlit (s : State) (d t : Nat) (f : Flit) : State :=
  let l := unitL d t
  let x := s.site d t
  let s := s.wr F.CL_SEQ_rx_expected l (f.seq + 1)
  let s := s.pm d 0x2001 t 1
  let s := if x.waiting ∧ x.failCount = 1 then s.log d 2 24 1 t (s.word .CL_STATUS l) else s
  let last : Option Msg := f.starts.getLast?
  let s := s.updSite d t fun x =>
    { x with waiting := false, failCount := 0, unsentAck := x.unsentAck + 1, ackDue := x.ackDue || decide (16 ≤ x.unsentAck + 1),
             rxPart := match last with
               | some m => if f.ends.contains m then none else some m
               | none => if f.ends.isEmpty then x.rxPart else none }
  let s := s.forEach f.ends fun s m => s.arrive d (16 + 2 * t + Config.streamHash (streamKey d t (streamDst m) m.tc) % 2) m none
  let s := if s.xoffMode then s.forEach (upTo 12) fun s c => s.xoffUpdate d c else s
  match f.cmd with
  | some c => s.flitCmd d t c
  | none => s

/-- A flit reaches the receiver of an Active site with `e0` and `e1` symbol errors in its codewords (R142, R144, Table 5.4). -/
def State.takeFlit (s : State) (d t : Nat) (f : Flit) (e0 e1 : Nat) : State :=
  let l := unitL d t
  let fixed (e : Nat) : Bool := decide (1 ≤ e) && decide (e ≤ 4)
  let s := if fixed e0 || fixed e1 then s.inc F.CL_CNT_FEC_fec_flits l else s
  let exp := s.rd F.CL_SEQ_rx_expected l
  let x := s.site d t
  if 4 < e0 ∨ 4 < e1 then s.flitFailed d t
  else
    let s := (s.updSite d t fun x => { x with consec := 0 }).takeAck d t f.ack
    let s := s.takeCredit d t f
    match f.type with
    | .null => s
    | .replayReq => s.replayFrom d t f.ack
    | _ =>
      if f.seq = exp then
        if s.fits d t f.starts then s.acceptFlit d t f
        else s.overflow d t
      else if x.waiting then s
      else if (exp + 1024 - f.seq % 1024) % 1024 ≤ 256 then s
      else s.flitFailed d t

end Sys2Proof.Machine
end

