-- ==== Sys2Proof/Machine/DmOps.lean ====
section
/-! DEFINITION. The data movers' operations (chapter 11): the requests an engine sends, scanning and starting descriptors, the
pieces of their work, retirement and completion, the queue states (Table 11.5). -/

namespace Sys2Proof.Machine

/-! ## Accessors -/

/-- Queues of one die (R345). -/
def qCap : Nat := 2048
/-- What a queue holds beside its registers. -/
def State.dq (s : State) (d q : Nat) : DmQ := Tbl.getD s.dmq (d * qCap + q) {}
/-- Change what a queue holds. -/
def State.updDq (s : State) (d q : Nat) (f : DmQ → DmQ) : State := { s with dmq := Tbl.mod s.dmq (d * qCap + q) {} f }
/-- The state of a queue (Table 11.9). -/
def State.qst (s : State) (d q : Nat) : Nat := s.rd F.DM_Q_STATUS_state (unitL d q)
/-- The queue is a chain. -/
def State.isChain (s : State) (d q : Nat) : Bool := s.flag F.DM_Q_CFG_type (unitL d q)
/-- An instance entry. -/
def State.inst (s : State) (d i : Nat) : Inst := Tbl.getD s.insts (key2 d i) {}
/-- Change an instance entry. -/
def State.updInst (s : State) (d i : Nat) (f : Inst → Inst) : State := { s with insts := Tbl.mod s.insts (key2 d i) {} f }
/-- The instance that a queue belongs to. -/
def State.instOf (s : State) (d q : Nat) : Option Nat :=
  if s.flag F.DM_Q_CFG_owned (unitL d q) then some (s.rd F.DM_Q_CFG_owner (unitL d q)) else none
/-- The queue's instance is Freezing or Frozen (R357): nothing starts. -/
def State.qFrozen (s : State) (d q : Nat) : Bool :=
  match s.instOf d q with
  | some i => (s.inst d i).state == 3 || (s.inst d i).state == 4
  | none => false
/-- Entries of a ring (Table 11.9); chain positions count modulo 65,536. -/
def State.ringSize (s : State) (d q : Nat) : Nat :=
  if s.isChain d q then 65536 else 2 ^ s.rd F.DM_Q_CFG_size_log2 (unitL d q)
/-- The engine of a queue. -/
def State.qEng (s : State) (d q : Nat) : Nat := s.rd F.DM_Q_CFG_engine (unitL d q)
/-- The queue shaper lets the queue send (R307, R310); that of a Frozen instance accrues nothing (R358). -/
def State.qRuns (s : State) (d q : Nat) : Bool :=
  match s.shaperOf d (2, q, 0) with
  | some i =>
    let x := s.shp d i
    x.wheel.isNone && (if s.shpFrozen d x then x else x.upTo (s.now d)).runs
  | none => true

/-- Show what a queue holds (Table 11.9). -/
def State.showQ (s : State) (d q : Nat) : State :=
  s.wr F.DM_Q_STATUS_held (unitL d q) (s.dq d q).held.length

/-- Give a queue a state; leaving or entering Disabled changes the queues enabled on its engine (Table 11.10) and, for a queue
of no instance, the free pool (Table 12.8). -/
def State.toQst (s : State) (d q v : Nat) : State :=
  let was := s.qst d q
  let e := idxL d 0 (s.qEng d q)
  let n := s.rd F.DM_ENG_STATUS_queues e
  let free := s.rd F.PN_STATUS_queues_free (dieL d)
  let own := (s.instOf d q).isSome
  let s := s.wr F.DM_Q_STATUS_state (unitL d q) v
  if was = 0 ∧ v ≠ 0 then
    let s := s.wr F.DM_ENG_STATUS_queues e (n + 1)
    if own then s else s.wr F.PN_STATUS_queues_free (dieL d) (free - 1)
  else if was ≠ 0 ∧ v = 0 then
    let s := s.wr F.DM_ENG_STATUS_queues e (n - 1)
    if own then s else s.wr F.PN_STATUS_queues_free (dieL d) (free + 1)
  else s

/-! ## Requests of an engine (R321, R322) -/

/-- What became of a request: it waits (for the shaper, a line, a tracker entry or cells), its decode missed, or it was sent. -/
inductive DmSent where
  | wait
  | miss
  | sent
  deriving DecidableEq, Repr

/-- Tags of one die's engines. -/
def tagCap : Nat := 65536

/-- A request of an engine that is out. -/
def State.dmReq (s : State) (d tag : Nat) : Option DmReq := if tag < tagCap then Tbl.get s.dmReqs (d * tagCap + tag) else none

/-- The tag that an owned queue's requests carry (R355). -/
def State.qTag (s : State) (d q : Nat) : Option (Nat × Nat) := (s.instOf d q).map fun i => (i, (s.inst d i).gen)

/-- Charge the queue shaper, if there is one (R310, R343). -/
def State.chargeQ (s : State) (d q : Nat) (m : Msg) : State :=
  match s.shaperOf d (2, q, 0) with
  | some i => s.charge d i m
  | none => s

/-- An engine's own read of a device line is out: it writes the line not before the read has come back (R318). -/
def State.readOut (s : State) (d e : Nat) (at_ : Nat × Nat × Nat) : Bool :=
  List.any s.dmReqs fun r => r.1 / tagCap == d && r.2.eng == e && r.2.reads && r.2.at_ == at_

/-- Send a request for a queue to byte address `a` in the queue's address form. With its shaper spoilt by a double-bit error (R377) none goes out. -/
def State.dmSend (s : State) (d q : Nat) (use : DmUse) (tc : Nat) (kind : MKind) (a : Nat) (data : List Nat)
    (poison : Bool) : DmSent × State :=
  let l := unitL d q
  let e := s.qEng d q
  let tag := Tbl.lowest s.dmReqs (d * tagCap) - d * tagCap
  if s.spoiltShp d (2, q, 0) then (.miss, s)
  else if !s.qRuns d q ∨ !s.lineMay d e ∨ tagCap ≤ tag then (.wait, s)
  else
    match s.freeTrk d, s.canTake d 30 tc (1 + data.length) with
    | some t, some (fl, sh) =>
      let v := portNo d (s.rd F.DM_Q_CFG_vcs_quad l)
      let gen := match s.qTag d q with
        | some x => x.2
        | none => 0
      let m0 : Msg := made
       { tc := tc, kind := kind, src := 0x80 + d, cells := data.length, poison := poison, ptag := tag, trkDie := d, trk := t,
         data := data }
      let x0 : Trk := { src := 0x80 + d, ptag := tag, tc := tc, kind := kind, opcode := m0.opcode,
                        dmQueue := some (q * 256 + gen), time := s.now d }
      let go (s : State) (at_ : Nat × Nat × Nat) : Option Nat × State :=
        let s := s.lineSent d e
        let r : DmReq := { eng := e, q := q, inst := s.qTag d q, use := use, era := (s.dq d q).era, reads := tc == 3, at_ := at_ }
        let s := { s with dmReqs := Tbl.put s.dmReqs (d * tagCap + tag) r }
        let s := s.chargeQ d q m0
        let (mid, s) := s.store d { input := 30, cls := tc, part := .port, floor := fl, shared := sh, copies := 1 }
        (some mid, s.pm d 0x3000 30 m0.size)
      if s.flag F.DM_Q_CFG_asp l then
        let port := bitsOf a 63 57
        let x := { x0 with port := port, ld := bitsOf a 56 53, addr := bitsOf a 51 6 }
        if tc = 4 ∧ s.readOut d e (port, x.ld, x.addr) then (.wait, s)
        else
        let (mid, s) := go s (port, x.ld, x.addr)
        (.sent, (s.putTrk d t x).push (.home d 30 mid { m0 with dst := port, ld := x.ld, addr := x.addr }))
      else
        match s.decode v (a / 64) with
        | .miss => (.miss, (s.pm d 0x5000 (portQuad v) 1).noteMiss d v tc (a / 64))
        | .hit i sl line =>
          let b := s.vppb d sl
          if !s.usable d i b m0 line then
            (.miss, (s.pm d 0x5000 (portQuad v) 1).noteMiss d v tc (a / 64))
          else if tc = 4 ∧ s.readOut d e (b.port, b.ld, line) then (.wait, s)
          else
            let (sm, s) := s.atticSelect d tc (0x80 + d) v (a / 64) (some line) b.port
            let x := { x0 with vcs := some v, hpa := a / 64, port := b.port, ld := b.ld, addr := line, sample := sm }
            let (mid, s) := go (s.pm d 0x5000 (portQuad v) 1) (b.port, b.ld, line)
            (.sent, (s.putTrk d t x).decoded d 30 mid t x { m0 with dst := b.port, ld := b.ld, addr := line } (s.dec d i).grp)
    | _, _ => (.wait, s)

/-- A request of an engine is answered: its line is free. Answers what it was, unless its generation is old, which discards
the response (R355). -/
def State.dmTake (s : State) (d tag : Nat) : Option DmReq × State :=
  match s.dmReq d tag with
  | none => (none, s)
  | some r =>
    let s := { s with dmReqs := Tbl.del s.dmReqs (d * tagCap + tag) }
    let s := match r.use with
      | .migrate _ => s
      | _ => s.linesBack d r.eng 1
    match r.inst with
    | none => (some r, s)
    | some (i, g) =>
      if (s.inst d i).gen = g then (some r, s)
      else
        let s := s.updInst d i fun x => { x with stale := x.stale - 1 }
        (none, (s.inc F.PN_CNT_STALE_stale_drop (dieL d)).ev F.PN_EVENT_stale_drop (dieL d) r.q)

/-! ## Words of a descriptor (Table 11.2) -/

/-- Word `w` of a line, bytes little-endian. -/
def lineWord (line w : Nat) : Nat := line / 2 ^ (32 * w) % 2 ^ 32
def DmHeld.word (h : DmHeld) (w : Nat) : Nat := h.w.getD w 0
def DmHeld.op (h : DmHeld) : Nat := bitsOf (h.word 0) 27 24
def DmHeld.len (h : DmHeld) : Nat := h.word 1
def DmHeld.src (h : DmHeld) : Nat := h.word 2 + 2 ^ 32 * h.word 3
def DmHeld.dst (h : DmHeld) : Nat := h.word 4 + 2 ^ 32 * h.word 5
def DmHeld.eoc (h : DmHeld) : Bool := bitOf (h.word 6) 0
/-- The address of the next descriptor of a chain. -/
def DmHeld.link (h : DmHeld) : Nat := bitsOf (h.word 6) 31 6 * 64 + 2 ^ 32 * h.word 7

/-- A descriptor is malformed (R325). -/
def DmHeld.malformed (h : DmHeld) (chain asp : Bool) : Bool :=
  bitsOf (h.word 0) 23 16 != 0 || decide (4 < h.op)
    || (h.op == 4 && (!asp || h.len != 4096 || h.src % 4096 != 0 || h.dst % 4096 != 0 || bitOf h.src 52 || bitOf h.dst 52))
    || (chain && (bitsOf (h.word 6) 5 1 != 0 || (!h.eoc && h.link == 0)))

/-- How many 64-byte pieces its work has: lines of the destination, or for a compare 64-byte pieces of the range. -/
def DmHeld.piecesOf (h : DmHeld) : Nat :=
  if h.len = 0 then 0
  else match h.op with
    | 1 | 2 => (h.dst % 64 + h.len + 63) / 64
    | 3 => (h.len + 63) / 64
    | _ => 0

/-- It works in descending order (R318). -/
def DmHeld.descends (h : DmHeld) : Bool := h.op == 1 && decide (h.src < h.dst) && decide (h.dst < h.src + h.len)

/-- The offsets of piece `k`: from the first to one past the last. -/
def DmHeld.span (h : DmHeld) (k : Nat) : Nat × Nat :=
  if h.op = 3 then (64 * k, min h.len (64 * (k + 1)))
  else (64 * k - h.dst % 64, min h.len (64 * (k + 1) - h.dst % 64))

/-- The line reads that bytes `a` to `b - 1` take, each with its line within the window. -/
def windowReads (side : Bool) (a b : Nat) : List (Bool × Nat × Nat) :=
  (upTo ((b - 1) / 64 - a / 64 + 1)).map fun i => (side, i, (a / 64 + i) * 64)

/-- A piece as it begins (R318, R319). -/
def DmHeld.piece (h : DmHeld) (k : Nat) : DmPiece :=
  let (o0, o1) := h.span k
  match h.op with
  | 1 => { k := k, ask := windowReads false (h.src + o0) (h.src + o1) }
  | 3 => { k := k, ask := windowReads false (h.src + o0) (h.src + o1) ++ windowReads true (h.dst + o0) (h.dst + o1) }
  | _ => { k := k, ready := true }

/-- Byte at offset `o` of the range, from the lines a piece has read on one side, whose range starts at address `base`. -/
def DmPiece.byte (p : DmPiece) (side : Bool) (base o0 o : Nat) : Nat :=
  let i := (base + o) / 64 - (base + o0) / 64
  match p.got.find? fun g => g.1 == side && g.2.1 == i with
  | some g => g.2.2 / 2 ^ (8 * ((base + o) % 64)) % 256
  | none => 0

/-- The line that a piece writes, with its byte enables (R318, R317): a copy's bytes, or the fill's pattern. -/
def DmHeld.lineOut (h : DmHeld) (p : DmPiece) : Nat × Nat :=
  let (o0, o1) := h.span p.k
  let first := (h.dst + o0) % 64
  let bytes := (upTo (o1 - o0)).map fun i =>
    (first + i, if h.op = 2 then h.src / 2 ^ (8 * ((o0 + i) % 8)) % 256 else p.byte false h.src o0 (o0 + i))
  ((bytes.map fun b => 2 ^ (8 * b.1) * b.2).sum, (bytes.map fun b => 2 ^ b.1).sum)

/-! ## Held descriptors -/

/-- Change the held descriptor with a position. -/
def State.updHeld (s : State) (d q idx : Nat) (f : DmHeld → DmHeld) : State :=
  s.updDq d q fun x => { x with held := x.held.map fun h => if h.idx = idx then f h else h }

/-- The held descriptor with a position. -/
def State.heldAt (s : State) (d q idx : Nat) : Option DmHeld := (s.dq d q).held.find? fun h => h.idx == idx

/-- A descriptor that has started and not retired (R330). -/
def State.inFlight (s : State) (d q : Nat) : Bool := (s.dq d q).ret.isSome || (s.dq d q).held.any DmHeld.started

/-- Every piece of its work is done (R333). -/
def DmHeld.finished (h : DmHeld) : Bool :=
  h.started && decide (h.total ≤ h.next) && h.pieces.isEmpty && !h.migDue && !h.migrating

/-- A status other than success, with the lowest offset where several lines give it. -/
def DmHeld.note (h : DmHeld) (status off : Nat) : DmHeld :=
  if h.status = 0 ∨ (h.status < 0x20 ∧ h.status ≠ status ∧ status ≠ 1) then { h with status := status, result := off }
  else if h.status = status then { h with result := min h.result off } else h

/-- Stop beginning work: pieces with nothing out are dropped (R319, R321). -/
def DmHeld.stopWork (h : DmHeld) : DmHeld :=
  { h with next := h.total,
           pieces := (h.pieces.map fun p => { p with ask := [], ready := false, cut := p.cut || !p.ask.isEmpty }).filter fun p => p.need != 0 || p.writing }

/-- The queue stops starting with a status of 0x20 or above (R340). -/
def State.haltWith (s : State) (d q st : Nat) : State :=
  s.updDq d q fun x => { x with halting := x.halting.orElse fun _ => some st }

/-- The queue enters Halted once nothing is in flight (R340). -/
def State.enterHalted (s : State) (d q st : Nat) : State :=
  let l := dieL d
  let s := (s.wr F.DM_Q_STATUS_last_status (unitL d q) st).toQst d q 5
  let s := s.updDq d q fun x => { x with halting := none, wantRead := false }
  let s := if s.flag F.DM_HALT_LOG_valid l then s
    else ((s.on F.DM_HALT_LOG_valid l).wr F.DM_HALT_LOG_status l st).wr F.DM_HALT_LOG_queue l q
  s.ev F.DM_EVENT_q_halted l q

/-- A write that no retirement waits for missed (status 0x25): the queue halts, at once when nothing is in flight (R340). -/
def State.haltNow (s : State) (d q st : Nat) : State :=
  let s := s.haltWith d q st
  match s.qst d q, (s.dq d q).halting with
  | 1, some h | 2, some h | 3, some h => if s.inFlight d q then s else s.enterHalted d q h
  | _, _ => s

/-- What stands in a queue for a descriptor that could not be read (statuses 0x22 to 0x24). DESIGN CHOICE (log entry 158): the spec does
not say what sw_tag and index its completion carries; they are 0 and the position of the read, and neither start_pos nor the device
position moves. -/
def ghostAt (idx st : Nat) : DmHeld := { idx := idx, addr := 0, w := [], ghost := true, status := st, result := 0xFFFFFFFF }

/-- Send the clearing of own on the chain descriptor that the queue has left, when it may (R332). -/
def State.sendOwn (s : State) (d q : Nat) : State :=
  match (s.dq d q).ownDue with
  | none => s
  | some (a, w) =>
    match s.dmSend d q .parkOwn 4 .memWrPtl (a / 64 * 64) [0xF, w % 2 ^ 31] false with
    | (.wait, s) => s
    | (.miss, s) => (s.updDq d q fun x => { x with ownDue := none }).haltNow d q 0x25
    | (.sent, s) => s.updDq d q fun x => { x with ownDue := none }

/-- The message of a migrate's start, for the queue shaper (R343). PRESUMED (log entry 159): it has no data cells. -/
def migMsg (d : Nat) : Msg := { tc := 11, kind := .mgmt, src := 0x80 + d }

/-- Send the start of a migrate descriptor to the overlay unit of the key's home die (R320), charged to the queue shaper (R343). -/
def State.dmMigrate (s : State) (d q : Nat) (h : DmHeld) : State :=
  let s := (s.chargeQ d q (migMsg d)).updHeld d q h.idx fun h => { h with migDue := false }
  let place (a : Nat) : Place := ⟨bitsOf a 63 57, bitsOf a 56 53, bitsOf a 51 12⟩
  let k := place h.src
  let hd := portDie k.port
  let code := s.ovCheck hd (portQuad k.port) k.ld k.page (place h.dst)
  if code ≠ 0 then
    (s.ev F.OV_EVENT_cmd_refused (dieL hd) 0).updHeld d q h.idx fun h => { h with status := 3, result := code }
  else
    let tag := Tbl.lowest s.dmReqs (d * tagCap) - d * tagCap
    let r : DmReq := { eng := s.qEng d q, q := q, inst := s.qTag d q, use := .migrate h.idx, era := (s.dq d q).era }
    let s := { s with dmReqs := Tbl.put s.dmReqs (d * tagCap + tag) r }
    (s.updHeld d q h.idx fun h => { h with migrating := true }).ovBegin hd (portQuad k.port) k.ld k.page (place h.dst)
      (some (d, tag))

/-- Start one held descriptor (R333, R325). -/
def State.dmStart (s : State) (d q : Nat) (h : DmHeld) : State :=
  let l := unitL d q
  if h.ghost then (s.updHeld d q h.idx fun h => { h with started := true }).haltWith d q h.status
  else
    let s := s.wr F.DM_Q_POS_start_pos l ((h.idx + 1) % s.ringSize d q)
    if h.malformed (s.isChain d q) (s.flag F.DM_Q_CFG_asp l) then
      (s.updHeld d q h.idx fun h => { h with started := true, status := 0x23, result := 0xFFFFFFFF }).haltWith d q 0x23
    else
      s.updHeld d q h.idx fun h => { h with started := true, total := h.piecesOf, migDue := h.op == 4 }

/-- May held descriptor `h` start now: in order, not past a fence, with the queue running (R333, R340, R341, R357)? -/
def State.mayStartDesc (s : State) (d q : Nat) (h : DmHeld) : Bool :=
  let x := s.dq d q
  s.qst d q == 2 && !s.flag F.DM_Q_CTRL_pause (unitL d q) && x.halting.isNone && !s.qFrozen d q
    && (x.held.takeWhile fun g => g.idx != h.idx).all DmHeld.started
    && (!bitOf (h.word 0) 28 || (x.ret.isNone && (x.held.headD h).idx == h.idx))

/-- Send the starts of migrate descriptors that are due, while the queue shaper lets the queue send (R310). -/
def State.sendMigs (s : State) (d q : Nat) : State :=
  s.forEach ((s.dq d q).held.filter DmHeld.migDue) fun s h => if s.qRuns d q then s.dmMigrate d q h else s

/-- Start every held descriptor that may (R333). -/
def State.startHeld (s : State) (d q : Nat) : State :=
  ((s.forEach ((s.dq d q).held.filter fun h => !h.started) fun s h =>
    if s.mayStartDesc d q h then s.dmStart d q h else s).sendMigs d q).showQ d q

/-- Send the oldest read that a scan or a park wants, when it may (R329, R331): nothing for a Frozen instance, and no scan read while it
is Freezing (R357). A miss makes status 0x22 (R339), of which a parked queue becomes Active. -/
def State.dmRead (s : State) (d q : Nat) : State :=
  let x := s.dq d q
  let l := unitL d q
  let lost (s : State) : State :=
    let s := s.updDq d q fun x =>
      { x with wantRead := false, wantLink := false, stopped := true, held := x.held ++ [ghostAt x.fetch 0x22] }
    (if s.qst d q = 3 then s.toQst d q 2 else s).startHeld d q
  let s := s.sendOwn d q
  let frozen : Bool := match s.instOf d q with
    | some i => (s.inst d i).state == 4
    | none => false
  if frozen ∨ (s.dq d q).ownDue.isSome then s
  else if x.wantLink ∧ !x.linking then
    match x.parked with
    | none => s
    | some h => match s.dmSend d q .link 3 .memRd h.addr [] false with
      | (.wait, s) => s
      | (.miss, s) => lost s
      | (.sent, s) => s.updDq d q fun x => { x with wantLink := false, linking := true }
  else if x.wantRead ∧ !x.reading ∧ s.qst d q = 2 ∧ x.held.length < 16 ∧ !s.qFrozen d q then
    let a := if s.isChain d q then x.fetchAddr else s.rd64 F.DM_Q_BASE_LO_base F.DM_Q_BASE_HI_base l + 64 * x.fetch
    match s.dmSend d q (.desc x.fetch a) 3 .memRd a [] false with
    | (.wait, s) => s
    | (.miss, s) => lost s
    | (.sent, s) => s.updDq d q fun x => { x with reading := true }
  else s

/-- Start a scan (R329). Behind a descriptor with eoc = 1 that has not retired there is nothing to fetch (R331): its queue looks again once
it has. -/
def State.scan (s : State) (d q : Nat) : State :=
  if (s.dq d q).ended then s.on F.DM_Q_STATUS_rescan (unitL d q)
  else ((s.off F.DM_Q_STATUS_rescan (unitL d q)).updDq d q fun x => { x with wantRead := true, stopped := false }).dmRead d q

/-- Read the parked descriptor's link again (R331). -/
def State.relink (s : State) (d q : Nat) : State :=
  ((s.off F.DM_Q_STATUS_rescan (unitL d q)).updDq d q fun x => { x with wantLink := true }).dmRead d q

/-- A descriptor read returned (R329, R331, R332). -/
def State.descReturn (s : State) (d q idx addr line : Nat) (poison : Bool) : State :=
  let x := s.dq d q
  let s := s.updDq d q fun x => { x with reading := false, dropRead := false }
  let hold (s : State) (h : DmHeld) : State := s.updDq d q fun x => { x with held := x.held ++ [h] }
  let halt (s : State) : State := s.updDq d q fun x => { x with wantRead := false, stopped := true }
  if s.qst d q = 0 ∨ s.qst d q = 6 then s
  else if x.dropRead then s.dmRead d q
  else
    let h : DmHeld := { idx := idx, addr := addr, w := (upTo 8).map (lineWord line), viaLink := x.viaLink }
    if poison then ((halt (hold s { h with w := [], ghost := true, status := 0x22, result := 0xFFFFFFFF })).startHeld d q)
    else if !bitOf (h.word 0) 31 then
      if s.isChain d q ∧ x.viaLink then
        (halt (hold s { h with ghost := true, status := 0x24, result := 0xFFFFFFFF })).startHeld d q
      else
        let s := halt s
        if s.flag F.DM_Q_STATUS_rescan (unitL d q) then s.scan d q
        else if x.held.isEmpty ∧ x.ret.isNone ∧ s.qst d q = 2 then s.toQst d q 1 else s
    else
      let s := hold s h
      let s := if s.isChain d q then
          let last : Bool := h.eoc || h.link == 0
          let s := s.updDq d q fun x =>
            { x with fetch := (x.fetch + 1) % 65536, fetchAddr := h.link, viaLink := true, ended := last }
          if last then halt s else s
        else s.updDq d q fun x => { x with fetch := (x.fetch + 1) % s.ringSize d q }
      (s.startHeld d q).dmRead d q

/-! ## Work on started descriptors (R318, R319, R343) -/

/-- A line of a descriptor has no request of its engine: the descriptor stops with an error status. -/
def State.lineMiss (s : State) (d q idx st off : Nat) : State :=
  (s.updHeld d q idx fun h => (h.note st off).stopWork).haltWith d q st

/-- Change piece `k` of a descriptor. -/
def State.updPiece (s : State) (d q idx k : Nat) (f : DmPiece → DmPiece) : State :=
  s.updHeld d q idx fun h => { h with pieces := h.pieces.map fun p => if p.k = k then f p else p }

/-- A descriptor that is held, and one of its pieces. -/
def State.pieceAt (s : State) (d q idx k : Nat) : Option (DmHeld × DmPiece) :=
  (s.heldAt d q idx).bind fun h => (h.pieces.find? fun p => p.k == k).map fun p => (h, p)

/-- Write the line of a piece that has its data. -/
def State.workWrite (s : State) (d q idx k : Nat) : Bool × State :=
  match s.pieceAt d q idx k with
  | none => (false, s)
  | some (h, p) =>
  if !p.ready then (false, s)
  else
  let (data, mask) := h.lineOut p
  let full := mask == 2 ^ 64 - 1
  match s.dmSend d q (.write idx p.k) 4 (if full then .memWr else .memWrPtl) ((h.dst + (h.span p.k).1) / 64 * 64)
      (if full then [data] else [mask, data]) p.poison with
  | (.wait, s) => (false, s)
  | (.miss, s) => (false, s.lineMiss d q idx 0x21 (h.span p.k).1)
  | (.sent, s) => (true, s.updPiece d q idx p.k fun p => { p with ready := false, writing := true })

/-- Read a line that a piece asks for. -/
def State.workRead (s : State) (d q idx k : Nat) : Bool × State :=
  match s.pieceAt d q idx k with
  | none => (false, s)
  | some (h, p) => match p.ask with
  | [] => (false, s)
  | (side, off, a) :: rest =>
    match s.dmSend d q (.read idx p.k side off a) 3 .memRd a [] false with
    | (.wait, s) => (false, s)
    | (.miss, s) => (false, s.lineMiss d q idx (if side then 0x21 else 0x20) (a - (if side then h.dst else h.src)))
    | (.sent, s) => (true, s.updPiece d q idx p.k fun p => { p with ask := rest, need := p.need + 1 })

/-- The next line request of a descriptor: a ready write that may be sent, else a read of a piece, else one of a new piece. Answers whether
something was sent. -/
def State.workDesc (s : State) (d q idx : Nat) : Bool × State :=
  match s.heldAt d q idx with
  | none => (false, s)
  | some h =>
    if !h.started then (false, s)
    else
      let h := if (h.pieces.any fun p => p.ready || !p.ask.isEmpty) || decide (h.total ≤ h.next) then h
        else { h with next := h.next + 1,
                      pieces := h.pieces ++ [h.piece (if h.descends then h.total - 1 - h.next else h.next)] }
      let s := s.updHeld d q idx fun _ => h
      let ks := h.pieces.map DmPiece.k
      match s.firstSent ks fun s k => s.workWrite d q idx k with
      | (true, s) => (true, s)
      | (false, s) => s.firstSent ks fun s k => s.workRead d q idx k

/-- One line request of a queue: of its first started descriptor that can send one. -/
def State.workQueue (s : State) (d q : Nat) : Bool × State :=
  s.firstSent ((s.dq d q).held.map DmHeld.idx) fun s i => s.workDesc d q i

/-- Bytes written or compared (Table 11.10, Table 19.1). -/
def State.countBytes (s : State) (d q n : Nat) : State :=
  let e := s.qEng d q
  let b := s.rd64 F.DM_ENG_BYTES_LO_bytes F.DM_ENG_BYTES_HI_bytes (idxL d 0 e) + n
  let s := s.wr64 F.DM_ENG_BYTES_LO_bytes F.DM_ENG_BYTES_HI_bytes (idxL d 0 e) b
  (s.pmI d 0x9001 q n (s.instOf d q)).pm d 0x9010 e n

/-- A piece has read all its lines: a copy's write becomes ready; a compare is decided (R319). -/
def State.pieceRead (s : State) (d q idx k : Nat) : State :=
  match s.heldAt d q idx with
  | none => s
  | some h =>
    match h.pieces.find? fun p => p.k == k with
    | none => s
    | some p =>
      if p.need ≠ 0 ∨ !p.ask.isEmpty then s
      else
        let (o0, o1) := h.span k
        if p.cut then s.updHeld d q idx fun h => { h with pieces := h.pieces.filter fun p => p.k != k }
        else if h.op = 3 then
          let s := s.countBytes d q (o1 - o0)
          let diff := ((upTo (o1 - o0)).map (o0 + ·)).find? fun o => p.byte false h.src o0 o != p.byte true h.dst o0 o
          s.updHeld d q idx fun h =>
            let h := { h with pieces := h.pieces.filter fun p => p.k != k }
            match diff with
            | some o => if p.poison then h else (h.note 1 o).stopWork
            | none => h
        else if h.next ≥ h.total ∧ 0x20 ≤ h.status then
          s.updHeld d q idx fun h => { h with pieces := h.pieces.filter fun p => p.k != k }
        else
          s.updHeld d q idx fun h => { h with pieces := h.pieces.map fun p => if p.k = k then { p with ready := true } else p }

/-- A line read of a piece returned. -/
def State.lineRead_ (s : State) (d q idx k : Nat) (side : Bool) (off a line : Nat) (poison : Bool) : State :=
  let s := s.updHeld d q idx fun h =>
    let h := { h with pieces := h.pieces.map fun p =>
      if p.k = k then { p with need := p.need - 1, got := p.got ++ [(side, off, line)], poison := p.poison || poison } else p }
    if poison then h.note 2 (a - (if side then h.dst else h.src)) else h
  s.pieceRead d q idx k

/-- A line write of a piece returned its NDR. -/
def State.lineWritten (s : State) (d q idx k : Nat) : State :=
  match s.heldAt d q idx with
  | none => s
  | some h =>
    let (o0, o1) := h.span k
    (s.updHeld d q idx fun h => { h with pieces := h.pieces.filter fun p => p.k != k }).countBytes d q (o1 - o0)

/-! ## Retirement (R333 to R340) -/

/-- The queue's next state once a retirement is complete, or when it may have nothing left in flight (Table 11.5). -/
def State.settleQueue (s : State) (d q : Nat) : State :=
  let x := s.dq d q
  let l := unitL d q
  let st := s.qst d q
  let rescan := s.flag F.DM_Q_STATUS_rescan l
  if st = 6 then (if s.inFlight d q then s else s.toQst d q 0)
  else if s.inFlight d q then
    (if st = 2 ∧ x.stopped ∧ rescan ∧ !s.isChain d q then s.scan d q else s)
  else
    match x.halting with
    | some h => if st = 1 ∨ st = 2 ∨ st = 3 then s.enterHalted d q h else s
    | none =>
      if s.flag F.DM_Q_CTRL_pause l ∧ (st = 1 ∨ st = 2 ∨ st = 3) then s.toQst d q 4
      else if st = 2 ∧ x.held.isEmpty ∧ x.stopped ∧ !x.linking ∧ !x.wantLink then
        if x.parked.isSome then (if rescan then s.relink d q else s.toQst d q 3)
        else if rescan then s.scan d q else s.toQst d q 1
      else if st = 2 ∧ x.stopped ∧ rescan ∧ !s.isChain d q then s.scan d q else s

/-- Set the bit of a queue in the data-mover interrupt set of its die (R422). -/
def State.dmInt (s : State) (d q : Nat) : State :=
  let s := s.on (F.MB_DM_INT_k_pending (q % 32)) (idxL d 0 (q / 32))
  let s := s.irqWarden d 1
  if d = 0 then
    s.forEach (upTo 4) fun s k => if bitOf (s.rd F.MB_CCI_CTRL_dm_int_en (dieL 0)) k then s.emit (.msix k 1) else s
  else s

/-- The interrupt of a completion (R338). In asp 0 it waits while the queue shaper does not let the queue send (R310), and misses when the
host port is neither Up nor holding. DESIGN CHOICE (log entry 160): the spec does not say when an interrupt write misses (Table 11.4, status
0x25). -/
def State.dmInterrupt (s : State) (d q : Nat) : DmSent × State :=
  let l := unitL d q
  if s.flag F.DM_Q_CFG_asp l then (.sent, s.dmInt d q)
  else
    let v := portNo d (s.rd F.DM_Q_CFG_vcs_quad l)
    let a := s.rd64 F.DM_Q_INT_ADDR_LO_int_addr F.DM_Q_INT_ADDR_HI_int_addr l
    let m : Msg := { tc := 0, kind := .ioMemWr, dst := v, src := 0x80 + d, addr := a / 64, off := a % 64, len := 4,
                     ptag := match s.qTag d q with
                       | some (i, g) => i * 256 + g
                       | none => 0 }
    let m := withCells m [tlpCell m, 2 ^ (8 * (a % 64)) * s.rd F.DM_Q_INT_DATA_int_data l]
    if !s.portUp v ∧ !s.holding v then (.miss, s)
    else if !s.qRuns d q then (.wait, s)
    else (.sent, (s.chargeQ d q m).route d 30 none m)

/-- The completion record of a retiring descriptor (Table 11.3), as one number of 16 bytes. -/
def State.cqRecord (s : State) (d q : Nat) (h : DmHeld) : Nat :=
  let l := unitL d q
  let tail := s.rd F.DM_Q_CQ_TAIL_cq_tail l
  let lap := tail / 2 ^ s.rd F.DM_Q_CQ_CFG_cq_size_log2 l
  (2 ^ 31 * (b2n (lap % 2 == 0)) + 2 ^ 24 * (h.status % 128) + h.word 0 % 2 ^ 16)
    + 2 ^ 32 * ((2 ^ 16 * ((s.dq d q).since % 2 ^ 16) + h.idx % 2 ^ 16)) + 2 ^ 64 * (h.result % 2 ^ 32)

/-- The retirement of a descriptor goes to its next stage. -/
def State.retTo (s : State) (d q : Nat) (st : RetStage) (h : DmHeld) : State :=
  s.updDq d q fun x => { x with ret := some ⟨st, h⟩ }

/-- The descriptor's own bit is cleared, where it has one. -/
def State.retOwn (s : State) (d q : Nat) (h : DmHeld) : Bool × State :=
  if h.ghost || (s.isChain d q && h.eoc) then (true, s.retTo d q .cq h)
  else match s.dmSend d q .own 4 .memWrPtl (h.addr / 64 * 64) [0xF, h.word 0 % 2 ^ 31] false with
    | (.wait, s) => (false, s)
    | (.miss, s) => (true, (s.retTo d q .done h).haltWith d q 0x25)
    | (.sent, s) => (false, s.retTo d q .ownOut h)

/-- The completion record is written, where one is due. -/
def State.retCq (s : State) (d q : Nat) (h : DmHeld) : Bool × State :=
  let x := s.dq d q
  let l := unitL d q
  let tail := s.rd F.DM_Q_CQ_TAIL_cq_tail l
  let size := 2 ^ s.rd F.DM_Q_CQ_CFG_cq_size_log2 l
  if !(bitOf (h.word 0) 30 || h.status != 0 || decide (65535 ≤ x.since)) then (true, s.retTo d q .done h)
  else if (tail + 2 ^ 32 - s.rd F.DM_Q_CQ_HEAD_cq_head l) % 2 ^ 32 = size then
    if x.cqWait then (false, s)
    else (false, ((s.updDq d q fun x => { x with cqWait := true }).inc F.DM_CNT_MISC_cq_full_stalls (dieL d)).ev
      F.DM_EVENT_cq_full (dieL d) q)
  else
    let a := s.rd64 F.DM_Q_CQ_BASE_LO_cq_base F.DM_Q_CQ_BASE_HI_cq_base l + 16 * (tail % size)
    let sh := a % 64
    let s := s.updDq d q fun x => { x with cqWait := false }
    match s.dmSend d q .cq 4 .memWrPtl (a / 64 * 64) [0xFFFF * 2 ^ sh, 2 ^ (8 * sh) * s.cqRecord d q h] false with
    | (.wait, s) => (false, s)
    | (.miss, s) => (true, (s.retTo d q .done h).haltWith d q 0x25)
    | (.sent, s) => (false, s.retTo d q .cqOut h)

/-- Take one step of a retirement; answers whether to go on at once. -/
def State.retStep (s : State) (d q : Nat) : Bool × State :=
  let x := s.dq d q
  let l := unitL d q
  match x.ret with
  | none => (false, s)
  | some r =>
    let h := r.h
    match r.stage with
    | .own => s.retOwn d q h
    | .cq => s.retCq d q h
    | .int_ =>
      let due := (s.flag F.DM_Q_CQ_CFG_int_en l && x.intDue) || (s.flag F.DM_Q_CQ_CFG_int_on_err l && decide (0x20 ≤ h.status))
      let ends (s : State) : State := (s.retTo d q .done h).updDq d q fun x => { x with intDue := false }
      if !due then (true, ends s)
      else match s.dmInterrupt d q with
        | (.wait, s) => (false, s)
        | (.miss, s) => (true, (ends s).haltWith d q 0x25)
        | (.sent, s) => (true, ends s)
    | .done =>
      let s := s.updDq d q fun x =>
        { x with ret := none, ended := x.ended && !x.held.isEmpty,
                 parked := if s.isChain d q && h.eoc && !h.ghost then some h else x.parked }
      (false, ((s.settleQueue d q).startHeld d q).dmRead d q)
    | _ => (false, s)

/-- Go on with a retirement as far as it goes (R333). -/
def State.retGo (s : State) (d q : Nat) : State :=
  (upTo 5).foldl (fun (r : Bool × State) _ => if r.1 then r.2.retStep d q else r) (true, s) |>.2

/-- The oldest descriptor retires when all its work is done and the one before it has retired (R333). -/
def State.retire (s : State) (d q : Nat) : State :=
  let x := s.dq d q
  match x.held, x.ret with
  | h :: rest, none =>
    if !h.finished then s
    else
      let l := unitL d q
      let e := s.qEng d q
      let s := s.updDq d q fun x =>
        { x with held := rest, ret := some ⟨.own, h⟩, since := x.since + 1, intDue := x.intDue || bitOf (h.word 0) 29 }
      let s := if h.ghost then s
        else
          let s := s.wr F.DM_Q_POS_dev_pos l ((h.idx + 1) % s.ringSize d q)
          ((s.inc F.DM_ENG_CNT_DESC_retired (idxL d 0 e)).pmI d 0x9000 q 1 (s.instOf d q))
      let s := if 0x20 ≤ h.status then s.haltWith d q h.status else s
      (s.showQ d q).retGo d q
  | _, _ => s

/-- A response to a line request of an engine (R318, R333, R355); `line` is the data of a read. One that the queue sent before it was last
enabled is dropped. -/
def State.dmResponse (s : State) (d tag line : Nat) (poison : Bool) : State :=
  match s.dmTake d tag with
  | (none, s) => s
  | (some r, s) =>
    let q := r.q
    if r.era ≠ (s.dq d q).era then s
    else
    let stage (s : State) (st : RetStage) : State :=
      s.updDq d q fun x => { x with ret := x.ret.map fun r => { r with stage := st } }
    match r.use with
    | .desc idx addr => s.descReturn d q idx addr line poison
    | .link => s
    | .read idx k side off a => s.lineRead_ d q idx k side off a line poison
    | .write idx k => s.lineWritten d q idx k
    | .migrate _ => s
    | .own => (stage s .cq).retGo d q
    | .parkOwn => s
    | .cq =>
      let l := unitL d q
      let s := s.wr F.DM_Q_CQ_TAIL_cq_tail l (s.rd F.DM_Q_CQ_TAIL_cq_tail l + 1)
      let s := (s.updDq d q fun x => { x with since := 0 }).pmI d 0x9002 q 1 (s.instOf d q)
      (stage s .int_).retGo d q

/-- A parked descriptor's link came back (R331, R332). -/
def State.linkReturn (s : State) (d tag line : Nat) (poison : Bool) : State :=
  match s.dmReq d tag with
  | none => s
  | some r0 =>
    if r0.use ≠ .link then s
    else match s.dmTake d tag with
      | (none, s) => s
      | (some r, s) =>
        let q := r.q
        if r.era ≠ (s.dq d q).era then s
        else
        let s := s.updDq d q fun x => { x with linking := false }
        match (s.dq d q).parked with
        | none => s
        | some p =>
          let h := { p with w := (upTo 8).map (lineWord line) }
          let bad (s : State) (st : Nat) : State :=
            let s := s.updDq d q fun x => { x with stopped := true, held := x.held ++ [ghostAt x.fetch st] }
            (if s.qst d q = 3 then s.toQst d q 2 else s).startHeld d q
          if s.qst d q = 0 ∨ s.qst d q = 6 ∨ s.qst d q = 5 then s
          else if poison then bad s 0x22
          else if h.eoc then
            if s.flag F.DM_Q_STATUS_rescan (unitL d q) then s.relink d q
            else if s.qst d q = 2 then s.toQst d q 3 else s
          else if h.link = 0 then bad s 0x23
          else
            let s := s.updDq d q fun x =>
              { x with parked := none, fetchAddr := h.link, viaLink := true, ownDue := some (h.addr, h.word 0) }
            ((if s.qst d q = 3 then s.toQst d q 2 else s).scan d q)

/-! ## The queue's commands (Table 11.5) -/

/-- A doorbell (R328), which is work for the domain of the queue's engine (R67). -/
def State.doorbell (s : State) (d q : Nat) : State :=
  let s := s.wake d (engDom (s.qEng d q))
  match s.qst d q with
  | 1 => let s := s.toQst d q 2
         if (s.dq d q).parked.isSome then s.relink d q else s.scan d q
  | 2 => s.on F.DM_Q_STATUS_rescan (unitL d q)
  | 3 => if (s.dq d q).linking then s.on F.DM_Q_STATUS_rescan (unitL d q) else s.relink d q
  | 4 => s.on F.DM_Q_STATUS_rescan (unitL d q)
  | _ => s.inc F.DM_CNT_MISC_db_ignored (dieL d)

/-- Why an enable is refused (Table 11.10 reason), 0 when it is accepted (R342). -/
def State.enableCheck (s : State) (d q : Nat) : Nat :=
  let l := unitL d q
  let asp := s.flag F.DM_Q_CFG_asp l
  let v := portNo d (s.rd F.DM_Q_CFG_vcs_quad l)
  let n := s.rd F.DM_Q_CFG_size_log2 l
  let c := s.rd F.DM_Q_CQ_CFG_cq_size_log2 l
  let base := s.rd F.DM_Q_BASE_LO_base l
  if !s.domUsable d (engDom (s.qEng d q)) then 1
  else if !s.domUsable d 19 then 2
  else if !asp ∧ !(s.role v == 0 && (s.vcs v).valid) then 3
  else if (!s.isChain d q && (n < 5 || 16 < n)) || c < 4 || 16 < c then 4
  else if (if s.isChain d q then base % 64 else base % 4096) ≠ 0 ∨ s.rd F.DM_Q_CQ_BASE_LO_cq_base l % 4096 ≠ 0 then 5
  else if asp ∧ s.flag F.DM_Q_CFG_owned l then 6 else 0

/-- A refused enable (Table 11.5). -/
def State.enableRefused (s : State) (d q reason : Nat) : State :=
  let l := dieL d
  let s := if s.flag F.DM_REFUSE_LOG_valid l then s
    else ((s.on F.DM_REFUSE_LOG_valid l).wr F.DM_REFUSE_LOG_reason l reason).wr F.DM_REFUSE_LOG_queue l q
  s.ev F.DM_EVENT_q_refused l q

/-- Enable a Disabled queue, or refuse (R342, Table 11.5). -/
def State.queueEnable (s : State) (d q : Nat) : State :=
  if s.qst d q ≠ 0 then s
  else
    let r := s.enableCheck d q
    if r ≠ 0 then s.enableRefused d q r
    else
      let l := unitL d q
      let s := s.on F.DM_Q_CTRL_en l
      let s := (s.off F.DM_Q_POS_start_pos l).off F.DM_Q_POS_dev_pos l
      let s := (s.off F.DM_Q_CQ_TAIL_cq_tail l).off F.DM_Q_CQ_HEAD_cq_head l
      let s := (s.off F.DM_Q_STATUS_rescan l).off F.DM_Q_STATUS_last_status l
      let s := s.updDq d q fun x => { era := x.era + 1, fetchAddr := s.rd64 F.DM_Q_BASE_LO_base F.DM_Q_BASE_HI_base l }
      (s.toQst d q 1).showQ d q

/-- Drop every held descriptor that has not started; fetching goes back to start_pos (R330, R341). -/
def State.dropUnstarted (s : State) (d q : Nat) : State :=
  let x := s.dq d q
  let first := (x.held.filter fun h => !h.started && !h.ghost).head?
  (s.updDq d q fun x =>
    { x with held := x.held.filter DmHeld.started, dropRead := x.reading,
             fetch := s.rd F.DM_Q_POS_start_pos (unitL d q),
             ended := x.ended && x.held.all DmHeld.started,
             fetchAddr := match first with
               | some h => h.addr
               | none => x.fetchAddr,
             viaLink := match first with
               | some h => h.viaLink
               | none => x.viaLink }).showQ d q

/-- Disable a queue (Table 11.5). -/
def State.queueDisable (s : State) (d q : Nat) : State :=
  let s := s.off F.DM_Q_CTRL_en (unitL d q)
  if s.qst d q = 0 then s
  else
    let s := (s.dropUnstarted d q).updDq d q fun x => { x with wantRead := false, wantLink := false, halting := none }
    (s.toQst d q 6).settleQueue d q

/-- Pause a queue (R330). -/
def State.queuePause (s : State) (d q : Nat) : State := (s.on F.DM_Q_CTRL_pause (unitL d q)).settleQueue d q

/-- The queue goes on, as after a doorbell (Table 11.5). -/
def State.queueGo (s : State) (d q : Nat) : State :=
  let s := s.toQst d q 2
  let s := if (s.dq d q).parked.isSome ∧ (s.dq d q).held.isEmpty then s.relink d q else s.scan d q
  s.startHeld d q

/-- Clear pause (Table 11.5). -/
def State.queueUnpause (s : State) (d q : Nat) : State :=
  let s := s.off F.DM_Q_CTRL_pause (unitL d q)
  if s.qst d q = 4 then s.queueGo d q else s.startHeld d q

/-- Leave Halted (R340, Table 11.6). -/
def State.queueResume (s : State) (d q : Nat) : State :=
  if s.qst d q ≠ 5 then s
  else
    let s := s.off F.DM_Q_STATUS_last_status (unitL d q)
    if s.flag F.DM_Q_CTRL_pause (unitL d q) then s.toQst d q 4 else s.queueGo d q

/-- DM_Q_INVALIDATE (R330); an Active queue reads on from start_pos. -/
def State.queueInvalidate (s : State) (d q : Nat) : State :=
  let s := s.dropUnstarted d q
  if s.qst d q = 2 ∧ (s.dq d q).parked.isNone then s.scan d q else s

/-- A write of cq_head (R337): taken when it moves forward by no more than the completions not yet consumed. -/
def State.cqHead (s : State) (d q v : Nat) : State :=
  let l := unitL d q
  let head := s.rd F.DM_Q_CQ_HEAD_cq_head l
  let tail := s.rd F.DM_Q_CQ_TAIL_cq_tail l
  if (v + 2 ^ 32 - head) % 2 ^ 32 ≤ (tail + 2 ^ 32 - head) % 2 ^ 32 then
    (s.wr F.DM_Q_CQ_HEAD_cq_head l v).retGo d q
  else s.ev F.DM_EVENT_cq_head_bad (dieL d) q

/-! ## An engine's turns (R343) -/

/-- A queue has something to send. -/
def State.qReady (s : State) (d q : Nat) : Bool :=
  let x := s.dq d q
  s.qRuns d q && (x.held.any (fun h => h.migDue || h.started && (decide (h.next < h.total) || h.pieces.any fun p => p.ready || !p.ask.isEmpty))
    || x.ownDue.isSome || (x.wantRead && !x.reading && decide (x.held.length < 16)) || (x.wantLink && !x.linking)
    || match x.ret with
      | some r => r.stage == .own || (r.stage == .cq && !x.cqWait) || r.stage == .int_
      | none => false)

/-- The migration slots of a die whose lines an engine copies (R292). -/
def State.engSlots (s : State) (d e : Nat) : List Nat :=
  (List.filter (fun im : Nat × MigSlot => im.2.eng == e) (s.ovd d).slots).map Prod.fst

/-- The resilver blocks of a die, if an engine is the one of MR_CTRL (R287). -/
def State.engBlocks (s : State) (d e : Nat) : List Nat :=
  if s.rd F.MR_CTRL_engine (dieL d) = e then
    (List.filter (fun r : Nat × Rewrite => r.2.resilver && !r.2.toRead.isEmpty) (s.mrd d).rewrites).map Prod.fst
  else []

/-- Internal work that an engine has: resilver blocks that may start or have lines to be read (R287), and migration lines to be written or
to be read (R292). -/
def State.internalReady (s : State) (d e : Nat) : Bool :=
  (s.rd F.MR_CTRL_engine (dieL d) == e && s.blockMay d) || !(s.engBlocks d e).isEmpty
    || (s.ovd d).slots.any fun m => m.2.eng == e && (!m.2.came.isEmpty || s.lineReady d m.2)

/-- Members of an engine's round, in turn after the one last served: its ready queues in rising order, then internal work. -/
def State.members (s : State) (d e last : Nat) : List Nat :=
  let mine := (List.filter (fun x : Nat × DmQ => x.1 / qCap == d) s.dmq).map fun x => x.1 % qCap
  let all := (mine.filter fun q => s.qEng d q == e && s.qReady d q) ++ (if s.internalReady d e then [2048] else [])
  (all.filter fun m => decide (last < m)) ++ all.filter fun m => decide (m ≤ last)

/-- Line requests of a member, which `f` sends one at a time, while its deficit is above 0: each costs 64 (R343). -/
def turnLoop (f : State → Bool × State) : Nat → Int → State → Int × State
  | 0, v, s => (v, s)
  | n + 1, v, s =>
    if v ≤ 0 then (v, s)
    else match f s with
      | (true, s) => turnLoop f n (v - 64) s
      | (false, s) => (v, s)

/-- One line request of the part's own work on an engine, if it may send one (R287, R292, R322). DESIGN CHOICE (log entry 161): the spec
gives internal work no order of its own; what was read for a migration is written first, then resilver lines are read, then migration
lines, the lowest slot or block first. -/
def State.ownLine (s : State) (d e : Nat) : Bool × State :=
  if !s.lineMay d e then (false, s)
  else match s.firstSent (s.engSlots d e) fun s sl => s.writeLine d sl with
    | (true, s) => (true, s)
    | (false, s) => match s.firstSent (s.engBlocks d e) fun s i => s.readLine d e i with
      | (true, s) => (true, s)
      | (false, s) => s.firstSent (s.engSlots d e) fun s sl => s.startLine d sl

/-- The part's own work on an engine: blocks of a resilver start, and lines go out while the deficit allows (R343). -/
def State.ownWork (s : State) (d e : Nat) (n : Nat) (v : Int) : Int × State :=
  turnLoop (fun s => s.ownLine d e) n v (if s.rd F.MR_CTRL_engine (dieL d) = e then s.startBlocks d else s)

/-- An engine's next turn (R343). -/
def State.engineTurn (s : State) (d e : Nat) : State :=
  let x : DmEng := Tbl.getD s.dmEng (key2 d e) {}
  let ms := s.members d e x.last
  let keep := match x.turn with
    | some m => if ms.contains m ∧ 0 < (Tbl.getD x.deficit m 0) then some m else none
    | none => none
  match keep.orElse (fun _ => ms.head?) with
  | none => { s with dmEng := Tbl.set s.dmEng (key2 d e) { x with turn := none } {} }
  | some m =>
    let w := if m = 2048 then s.rd F.DM_ENG_CTRL_int_weight (idxL d 0 e) else s.rd F.DM_Q_CFG_weight (unitL d m)
    let v : Int := Tbl.getD x.deficit m 0 + (if keep.isSome then 0 else ((1024 * max w 1 : Nat) : Int))
    let n := v.toNat / 64 + 1
    let (v, s) : Int × State := if m = 2048 then s.ownWork d e n v
      else turnLoop (fun s => s.workQueue d m) n v (((s.sendMigs d m).dmRead d m).retGo d m)
    let y : DmEng := { turn := some m, last := m, deficit := Tbl.set x.deficit m v 0 }
    { s with dmEng := Tbl.set s.dmEng (key2 d e) y {} }

end Sys2Proof.Machine
end

