-- ==== Sys2Proof/Machine/PantryOps.lean ====
section
/-! DEFINITION. Virtual instances and the Pantry (chapter 12): the instance entry, carving, reset and removal, freeze, the state
blob, the mediated commands. -/

namespace Sys2Proof.Machine

/-! ## Channels -/

/-- The window of a channel: 0 the die channel, 1 + q the admin window of quad q (R352). -/
def chanL (d chan : Nat) : Loc := unitL d chan

/-- A command ends with a result (R353). -/
def State.pnDone (s : State) (d chan res : Nat) : State :=
  let s := (s.wr F.PN_RESULT_result (chanL d chan) res).off F.PN_CMD_busy (chanL d chan)
  if res = 0 then s else s.ev F.PN_EVENT_cmd_refused (dieL d) 0

/-- A data word of a channel. -/
def State.pnData (s : State) (d chan w : Nat) : Nat := s.rd F.PN_DATAw_data (idxL d chan w)
/-- A blob word of a channel. -/
def State.pnBlob (s : State) (d chan w : Nat) : Nat := s.rd F.PN_BLOB_w_data (idxL d chan w)

/-- A write of go to PN_CMD (R352, Table 12.6): ignored while busy; otherwise the fields are taken and the command runs. While D19 is Off
the register keeps nothing and no command runs (R61, R64; log entry 146). -/
def State.pnGo (s : State) (d chan op inst obj tok : Nat) (f : State → State) : State :=
  let l := chanL d chan
  if s.unpowered .PN_CMD l then s
  else if s.flag F.PN_CMD_busy l then s.ev F.PN_EVENT_tbl_busy (dieL d) 0
  else
    let s := ((s.wr F.PN_CMD_op l op).wr F.PN_CMD_inst l inst).wr F.PN_CMD_obj l obj
    let s := (s.wr F.PN_CMD_tok_reset l (if tok = 3 then 0 else tok)).on F.PN_CMD_busy l
    f s

/-- May a channel name an instance (R352)? -/
def State.pnMay (s : State) (d chan i : Nat) : Bool := chan == 0 || (s.inst d i).vcsQuad + 1 == chan && (s.inst d i).state != 0

/-- Give an instance a state, counting the instances not Free (Table 12.8). -/
def State.toInst (s : State) (d i v : Nat) : State :=
  let was := (s.inst d i).state
  let s := s.updInst d i fun x => { x with state := v }
  let n := s.rd F.PN_STATUS_instances (dieL d)
  s.wr F.PN_STATUS_instances (dieL d) (if was = 0 ∧ v ≠ 0 then n + 1 else if was ≠ 0 ∧ v = 0 then n - 1 else n)

/-! ## The entry and carving (R348, R349) -/

/-- A map word: two numbers of `bits`, the even one low (Table 12.1). -/
def mapWord (xs : List Nat) (m : Nat) : Nat := xs.getD (2 * m) 0 + 2 ^ 16 * (xs.getD (2 * m + 1) 0)

/-- The 32 words of an instance entry (Table 12.1). -/
def Inst.words (x : Inst) : List Nat :=
  [2 ^ 31 * b2n (x.state != 0) + 2 ^ 28 * x.state + 2 ^ 20 * x.gen + 2 ^ 16 * x.vcsQuad + 2 ^ 11 * x.queues.length
      + 2 ^ 10 * b2n x.shaped + 2 ^ 6 * x.counters.length + 2 ^ 5 * b2n x.saved,
   2 ^ 24 * x.mask + min x.stale 0xFFFF]
    ++ (upTo 8).map (mapWord x.queues) ++ (upTo 8).map (mapWord x.shapers) ++ (upTo 4).map (mapWord x.counters)
    ++ List.replicate 10 0

/-- The lowest-numbered free queues, shapers and event counters of a die (R348). A shaper for which a write waits (R312) is not free: the write
would take effect on a shaper that the Pantry owns (R315). -/
def State.freeQueues (s : State) (d n : Nat) : List Nat :=
  ((upTo 2048).filter fun q => (s.instOf d q).isNone && s.qst d q == 0).take n
def State.freeShapers (s : State) (d n : Nat) : List Nat :=
  ((upTo 1024).filter fun i => !(s.shp d i).owned && !(s.shp d i).en && (Tbl.get s.shpWrites (d * shpCap + i)).isNone).take n
def State.freeCounters (s : State) (d n : Nat) : List Nat :=
  ((upTo 512).filter fun k => !s.flag F.OWN_owned (idxL d 0 k) && !s.flag F.EVT_en (idxL d 0 k)).take n

/-- Take `n` from a pool count, or give `n` back. -/
def State.pools (s : State) (d : Nat) (q sh c : Nat) (back : Bool) : State :=
  let l := dieL d
  let ch (s : State) (f : Fld) (n : Nat) : State := s.wr f l (if back then s.rd f l + n else s.rd f l - n)
  ch (ch (ch s F.PN_STATUS_queues_free q) F.PN_FREE_shapers_free sh) F.PN_FREE_counters_free c

/-- Carve an instance (R348). -/
def State.carve (s : State) (d i vq nq : Nat) (shaped : Bool) (nc mask : Nat) : State :=
  let qs := s.freeQueues d nq
  let ss := if shaped then s.freeShapers d nq else []
  let cs := s.freeCounters d nc
  let s := s.pools d nq ss.length nc false
  let s := s.forEach qs fun s q =>
    let l := unitL d q
    ((((s.on F.DM_Q_CFG_owned l).wr F.DM_Q_CFG_owner l i).off F.DM_Q_CFG_asp l).wr F.DM_Q_CFG_vcs_quad l vq)
  let s := s.forEach (ss.zip qs) fun s iq =>
    (s.mend d 4 iq.1).putShp d iq.1 { w0 := 2 * 2 ^ 29 + 2 ^ 16 * iq.2, w1 := 1, w2 := 2 ^ 31 + 2 ^ 22 * i + 1, last := s.now d }
  let s := s.forEach cs fun s k =>
    let l := idxL d 0 k
    ((s.on F.OWN_owned l).wr F.OWN_owner l i).wr F.EVT_unit l i
  (s.updInst d i fun x =>
    { gen := x.gen, vcsQuad := vq, shaped := shaped, mask := mask, queues := qs, shapers := ss, counters := cs }).toInst d i 1

/-- An event counter of a die is enabled or disabled (R506). -/
def State.cntSet (s : State) (d k : Nat) (en : Bool) : State :=
  let s := s.wrB F.EVT_en (idxL d 0 k) en
  let on := Tbl.getD s.cntOn d []
  { s with cntOn := Tbl.set s.cntOn d (if en then (if on.contains k then on else on ++ [k]) else on.filter (· != k)) [] }

/-! ## Reset and removal (R355, R356) -/

/-- Fields of a queue that a reset of its instance puts back: all but owned and owner (R355 step 3). -/
def queueFields : List Fld :=
  (([.DM_Q_CTRL, .DM_Q_CFG, .DM_Q_BASE_LO, .DM_Q_BASE_HI, .DM_Q_CQ_BASE_LO, .DM_Q_CQ_BASE_HI, .DM_Q_CQ_CFG, .DM_Q_CQ_HEAD,
    .DM_Q_STATUS, .DM_Q_POS, .DM_Q_CQ_TAIL, .DM_Q_INT_ADDR_LO, .DM_Q_INT_ADDR_HI, .DM_Q_INT_DATA] : List Reg).map
      Reg.fields).flatten.filter fun f => f.reg != .DM_Q_CFG || f.lo < F.DM_Q_CFG_owner.lo

/-- The generation rises (R355 steps 1 and 3): queues, shapers and counters of the instance go back to reset, and requests of
the old generation are counted. -/
def State.raiseGen (s : State) (d i : Nat) : State :=
  let x := s.inst d i
  let old := (List.filter (fun e : Nat × DmReq => e.1 / tagCap == d && e.2.inst == some (i, x.gen)) s.dmReqs).length
  let s := s.forEach x.queues fun s q =>
    let s := (s.toQst d q 0).updDq d q fun x => { era := x.era + 1 }
    s.forEach queueFields fun s f => s.rstFld f (unitL d q)
  let s := s.forEach x.shapers fun s j =>
    let y := s.shp d j
    { s with shpWrites := Tbl.del s.shpWrites (d * shpCap + j) }.putShp d j { y with w0 := bitsOf y.w0 30 0, tok := 0, last := s.now d, wheel := none }
  let s := s.showShps d
  let s := s.forEach x.counters fun s k =>
    { s.cntSet d k false with cnt := Tbl.del s.cnt (cntKey d k) }
  s.updInst d i fun x => { x with gen := (x.gen + 1) % 256, stale := old, kept := [] }

/-- Give the units of an instance back and make it Free (R355 step 4). -/
def State.release_ (s : State) (d i : Nat) : State :=
  let x := s.inst d i
  let s := s.pools d x.queues.length x.shapers.length x.counters.length true
  let s := s.forEach x.queues fun s q => (s.off F.DM_Q_CFG_owned (unitL d q)).off F.DM_Q_CFG_owner (unitL d q)
  let s := s.forEach x.shapers fun s j => s.putShp d j { s.shp d j with w2 := (s.shp d j).w2 % 2 ^ 22 }
  let s := s.forEach x.counters fun s k => (s.off F.OWN_owned (idxL d 0 k)).off F.OWN_owner (idxL d 0 k)
  (s.toInst d i 0).updInst d i fun y => { gen := y.gen }

/-- The end of a Reset or Remove, once no request of an old generation is out (R355 step 4). -/
def State.resetEnd (s : State) (d i : Nat) : State :=
  let x := s.inst d i
  if x.stale ≠ 0 then s
  else
    let fin (s : State) : State := match x.run with
      | some r => s.pnDone d r.chan 0
      | none => s
    if x.state = 2 then fin ((s.toInst d i 1).updInst d i fun y => { y with run := none })
    else if x.state = 5 then fin (s.release_ d i)
    else s

/-- A Reset (3) or Remove (2) that may go on now. -/
def State.resetGo (s : State) (d i : Nat) (run : Option PnRun) (remove : Bool) : State :=
  let s := (s.raiseGen d i).toInst d i (if remove then 5 else 2)
  (s.updInst d i fun y => { y with run := run }).resetEnd d i

/-- Go on with a Reset or Remove that waited (R356, Table 12.4). -/
def State.resetNext (s : State) (d i : Nat) : State :=
  let x := s.inst d i
  match x.waiting with
  | none => s
  | some r =>
    if x.stale ≠ 0 ∨ x.run.isSome then s
    else (s.updInst d i fun y => { y with waiting := none }).resetGo d i (some r) (r.op == 2)

/-- stale_out of an instance reaches 0 (R355, R356). -/
def State.staleZero (s : State) (d i : Nat) : State := ((s.resetEnd d i).resetNext d i)

/-- A Reset or Remove is accepted (R355, R356). -/
def State.resetAsk (s : State) (d i : Nat) (r : PnRun) : State :=
  let x := s.inst d i
  if x.stale ≠ 0 ∨ x.run.isSome then s.updInst d i fun y => { y with waiting := some r }
  else s.resetGo d i (some r) (r.op == 2)

/-- Every instance of a VCS in Active or Freezing is reset as by op 3 (Table 12.5a). The result of a Freeze that this ends is
not stated: a free value. -/
def State.instReset (s : State) (p : Nat) : State :=
  let d := portDie p
  s.forEach ((upTo 512).filter fun i => (s.inst d i).vcsQuad == portQuad p && ((s.inst d i).state == 1 || (s.inst d i).state == 3))
    fun s i =>
      let s := match (s.inst d i).run with
        | some r => (s.pnDone d r.chan s.free).useFree
        | none => s
      ((s.updInst d i fun y => { y with run := none }).resetGo d i none false).resetNext d i

/-! ## Freeze and Thaw (R357, R360) -/

/-- Freeze an Active instance (R357). -/
def State.freeze (s : State) (d i chan : Nat) : State :=
  let qs := (s.inst d i).queues
  let s := s.forEach qs fun s q => s.dropUnstarted d q
  (s.toInst d i 3).updInst d i fun x => { x with run := some ⟨chan, 7⟩, saved := false }

/-- Nothing of an instance is in flight or waits to be written (R357). -/
def State.instQuiet (s : State) (d i : Nat) : Bool :=
  (s.inst d i).queues.all fun q => !s.inFlight d q && s.qst d q != 6 && !(s.dq d q).wantLink && (s.dq d q).ownDue.isNone
    && !(List.any s.dmReqs fun e => e.1 / tagCap == d && e.2.q == q)

/-- The instance is Frozen (R357): an Active queue is recorded as Idle, and tokens stop accruing (R358). -/
def State.frozen (s : State) (d i : Nat) : State :=
  let x := s.inst d i
  let s := s.forEach x.queues fun s q =>
    if s.qst d q = 2 then (s.toQst d q 1).updDq d q fun y => { y with wantRead := false } else s
  let s := s.forEach x.shapers fun s j => s.putShp d j { (s.shp d j).upTo (s.now d) with wheel := none }
  let s := s.toInst d i 4
  let s := match x.run with
    | some r => s.pnDone d r.chan 0
    | none => s
  (s.updInst d i fun y => { y with run := none }).resetNext d i

/-- The queues of an instance act as after a doorbell (R360, R357): those that are Idle, Active or Parked, and with `paused` a Paused one too. An
Active queue, which the freeze kept from starting and reading, goes on at once. -/
def State.ringAll (s : State) (d i : Nat) (paused : Bool) : State :=
  s.forEach (s.inst d i).queues fun s q =>
    match s.qst d q with
    | 1 | 3 => s.doorbell d q
    | 2 => (((s.doorbell d q).settleQueue d q).dmRead d q).startHeld d q
    | 4 => if paused then s.doorbell d q else s
    | _ => s

/-- The freeze timer expires (R357). -/
def State.freezeFail (s : State) (d i : Nat) : State :=
  let x := s.inst d i
  let s := s.toInst d i 1
  let s := (s.ringAll d i true).inc F.PN_CNT_MISC_freeze_fails (dieL d)
  let s := s.ev F.PN_EVENT_freeze_fail (dieL d) 0
  let s := match x.run with
    | some r => s.pnDone d r.chan 7
    | none => s
  (s.updInst d i fun y => { y with run := none }).resetNext d i

/-- Thaw a Frozen instance (R360): shapers accrue from now. -/
def State.thaw (s : State) (d i : Nat) : State :=
  let slot := s.rd F.SC_STATUS_wheel_slot (dieL d)
  let s := s.forEach (s.inst d i).shapers fun s j =>
    s.putShp d j ({ s.shp d j with last := s.now d }.place (s.now d) slot)
  (s.toInst d i 1).ringAll d i false

/-! ## The state blob (R358, R359, Table 12.7) -/

/-- The chain position of a queue: the parked descriptor, or the next to read. -/
def State.chainPos (s : State) (d q : Nat) : Nat :=
  if s.isChain d q then (match (s.dq d q).parked with
    | some h => h.addr
    | none => (s.dq d q).fetchAddr) else 0

/-- The record of a queue. -/
def State.blobQueue (s : State) (d q : Nat) : List Nat :=
  let l := unitL d q
  let w (r : Reg) : Nat := s.word r l
  [2 ^ 31 + 2 ^ 28 * s.qst d q + 2 ^ 21 * s.rd F.DM_Q_CFG_type l + 2 ^ 17 * s.rd F.DM_Q_CFG_engine l
      + 2 ^ 8 * s.rd F.DM_Q_CFG_size_log2 l + s.rd F.DM_Q_CFG_weight l,
   w .DM_Q_BASE_LO, w .DM_Q_BASE_HI, w .DM_Q_CQ_BASE_LO, w .DM_Q_CQ_BASE_HI, w .DM_Q_CQ_CFG, w .DM_Q_INT_ADDR_LO,
   w .DM_Q_INT_ADDR_HI, w .DM_Q_INT_DATA, w .DM_Q_POS, w .DM_Q_CQ_TAIL, w .DM_Q_CQ_HEAD,
   s.chainPos d q % 2 ^ 32, s.chainPos d q / 2 ^ 32,
   2 ^ 30 * s.rd F.DM_Q_CTRL_pause l + s.rd F.DM_Q_STATUS_last_status l, 0]

/-- The record of a shaper. -/
def Shaper.blob (x : Shaper) : List Nat :=
  [2 ^ 31 * b2n x.en + 2 ^ 27 * x.mode + 2 ^ 8 * x.ovh, x.rate, x.burst, (x.tok / 65536 % 2 ^ 32).toNat]

/-- The record of a counter. -/
def State.blobCounter (s : State) (d k : Nat) : List Nat :=
  let v := Tbl.getD s.cnt (cntKey d k) 0
  [2 ^ 31 * s.rd F.EVT_en (idxL d 0 k) + s.rd F.EVT_event (idxL d 0 k), 0, v % 2 ^ 32, v / 2 ^ 32]

/-- `n` records of `w` words, zeros beyond those given. -/
def records (n w : Nat) (rs : List (List Nat)) : List Nat := ((upTo n).map fun i => rs.getD i (List.replicate w 0)).flatten

/-- The bytes of words, little-endian. -/
def wordBytes (ws : List Nat) : List Nat := (ws.map fun w => (upTo 4).map fun i => w / 2 ^ (8 * i) % 256).flatten

/-- Words of bytes, little-endian. -/
def byteWords (n : Nat) (bs : List Nat) : List Nat :=
  (upTo n).map fun w => ((upTo 4).map fun i => 2 ^ (8 * i) * (bs.getD (4 * w + i) 0)).sum

/-- The bytes of an ASCII string. -/
def ascii (t : String) : List Nat := t.toList.map Char.toNat

/-- The tag of a blob (R463). -/
def State.blobTag (s : State) (ws : List Nat) : List Nat :=
  let key := Config.kmac256 s.strong.root (ascii "MIGRATE") 256 (ascii "SWEISKADE KDF")
  byteWords 8 (Config.kmac256 key (wordBytes (ws.take 368)) 256 (ascii "SWEISKADE BLOB"))

/-- The first 368 words of the blob of an instance (Table 12.7). -/
def State.blobBody (s : State) (d i : Nat) : List Nat :=
  let x := s.inst d i
  [0x5C500001, 2 ^ 20 * x.gen + 2 ^ 11 * x.queues.length + 2 ^ 10 * b2n x.shaped + 2 ^ 6 * x.counters.length,
   s.word .LC_PART_ID pkgL, 2 ^ 24 * d + 2 ^ 8 * i + x.vcsQuad, s.now d % 2 ^ 32, s.now d / 2 ^ 32] ++ List.replicate 10 0
    ++ records 16 16 (x.queues.map (s.blobQueue d)) ++ records 16 4 (x.shapers.map fun j => (s.shp d j).blob)
    ++ records 8 4 (x.counters.map (s.blobCounter d))

/-- Save (R358): the blob goes to the channel's window. -/
def State.save (s : State) (d i chan : Nat) : State :=
  let s := s.wake 0 22
  let b := s.blobBody d i
  let ws := b ++ s.blobTag b ++ List.replicate 8 0
  let s := s.forEach (upTo 384) fun s w => s.wr F.PN_BLOB_w_data (idxL d chan w) (ws.getD w 0)
  s.updInst d i fun x => { x with saved := true }

/-- A write of one of the instance's shapers waits for the slot boundary (R312). -/
def State.instWrites (s : State) (d i : Nat) : Bool :=
  (s.inst d i).shapers.any fun j => (Tbl.get s.shpWrites (d * shpCap + j)).isSome

/-- Go on with a Save that waited for shaper writes (R358). -/
def State.saveNext (s : State) (d i : Nat) : State :=
  match (s.inst d i).run with
  | some r =>
    if r.op = 8 ∧ !s.instWrites d i then
      (((s.save d i r.chan).updInst d i fun y => { y with run := none }).pnDone d r.chan 0).resetNext d i
    else s
  | none => s

/-- The slot boundary: the shaper writes of a die that wait take effect, busy clears, and a Save goes on (R312, R358). -/
def State.shpEffect (s : State) (d : Nat) : State :=
  let ws := List.filter (fun e : Nat × ShpWrite => e.1 / shpCap == d) s.shpWrites
  let s := s.forEach ws fun s e => { s with shpWrites := Tbl.del s.shpWrites e.1 }.shpWrite d e.2
  let s := if ws.isEmpty then s else s.off F.SC_SHP_CMD_busy (dieL d)
  s.forEach ((List.filter (fun e : Nat × Inst => e.2.run.isSome) s.insts).map fun e => e.1.unpair) fun s k =>
    if k.1 = d then s.saveNext d k.2 else s

/-- The checks of a restore (R359). -/
def State.blobOk (s : State) (d i : Nat) (ws : List Nat) : Bool :=
  let x := s.inst d i
  let w1 := ws.getD 1 0
  ws.getD 0 0 == 0x5C500001 && (ws.drop 368).take 8 == s.blobTag ws
    && decide (bitsOf w1 15 11 ≤ x.queues.length) && decide (bitsOf w1 9 6 ≤ x.counters.length) && (!bitOf w1 10 || x.shaped)

/-- The lowest engine of a mask. -/
def lowestEngine (mask : Nat) : Nat := ((upTo 8).find? (bitOf mask)).getD 0

/-- A queue takes its record (R359). -/
def State.restoreQueue (s : State) (d i q : Nat) (r : List Nat) : State :=
  let l := unitL d q
  let g (n : Nat) : Nat := r.getD n 0
  if !bitOf (g 0) 31 then s
  else
    let mask := (s.inst d i).mask
    let e := bitsOf (g 0) 19 17
    let st := bitsOf (g 0) 30 28
    let s := ((s.toQst d q 0).off F.DM_Q_CFG_asp l).wr F.DM_Q_CFG_vcs_quad l (s.inst d i).vcsQuad
    let s := ((s.wr F.DM_Q_CFG_type l (bitsOf (g 0) 21 21)).wr F.DM_Q_CFG_engine l (if bitOf mask e then e else lowestEngine mask))
    let s := (s.wr F.DM_Q_CFG_size_log2 l (bitsOf (g 0) 12 8)).wr F.DM_Q_CFG_weight l (bitsOf (g 0) 7 0)
    let s := (s.wr F.DM_Q_BASE_LO_base l (g 1)).wr F.DM_Q_BASE_HI_base l (g 2)
    let s := (s.wr F.DM_Q_CQ_BASE_LO_cq_base l (g 3)).wr F.DM_Q_CQ_BASE_HI_cq_base l (g 4)
    let s := ((s.wr F.DM_Q_CQ_CFG_int_en l (bitsOf (g 5) 7 7)).wr F.DM_Q_CQ_CFG_int_on_err l (bitsOf (g 5) 6 6)).wr
      F.DM_Q_CQ_CFG_cq_size_log2 l (bitsOf (g 5) 4 0)
    let s := ((s.wr F.DM_Q_INT_ADDR_LO_int_addr l (g 6)).wr F.DM_Q_INT_ADDR_HI_int_addr l (g 7)).wr F.DM_Q_INT_DATA_int_data l (g 8)
    let s := (s.wr F.DM_Q_POS_start_pos l (bitsOf (g 9) 31 16)).wr F.DM_Q_POS_dev_pos l (bitsOf (g 9) 15 0)
    let s := (s.wr F.DM_Q_CQ_TAIL_cq_tail l (g 10)).wr F.DM_Q_CQ_HEAD_cq_head l (g 11)
    let s := (s.wr F.DM_Q_CTRL_pause l (bitsOf (g 14) 30 30)).wr F.DM_Q_STATUS_last_status l (bitsOf (g 14) 6 0)
    let s := s.wrB F.DM_Q_CTRL_en l (st != 0 && st != 6)
    let pos := g 12 + 2 ^ 32 * g 13
    let start := bitsOf (g 9) 31 16
    let tail : DmHeld := { idx := (start + 65535) % 65536, addr := pos, w := [] }
    let s := s.updDq d q fun x =>
      { fetch := start, fetchAddr := pos, stopped := true, era := x.era + 1,
        parked := if st = 3 ∧ bitOf (g 0) 21 then some tail else none }
    (s.toQst d q st).showQ d q

/-- A shaper takes its record, tokens clamped to the burst (R359). Where another shaper governs its queue it stays disabled, since one alone may
(R307; DEDUCED, log entry 162). -/
def State.restoreShaper (s : State) (d j : Nat) (r : List Nat) : State :=
  let g (n : Nat) : Nat := r.getD n 0
  let x := s.shp d j
  let t : Int := if 2 ^ 31 ≤ g 3 then (g 3 : Int) - 2 ^ 32 else g 3
  let w (en : Nat) : Nat := 2 ^ 31 * en + 2 * 2 ^ 29 + 2 ^ 27 * bitsOf (g 0) 28 27 + 2 ^ 16 * x.queue + 2 ^ 8 * bitsOf (g 0) 15 8
  let en := if s.shpOk d { index := j, w0 := w (bitsOf (g 0) 31 31), w1 := g 1, w2 := g 2, tokReset := 0 } true then bitsOf (g 0) 31 31 else 0
  let y : Shaper :=
    { x with w0 := 2 ^ 31 * en + 2 * 2 ^ 29 + 2 ^ 27 * bitsOf (g 0) 28 27 + 2 ^ 16 * x.queue + 2 ^ 8 * bitsOf (g 0) 15 8,
             w1 := storedRate (bitsOf (g 1) 22 0), w2 := 2 ^ 22 * bitsOf x.w2 31 22 + storedBurst (bitsOf (g 2) 15 0), wheel := none,
             last := s.now d }
  (s.putShp d j { y with tok := min (65536 * t) y.full }).showShps d

/-- A counter takes its record (R359). -/
def State.restoreCounter (s : State) (d k : Nat) (r : List Nat) : State :=
  let g (n : Nat) : Nat := r.getD n 0
  let s := (s.wr F.EVT_event (idxL d 0 k) (bitsOf (g 0) 15 0)).cntSet d k (bitOf (g 0) 31)
  { s with cnt := Tbl.set s.cnt (cntKey d k) ((g 2 + 2 ^ 32 * g 3) % 2 ^ 48) 0 }

/-- Restore a blob into an instance, which becomes Frozen (R359). -/
def State.restore (s : State) (d i chan : Nat) : State :=
  let ws := (upTo 384).map (s.pnBlob d chan)
  let x := s.inst d i
  let rec_ (base w n : Nat) : List Nat := (ws.drop (base + w * n)).take w
  let w1 := ws.getD 1 0
  let nq := bitsOf w1 15 11
  let s := s.forEach (upTo (min nq x.queues.length)) fun s j => s.restoreQueue d i (x.queues.getD j 0) (rec_ 16 16 j)
  let s := if bitOf w1 10 then
      s.forEach (upTo (min nq x.shapers.length)) fun s j => s.restoreShaper d (x.shapers.getD j 0) (rec_ 272 4 j) else s
  let s := s.forEach (upTo (min (bitsOf w1 9 6) x.counters.length)) fun s k => s.restoreCounter d (x.counters.getD k 0) (rec_ 336 4 k)
  s.toInst d i 4

/-! ## Set queue, Set shaper, Set counter (R353, R354, R511) -/

/-- The fields that Set queue carries, with its values (Table 12.3, op 4), the addresses last. -/
def State.setQueueVals (s : State) (d chan : Nat) : List (Fld × Nat) × List (Fld × Nat) :=
  let w (k : Nat) : Nat := s.pnData d chan k
  ([(F.DM_Q_CFG_type, bitsOf (w 0) 21 21), (F.DM_Q_CFG_engine, bitsOf (w 0) 19 17), (F.DM_Q_CFG_size_log2, bitsOf (w 0) 12 8),
    (F.DM_Q_CFG_weight, max 1 (bitsOf (w 0) 7 0)), (F.DM_Q_CQ_CFG_int_en, bitsOf (w 5) 7 7),
    (F.DM_Q_CQ_CFG_int_on_err, bitsOf (w 5) 6 6), (F.DM_Q_CQ_CFG_cq_size_log2, bitsOf (w 5) 4 0)],
   [(F.DM_Q_BASE_LO_base, w 1), (F.DM_Q_BASE_HI_base, w 2), (F.DM_Q_CQ_BASE_LO_cq_base, w 3), (F.DM_Q_CQ_BASE_HI_cq_base, w 4),
    (F.DM_Q_INT_ADDR_LO_int_addr, w 6), (F.DM_Q_INT_ADDR_HI_int_addr, w 7), (F.DM_Q_INT_DATA_int_data, w 8)])

/-- Write fields of a queue. -/
def State.wrAll (s : State) (l : Loc) (vs : List (Fld × Nat)) : State := s.forEach vs fun s fv => s.wr fv.1 l fv.2

/-- Whether any of the values differs from what a queue has. -/
def State.differs (s : State) (l : Loc) (vs : List (Fld × Nat)) : Bool := vs.any fun fv => s.rd fv.1 l != fv.2

/-- Set queue (R354, R359): the result, and the state when it is 0. -/
def State.setQueue (s : State) (d i j chan : Nat) : Nat × State :=
  let x := s.inst d i
  match x.queues[j]? with
  | none => (1, s)
  | some q =>
    let l := unitL d q
    let (cfg, adr) := s.setQueueVals d chan
    let en := bitOf (s.pnData d chan 0) 31
    let e := bitsOf (s.pnData d chan 0) 19 17
    let base (s : State) : Int := (s.rd64 F.DM_Q_BASE_LO_base F.DM_Q_BASE_HI_base l : Nat)
    if x.state = 4 then
      if !bitOf x.mask e then (5, s)
      else if s.differs l cfg ∨ en ≠ s.flag F.DM_Q_CTRL_en l then (2, s)
      else
        let b0 := base s
        let s := s.wrAll l adr
        let move (a : Nat) : Nat := ((a : Int) + base s - b0).toNat % 2 ^ 64
        (0, if s.isChain d q then s.updDq d q fun y =>
              { y with fetchAddr := move y.fetchAddr, parked := y.parked.map fun h => { h with addr := move h.addr } } else s)
    else if !bitOf x.mask e then (5, s)
    else if s.qst d q ≠ 0 ∧ s.differs l (cfg ++ adr) then (2, s)
    else
      let t := ((s.wrAll l (cfg ++ adr)).off F.DM_Q_CFG_asp l).wr F.DM_Q_CFG_vcs_quad l x.vcsQuad
      if !en then (0, t.queueDisable d q)
      else if t.qst d q ≠ 0 then (0, t)
      else
        let r := t.enableCheck d q
        if r ≠ 0 then (8, s.enableRefused d q r) else (0, t.queueEnable d q)

/-- Set shaper (Table 12.3, op 5). -/
def State.setShaper (s : State) (d i j chan tok : Nat) : Nat × State :=
  let x := s.inst d i
  match x.shapers[j]? with
  | none => (1, s)
  | some k =>
    let w (n : Nat) : Nat := s.pnData d chan n
    let y := s.shp d k
    let wr : ShpWrite := { index := k, w0 := 2 ^ 31 * bitsOf (w 0) 31 31 + 2 * 2 ^ 29 + 2 ^ 27 * bitsOf (w 0) 28 27
        + 2 ^ 16 * y.queue + 2 ^ 8 * bitsOf (w 0) 15 8, w1 := w 1, w2 := w 2, tokReset := if tok = 3 then 0 else tok }
    if s.shpOk d wr true then (0, { s with shpWrites := Tbl.put s.shpWrites (d * shpCap + k) wr }) else (1, s)

/-- Events that a carved counter may count (Table 19.1, column I). -/
def instEvent (e : Nat) : Bool := decide (0x9000 ≤ e) && decide (e ≤ 0x9004)

/-- Set counter (Table 12.3, op 6; R511). -/
def State.setCounter (s : State) (d i k chan : Nat) : Nat × State :=
  let x := s.inst d i
  match x.counters[k]? with
  | none => (1, s)
  | some c =>
    let w := s.pnData d chan 0
    if !instEvent (bitsOf w 15 0) ∨ (bitOf w 31 ∧ !s.domUsable d 20) then (1, s)
    else (0, ((s.wr F.EVT_event (idxL d 0 c) (bitsOf w 15 0)).wr F.EVT_unit (idxL d 0 c) i).cntSet d c (bitOf w 31))

/-! ## The commands (Table 12.3) -/

/-- The bits of a write of go to PN_CMD (Table 12.6). -/
structure PnCmd where
  op : Nat
  inst : Nat
  obj : Nat
  tok : Nat
  deriving DecidableEq, Repr

/-- A command of the Pantry (R352): an instance that the channel does not own gives result 3; a state outside the list gives result 2. -/
def State.pnCmd (s : State) (d chan : Nat) (c : PnCmd) (states : List Nat) (f : State → State) : State :=
  s.pnGo d chan c.op c.inst c.obj c.tok fun s =>
    if !s.pnMay d chan c.inst then s.pnDone d chan 3
    else if !states.contains (s.inst d c.inst).state then s.pnDone d chan 2
    else f s

/-- What stands in PN_CMD for the fields that an op does not use. -/
def State.pnOld (s : State) (d chan op i : Nat) : PnCmd :=
  ⟨op, i, s.rd F.PN_CMD_obj (chanL d chan), s.rd F.PN_CMD_tok_reset (chanL d chan)⟩

/-- Every state of Table 12.4. -/
def anyInst : List Nat := [0, 1, 2, 3, 4, 5]

/-- Op 0: the entry goes to DATA0 to DATA31. -/
def State.pnRead (s : State) (d chan : Nat) (c : PnCmd) : State :=
  s.pnCmd d chan c anyInst fun s =>
    (s.forEach (upTo 32) fun s w => s.wr F.PN_DATAw_data (idxL d chan w) ((s.inst d c.inst).words.getD w 0)).pnDone d chan 0

/-- Op 1 (R348, Table 12.3): the counts and the mask, then the pools, then the carving. -/
def State.pnCreate (s : State) (d chan : Nat) (c : PnCmd) : State :=
  s.pnGo d chan c.op c.inst c.obj c.tok fun s =>
    let w0 := s.pnData d chan 0
    let mask := bitsOf (s.pnData d chan 1) 31 24
    let nq := bitsOf w0 15 11
    let nc := bitsOf w0 9 6
    let shaped := bitOf w0 10
    if chan ≠ 0 then s.pnDone d chan 3
    else if (s.inst d c.inst).state ≠ 0 then s.pnDone d chan 2
    else if nq = 0 ∨ 16 < nq ∨ 8 < nc ∨ mask = 0 then s.pnDone d chan 1
    else if (s.freeQueues d nq).length < nq ∨ (shaped ∧ (s.freeShapers d nq).length < nq) ∨ (s.freeCounters d nc).length < nc then
      s.pnDone d chan 4
    else (s.carve d c.inst (bitsOf w0 19 16) nq shaped nc mask).pnDone d chan 0

/-- Op 2 (R355): die channel only; any state but Free and Removing. -/
def State.pnRemove (s : State) (d chan : Nat) (c : PnCmd) : State :=
  s.pnGo d chan c.op c.inst c.obj c.tok fun s =>
    if chan ≠ 0 then s.pnDone d chan 3
    else if (s.inst d c.inst).state = 0 ∨ (s.inst d c.inst).state = 5 then s.pnDone d chan 2
    else s.resetAsk d c.inst ⟨chan, 2⟩

/-- A command whose result is computed with its effect. -/
def State.pnEnd (chan d : Nat) (r : Nat × State) : State := r.2.pnDone d chan r.1

/-- Op 8, which waits for shaper writes of the instance. DESIGN CHOICE (log entry 163): while a command still runs on it for another channel the
result is 2; the spec does not say. -/
def State.pnSave (s : State) (d chan i : Nat) : State :=
  if (s.inst d i).run.isSome then s.pnDone d chan 2
  else (s.updInst d i fun y => { y with run := some ⟨chan, 8⟩ }).saveNext d i

/-- Op 9: onto an Active instance only with every queue Disabled. -/
def State.pnRestore (s : State) (d chan i : Nat) : State :=
  if (s.inst d i).state = 1 ∧ !((s.inst d i).queues.all fun q => s.qst d q == 0) then s.pnDone d chan 2
  else if !s.blobOk d i ((upTo 384).map (s.pnBlob d chan)) then s.pnDone d chan 6
  else (s.restore d i chan).pnDone d chan 0

/-- go of PN_CMD (Table 12.3). An op that the table does not have gives result 1. -/
def State.pnDo (s : State) (d chan : Nat) (c : PnCmd) : State :=
  let i := c.inst
  match c.op with
  | 0 => s.pnRead d chan c
  | 1 => s.pnCreate d chan c
  | 2 => s.pnRemove d chan c
  | 3 => s.pnCmd d chan c [1, 4] fun s => s.resetAsk d i ⟨chan, 3⟩
  | 4 => s.pnCmd d chan c [1, 4] fun s => State.pnEnd chan d (s.setQueue d i c.obj chan)
  | 5 => s.pnCmd d chan c [1] fun s => State.pnEnd chan d (s.setShaper d i c.obj chan c.tok)
  | 6 => s.pnCmd d chan c [1] fun s => State.pnEnd chan d (s.setCounter d i c.obj chan)
  | 7 => s.pnCmd d chan c [1] fun s => s.freeze d i chan
  | 8 => s.pnCmd d chan c [4] fun s => s.pnSave d chan i
  | 9 => s.pnCmd d chan c [1, 4] fun s => s.pnRestore d chan i
  | 10 => s.pnCmd d chan c [4] fun s => (s.thaw d i).pnDone d chan 0
  | _ => s.pnGo d chan c.op c.inst c.obj c.tok fun s => s.pnDone d chan 1

end Sys2Proof.Machine
end

