-- ==== Sys2Proof/Machine/Channels.lean ====
section
/-! DEFINITION. Command channels (chapter 15, R415 to R420): acceptance, responses, background commands, queued command slots. -/

namespace Sys2Proof.Machine

/-- A channel of a die's Warden pair. -/
def State.chan (s : State) (d c : Nat) : Chan := Tbl.getD s.chans (key2 d c) {}

/-- Entries of a channel's queue in use (R415): commands that wait, the one that runs, the background command. -/
def Chan.depth (x : Chan) : Nat := x.queue.length + b2n x.running.isSome + b2n x.bg.isSome

/-- Change a channel, with what MB_CHAN_c shows of it. -/
def State.updChan (s : State) (d c : Nat) (f : Chan → Chan) : State :=
  let s := { s with chans := Tbl.mod s.chans (key2 d c) {} f }
  let x := s.chan d c
  (s.wr F.MB_CHAN_c_depth (idxL d 0 c) x.depth).wrB F.MB_CHAN_c_bg_running (idxL d 0 c) x.bg.isSome

/-- What a Warden pair holds. -/
def State.warden (s : State) (d : Nat) : WardenSt := Tbl.getD s.wardens d {}
/-- Change what a Warden pair holds. -/
def State.updWarden (s : State) (d : Nat) (f : WardenSt → WardenSt) : State := { s with wardens := Tbl.mod s.wardens d {} f }

/-- The Warden pair of a die runs and accepts commands. -/
def State.running (s : State) (d : Nat) : Bool := s.flag F.MB_STATUS_running (dieL d)

/-- The payload that a channel's responses may have, as a power of two: 2 KiB on a mailbox (R419). -/
def limitMax (c : Nat) : Nat := if c < 4 then 11 else 20

/-- Bytes of a reply that the spec lays out. -/
def Reply.len : Reply → Nat
  | .bytes b => b.length
  | .word _ => 8
  | _ => 0

/-- The bytes of a reply that the spec lays out. -/
def Reply.payload : Reply → List Nat
  | .bytes b => b
  | .word n => (upTo 8).map fun i => n / 2 ^ (8 * i) % 256
  | _ => []

/-- The layout of a reply is the standard's. -/
def Reply.std : Reply → Bool
  | .none => false
  | .bytes _ => false
  | .word _ => false
  | _ => true

/-- Words with bytes `b` written over them from the first. -/
def overlay (mem : Tbl Nat) (b : List Nat) : Tbl Nat :=
  (upTo ((b.length + 3) / 4)).foldl (fun t i =>
    Tbl.set t i (((upTo 4).map fun j =>
      2 ^ (8 * j) * (if 4 * i + j < b.length then b.getD (4 * i + j) 0 else Tbl.getD t i 0 / 2 ^ (8 * j) % 256)).sum) 0) mem

/-- A slot that carried a command takes state 3 and its answer, over its payload (R420). -/
def Chan.slotDone (x : Chan) (o : CmdFrom) (rc : Rc) (r : Reply) : Chan :=
  match o with
  | .slot n => { x with slots := Tbl.mod x.slots n {} fun q =>
      { q with st := 3, rc := some rc, outLen := r.len, mem := overlay q.mem r.payload, std := r.std } }
  | _ => x

/-- The response of channel `c`'s command is written (R417): its entry is freed, unless it goes on as the background command;
a mailbox or slot completion signals vector 0 (R419). -/
def State.respond (s : State) (d c : Nat) (rc : Rc) (r : Reply) : State :=
  match (s.chan d c).running with
  | none => s
  | some cmd =>
    let s := s.updChan d c fun x =>
      { x.slotDone cmd.origin rc r with running := none, bg := if rc = .background then some cmd else x.bg }
    let s := s.emit (.cmdReply d c cmd.opcode cmd.origin rc r)
    if d = 0 ∧ c < 4 then s.emit (.msix c 0) else s

/-- A background command has ended: its channel reports it, or keeps the outcome while the pair does not run (R383). -/
def State.bgDone (s : State) (d c : Nat) (rc : Rc) : State :=
  match (s.chan d c).bg with
  | none => s
  | some cmd =>
    if s.running d then
      (s.updChan d c fun x => { x with bg := none, bgLate := none, bgLast := some (cmd.opcode, rc) }).emit
        (.bgReport d c cmd.opcode rc)
    else s.updChan d c fun x => { x with bgLate := some rc }

/-- Outcomes kept while the pair did not run are reported (R383). -/
def State.bgReportAll (s : State) (d : Nat) : State :=
  s.forEach (upTo 6) fun s c => match (s.chan d c).bgLate with
    | none => s
    | some rc => s.bgDone d c rc

/-- A command is answered by the Hatch or for want of an entry, without taking one (R416, R418). -/
def State.turnAway (s : State) (d c : Nat) (cmd : Cmd) (rc : Rc) : State :=
  let s := s.updChan d c fun x => x.slotDone cmd.origin rc .none
  let s := s.emit (.cmdReply d c cmd.opcode cmd.origin rc .none)
  match cmd.origin with
  | .slot _ => if d = 0 ∧ c < 4 then s.emit (.msix c 0) else s
  | _ => s

/-- A command is rejected with Busy by R416, and counted. -/
def State.rejectBusy (s : State) (d c : Nat) (cmd : Cmd) : State :=
  let s := (s.inc F.MB_CHAN_c_busy_rejects (idxL d 0 c)).ev F.MB_EVENT_busy_reject (dieL d) c
  ((s.pm d 0xB001 c 1).updWarden d fun w => { w with rejected := true }).turnAway d c cmd .busy

/-- Slots of a channel in states 1 and 2. -/
def Chan.slotsBusy (x : Chan) : Nat := (List.filter (fun e => e.2.st == 1 || e.2.st == 2) x.slots).length

/-- A command arrives on channel `c` (R415, R416, R418, Table 15.4). -/
def State.acceptCmd (s : State) (d c : Nat) (cmd : Cmd) : State :=
  let s := s.when (c == 5) fun s => s.wake d 21
  if !s.flag F.MB_CHAN_c_present (idxL d 0 c) then s
  else if !s.running d then
    s.turnAway d c cmd (if s.flag F.RS_WDOG_STATUS_held (dieL d) then .internal else .busy)
  else if 256 ≤ (s.chan d c).depth ∨ (cmd.origin = .mailbox ∧ 256 ≤ (s.chan d c).slotsBusy) then s.rejectBusy d c cmd
  else (s.updChan d c fun x => { x with queue := x.queue ++ [{ cmd with time := s.now d }] }).pm d 0xB000 c 1

/-! ## Queued command slots (R420) -/

/-- The command of slot `n` waits in a channel's queue or has started. -/
def Chan.holdsSlot (x : Chan) (n : Nat) : Bool :=
  let here (c : Cmd) : Bool := match c.origin with
    | .slot k => k.val == n
    | _ => false
  x.queue.any here || x.running.any here || x.bg.any here

/-- The input payload of a slot: its first in_len bytes. -/
def QSlot.input (q : QSlot) : List Nat := (upTo q.inLen).map fun i => Tbl.getD q.mem (i / 4) 0 / 2 ^ (8 * (i % 4)) % 256

/-- The host writes a slot that it owns, whole, with state 1 (R420). -/
def State.hostSlot (s : State) (k n opcode : Nat) (b : List Nat) : State :=
  s.updChan 0 k fun x => { x with slots := Tbl.mod x.slots n {} fun q =>
    if q.st = 0 ∨ q.st = 3 then { st := 1, opcode := opcode, inLen := b.length, mem := overlay [] b } else q }

/-- A doorbell names slot `n` (R420): ignored and counted unless its state is 1; one already queued stays so. -/
def State.slotBell (s : State) (k n : Nat) : State :=
  let q := Tbl.getD (s.chan 0 k).slots n {}
  if q.st ≠ 1 then s.inc F.MB_CHAN_c_db_ignored (idxL 0 0 k)
  else if (s.chan 0 k).holdsSlot n then s
  else s.acceptCmd 0 k { opcode := q.opcode, payload := q.input, origin := .slot (Fin.ofNat 256 n) }

end Sys2Proof.Machine
end

