-- ==== Sys2Proof/Machine/Pages.lean ====
section
/-! DEFINITION. What a tenant reaches (R350, R351): doorbell pages and their event counters, and BAR0 of function 1 of an upstream port; and
the queued command slots in BAR0 of function 2 of an FM port (R419). -/

namespace Sys2Proof.Machine

/-! ## Writers -/

/-- The upstream port as whose function 1 a writer reaches the register space (R350). -/
def tenantOf : Src → Option Nat
  | .tenant v => some v
  | _ => none

/-- In Scrap no register write from outside takes effect (Table 17.12). -/
def State.shut (s : State) (src : Src) : Bool :=
  s.rd F.LC_STATE_state pkgL == 5 && match src with
    | .warden _ => false
    | _ => true

/-- A channel that a writer reaches: function 1 of an upstream port the admin window of its own VCS alone (R350). -/
def ownChan (src : Src) (d chan : Nat) : Bool :=
  match tenantOf src with
  | none => true
  | some v => portDie v == d && chan == portQuad v + 1

/-- There is a doorbell page for instance `i` where a writer looks for it: the instance exists, and for function 1 belongs to its VCS (R350). -/
def State.pageFor (s : State) (src : Src) (d i : Nat) : Bool :=
  (s.inst d i).state != 0 && match tenantOf src with
    | none => true
    | some v => s.pantryFn.contains v && portNo d (s.inst d i).vcsQuad == v

/-- An instance in which a doorbell is discarded: Frozen (R358), and while a Reset or Remove is under way (Table 12.5a). -/
def Inst.deaf (x : Inst) : Bool := x.state == 2 || x.state == 4 || x.state == 5

/-- A write to slot `j` of instance `i`'s doorbell page (R350, R351): where there is no page nothing happens; a slot beyond the instance's queues,
and a doorbell (`db`) that is not heard, are discarded and counted. -/
def State.onPage (s : State) (src : Src) (d i j : Nat) (db : Bool) (f : Nat → State → State) : State :=
  let x := s.inst d i
  if s.pageFor src d i then
    match x.queues[j]? with
    | none => s.inc F.PN_CNT_MISC_db_discard (dieL d)
    | some q => if db && x.deaf then s.inc F.PN_CNT_MISC_db_discard (dieL d) else f q s
  else s

/-! ## Addresses and captured reads -/

/-- A register's copy, as one number. -/
def rkey (r : Reg) (l : Loc) : Nat := Nat.pair r.ctorIdx (Nat.pair l.die (Nat.pair l.unit l.idx))

/-- The register of a block at an offset from the start of its unit. -/
def regIn (b : Blk) (rel : Nat) : Option (Reg × Nat) :=
  b.regs.findSome? fun r =>
    let i := r.info
    if rel < i.off then none
    else if i.stride = 0 then (if rel = i.off then some (r, 0) else none)
    else if (rel - i.off) % i.stride = 0 ∧ (rel - i.off) / i.stride < i.count then some (r, (rel - i.off) / i.stride)
    else none

/-- The value of a counter. -/
def State.cntVal (s : State) (d k : Nat) : Nat := Tbl.getD s.cnt (cntKey d k) 0

/-- The overflow bit of a counter. -/
def State.cntOvf (s : State) (d k : Nat) : Bool := s.flag (F.PM_OVF_j_ovf (k % 32)) (idxL d 0 (k / 32))

/-- A read of CNT_LO captures the value with ovf, the stamp and the next sequence number (R512). -/
def State.cntCapture (s : State) (d k : Nat) : State :=
  let l := idxL d 0 k
  let v := s.cntVal d k
  let s := { s with capture := Tbl.put s.capture (rkey .CNT_HI l) (v + 2 ^ 48 * b2n (s.cntOvf d k)) }
  let s := ((s.wr F.CNT_LO_value_lo l v).wr F.CNT_HI_value_hi l (v / 2 ^ 32)).wr F.CNT_HI_seq l (s.rd F.CNT_HI_seq l + 1)
  s.wr64 F.STAMP_LO_stamp F.STAMP_HI_stamp l (s.now d)

/-! ## Doorbell pages (Table 12.2) -/

/-- DM_Q_STATUS of a queue, with its shaped bit as it stands now (Table 11.9). -/
def State.qStatus (s : State) (d q : Nat) : Nat :=
  s.word .DM_Q_STATUS (unitL d q) + (if s.qRuns d q then 0 else 2 ^ F.DM_Q_STATUS_shaped.lo)

/-- A write of a queue's CTRL in a page: pause, resume, inv. -/
def State.pageCtrl (s : State) (d q v : Nat) : State :=
  let s := if bitOf v 30 then s.queuePause d q else if s.flag F.DM_Q_CTRL_pause (unitL d q) then s.queueUnpause d q else s
  let s := if bitOf v 29 then s.queueResume d q else s
  if bitOf v 28 then s.queueInvalidate d q else s

/-- A write to a doorbell page. -/
def State.pageWrite (s : State) (src : Src) (d i o v : Nat) : State :=
  if 0x400 ≤ o then s
  else s.onPage src d i (o / 0x40) (o % 0x40 == 0) fun q s =>
    match o % 0x40 with
    | 0x00 => s.doorbell d q
    | 0x04 => s.cqHead d q v
    | 0x14 => s.pageCtrl d q v
    | _ => s

/-- A read of a doorbell page. -/
def State.pageRead (s : State) (d i o : Nat) : Nat × State :=
  let x := s.inst d i
  if x.state = 0 then (0, s)
  else if o < 0x400 then
    match x.queues[o / 0x40]? with
    | none => (0, s)
    | some q =>
      let l := unitL d q
      match o % 0x40 with
      | 0x04 => (s.word .DM_Q_CQ_HEAD l, s)
      | 0x08 => (s.qStatus d q, s)
      | 0x0C => (s.word .DM_Q_POS l, s)
      | 0x10 => (s.word .DM_Q_CQ_TAIL l, s)
      | 0x14 => (2 ^ 30 * s.rd F.DM_Q_CTRL_pause l, s)
      | _ => (0, s)
  else if o = 0x400 then (2 ^ 28 * x.state + 2 ^ 20 * x.gen + 2 ^ 11 * x.queues.length + 2 ^ 6 * x.counters.length, s)
  else if 0x440 ≤ o ∧ o < 0x480 then
    match x.counters[(o - 0x440) / 8]? with
    | none => (0, s)
    | some k =>
      if !s.domOn d 20 then (0, s)
      else if o % 8 = 0 then
        let t := s.cntCapture d k
        (t.rd F.CNT_LO_value_lo (idxL d 0 k), t)
      else (s.word .CNT_HI (idxL d 0 k), s)
  else (0, s)

/-! ## Admin windows (R352, Table 12.6) -/

/-- A write of PN_CMD on a channel. -/
def State.pnWrite (s : State) (l : Loc) (v : Nat) : State :=
  if bitOf v 31 then s.pnDo l.die l.unit ⟨bitsOf v 29 26, bitsOf v 8 0, bitsOf v 19 16, bitsOf v 25 24⟩
  else s.gated .PN_CMD l fun s =>
    let s := ((s.wr F.PN_CMD_op l (bitsOf v 29 26)).wr F.PN_CMD_inst l (bitsOf v 8 0)).wr F.PN_CMD_obj l (bitsOf v 19 16)
    s.wr F.PN_CMD_tok_reset l (if bitsOf v 25 24 = 3 then 0 else bitsOf v 25 24)

/-- A write in a channel's window. -/
def State.winWrite (s : State) (d chan o v : Nat) : State :=
  match regIn .pnc o with
  | some (.PN_CMD, _) => s.pnWrite (chanL d chan) v
  | some (.PN_DATAw, w) => s.gated .PN_DATAw (chanL d chan) fun s => s.wr F.PN_DATAw_data (idxL d chan w) v
  | some (.PN_BLOB_w, w) => s.gated .PN_BLOB_w (chanL d chan) fun s => s.wr F.PN_BLOB_w_data (idxL d chan w) v
  | _ => s

/-- A read in a channel's window. -/
def State.winRead (s : State) (d chan o : Nat) : Nat :=
  match regIn .pnc o with
  | some (r, w) => s.word r (idxL d chan w)
  | none => 0

/-! ## BAR0 of function 1 (R350) -/

/-- A word of BAR0 of VCS `v` is written: a page of one of its own instances, its admin window, or nothing. -/
def State.barWrite (s : State) (v : Fin 128) (o x : Nat) : State :=
  let d := portDie v
  if o < 0x20_0000 then s.pageWrite (.tenant v) d (o / 0x1000) (o % 0x1000) x
  else if o < 0x20_2000 then s.winWrite d (portQuad v + 1) (o - 0x20_0000) x
  else s

/-- A word of BAR0 of VCS `v` is read. -/
def State.barRead (s : State) (v : Fin 128) (o : Nat) : Nat × State :=
  let d := portDie v
  if o < 0x20_0000 then (if s.pageFor (.tenant v) d (o / 0x1000) then s.pageRead d (o / 0x1000) (o % 0x1000) else (0, s))
  else if o < 0x20_2000 then (s.winRead d (portQuad v + 1) (o - 0x20_0000), s)
  else (0, s)

/-- The byte offsets of the 32-bit words that a TLP of `len` bytes from offset `o` touches, of which it carries at most 8 cells (R7, R183). -/
def barWords (o len : Nat) : List Nat := (upTo (min (128 - o % 64 / 4) ((o % 4 + len + 3) / 4))).map fun k => o / 4 * 4 + 4 * k

/-- The payload cell of a TLP from offset `o`, and the bit in it, at which the word at offset `a` stands (PRESUMED, log entry 164). -/
def barPlace (o a : Nat) : Nat × Nat := (a / 64 - o / 64, 8 * (a % 64))

/-- Payload cells of `len` bytes from offset `o`. -/
def barCells (o len : Nat) : Nat := min 8 ((o % 64 + len + 63) / 64)

/-- The word at offset `a` that a write from offset `o` carries; its first cell is the TLP header. -/
def barWord (m : Msg) (o a : Nat) : Nat := m.data.getD (1 + (barPlace o a).1) 0 / 2 ^ (barPlace o a).2 % 2 ^ 32

/-- The words of a BAR that a read asks for, as the payload cells of its completion. -/
def State.barData (s : State) (rd : State → Nat → Nat × State) (o len : Nat) : List Nat × State :=
  (barWords o len).foldl
    (fun acc a =>
      let (k, b) := barPlace o a
      let (x, s) := rd acc.2 a
      (acc.1.set k (acc.1.getD k 0 + 2 ^ b * x), s))
    (List.replicate (barCells o len) 0, s)

/-- A memory request at byte offset `o` of a BAR of the host's upstream port: a write takes effect word by word; a read completes with what
the words hold. -/
def State.barServe (s : State) (d t : Nat) (m : Msg) (o : Nat) (rd : State → Nat → Nat × State) (wr : State → Nat → Nat → State) : State :=
  let x : Trk := { src := m.src, ptag := m.ptag, tc := m.tc, kind := m.kind, opcode := m.opcode, port := m.src, vcs := some m.src, hpa := m.addr,
                   addr := m.addr, time := s.now d }
  if m.kind = .ioMemRd then
    let (cells, s) := (s.putTrk d t x).barData rd o m.len
    s.complete d t .ioCpl false false .i (x.cplData 0 |>.take 1 |>.append cells) none
  else
    let s := s.forEach (barWords o m.len) fun s a => wr s a (barWord m o a)
    if takesTrk m.tc m.kind then (s.putTrk d t x).complete d t .ioCpl false false .i [] none else s

/-- A memory request of the host of VCS `v` to BAR0 (R350), which is work for D19 (R67): a write takes effect word by word, but in Scrap (Table
17.12); a read completes with what the words hold. -/
def State.barAccess (s : State) (d : Nat) (mid : Option Nat) (t : Nat) (m : Msg) : State :=
  let v : Fin 128 := Fin.ofNat 128 m.src
  let s := (s.freeCopy d mid).wake d 19
  match s.bar0Off v m with
  | none => s
  | some o =>
    s.barServe d t { m with src := v } o (fun s a => s.barRead v a) fun s a x => if s.shut (.tenant v) then s else s.barWrite v a x

/-! ## BAR0 of function 2 of an FM port (R419, R420) -/

/-- The number that Table 15.3 shows for a return code. -/
def Rc.shown : Option Rc → Nat
  | none => 0
  | some (.device n) => n % 65536
  | some c => Config.rcCode c.ctorIdx % 65536

/-- A word of a queued command slot (Table 15.3). An answer that the part has put there in a layout of the standard reads as a free value. -/
def State.slotRead (s : State) (k n o : Nat) : Nat × State :=
  let q := Tbl.getD (s.chan 0 k).slots n {}
  match o with
  | 0x0 => (2 ^ 30 * q.st + q.opcode, s)
  | 0x4 => (q.inLen, s)
  | 0x8 => (2 ^ 16 * Rc.shown q.rc, s)
  | 0xC => (q.outLen, s)
  | _ => if o < 0x40 then (0, s) else if q.std then (s.free % 2 ^ 32, s.useFree) else (Tbl.getD q.mem ((o - 0x40) / 4) 0, s)

/-- A word of a slot is written by the host: not while the part runs its command or holds it in its queue. -/
def State.slotWrite (s : State) (k n o v : Nat) : State :=
  if (s.chan 0 k).holdsSlot n then s
  else s.updChan 0 k fun x => { x with slots := Tbl.mod x.slots n {} fun q =>
    match o with
    | 0x0 => if bitsOf v 31 30 = 1 then { q with st := 1, opcode := v % 65536, rc := none, outLen := 0 }
      else { q with st := 0, opcode := v % 65536 }
    | 0x4 => { q with inLen := min (v % 2 ^ 21) 4032 }
    | _ => if o < 0x40 then q else { q with mem := Tbl.set q.mem ((o - 0x40) / 4) v 0, std := false } }

/-- A word of BAR0 of function 2 is read. The register array and the primary mailbox are the standard's: a word of theirs is a free value. -/
def State.mboxRead (s : State) (k o : Nat) : Nat × State :=
  if o < 0x1_0000 then (s.free % 2 ^ 32, s.useFree)
  else if 0x10_0000 ≤ o then s.slotRead k ((o - 0x10_0000) / 0x1000) (o % 0x1000)
  else (0, s)

/-- A word of BAR0 of function 2 is written: MB_QDOORBELL, a slot, or nothing that this spec gives an effect. A command that the host issues
through the primary mailbox is the row COMMAND_ACCEPT. -/
def State.mboxWrite (s : State) (k o v : Nat) : State :=
  if o = 0x1_0000 then s.slotBell k (v % 256)
  else if 0x10_0000 ≤ o then s.slotWrite k ((o - 0x10_0000) / 0x1000) (o % 0x1000) v
  else s

/-- A memory request of an FM port into BAR0 of its function 2 (R419). -/
def State.mboxAccess (s : State) (d : Nat) (mid : Option Nat) (t : Nat) (m : Msg) : State :=
  let s := s.freeCopy d mid
  match s.fmOf m.src, s.fn2Off m.src m with
  | some k, some (_, o) => s.barServe d t m o (fun s a => s.mboxRead k a) fun s a x => s.mboxWrite k a x
  | _, _ => s

end Sys2Proof.Machine
end

