-- ==== Sys2Proof/Machine/Work.lean ====
section
/-! DEFINITION. What one command makes and finishes before it ends: the work left in `todo`, done in order (a step is whole and
indivisible), and the wrappers of a command's effect. -/

namespace Sys2Proof.Machine

/-- Do one piece of work. -/
def State.doWork (s : State) (w : Work) : State :=
  match w with
  | .dispose p e flush => s.dispose (portDie p) p e flush
  | .notUp p e => s.notUp p e
  | .lostPath d e => s.lostPath d e
  | .other a d t => s.completeOther a d t
  | .fence p r => s.fence p r
  | .lasting p => s.lastingFault p
  | .copyFail src p ld cause => s.sendCopyMsg src (.failPort (Fin.ofNat 128 p) (ld.map (Fin.ofNat 16)) (Fin.ofNat 8 cause))
  | .copyFailIdx src g c cause => s.sendCopyMsg src (.setCopy (Fin.ofNat 4096 g) (Fin.ofNat 2 c) .failed (Fin.ofNat 8 cause))
  | .copyResolved d t c ndr => s.copyResolved d t c ndr none
  | .copyGivenUp d t c => s.giveUpCopy d t c
  | .agLook d a => s.agentLook d a
  | .pairServe d => s.pairServe d
  | .serve d i => s.serveLine d i
  | .biConflict _ m => s.biConflict m
  | .snoopFlushed _ m => s.snoopFlushed m
  | .snoopLost d k => s.snoopLost d k
  | .send d m => s.route d 31 none m
  | .home d input mid m => s.home d input mid m
  | .vcsReset p => (s.vcsReset p).forEach s.dies fun s d => s.askWalk d [] [] [p]
  | .migPort p => s.migPortAbort p
  | .reissue d t => s.reissue d t
  | .migServe d sl => s.migServe d sl
  | .tagServe d => s.tagServe d
  | .resp d m => s.response d 31 none m
  | .dualEnd d tag ndr => s.dualEnd d tag ndr
  | .bar0 d _ mid t m => s.barAccess d mid t m
  | .mbox d mid t m => s.mboxAccess d mid t m
  | .siteFault d t => s.siteFault d t
  | .instReset p => s.instReset p

/-- Do the work that is left, first made first done. The bound is beyond what one command makes; work beyond it would be done
with the next command. -/
def State.settleN : Nat → State → State
  | 0, s => s
  | n + 1, s =>
    match s.todo with
    | [] => s
    | w :: r => State.settleN n (State.doWork { s with todo := r } w)

/-- The bound on the work of one command. -/
def workCap : Nat := 1000000

/-- Do the work that is left. -/
def State.settle (s : State) : State := State.settleN workCap s

/-! ## Delayed reads of memory (R429) -/

/-- What a Hatch holds. -/
def State.hatch (s : State) (d : Nat) : HatchSt := Tbl.getD s.hatches d {}
/-- Change what a Hatch holds. -/
def State.updHatch (s : State) (d : Nat) (f : HatchSt → HatchSt) : State := { s with hatches := Tbl.mod s.hatches d {} f }

/-- A delayed-read slot is free again, with no data (R429). -/
def State.drFree (s : State) (d k : Nat) : State :=
  let l := idxL d 0 k
  ((s.off F.MB_DR_CMD_s_busy l).off F.MB_DR_CMD_s_done l).wr F.MB_DR_DATA_s_data l 0xFFFFFFFF

/-- A delayed read of memory in device form: a TC3 read of the line from input 31, sent to a slot port that is Up; otherwise it
ends as a discard. With no tracker entry free it waits (R33). -/
def State.drMemory (s : State) (d k : Nat) : State :=
  let a := s.rd64 F.MB_DR_DADDR_s_LO_daddr_lo F.MB_DR_DADDR_s_HI_daddr_hi (idxL d 0 k)
  let p := bitsOf a 63 57
  let ld := bitsOf a 56 53
  let line := bitsOf a 51 6
  if bitOf a 52 ∨ s.part.dies ≤ portDie p ∨ !s.isSlot p ∨ s.pstate p ≠ 4 then s.drFree d k
  else match s.freeTrk d with
    | none => s.updHatch d fun h => { h with want := h.want ++ [k] }
    | some t =>
      let m : Msg := made
       { tc := 3, kind := .memRd, src := 0x88 + d, dst := p, ld := ld, addr := line, ptag := k, trkDie := d, trk := t }
      let x : Trk := { src := m.src, ptag := k, tc := 3, kind := .memRd, opcode := m.opcode, port := p, ld := ld, addr := line,
                       time := s.now d }
      (s.putTrk d t x).push (.home d 31 none m)

/-- Delayed reads of memory that waited try again. -/
def State.drAgain (s : State) (d : Nat) : State :=
  if (s.hatch d).want.isEmpty then s
  else (s.updHatch d fun h => { h with want := [] }).forEach (s.hatch d).want fun s k => s.drMemory d k

/-- The end of a command's effect: its work; inputs that can take a cell again return credit (R189); held BIRsp whose earlier
writes are answered go on (R254); pair queries whose writes have ended are answered (R280); what waits for a tracker entry tries again
(R33); with the work that this makes. -/
def State.finish (s : State) : State :=
  let s := s.settle
  let s := s.forEach s.dies fun s d => ((((((s.returnCredit d).makeAgain d).releaseBirsp d).answerPairs d).poisonAgain d).rewritesAgain d).drAgain d
  s.settle

/-- An event of die `d` that may make work. -/
def runOn (d : Nat) (s : State) (f : State → State) : Outcome := onDie d s fun s => (f s).finish

/-- An event of the package that may make work. -/
def runPkg (s : State) (f : State → State) : Outcome := onPkg s fun s => (f s).finish

/-! ## SRAM errors (R376) -/

/-- Core cycles of one scrub_period. -/
def State.scrubPeriod (s : State) (d : Nat) : Nat := usCycles * (1000000 * s.rd F.RS_SCRUB_scrub_period (dieL d))

/-- A single-bit error at an SRAM address, found by the scrub or by any read: corrected, rewritten and counted; a word that errs again within one
scrub_period of its rewrite is lasting (R376). -/
def State.sramFixed (s : State) (d a : Nat) : State :=
  let s := s.inc F.RS_CNT_SRAM_corrected (dieL d)
  let again : Bool := match Tbl.get s.rewritten (key2 d a) with
    | some t => decide (s.now d ≤ t + s.scrubPeriod d)
    | none => false
  let s := { s with rewritten := Tbl.put s.rewritten (key2 d a) (s.now d) }
  if again then s.evD F.RS_EVENT_sram_lasting (dieL d) 0 2 a else s

/-- A double-bit error is counted. -/
def State.sramBad (s : State) (d : Nat) : State := s.inc F.RS_CNT_SRAM_uncorrected (dieL d)

/-! ## Register writes -/

/-- Register accesses are served: from t6 on, and in Failed (R533). -/
def State.serving (s : State) : Bool := !s.pkg.inReset && decide (2 ≤ s.rd F.INV_STATUS_state pkgL)

/-- The session that a writer needs in Owned and Field (R476): that of its Fabric Manager port, or of channel 4. -/
def Src.session : Src → Option Nat
  | .fm k => some k.val
  | .chain => some 4
  | _ => none

/-- Life-cycle codes 2 and 3 (Owned, Field), in which register writes need a session (R476). -/
def State.needsSession (s : State) : Bool := s.rd F.LC_STATE_state pkgL == 2 || s.rd F.LC_STATE_state pkgL == 3

/-- A register write of this source is denied for want of a session (R476); one whose time has run out is none, also in the cycle of
its expiry (Table 17.13). -/
def State.denied (s : State) (src : Src) : Bool :=
  s.needsSession && match Src.session src with
    | some c => !s.flag F.SEC_SESSION_c_open (idxL 0 0 c) || (Tbl.get s.strong.sessionEnd c).any fun t => decide (t ≤ s.now 0)
    | none => false

/-- A denied write (R476): counted, with a block 14 record of class 0 on die 0. -/
def State.deny (s : State) : State :=
  (s.inc F.SEC_CNT_AUTH_reg_denied pkgL).ev F.SEC_EVENT_reg_denied pkgL 0

/-- A write by the die register space to something of die `d`: discarded before registers are served (R533), on an absent die
(R10), in Scrap (Table 17.12) or without a session (R476). -/
def anyWrite (src : Src) (d : Nat) (s : State) (f : State → State) : Outcome :=
  .next (if s.serving && decide (d < s.part.dies) && !s.shut src then (if s.denied src then s.deny else (f s).finish) else s)

/-- A write to a register of die `d` that has an effect of its own; function 1 of an upstream port reaches none but those of
R350. -/
def onWrite (src : Src) (d : Nat) (s : State) (f : State → State) : Outcome :=
  if (tenantOf src).isSome then .next s else anyWrite src d s f

/-- A write to a register of die `d` that has no effect where it stands, taken or not; a denied one is denied all the same. -/
def onVoid (src : Src) (d : Nat) (s : State) : Outcome :=
  .next (if s.serving && decide (d < s.part.dies) && !s.shut src && s.denied src then s.deny else s)

end Sys2Proof.Machine
end

