-- ==== Sys2Proof/Machine/Lanes.lean ====
section
/-! DEFINITION. The commands of the lane quads (chapter 3): enabling, bring-up (Table 3.3), equalisation, the Barometer, loopbacks,
margining. -/

namespace Sys2Proof.Machine

/-- The port whose lanes a quad carries. -/
def State.portOfQuad (s : State) (d q : Nat) : Nat := s.ownerPort (portNo d q)

/-- The port controller starts recovery at the rate in use (R91): its Active lanes train again. Where a Staged limit that takes effect
now lies below that rate, the link settles on the highest common rate within it, at its width (R88). -/
def State.recover (s : State) (p : Nat) : State :=
  let ls := (s.portLanes p).filter fun x => s.stageAt x == 5
  let rate := match ls.head? with
    | some x => s.quadRate x.1 x.2.1
    | none => 0
  let s := s.commitLanes ls
  if rate ≤ s.rateLimit p then s.forEach ls fun s x => s.trainLane p rate x else s.rateDown p ls

/-! ## Off and Detect -/

/-- The link of a port uses a lane of this quad. -/
def State.linkUses (s : State) (p d q : Nat) : Bool :=
  (s.trainedLanes p).any fun x => x.1 == d && x.2.1 == q

/-- A write of quad_en (Table 3.10): 0 moves every lane to Off, and takes a link that uses them down with cause 6 (Table 4.7). -/
def State.setQuadEn (s : State) (d q : Nat) (en : Bool) : State :=
  let s := s.wrB F.LQ_CTRL_quad_en (unitL d q) en
  if en then s
  else
    let p := s.portOfQuad d q
    let s := if (s.pstate p == 3 || s.pstate p == 4) && s.linkUses p d q then (s.linkDown p 6 []).portEnable p else s
    s.quadToOff d q

/-- QUAD_EN_WRITE. -/
def execQuadEnWrite (src : Src) (d : Fin 8) (q : Fin 16) (en : Bool) (s : State) : Outcome :=
  onWrite src d s fun s => s.gated .LQ_CTRL (unitL d q) fun s => s.setQuadEn d q en

/-- A lane of the port waits for a partner: in Detect, with negotiation not failed (R121) and no search under way; or, once the link
is settled, as a lane of its width that fell back to Detect, while no other lane of the quad runs at another rate (R88, R92). -/
def State.awaits (s : State) (d q l : Nat) : Bool :=
  let p := s.portOfQuad d q
  let x := s.port p
  let quiet : Bool := s.quadRate d q == 0 || (upTo 4).all fun k => s.stageOf d q k < 2
  s.stageOf d q l == 1 && !x.searching && !x.negFailed && (!x.settled ||
    (quiet && (s.trainedLanes p).contains (d, q, l)))

/-- LANE_DETECT_PULSE: the last pulse sensed nothing (Table 3.3). -/
def execLaneDetectPulse (d : Fin 8) (q : Fin 16) (l : Fin 4) (s : State) : Outcome :=
  onDie d s fun s => if s.awaits d q l then s.off (F.LQ_STATUS_partner_detect l) (unitL d q) else s

/-- PARTNER_TERMINATION_SENSED: training sets begin at 2.5 GT/s (Table 3.3). -/
def execPartnerTerminationSensed (d : Fin 8) (q : Fin 16) (l : Fin 4) (s : State) : Outcome :=
  onDie d s fun s =>
    if s.awaits d q l then (s.on (F.LQ_STATUS_partner_detect l) (unitL d q)).toTrain d q l 0 none false else s

/-! ## Train, Lock, Exchange -/

/-- LANE_SYMBOL_LOCK: bit and symbol lock at codes 0 and 1, with the polarity found (Table 3.3). -/
def execLaneSymbolLock (d : Fin 8) (q : Fin 16) (l : Fin 4) (inverted : Bool) (s : State) : Outcome :=
  onDie d s fun s =>
    if s.stageOf d q l = 2 ∧ s.quadRate d q < 2 then
      ((s.on (F.LQ_STATUS_signal_detect l) (unitL d q)).wrB (F.LQ_STATUS_polarity_inverted l) (unitL d q) inverted).toStage d q l 3
    else s

/-- A lane is equalising. -/
def State.equalising (s : State) (d q l : Nat) : Bool :=
  s.stageOf d q l == 2 && decide (2 ≤ s.quadRate d q) && (s.lane d q l).eq.phase != .idle

/-- The equalisation of a lane has ended (Table 3.3): in a search the port controller judges the rate (R119); otherwise a lane that
did not reach accept goes to Detect. -/
def State.eqEnded (s : State) (d q l : Nat) : State :=
  if (s.port (s.portOfQuad d q)).searching then s.laneEnded d q l
  else if s.stageOf d q l = 2 then s.laneLost d q l else s

/-- EQ_EVALUATION_END: `got` is the measurement, absent when the partner rejected the setting (R100, R101). -/
def execEqEvaluationEnd (d : Fin 8) (q : Fin 16) (l : Fin 4) (got : Option Meas) (s : State) : Outcome :=
  runOn d s fun s =>
    if s.equalising d q l then
      let s := if got.isSome then s.on (F.LQ_STATUS_signal_detect l) (unitL d q) else s
      let b := got.map fun m => baroOf m (s.quadRate d q) (s.rd F.LQ_EQ_CTRL_dwell_us (unitL d q))
      let r := s.eqEval d q l b (s.reportedSerial (s.portOfQuad d q))
      if r.2 then r.1.eqEnded d q l else r.1
    else s

/-- EQ_BUDGET_EXPIRED: the running evaluation is discarded (R101). -/
def execEqBudgetExpired (d : Fin 8) (q : Fin 16) (l : Fin 4) (s : State) : Outcome :=
  runOn d s fun s =>
    if s.equalising d q l then
      (s.eqFinish d q l (s.reportedSerial (s.portOfQuad d q)) false true).eqEnded d q l
    else s

/-- LANE_LOCK_TIMEOUT: from Train to Detect, from Lock back to Train at the same rate (Table 3.3). In a rate search a lane that
fell back counts as one that did not reach accept. -/
def execLaneLockTimeout (d : Fin 8) (q : Fin 16) (l : Fin 4) (s : State) : Outcome :=
  runOn d s fun s =>
    let ev (s : State) : State := s.ev (F.LQ_EVENT_lock_lost l) (unitL d q) (portNo d q)
    if s.stageOf d q l = 2 then ((ev s).laneLost d q l).laneEnded d q l
    else if s.stageOf d q l = 3 then ((ev s).laneAgain d q l).trainAgain (s.portOfQuad d q) (d, q, l)
    else s

/-- LANE_ALIGNMENT_FOUND: with the port's skew within 8 ns (Table 3.3). -/
def execLaneAlignmentFound (d : Fin 8) (q : Fin 16) (l : Fin 4) (s : State) : Outcome :=
  onDie d s fun s => if s.stageOf d q l = 3 then s.toStage d q l 4 else s

/-- EXCHANGE_DONE: accepted, to Active; a lane that the port controller leaves out of the link goes to Detect (R92); otherwise to Train
at the same rate or to Detect, a choice of the port controller that the spec leaves open (Table 3.3). -/
def execExchangeDone (d : Fin 8) (q : Fin 16) (l : Fin 4) (accepted : Bool) (s : State) : Outcome :=
  runOn d s fun s =>
    if s.stageOf d q l ≠ 4 then s
    else if !s.wanted (s.portOfQuad d q) (d, q, l) then s.toStage d q l 1
    else if accepted then (s.toStage d q l 5).judgeRate (s.portOfQuad d q)
    else if s.free % 2 = 0 then (s.useFree.laneAgain d q l).trainAgain (s.portOfQuad d q) (d, q, l)
    else (s.useFree.laneLost d q l).laneEnded d q l

/-! ## Active -/

/-- A Barometer refresh in Active (R91, R95, R97, R98). -/
def State.refreshLane (s : State) (d q l b : Nat) : State :=
  let rate := s.quadRate d q
  let deg := s.degradeThr d q rate
  let x := s.lane d q l
  let fails := if b < s.failThr d q rate then x.fails + 1 else 0
  let s := s.setBaro d q l b
  let raise : Bool := decide (b < deg) && !x.degraded
  let s := if raise then s.ev (F.LQ_EVENT_baro_degrade l) (unitL d q) (portNo d q) else s
  let s := s.updLane d q l fun x =>
    { x with fails := fails, degraded := raise || (x.degraded && decide (b < deg + 8)) }
  if 2 ≤ fails then (s.ev (F.LQ_EVENT_baro_fail l) (unitL d q) (portNo d q)).recover (s.portOfQuad d q) else s

/-- BAROMETER_REFRESH: every 1 ms in Active (R96). -/
def execBarometerRefresh (d : Fin 8) (q : Fin 16) (l : Fin 4) (got : Meas) (s : State) : Outcome :=
  onDie d s fun s => if s.stageOf d q l = 5 then s.refreshLane d q l (baroOf got (s.quadRate d q) 1000) else s

/-- LOSS_OF_SIGNAL: lock_lost, and recovery (Table 3.3). -/
def execLossOfSignal (d : Fin 8) (q : Fin 16) (l : Fin 4) (s : State) : Outcome :=
  onDie d s fun s =>
    if s.stageOf d q l = 5 then
      ((s.off (F.LQ_STATUS_signal_detect l) (unitL d q)).ev (F.LQ_EVENT_lock_lost l) (unitL d q) (portNo d q)).recover
        (s.portOfQuad d q)
    else s

/-! ## Loopback -/

/-- FAR_END_LOOPBACK_REQUEST: the lane becomes loopback follower (Table 3.3). -/
def execFarEndLoopbackRequest (d : Fin 8) (q : Fin 16) (l : Fin 4) (s : State) : Outcome :=
  onDie d s fun s =>
    if s.stageOf d q l = 5 then (s.toStage d q l 6).on F.LQ_LOOP_far_end_active (unitL d q) else s

/-- FAR_END_LOOPBACK_EXIT: back to Detect; the quad is no follower once its last lane has left (Table 3.18). -/
def execFarEndLoopbackExit (d : Fin 8) (q : Fin 16) (l : Fin 4) (s : State) : Outcome :=
  onDie d s fun s =>
    if s.stageOf d q l = 6 ∧ !s.flag F.LQ_LOOP_loop_go (unitL d q) then
      let s := s.toStage d q l 1
      if (upTo 4).any fun k => s.stageOf d q k == 6 then s else s.off F.LQ_LOOP_far_end_active (unitL d q)
    else s

/-- Life-cycle states in which near-end loopbacks are open (Table 3.7): Maker, Owned, Return. -/
def State.nearEndOpen (s : State) : Bool := [1, 2, 4].contains (s.rd F.LC_STATE_state pkgL)

/-- Life-cycle states in which the coefficient force is open (Table 3.7): Maker, Return. -/
def State.forceOpen (s : State) : Bool := s.rd F.LC_STATE_state pkgL == 1 || s.rd F.LC_STATE_state pkgL == 4

/-- A write of loop_go (R106, Table 3.3): 1 sets up the near-end loop of mode at max_rate on the quad's lanes, or is refused, with loop_go
left at 0; 0 ends it. No quad leaves Off before the Inventory is applied (R6, R534), or without its domain (R64). DESIGN CHOICE (log
entry 144): a write of 1 while the loop runs is refused, a lane being outside Off, and the loop goes on with loop_go at 1. -/
def State.setLoopGo (s : State) (d q : Nat) (go : Bool) : State :=
  let u := unitL d q
  if go then
    let mode := s.rd F.LQ_LOOP_mode u
    if !s.quadOff d q then s.on F.LQ_LOOP_loop_refused u
    else if mode = 0 ∨ mode = 3 ∨ !s.nearEndOpen ∨ !s.applied ∨ !s.domOn d (q / 4) then
      (s.off F.LQ_LOOP_loop_go u).on F.LQ_LOOP_loop_refused u
    else
      let s := (s.on F.LQ_LOOP_loop_go u).setRate d q (s.rd F.LQ_CTRL_max_rate u)
      s.forEach (upTo 4) fun s l => (s.updLane d q l fun x => { x with gen := 0 }).toStage d q l 6
  else if s.flag F.LQ_LOOP_loop_go u then
    (s.off F.LQ_LOOP_loop_go u).forEach ((upTo 4).filter fun l => s.stageOf d q l == 6) fun s l => s.toStage d q l 0
  else s

/-- LOOP_GO_WRITE. -/
def execLoopGoWrite (src : Src) (d : Fin 8) (q : Fin 16) (go : Bool) (s : State) : Outcome :=
  onWrite src d s fun s => s.gated .LQ_LOOP (unitL d q) fun s => s.setLoopGo d q go

/-! ## The transmitter -/

/-- The cursors (pre, main, post) that a request names, when it is legal with FS 48 and LF 12 (R103). -/
def legalCursors (ask : TxAsk) : Option (Nat × Nat × Nat) :=
  match ask with
  | .preset k =>
    let a := Config.presetPre k
    let c := Config.presetPost k
    if k.val < 11 then some (a, 48 - a - c, c) else none
  | .cursors a b c =>
    if a.val + b.val + c.val = 48 ∧ a.val + c.val + 12 ≤ b.val ∧ a.val ≤ 12 then some (a, b, c) else none

/-- A partner's coefficient request: applied when legal, rejected otherwise and while force is 1 (R103). -/
def State.coefRequest (s : State) (d q l : Nat) (ask : TxAsk) : State :=
  let x := idxL d q l
  let s := match ask with
    | .preset k => s.wr F.LQ_TX_n_preset x k
    | .cursors _ _ _ => s
  match if s.flag F.LQ_TX_n_force x then none else legalCursors ask with
  | some (a, b, c) =>
    (((s.wr F.LQ_TX_n_pre x a).wr F.LQ_TX_n_main x b).wr F.LQ_TX_n_post x c).emit (.coefReply (laneNo d q l) true)
  | none => s.emit (.coefReply (laneNo d q l) false)

/-- COEFFICIENT_REQUEST: in Train at rates of code 2 and up. -/
def execCoefficientRequest (d : Fin 8) (q : Fin 16) (l : Fin 4) (ask : TxAsk) (s : State) : Outcome :=
  onDie d s fun s => if s.stageOf d q l = 2 ∧ 2 ≤ s.quadRate d q then s.coefRequest d q l ask else s

/-- A write of check_en; its rise clears the pattern error counters (R105). -/
def State.setCheckEn (s : State) (d q : Nat) (en : Bool) : State :=
  let u := unitL d q
  let rise : Bool := en && !s.flag F.LQ_PATTERN_check_en u
  let s := s.wrB F.LQ_PATTERN_check_en u en
  if rise then s.forEach (upTo 4) fun s l => s.off F.LQ_PAT_ERR_n_errors (idxL d q l) else s

/-- CHECK_EN_RISE. -/
def execCheckEnRise (src : Src) (d : Fin 8) (q : Fin 16) (s : State) : Outcome :=
  onWrite src d s fun s => s.gated .LQ_PATTERN (unitL d q) fun s => s.setCheckEn d q true

/-! ## Margining -/

/-- busy shows whether a run is active on the lane that LQ_MARGIN_CTRL selects (Table 3.21). -/
def State.showMargin (s : State) (d q : Nat) : State :=
  let u := unitL d q
  s.wrB F.LQ_MARGIN_STATUS_busy u (s.lane d q (s.rd F.LQ_MARGIN_CTRL_lane u)).margin.isSome

/-- Steps per side (Table 3.8). -/
def marginCap (voltage : Bool) : Nat := if voltage then 64 else 16

/-- A lane can be margined: in Active at codes 2 and up. -/
def State.marginable (s : State) (d q l : Nat) : Bool := s.stageOf d q l == 5 && decide (2 ≤ s.quadRate d q)

/-- A run begins on a lane. -/
def State.marginBegin (s : State) (d q : Nat) (a : MarginAsk) (proto : Bool) : State :=
  let run : MarginRun := { proto := proto, voltage := a.voltage, down := a.down, steps := min a.steps.val (marginCap a.voltage),
                           limit := max a.limit.val 1, reached := 0, errors := 0 }
  let s := s.updLane d q a.lane fun x => { x with margin := some run }
  ((s.off F.LQ_MARGIN_STATUS_steps_reached (unitL d q)).off F.LQ_MARGIN_STATUS_errors (unitL d q)).showMargin d q

/-- The fields of LQ_MARGIN_CTRL (Table 3.21). -/
def State.setMarginCtrl (s : State) (d q : Nat) (a : MarginAsk) : State :=
  let u := unitL d q
  let s := ((s.wr F.LQ_MARGIN_CTRL_lane u a.lane).wrB F.LQ_MARGIN_CTRL_type u a.voltage).wrB F.LQ_MARGIN_CTRL_dir u a.down
  let s := s.wr F.LQ_MARGIN_CTRL_steps u (min a.steps.val (marginCap a.voltage))
  (s.wr F.LQ_MARGIN_CTRL_error_limit u (max a.limit.val 1)).showMargin d q

/-- A local start: refused, with nothing else changed, where a run of the standard's protocol is active on the lane (R109). DESIGN
CHOICE (log entry 125): the same where a local run is active; and on a lane that is not in Active at code 2 or up the fields are
written and no run starts. -/
def State.marginStart (s : State) (d q : Nat) (a : MarginAsk) : State :=
  if (s.lane d q a.lane).margin.isSome then s
  else
    let s := s.setMarginCtrl d q a
    if s.marginable d q a.lane then s.marginBegin d q a false else s

/-- LANE_MARGIN_START. -/
def execLaneMarginStart (src : Src) (d : Fin 8) (q : Fin 16) (ask : MarginAsk) (s : State) : Outcome :=
  onWrite src d s fun s => s.gated .LQ_MARGIN_CTRL (unitL d q) fun s => s.marginStart d q ask

/-- A local run that the standard's protocol displaces stops with aborted set (R109). -/
def State.marginYield (s : State) (d q l : Nat) : State :=
  match (s.lane d q l).margin with
  | some r => if r.proto then s else s.abortMargin d q l
  | none => s

/-- PROTOCOL_MARGIN_REQUEST: a local run stops with aborted set, and the request is served (R109). -/
def execProtocolMarginRequest (d : Fin 8) (q : Fin 16) (ask : MarginAsk) (s : State) : Outcome :=
  onDie d s fun s =>
    if s.marginable d q ask.lane then (s.marginYield d q ask.lane).marginBegin d q ask true else s

/-- One step's dwell has ended with `errors` counted in it (R108, Table 3.21). -/
def State.marginStep (s : State) (d q l errors : Nat) : State :=
  match (s.lane d q l).margin with
  | none => s
  | some r =>
    let u := unitL d q
    let total := r.errors + errors
    let hit : Bool := decide (r.limit ≤ total)
    let reached := if hit then r.reached else r.reached + 1
    let fin_ : Bool := hit || decide (r.steps ≤ reached)
    let s := s.updLane d q l fun x =>
      { x with margin := if fin_ then none else some { r with errors := total, reached := reached } }
    let s := (s.wr F.LQ_MARGIN_STATUS_errors u (min total 255)).wr F.LQ_MARGIN_STATUS_steps_reached u (min reached r.steps)
    let s := if fin_ && !r.proto then s.on F.LQ_MARGIN_STATUS_done u else s
    s.showMargin d q

/-- MARGIN_STEP_DONE. -/
def execMarginStepDone (d : Fin 8) (q : Fin 16) (l : Fin 4) (errors : Nat) (s : State) : Outcome :=
  onDie d s fun s => s.marginStep d q l errors

/-! ## Barometer registers -/

/-- A write of min_clear (Table 3.15). -/
def State.clearBaroMin (s : State) (d q l : Nat) : State :=
  s.wr F.LQ_BARO_n_baro_min (idxL d q l) (s.rd F.LQ_BARO_n_baro (idxL d q l))

/-- BARO_MIN_CLEAR. -/
def execBaroMinClear (src : Src) (d : Fin 8) (q : Fin 16) (l : Fin 4) (s : State) : Outcome :=
  onWrite src d s fun s => s.gated .LQ_BARO_n (unitL d q) fun s => s.clearBaroMin d q l

/-- A write to a threshold register: taken when fail < degrade < accept ≤ target, ignored whole otherwise (R99). Accept and
target are Staged; degrade and fail take effect at once (Table 3.14). -/
def State.setBaroThr (s : State) (d q : Nat) (pam4 : Bool) (acc tgt deg fl : Nat) : State :=
  let u := unitL d q
  if fl < deg ∧ deg < acc ∧ acc ≤ tgt then
    if pam4 then
      (((s.stage F.LQ_BARO_THR_PAM4_accept u acc).stage F.LQ_BARO_THR_PAM4_target u tgt).wr F.LQ_BARO_THR_PAM4_degrade u deg).wr
        F.LQ_BARO_THR_PAM4_fail u fl
    else
      (((s.stage F.LQ_BARO_THR_NRZ_accept u acc).stage F.LQ_BARO_THR_NRZ_target u tgt).wr F.LQ_BARO_THR_NRZ_degrade u deg).wr
        F.LQ_BARO_THR_NRZ_fail u fl
  else s.ev F.LQ_EVENT_thr_refused u (portNo d q)

/-- BARO_THR_WRITE. -/
def execBaroThrWrite (src : Src) (d : Fin 8) (q : Fin 16) (pam4 : Bool) (accept target degrade fail : Fin 256) (s : State) :
    Outcome :=
  onWrite src d s fun s => s.gated .LQ_BARO_THR_NRZ (unitL d q) fun s => s.setBaroThr d q pam4 accept target degrade fail

end Sys2Proof.Machine
end

