-- ==== Sys2Proof/Machine/Ports.lean ====
section
/-! DEFINITION. The commands of the port controllers (chapter 4): training, negotiation, link up, link down, the Cellar. -/

namespace Sys2Proof.Machine

/-! ## Training -/

/-- A slot is powered with PERST# released (Table 4.6, t0). -/
def State.slotReady (s : State) (p : Nat) : Bool := s.rd F.SP_STATUS_state (portL p) == 5 && !s.flag F.SP_STATUS_perst (portL p)

/-- In Blank and Scrap the lanes do not run (R107). -/
def State.noLanes (s : State) : Bool := s.rd F.LC_STATE_state pkgL == 0 || s.rd F.LC_STATE_state pkgL == 5

/-- A port leaves Down (R127, Table 4.6 t0): its Staged fields take effect, and its enabled lanes enter Detect. A host port
trains while its PERST# input is high (R536). -/
def State.trainingStart (s : State) (p : Nat) : State :=
  let l := portL p
  if s.pstate p ≠ 1 || !s.applied || s.noLanes || s.role p == 3 || !s.flag F.PT_CTRL_port_en l || (s.isSlot p && !s.slotReady p) || s.loopRuns p then s
  else
    let s := (s.commitReg .PT_CTRL l).wr F.PT_STATUS_pstate l 2
    let s := s.updPort p fun x =>
      { x.noSearch with negFailed := false, perstIn := false }
    s.lanesDetect p

/-- PORT_TRAINING_START. -/
def execPortTrainingStart (d : Fin 8) (q : Fin 16) (s : State) : Outcome :=
  onDie d s fun s => s.trainingStart (portNo d q)

/-- The highest rate code of an offer. -/
def topRate (rates : Nat) : Nat := ([6, 5, 4, 3, 2, 1].find? (bitOf rates)).getD 0

/-- The partner's offer is shown (Tables 4.12, 4.13). -/
def State.showOffer (s : State) (p : Nat) (o : Offer) : State :=
  let l := portL p
  let s := (s.wr F.PT_NEG_LINK_partner_max_rate l (topRate o.rates)).wr F.PT_NEG_LINK_rates_tried l 0
  let s := (s.wrB F.PT_NEG_PROTO_p_cxl l o.cxl).wrB F.PT_NEG_PROTO_p_cache l o.cache
  let s := (s.wrB F.PT_NEG_PROTO_p_mem l o.mem).wrB F.PT_NEG_PROTO_p_bi l o.bi
  (s.wrB F.PT_NEG_PROTO_p_lat_opt l o.latOpt).wrB F.PT_NEG_PROTO_p_flit256 l o.flit256

/-- Negotiation at 2.5 GT/s has ended with the partner's offer (R118 steps 1 and 5): W0 and the protocol set are known, the lanes
outside W0 are left out (R92) and the rate search begins (R119), or nothing is common (R121). A lane leaves Active alone for
another rate (Table 3.3): the lanes that reached Lock have exchanged their parameters by then. Where nothing is common, the lanes in
Exchange are rejected to Detect, and those in Active reach it through Train. -/
def State.negotiate (s : State) (p : Nat) (o : Offer) : State :=
  let l := portL p
  let x := s.port p
  let w0 := s.widest p o.reversed fun y => decide (3 ≤ s.stageAt y) && decide (s.stageAt y ≤ 5)
  let ls := s.widthLanes p w0 o.reversed
  if s.pstate p ≠ 2 || x.searching || x.settled || x.negFailed || w0 == 0 || !(ls.all fun y => decide (4 ≤ s.stageAt y)) then s
  else
    let cxl : Bool := s.flag F.PT_CTRL_cxl_en l && o.cxl
    let common := s.commonRates p o
    let none_ := (!cxl && !o.pcie) || common.isEmpty
    if !none_ && !(ls.all fun y => s.stageAt y == 5) then s
    else
    let s := (s.showOffer p o).wr F.PT_NEG_LINK_base_width l w0
    let s := s.updPort p fun y => { y with offer := some o, cxlCommon := cxl, tried := [], ended := [] }
    if none_ then
      let s := (s.updPort p fun y => { y with negFailed := true }).ev F.PT_EVENT_neg_fail l p
      s.forEach (s.portLanes p) fun s y => s.leaveOut p 0 y
    else
      let s := s.forEach ((s.portLanes p).filter fun y => !ls.contains y) fun s y => s.leaveOut p 0 y
      (s.updPort p fun y => { y with searching := true }).searchFrom p (common.filter fun r => decide (2 ≤ r))

/-- PROTOCOL_NEGOTIATION_END. -/
def execProtocolNegotiationEnd (d : Fin 8) (q : Fin 16) (offer : Offer) (s : State) : Outcome :=
  runOn d s fun s => s.negotiate (portNo d q) offer

/-- NEG_FAIL_RETRY: negotiation is tried again (R121). -/
def execNegFailRetry (d : Fin 8) (q : Fin 16) (s : State) : Outcome :=
  onDie d s fun s =>
    if s.pstate (portNo d q) = 2 then s.updPort (portNo d q) fun x => { x with negFailed := false } else s

/-! ## Link up -/

/-- Every lane of the trained width carries traffic. -/
def State.lanesActive (s : State) (p : Nat) : Bool :=
  (s.trainedLanes p).all fun x => s.stageOf x.1 x.2.1 x.2.2 == 5

/-- DL_ACTIVE: the settled link has come up (R127, R130). Where the hold timer expires in the same
cycle the expiry wins, and the Cellar is flushed first (R131). -/
def execDlActive (d : Fin 8) (up : LinkUp) (s : State) : Outcome :=
  runOn d s fun s =>
    let p := portNo d up.q
    let s := if up.expired ∧ s.holding p ∧ (s.port p).timer.isSome then s.flush p else s
    if s.pstate p = 2 ∧ (s.port p).settled ∧ s.lanesActive p then s.dlActive p else s

/-- The capacities of the partner's LDs, as it reports them (R217 check 5). -/
def State.putCaps (s : State) (p : Nat) (caps : List Nat) : State :=
  s.forEach (upTo 16) fun s l => { s with devCap := Tbl.set s.devCap (key2 p l) (caps.getD l 0) 0 }

/-- The serial number that the walk of a partner's extended capabilities finds: that of the first Device Serial Number capability
among at most 64 (R123). -/
def walkSerial (walk : List (Option (BitVec 64))) : Option Nat := ((walk.take 64).findSome? id).map BitVec.toNat

/-- IDENTITY_READ_DONE: the partner's extended capabilities in the order walked, each with its serial number if it is a Device Serial
Number capability (R123), and the capacity of each LD. -/
def execIdentityReadDone (d : Fin 8) (q : Fin 16) (walk : List (Option (BitVec 64))) (caps : List Nat) (s : State) : Outcome :=
  runOn d s fun s =>
    if s.pstate (portNo d q) = 3 then (s.putCaps (portNo d q) caps).identityKnown (portNo d q) true (walkSerial walk) else s

/-- IDENTITY_READ_TIMEOUT: identity is unknown (R123). -/
def execIdentityReadTimeout (d : Fin 8) (q : Fin 16) (s : State) : Outcome :=
  runOn d s fun s => if s.pstate (portNo d q) = 3 then s.identityKnown (portNo d q) false none else s

/-! ## Link down and the Cellar -/

/-- The code of a cause (Table 4.7). -/
def DownCause.code : DownCause → Nat
  | .lost => 1
  | .partnerOff => 2
  | .perst => 3
  | .slotOff => 4

/-- Frames sent and not acknowledged, as entries for the head of the Cellar (R129); their Larder cells were freed when they
left. -/
def unackedEntries (p : Nat) (ms : List Msg) : List QEnt :=
  ms.map fun m => { mid := none, input := m.inp, out := portQuad p, msg := { m with dst := p } }

/-- LINK_DOWN: a port in Up (or one whose link stands before Up) goes down (R128). -/
def execLinkDown (d : Fin 8) (q : Fin 16) (cause : DownCause) (unacked : List Msg) (s : State) : Outcome :=
  runOn d s fun s =>
    let p := portNo d q
    if 2 ≤ s.pstate p ∧ s.pstate p ≤ 4 then s.linkDown p (DownCause.code cause) (unackedEntries p unacked) else s

/-- CELLAR_HOLD_EXPIRY (R131): a timer stopped at DL_Active cannot expire. -/
def execCellarHoldExpiry (d : Fin 8) (q : Fin 16) (s : State) : Outcome :=
  runOn d s fun s =>
    let p := portNo d q
    if s.holding p ∧ (s.port p).timer.isSome then s.flush p else s

/-- A write of 1 to flush_now (R134). -/
def State.flushNow (s : State) (p : Nat) : State := if s.holding p then s.flush p else s

/-- FLUSH_NOW. -/
def execFlushNow (src : Src) (d : Fin 8) (q : Fin 16) (s : State) : Outcome :=
  if s.holding (portNo d q) then onWrite src d s fun s => s.flush (portNo d q) else onVoid src d s

/-- A write of 1 to retrain (Table 4.10): the Staged fields are committed and the link goes down with cause 2; a port that is
training starts afresh. -/
def State.retrainPort (s : State) (p : Nat) (unacked : List QEnt) : State :=
  let s := s.commitReg .PT_CTRL (portL p)
  if 2 ≤ s.pstate p ∧ s.pstate p ≤ 4 then (s.linkDown p 2 unacked).updPort p fun x => { x with negFailed := false } else s

/-- PT_RETRAIN. -/
def execPtRetrain (src : Src) (d : Fin 8) (q : Fin 16) (unacked : List Msg) (s : State) : Outcome :=
  onWrite src d s fun s => s.gated .PT_CTRL (unitL d q) fun s =>
    if s.role (portNo d q) = 3 then s else s.retrainPort (portNo d q) (unackedEntries (portNo d q) unacked)

/-- A write of port_en (R128, Table 4.7 cause 6). An absorbed quad has no port_en (R113). -/
def State.setPortEn (s : State) (p : Nat) (en : Bool) : State :=
  if s.role p = 3 then s
  else
    let s := s.wrB F.PT_CTRL_port_en (portL p) en
    if en then s.portEnable p else s.portDisable p

/-- PORT_EN_WRITE. -/
def execPortEnWrite (src : Src) (d : Fin 8) (q : Fin 16) (en : Bool) (s : State) : Outcome :=
  onWrite src d s fun s => s.gated .PT_CTRL (unitL d q) fun s => s.setPortEn (portNo d q) en

/-- L0P_WIDTH_CHANGE: by one power of two within the trained width, in flit mode (R122, Table 4.2): a lane that training left out takes
no part until the port retrains (R92). -/
def execL0pWidthChange (d : Fin 8) (q : Fin 16) (width : Fin 17) (s : State) : Outcome :=
  onDie d s fun s =>
    let p := portNo d q
    let l := portL p
    let w := s.rd F.PT_NEG_LINK_width l
    let step : Bool := width.val * 2 == w || width.val == w * 2
    if s.pstate p = 4 ∧ 2 ≤ s.rd F.PT_NEG_LINK_flit l ∧ step ∧ 1 ≤ width.val ∧ width.val ≤ (s.port p).trained then
      let low : Bool := decide (width.val < (s.portLanes p).length)
      let s := (s.wr F.PT_NEG_LINK_width l width).wrB F.PT_NEG_LINK_degraded_width l low
      if low then s.ev F.PT_EVENT_width_degraded l p else s
    else s

/-- The host of a host port asserts PERST# or sends a hot reset (R125, Table 7.4, R262, Table 12.5a): the link goes down with
cause 3; the emulated configuration resets, the agents remove the VCS and its instances reset, whatever the port's state. A Cellar that
holds since an earlier link-down is flushed at the next DL_Active, or when its timer expires, since the identity differs (R125). -/
def State.hostPerst (s : State) (p : Nat) (hotReset : Bool) : State :=
  let was := s.pstate p
  let s := if 2 ≤ was ∧ was ≤ 4 then s.linkDown p 3 [] else s
  let s := s.updPort p fun x => { x with hostReset := true, perstIn := x.perstIn || !hotReset }
  if was = 4 then s else (s.push (.vcsReset p)).push (.instReset p)

/-- HOST_PERST_ASSERT. -/
def execHostPerstAssert (d : Fin 8) (q : Fin 16) (hotReset : Bool) (s : State) : Outcome :=
  runOn d s fun s => if s.role (portNo d q) = 0 then s.hostPerst (portNo d q) hotReset else s

end Sys2Proof.Machine
end

