-- ==== Sys2Proof/Machine/Casub.lean ====
section
/-! DEFINITION. The commands of the Casub sites (chapter 5): flits, replay, credits and audits, lanes and maps, site states,
hand-over. -/

namespace Sys2Proof.Machine

/-- An effect on an Active site. -/
def State.atActive (s : State) (d t : Nat) (f : State → State) : State := if s.siteActive d t then f s else s

/-! ## Flits -/

/-- FLIT_SEND: one flit time of the transmitter. -/
def execFlitSend (d : Fin 8) (t : Fin 7) (s : State) : Outcome :=
  runOn d s fun s => s.atActive d t fun s => if (s.site d t).handing then s else s.sendFlit d t

/-- FLIT_RECEIVE: a flit with `e0` and `e1` symbol errors in its codewords. A receiver that has answered a hand-over accepts no
more (R175). -/
def execFlitReceive (d : Fin 8) (t : Fin 7) (f : Flit) (e0 e1 : Nat) (s : State) : Outcome :=
  runOn d s fun s => s.atActive d t fun s => if (s.site d t).stopped then s else s.takeFlit d t f e0 e1

/-- REPLAY_REQ_RECEIVE: its ack_seq and its credit or XOFF field are taken (R145), and every flit after ack_seq is sent again
(R150). -/
def execReplayReqReceive (d : Fin 8) (t : Fin 7) (req : ReplayReq) (s : State) : Outcome :=
  onDie d s fun s => s.atActive d t fun s =>
    ((s.takeAck d t req.ack).takeCredit d t
      { type := .replayReq, ack := req.ack, crKind := req.kind, crClass := req.cls, crCount := req.count }).replayFrom d t req.ack

/-- REPLAY_TIMEOUT: replay from the oldest unacknowledged flit (R152). -/
def execReplayTimeout (d : Fin 8) (t : Fin 7) (s : State) : Outcome :=
  onDie d s fun s => s.atActive d t fun s =>
    s.updSite d t fun x => { x with resend := x.replay.head?.map Flit.seq }

/-- ACK_TIMER: the next flit carries an ack (R151). -/
def execAckTimer (d : Fin 8) (t : Fin 7) (s : State) : Outcome :=
  onDie d s fun s => s.atActive d t fun s =>
    if (s.site d t).unsentAck = 0 then s else s.updSite d t fun x => { x with ackDue := true }

/-! ## The Drought watch -/

/-- The next message of a class that waits for a site: one to be cut into flits, or one queued for the site's outputs, which
wait for the same credits (R156, R196). -/
def State.waitsFor (s : State) (d t c : Nat) : Option Msg :=
  match (s.site d t).txq.find? fun m => m.tc == c with
  | some m => some m
  | none => ((s.xbd d).queue.find? fun e => e.out / 2 == 8 + t && e.msg.tc == c).map QEnt.msg

/-- A message of the class waits, and a kind of credit that it lacks stands below drought_thr, or the class is in XOFF (R162). -/
def State.parched (s : State) (d t c : Nat) : Bool :=
  let x := s.site d t
  let thr := s.rd F.CL_DROUGHT_drought_thr (unitL d t)
  let lacks (kind n : Nat) : Bool := decide (x.avail c kind < n) && decide (x.avail c kind < thr)
  match s.waitsFor d t c with
  | none => false
  | some m =>
    s.rd F.CL_DROUGHT_drought_us (unitL d t) != 0 &&
      (if s.xoffMode then s.flag (F.CL_XOFF_xoff_recv c) (unitL d t) else lacks 0 1 || lacks 1 m.cells)

/-- DROUGHT_SUSPICION: an audit command goes out (R163). DESIGN CHOICE (log entry 132): the spec is silent on a suspicion while
another audit of the site is out; it is dropped here, one audit at a time. -/
def execDroughtSuspicion (d : Fin 8) (t : Fin 7) (c : Fin 12) (s : State) : Outcome :=
  onDie d s fun s => s.atActive d t fun s =>
    let x := s.site d t
    let asked : Bool := x.audit.isSome || x.cmds.any fun k => match k with
      | .audit _ => true
      | _ => false
    if s.parched d t c && !asked then s.updSite d t fun x => { x with cmds := x.cmds ++ [.audit c] } else s

/-- AUDIT_COMMAND_RECEIVE. -/
def execAuditCommandReceive (d : Fin 8) (t : Fin 7) (c : Fin 12) (s : State) : Outcome :=
  onDie d s fun s => s.atActive d t fun s => s.auditCmd d t c

/-- AUDIT_REPLY_RECEIVE: free entries and returned counts of headers and of data (R163). -/
def execAuditReplyReceive (d : Fin 8) (t : Fin 7) (c : Fin 12) (freeH retH freeD retD : Fin 65536) (s : State) : Outcome :=
  onDie d s fun s => s.atActive d t fun s => s.auditRep d t c freeH retH freeD retD

/-! ## Lanes and maps -/

/-- The Barometer of a Casub lane at a speed over a window in microseconds (R165): 50 Gb/s, or 25 Gb/s at half speed. A lane
without signal reads 0. -/
def casubBaro (got : Option Meas) (speed windowUs : Nat) : Nat :=
  match got with
  | none => 0
  | some m =>
    min 255 (baroOver m (50000 / 2 ^ speed * windowUs))

/-- A new Barometer of one lane, with the lowest kept (Table 5.23); below fail, outside the map, the lane is failed (Table 5.6). -/
def State.setCbaro (s : State) (d t n b : Nat) : State :=
  let x := idxL d t n
  let s := (s.wr F.CL_BARO_n_baro x b).wr F.CL_BARO_n_baro_min x (min b (s.rd F.CL_BARO_n_baro_min x))
  if b < (s.site d t).thr.2.2 ∧ s.cuse d t n ≠ 0 then s.wr F.CL_BARO_n_use x 3 else s

/-- The thresholds written take effect (Table 5.15). -/
def State.takeThr (s : State) (d t : Nat) : State :=
  let l := unitL d t
  s.updSite d t fun x => { x with thr := (s.rd F.CL_BARO_THR_accept l, s.rd F.CL_BARO_THR_spare_thr l, s.rd F.CL_BARO_THR_fail l) }

/-- Every lane of an end has been measured. -/
def State.measured (s : State) (d t : Nat) (got : List (Option Meas)) (windowUs : Nat) : State :=
  let s := s.takeThr d t
  s.forEach (upTo casubLanes) fun s n =>
    s.setCbaro d t n (casubBaro (got.getD n none) (s.rd F.CL_STATUS_speed (unitL d t)) windowUs)

/-- CASUB_BARO_REFRESH: every lane's measurement over 100 µs, absent where signal is lost (R165); then R167. -/
def execCasubBaroRefresh (d : Fin 8) (t : Fin 7) (got : List (Option Meas)) (s : State) : Outcome :=
  runOn d s fun s =>
    if 1 ≤ s.siteState d t ∧ s.siteState d t ≤ 5 then (((s.measured d t got 100).showSpares d t).reeval d t .refresh) else s

/-- CASUB_LANE_SIGNAL_LOSS: the lane's Barometer reads 0, and R167 runs at once. -/
def execCasubLaneSignalLoss (d : Fin 8) (t : Fin 7) (n : Fin 34) (s : State) : Outcome :=
  runOn d s fun s =>
    if 1 ≤ s.siteState d t ∧ s.siteState d t ≤ 5 then (((s.setCbaro d t n 0).showSpares d t).reeval d t .signal) else s

/-- MAP_CHANGE_CMD_RECEIVE: the partner's receiver asks for a new map of this transmitter (R168). -/
def execMapChangeCmdReceive (d : Fin 8) (t : Fin 7) (map : LaneMap) (s : State) : Outcome :=
  onDie d s fun s => s.atActive d t fun s => s.newTxMap d t map

/-- Bits [15:8] that at least three-quarters of `n` lanes recognise alike (R169). -/
def markerAgreed (n : Nat) (words : List (BitVec 64)) : Option Nat :=
  let seen := words.filterMap fun w => markerSeen w.toNat
  seen.find? fun h => decide (3 * n ≤ 4 * (seen.filter (· == h)).length)

/-- A marker is due at the receiver (R168 step 4, R170): recognised with the pending epoch it switches the map; recognised with
the current epoch it checks alignment; the third periodic one in a row not recognised is a loss of alignment (Table 5.5). -/
def State.markerCame (s : State) (d t : Nat) (words : List (BitVec 64)) : State :=
  let x := s.site d t
  let n := match x.rxMap with
    | some m => m.lanes.length
    | none => 0
  let change := x.markers.headD false
  let s := s.updSite d t fun x => { x with markers := x.markers.drop 1 }
  match markerAgreed n words with
  | some h =>
    let s := s.updSite d t fun x => { x with missed := 0 }
    (match x.pendMap with
      | some m => if m.epoch % 16 = h / 16 then s.mapTaken d t m else s
      | none => s)
  | none =>
    if change then s
    else
    let s := s.updSite d t fun x => { x with missed := x.missed + 1 }
    if 3 ≤ x.missed + 1 then (s.log d 2 25 2 t (s.word .CL_STATUS (unitL d t))).siteRetrain d t 3 else s

/-- MARKER_RECEIVE: the words that the lanes of the old map carried in the place of one flit. -/
def execMarkerReceive (d : Fin 8) (t : Fin 7) (words : List (BitVec 64)) (s : State) : Outcome :=
  runOn d s fun s => s.atActive d t fun s => s.markerCame d t words

/-- PERIODIC_MARKER: after every 4,096 flits (R170). -/
def execPeriodicMarker (d : Fin 8) (t : Fin 7) (s : State) : Outcome :=
  onDie d s fun s => s.atActive d t fun s =>
    match (s.site d t).txMap with
    | some m =>
      if 4096 ≤ (s.site d t).flits then
        let s := s.updSite (s.part.peerDie d t) t fun x => { x with markers := x.markers ++ [false] }
        (s.updSite d t fun x => { x with flits := 0 }).emit (.marker d t (markerLanes m m))
      else s
    | none => s

/-! ## Site states (Table 5.9) -/

/-- A write of site_en. -/
def State.setSiteEn (s : State) (d t : Nat) (en : Bool) : State :=
  let s := s.wrB F.CL_CTRL_site_en (unitL d t) en
  if en then s.siteStart d t else if s.siteState d t = 0 then s else s.siteDown d t 0 0

/-- SITE_EN_WRITE. -/
def execSiteEnWrite (src : Src) (d : Fin 8) (t : Fin 7) (en : Bool) (s : State) : Outcome :=
  onWrite src d s fun s => s.gated .CL_CTRL (unitL d t) fun s => s.setSiteEn d t en

/-- SITE_CALIBRATE_DONE: every lane adapted and measured for 20 µs; the map is formed, or too few lanes reach accept. -/
def execSiteCalibrateDone (d : Fin 8) (t : Fin 7) (got : List (Option Meas)) (s : State) : Outcome :=
  runOn d s fun s =>
    if s.siteState d t ≠ 1 then s
    else
      let s := s.measured d t got 20
      match s.bestMap d t true with
      | some m => (s.useMap d t m true).toSite d t 2
      | none => s.calibFailed d t

/-- SITE_CALIBRATE_TIMEOUT: 250 µs have passed. -/
def execSiteCalibrateTimeout (d : Fin 8) (t : Fin 7) (s : State) : Outcome :=
  runOn d s fun s => if s.siteState d t = 1 then s.calibFailed d t else s

/-- SITE_ALIGN_FOUND: with the one-way path delay in core cycles (Table 5.14). -/
def execSiteAlignFound (d : Fin 8) (t : Fin 7) (delay : Fin 65536) (s : State) : Outcome :=
  onDie d s fun s =>
    if s.siteState d t = 2 then
      ((s.on F.CL_PATH_DELAY_valid (unitL d t)).wr F.CL_PATH_DELAY_delay (unitL d t) delay).enterInit d t
    else s

/-- SITE_ALIGN_TIMEOUT. -/
def execSiteAlignTimeout (d : Fin 8) (t : Fin 7) (s : State) : Outcome :=
  onDie d s fun s => if s.siteState d t = 2 then s.siteCalibrate d t else s

/-- SITE_INIT_EXCHANGE: the partner's die and site, its advertisement by class × 2 + kind, its rx_expected (R164). An exchange
with the partner of Table 5.1 brings what that end sent on entering Init, and nothing has come before it did. Any other is a wiring error, which
fences the port whose die-side logic is its source, if one is (Table 13.4). -/
def execSiteInitExchange (d : Fin 8) (t : Fin 7) (peerDie : Fin 8) (peerSite : PeerSite) (adv : List Nat) (rxExp : Fin 1024)
    (s : State) : Outcome :=
  runOn d s fun s =>
    if s.siteState d t ≠ 3 then s
    else if peerDie.val = s.part.peerDie d t ∧ peerSite.site.val = t.val then
      (if (s.site peerDie t).advd = some (adv, rxExp.val) then
        (s.updSite d t fun x => { x with stopped := false }).initSite d t adv rxExp
      else s)
    else
      let s := (s.evC F.CL_EVENT_wiring_err (unitL d t) t 2).siteDown d t 6 3
      match peerSite.source with
      | some q => s.push (.fence (s.ownerPort (portNo d q)) 5)
      | none => s

/-- SITE_INIT_TIMEOUT. -/
def execSiteInitTimeout (d : Fin 8) (t : Fin 7) (s : State) : Outcome :=
  onDie d s fun s => if s.siteState d t = 3 then s.siteCalibrate d t else s

/-- CL_RETRAIN: retrain written 1. -/
def execClRetrain (src : Src) (d : Fin 8) (t : Fin 7) (s : State) : Outcome :=
  onWrite src d s fun s => s.gated .CL_CTRL (unitL d t) fun s => s.siteRetrain d t 0

/-- retire written 1: from any state but Off. -/
def State.retireSite (s : State) (d t : Nat) : State :=
  if s.siteState d t = 0 ∨ s.siteState d t = 6 then s else s.siteDown d t 6 0

/-- CL_RETIRE. -/
def execClRetire (src : Src) (d : Fin 8) (t : Fin 7) (s : State) : Outcome :=
  onWrite src d s fun s => s.gated .CL_CTRL (unitL d t) fun s => s.retireSite d t

/-- revive written 1: a Retired site starts afresh. -/
def State.reviveSite (s : State) (d t : Nat) : State :=
  if s.siteState d t = 6 ∧ (s.ends d t).all fun e => s.domOn e (8 + t) then (s.siteFresh d t).siteCalibrate d t else s

/-- CL_REVIVE. -/
def execClRevive (src : Src) (d : Fin 8) (t : Fin 7) (s : State) : Outcome :=
  onWrite src d s fun s => s.gated .CL_CTRL (unitL d t) fun s => s.reviveSite d t

/-! ## Hand-over (R174 to R177) -/

/-- HOLD_US_EXPIRY. -/
def execHoldUsExpiry (d : Fin 8) (t : Fin 7) (s : State) : Outcome :=
  runOn d s fun s => s.holdExpired d t

/-- HANDOVER_QUERY_RECEIVE: the receiver stops accepting, then answers with rx_expected (R175 step 2). -/
def execHandoverQueryReceive (d : Fin 8) (t : Fin 7) (s : State) : Outcome :=
  onDie d s fun s =>
    (s.updSite d t fun x => { x with stopped := true, oldExp := none }).emit
      (.handReply (s.part.peerDie d t) t ((s.site d t).oldExp.getD (s.rd F.CL_SEQ_rx_expected (unitL d t))))

/-- HANDOVER_REPLY_RECEIVE (R175 steps 3 and 4). -/
def execHandoverReplyReceive (d : Fin 8) (t : Fin 7) (rxExp : Fin 1024) (s : State) : Outcome :=
  runOn d s fun s => if (s.site d t).handing then s.finishHandOver d t rxExp else s

/-- RELAY_RETURN: the direct site has been Active for 10 ms (R177). -/
def execRelayReturn (d : Fin 8) (t : Fin 7) (s : State) : Outcome :=
  onDie d s fun s => s.atActive d t fun s => s.returnStreams d t

end Sys2Proof.Machine
end

