-- ==== Sys2Proof/Machine/Switch.lean ====
section
/-! DEFINITION. The commands of the switch core (chapter 6): a message's arrival, the match of a cell time, group entries, the
Staged fields. -/

namespace Sys2Proof.Machine

/-- The port that an address of host port `p` decodes to, 0x90 for none. -/
def State.decodeGoal (s : State) (p addr : Nat) : Nat :=
  match s.decode p addr with
  | .hit _ sl _ => (s.vppb (portDie p) sl).port
  | .miss => 0x90

/-- The port of a vPPB slot of a die, 0x90 for none. -/
def State.slotGoal (s : State) (d : Nat) (sl : Option Nat) : Nat :=
  match sl with
  | some i => (s.vppb d i).port
  | none => 0x90

/-- The destination of a host's CXL.io memory request: the Hatch for BAR2 of an FM port (R424), or by its decode. -/
def State.memGoal (s : State) (p : Nat) (m : Msg) : Nat :=
  match s.fn2Off p m with
  | some (true, o) => 0x88 + s.hatchOf (portDie p) o
  | some (false, _) => 0x90
  | none => s.decodeGoal p m.addr

/-- The destination of a message of port `p` by the rules that route it, for the hash of its stream (R173, R185): the requester of the
tracker entry that a response answers, the port of a DPID, the decode of an address, a bus number, a BI-ID or the VCS of a device;
0x90 where it has none, 0x100 + g for multicast group g. -/
def State.goalOf (s : State) (p : Nat) (m : Msg) : Nat :=
  let d := portDie p
  if isResponse m then
    match s.trk m.trkDie m.trk with
    | some x => x.src
    | none => 0x90
  else if m.pbr ∧ s.flag F.PT_NEG_PROTO_pbr (portL p) then bitsOf (Tbl.getD s.pids (key2 d m.pid) 0) 30 24
  else match m.grp with
  | some g => 0x100 + g
  | none =>
    if s.role p = 0 then
      match m.tc with
      | 3 | 4 => s.decodeGoal p m.addr
      | 0 | 1 => if toMemory m.kind then s.memGoal p m
        else if msgWay m = 3 then 0x90 else s.slotGoal d (s.slotByBus p m.bus)
      | 5 => if m.kind = .biConflict then s.decodeGoal p m.addr else m.biId / 16
      | _ => m.dst
    else
      match m.tc with
      | 8 => m.biId
      | 0 | 1 | 10 =>
        match s.boundVcs p m.ld with
        | none => 0x90
        | some (v, own) =>
          match s.peerOf v own m with
          | some i => s.slotGoal (portDie v) (some i)
          | none => v
      | _ => m.dst

/-- The crossbar input of a message of the port that owns quad `q`: a wide port sends a whole stream through one of its crossbar
ports (R185). -/
def State.inputOf (s : State) (d q : Nat) (m : Msg) : Nat :=
  let p := s.ownerPort (portNo d q)
  if s.nQuads p = 1 then portQuad p
  else portQuad p + Config.streamHash (Nat.pair p (Nat.pair (s.goalOf p m) (hashClass m.tc))) % s.nQuads p

/-- MESSAGE_ARRIVAL: a message at a crossbar input of a die, from a port in Up, an Active site or a unit of the die. An input of
0 to 15 names the port by one of its quads. One for which its site has no free buffer entry is not taken: the site retrains
(R158). -/
def execMessageArrival (d : Fin 8) (input : Fin 32) (m : Msg) (own : Option (Fin 128)) (s : State) : Outcome :=
  runOn d s fun s =>
    let p := s.ownerPort (portNo d input)
    let m := if input.val < 16 ∧ s.role p = 0 ∧ m.kind = .biConflict then { m with tc := s.conflictTc p m } else m
    let i := if input.val < 16 then s.inputOf d input m else input.val
    let ready : Bool :=
      if i < 16 then s.portUp (s.ownerPort (portNo d i)) && !malformed m
      else if i < 30 then s.siteActive d ((i - 16) / 2) else !malformed m
    let t := (i - 16) / 2
    if !ready then s
    else if 16 ≤ i ∧ i < 30 ∧ !malformed m ∧ !s.fits d t [m] then s.overflow d t
    else s.arrive d i m (own.map Fin.val)

/-! ## The match (R193 to R196) -/

/-- Credits that the messages already waiting to be cut at a site will take (R154). -/
def State.spentWith (s : State) (d t : Nat) : Tbl Nat := (s.site d t).txq.foldl spend (s.site d t).spent

/-- The far side of an output cannot take a message at once, by what `f` says of it (R196). -/
def State.lacksRoom (s : State) (d o : Nat) (m : Msg) (f : NoRoom) : Bool :=
  f.out.val == o && f.cls.val == m.tc && decide (f.cells.val < m.size) && match f.eng with
    | none => true
    | some e => (s.dmReq d m.ptag).any fun r => r.eng == e.val

/-- The output has the room that R196 requires: `full` says what the far sides of the outputs cannot take. -/
def State.roomAt (s : State) (d o : Nat) (full : List NoRoom) (m : Msg) : Bool :=
  !full.any (s.lacksRoom d o m) &&
    (if o < 16 then s.portUp m.dst || s.holding m.dst
     else if o < 30 then
       let t := (o - 16) / 2
       s.siteActive d t && !(s.site d t).handing && s.mayStart d t (s.spentWith d t) m
     else if o = 31 then decide ((Tbl.getD s.hatches d {}).inbound.length < 32)
     else true)

/-- An earlier TC6 or TC7 message for the same host port is in a queue of the die: the port sends them in the order released
(R255). -/
def State.behindHost (s : State) (d : Nat) (e : QEnt) : Bool :=
  [6, 7].contains e.msg.tc && decide (e.msg.dst < 0x80) && s.role e.msg.dst == 0
    && ((s.xbd d).queue.takeWhile fun x => x != e).any fun x => decide (x.out < 16) && inHostOrder x.msg e.msg

/-- The first message of a class from an input for an output, if it may leave: TC1 and TC2 not behind an earlier TC0 of the
same input and output that they may not pass (R197, R198), TC6 and TC7 in their order towards a host port (R255). -/
def State.headOf (s : State) (d i o c : Nat) : Option QEnt :=
  let mine := (s.xbd d).queue.filter fun e => e.input == i && e.out == o
  match mine.find? fun e => e.msg.tc == c with
  | none => none
  | some e =>
    let before := mine.takeWhile fun x => x != e
    if (before.any fun x => mustFollow e.msg x.msg) || (decide (o < 16) && s.behindHost d e) then none else some e

/-- The first eligible message of an input for an entry of an output (R193). -/
def State.eligible (s : State) (d i o en : Nat) (full : List NoRoom) : Option QEnt :=
  if s.paused d o en then none
  else
    let cs := (upTo 12).filter fun c => entryOf c == en
    (cs.filterMap fun c => s.headOf d i o c).find? fun e => s.roomAt d o full e.msg

/-- Inputs and outputs from `p` on, in order, wrapping round. -/
def ring32 (p : Nat) : List Nat := (upTo 32).map fun k => (p + k) % 32

/-- A grant of an output: the input, the output, the entry, and the message that is matched when the input accepts (R194). -/
structure Grant where
  input : Nat
  out : Nat
  entry : Nat
  msg : QEnt
  deriving DecidableEq, Repr

/-- What an output grants in a round: the entry chosen by the arbitration, and the first input at or after its grant pointer
that asks in it. -/
def State.grantOf (s : State) (d o : Nat) (free : List Nat) (full : List NoRoom) : Option Grant × State :=
  let ready (e : Nat) : Bool := free.any fun i => (s.eligible d i o e full).isSome
  match s.chooseEntry d o ready with
  | (none, s) => (none, s)
  | (some e, s) =>
    let p := Tbl.getD (s.xbd d).grantPtr o 0
    ((((ring32 p).filter free.contains).findSome? fun i => (s.eligible d i o e full).map fun m => ⟨i, o, e, m⟩), s)

/-- Every other copy of a message that stands in a queue or in a Cellar leaves it (R192): the copies removed. -/
def State.dropQueued (s : State) (d : Nat) (mine : QEnt → Bool) : List QEnt × State :=
  let qs := (s.xbd d).queue.filter mine
  let held := (upTo 16).filter fun q => (s.port (portNo d q)).cellar.any mine
  let cs := (held.map fun q => (s.port (portNo d q)).cellar.filter mine).flatten
  let s := s.updXb d fun x => { x with queue := x.queue.filter fun e => !mine e }
  (qs ++ cs, s.forEach held fun s q =>
    (s.updPort (portNo d q) fun x => { x with cellar := x.cellar.filter fun e => !mine e }).showCellar (portNo d q))

/-- The copies that an agent message holds. -/
def AgMsg.copies (a : AgMsg) : List QEnt := a.e :: a.second.toList

/-- Every copy of a message that waits at the agent of the die leaves it (R192): the copies removed. -/
def State.dropAtAgent (s : State) (d : Nat) (mine : QEnt → Bool) : List QEnt × State :=
  let c := s.cad d
  let hit (a : AgMsg) : Bool := a.copies.any mine
  let waits := List.filter (fun ie : Nat × LoftE => ie.2.wait.any hit) c.loft
  let gone := ((c.input ++ c.aside).filter hit ++ waits.flatMap fun ie => ie.2.wait.filter hit).flatMap AgMsg.copies
    ++ c.pairs.filter mine
  let s := s.updCa d fun c =>
    { c with input := c.input.filter fun a => !hit a, aside := c.aside.filter fun a => !hit a,
             pairs := c.pairs.filter fun e => !mine e }
  (gone, s.forEach waits fun s ie =>
    (s.putLoft d ie.1 { ie.2 with wait := ie.2.wait.filter fun a => !hit a }).push (.serve d ie.1))

/-- Every copy of a message that waits at the overlay unit of the die leaves it (R192): the copies removed. -/
def State.dropAtOverlay (s : State) (d : Nat) (mine : QEnt → Bool) : List QEnt × State :=
  let o := s.ovd d
  let slots := List.filter (fun im : Nat × MigSlot => im.2.wait.any mine) o.slots
  let gone := o.tagWait.filter mine ++ slots.flatMap fun im => im.2.wait.filter mine
  let s := s.updOv d fun o => { o with tagWait := o.tagWait.filter fun e => !mine e }
  (gone, s.forEach slots fun s im => s.putMig d im.1 { im.2 with wait := im.2.wait.filter fun e => !mine e })

/-- Every other copy of a message leaves the die, wherever it stands (R192): the copies removed. -/
def State.dropCopies (s : State) (d : Nat) (mid : Option Nat) : List QEnt × State :=
  let mine (x : QEnt) : Bool := mid.isSome && x.mid == mid
  let (a, s) := s.dropQueued d mine
  let (b, s) := s.dropAtAgent d mine
  let (c, s) := s.dropAtOverlay d mine
  (a ++ b ++ c, s)

/-- The mirrored read whose good completion stands in the Larder under a number is in use again, under a free tracker entry: its data
came back poisoned after all (R192, R279). Answers false where no such completion stands there, or no entry is free. -/
def State.mirrorAgain (s : State) (d : Nat) (e : QEnt) : Bool × State :=
  match e.mid.bind fun id => Tbl.get (s.xbd d).mirrored id, s.freeTrk d with
  | some (_, x), some t => (true, ((s.freeCopy d e.mid).putTrk d t x).poisonedRead d t e.msg.data none)
  | _, _ => (false, s)

/-- An error found while a message's cells are read (R192): its log, its count, the message's poison, or the repair of a mirrored
read. Answers whether the message is discarded, whole and in every copy. -/
def State.cellError (s : State) (d : Nat) (r : CellRead) (e : QEnt) : Bool × QEnt × State :=
  let l := dieL d
  let note (s : State) (cls : Nat) (header : Bool) : State :=
    let s := (s.inc F.XB_CNT_ECC_uncorrected l).sramBad d
    let s := if s.flag F.XB_ECC_LOG_valid l then s else
      ((s.on F.XB_ECC_LOG_valid l).wrB F.XB_ECC_LOG_header l header).wr F.XB_ECC_LOG_input l e.input |>.wr F.XB_ECC_LOG_cell l r.cell
    s.evC F.XB_EVENT_ecc_uncorrected l e.input cls
  match r.kind with
  | .single => (false, e, (s.inc F.XB_CNT_ECC_corrected l).sramFixed d (Config.sramAt 0 r.cell))
  | .data =>
    match (note s 0 false).mirrorAgain d e with
    | (true, s) => (true, e, s)
    | (false, s) => (false, { e with msg := { e.msg with poison := true } }, s)
  | .header =>
    let (others, s) := (note s 4 true).dropCopies d e.mid
    let s := s.forEach (e :: others) fun s x => s.freeCopy d x.mid
    let m := e.msg
    let s := if m.ovTag then s.forEach (e :: others) fun s x => s.push (.dualEnd x.msg.trkDie x.msg.trk false)
      else if (takesTrk m.tc m.kind ∨ (isResponse m ∧ m.trkDie ≠ d)) ∧ (s.trk m.trkDie m.trk).isSome then
        s.push (.other d m.trkDie m.trk)
      else s.dropRecord (if m.dst < 0x80 then m.dst else portNo d 0) m.tc
    (true, e, s)

/-- The form in which a message leaves by its port: on a port-based link it carries the SPID of its source port (R225). -/
def State.inFormat (s : State) (d : Nat) (m : Msg) : Msg :=
  if s.flag F.PT_NEG_PROTO_pbr (portL m.dst) then { m with pbr := true, pid := (s.spidOf d m.src).getD m.pid } else m

/-- A register access of an FM port enters the Hatch's buffer (R425), word by word with the byte enables that its length gives. -/
def State.hatchTake (s : State) (d : Nat) (m : Msg) : State :=
  let o := m.addr * 64 + m.off
  let w : Bool := m.kind == .ioMemWr
  let be (a : Nat) : Nat := ((upTo 4).map fun k => if o ≤ a + k ∧ a + k < o + m.len then 2 ^ k else 0).sum
  let todo := (barWords o m.len).map fun a => (a, be a, if w then barWord m o a else 0)
  let e : HEnt := { fm := (s.fmOf m.src).getD 0, tag := m.ptag, write := w, todo := todo, crossed := true
                    trk := if takesTrk m.tc m.kind then some (m.trkDie, m.trk) else none, off := m.off }
  s.updHatch d fun h => { h with inbound := h.inbound ++ [e] }

/-- A matched message crosses to its output; one for a holding port goes into the Cellar with its cells (R129, R308), unless it is a mirrored
read that goes back for the other copy (R278). -/
def State.cross (s : State) (d : Nat) (e : QEnt) : State :=
  let s := s.pm d 0x3001 e.out e.msg.size
  if e.out < 16 ∧ !s.portUp e.msg.dst then
    (if s.goesBack e.msg then s.sendBack d e else s.hold e.msg.dst e)
  else
  let s := s.freeCopy d e.mid
  if e.out < 16 then s.emit (.toPort e.msg.dst (s.inFormat d e.msg))
  else if e.out < 30 then s.updSite d ((e.out - 16) / 2) fun x => { x with txq := x.txq ++ [e.msg] }
  else if e.out = 30 then s.emit (.toDm d e.msg)
  else if toMemory e.msg.kind then s.hatchTake d e.msg else s.emit (.toHatch d e.msg)

/-- An accepted grant is matched in round `round` (R194, R195): pointers, the lock, the arbitration, the transfer. What another match of the
round has charged pauses it no more (R308, Table 10.4), but the room for it must still be there. A message out of the Cellar was charged
when it went in (R308). -/
def State.pair (s : State) (d : Nat) (g : Grant) (round : Nat) (full : List NoRoom) (errs : List CellRead) : State :=
  let i := g.input
  let o := g.out
  let e := g.msg
  if !(s.xbd d).queue.contains e || !s.roomAt d o full e.msg then s
  else
    let s := s.updXb d fun x =>
      { x with queue := x.queue.erase e, locks := x.locks ++ [⟨i, o, e.msg.size⟩]
               grantPtr := if round = 0 then Tbl.set x.grantPtr o ((i + 1) % 32) 0 else x.grantPtr
               acceptPtr := if round = 0 then Tbl.set x.acceptPtr i ((o + 1) % 32) 0 else x.acceptPtr }
    let s := s.served d o g.entry e.msg.size
    let s := if e.held then s else s.chargeOut d o e.msg
    match errs.find? fun r => r.input.val == i with
    | none => s.cross d e
    | some r =>
      match s.cellError d r e with
      | (true, _, s) => s
      | (false, e, s) => s.cross d e

/-- The grants of one round, output by output (R194). -/
def State.grants (s : State) (d : Nat) (freeIn freeOut : List Nat) (full : List NoRoom) : List Grant × State :=
  freeOut.foldl (fun (r : List Grant × State) o =>
    match r.2.grantOf d o freeIn full with
    | (none, s) => (r.1, s)
    | (some g, s) => (r.1 ++ [g], s)) ([], s)

/-- The grants that their inputs accept (R194): each input takes the first output at or after its accept pointer that granted it. The
order is that of the outputs (Table 10.4). -/
def State.accepts (s : State) (d : Nat) (gs : List Grant) : List Grant :=
  gs.filter fun g =>
    ((ring32 (Tbl.getD (s.xbd d).acceptPtr g.input 0)).find? fun o => gs.any fun h => h.input == g.input && h.out == o) == some g.out

/-- One round of request, grant and accept (R194). -/
def State.round (s : State) (d k : Nat) (full : List NoRoom) (errs : List CellRead) : State :=
  let locks := (s.xbd d).locks
  let freeIn := (upTo 32).filter fun i => !(locks.any fun l => l.input == i)
  let freeOut := (upTo 32).filter fun o => !(locks.any fun l => l.out == o)
  let r := s.grants d freeIn freeOut full
  r.2.forEach (r.2.accepts d r.1) fun s g => s.pair d g k full errs

/-- One cell time (R194, R195): locks run on, then iter + 1 rounds. -/
def State.cellTime (s : State) (d : Nat) (full : List NoRoom) (errs : List CellRead) : State :=
  let s := s.updXb d fun x =>
    { x with locks := x.locks.filterMap fun l => if l.left ≤ 1 then none else some { l with left := l.left - 1 } }
  s.forEach (upTo (s.rd F.XB_CTRL_iter (dieL d) + 1)) fun s k => s.round d k full errs

/-- CROSSBAR_MATCH. -/
def execCrossbarMatch (d : Fin 8) (full : List NoRoom) (errs : List CellRead) (s : State) : Outcome :=
  runOn d s fun s => s.cellTime d full errs

/-! ## Group entries (R201, R202, R205) -/

/-- Does an entry written with valid = 1 meet R202? -/
def grpOk (w : List Nat) : Bool :=
  let mask := bitsOf (wordAt w 0) 27 16
  match grpKind w with
  | 0 => mask &&& 0x7FE == 0 && wordAt w 5 == 0 && wordAt w 6 == 0 && wordAt w 7 == 0
  | 1 => mask == 16 && wordAt w 1 == 0 && wordAt w 2 == 0 && wordAt w 3 == 0 && wordAt w 4 == 0
      && (grpCopy w 0).1 != (grpCopy w 1).1
  | _ => false

/-- Put a group entry; one with no bit set is not listed. -/
def State.putGrp (s : State) (d i : Nat) (w : List Nat) : State :=
  { s with groups := Tbl.set s.groups (key2 d i) (if w.all (· == 0) then [] else w) [] }

/-- An entry as it is stored: the reserved bits of a valid one are 0 (Table 6.3); one with valid = 0 is stored as written (R202).
DESIGN CHOICE (log entry 135): so are its reserved bits. -/
def grpStored (w : List Nat) : List Nat :=
  if grpValid w then
    [2 ^ 16 * bitsOf (wordAt w 0) 31 16, wordAt w 1, wordAt w 2, wordAt w 3, wordAt w 4,
     2 ^ 24 * bitsOf (wordAt w 5) 30 24 + 2 ^ 16 * bitsOf (wordAt w 5) 22 16 + 2 ^ 8 * bitsOf (wordAt w 5) 15 8, 0, 0]
  else w

/-- A group operation (Table 6.13): 0 read, 1 write, 2 clear; index 0 is refused, and go is ignored while busy. DESIGN CHOICE (log
entry 148): the reserved op 3 does nothing on any other index. -/
def State.grpOp (s : State) (d op i : Nat) : State :=
  let l := dieL d
  if s.flag F.XB_GRP_CMD_busy l then s.ev F.XB_EVENT_grp_busy l 0
  else
    let s := (s.wr F.XB_GRP_CMD_op l op).wr F.XB_GRP_CMD_index l i
    let refuse (s : State) : State := s.ev F.XB_EVENT_grp_refused l i
    if i = 0 then refuse s
    else
      match op with
      | 0 => s.forEach (upTo 8) fun s w => s.wr F.XB_GRP_DATAw_data (idxL d 0 w) (wordAt (s.grp d i) w)
      | 1 =>
        let w := (upTo 8).map fun k => s.rd F.XB_GRP_DATAw_data (idxL d 0 k)
        if grpValid w ∧ !grpOk w then refuse s else s.putGrp d i (grpStored w)
      | 2 => s.putGrp d i []
      | _ => s

/-- XB_GRP_READ. -/
def execXbGrpRead (src : Src) (d : Fin 8) (index : Fin 4096) (s : State) : Outcome :=
  onWrite src d s fun s => s.grpOp d 0 index

/-- XB_GRP_WRITE. -/
def execXbGrpWrite (src : Src) (d : Fin 8) (index : Fin 4096) (s : State) : Outcome :=
  onWrite src d s fun s => s.grpOp d 1 index

/-- XB_GRP_CLEAR. -/
def execXbGrpClear (src : Src) (d : Fin 8) (index : Fin 4096) (s : State) : Outcome :=
  onWrite src d s fun s => s.grpOp d 2 index

/-! ## Staged fields -/

/-- A write of 1 to commit in XB_CTRL (R207). -/
def State.xbCommit (s : State) (d : Nat) : State :=
  s.forEach [.XB_CTRL, .XB_IN_CAP, .XB_RESP_RESERVE, .XB_CELLAR_TOTAL] fun s r => s.commitReg r (dieL d)

/-- XB_COMMIT. -/
def execXbCommit (src : Src) (d : Fin 8) (s : State) : Outcome := onWrite src d s fun s => s.xbCommit d

/-- A write of min_clear (Table 6.8). -/
def State.larderMinClear (s : State) (d : Nat) : State :=
  s.wr F.XB_LARDER_MIN_shared_min (dieL d) (s.rd F.XB_LARDER_FREE_shared_free (dieL d))

/-- XB_LARDER_MIN_CLEAR. -/
def execXbLarderMinClear (src : Src) (d : Fin 8) (s : State) : Outcome := onWrite src d s fun s => s.larderMinClear d

end Sys2Proof.Machine
end

