-- ==== Sys2Proof/Machine/ChanOps.lean ====
section
/-! DEFINITION. The wrapper of a command of the Fabric Manager, and what a restart of the Warden pair does to commands (R418). -/

namespace Sys2Proof.Machine

/-- May the kind of MCTP message that carried a command carry its opcode (Table 18.2)? Type 0x08 carries those of Table 7.17. -/
def Cmd.typeOk (x : Cmd) : Bool := !x.cci || [0x0001, 0x0002, 0x0003, 0x0004, 0x0200, 0x0201, 0x0202].contains x.opcode

/-- A command of the Fabric Manager is carried out on channel `c` of die 0: the one that has started there and does not wait for a
record of its counter (R474), when its opcode is one of `ops`. -/
def onCmd (c : Fin 5) (ops : List Nat) (s : State) (f : State → Cmd → State) : Outcome :=
  runPkg s fun s => match (s.chan 0 c).running with
    | none => s
    | some cmd => if ops.contains cmd.opcode ∧ !cmd.waits ∧ cmd.typeOk then f s cmd else s

/-- Work of the Strongroom that outlives its command: its effects stand, and nobody is answered (Table 17.13). -/
def StoreNext.orphan : StoreNext → StoreNext
  | .counter c v => .counted c v
  | .reply _ => .nothing
  | .enter t _ => .enter t none
  | .ended t _ => .ended t none
  | n => n

/-- A request of the signer whose command was aborted is for channel 6, which no part has. -/
def XReq.orphan : XReq → XReq
  | .sign _ n => .sign 6 n
  | .release _ => .release 6

/-- The commands of die 0 end; what the Strongroom and the loader do for them goes on (Tables 16.9, 17.13). -/
def State.orphans (s : State) : State :=
  let g := s.strong
  { s with strong := { g with jobs := g.jobs.map fun j => { j with next := j.next.orphan }, signer := g.signer.map XReq.orphan },
           inv := { s.inv with op := s.inv.op.map fun o => { o with chan := none } } }

/-- Every accepted command that has not been answered completes with Aborted (R418, Table 13.7 t1). -/
def State.abortCmds (s : State) (d : Nat) : State :=
  let s := if d = 0 then s.orphans else s
  s.forEach (upTo 6) fun s c =>
    let s := s.respond d c .aborted .none
    let q := (s.chan d c).queue
    s.forEach q fun s _ => match (s.chan d c).queue with
      | [] => s
      | cmd :: r =>
        let s := s.updChan d c fun x => { x with queue := r, running := some cmd }
        s.respond d c .aborted .none

end Sys2Proof.Machine
end

