-- ==== Sys2Proof/Machine/Binding.lean ====
section
/-! DEFINITION. The commands of the binding engine and the Fabric Manager API (chapter 7). -/

namespace Sys2Proof.Machine

/-! ## What the host does (R212 to R218, R223) -/

/-- Back-invalidate can be enabled on a shadow decoder of a pair (R239): reported by the shadow for a pair with a region, by
the device on a link with bi = 1. -/
def State.biSupported (s : State) (p l : Nat) : Bool := s.agentPair p l || s.flag F.PT_NEG_PROTO_bi (portL p)

/-- An access to decoder `k` of the shadow of a vPPB (R212). The values of a committed decoder change only after Commit is
cleared. -/
def shadowAcc (x : ShDec) (bi : Bool) (acc : HdmAcc) : ShDec :=
  match acc with
  | .read | .cap | .globalCtl | .setGlobal _ => x
  | .base v => if x.committed then x else { x with base := v }
  | .size v => if x.committed then x else { x with size := v }
  | .skip v => if x.committed then x else { x with skip := v }
  | .control ways gran b c =>
    if x.committed then { x with committed := c } else { x with ways := ways, gran := gran, biEn := b && bi, committed := c }

/-- The capability header or the global control register of the shadow, for an access to one of them (R212). PRESUMED (log entry 155): the
global control register has two bits that the host can write. -/
def Vppb.hdmWord (x : Vppb) (acc : HdmAcc) : Option Nat :=
  match acc with
  | .cap => some (Config.hdmCap x.port x.ld)
  | .globalCtl => some (x.hdmGlobal.getD (Config.hdmGlobal x.port x.ld))
  | .setGlobal v => some (v.toNat % 4)
  | _ => none

/-- The part answers an access to a device's HDM Decoder Capability, below a Bound vPPB, from the shadow (R212). -/
def State.hdmAccess (s : State) (v n k : Nat) (acc : HdmAcc) : State :=
  let d := portDie v
  let i := s.slotOf v n
  let x := s.vppb d i
  if !(s.vcs v).valid || !s.portUp v || !decide (n < (s.vcs v).count) || x.state != 2 then s
  else match x.hdmWord acc with
  | some w =>
    let set : Bool := match acc with
      | .setGlobal _ => true
      | _ => false
    (if set then s.updVppb d i fun x => { x with hdmGlobal := some w } else s).emit (.hdmWord v n w)
  | none =>
    let e := shadowAcc (Tbl.getD x.shadow k {}) (s.biSupported x.port x.ld) acc
    (s.updVppb d i fun x => { x with shadow := Tbl.set x.shadow k e {} }).emit (.hdmReply v n k e (s.biSupported x.port x.ld))

/-- HDM_CONFIG_ACCESS. -/
def execHdmConfigAccess (v : Fin 128) (n : Fin 256) (k : Fin 32) (acc : HdmAcc) (s : State) : Outcome :=
  onDie (portDie v) s fun s => s.hdmAccess v n k acc

/-- Words 6 and 8 to 11 of a type 1 header that the vPPB entry holds (R223): buses, memory window, prefetchable window. Other
bits of these words are as the emulated configuration space holds them. -/
def Vppb.cfgWord (x : Vppb) (w : Nat) : Nat :=
  let o := Tbl.getD x.cfg w (Config.cfgReset true w)
  match w with
  | 6 => 2 ^ 24 * bitsOf o 31 24 + 2 ^ 16 * x.subBus + 2 ^ 8 * x.secBus + bitsOf o 7 0
  | 8 => 2 ^ 20 * x.memLimit + 2 ^ 16 * bitsOf o 19 16 + 2 ^ 4 * x.memBase + bitsOf o 3 0
  | 9 => 2 ^ 20 * (x.prefLimit % 2 ^ 12) + 2 ^ 16 * bitsOf o 19 16 + 2 ^ 4 * (x.prefBase % 2 ^ 12) + bitsOf o 3 0
  | 10 => x.prefBase / 2 ^ 12
  | 11 => x.prefLimit / 2 ^ 12
  | _ => o

/-- A word of a vPPB's emulated configuration space is written; bus and window values are copied into the entry (R223). -/
def Vppb.cfgWrite (x : Vppb) (w v : Nat) : Vppb :=
  let x := { x with cfg := Tbl.put x.cfg w (Config.cfgStore w (x.cfgWord w) v) }
  match w with
  | 6 => { x with secBus := bitsOf v 15 8, subBus := bitsOf v 23 16 }
  | 8 => { x with memBase := bitsOf v 15 4, memLimit := bitsOf v 31 20 }
  | 9 => { x with prefBase := 2 ^ 12 * (x.prefBase / 2 ^ 12) + bitsOf v 15 4,
                  prefLimit := 2 ^ 12 * (x.prefLimit / 2 ^ 12) + bitsOf v 31 20 }
  | 10 => { x with prefBase := 2 ^ 12 * v + x.prefBase % 2 ^ 12 }
  | 11 => { x with prefLimit := 2 ^ 12 * v + x.prefLimit % 2 ^ 12 }
  | _ => x

/-- A decoder of the upstream port as its host reads it (R215): in FM mode every decoder reads committed and locked, with the
values of its entry. -/
def State.decShown (s : State) (v n : Nat) : Out :=
  let d := portDie v
  let i := portQuad v * 32 + n
  if (s.vcs v).fm then
    let x := s.dec d i
    .decRead v n { base := x.base, size := x.size, ways := x.ways, gran := x.gran, targets := x.targets.map Prod.fst,
                   committed := true } true true
  else .decRead v n (s.hostDec d i) (s.hostDec d i).committed false

/-- The host's configuration access to the emulated upstream port. -/
def State.uspAccess (s : State) (v : Nat) (acc : CfgAcc) : State :=
  let t := Tbl.getD s.uspCfg v []
  match acc with
  | .read w => s.emit (.cfgReply v (some (Tbl.getD t w.val (Config.cfgReset false w))))
  | .write w x =>
    let old := Tbl.getD t w.val (Config.cfgReset false w)
    { s with uspCfg := Tbl.put s.uspCfg v (Tbl.put t w.val (Config.cfgStore w old x.toNat)) }.emit (.cfgReply v none)
  | .hdmCap => s.emit (.capReply v 32 [1, 2, 4, 8] ((upTo 7).map fun g => 256 * 2 ^ g) 8)
  | .hdmDec n => s.emit (s.decShown v n)
  | .linkDisable _ | .powerOff _ | .slotStatus => s.emit (.cfgReply v none)

/-- The host's configuration access to an emulated vPPB. Link Disable and power off are what an Unbind of option 0 or 1 waits
for (Table 7.4). -/
def State.vppbAccess (s : State) (v n : Nat) (acc : CfgAcc) : State :=
  let d := portDie v
  let i := s.slotOf v n
  let x := s.vppb d i
  match acc with
  | .read w => s.emit (.cfgReply v (some (x.cfgWord w)))
  | .write w y => (s.updVppb d i fun x => x.cfgWrite w y.toNat).emit (.cfgReply v none)
  | .slotStatus => s.emit (.slotReply v n x.presence x.dlActive)
  | .hdmCap | .hdmDec _ => s.emit (.cfgReply v none)
  | .linkDisable on =>
    (if on && x.state == 2 && x.unbindOpt == some 0 then s.beginUnbinding d i else s).emit (.cfgReply v none)
  | .powerOff off =>
    (if off && x.state == 2 && x.unbindOpt == some 1 then s.beginUnbinding d i else s).emit (.cfgReply v none)

/-- The host's configuration access to the endpoint at function 1 of its upstream port, which only a VCS with pantry_fn has (R350). -/
def State.fn1Access (s : State) (v : Nat) (acc : CfgAcc) : State :=
  if !s.pantryFn.contains v then s.emit (.cfgReply v none)
  else match acc with
    | .read w => s.emit (.cfgReply v (some (s.fn1Word v w)))
    | .write w x => (s.fn1Write v w x.toNat).emit (.cfgReply v none)
    | _ => s.emit (.cfgReply v none)

/-- The host's configuration access to function 2 of its upstream port, which only an FM port has (R419). -/
def State.fn2Access (s : State) (v : Nat) (acc : CfgAcc) : State :=
  if (s.fmOf v).isNone then s.emit (.cfgReply v none)
  else match acc with
    | .read w => s.emit (.cfgReply v (some (s.fn2Word v w)))
    | .write w x => (s.fn2Write v w x.toNat).emit (.cfgReply v none)
    | _ => s.emit (.cfgReply v none)

/-- The TLP of a forwarded configuration access: its header cell, and a data cell for a write (R183). -/
def cfgMsg (v bus : Nat) (acc : CfgAcc) : Msg :=
  let m : Msg := { tc := 1, kind := .ioCfg, src := v, bus := bus }
  match acc with
  | .write w x =>
    let m := { m with addr := w.val }
    withCells m [tlpCell m, x.toNat]
  | .read w => withCells { m with addr := w.val, len := 4 } []
  | .linkDisable on => withCells m [tlpCell m, 2 ^ 4 * b2n on]
  | .powerOff off => withCells m [tlpCell m, 2 ^ 10 * b2n off]
  | .slotStatus | .hdmCap | .hdmDec _ => withCells m []

/-- Does the access write? -/
def CfgAcc.isWrite : CfgAcc → Bool
  | .read _ | .slotStatus | .hdmCap | .hdmDec _ => false
  | _ => true

/-- The host's configuration access to a device below a vPPB goes to the device (R223); one of its HDM Decoder Capability is answered from
the shadow (R212); a write by a host that does not own a shared pair completes, is discarded and is counted (R213). -/
def State.deviceAccess (s : State) (v bus : Nat) (acc : CfgAcc) : State :=
  let d := portDie v
  match s.slotByBus v bus with
  | some i =>
    let x := s.vppb d i
    match acc with
    | .hdmCap => s.hdmAccess v x.num 0 .cap
    | .hdmDec n => s.hdmAccess v x.num n .read
    | _ =>
      if CfgAcc.isWrite acc && s.notOwner d i then
        (s.inc F.BD_CNT_MISC_shared_cfg_wr (dieL d)).emit (.cfgReply v none)
      else s.arrive d (portQuad v) (cfgMsg v bus acc) none
  | none => s.arrive d (portQuad v) (cfgMsg v bus acc) none

/-- A host's configuration request (R223). -/
def State.hostConfig (s : State) (v : Nat) (goal : CfgTo) (acc : CfgAcc) : State :=
  if !(s.vcs v).valid || !s.portUp v then s
  else match goal with
    | .usp => s.uspAccess v acc
    | .fn1 => s.fn1Access v acc
    | .fn2 => s.fn2Access v acc
    | .vppb n => if n < (s.vcs v).count then s.vppbAccess v n acc else s.deviceAccess v 0 acc
    | .device bus => s.deviceAccess v bus acc

/-- HOST_CONFIG_REQUEST. -/
def execHostConfigRequest (v : Fin 128) (goal : CfgTo) (acc : CfgAcc) (s : State) : Outcome :=
  runOn (portDie v) s fun s => s.hostConfig v goal acc

/-- A host sets Commit of decoder `n` (R215, R217, R218): with every check met the entry is in force before the write
completes; otherwise Error Not Committed is set and the entry in use stays. In FM mode the write is discarded. -/
def State.decoderCommit (s : State) (v n : Nat) (h : HostDec) : State :=
  let d := portDie v
  let i := portQuad v * 32 + n
  if !(s.vcs v).valid || !s.portUp v then s
  else if (s.vcs v).fm then s.emit (.decReply v n true false)
  else
    let ok : Option Dec := match s.hostTargets v h with
      | some ts =>
        let x : Dec := { valid := true, committed := true, ways := h.ways, gran := h.gran, base := h.base, size := h.size,
                         targets := ts }
        if ts.length == 2 ^ h.ways && s.decChecks v i x then some x else none
      | none => none
    match ok with
    | some x => ((s.putDec d i x).putHostDec d i { h with committed := true }).emit (.decReply v n true false)
    | none =>
      let c := (s.hostDec d i).committed
      (s.putHostDec d i { h with committed := c, errNotCommitted := true }).emit (.decReply v n c true)

/-- HOST_DECODER_COMMIT. -/
def execHostDecoderCommit (v : Fin 128) (n : Fin 32) (base size : Fin 16777216) (ways gran : Fin 16)
    (targets : List (Fin 256)) (s : State) : Outcome :=
  onDie (portDie v) s fun s =>
    s.decoderCommit v n { base := base, size := size, ways := ways, gran := gran, targets := targets.map Fin.val }

/-- A host clears Commit of decoder `n` (R218). -/
def State.decoderClear (s : State) (v n : Nat) : State :=
  let d := portDie v
  let i := portQuad v * 32 + n
  if !(s.vcs v).valid || !s.portUp v then s
  else if (s.vcs v).fm then s.emit (.decReply v n true false)
  else
    let h := s.hostDec d i
    ((s.putDec d i {}).putHostDec d i { h with committed := false, errNotCommitted := false }).emit (.decReply v n false false)

/-- HOST_DECODER_COMMIT_CLEAR. -/
def execHostDecoderCommitClear (v : Fin 128) (n : Fin 32) (s : State) : Outcome :=
  onDie (portDie v) s fun s => s.decoderClear v n

/-! ## BD_TBL_CMD (R234) -/

/-- State of a VCS (Table 7.15): 0 host link down, 1 up, 2 in reset. -/
def State.vcsState (s : State) (v : Nat) : Nat := if (s.port v).perstIn then 2 else b2n (s.portUp v)

/-- The two words of a VCS entry (Table 7.15). -/
def State.vcsWords (s : State) (v : Nat) : List Nat :=
  let x := s.vcs v
  if x.valid then
    [2 ^ 31 + 2 ^ 30 * b2n x.fm + 2 ^ 22 * x.usp + 2 ^ 9 * x.first + x.count, 2 ^ 30 * s.vcsState v]
  else [0, 0]

/-- The seven words of a vPPB entry (Table 7.16). -/
def Vppb.words (x : Vppb) : List Nat :=
  [2 ^ 30 * x.state + 2 ^ 26 * x.ld + 2 ^ 25 * b2n x.mld + 2 ^ 18 * x.port + 2 ^ 10 * x.num + 2 ^ 3 * x.vcs + b2n x.owner * 4,
    2 ^ 24 * x.secBus + 2 ^ 16 * x.subBus,
    2 ^ 20 * x.memBase + 2 ^ 4 * x.memLimit,
    2 ^ 20 * (x.prefBase % 2 ^ 12), x.prefBase / 2 ^ 12,
    2 ^ 20 * (x.prefLimit % 2 ^ 12), x.prefLimit / 2 ^ 12 ]

/-- A vPPB entry as it reads: a slot of a run has its VCS and its number in it before it is ever bound (R209, Table 7.16). -/
def State.vppbShown (s : State) (d i : Nat) : Vppb :=
  let x := s.vppb d i
  match ((upTo 16).map (portNo d)).find? fun v => (s.slotsOf v).contains i && (s.vcs v).valid with
  | some v => { x with vcs := v, num := i - (s.vcs v).first }
  | none => x

/-- The twelve words of a decoder entry (Table 7.2); committed reads 1 in FM mode. -/
def Dec.words (x : Dec) (fm : Bool) : List Nat :=
  let t (i : Nat) : Nat := 2 ^ 24 * (x.targets.getD i (0, 0)).1 + (x.targets.getD i (0, 0)).2
  [2 ^ 31 * b2n x.valid + 2 ^ 30 * b2n (x.committed || fm) + 2 ^ 27 * x.ways + 2 ^ 24 * x.gran + 2 ^ 12 * x.grp,
    x.base, x.size, 0 ] ++ (upTo 8).map t

/-- The entry that twelve words say (Table 7.2). -/
def decOf (w : List Nat) : Dec :=
  let w0 := w.getD 0 0
  let ways := bitsOf w0 29 27
  { valid := bitOf w0 31, committed := true, ways := ways, gran := bitsOf w0 26 24, grp := bitsOf w0 23 12,
    base := w.getD 1 0 % 2 ^ 24, size := w.getD 2 0 % 2 ^ 24,
    targets := (upTo (min 8 (2 ^ ways))).map fun i => (bitsOf (w.getD (4 + i) 0) 31 24, w.getD (4 + i) 0 % 2 ^ 24) }

/-- Read an entry (Table 7.9). -/
def State.bdWords (s : State) (d table i : Nat) : List Nat :=
  match table with
  | 0 => if i < 16 then s.vcsWords (portNo d i) else []
  | 1 => if i < 1024 then (s.vppbShown d i).words else []
  | 2 => if i < 512 then (s.dec d i).words (s.vcs (portNo d (i / 32))).fm else []
  | _ => [Tbl.getD s.pids (key2 d i) 0]

/-- Operations 1 to 3 on decoder entry `i` (R215, R217, R221): refused with dec_refused. -/
def State.decOp (s : State) (d op i : Nat) (w : List Nat) : State :=
  let v := portNo d (i / 32)
  let x := s.dec d i
  let refuse : State := s.ev F.BD_EVENT_dec_refused (dieL d) i
  if 512 ≤ i ∨ !(s.vcs v).valid then refuse
  else if op = 3 then
    let g := bitsOf (w.getD 0 0) 23 12
    if x.valid && (g == 0 || s.mirrorGrpOk v x g) then s.putDec d i { x with grp := g } else refuse
  else if !(s.vcs v).fm then refuse
  else if op = 2 then s.putDec d i {}
  else if s.decChecks v i (decOf w) then s.putDec d i (decOf w) else refuse

/-- A write or a clear of a PID entry (Table 7.14). -/
def State.pidOp (s : State) (d op i v : Nat) : State :=
  if op = 1 then { s with pids := Tbl.set s.pids (key2 d i) (2 ^ 20 * (v / 2 ^ 20)) 0 }
  else if op = 2 then { s with pids := Tbl.del s.pids (key2 d i) } else s

/-- A table operation (Table 7.11): 0 read, 1 write, 2 clear, 3 set mirror_grp. -/
def State.bdOp (s : State) (d op table i : Nat) : State :=
  let l := dieL d
  if s.flag F.BD_TBL_CMD_busy l then s.ev F.BD_EVENT_tbl_busy l 0
  else
    let s := ((s.wr F.BD_TBL_CMD_op l op).wr F.BD_TBL_CMD_table l table).wr F.BD_TBL_CMD_index l i
    let w := (upTo 12).map fun k => s.rd F.BD_TBL_DATAw_data (idxL d 0 k)
    if op = 0 then
      let r := s.bdWords d table i
      s.forEach (upTo 12) fun s k => s.wr F.BD_TBL_DATAw_data (idxL d 0 k) (r.getD k 0)
    else match table with
      | 2 => s.decOp d op i w
      | 3 => s.pidOp d op i (w.getD 0 0)
      | _ => if op = 3 then s else s.ev F.BD_EVENT_tbl_refused l i

/-- BD_TBL_READ. -/
def execBdTblRead (src : Src) (d : Fin 8) (table : Fin 4) (index : Fin 4096) (s : State) : Outcome :=
  onWrite src d s fun s => s.bdOp d 0 table index

/-- BD_TBL_WRITE. -/
def execBdTblWrite (src : Src) (d : Fin 8) (table : Fin 4) (index : Fin 4096) (s : State) : Outcome :=
  onWrite src d s fun s => s.bdOp d 1 table index

/-- BD_TBL_CLEAR. -/
def execBdTblClear (src : Src) (d : Fin 8) (table : Fin 4) (index : Fin 4096) (s : State) : Outcome :=
  onWrite src d s fun s => s.bdOp d 2 table index

/-- BD_SET_MIRROR. -/
def execBdSetMirror (src : Src) (d : Fin 8) (table : Fin 4) (index : Fin 4096) (s : State) : Outcome :=
  onWrite src d s fun s => s.bdOp d 3 table index

/-! ## Information commands (Table 7.5) -/

/-- IDENTIFY_SWITCH_DEVICE: one switch with all physical ports (R21). -/
def execIdentifySwitchDevice (c : Fin 5) (s : State) : Outcome :=
  onCmd c [0x5100] s fun s _ =>
    let vs := s.allPorts.filter fun v => (s.vcs v).valid
    s.respond 0 c .success (.switchDevice s.allPorts.length vs.length ((vs.map fun v => (s.vcs v).count).sum))

/-- What a port shows (5101h). -/
def State.portInfo (s : State) (p : Nat) : PortInfo :=
  ⟨p, s.role p, s.word .PT_STATUS (portL p), s.word .PT_NEG_LINK (portL p), s.word .PT_NEG_PROTO (portL p)⟩

/-- GET_PHYSICAL_PORT_STATE. -/
def execGetPhysicalPortState (c : Fin 5) (ports : List (Fin 256)) (s : State) : Outcome :=
  onCmd c [0x5101] s fun s _ =>
    if ports.all fun p => decide (p.val < s.part.dies * 16) then
      s.respond 0 c .success (.portStates (ports.map fun p => s.portInfo p))
    else s.respond 0 c .invalidInput .none

/-- What a vPPB entry shows. -/
def Vppb.info (x : Vppb) : VppbInfo :=
  ⟨x.vcs, x.num, x.state, x.port, x.ld, x.mld, x.owner, x.secBus, x.subBus, x.memBase, x.memLimit, x.prefBase, x.prefLimit⟩

/-- The vPPB entries of a VCS, from `start`, at most `count`. -/
def State.vppbInfos (s : State) (v start count : Nat) : List VppbInfo :=
  (((s.slotsOf v).drop start).take count).map fun i => (s.vppbShown (portDie v) i).info

/-- GET_VIRTUAL_CXL_SWITCH_INFO. -/
def execGetVirtualCxlSwitchInfo (c : Fin 5) (vcss : List (Fin 256)) (start count : Fin 256) (s : State) : Outcome :=
  onCmd c [0x5200] s fun s _ =>
    if vcss.all fun v => (s.vcs v).valid then
      s.respond 0 c .success (.vcsInfos (vcss.map fun v => ⟨v, (s.vcs v).usp, s.vcsState v, s.vppbInfos v start count⟩))
    else s.respond 0 c .invalidInput .none

/-- GET_BINDING_TABLE: the vPPB entries of one VCS. -/
def execGetBindingTable (c : Fin 5) (vcs : Fin 256) (s : State) : Outcome :=
  onCmd c [0xC011] s fun s _ =>
    if (s.vcs vcs).valid then s.respond 0 c .success (.vppbs (s.vppbInfos vcs 0 256))
    else s.respond 0 c .invalidInput .none

/-! ## Binding (R228 to R232) -/

/-- A port that can be bound: present, and a slot (R211, Table 7.6). -/
def State.slotPort (s : State) (p : Nat) : Bool := decide (p < s.part.dies * 16) && s.isSlot p

/-- The LD that a command names on a port (Table 7.6): 0 to 15 on a multi-logical device, FFFFh on a single-logical one. -/
def State.ldOf (s : State) (p ld : Nat) : Option Nat :=
  if s.flag F.PT_NEG_PROTO_mld (portL p) then (if ld < 16 then some ld else none)
  else if ld = 0xFFFF then some 0 else none

/-- The power domains of a port, of its quad group and its controllers, are On (R64). -/
def State.portDomainsOn (s : State) (p : Nat) : Bool :=
  s.domOn (portDie p) (portQuad p / 4) && s.domOn (portDie p) (4 + portQuad p / 4)

/-- The return code of Bind vPPB, before anything changes (Table 7.6). -/
def State.bindCode (s : State) (c v n p ld : Nat) : Rc :=
  if (s.chan 0 c).bg.isSome then .busy
  else if !(s.vcs v).valid || !decide (n < (s.vcs v).count) || !s.slotPort p then .invalidInput
  else match s.ldOf p ld with
    | none => .invalidInput
    | some l =>
      let bs := s.bindings p l
      if (s.vppb (portDie v) (s.slotOf v n)).state != 0 then .invalidInput
      else if !bs.isEmpty && !s.shareBit p l then .invalidInput
      else if bs.any fun di => (s.vppb di.1 di.2).vcs == v then .invalidInput
      else if !s.portDomainsOn p then .internal else .background

/-- Bind vPPB (R212, R213, R224, R228): port and LD recorded; decoder 0 and the BI-ID of the device programmed; Binding. -/
def State.bind (s : State) (c v n p ld : Nat) : State :=
  let rc := s.bindCode c v n p ld
  if rc ≠ .background then s.respond 0 c rc .none
  else
    let l := (s.ldOf p ld).getD 0
    let first := (s.bindings p l).isEmpty
    let s := s.updVppb (portDie v) (s.slotOf v n) fun x =>
      { x with state := 1, port := p, ld := l, mld := s.flag F.PT_NEG_PROTO_mld (portL p), num := n, vcs := v, owner := first,
               seq := s.bindSeq, unbindOpt := none, chans := [c] }
    let s := { s with bindSeq := s.bindSeq + 1 }
    let s := s.emit (.programDevice p l (s.capOf p l) v (!s.agentPair p l))
    s.respond 0 c .background .none

/-- BIND_VPPB. -/
def execBindVppb (c : Fin 5) (vcs n port : Fin 256) (ld : Fin 65536) (s : State) : Outcome :=
  onCmd c [0x5201] s fun s _ => s.bind c vcs n port ld

/-- The background commands of a vPPB end with Success. -/
def State.bindEnds (s : State) (d i : Nat) : State :=
  let cs := (s.vppb d i).chans
  (s.updVppb d i fun x => { x with chans := [] }).forEach cs fun s c => s.bgDone 0 c .success

/-- The emulated configuration of a Binding vPPB has been initialised (Table 7.4): Bound, with one hot-add when the port is
Up. -/
def State.bindingDone (s : State) (d i : Nat) : State :=
  let x := s.vppb d i
  if x.state ≠ 1 then s
  else
    let up := s.portUp x.port
    let s := s.updVppb d i fun x =>
      { x with state := 2, secBus := 0, subBus := 0, memBase := 0, memLimit := 0, prefBase := 0, prefLimit := 0, cfg := [],
               shadow := [], hdmGlobal := none, presence := up, dlActive := up }
    let s := if up then s.emit (.hotplug d i true true) else s
    s.bindEnds d i

/-- VPPB_BINDING_DONE. -/
def execVppbBindingDone (d : Fin 8) (slot : Fin 1024) (s : State) : Outcome :=
  onDie d s fun s => s.bindingDone d slot

/-- The return code of Unbind vPPB (Table 7.6). -/
def State.unbindCode (s : State) (c v n opt : Nat) : Rc :=
  if (s.chan 0 c).bg.isSome then .busy
  else if !(s.vcs v).valid || !decide (n < (s.vcs v).count) || decide (2 < opt) then .invalidInput
  else if (s.vppb (portDie v) (s.slotOf v n)).state != 2 then .invalidInput else .background

/-- Unbind vPPB (Table 7.4, options 0 to 2). -/
def State.unbind (s : State) (c v n opt : Nat) : State :=
  let rc := s.unbindCode c v n opt
  if rc ≠ .background then s.respond 0 c rc .none
  else
    let d := portDie v
    let i := s.slotOf v n
    let s := s.updVppb d i fun x => { x with unbindOpt := some opt, chans := x.chans ++ [c] }
    let s := match opt with
      | 0 => if s.portUp (s.vppb d i).port then s else s.beginUnbinding d i
      | 1 => s.emit (.attention d i)
      | _ =>
        let s := (s.updVppb d i fun x => { x with presence := false }).emit (.hotplug d i false (s.vppb d i).dlActive)
        s.beginUnbinding d i
    s.respond 0 c .background .none

/-- UNBIND_VPPB. -/
def execUnbindVppb (c : Fin 5) (vcs n option : Fin 256) (s : State) : Outcome :=
  onCmd c [0x5202] s fun s _ => s.unbind c vcs n option

/-- A decoder entry names a vPPB number as one of its targets. -/
def Dec.names (x : Dec) (n : Nat) : Bool := x.valid && (x.targets.take (2 ^ x.ways)).any fun t => t.1 == n

/-- A vPPB becomes Unbound (Table 7.4, R213): decoder entries that name it are cleared, ownership of a shared pair passes to
the oldest remaining binding, its background commands end. -/
def State.unbound (s : State) (d i : Nat) : State :=
  let x := s.vppb d i
  let q := portQuad x.vcs
  let s := s.forEach (upTo 32) fun s n =>
    if (s.dec d (q * 32 + n)).names x.num then
      (s.putDec d (q * 32 + n) {}).putHostDec d (q * 32 + n) { s.hostDec d (q * 32 + n) with committed := false }
    else s
  let others := (s.bindings x.port x.ld).filter fun e => e != (d, i)
  let oldest := others.foldl (fun b e => match b with
    | none => some e
    | some y => if (s.vppb e.1 e.2).seq < (s.vppb y.1 y.2).seq then some e else some y) none
  let s := match oldest with
    | some e => if x.owner then s.updVppb e.1 e.2 fun y => { y with owner := true } else s
    | none => s
  let s := s.updVppb d i fun y =>
    { y with state := 0, ld := 0, mld := false, port := 0, owner := false, presence := false, dlActive := false, shadow := [],
             hdmGlobal := none, seq := 0, unbindOpt := none }
  s.bindEnds d i

/-- Tracker entries, as (die, entry), that are outstanding to a vPPB slot. -/
def State.outstandingTo (s : State) (d i : Nat) : List (Nat × Nat) :=
  let v := (s.vppb d i).vcs
  s.dies.flatMap fun k => ((s.trksOf k).filter fun e => e.2.slot == some i && e.2.vcs == some v).map fun e => (k, e.1)

/-- Frames held in a Cellar for a vPPB. -/
def State.heldFor (s : State) (x : Vppb) : List QEnt :=
  (s.port x.port).cellar.filter fun e => e.msg.src == x.vcs && e.msg.ld == x.ld

/-- The agent has asked for every snoop of an Unbinding pair, and each is answered or lost (R261). -/
def State.snoopsDone (s : State) (x : Vppb) : Bool :=
  let ca := s.cad (portDie x.port)
  let k := (x.vcs, portQuad x.port, x.ld)
  !ca.walkUnbind.contains k && !ca.passUnbind.contains k
    && !(ca.slots.any fun w => w.2.vcs == x.vcs && w.2.quad == portQuad x.port && w.2.ld == x.ld)
    && !(ca.snoopWait.any fun w => w.vcs == x.vcs && w.quad == portQuad x.port && w.ld == x.ld)

/-- An Unbinding vPPB has drained (Table 7.4, R261). -/
def State.drained (s : State) (d i : Nat) : State :=
  let x := s.vppb d i
  if x.state == 3 && (s.outstandingTo d i).isEmpty && (s.heldFor x).isEmpty && s.snoopsDone x then s.unbound d i else s

/-- UNBIND_DRAIN_DONE. -/
def execUnbindDrainDone (d : Fin 8) (slot : Fin 1024) (s : State) : Outcome :=
  runOn d s fun s => s.drained d slot

/-- unbind_tmo expires (Table 7.4): an Unbind of option 1 goes on to Unbinding; in Unbinding what is outstanding completes as
the "other" rows of Table 4.8 and the vPPB becomes Unbound. Frames held for it leave the Cellar with their requests. -/
def State.unbindExpiry (s : State) (d i : Nat) : State :=
  let x := s.vppb d i
  if x.state = 2 ∧ x.unbindOpt = some 1 then s.beginUnbinding d i
  else if x.state = 3 then
    let held := s.heldFor x
    let s := s.updPort x.port fun y => { y with cellar := y.cellar.filter fun e => !(e.msg.src == x.vcs && e.msg.ld == x.ld) }
    let s := s.showCellar x.port
    let s := s.forEach held fun s e =>
      let s := s.freeCopy (portDie x.port) e.mid
      if takesTrk e.msg.tc e.msg.kind then s else s.dropRecord x.port e.msg.tc
    let s := s.forEach (s.outstandingTo d i) fun s t => s.completeOther t.1 t.1 t.2
    let s := s.ev F.BD_EVENT_unbind_forced (dieL d) i
    s.unbound d i
  else s

/-- UNBIND_TMO_EXPIRY. -/
def execUnbindTmoExpiry (d : Fin 8) (slot : Fin 1024) (s : State) : Outcome :=
  runOn d s fun s => s.unbindExpiry d slot

/-- Set LD Share (R211, R232). -/
def State.setShare (s : State) (c p ld : Nat) (on : Bool) : State :=
  if !s.slotPort p then s.respond 0 c .invalidInput .none
  else match s.ldOf p ld with
    | none => s.respond 0 c .invalidInput .none
    | some l =>
      if !on ∧ 2 ≤ s.bindCount p l then s.respond 0 c .invalidInput .none
      else (s.wrB (F.BD_LD_SHARE_q_share l) (idxL (portDie p) 0 (portQuad p)) on).respond 0 c .success .none

/-- SET_LD_SHARE. -/
def execSetLdShare (c : Fin 5) (port : Fin 256) (ld : Fin 65536) (share : Bool) (s : State) : Outcome :=
  onCmd c [0xC010] s fun s _ => s.setShare c port ld share

/-! ## Requests to devices (R226, R227, R231) -/

/-- A request goes to the device on a slot port, and its answer is the command's. A device whose link is not Up gives none:
the spec states no return code, which is a free value. -/
def State.askDevice (s : State) (c p : Nat) (ok : Bool) (o : Out) (got : DevAnswer) : State :=
  if !s.slotPort p || !ok then s.respond 0 c .invalidInput .none
  else if !s.portUp p then s.useFree.respond 0 c (.device s.free) .none
  else (s.emit o).respond 0 c (.device got.rc) (.bytes (got.bytes.map BitVec.toNat))

/-- The port has an MLD whose LD is named by `ld`. -/
def State.ldOk (s : State) (p ld : Nat) : Bool := s.flag F.PT_NEG_PROTO_mld (portL p) && decide (ld < 16)

/-- SEND_PPB_CONFIG_REQUEST: to the device on a slot port that no vPPB holds. -/
def execSendPpbConfigRequest (c : Fin 5) (port : Fin 256) (reg : Fin 1024) (put : Option (BitVec 32)) (got : DevAnswer)
    (s : State) : Outcome :=
  onCmd c [0x5103] s fun s _ =>
    let unbound := !(s.allSlots.any fun di => (s.vppb di.1 di.2).state != 0 && (s.vppb di.1 di.2).port == port.val)
    s.askDevice c port unbound (.devConfig port none reg (put.map BitVec.toNat)) got

/-- SEND_LD_CONFIG_REQUEST. -/
def execSendLdConfigRequest (c : Fin 5) (port : Fin 256) (ld : Fin 65536) (reg : Fin 1024) (put : Option (BitVec 32))
    (got : DevAnswer) (s : State) : Outcome :=
  onCmd c [0x5301] s fun s _ =>
    s.askDevice c port (s.ldOk port ld) (.devConfig port (some ld) reg (put.map BitVec.toNat)) got

/-- SEND_LD_MEMORY_REQUEST. -/
def execSendLdMemoryRequest (c : Fin 5) (port : Fin 256) (ld : Fin 65536) (addr : BitVec 64) (len : Fin 4096)
    (put : Option (List (BitVec 8))) (got : DevAnswer) (s : State) : Outcome :=
  onCmd c [0x5302] s fun s _ =>
    s.askDevice c port (s.ldOk port ld)
      (.devMemory port ld addr.toNat len (put.map fun b => b.map BitVec.toNat)) got

/-- TUNNEL_MANAGEMENT_COMMAND: to the FM-owned LD of an MLD (no LD named), to an LD, or to a device's CCI. -/
def execTunnelManagementCommand (c : Fin 5) (port : Fin 256) (ld : Option (Fin 16)) (opcode : Fin 65536)
    (bytes : List (BitVec 8)) (got : DevAnswer) (s : State) : Outcome :=
  onCmd c [0x5300] s fun s _ =>
    s.askDevice c port (ld.isNone || s.flag F.PT_NEG_PROTO_mld (portL port))
      (.tunnel port (ld.map Fin.val) opcode (bytes.map BitVec.toNat)) got

/-- MLD_COMPONENT_COMMAND: opcodes 5400h to 5406h go to the FM-owned LD (R226). -/
def execMldComponentCommand (c : Fin 5) (port : Fin 256) (bytes : List (BitVec 8)) (got : DevAnswer) (s : State) : Outcome :=
  onCmd c [0x5400, 0x5401, 0x5402, 0x5403, 0x5404, 0x5405, 0x5406] s fun s cmd =>
    s.askDevice c port (s.flag F.PT_NEG_PROTO_mld (portL port))
      (.tunnel port none cmd.opcode (bytes.map BitVec.toNat)) got

/-- DCD_MANAGEMENT_COMMAND: opcodes 5600h to 5605h go to the device, whose completion is reported as the part's (R227). -/
def execDcdManagementCommand (c : Fin 5) (port : Fin 256) (ld : Option (Fin 16)) (bytes : List (BitVec 8)) (got : DevAnswer)
    (s : State) : Outcome :=
  onCmd c [0x5600, 0x5601, 0x5602, 0x5603, 0x5604, 0x5605] s fun s cmd =>
    s.askDevice c port (ld.isNone || s.flag F.PT_NEG_PROTO_mld (portL port))
      (.tunnel port (ld.map Fin.val) cmd.opcode (bytes.map BitVec.toNat)) got

/-- GENERATE_AER_EVENT: presented on the named vPPB. -/
def execGenerateAerEvent (c : Fin 5) (vcs n : Fin 256) (bytes : List (BitVec 8)) (s : State) : Outcome :=
  onCmd c [0x5203] s fun s _ =>
    if (s.vcs vcs).valid ∧ n.val < (s.vcs vcs).count then
      (s.emit (.aerGen (portDie vcs) (s.slotOf vcs n) (bytes.map BitVec.toNat))).respond 0 c .success .none
    else s.respond 0 c .invalidInput .none

/-! ## Generic commands (R544) -/

/-- Opcodes that the part carries out (Tables 7.5, 7.17, chapters 16 and 17). -/
def knownOps : List Nat :=
  [0x0001, 0x0002, 0x0003, 0x0004, 0x0200, 0x0201, 0x0202, 0x5100, 0x5101, 0x5102, 0x5103, 0x5200, 0x5201, 0x5202, 0x5203,
   0x5300, 0x5301, 0x5302, 0x5400, 0x5401, 0x5402, 0x5403, 0x5404, 0x5405, 0x5406, 0x5600, 0x5601, 0x5602, 0x5603, 0x5604,
   0x5605, 0xC010, 0xC011, 0xC020, 0xC030, 0xC031, 0xC032, 0xC033, 0xC034, 0xC035, 0xC036, 0xC037, 0xC038, 0xC039]

/-- UNSUPPORTED_OPCODE: any other opcode (R231, R544), and any but those of Table 7.17 in a message of type 0x08 (Table 18.2). -/
def execUnsupportedOpcode (c : Fin 5) (s : State) : Outcome :=
  runPkg s fun s => match (s.chan 0 c).running with
    | none => s
    | some cmd => if knownOps.contains cmd.opcode ∧ cmd.typeOk then s else s.respond 0 c .unsupported .none

/-- IDENTIFY: the identity of the package. -/
def execIdentify (c : Fin 5) (s : State) : Outcome :=
  onCmd c [0x0001] s fun s _ =>
    s.respond 0 c .success (.identity (s.word .LC_PART_ID pkgL) (s.rd64 F.LC_DEVICE_ID_LO_device_id F.LC_DEVICE_ID_HI_device_id pkgL))

/-- BACKGROUND_OPERATION_STATUS: the channel's background command. -/
def execBackgroundOperationStatus (c : Fin 5) (s : State) : Outcome :=
  onCmd c [0x0002] s fun s _ =>
    let x := s.chan 0 c
    match x.bg with
    | some b => s.respond 0 c .success (.background true b.opcode none)
    | none => s.respond 0 c .success (.background false (x.bgLast.map Prod.fst |>.getD 0) (x.bgLast.map Prod.snd))

/-- GET_RESPONSE_MESSAGE_LIMIT. -/
def execGetResponseMessageLimit (c : Fin 5) (s : State) : Outcome :=
  onCmd c [0x0003] s fun s _ => s.respond 0 c .success (.word ((s.chan 0 c).limit.getD (limitMax c)))

/-- SET_RESPONSE_MESSAGE_LIMIT: limited to the payload size of the channel; the limit set is reported. -/
def execSetResponseMessageLimit (c : Fin 5) (n : Fin 256) (s : State) : Outcome :=
  onCmd c [0x0004] s fun s _ =>
    let k := min n.val (limitMax c)
    (s.updChan 0 c fun x => { x with limit := some k }).respond 0 c .success (.word k)

end Sys2Proof.Machine
end

