-- ==== Sys2Proof/Machine/Agent.lean ====
section
/-! DEFINITION. The commands of the coherence agent (chapter 8). -/

namespace Sys2Proof.Machine

/-! ## Messages and snoops -/

/-- An error that the look-up finds in a Loft entry of the line's set (R260): a single bit is corrected; two bits invalidate the
entry, whose waiters are looked up again. -/
def State.loftError (s : State) (d i : Nat) (double : Bool) : State :=
  match s.loftAt d i with
  | none => s
  | some e =>
    if !double then s.sramFixed d (Config.sramAt 1 i)
    else
      let s := s.updCa d fun c =>
        { c with snoopWait := c.snoopWait.filter fun w => !(w.quad == e.quad && w.ld == e.ld && w.line == e.line) }
      let s := ((s.delLoft d i).sramBad d).evC F.CA_EVENT_loft_uncorrected (dieL d) e.quad 4
      s.forEach e.wait fun s a => s.push (.agLook d { a with acted := false })

/-- The agent takes the next message from its input (R249): one from a VCS with a reset walk pending or running is set aside
(R263); any other is looked up at once, behind what waited in an entry that the look-up finds lost (Table 8.9, rule 6). -/
def State.agentNext (s : State) (d : Nat) (bad : Option (Nat × Bool)) : State :=
  match (s.cad d).input with
  | [] => s
  | a :: r =>
    let s := s.updCa d fun c => { c with input := r }
    let away : Bool := (s.cad d).walkReset.contains a.e.msg.src || (s.cad d).passReset.contains a.e.msg.src
    if away then s.updCa d fun c => { c with aside := c.aside ++ [a] }
    else
      let s := s.countLook d
      match bad with
      | some (w, double) => (s.loftError d (loftSet a.quad a.ld a.line * 16 + w) double).push (.agLook d a)
      | none => s.agentLook d a

/-- AGENT_MESSAGE: `bad` is a way of the line's set in whose entry the look-up finds an error, and whether of two bits. -/
def execAgentMessage (d : Fin 8) (bad : Option (Fin 16 × Bool)) (s : State) : Outcome :=
  runOn d s fun s => s.agentNext d (bad.map fun x => (x.1.val, x.2))

/-- The response to a forwarded request passes the home die (R250). Of a mirrored write under at_home both copies are answered there: it is
the first copy's that has not been. -/
def State.passOne (s : State) (d t : Nat) : State :=
  match s.trk d t with
  | none => s.noteDone d t
  | some x =>
    if x.atHome && (x.copyOut 0 || x.copyOut 1) then
      s.copySeen (fun _ => true) d t (if x.copyOut 0 && !x.seen.contains 0 then 0 else 1)
    else s.noteDone d t

/-- DEVICE_RESPONSE_PASS. -/
def execDeviceResponsePass (d trkDie : Fin 8) (trk : Fin 16384) (s : State) : Outcome :=
  runOn d s fun s => s.passOne trkDie trk

/-- SNOOP_ISSUE. -/
def execSnoopIssue (d : Fin 8) (s : State) : Outcome := runOn d s fun s => s.issueSnoop d

/-- A kind is a BIRsp. -/
def isBirsp (k : MKind) : Bool :=
  match k with
  | .biRspI | .biRspS | .biRspE => true
  | _ => false

/-- BIRSP_RECEIVE. -/
def execBirspReceive (d : Fin 8) (tag : Fin 4096) (v : Fin 128) (kind : MKind) (s : State) : Outcome :=
  runOn d s fun s => if isBirsp kind then s.birsp d tag v kind else s

/-- BIRSP_HOLD_RELEASE. -/
def execBirspHoldRelease (d : Fin 8) (s : State) : Outcome := runOn d s fun s => s.releaseBirsp d

/-- BICONFLICT: of the host of VCS `v`, for a line of a (quad, LD) of this die. -/
def execBiconflict (d : Fin 8) (v : Fin 128) (quad ld : Fin 16) (line : Fin 70368744177664) (tag : Fin 65536) (s : State) :
    Outcome :=
  runOn d s fun s =>
    s.biConflict { tc := 5, kind := .biConflict, src := v, dst := portNo d quad, ld := ld, addr := line, ptag := tag }

/-- SNOOP_TIMEOUT. -/
def execSnoopTimeout (d : Fin 8) (tag : Fin 4096) (s : State) : Outcome := runOn d s fun s => s.snoopTimeout d tag

/-! ## CA_TBL_CMD (R236, R237, R242, R268) -/

/-- The three words of a region entry (Table 8.1). -/
def Region.words (r : Region) : List Nat :=
  [2 ^ 31 + 2 ^ 30 * b2n r.lostPoison + 2 ^ 20 * r.quad + 2 ^ 16 * r.ld, r.base, r.size]

/-- The region that three words say (Table 8.1). -/
def regionFrom (w : List Nat) : Region :=
  let w0 := w.getD 0 0
  { lostPoison := bitOf w0 30, quad := bitsOf w0 23 20, ld := bitsOf w0 19 16, base := w.getD 1 0 % 2 ^ 31,
    size := w.getD 2 0 % 2 ^ 31 }

/-- The sharers field of an entry (Table 8.3). -/
def LoftE.sharersField (e : LoftE) : Nat :=
  if e.coarse then e.vec % 2 ^ 32
  else 2 ^ 29 * e.sharers.length + ((upTo e.sharers.length).map fun k => 2 ^ (7 * k) * e.sharers.getD k 0).sum

/-- Code of the holders (Table 8.2). -/
def Holders.code : Holders → Nat
  | .none => 0
  | .shared => 1
  | .excl => 2

/-- The wait-list field that names a message, if there is one (R242): the cell of its header in die `d`, which is never the 0x7FFFF
of an empty list. -/
def waitCell (d : Nat) (a : Option AgMsg) : Nat :=
  match a with
  | none => 0x7FFFF
  | some a => Config.headerCell d a.e.mid % 0x7FFFF

/-- A Loft entry of die `d` as one number of 128 bits (Table 8.2). -/
def LoftE.bits (e : LoftE) (d : Nat) : Nat :=
  2 ^ 127 + 2 ^ 125 * Holders.code e.holders + 2 ^ 124 * b2n e.coarse + 2 ^ 123 * b2n e.evicting + 2 ^ 119 * e.quad
    + 2 ^ 115 * e.ld + 2 ^ 85 * (e.line / 2 ^ 16 % 2 ^ 30) + 2 ^ 53 * e.sharersField + 2 ^ 45 * e.snoops + 2 ^ 40 * e.readsOut
    + 2 ^ 39 * b2n e.writeOut + 2 ^ 20 * waitCell d e.wait.head? + waitCell d e.wait.getLast? * 2

/-- A pair is in device-managed use (Table 8.8). -/
def State.deviceManaged (s : State) (p l : Nat) : Bool :=
  !s.agentPair p l && s.flag F.PT_NEG_PROTO_bi (portL p)
    && (s.bindings p l).any fun di => (s.vppb di.1 di.2).shadow.any fun c => c.2.committed && c.2.biEn

/-- Two regions of one pair overlap. -/
def Region.meets (a b : Region) : Bool :=
  a.quad == b.quad && a.ld == b.ld && decide (a.base < b.base + b.size) && decide (b.base < a.base + a.size)

/-- A new region meets the checks of R237, judged as if the region at its index were unmarked. -/
def State.regionOk (s : State) (d i : Nat) (r : Region) : Bool :=
  let p := portNo d r.quad
  s.domOn d 15 && s.isSlot p && decide (1 ≤ r.size) && decide (r.base + r.size ≤ 2 ^ 31)
    && !((s.cad d).regions.any fun x => x.1 != i && x.2.meets r)
    && s.bindCount p r.ld == 0 && !s.deviceManaged p r.ld

/-- Unmark the region at an index, if there is one: the Loft is walked for it (R237). -/
def State.unmark (s : State) (d i : Nat) : State :=
  match Tbl.get (s.cad d).regions i with
  | none => s
  | some r => (s.updCa d fun c => { c with regions := Tbl.del c.regions i }).askWalk d [r] [] []

/-- A write (some region, or none with valid = 0) or clear of a region entry (R237). -/
def State.regionWrite (s : State) (d i : Nat) (new : Option Region) : State :=
  let free : Bool := match Tbl.get (s.cad d).regions i with
    | some o => s.bindCount (portNo d o.quad) o.ld == 0
    | none => true
  let ok : Bool := match new with
    | some r => s.regionOk d i r
    | none => true
  if free && ok then
    let s := (s.mend d 3 i).unmark d i
    match new with
    | some r => s.updCa d fun c => { c with regions := Tbl.put c.regions i r }
    | none => s
  else s.ev F.CA_EVENT_region_refused (dieL d) i

/-- DATA0 to DATA3 of the agent's table. -/
def State.caData (s : State) (d : Nat) (w : List Nat) : State :=
  s.forEach (upTo 4) fun s k => s.wr F.CA_TBL_DATAw_data (idxL d 0 k) (w.getD k 0)

/-- Read an entry of table 0 or 1 into DATA. -/
def State.caRead (s : State) (d table i : Nat) : State :=
  if table = 0 then
    s.caData d (match Tbl.get (s.cad d).regions i with
      | some r => r.words
      | none => [])
  else match s.loftAt d i with
    | none => s.caData d []
    | some e =>
      let b := e.bits d
      s.caData d ((upTo 4).map fun k => b / 2 ^ (32 * k) % 2 ^ 32)

/-- Look a Loft entry up by the key in DATA0 and DATA1 (Table 8.12). -/
def State.caLookup (s : State) (d : Nat) : State :=
  let w0 := s.rd F.CA_TBL_DATAw_data (idxL d 0 0)
  let w1 := s.rd F.CA_TBL_DATAw_data (idxL d 0 1)
  match s.loftFind d (bitsOf w1 23 20) (bitsOf w1 27 24) (w0 + 2 ^ 32 * bitsOf w1 13 0) with
  | some i => (s.on F.CA_TBL_CMD_hit (dieL d)).wr F.CA_TBL_CMD_index (dieL d) i
  | none => s.off F.CA_TBL_CMD_hit (dieL d)

/-- An operation of CA_TBL_CMD (Table 8.12): 0 read, 1 write, 2 clear, 3 look up. DESIGN CHOICE (log entry 157): a look-up of table 0 with
an index in range, of which the spec gives no outcome, does nothing. -/
def State.caOp (s : State) (d op table i : Nat) : State :=
  let l := dieL d
  if s.flag F.CA_TBL_CMD_busy l then s.ev F.CA_EVENT_tbl_busy l 0
  else
    let s := ((s.wr F.CA_TBL_CMD_op l op).wr F.CA_TBL_CMD_table l table).wr F.CA_TBL_CMD_index l i
    if 2 ≤ table ∨ (table = 0 ∧ 64 ≤ i) ∨ (table = 1 ∧ (op = 1 ∨ op = 2)) then
      (if op = 0 then s.caData d [] else s).ev F.CA_EVENT_tbl_refused l i
    else match op with
      | 0 => s.caRead d table i
      | 1 =>
        let w := (upTo 3).map fun k => s.rd F.CA_TBL_DATAw_data (idxL d 0 k)
        s.regionWrite d i (if bitOf (w.getD 0 0) 31 then some (regionFrom w) else none)
      | 2 => s.regionWrite d i none
      | _ => if table = 1 then s.caLookup d else s

/-- CA_TBL_READ. -/
def execCaTblRead (src : Src) (d : Fin 8) (table : Fin 4) (index : Fin 1048576) (s : State) : Outcome :=
  onWrite src d s fun s => s.caOp d 0 table index

/-- CA_REGION_WRITE. -/
def execCaRegionWrite (src : Src) (d : Fin 8) (table : Fin 4) (index : Fin 1048576) (s : State) : Outcome :=
  onWrite src d s fun s => s.caOp d 1 table index

/-- CA_REGION_CLEAR. -/
def execCaRegionClear (src : Src) (d : Fin 8) (table : Fin 4) (index : Fin 1048576) (s : State) : Outcome :=
  onWrite src d s fun s => s.caOp d 2 table index

/-- CA_LOFT_LOOKUP. -/
def execCaLoftLookup (src : Src) (d : Fin 8) (table : Fin 4) (index : Fin 1048576) (s : State) : Outcome :=
  onWrite src d s fun s => s.caOp d 3 table index

/-! ## Walks (R263) -/

/-- LOFT_WALK_START. -/
def execLoftWalkStart (d : Fin 8) (s : State) : Outcome := runOn d s fun s => s.walkStart d

/-- LOFT_WALK_END. -/
def execLoftWalkEnd (d : Fin 8) (s : State) : Outcome := runOn d s fun s => s.walkEnd d

end Sys2Proof.Machine
end

