-- ==== Sys2Proof/Machine/Mirror.lean ====
section
/-! DEFINITION. The commands of the mirror and overlay units (chapter 9). -/

namespace Sys2Proof.Machine

/-! ## Mirrored requests (R274 to R279) -/

/-- The NDR of a write copy reaches the ingress die (R274): one whose copy was resolved before is discarded. -/
def State.copyNdr (s : State) (d t c : Nat) : State :=
  if s.lateCopy d t c then s.noLate d t c
  else match s.trk d t with
    | none => s
    | some x => if x.mirror.isSome then s.copyResolved d t c true none else s

/-- WRITE_COPY_NDR: at the ingress die. -/
def execWriteCopyNdr (d : Fin 8) (trk : Fin 16384) (copy : Fin 2) (s : State) : Outcome :=
  runOn d s fun s => s.copyNdr d trk copy

/-- copy_tmo passes for a late copy whose port is Up (R275): the copy is resolved and fails with cause 5. -/
def State.copyTmo (s : State) (d t c : Nat) : State :=
  match s.trk d t with
  | none => s
  | some x =>
    let g := x.mirror.getD 0
    if !x.copyOut c || s.lateCopy d t c || !s.portUp (grpCopy (s.grp d g) c).1 then s
    else
      let s := s.inc F.MR_CNT_FAIL_copy_tmo_hits (dieL d)
      (s.push (.copyGivenUp d t c)).push (.copyFailIdx d g c 5)

/-- COPY_TMO_EXPIRY. -/
def execCopyTmoExpiry (d : Fin 8) (trk : Fin 16384) (copy : Fin 2) (s : State) : Outcome :=
  runOn d s fun s => s.copyTmo d trk copy

/-- MIRROR_READ_RETURN: a read returned by a home die whose port is not Up goes to the other copy (R278). -/
def execMirrorReadReturn (d trkDie : Fin 8) (trk : Fin 16384) (s : State) : Outcome :=
  runOn d s fun s => match s.trk trkDie trk with
    | none => s
    | some x => if x.mirror.isSome ∧ readsMem x.kind ∧ s.chooser trkDie x = d then s.reissue trkDie trk else s

/-- POISONED_READ_REPAIR: poisoned data of a mirrored read reaches its tracker (R279). -/
def execPoisonedReadRepair (d : Fin 8) (trk : Fin 16384) (data : Nat) (s : State) : Outcome :=
  runOn d s fun s => match s.trk d trk with
    | none => s
    | some x => if x.mirror.isSome ∧ readsData x.kind then s.poisonedRead d trk [data] none else s

/-! ## Guarded rewrites (R280) -/

/-- Lines that one guard can cover: 1 to 64, of one 4 KiB block, none twice (R282). -/
def guardLines (ls : List Nat) : Bool :=
  !ls.isEmpty && decide (ls.length ≤ 64) && distinct ls && ls.all fun a => a / 64 == ls.headD 0 / 64

/-- GUARD_ARM_REQUEST: X's home die arms a guard, or the arm waits for one. -/
def execGuardArmRequest (d chooser : Fin 8) (grp : Fin 4096) (copy : Fin 2) (port : Fin 128) (ld : Fin 16) (lines : List Nat)
    (s : State) : Outcome :=
  runOn d s fun s =>
    if guardLines lines ∧ portDie port = d then
      s.armGuard d { chooser := chooser, grp := grp, copy := copy, port := port, ld := ld, lines := lines, left := lines }
    else s

/-- The guard of a rewrite has been armed (R280 step 2): a pair query goes to every die. -/
def State.guardAck (s : State) (d grp copy : Nat) (lines : List Nat) : State :=
  match (s.mrd d).rewrites.find? fun r =>
      r.2.grp == grp && r.2.copy == copy && !r.2.armed && s.rewriteLines d r.2 == lines with
  | none => s
  | some (i, r) =>
    let s := s.updMr d fun m => { m with rewrites := Tbl.put m.rewrites i { r with armed := true } }
    s.forEach s.dies fun s k => s.emit (.pairQuery k d grp copy r.lines)

/-- GUARD_ACK. -/
def execGuardAck (d : Fin 8) (grp : Fin 4096) (copy : Fin 2) (lines : List Nat) (s : State) : Outcome :=
  runOn d s fun s => s.guardAck d grp copy lines

/-- A tracked write goes to lines of a group's range (R280 step 2): as a mirrored write, or, decoded before the range was mirrored, to copy
A alone. -/
def State.writesRange (s : State) (d grp : Nat) (lines : List Nat) (x : Trk) : Bool :=
  x.tc == 4 && lines.contains x.addr
    && (x.mirror == some grp || (x.mirror.isNone && grpCopy (s.grp d grp) 0 == (x.port, x.ld)))

/-- A pair query reaches a die (R280 step 2): it is answered once the incomplete TC4 of those lines that the tracker holds now
are done; a die with no entry at the index answers at once. -/
def State.pairQuery (s : State) (d ch grp copy : Nat) (lines : List Nat) : State :=
  let waits := if (s.mir d grp).valid then
      ((s.trksOf d).filter fun e => s.writesRange d grp lines e.2).map Prod.fst
    else []
  s.updMr d fun m => { m with queries := m.queries ++ [⟨ch, grp, copy, lines, waits⟩] }

/-- PAIR_QUERY. -/
def execPairQuery (d chooser : Fin 8) (grp : Fin 4096) (copy : Fin 2) (lines : List Nat) (s : State) : Outcome :=
  runOn d s fun s => s.pairQuery d chooser grp copy lines

/-- Every die has answered (R280 step 3): the lines are read from copy Y; those of a resilver block by the engine, in its turns (R287). -/
def State.pairsDone (s : State) (d grp copy line : Nat) : State :=
  match s.rewriteOf d grp copy line with
  | none => s
  | some (i, r) =>
    if !r.armed || r.reading || !s.dies.all r.answered.contains then s
    else
      let r := { r with reading := true, toRead := if r.resilver then r.lines else [] }
      let s := s.updMr d fun m => { m with rewrites := Tbl.put m.rewrites i r }
      if r.resilver then s else s.emit (.mirrorRead (portDie (grpCopy (s.grp d grp) (1 - copy)).1) grp (1 - copy) r.lines)

/-- PAIR_QUERY_ANSWERED. -/
def execPairQueryAnswered (d : Fin 8) (grp : Fin 4096) (copy : Fin 2) (line : Nat) (s : State) : Outcome :=
  runOn d s fun s => s.pairsDone d grp copy line

/-- GUARDED_REWRITE. -/
def execGuardedRewrite (d chooser : Fin 8) (grp : Fin 4096) (copy : Fin 2) (line : Nat) (poison : Bool) (data : Nat)
    (s : State) : Outcome :=
  runOn d s fun s => s.rewriteLine d chooser grp copy line poison data

/-! ## Copy states (R284) -/

/-- A copy-state message reaches a die: it is applied, and Resilvering is acknowledged to the resilvering die (R287). -/
def State.copyMsgCame (s : State) (d src : Nat) (m : CopyMsg) : State :=
  let s := s.applyCopyMsg d m
  match m with
  | .setCopy g c .resilvering _ =>
    let s := match (s.mrd src).resilver with
      | some r => if r.grp = g.val ∧ r.copy = c.val then
          s.updMr src fun x => { x with resilver := some { r with acks := r.acks.filter (· != d) ++ [d] } } else s
      | none => s
    s.emit (.copyAck src d g)
  | _ => s

/-- COPY_STATE_MESSAGE. -/
def execCopyStateMessage (d from_ : Fin 8) (m : CopyMsg) (s : State) : Outcome :=
  runOn d s fun s => s.copyMsgCame d from_ m

/-! ## MR_TBL_CMD (R270, R272) -/

/-- Code of a copy's state (Table 9.1). -/
def CopySt.code : CopySt → Nat
  | .healthy => 0
  | .failed => 1
  | .resilvering => 2

/-- The state that a code names; the reserved code 3 is taken as Failed. -/
def copyStOf (n : Nat) : CopySt := if n = 0 then .healthy else if n = 2 then .resilvering else .failed

/-- The eight words of a mirror entry (Table 9.1); cursor reads 0 but on the resilvering die. -/
def Mir.words (x : Mir) (cursor : Bool) : List Nat :=
  [2 ^ 31 * b2n x.valid + 2 ^ 30 * b2n x.atHome + 2 ^ 29 * b2n x.autoResilver + 2 ^ 28 * b2n x.lost
      + 2 ^ 26 * CopySt.code x.stA + 2 ^ 24 * CopySt.code x.stB + 2 ^ 22 * x.pref,
    x.aBase, x.bBase, x.size, if cursor then x.cursor else 0, 2 ^ 16 * x.poisA + x.poisB, 0, 0 ]

/-- The entry that eight words say (Table 9.1); its poison counts start at 0. -/
def mirFrom (w : List Nat) : Mir :=
  let w0 := w.getD 0 0
  { valid := bitOf w0 31, atHome := bitOf w0 30, autoResilver := bitOf w0 29, lost := bitOf w0 28,
    stA := copyStOf (bitsOf w0 27 26), stB := copyStOf (bitsOf w0 25 24), pref := bitsOf w0 23 22,
    aBase := w.getD 1 0 % 2 ^ 24, bBase := w.getD 2 0 % 2 ^ 24, size := w.getD 3 0 % 2 ^ 16 }

/-- A decoder entry of the die names the group in mirror_grp. -/
def State.mirNamed (s : State) (d i : Nat) : Bool := (upTo 512).any fun k => (s.dec d k).valid && (s.dec d k).grp == i

/-- What a written entry must meet besides (R272): copy B's range fits its device, and copies on one device do not overlap. -/
def State.mirFits (s : State) (d i : Nat) (x : Mir) : Bool :=
  let a := grpCopy (s.grp d i) 0
  let b := grpCopy (s.grp d i) 1
  decide (x.bBase + x.size ≤ s.capOf b.1 b.2) && (a != b || !rangesOverlap x.aBase x.size x.bBase x.size)

/-- A write changes no more of an entry than pref and auto_resilver (R272). DESIGN CHOICE (log entry 66): what the part itself counts, the
cursor and the poison counts, is no change. -/
def Mir.onlyPref (x y : Mir) : Bool :=
  y.valid == x.valid && y.atHome == x.atHome && y.lost == x.lost && y.stA == x.stA && y.stB == x.stB && y.aBase == x.aBase
    && y.bBase == x.bBase && y.size == x.size

/-- An operation of MR_TBL_CMD (Table 9.9): 0 read, 1 write, 2 clear. -/
def State.mrTblOp (s : State) (d op i : Nat) : State :=
  let l := dieL d
  if s.flag F.MR_TBL_CMD_busy l then s.ev F.MR_EVENT_tbl_busy l 0
  else
    let s := (s.wr F.MR_TBL_CMD_op l op).wr F.MR_TBL_CMD_index l i
    let refuse : State := s.ev F.MR_EVENT_mr_refused l i
    if i = 0 then refuse
    else if op = 0 then
      let cur : Bool := match (s.mrd d).resilver with | some r => r.grp == i | none => false
      let w := (s.mir d i).words cur
      s.forEach (upTo 8) fun s k => s.wr F.MR_TBL_DATAw_data (idxL d 0 k) (w.getD k 0)
    else if 3 ≤ op then s
    else
      let named := s.mirNamed d i
      let y := mirFrom ((upTo 8).map fun k => s.rd F.MR_TBL_DATAw_data (idxL d 0 k))
      let common : Bool := s.domOn d 16 && grpValid (s.grp d i) && grpKind (s.grp d i) == 1
      if op = 1 then
        if !(common && s.mirFits d i y) || (named && !(s.mir d i).onlyPref y) then refuse
        else if named then s.putMir d i { s.mir d i with pref := y.pref, autoResilver := y.autoResilver }
        else
          let s := match (s.mrd d).resilver with
            | some r => if r.grp = i then s.endResilver d else s
            | none => s
          (s.dropRepairs d i).putMir d i y
      else if !common || named then refuse
      else
        let s := match (s.mrd d).resilver with
          | some r => if r.grp = i then s.endResilver d else s
          | none => s
        (s.dropRepairs d i).putMir d i {}

/-- MR_TBL_READ. -/
def execMrTblRead (src : Src) (d : Fin 8) (index : Fin 4096) (s : State) : Outcome :=
  onWrite src d s fun s => s.mrTblOp d 0 index

/-- MR_TBL_WRITE. -/
def execMrTblWrite (src : Src) (d : Fin 8) (index : Fin 4096) (s : State) : Outcome :=
  onWrite src d s fun s => s.mrTblOp d 1 index

/-- MR_TBL_CLEAR. -/
def execMrTblClear (src : Src) (d : Fin 8) (index : Fin 4096) (s : State) : Outcome :=
  onWrite src d s fun s => s.mrTblOp d 2 index

/-! ## MR_COPY_CMD (R283 to R288) -/

/-- A command of MR_COPY_CMD (Table 9.9): 0 fail, 1 resilver, 2 force Healthy, 3 stop resilver; one that the copy's state does
not allow is refused with copy_refused. -/
def State.mrCopyOp (s : State) (d op i c : Nat) : State :=
  let l := dieL d
  if s.flag F.MR_COPY_CMD_busy l then s.ev F.MR_EVENT_tbl_busy l 0
  else
    let s := ((s.wr F.MR_COPY_CMD_op l op).wr F.MR_COPY_CMD_copy l c).wr F.MR_COPY_CMD_index l i
    let x := s.mir d i
    let refuse : State := s.ev F.MR_EVENT_copy_refused l i
    let set (st : CopySt) (cause : Nat) : CopyMsg := .setCopy (Fin.ofNat 4096 i) (Fin.ofNat 2 c) st (Fin.ofNat 8 cause)
    match op with
    | 0 => if x.valid && x.st c != .failed then s.sendCopyMsg d (set .failed 7) else refuse
    | 1 => s.startResilver d i c
    | 2 => if x.valid && x.lost && x.st c == .failed then s.sendCopyMsg d (set .healthy 0) else refuse
    | _ =>
      match (s.mrd d).resilver with
      | some r => if r.grp = i ∧ r.copy = c then (s.endResilver d).sendCopyMsg d (set .failed 0) else refuse
      | none => refuse

/-- MR_COPY_FAIL. -/
def execMrCopyFail (src : Src) (d : Fin 8) (index : Fin 4096) (copy : Fin 2) (s : State) : Outcome :=
  onWrite src d s fun s => s.mrCopyOp d 0 index copy

/-- MR_COPY_RESILVER. -/
def execMrCopyResilver (src : Src) (d : Fin 8) (index : Fin 4096) (copy : Fin 2) (s : State) : Outcome :=
  onWrite src d s fun s => s.mrCopyOp d 1 index copy

/-- MR_COPY_FORCE_HEALTHY. -/
def execMrCopyForceHealthy (src : Src) (d : Fin 8) (index : Fin 4096) (copy : Fin 2) (s : State) : Outcome :=
  onWrite src d s fun s => s.mrCopyOp d 2 index copy

/-- MR_COPY_STOP_RESILVER. -/
def execMrCopyStopResilver (src : Src) (d : Fin 8) (index : Fin 4096) (copy : Fin 2) (s : State) : Outcome :=
  onWrite src d s fun s => s.mrCopyOp d 3 index copy

/-! ## Resilvering (R287) -/

/-- Every die has acknowledged Resilvering: its blocks may start, in turns of the engine (R287 step 2). -/
def State.resilverAcked (s : State) (d : Nat) : State :=
  match (s.mrd d).resilver with
  | none => s
  | some r =>
    if r.copying || !(s.dies.filter (s.reaches d)).all r.acks.contains then s
    else s.updMr d fun m => { m with resilver := some { r with copying := true } }

/-- RESILVER_STATE_ACK. -/
def execResilverStateAck (d : Fin 8) (s : State) : Outcome := runOn d s fun s => s.resilverAcked d

/-- The block that holds copy A line `line` is done (R287): with the last one the copy is Healthy and cursor 0. -/
def State.blockDone (s : State) (d line : Nat) : State :=
  let l := dieL d
  match (s.mrd d).resilver with
  | none => s
  | some r =>
    match s.rewriteOf d r.grp r.copy line with
    | none => s
    | some (i, w) =>
      if !w.resilver || !w.left.isEmpty then s
      else
        let s := s.updMr d fun m =>
          { m with rewrites := Tbl.del m.rewrites i, resilver := some { r with done := r.done + 1 } }
        let s := s.wr F.MR_RESILVER_in_flight l (s.rd F.MR_RESILVER_in_flight l - 1)
        if r.done + 1 < (s.mir d r.grp).blocks then s
        else
          let s := (s.endResilver d).sendCopyMsg d (.setCopy (Fin.ofNat 4096 r.grp) (Fin.ofNat 2 r.copy) .healthy 0)
          (s.inc F.MR_CNT_FAIL_resilvers_done l).ev F.MR_EVENT_resilver_done l r.grp

/-- RESILVER_BLOCK_DONE. -/
def execResilverBlockDone (d : Fin 8) (line : Nat) (s : State) : Outcome := runOn d s fun s => s.blockDone d line

/-- BLK_GAP_EXPIRY. -/
def execBlkGapExpiry (d : Fin 8) (s : State) : Outcome :=
  runOn d s fun s => match (s.mrd d).resilver with
    | none => s
    | some r => if r.gap then s.updMr d fun m => { m with resilver := some { r with gap := false } } else s

/-! ## OV_CMD (R289 to R296) -/

/-- A place as words 2 and 3, or 4 and 5, of an overlay entry (Table 9.4). -/
def Place.words (p : Place) : List Nat :=
  [2 ^ 24 * p.port + 2 ^ 20 * p.ld + p.page / 2 ^ 20, 2 ^ 12 * (p.page % 2 ^ 20)]

/-- The place that two such words say. -/
def placeFrom (a b : Nat) : Place := ⟨bitsOf a 30 24, bitsOf a 23 20, 2 ^ 20 * bitsOf a 19 0 + bitsOf b 31 12⟩

/-- The eight words of an overlay entry (Table 9.4). -/
def OvE.words (e : OvE) : List Nat :=
  let (slot, new) : Nat × List Nat := match e.copying with
    | some (p, sl) => (2 ^ 29 + 2 ^ 23 * sl, p.words)
    | none => (0, [0, 0])
  [2 ^ 31 + slot + 2 ^ 19 * e.quad + 2 ^ 15 * e.ld, e.page / 2 ^ 12] ++ e.cur.words ++ new ++ [e.moves, 0]

/-- A command of OV_CMD (Tables 9.10 and 9.11): 0 look up, 1 start, 2 abort, 3 clear. Its result other than 0 sets
cmd_refused. -/
def State.ovOp (s : State) (d op : Nat) : State :=
  let l := dieL d
  if s.flag F.OV_CMD_busy l then s.ev F.OV_EVENT_tbl_busy l 0
  else
    let s := s.wr F.OV_CMD_op l op
    let page := s.rd F.OV_DATA0_key_lo l + 2 ^ 32 * s.rd F.OV_DATA1_key_hi l
    let quad := s.rd F.OV_DATA1_quad l
    let ld := s.rd F.OV_DATA1_ld l
    let at_ := s.ovFind d quad ld page
    let e := at_.bind (Tbl.get (s.ovd d).entries)
    let ends (s : State) (result : Nat) (i : Option Nat) : State :=
      let s := (s.wr F.OV_CMD_result l result).wrB F.OV_CMD_hit l at_.isSome
      let s := match i with
        | some i => s.wr F.OV_CMD_index l i
        | none => s
      if result = 0 then s else s.ev F.OV_EVENT_cmd_refused l (i.getD 0)
    match op with
    | 0 => match e with
      | some e =>
        let w := e.words
        let s := ((s.wr F.OV_DATA0_key_lo l (w.getD 0 0)).wr F.OV_DATA1_quad l (bitsOf (w.getD 1 0) 23 20)).wr F.OV_DATA1_ld l
          (bitsOf (w.getD 1 0) 19 16)
        let s := (s.wr F.OV_DATA1_key_hi l (w.getD 1 0)).wr F.OV_DATA2_new_a l (w.getD 2 0)
        let s := (s.wr F.OV_DATA3_new_b l (w.getD 3 0)).updOv d fun x => { x with data1 := w.getD 1 0 &&& 0xFF00_FF00 }
        let s := s.forEach [4, 5, 6, 7] fun s k => s.wr F.OV_DATA4_7_data (idxL d 0 (k - 4)) (w.getD k 0)
        ends s 0 at_
      | none => ends s 1 none
    | 1 =>
      let n := placeFrom (s.rd F.OV_DATA2_new_a l) (s.rd F.OV_DATA3_new_b l)
      let r := s.ovCheck d quad ld page n
      if r = 0 then
        let i := at_.orElse fun _ => s.ovFreeWay d quad ld page
        ends (s.ovBegin d quad ld page n none) 0 i
      else ends s r at_
    | 2 => match e with
      | none => ends s 1 none
      | some e => match e.copying with
        | none => ends s 4 at_
        | some (_, sl) => ends (s.migAbort d sl) 0 at_
    | _ => match e, at_ with
      | some e, some i =>
        if e.copying.isSome then ends s 4 at_
        else ends ((s.updOv d fun o => { o with entries := Tbl.del o.entries i }).showOv d) 0 at_
      | _, _ => ends s 1 none

/-- OV_LOOKUP. -/
def execOvLookup (src : Src) (d : Fin 8) (s : State) : Outcome := onWrite src d s fun s => s.ovOp d 0

/-- OV_START. -/
def execOvStart (src : Src) (d : Fin 8) (s : State) : Outcome := onWrite src d s fun s => s.ovOp d 1

/-- OV_ABORT. -/
def execOvAbort (src : Src) (d : Fin 8) (s : State) : Outcome := onWrite src d s fun s => s.ovOp d 2

/-- OV_CLEAR. -/
def execOvClear (src : Src) (d : Fin 8) (s : State) : Outcome := onWrite src d s fun s => s.ovOp d 3

/-! ## Migrations (R292 to R295) -/

/-- LINE_COPY_READ_RETURN. -/
def execLineCopyReadReturn (d : Fin 8) (slot line : Fin 64) (poison : Bool) (data : Nat) (s : State) : Outcome :=
  runOn d s fun s => s.lineRead d slot line poison [data]

/-- LINE_COPY_DONE. -/
def execLineCopyDone (d : Fin 8) (slot line : Fin 64) (s : State) : Outcome := runOn d s fun s => s.lineDone d slot line

/-- MIGRATION_DRAINED. -/
def execMigrationDrained (d : Fin 8) (slot : Fin 64) (s : State) : Outcome := runOn d s fun s => s.migDrained d slot

/-- The NDR of a dual write's copy comes under its tag (R293): `newCopy` is the copy bound for the new location. -/
def State.dualNdr (s : State) (d tag : Nat) (newCopy : Bool) : State :=
  match Tbl.get (s.ovd d).tags tag with
  | none => s
  | some t => if t.new = newCopy then s.dualEnd d tag true else s

/-- DUAL_WRITE_NDR. -/
def execDualWriteNdr (d : Fin 8) (tag : Fin 1024) (newCopy : Bool) (s : State) : Outcome :=
  runOn d s fun s => s.dualNdr d tag newCopy

end Sys2Proof.Machine
end

