-- ==== Sys2Proof/Machine/Shapers.lean ====
section
/-! DEFINITION. The commands of the scheduler: arbitration, the timing wheel, shaper entries, policers (chapter 10). -/

namespace Sys2Proof.Machine

/-! ## Arbitration (R302, R304) -/

/-- Some input asks for an output in a class of an entry, and no shaper has paused it (R301). -/
def State.entryReady (s : State) (d o e : Nat) : Bool :=
  !s.paused d o e && (s.xbd d).queue.any fun x => x.out == o && entryOf x.msg.tc == e

/-- An entry at level 1 to 3 has waited starve × 64 cycles (R302): it is at level 0 for its next grant. -/
def State.starved (s : State) (d o e : Nat) : State :=
  if s.rd F.SC_ARB_STARVE_q_starve (idxL d 0 (portQuad (s.arbPort d o))) = 0 ∨ s.levelOf d o e = 0
      ∨ !s.entryReady d o e ∨ (s.xbd d).promoted.contains (o, e) then s
  else
    ((s.updXb d fun x => { x with promoted := x.promoted ++ [(o, e)] }).inc F.SC_CNT_MISC_starve_promotions (dieL d)).ev
      F.SC_EVENT_starve (dieL d) o

/-- STARVE_PROMOTION. -/
def execStarvePromotion (d : Fin 8) (o : Fin 16) (e : Fin 9) (s : State) : Outcome := runOn d s fun s => s.starved d o e

/-- A write of 1 to commit in SC_CTRL (R304): the Staged arbitration fields take effect, or none does. -/
def State.scCommit (s : State) (d : Nat) : State :=
  if !s.arbOk d then s.ev F.SC_EVENT_arb_refused (dieL d) 0
  else s.forEach (upTo 16) fun s q =>
    s.forEach [.SC_ARB_PRIO_q, .SC_ARB_WGT0_q, .SC_ARB_WGT1_q, .SC_ARB_WGT2_q, .SC_ARB_STARVE_q] fun s r =>
      s.commitReg r (idxL d 0 q)

/-- SC_COMMIT. -/
def execScCommit (src : Src) (d : Fin 8) (s : State) : Outcome := onWrite src d s fun s => s.scCommit d

/-! ## The wheel and shaper entries (R311 to R315) -/

/-- WHEEL_SLOT: a write taking effect comes before the slot (Table 10.4). -/
def execWheelSlot (d : Fin 8) (s : State) : Outcome := runOn d s fun s => (s.shpEffect d).wheelSlot d

/-- SHAPER_WRITE_EFFECT. -/
def execShaperWriteEffect (d : Fin 8) (s : State) : Outcome := runOn d s fun s => s.shpEffect d

/-- An operation of SC_SHP_CMD (Table 10.7): 0 read, 1 write, 2 clear. -/
def State.shpOp (s : State) (d op i tokReset : Nat) : State :=
  let l := dieL d
  if s.flag F.SC_SHP_CMD_busy l then s.ev F.SC_EVENT_tbl_busy l 0
  else
    let tr := if tokReset = 3 then 0 else tokReset
    let s := ((s.wr F.SC_SHP_CMD_op l op).wr F.SC_SHP_CMD_index l i).wr F.SC_SHP_CMD_tok_reset l tr
    let refuse (s : State) : State := s.ev F.SC_EVENT_shp_refused l i
    let x := s.shp d i
    match op with
    | 0 =>
      let put (k v : Nat) (s : State) : State := s.wr F.SC_SHP_DATAw_data (idxL d 0 k) v
      put 0 x.w0 (put 1 x.w1 (put 2 x.w2 (put 3 x.word3 s)))
    | 1 =>
      let data (k : Nat) : Nat := s.rd F.SC_SHP_DATAw_data (idxL d 0 k)
      let w : ShpWrite := ⟨i, data 0, data 1, data 2, tr⟩
      if s.shpOk d w false then { s with shpWrites := Tbl.put s.shpWrites (d * shpCap + i) w }.on F.SC_SHP_CMD_busy l else refuse s
    | 2 =>
      if x.owned then refuse s
      else
        let s := if x.en then s.inc F.PN_FREE_shapers_free l else s
        (s.putShp d i {}).showShps d
    | _ => s

/-- SC_SHP_READ. -/
def execScShpRead (src : Src) (d : Fin 8) (index : Fin 1024) (s : State) : Outcome :=
  onWrite src d s fun s => s.shpOp d 0 index (s.rd F.SC_SHP_CMD_tok_reset (dieL d))

/-- SC_SHP_WRITE. -/
def execScShpWrite (src : Src) (d : Fin 8) (index : Fin 1024) (tokReset : Fin 4) (s : State) : Outcome :=
  onWrite src d s fun s => s.shpOp d 1 index tokReset

/-- SC_SHP_CLEAR. -/
def execScShpClear (src : Src) (d : Fin 8) (index : Fin 1024) (tokReset : Fin 4) (s : State) : Outcome :=
  onWrite src d s fun s => s.shpOp d 2 index tokReset

/-! ## Policers (R309) -/

/-- POLICER_CREDIT_RETURN. -/
def execPolicerCreditReturn (d : Fin 8) (q : Fin 16) (c : Fin 12) (s : State) : Outcome :=
  runOn d s fun s => s.payCredit (portNo d q) c

end Sys2Proof.Machine
end

