-- ==== Sys2Proof/Machine/Dm.lean ====
section
/-! DEFINITION. The commands of the data movers and their queues (chapter 11). -/

namespace Sys2Proof.Machine

/-- A write to a queue at its registers, or in a doorbell page; function 1 of an upstream port reaches the pages of its own VCS alone
(R350). -/
def onQueue (src : Src) (d : Nat) (to_ : QTo) (db : Bool) (s : State) (f : Nat → State → State) : Outcome :=
  match to_ with
  | .reg q => onWrite src d s fun s => f q (s.wake d 19)
  | .page i j =>
    if (tenantOf src).isNone || s.pageFor src d i then anyWrite src d s fun s => (s.wake d 19).onPage src d i j db f else .next s

/-- DM_DOORBELL (R328). -/
def execDmDoorbell (src : Src) (d : Fin 8) (q : QTo) (s : State) : Outcome :=
  onQueue src d q true s fun q s => s.doorbell d q

/-- A response to a request of the uses that `p` holds of. -/
def State.responseFor (s : State) (d tag : Nat) (p : DmUse → Bool) (f : State → State) : State :=
  match s.dmReq d tag with
  | none => s
  | some r => if p r.use then f s else s

/-- A use is a descriptor read. -/
def DmUse.isDesc : DmUse → Bool
  | .desc _ _ => true
  | _ => false

/-- A use is a line request of work, or a write of a retirement. -/
def DmUse.isLine : DmUse → Bool
  | .desc _ _ | .link | .migrate _ => false
  | _ => true

/-- SCAN_READ_RETURN (R329). -/
def execScanReadReturn (d : Fin 8) (tag : Fin 65536) (line : Nat) (poison : Bool) (s : State) : Outcome :=
  runOn d s fun s => s.responseFor d tag DmUse.isDesc fun s => s.dmResponse d tag (line % 2 ^ 512) poison

/-- ENGINE_ARBITRATION (R343). -/
def execEngineArbitration (d e : Fin 8) (s : State) : Outcome := runOn d s fun s => s.engineTurn d e

/-- DM_LINE_RESPONSE (R318). -/
def execDmLineResponse (d : Fin 8) (tag : Fin 65536) (line : Nat) (poison : Bool) (s : State) : Outcome :=
  runOn d s fun s => s.responseFor d tag DmUse.isLine fun s => s.dmResponse d tag (line % 2 ^ 512) poison

/-- DESCRIPTOR_RETIRE (R333). -/
def execDescriptorRetire (d : Fin 8) (q : Fin 2048) (s : State) : Outcome := runOn d s fun s => s.retire d q

/-- The overlay unit's answer reaches a migrate descriptor (R320). -/
def State.migrateReply (s : State) (d tag : Nat) (a : MigAnswer) : State :=
  match s.dmReq d tag with
  | none => s
  | some r0 =>
    match r0.use with
    | .migrate idx =>
      match s.dmTake d tag with
      | (none, s) => s
      | (some r, s) => s.updHeld d r.q idx fun h =>
        let h := { h with migrating := false }
        match a with
        | .done => h
        | .aborted => { h with status := 4 }
        | .refused c => { h with status := 3, result := c }
    | _ => s

/-- MIGRATE_REPLY. -/
def execMigrateReply (d : Fin 8) (tag : Fin 65536) (answer : MigAnswer) (s : State) : Outcome :=
  runOn d s fun s => s.migrateReply d tag answer

/-- LINK_REREAD_RETURN (R331). -/
def execLinkRereadReturn (d : Fin 8) (tag : Fin 65536) (line : Nat) (poison : Bool) (s : State) : Outcome :=
  runOn d s fun s => s.linkReturn d tag (line % 2 ^ 512) poison

/-! ## Register writes of a queue (Table 11.5) -/

/-- DM_Q_ENABLE. -/
def execDmQEnable (src : Src) (d : Fin 8) (q : Fin 2048) (s : State) : Outcome := onWrite src d s fun s => (s.wake d 19).queueEnable d q

/-- DM_Q_DISABLE. -/
def execDmQDisable (src : Src) (d : Fin 8) (q : Fin 2048) (s : State) : Outcome := onWrite src d s fun s => (s.wake d 19).queueDisable d q

/-- DM_Q_PAUSE. -/
def execDmQPause (src : Src) (d : Fin 8) (q : QTo) (s : State) : Outcome :=
  onQueue src d q false s fun q s => s.queuePause d q

/-- DM_Q_UNPAUSE. -/
def execDmQUnpause (src : Src) (d : Fin 8) (q : QTo) (s : State) : Outcome :=
  onQueue src d q false s fun q s => s.queueUnpause d q

/-- DM_Q_RESUME. -/
def execDmQResume (src : Src) (d : Fin 8) (q : QTo) (s : State) : Outcome :=
  onQueue src d q false s fun q s => s.queueResume d q

/-- DM_Q_INVALIDATE. -/
def execDmQInvalidate (src : Src) (d : Fin 8) (q : QTo) (s : State) : Outcome :=
  onQueue src d q false s fun q s => s.queueInvalidate d q

/-- CQ_HEAD_WRITE (R337). -/
def execCqHeadWrite (src : Src) (d : Fin 8) (q : QTo) (v : BitVec 32) (s : State) : Outcome :=
  onQueue src d q false s fun q s => s.cqHead d q v.toNat

end Sys2Proof.Machine
end

