-- ==== Sys2Proof/Machine/Pantry.lean ====
section
/-! DEFINITION. The commands of the Pantry (chapter 12): ops 0 to 10 of PN_CMD, on the die channel (0) or the admin window of quad
chan − 1, and the ends of a Freeze and of a Reset or Remove. -/

namespace Sys2Proof.Machine

/-- A write of go with its op and fields. A window exists for a VCS with pantry_fn; function 1 of an upstream port reaches that of its own VCS
alone (R350, R352). -/
def onPn (src : Src) (d chan : Nat) (s : State) (f : State → State) : Outcome :=
  if ownChan src d chan then
    anyWrite src d s fun s =>
      let s := s.wake d 19
      if chan == 0 || s.pantryFn.contains (portNo d (chan - 1)) then f s else s
  else .next s

/-- PN_READ_ENTRY. -/
def execPnReadEntry (src : Src) (d : Fin 8) (chan : Fin 17) (i : Fin 512) (s : State) : Outcome :=
  onPn src d chan s fun s => s.pnDo d chan (s.pnOld d chan 0 i)

/-- PN_CREATE. -/
def execPnCreate (src : Src) (d : Fin 8) (chan : Fin 17) (i : Fin 512) (s : State) : Outcome :=
  onPn src d chan s fun s => s.pnDo d chan (s.pnOld d chan 1 i)

/-- PN_REMOVE. -/
def execPnRemove (src : Src) (d : Fin 8) (chan : Fin 17) (i : Fin 512) (s : State) : Outcome :=
  onPn src d chan s fun s => s.pnDo d chan (s.pnOld d chan 2 i)

/-- PN_RESET: op 3. -/
def execPnReset (src : Src) (d : Fin 8) (chan : Fin 17) (i : Fin 512) (s : State) : Outcome :=
  onPn src d chan s fun s => s.pnDo d chan (s.pnOld d chan 3 i)

/-- PN_SET_QUEUE: op 4. -/
def execPnSetQueue (src : Src) (d : Fin 8) (chan : Fin 17) (i : Fin 512) (j : Fin 16) (s : State) : Outcome :=
  onPn src d chan s fun s => s.pnDo d chan { s.pnOld d chan 4 i with obj := j }

/-- PN_SET_SHAPER: op 5. -/
def execPnSetShaper (src : Src) (d : Fin 8) (chan : Fin 17) (i : Fin 512) (j : Fin 16) (tokReset : Fin 4) (s : State) : Outcome :=
  onPn src d chan s fun s => s.pnDo d chan ⟨5, i, j, tokReset⟩

/-- PN_SET_COUNTER: op 6. -/
def execPnSetCounter (src : Src) (d : Fin 8) (chan : Fin 17) (i : Fin 512) (k : Fin 16) (s : State) : Outcome :=
  onPn src d chan s fun s => s.pnDo d chan { s.pnOld d chan 6 i with obj := k }

/-- PN_FREEZE: op 7. -/
def execPnFreeze (src : Src) (d : Fin 8) (chan : Fin 17) (i : Fin 512) (s : State) : Outcome :=
  onPn src d chan s fun s => s.pnDo d chan (s.pnOld d chan 7 i)

/-- FREEZE_COMPLETE. -/
def execFreezeComplete (d : Fin 8) (i : Fin 512) (s : State) : Outcome :=
  runOn d s fun s => if (s.inst d i).state = 3 ∧ s.instQuiet d i then s.frozen d i else s

/-- FREEZE_TMO_EXPIRY. -/
def execFreezeTmoExpiry (d : Fin 8) (i : Fin 512) (s : State) : Outcome :=
  runOn d s fun s => if (s.inst d i).state = 3 then s.freezeFail d i else s

/-- PN_SAVE: op 8. -/
def execPnSave (src : Src) (d : Fin 8) (chan : Fin 17) (i : Fin 512) (s : State) : Outcome :=
  onPn src d chan s fun s => s.pnDo d chan (s.pnOld d chan 8 i)

/-- PN_RESTORE: op 9. -/
def execPnRestore (src : Src) (d : Fin 8) (chan : Fin 17) (i : Fin 512) (s : State) : Outcome :=
  onPn src d chan s fun s => s.pnDo d chan (s.pnOld d chan 9 i)

/-- PN_THAW: op 10. -/
def execPnThaw (src : Src) (d : Fin 8) (chan : Fin 17) (i : Fin 512) (s : State) : Outcome :=
  onPn src d chan s fun s => s.pnDo d chan (s.pnOld d chan 10 i)

/-- STALE_OUT_ZERO. -/
def execStaleOutZero (d : Fin 8) (i : Fin 512) (s : State) : Outcome :=
  runOn d s fun s => if (s.inst d i).stale = 0 then s.staleZero d i else s

end Sys2Proof.Machine
end

