-- ==== Sys2Proof/Machine/Ras.lean ====
section
/-! DEFINITION. The RAS unit's commands: fences, viral, the patrol scrub, and the watchdog of the Warden pair with the Warden
restart of Table 13.7 (chapter 13). -/

namespace Sys2Proof.Machine

/-- A Physical Port Control Reset completes once PERST# has been released (R408). -/
def State.perstDone (s : State) (p : Nat) : State :=
  match (s.slotSt p).resetFor with
  | none => s
  | some c =>
    if s.flag F.SP_STATUS_perst (portL p) ∨ s.flag F.SP_CTRL_perst_hold (portL p) then s
    else
      let s := s.updSlot p fun x => { x with resetFor := none }
      match (s.chan 0 c).running with
      | none => s
      | some cmd => if cmd.opcode = 0x5102 then s.respond 0 c .success .none else s

/-- A fence ends, with what waited for PERST# (R374, R408). -/
def State.unfenceSlot (s : State) (p : Nat) : State := (s.unfence p).perstDone p

/-! ## Fences (R373, R374) -/

/-- A write of go to RS_FENCE_CMD: 0 fence with reason 4, 1 unfence. A quad that is not the first of a port is refused, and so is
an unfence of a fenced port whose domains are Off. -/
def State.fenceOp (s : State) (d op q : Nat) : State :=
  let l := dieL d
  let p := portNo d q
  let s := (s.wr F.RS_FENCE_CMD_op l op).wr F.RS_FENCE_CMD_quad l q
  let refuse (s : State) : State := s.ev F.RS_EVENT_fence_refused l p
  if s.role p = 3 then refuse s
  else match op with
    | 0 => s.fence p 4
    | 1 =>
      if s.pstate p ≠ 5 then s
      else if !s.domUsable d (q / 4) || !s.domUsable d (4 + q / 4) then refuse s
      else s.unfenceSlot p
    | _ => s

/-- FENCE_CMD. -/
def execFenceCmd (src : Src) (d : Fin 8) (q : Fin 16) (s : State) : Outcome := onWrite src d s fun s => s.fenceOp d 0 q

/-- UNFENCE_CMD. -/
def execUnfenceCmd (src : Src) (d : Fin 8) (q : Fin 16) (s : State) : Outcome := onWrite src d s fun s => s.fenceOp d 1 q

/-- A viral indication from a port's partner (R375, Table 13.14). -/
def State.viralFrom (s : State) (p : Nat) : State :=
  if s.role p = 0 then s.log (portDie p) 1 24 4 p 0
  else if s.isSlot p then
    let hosts := ((s.boundTo p).map fun di => (s.vppb di.1 di.2).vcs).dedup
    (s.fence p 3).forEach hosts fun s v => s.emit (.viral v)
  else s

/-- VIRAL_INDICATION. -/
def execViralIndication (d : Fin 8) (q : Fin 16) (s : State) : Outcome :=
  runOn d s fun s => if s.portUp (portNo d q) then s.viralFrom (portNo d q) else s

/-! ## The patrol scrub (R376, R377) -/

/-- A single-bit error that the scrub finds, in the Larder or not. -/
def State.scrubSingle (s : State) (d a : Nat) (larder : Bool) : State :=
  (if larder then s.inc F.XB_CNT_ECC_corrected (dieL d) else s).sramFixed d a

/-- Words whose scrub_period since their rewrite has passed without another error: transient ones, each with a record of class 1 (R369; log entry
78). -/
def State.scrubJudge (s : State) (d : Nat) : State :=
  let now := s.now d
  let p := s.scrubPeriod d
  s.forEach (List.filter (fun e : Nat × Nat => e.1.unpair.1 == d && decide (e.2 + p < now)) s.rewritten) fun s e =>
    { s with rewritten := Tbl.del s.rewritten e.1 }.log d 15 F.RS_EVENT_sram_lasting.lo 1 0 e.1.unpair.2

/-- A flit of a replay buffer is lost: its messages go with it, and their requests complete as the "other" rows (R377). -/
def State.replayLost (s : State) (d t seq : Nat) : State :=
  let gone := (((s.site d t).replay.filter fun f => f.seq == seq).map fun f => f.starts ++ f.ends).flatten.dedup
  let s := s.updSite d t fun x =>
    { x with replay := x.replay.map fun f =>
        { f with starts := f.starts.filter fun m => !gone.contains m, ends := f.ends.filter fun m => !gone.contains m,
                 slots := if f.seq = seq then f.slots.map (fun _ => 0) else f.slots } }
  s.forEach gone fun s m => if takesTrk m.tc m.kind ∧ !m.ovTag ∧ (s.trk m.trkDie m.trk).isSome then s.push (.other d m.trkDie m.trk) else s

/-- A shaper entry is not valid (R377): it shapes nothing, and one that the host had enabled is free again. -/
def State.shaperLost (s : State) (d i : Nat) : State :=
  let x := s.shp d i
  let s := if x.en ∧ !x.owned then s.inc F.PN_FREE_shapers_free (dieL d) else s
  let s := (s.putShp d i { x with w0 := 0, wheel := none }).showShps d
  if x.en then s.spoil d (.shaper i x.target) else s

/-- An overlay entry is not valid (R377). A migration of its page aborts. -/
def State.overlayLost (s : State) (d i : Nat) : State :=
  match Tbl.get (s.ovd d).entries i with
  | none => s
  | some e =>
    let s := match e.copying with
      | some (_, sl) => s.migAbort d sl
      | none => s
    ((s.updOv d fun o => { o with entries := Tbl.del o.entries i }).showOv d).spoil d (.overlay i e.quad e.ld e.page)

/-- A shared-region entry is not valid (R377). -/
def State.regionLost (s : State) (d i : Nat) : State :=
  match Tbl.get (s.cad d).regions i with
  | none => s
  | some r => (s.updCa d fun c => { c with regions := Tbl.del c.regions i }).spoil d (.region i r)

/-- A mirror entry is not valid (R377): its repairs and its resilver end. -/
def State.mirrorLost (s : State) (d i : Nat) : State :=
  let s := match (s.mrd d).resilver with
    | some r => if r.grp = i then s.endResilver d else s
    | none => s
  ((s.dropRepairs d i).putMir d i {}).spoil d (.mirror i)

/-- What a double-bit error does to what the word holds (R377, R260): an entry is not valid until it is written again. -/
def State.sramLost (s : State) (d : Nat) (what : SramHolds) : State :=
  match what with
  | .decoder i => (s.putDec d i {}).spoil d (.decoder i (s.dec d i))
  | .vppb i => s.updVppb d i fun b => { b with state := 0 }
  | .group i => s.putGrp d i []
  | .mirror i => s.mirrorLost d i
  | .overlay i => s.overlayLost d i
  | .region i => s.regionLost d i
  | .pid i => { s with pids := Tbl.del s.pids (key2 d i) }
  | .shaper i => s.shaperLost d i
  | .tracker t intact => if intact then s.push (.other d d t) else { s with trks := Tbl.del s.trks (trkKey d t) }
  | .replay t seq => s.replayLost d t seq
  | .queue q => if s.qst d q = 0 then s else (s.haltWith d q 0x22).settleQueue d q
  | .loft i => s.loftError d i true
  | .other => s

/-- A double-bit error found by the scrub. One in the Loft is logged by its own rule (R260). -/
def State.scrubDouble (s : State) (d a : Nat) (what : SramHolds) : State :=
  match what with
  | .loft i => s.loftError d i true
  | w => (s.sramLost d w).sramBad d |>.evD F.RS_EVENT_sram_uncorrected (dieL d) 0 4 a

/-- SCRUB_STEP. -/
def execScrubStep (d : Fin 8) (hit : ScrubHit) (s : State) : Outcome :=
  runOn d s fun s =>
    if !s.flag F.RS_SCRUB_scrub_en (dieL d) then s
    else
      let s := s.scrubJudge d
      match hit with
      | .clean => s
      | .single a larder => s.scrubSingle d a larder
      | .double a what => s.scrubDouble d a what

/-! ## The Warden restart (Table 13.7) -/

/-- A transaction in progress ends for nobody once its requester is gone. -/
def XTx.orphan (x : XTx) : XTx :=
  match x.who with
  | .inbound => x
  | _ => { x with who := .core }

/-- Pending Warden-side requests are dropped; data held is discarded and counted (Table 15.4). -/
def State.dropWardenSide (s : State) (d : Nat) : State :=
  let s := s.forEach (upTo 8) fun s k =>
    let s := if s.flag F.MB_DR_CMD_s_done (idxL d 0 k) then s.inc F.MB_HATCH_CNT0_dr_discard (dieL d) else s
    s.drFree d k
  s.updHatch d fun h =>
    { h with backs := [], ahead := none,
             want := [], bus := h.bus.map fun b => (b.1, (b.2.take 1).map XTx.orphan ++ (b.2.drop 1).filter fun x => x.who == .inbound) }

/-- Core cycles in 60 s (R386). -/
def minuteCycles : Nat := 60000000 * usCycles

/-- P1 is asked On where it is Off (R63, Table 13.7 t2). -/
def State.p1On (s : State) : State :=
  let s := s.on F.PD_PKG_CTRL_p1_on pkgL
  if s.domAt 0 23 = 0 then s.setDom 0 23 1 else s

/-- t0 to t2 of a Warden restart (Table 13.7): accepted commands end with Aborted, a restart record is written; a third counted
restart within 60 s holds the pair (R386). A restart by CK_RST_CMD op 1 is not counted and clears held and the count (R528). -/
def State.restartWarden (s : State) (d : Nat) (counted : Bool) : State :=
  let l := dieL d
  let now := s.now d
  let times := (s.warden d).restarts.filter fun t => decide (now < t + minuteCycles)
  let third : Bool := counted && decide (2 ≤ times.length)
  let s := if third then s else s.p1On
  let s := s.updWarden d fun w => { w with restarts := if counted then times ++ [now] else [] }
  let s := if counted then s.inc F.RS_WDOG_STATUS_restarts l
    else (s.off F.RS_WDOG_STATUS_restarts l).off F.RS_WDOG_STATUS_held l
  let s := (s.off F.MB_STATUS_running l).wrB F.RS_WDOG_STATUS_restarting l (!third)
  let s := (s.abortCmds d).dropWardenSide d
  let s := s.evD F.RS_EVENT_wdog_restart l 0 (if third then 4 else 0) (s.rd F.RS_WDOG_STATUS_restarts l)
  if third then (s.on F.RS_WDOG_STATUS_held l).evC F.RS_EVENT_wdog_held l 0 4 else s

/-- The pair is held in reset (R386). -/
def State.holdWarden (s : State) (d : Nat) : State :=
  let l := dieL d
  ((s.off F.RS_WDOG_STATUS_restarting l).on F.RS_WDOG_STATUS_held l).evC F.RS_EVENT_wdog_held l 0 4

/-- The pair is released (Table 13.7 t3, Table 20.3 t7 and t8): it runs, its watchdog interval starts, and outcomes of background
commands that ended meanwhile are reported (R383). -/
def State.releaseWarden (s : State) (d : Nat) : State :=
  let l := dieL d
  let s := ((s.off F.RS_WDOG_STATUS_restarting l).off F.RS_WDOG_STATUS_held l).on F.MB_STATUS_running l
  (s.on (F.CK_BOOT_STATUS_fw_released d) pkgL).bgReportAll d

/-- The watchdog runs (R382). -/
def State.wdogRuns (s : State) (d : Nat) : Bool := s.flag F.RS_WDOG_CTRL_wdog_en (dieL d) && s.running d

/-- A write to RS_WDOG_KICK (R382). -/
def State.wdogKick (s : State) (d v : Nat) : State :=
  if !s.wdogRuns d ∨ v = 0x0000A55A then s
  else (s.ev F.RS_EVENT_kick_err (dieL d) 0).restartWarden d true

/-- WATCHDOG_KICK. -/
def execWatchdogKick (src : Src) (d : Fin 8) (v : BitVec 32) (s : State) : Outcome :=
  onWrite src d s fun s => s.wdogKick d v.toNat

/-- WATCHDOG_EXPIRY. -/
def execWatchdogExpiry (d : Fin 8) (s : State) : Outcome :=
  runOn d s fun s => if s.wdogRuns d then s.restartWarden d true else s

end Sys2Proof.Machine
end

