-- ==== Sys2Proof/Machine/Slots.lean ====
section
/-! DEFINITION. The slot power controllers (chapter 14). States are those of Table 14.2; feed 1 is feed A, feed 0 feed B. -/

namespace Sys2Proof.Machine

/-- An event of the slot controller of a quad, if the quad's slot has one (R390). -/
def onSlot (d q : Nat) (s : State) (f : Nat → State → State) : Outcome :=
  runOn d s fun s => if s.isSlot (portNo d q) then f (portNo d q) s else s

/-- A register write to a slot controller (R390). -/
def onSlotWrite (src : Src) (d q : Nat) (s : State) (f : Nat → State → State) : Outcome :=
  onWrite src d s fun s => if s.isSlot (portNo d q) then f (portNo d q) s else s

/-- The state of a slot controller. -/
def State.slotState (s : State) (p : Nat) : Nat := s.rd F.SP_STATUS_state (portL p)

/-- An SP_ event, with its record of block 12 (R411). -/
def State.spEv (s : State) (f : Fld) (p cls : Nat) : State := s.evC f (portL p) p cls

/-- The port is told a link-down cause (Table 4.7); a port that holds in Down is flushed by it. -/
def State.portTold (s : State) (p cause : Nat) : State :=
  if 2 ≤ s.pstate p ∧ s.pstate p ≤ 4 then s.linkDown p cause []
  else if s.pstate p = 1 ∧ s.holding p then s.flush p else s

/-- Both ORing FETs follow the feeds (R393, R394): on while the state is Ramp, On or Stopping, the feed is good and has not been
turned off by a reverse current. -/
def State.setOring (s : State) (p : Nat) : State :=
  let st := s.slotState p
  s.forEach [0, 1] fun s k =>
    s.wrB (F.SP_STATUS_oring_on k) (portL p)
      (decide (4 ≤ st) && decide (st ≤ 6) && s.flag (F.SP_STATUS_feed_good k) (portL p) && !(s.slotSt p).reversed.contains k)

/-- The controller enters a state, with what follows from the state alone: ORing, Forecast (R405), PGOOD (R407), PERST# (R408). -/
def State.slotTo (s : State) (p st : Nat) : State :=
  let l := portL p
  let s := s.wr F.SP_STATUS_state l st
  let s := if st = 5 then s else (s.on F.SP_STATUS_forecast l).off F.SP_STATUS_pgood l
  let s := if st = 5 ∨ st = 6 then s else s.updSlot p fun x => { x with perstTime := false, lead := false }
  (s.setOring p).setPerst p

/-- Presence is absent (R395). -/
def State.presenceGone (s : State) (p : Nat) : State :=
  (s.off F.SP_STATUS_present (portL p)).updSlot p fun x => { x with confirmed := false }

/-- The pass FET's gate goes off. -/
def State.gateOff (s : State) (p : Nat) : State :=
  (s.updSlot p fun x => { x with gate := false }).off F.SP_STATUS_ilim_active (portL p)

/-- Entry to Ramp (R398): Staged fields take effect; the model starts at t_amb when the slot comes from Present (R404). -/
def State.rampStart (s : State) (p : Nat) (fromPresent : Bool) : State :=
  let s := s.commitReg .SP_RAMP (portL p)
  let amb : Rat := ((s.rd F.SP_FET_LIMIT_t_amb (portL p) : Nat) : Rat)
  (s.updSlot p fun x => { x with gate := false, tMod := if fromPresent then amb else x.tMod }).slotTo p 4

/-- The controller enters Present, and Ramp at once when power is 1 (Table 14.2). -/
def State.slotPresent (s : State) (p : Nat) : State :=
  let s := s.slotTo p 3
  if s.flag F.SP_CTRL_power (portL p) then s.rampStart p true else s

/-- Where a controller goes by presence alone: Debounce while PRSNT# is low, else Empty. -/
def State.slotByRaw (s : State) (p : Nat) : State := s.slotTo p (if s.flag F.SP_STATUS_prsnt_raw (portL p) then 2 else 1)

/-- Any state to Disabled (Table 14.2). -/
def State.slotDisable (s : State) (p : Nat) : State :=
  let st := s.slotState p
  if st = 0 then s
  else
    let s := ((s.gateOff p).presenceGone p).slotTo p 0
    let s := s.updSlot p fun x => { x with damaged := false }
    (if 4 ≤ st ∧ st ≤ 6 then s.portTold p 4 else s).boardGone p

/-- Disabled to Empty when slot_en is 1 and V12_BIAS is valid. -/
def State.slotEnable (s : State) (p : Nat) : State :=
  if s.slotState p = 0 ∧ s.applied ∧ s.flag F.SP_CTRL_slot_en (portL p) ∧ s.pkg.v12ok then s.slotByRaw p else s

/-- A write of slot_en. -/
def State.slotEn (s : State) (p : Nat) (en : Bool) : State :=
  let s := s.wrB F.SP_CTRL_slot_en (portL p) en
  if en then s.slotEnable p else s.slotDisable p

/-- SLOT_EN_WRITE. -/
def execSlotEnWrite (src : Src) (d : Fin 8) (q : Fin 16) (en : Bool) (s : State) : Outcome :=
  onSlotWrite src d q s fun p s => s.slotEn p en

/-! ## Causes of one cycle (R403) -/

/-- The order in which a cause of Table 14.3 is recorded among those of one cycle. -/
def tripRank (cause : Nat) : Nat := [8, 5, 4, 2, 1, 3, 6, 7].idxOf cause

/-- A trip or removal of this same cycle, if there was one. -/
def State.tripNow (s : State) (p : Nat) : Option TripMark :=
  (s.slotSt p).tripped.filter fun y => y.time == s.now (portDie p) && (s.slotState p == 7 || s.slotState p == 8)

/-- The state in which the causes of this cycle found the controller, and whether the gate was on. -/
def State.tripFrom (s : State) (p : Nat) : Nat × Bool :=
  match s.tripNow p with
  | some y => (y.st, y.gate)
  | none => (s.slotState p, (s.slotSt p).gate)

/-- What a cause of this cycle changed is undone, so that one that ranks before it is recorded in its place. -/
def State.untrip (s : State) (p : Nat) (y : TripMark) : State :=
  let l := portL p
  let s := ((s.wr F.SP_STATUS_state l y.st).wr F.SP_COUNT_retries l y.retries).wrB F.SP_CTRL_power l y.power
  let s := (if y.free then s.off F.SP_FAULT_LOG_valid l else s).wrB F.SP_EVENT_locked l y.locked
  s.updSlot p fun x => { x with gate := y.gate, damaged := false, retrying := false, hot := false, tripped := none }

/-- A cause of Table 14.3 is noted before it acts. -/
def State.markTrip (s : State) (p cause : Nat) : State :=
  let l := portL p
  s.updSlot p fun x =>
    { x with tripped := some ⟨s.now (portDie p), cause, s.slotState p, x.gate, s.rd F.SP_COUNT_retries l, s.flag F.SP_CTRL_power l,
                              !s.flag F.SP_FAULT_LOG_valid l, s.flag F.SP_EVENT_locked l⟩ }

/-! ## Presence (R395, R396) -/

/-- The level of PRSNT# is followed in reset and before the Inventory gives the quad its use (R534, R536); a host port ignores
it (R49). -/
def State.prsntPin (s : State) (p : Nat) (low : Bool) : State :=
  if s.isSlot p ∨ s.pkg.inReset ∨ s.rd F.INV_STATUS_state pkgL < 2 then s.wrB F.SP_STATUS_prsnt_raw (portL p) low else s

/-- A change of PRSNT#. -/
def onPrsnt (d q : Nat) (low : Bool) (s : State) (f : Nat → State → State) : Outcome :=
  onSlot d q (if d < s.part.dies then s.prsntPin (portNo d q) low else s) f

/-- PRSNT_FALL: the filtered PRSNT# goes low. -/
def execPrsntFall (d : Fin 8) (q : Fin 16) (s : State) : Outcome :=
  onPrsnt d q true s fun p s => if s.slotState p = 1 then s.slotTo p 2 else s

/-- Presence is confirmed (R395): a new insertion, which ends a fence (R374). -/
def State.inserted (s : State) (p : Nat) : State :=
  let l := portL p
  let st := s.slotState p
  if (s.slotSt p).confirmed ∨ !s.flag F.SP_STATUS_prsnt_raw l ∨ !(st == 2 || st == 7 || st == 8) then s
  else
    let s := (s.updSlot p fun x => { x with confirmed := true }).on F.SP_STATUS_present l
    let s := s.wr F.SP_COUNT_insert_gen l (s.rd F.SP_COUNT_insert_gen l + 1)
    let s := (s.wr F.SP_CTRL_power l (s.rd F.SP_CTRL_auto_on l)).off F.SP_COUNT_retries l
    let s := (s.spEv F.SP_EVENT_inserted p 0).unfenceSlot p
    if st = 2 ∨ (st = 8 ∧ !(s.slotSt p).damaged) then s.slotPresent p else s

/-- PRESENCE_CONFIRMED. -/
def execPresenceConfirmed (d : Fin 8) (q : Fin 16) (s : State) : Outcome := onSlot d q s fun p s => s.inserted p

/-- Write SP_FAULT_LOG when it is free (R396, R402). -/
def State.faultLog (s : State) (p cause st : Nat) : State :=
  let l := portL p
  if s.flag F.SP_FAULT_LOG_valid l then s
  else (((s.on F.SP_FAULT_LOG_valid l).wr F.SP_FAULT_LOG_cause l cause).wr F.SP_FAULT_LOG_state l st).wr F.SP_FAULT_LOG_sense l
    (min (s.slotSt p).sense 65535)

/-- The filtered PRSNT# goes high (Table 14.2): a removal from Ramp, On or Stopping. -/
def State.removed (s : State) (p : Nat) : State :=
  let st := (s.tripFrom p).1
  let s := s.presenceGone p
  if 4 ≤ st ∧ st ≤ 6 then
    let s := match s.tripNow p with
      | some y => s.untrip p y
      | none => s
    let s := s.markTrip p 8
    let s := ((s.gateOff p).updSlot p fun x => { x with retrying := true, hot := false }).slotTo p 7
    let s := (s.off F.SP_CTRL_power (portL p)).spEv F.SP_EVENT_removed p 0
    ((s.faultLog p 8 st).portTold p 4).boardGone p
  else if st = 2 ∨ st = 3 then (s.slotTo p 1).boardGone p else s.boardGone p

/-- PRSNT_RISE. -/
def execPrsntRise (d : Fin 8) (q : Fin 16) (s : State) : Outcome := onPrsnt d q false s fun p s => s.removed p

/-! ## Power and the ramp (R397, R398, R409) -/

/-- The Forecast event (R406): copies on the port fail with cause 1. -/
def State.forecastNow (s : State) (p : Nat) : State :=
  if s.flag F.SP_STATUS_forecast (portL p) then s
  else ((s.on F.SP_STATUS_forecast (portL p)).spEv F.SP_EVENT_forecast p 0).push (.copyFail (portDie p) p none 1)

/-- A managed power-off (Table 14.5): class M warns and keeps PERST# for fc_lead; class A drops PGOOD and PERST# at once. -/
def State.managedOff (s : State) (p : Nat) : State :=
  if s.role p = 1 then
    let s := s.forecastNow p
    (s.updSlot p fun x => { x with lead := x.perstTime && !s.flag F.SP_STATUS_perst (portL p) }).slotTo p 6
  else ((s.updSlot p fun x => { x with lead := false }).slotTo p 6).portTold p 4

/-- A write of power (Table 14.2). -/
def State.slotPower (s : State) (p : Nat) (on : Bool) : State :=
  let s := s.wrB F.SP_CTRL_power (portL p) on
  match s.slotState p with
  | 3 => if on then s.rampStart p true else s
  | 4 => if on then s else (s.gateOff p).slotTo p 3
  | 5 => if on then s else s.managedOff p
  | _ => s

/-- SLOT_POWER_WRITE. -/
def execSlotPowerWrite (src : Src) (d : Fin 8) (q : Fin 16) (on : Bool) (s : State) : Outcome :=
  onSlotWrite src d q s fun p s => s.slotPower p on

/-- The event bits of a trip (R402, R411). A trip by R401 after both feeds are lost is also logged with class 4 (Table 13.5). -/
def State.tripEvents (s : State) (p cause : Nat) : State :=
  let l := portL p
  let s := s.spEv F.SP_EVENT_trip p 2
  let s := if cause = 7 ∧ !s.flag (F.SP_STATUS_feed_good 0) l ∧ !s.flag (F.SP_STATUS_feed_good 1) l then
      s.spEv F.SP_EVENT_trip p 4 else s
  if cause = 4 ∨ cause = 5 then s.spEv F.SP_EVENT_fet_damaged p 2 else s

/-- What a trip does (R402); `counted` that it is no second cause of one trip. -/
def State.tripBy (s : State) (p cause : Nat) (counted : Bool) : State :=
  let l := portL p
  let s := ((s.markTrip p cause).tripEvents p cause).faultLog p cause (s.slotState p)
  let s := (if counted then (s.inc F.SP_COUNT_trips l).pm (portDie p) 0xC000 (portQuad p) 1 else s).gateOff p
  let lock (s : State) : State := ((s.off F.SP_CTRL_power l).spEv F.SP_EVENT_locked p 3).slotTo p 8
  let s :=
    if cause = 4 ∨ cause = 5 then lock (s.updSlot p fun x => { x with damaged := true })
    else
      let n := s.rd F.SP_COUNT_retries l + 1
      let s := s.wr F.SP_COUNT_retries l (min n 15)
      if n ≤ s.rd F.SP_CTRL_retry_max l then
        (s.updSlot p fun x => { x with retrying := true, hot := cause == 3 }).slotTo p 7
      else lock (s.updSlot p fun x => { x with damaged := false })
  s.portTold p 4

/-- A trip from Ramp or On (R402). Among the causes of one cycle the first in the order of R403 is recorded, and every one sets its
event bit. -/
def State.trip (s : State) (p cause : Nat) : State :=
  let st := (s.tripFrom p).1
  if !(st == 4 || st == 5) then s
  else match s.tripNow p with
    | none => s.tripBy p cause true
    | some y => if tripRank cause < tripRank y.cause then (s.untrip p y).tripBy p cause false else s.tripEvents p cause

/-- RAMP_SHORT_CHECK: 1 ms into Ramp. -/
def execRampShortCheck (d : Fin 8) (q : Fin 16) (vout : Nat) (s : State) : Outcome :=
  onSlot d q s fun p s =>
    if s.tripFrom p ≠ (4, false) then s
    else if 2000 < vout then s.trip p 5
    else if s.slotState p = 4 then s.updSlot p fun x => { x with gate := true } else s

/-- GATE_CHECK: at gate_ms. -/
def execGateCheck (d : Fin 8) (q : Fin 16) (gate : Nat) (s : State) : Outcome :=
  onSlot d q s fun p s => if s.tripFrom p = (4, true) ∧ gate < 2000 then s.trip p 4 else s

/-- The ramp completes (R398 step 4): On. Forecast clears when the higher feed has been high for 10 ms (R405). -/
def State.rampDone (s : State) (p gate vout : Nat) (feedsHigh : Bool) : State :=
  let l := portL p
  if s.slotState p ≠ 4 ∨ !(s.slotSt p).gate ∨ gate < vout + 8000 ∨ vout < s.rd F.SP_THRESH_pg_v l * 100 then s
  else
    let s := ((s.updSlot p fun x => { x with perstTime := false, lead := false }).slotTo p 5).on F.SP_STATUS_pgood l
    let s := if feedsHigh then s.off F.SP_STATUS_forecast l else s
    s.spEv F.SP_EVENT_power_on p 0

/-- RAMP_COMPLETE. -/
def execRampComplete (d : Fin 8) (q : Fin 16) (gate vout : Nat) (feedsHigh : Bool) (s : State) : Outcome :=
  onSlot d q s fun p s => s.rampDone p gate vout feedsHigh

/-- RAMP_TIMEOUT. -/
def execRampTimeout (d : Fin 8) (q : Fin 16) (s : State) : Outcome :=
  onSlot d q s fun p s => if (s.tripFrom p).1 = 4 then s.trip p 6 else s

/-! ## Protection (R399 to R404) -/

/-- FAULT_TIMER_EXPIRY: the fault timer has reached flt_us. -/
def execFaultTimerExpiry (d : Fin 8) (q : Fin 16) (s : State) : Outcome :=
  onSlot d q s fun p s => if s.rd F.SP_TIMERS_flt_us (portL p) * 8 ≤ (s.slotSt p).fault then s.trip p 1 else s

/-- FAST_TRIP: the sense voltage, in 10 µV, exceeds twice the limit. -/
def execFastTrip (d : Fin 8) (q : Fin 16) (sense : Nat) (s : State) : Outcome :=
  onSlot d q s fun p s =>
    if 20 * s.rd F.SP_SHUNT_LIM_ilim (portL p) < sense then (s.updSlot p fun x => { x with sense := sense }).trip p 2 else s

/-- OUTPUT_UNDER_VOLTAGE. -/
def execOutputUnderVoltage (d : Fin 8) (q : Fin 16) (s : State) : Outcome :=
  onSlot d q s fun p s => if (s.tripFrom p).1 = 5 then s.trip p 7 else s

/-- PGOOD_LOST. -/
def execPgoodLost (d : Fin 8) (q : Fin 16) (s : State) : Outcome :=
  onSlot d q s fun p s =>
    if s.slotState p = 5 ∧ s.flag F.SP_STATUS_pgood (portL p) then
      (s.off F.SP_STATUS_pgood (portL p)).spEv F.SP_EVENT_pgood_lost p 0
    else s

/-- A temperature of either kind has reached `t` °C (R404). -/
def State.fetAt (s : State) (p t : Nat) : Bool :=
  let x := s.slotSt p
  decide ((t : Rat) ≤ x.tMod) || match x.tDirect with
    | some k => decide (((t * 16 : Nat) : Int) ≤ k)
    | none => false

/-- Both temperatures are below t_trip − 20 °C (R404). -/
def State.fetCool (s : State) (p : Nat) : Bool :=
  let x := s.slotSt p
  let t : Int := (s.rd F.SP_FET_LIMIT_t_trip (portL p) : Int) - 20
  decide (x.tMod < (t : Rat)) && match x.tDirect with
    | some k => decide (k < t * 16)
    | none => true

/-- Cooldown ends when the retry timer has, and after a cause 3 trip once both temperatures allow it (Table 14.2, R404). -/
def State.cooldownEnd (s : State) (p : Nat) : State :=
  let x := s.slotSt p
  if s.slotState p ≠ 7 ∨ x.retrying ∨ (x.hot ∧ !s.fetCool p) then s
  else
    let s := s.updSlot p fun x => { x with hot := false }
    if x.confirmed then
      (if s.flag F.SP_CTRL_power (portL p) then s.rampStart p false else s.slotTo p 3)
    else s.slotByRaw p

/-- RETRY_TIMER_END. -/
def execRetryTimerEnd (d : Fin 8) (q : Fin 16) (s : State) : Outcome :=
  onSlot d q s fun p s =>
    if s.slotState p = 7 then (s.updSlot p fun x => { x with retrying := false }).cooldownEnd p else s

/-- A write of 1 to unlock (Table 14.2). -/
def State.slotUnlock (s : State) (p : Nat) : State :=
  if s.slotState p ≠ 8 then s
  else
    let s := (s.off F.SP_COUNT_retries (portL p)).off F.SP_CTRL_power (portL p)
    let s := s.updSlot p fun x => { x with damaged := false }
    if (s.slotSt p).confirmed then s.slotTo p 3 else s.slotByRaw p

/-- SLOT_UNLOCK. -/
def execSlotUnlock (src : Src) (d : Fin 8) (q : Fin 16) (s : State) : Outcome :=
  onSlotWrite src d q s fun p s => s.slotUnlock p

/-! ## Feeds (R393, R394) -/

/-- FEED_GOOD. -/
def execFeedGood (d : Fin 8) (q : Fin 16) (feed : Fin 2) (s : State) : Outcome :=
  onSlot d q s fun p s => (s.on (F.SP_STATUS_feed_good feed) (portL p)).setOring p

/-- A feed is not good any more, by its being low or above 13.8 V. -/
def State.feedLost (s : State) (p k : Nat) (high : Bool) : State :=
  let s := if high then s.spEv F.SP_EVENT_feed_ov p 0 else s
  if !s.flag (F.SP_STATUS_feed_good k) (portL p) then s
  else ((s.off (F.SP_STATUS_feed_good k) (portL p)).setOring p).spEv
    (if k = 1 then F.SP_EVENT_feed_a_lost else F.SP_EVENT_feed_b_lost) p 0

/-- FEED_LOST. -/
def execFeedLost (d : Fin 8) (q : Fin 16) (feed : Fin 2) (high : Bool) (s : State) : Outcome :=
  onSlot d q s fun p s => s.feedLost p feed high

/-- The common node exceeds a feed by 10 mV. -/
def State.reverse_ (s : State) (p k : Nat) : State :=
  if !s.flag (F.SP_STATUS_oring_on k) (portL p) then s
  else
    let s := (s.updSlot p fun x => { x with reversed := x.reversed ++ [k] }).setOring p
    s.spEv (if k = 1 then F.SP_EVENT_reverse_a else F.SP_EVENT_reverse_b) p 0

/-- REVERSE_CURRENT. -/
def execReverseCurrent (d : Fin 8) (q : Fin 16) (feed : Fin 2) (s : State) : Outcome :=
  onSlot d q s fun p s => s.reverse_ p feed

/-- ORING_REENABLE. -/
def execOringReenable (d : Fin 8) (q : Fin 16) (feed : Fin 2) (s : State) : Outcome :=
  onSlot d q s fun p s =>
    if s.flag (F.SP_STATUS_feed_good feed) (portL p) then
      (s.updSlot p fun x => { x with reversed := x.reversed.filter (· != feed.val) }).setOring p
    else s

/-! ## Samples and measurements (R392, R399, R404) -/

/-- One step of the thermal model: 1 µs, with rth in 0.01 °C/W and tau in ms. -/
def State.fetModel (s : State) (p : Nat) (g : SlotSample) : Rat :=
  let l := portL p
  let t := (s.slotSt p).tMod
  let amps : Rat := (g.sense : Rat) / ((max 1 (s.rd F.SP_SHUNT_LIM_rsense l) : Nat) : Rat)
  let watts : Rat := (((g.isp : Int) - (g.vout : Int) : Int) : Rat) / 1000 * amps
  let rth : Rat := ((s.rd F.SP_FET_MODEL_rth l : Nat) : Rat) / 100
  let tau : Rat := ((max 1 (s.rd F.SP_FET_MODEL_tau l) : Nat) : Rat) * 1000
  t + (watts * rth + ((s.rd F.SP_FET_LIMIT_t_amb l : Nat) : Rat) - t) / tau

/-- Over-temperature is judged by what the model and the diode read (R404). -/
def State.fetJudge (s : State) (p : Nat) : State :=
  let l := portL p
  let warm := s.fetAt p (s.rd F.SP_FET_LIMIT_t_warn l)
  let s := if warm ∧ !(s.slotSt p).warm then s.spEv F.SP_EVENT_fet_warn p 0 else s
  let s := s.updSlot p fun x => { x with warm := warm }
  let s := if s.fetAt p (s.rd F.SP_FET_LIMIT_t_trip l) then s.trip p 3 else s
  s.cooldownEnd p

/-- A sample of a slot's inputs: the limit and the fault timer (R399; in On every overload counts), and a step of the thermal model. -/
def State.slotSample (s : State) (p : Nat) (g : SlotSample) : State :=
  let l := portL p
  let x := s.slotSt p
  let st := s.slotState p
  let limit : Bool := (st == 4 || st == 5 || st == 6) && x.gate && decide (10 * s.rd F.SP_SHUNT_LIM_ilim l ≤ g.sense)
  let rising : Bool := match (x.vouts.take 64).getLast? with
    | some v => decide (v + 100 ≤ g.vout)
    | none => false
  let fault := if limit && (st == 5 || !rising) then x.fault + 8 else x.fault - 1
  let t := s.fetModel p g
  let m := x.sums
  let sums : SlotSums :=
    { n := m.n + 1, fa := m.fa + g.fa, fb := m.fb + g.fb, vout := m.vout + g.vout, gate := m.gate + g.gate,
      sense := m.sense + g.sense, power := m.power + g.vout * g.sense, temp := m.temp + t }
  let s := s.updSlot p fun x =>
    { x with fault := fault, vouts := (g.vout :: x.vouts).take 64, sense := g.sense, tMod := t, sums := sums }
  ((s.wrB F.SP_STATUS_ilim_active l limit).wr F.SP_STATUS_flt_count l (min (fault / 8) (2 ^ 14 - 1))).fetJudge p

/-- SLOT_SAMPLE. -/
def execSlotSample (d : Fin 8) (q : Fin 16) (got : SlotSample) (s : State) : Outcome :=
  onSlot d q s fun p s => s.slotSample p got

/-- The diode is measured (in 1/16 °C), and over-temperature is judged (R404). -/
def State.fetTemp (s : State) (p : Nat) (got : Int) : State :=
  (s.updSlot p fun x => { x with tDirect := if s.flag F.SP_CTRL_tdiode_en (portL p) then some got else none }).fetJudge p

/-- FET_TEMP_SAMPLE. -/
def execFetTempSample (d : Fin 8) (q : Fin 16) (got : Int) (s : State) : Outcome := onSlot d q s fun p s => s.fetTemp p got

/-- A signed number as a field of 16 bits. -/
def signed16 (v : Int) : Nat := (v % 65536).toNat

/-- The measurement registers take the means of the interval (R392, Table 14.10). -/
def State.slotMeasure (s : State) (p : Nat) : State :=
  let l := portL p
  let x := s.slotSt p
  let m := x.sums
  if m.n = 0 then s
  else
    let rs := max 1 (s.rd F.SP_SHUNT_LIM_rsense l)
    let s := (s.wr F.SP_MEAS_FEED_fa_mv l (m.fa / m.n)).wr F.SP_MEAS_FEED_fb_mv l (m.fb / m.n)
    let s := (s.wr F.SP_MEAS_OUT_vout_mv l (m.vout / m.n)).wr F.SP_MEAS_OUT_gate_mv l (m.gate / m.n)
    let s := (s.wr F.SP_MEAS_I_current l (100 * m.sense / (m.n * rs))).wr F.SP_MEAS_I_power l (m.power / (m.n * rs * 100))
    let s := s.wr F.SP_MEAS_T_t_model l (signed16 (16 * m.temp / (m.n : Rat)).floor)
    let s := s.wr F.SP_MEAS_T_t_direct l (match x.tDirect with
      | some t => if s.flag F.SP_CTRL_tdiode_en l then signed16 t else 0
      | none => 0)
    s.updSlot p fun x => { x with sums := {} }

/-- SLOT_MEASUREMENT_UPDATE. -/
def execSlotMeasurementUpdate (d : Fin 8) (q : Fin 16) (s : State) : Outcome := onSlot d q s fun p s => s.slotMeasure p

/-! ## Forecast and PERST# (R405 to R409) -/

/-- FORECAST_ASSERT. -/
def execForecastAssert (d : Fin 8) (q : Fin 16) (s : State) : Outcome :=
  onSlot d q s fun p s => if s.slotState p = 5 then s.forecastNow p else s

/-- FORECAST_CLEAR. -/
def execForecastClear (d : Fin 8) (q : Fin 16) (s : State) : Outcome :=
  onSlot d q s fun p s => if s.slotState p = 5 then s.off F.SP_STATUS_forecast (portL p) else s

/-- A write of perst_hold (R408, Table 14.7). -/
def State.perstHold (s : State) (p : Nat) (hold : Bool) : State :=
  let l := portL p
  let s := s.wrB F.SP_CTRL_perst_hold l hold
  if hold then
    let told := !s.flag F.SP_STATUS_perst l
    let s := (s.updSlot p fun x => { x with lead := false }).setPerst p
    if told then s.portTold p 3 else s
  else (s.setPerst p).perstDone p

/-- PERST_HOLD_WRITE. -/
def execPerstHoldWrite (src : Src) (d : Fin 8) (q : Fin 16) (hold : Bool) (s : State) : Outcome :=
  onSlotWrite src d q s fun p s => s.perstHold p hold

/-- PERST_RELEASE_TIMER: perst_ms has passed since the ramp completed, or since a Reset command began its hold (R408). -/
def execPerstReleaseTimer (d : Fin 8) (q : Fin 16) (s : State) : Outcome :=
  onSlot d q s fun p s =>
    let x := s.slotSt p
    if s.slotState p = 5 ∧ !x.perstTime then ((s.updSlot p fun x => { x with perstTime := true }).setPerst p).perstDone p
    else if x.resetFor.isSome then s.perstHold p false else s

/-- FC_LEAD_EXPIRY. -/
def execFcLeadExpiry (d : Fin 8) (q : Fin 16) (s : State) : Outcome :=
  onSlot d q s fun p s =>
    if s.slotState p = 6 ∧ (s.slotSt p).lead then
      ((s.updSlot p fun x => { x with lead := false }).setPerst p).portTold p 4
    else s

/-- GATE_OFF_DELAY. -/
def execGateOffDelay (d : Fin 8) (q : Fin 16) (s : State) : Outcome :=
  onSlot d q s fun p s => if s.slotState p = 6 ∧ !(s.slotSt p).lead then s.gateOff p else s

/-- STOPPING_END: VOUT is below 1 V, or 1 s has passed. While fc_lead still runs, PERST# goes low and the port is told with it (Table 14.5 t2). -/
def execStoppingEnd (d : Fin 8) (q : Fin 16) (s : State) : Outcome :=
  onSlot d q s fun p s =>
    if s.slotState p = 6 then
      let s := if (s.slotSt p).lead then s.portTold p 4 else s
      ((s.gateOff p).spEv F.SP_EVENT_power_off p 0).slotPresent p
    else s

/-! ## Levels of the 3.3 V pins (R85, R534, R536) -/

/-- What the part does to a pin: drives it, or presents high impedance. -/
inductive PinLevel where
  | high | low | z
  deriving DecidableEq, Repr

/-- The 3.3 V pins of a die are driven: VDDIO33 is there (R85), the package is out of reset and the Inventory has been applied
(R534). -/
def State.pins33 (s : State) (d : Nat) : Bool := s.io33 d && !s.pkg.inReset && s.applied

/-- The level of a quad's PERST# land: of a slot by SP_STATUS.perst (R408), low on an absorbed quad (R390), an input on a host port
(R48). -/
def State.perstLevel (s : State) (d q : Nat) : PinLevel :=
  let p := portNo d q
  if !s.pins33 d then .z
  else match s.role p with
    | 0 => .z
    | 3 => .low
    | _ => if s.flag F.SP_STATUS_perst (portL p) then .low else .high

/-- The level of a quad's SIG land: FORECAST# on class M slots (R405), PGOOD on class A slots (R407), low on host ports and absorbed
quads (Table 2.4, R390). -/
def State.sigLevel (s : State) (d q : Nat) : PinLevel :=
  let p := portNo d q
  if !s.pins33 d then .z
  else match s.role p with
    | 1 => if s.flag F.SP_STATUS_forecast (portL p) then .low else .high
    | 2 => if s.flag F.SP_STATUS_pgood (portL p) then .high else .low
    | _ => .low

/-- PHYSICAL_PORT_CONTROL (R408): 0 asserts PERST#, 1 deasserts it, 2 resets, by the standard's codes. -/
def execPhysicalPortControl (c : Fin 5) (port act : Fin 256) (s : State) : Outcome :=
  onCmd c [0x5102] s fun s _ =>
    let p := port.val
    let bad (s : State) : State := s.respond 0 c .invalidInput .none
    if s.part.dies * 16 ≤ p ∨ !s.isSlot p then bad s
    else match act.val with
      | 0 => (s.perstHold p true).respond 0 c .success .none
      | 1 => (s.perstHold p false).respond 0 c .success .none
      | 2 =>
        if s.slotState p ≠ 5 then bad s
        else (s.perstHold p true).updSlot p fun x => { x with resetFor := some c }
      | _ => bad s

end Sys2Proof.Machine
end

