-- ==== Sys2Proof/Machine/StrongOps.lean ====
section
/-! DEFINITION. Operations of the Strongroom (chapter 17): byte strings, the record ring of the store, measurements, keys, the
checks of critical commands, the signer, tokens and life-cycle transitions. -/

namespace Sys2Proof.Machine

/-! ## Bytes -/

/-- `n` bytes of a number, little-endian. -/
def leBytes (n v : Nat) : List Nat := (upTo n).map fun i => v / 2 ^ (8 * i) % 256

/-- The number that `n` bytes from offset `o` hold, little-endian. -/
def leAt (b : List Nat) (o n : Nat) : Nat := ((upTo n).map fun i => 2 ^ (8 * i) * (b.getD (o + i) 0)).sum

/-- The bytes from `o` on, `n` of them. -/
def slice (b : List Nat) (o n : Nat) : List Nat := (b.drop o).take n

/-- Bytes of a command's or an image's data. -/
def natBytes (b : List (BitVec 8)) : List Nat := b.map BitVec.toNat

/-- `n` zero bytes. -/
def zeros (n : Nat) : List Nat := List.replicate n 0

/-! ## The store (R461) -/

/-- Change what the Strongroom holds. -/
def State.updStrong (s : State) (f : Strong → Strong) : State := { s with strong := f s.strong }

/-- The current state record. -/
def State.curRec (s : State) : StoreRec :=
  match s.strong.cur with
  | some k => Tbl.getD s.strong.ring k {}
  | none => {}

/-- What a record write changes (Table 17.3; entries of Table 17.11). -/
def RecSet.apply (r : StoreRec) : RecSet → StoreRec
  | .boot count => { r with boots := if count then r.boots + 1 else r.boots }
  | .reserve n => { r with reserve := n }
  | .floor c n => { r with floors := r.floors.set c n }
  | .invFloor n => { r with invFloor := max r.invFloor n }
  | .fwFloor n => { r with fwFloor := max r.fwFloor n }
  | .bootSlot k fl => { r with bootSlot := k, invFloor := max r.invFloor fl }
  | .released => { r with released := true }
  | .intent t => { r with intent := some t }
  | .done t =>
    let r := { r with intent := none }
    match t with
    | 1 => { r with reserve := 0 }
    | 2 => { r with floors := List.replicate 5 1 }
    | 4 => { r with released := false, invFloor := 0, floors := List.replicate 5 1 }
    | _ => r

/-- The registers that show the store and the fuses (Tables 17.15, 17.16, 16.12). -/
def State.showStore (s : State) : State :=
  let r := s.curRec
  let g := s.strong
  let s := ((s.wr F.SEC_XMSS_NEXT_next pkgL g.next).wr F.SEC_XMSS_RESERVE_reserve pkgL r.reserve).wr F.SEC_STORE_boot_count pkgL r.boots
  let s := (s.wr F.SEC_STORE_slot pkgL (g.cur.getD 0)).wr F.INV_FLOOR_floor pkgL r.invFloor
  let s := (s.wr F.INV_STATUS_boot_slot pkgL r.bootSlot).wrB F.LC_STATE_intent_valid pkgL r.intent.isSome
  let s := s.wr F.LC_STATE_intent_state pkgL (r.intent.getD 0)
  s.forEach (upTo 4) fun s k =>
    ((s.wrB (F.SEC_KEYS_vendor_present k) pkgL (Tbl.get g.vendorKeys k).isSome).wrB (F.SEC_KEYS_vendor_revoked k) pkgL
      (g.revoked.contains k)).wrB (F.SEC_KEYS_owner_present k) pkgL (Tbl.get g.ownerKeys k).isSome

/-- The registers that the fuses alone give. -/
def State.showFuses (s : State) : State :=
  (s.wr F.LC_STATE_state pkgL s.strong.lc).wr64 F.LC_DEVICE_ID_LO_device_id F.LC_DEVICE_ID_HI_device_id pkgL s.strong.deviceId

/-- A record becomes durable: the next slot of the ring, with the next sequence number (R461). -/
def State.putRec (s : State) (c : RecSet) : State :=
  let r := RecSet.apply s.curRec c
  let r := { r with seq := r.seq + 1, ok := true }
  let k := r.seq % 64
  (s.updStrong fun g => { g with ring := Tbl.put g.ring k r, cur := some k, mute := false }).showStore

/-- The command that runs on a channel waits for the Strongroom. -/
def State.holdCmd (s : State) (c : Nat) : State :=
  s.updChan 0 c fun x => { x with running := x.running.map fun q => { q with waits := true } }

/-- The channel whose command a record write holds. -/
def StoreNext.chan : StoreNext → Option Nat
  | .counter c _ => some c
  | .reply c => some c
  | .enter _ c => c
  | .ended _ c => c
  | _ => none

/-- A record write begins. -/
def State.record (s : State) (c : RecSet) (n : StoreNext) : State :=
  let s := s.updStrong fun g => { g with jobs := g.jobs ++ [⟨c, n⟩] }
  match StoreNext.chan n with
  | some k => s.holdCmd k
  | none => s

/-- A reset cuts a record write short: the slot holds an invalid record (R461, R483). -/
def State.tearRec (s : State) : State :=
  match s.strong.jobs with
  | [] => s
  | j :: _ =>
    let r := RecSet.apply s.curRec j.set
    let r := { r with seq := r.seq + 1, ok := false }
    s.updStrong fun g => { g with ring := Tbl.put g.ring (r.seq % 64) r, jobs := [] }

/-- The slot whose record has the highest sequence number, among those that `p` holds of. -/
def newestRec (t : Tbl StoreRec) (p : StoreRec → Bool) : Option Nat :=
  (List.filter (fun e => p e.2) t).foldl (fun b e => match b with
    | none => some e.1
    | some k => if (Tbl.getD t k {}).seq < e.2.seq then some e.1 else b) none

/-- The current record is selected at a reset (R461): the valid one with the highest seq. With none, every floor and boot_count
read 0 and xmss_reserve reads that of the record with the highest seq (Table 17.15). -/
def State.selectRec (s : State) : State :=
  let t := s.strong.ring
  match newestRec t fun r => r.ok with
  | some k => s.updStrong fun g => { g with cur := some k, next := (Tbl.getD t k {}).reserve, mute := false }
  | none =>
    let r := match newestRec t fun _ => true with
      | some k => Tbl.getD t k {}
      | none => {}
    let b : StoreRec := { seq := r.seq, reserve := r.reserve, ok := false }
    s.updStrong fun g => { g with ring := Tbl.put t (r.seq % 64) b, cur := some (r.seq % 64), next := r.reserve, mute := true }

/-! ## Measurements (R466) -/

/-- The 32 bytes of measurement `m`. -/
def State.meas (s : State) (m : Nat) : List Nat :=
  ((upTo 8).map fun w => leBytes 4 (s.rd F.SEC_MEAS_m_w_bytes (idxL 0 0 (m * 8 + w)))).flatten

/-- Extend measurement `m` with data: M := SHAKE256(M || d). -/
def State.extend (s : State) (m : Nat) (d : List Nat) : State :=
  let s := s.wake 0 22
  let v := Config.shake256 (s.meas m ++ d) 256
  s.forEach (upTo 8) fun s w => s.wr F.SEC_MEAS_m_w_bytes (idxL 0 0 (m * 8 + w)) (leAt v (4 * w) 4)

/-- The digest of bytes. -/
def digest (b : List Nat) : List Nat := Config.shake256 b 256

/-- M0 and M3 are set (R465 step 4). -/
def State.firstMeas (s : State) : State :=
  let keys := ((upTo 4).map fun k => Tbl.getD s.strong.ownerKeys k (zeros 68)).flatten
  (s.extend 0 (digest Config.bootRom)).extend 3 ([s.rd F.LC_STATE_state pkgL] ++ digest keys)

/-! ## Keys -/

/-- A key slot's public key, if the slot is neither empty nor revoked (R464). -/
def State.verifyKey (s : State) (owner : Bool) (k : Nat) : Option (List Nat) :=
  if owner then Tbl.get s.strong.ownerKeys k
  else if s.strong.revoked.contains k then none else Tbl.get s.strong.vendorKeys k

/-- The key of channel `c` (R463). -/
def State.channelKey (s : State) (c : Nat) : List Nat :=
  Config.kmac256 s.strong.root (ascii "CMD" ++ [c]) 256 (ascii "SWEISKADE KDF")

/-! ## Critical commands (R471 to R474) -/

/-- The critical opcodes (Table 17.7). -/
def criticalOps : List Nat :=
  [0x5102, 0x5103, 0x5201, 0x5202, 0x5203, 0x5300, 0x5301, 0x5302, 0x5600, 0x5601, 0x5602, 0x5603, 0x5604, 0x5605, 0xC010,
   0xC020, 0xC032, 0xC038]

/-- The tag's input X (R471). -/
def State.tagInput (s : State) (c opcode ctr : Nat) (body : List Nat) : List Nat :=
  leBytes 8 s.strong.deviceId ++ [c, 0, 0, 0] ++ leBytes 2 opcode ++ [0, 0] ++ leBytes 8 ctr ++ leBytes 4 body.length ++ zeros 4
    ++ body

/-- last_c, as held and as shown (R474). -/
def State.setLast (s : State) (c v : Nat) : State :=
  (s.updChan 0 c fun x => { x with last := v }).wr64 F.SEC_CTR_c_LO_last F.SEC_CTR_c_HI_last (idxL 0 0 c) v

/-- Core cycles of one second. -/
def secCycles : Nat := 1000000 * usCycles

/-- A command ends with Invalid Security State. -/
def State.refuseTag (s : State) (c : Nat) : State := s.respond 0 c .security .none

/-- A tag failure (R472, R473): counted; the sixteenth within 1 s locks the channel. -/
def State.tagFail (s : State) (c : Nat) : State :=
  let now := s.now 0
  let ts := ((s.chan 0 c).tagFails.filter fun t => decide (now < t + secCycles)) ++ [now]
  let s := (s.inc F.SEC_CNT_AUTH_tag_fail pkgL).ev F.SEC_EVENT_tag_fail pkgL 0
  let s :=
    if 16 ≤ ts.length then
      (s.updChan 0 c fun x => { x with tagFails := [], locked := true }).ev F.SEC_EVENT_lockout pkgL 0
    else s.updChan 0 c fun x => { x with tagFails := ts }
  s.refuseTag c

/-- A counter failure (R472 check 2). -/
def State.ctrFail (s : State) (c : Nat) : State :=
  ((s.inc F.SEC_CNT_AUTH_ctr_fail pkgL).ev F.SEC_EVENT_ctr_fail pkgL 0).refuseTag c

/-- Both checks have passed (R474): a record first, when the counter has reached the floor. -/
def State.takeCounter (s : State) (c : Nat) (cmd : Cmd) (ctr : Nat) (body : List Nat) : State :=
  let s := s.updChan 0 c fun x => { x with running := some { cmd with payload := body, counter := some ctr } }
  if s.curRec.floors.getD c 0 ≤ ctr then s.record (.floor c (1024 * (ctr / 1024 + 1))) (.counter c ctr) else s.setLast c ctr

/-- The command that has started on channel `c` is checked (R471 to R473). -/
def State.checkCritical (s : State) (c : Nat) : State :=
  match (s.chan 0 c).running with
  | none => s
  | some cmd =>
    if !s.needsSession || !criticalOps.contains cmd.opcode then s
    else if (s.chan 0 c).locked then s.refuseTag c
    else if cmd.payload.length < 40 then s.tagFail c
    else
      let s := s.wake 0 22
      let p := cmd.payload.length - 40
      let body := cmd.payload.take p
      let ctr := leAt cmd.payload p 8
      let tag := Config.kmac256 (s.channelKey c) (s.tagInput c cmd.opcode ctr body) 256 (ascii "SWEISKADE CMD")
      if cmd.payload.drop (p + 8) ≠ tag then s.tagFail c
      else if ctr ≤ (s.chan 0 c).last ∨ 0xFFFFFFFFFFFFFC00 ≤ ctr then s.ctrFail c
      else s.takeCounter c cmd ctr body

/-! ## The signer (R468 to R470) -/

/-- The body of an attestation report (Table 17.6). -/
def State.reportBody (s : State) (nonce : List Nat) : List Nat :=
  leBytes 4 0x5C415454 ++ leBytes 4 (1 * 65536 + 256) ++ leBytes 8 s.strong.deviceId ++ leBytes 4 (s.word .LC_PART_ID pkgL)
    ++ leBytes 4 (s.rd F.LC_STATE_state pkgL + 8 * s.rd F.LC_STATE_debug_unlocked pkgL) ++ leBytes 4 (s.rd F.INV_VERSION_version pkgL)
    ++ leBytes 4 s.inv.fwVersion ++ leBytes 8 (s.now 0) ++ leBytes 4 s.strong.next ++ zeros 4 ++ nonce
    ++ s.meas 0 ++ s.meas 1 ++ s.meas 2 ++ s.meas 3 ++ zeros 48

/-- The device key is used up: a request to sign is refused. -/
def State.exhausted (s : State) (c : Nat) : State :=
  ((s.on F.SEC_STATUS_xmss_exhausted pkgL).ev F.SEC_EVENT_xmss_exhausted pkgL 0).respond 0 c .unsupported .none

/-- A report is signed with the next index. -/
def State.signReport (s : State) (c : Nat) (nonce : List Nat) : State :=
  let body := s.reportBody nonce
  let sig := Config.xmssSign s.strong.secret s.strong.next body
  let s := (s.updStrong fun g => { g with next := g.next + 1 }).showStore
  s.respond 0 c .success (.bytes (body ++ sig ++ zeros 12))

/-- The first request of the signer: done (true), or waiting for a record (false). -/
def State.signOne (s : State) (q : XReq) : Bool × State :=
  let next := s.strong.next
  let res := s.curRec.reserve
  match q with
  | .sign c n =>
    if s.strong.mute then (true, s.respond 0 c .unsupported .none)
    else if next = 1048576 then (true, s.exhausted c)
    else if next = res then (false, s.record (.reserve (res + 1024)) .xmss)
    else (true, s.signReport c n)
  | .release c => if next < res then (false, s.record (.reserve next) .xmss) else (true, s.respond 0 c .success .none)

/-- The signer serves its requests in order until one waits. -/
def State.signAll : Nat → State → State
  | 0, s => s
  | n + 1, s =>
    match s.strong.signer with
    | [] => s
    | q :: r =>
      match s.signOne q with
      | (true, t) => State.signAll n (t.updStrong fun g => { g with signer := r })
      | (false, t) => t

/-- The signer goes on. -/
def State.signGo (s : State) : State := State.signAll s.strong.signer.length s

/-- The channel of a request of the signer. -/
def XReq.chan : XReq → Nat
  | .sign c _ => c
  | .release c => c

/-- A request reaches the signer. -/
def State.signAsk (s : State) (q : XReq) : State :=
  let s := s.wake 0 22
  let idle := s.strong.signer.isEmpty
  let s := (s.holdCmd (XReq.chan q)).updStrong fun g => { g with signer := g.signer ++ [q] }
  if idle then s.signGo else s

/-! ## Life-cycle transitions (R480, R481) -/

/-- A transition begins: step 1. -/
def State.transition (s : State) (t : Nat) (c : Option Nat) : State := s.record (.intent t) (.enter t c)

/-- Steps 2 and 3: the erasures of Table 17.11, then the fuse bits up to the target. -/
def State.enterState (s : State) (t : Nat) : State :=
  let s := s.updStrong fun g => match t with
    | 1 => { g with devicePub := Config.xmssPublic g.secret, nodeCache := Config.xmssNodes g.secret }
    | 4 => { g with root := [], ownerKeys := [] }
    | 5 => { g with killed := true, secret := [], devicePub := [], nodeCache := [], cert := [], ownerKeys := [], root := [] }
    | _ => g
  (s.updStrong fun g => { g with lc := max g.lc t }).wr F.LC_STATE_state pkgL (max s.strong.lc t)

/-- Step 2 and 3 done, step 4 begins. -/
def State.transitionGo (s : State) (t : Nat) (c : Option Nat) : State := (s.enterState t).record (.done t) (.ended t c)

/-- Step 5: the command completes, and the package resets 10 ms later. At entry to Owned every last_c becomes 0 (R474). -/
def State.transitionEnd (s : State) (t : Nat) (c : Option Nat) : State :=
  let s := if t = 2 then s.forEach (upTo 5) fun s k => s.setLast k 0 else s
  let s := match c with
    | some k => s.respond 0 k .success .none
    | none => s
  { s with pkg := { s.pkg with lcReset := true } }

/-! ## Tokens (R479) -/

/-- A token's header, as the rules read it (Table 17.9). -/
structure TokenHdr where
  kind : Nat
  owner : Bool
  key : Nat
  arg : Nat
  pub : List Nat

/-- The header of a token, if the bytes have a token's layout. -/
def tokenHdr (b : List Nat) : Option TokenHdr :=
  let w := leAt b 4 4
  if b.length = 2848 ∧ leAt b 0 4 = 0x5C544B4E ∧ bitsOf w 23 9 = 0 ∧ slice b 0x34 12 = zeros 12 ∧ slice b 0x84 12 = zeros 12
      ∧ slice b 2836 12 = zeros 12 then
    some ⟨bitsOf w 31 24, bitOf w 8, bitsOf w 7 0, leAt b 0x30 4, slice b 0x40 68⟩
  else none

/-- The key of the header is zero unless the kind installs one (Table 17.9). -/
def TokenHdr.keyOk (h : TokenHdr) : Bool := h.kind == 4 || h.pub == zeros 68

/-- Is a transition one of Table 17.11 that a token may ask for? -/
def tokenMoves (st t : Nat) : Bool :=
  (st == 2 && t == 3) || ((st == 2 || st == 3) && t == 4) || ((st == 1 || st == 4) && t == 5) || ((st == 2 || st == 3) && t == 5)

/-- Does the signer of a transition token have the authority of Table 17.11? -/
def tokenAuthority (st t : Nat) (owner released : Bool) : Bool :=
  if t = 3 then owner else if t = 4 then !owner && released else if st = 1 ∨ st = 4 then !owner else owner

/-- Other keys remain in a set of slots when slot `k` goes. -/
def othersRemain (present : List Nat) (k : Nat) : Bool := present.any (· != k)

/-- Is the kind allowed in the current state, with the signer of Table 17.10? -/
def State.tokenAllowed (s : State) (h : TokenHdr) : Bool :=
  let st := s.rd F.LC_STATE_state pkgL
  let field : Bool := st == 2 || st == 3
  match h.kind with
  | 1 => tokenMoves st h.arg && tokenAuthority st h.arg h.owner s.curRec.released
  | 2 => h.owner && st == 2 && decide (h.arg < 2)
  | 3 => h.owner && field
  | 4 => h.owner && field && decide (h.arg < 4)
  | 5 => h.owner && field && decide (h.arg < 4) && othersRemain (s.strong.ownerKeys.map Prod.fst) h.arg
  | 6 => !h.owner && decide (1 ≤ st) && decide (st ≤ 4) && decide (h.arg < 4)
      && othersRemain ((s.strong.vendorKeys.map Prod.fst).filter fun k => !s.strong.revoked.contains k) h.arg
  | _ => false

/-- A token's signature, device and nonce hold. -/
def State.tokenGenuine (s : State) (b : List Nat) (h : TokenHdr) : Bool :=
  (match s.verifyKey h.owner h.key with
    | some k => Config.xmssVerify k (b.take 144) (slice b 144 2692)
    | none => false)
    && leAt b 8 8 == s.strong.deviceId && s.strong.nonce == some (slice b 0x10 32)

/-- A refused token changes nothing else (R479). A transition that Table 17.11 does not have is refused with Invalid Input (R480);
the spec gives no code for the other refusals. -/
def State.tokenRefused (s : State) (c : Nat) (badMove : Bool) : State :=
  let s := s.ev F.SEC_EVENT_token_refused pkgL 0
  if badMove then s.respond 0 c .invalidInput .none else (s.respond 0 c (.device s.free) .none).useFree

/-- The effect of an accepted token (Table 17.10). -/
def State.tokenUse (s : State) (c : Nat) (h : TokenHdr) : State :=
  let s := s.updStrong fun g => { g with nonce := none }
  match h.kind with
  | 1 => s.transition h.arg (some c)
  | 2 => (s.when (h.arg == 1) fun s => s.on F.LC_STATE_debug_unlocked pkgL).respond 0 c .success .none
  | 3 => s.record .released (.reply c)
  | 4 => ((s.updStrong fun g => { g with ownerKeys := Tbl.put g.ownerKeys h.arg h.pub }).showStore).respond 0 c .success .none
  | 5 => ((s.updStrong fun g => { g with ownerKeys := Tbl.del g.ownerKeys h.arg }).showStore).respond 0 c .success .none
  | _ => ((s.updStrong fun g => { g with revoked := if g.revoked.contains h.arg then g.revoked else g.revoked ++ [h.arg] }).showStore).respond
      0 c .success .none

/-- Submit Token. -/
def State.submitToken (s : State) (c : Nat) (b : List Nat) : State :=
  match tokenHdr b with
  | none => s.tokenRefused c false
  | some h =>
    if h.keyOk && s.tokenGenuine b h && s.tokenAllowed h then s.tokenUse c h
    else s.tokenRefused c (h.kind == 1 && !tokenMoves (s.rd F.LC_STATE_state pkgL) h.arg)

end Sys2Proof.Machine
end

