-- ==== Sys2Proof/Machine/Warden.lean ====
section
/-! DEFINITION. Command channels and the Warden pair's load (chapter 15): acceptance, starts, queued slots, Overcast. -/

namespace Sys2Proof.Machine

/-- Where a command on a channel comes from (Table 15.2), with its MCTP requester and tag on channel 4. -/
def chanOrigin (c : Nat) (requester : Fin 256) (tag : Fin 8) : CmdFrom :=
  if c < 4 then .mailbox else if c = 4 then .mctp requester tag else .primary

/-- COMMAND_ACCEPT. -/
def execCommandAccept (d : Fin 8) (c : Fin 6) (opcode : Fin 65536) (payload : List (BitVec 8)) (requester : Fin 256) (tag : Fin 8)
    (s : State) : Outcome :=
  runOn d s fun s =>
    s.acceptCmd d c { opcode := opcode.val, payload := natBytes payload, origin := chanOrigin c.val requester tag }

/-- The channel that core 0 serves next (R417): round robin after the one served last, among those with a command that waits and
none in the foreground. -/
def State.nextChan (s : State) (d : Nat) : Option Nat :=
  let t := (s.warden d).turn
  ((upTo 6).map fun i => (t + 1 + i) % 6).find? fun c => !(s.chan d c).queue.isEmpty && (s.chan d c).running.isNone

/-- The first command of a channel starts; a queued slot takes state 2 (R420). -/
def State.takeCmd (s : State) (d c : Nat) : State :=
  match (s.chan d c).queue with
  | [] => s
  | cmd :: r =>
    let s := s.updChan d c fun x =>
      let x : Chan := { x with queue := r, running := some cmd }
      match cmd.origin with
      | .slot n => { x with slots := Tbl.mod x.slots n {} fun q => { q with st := 2 } }
      | _ => x
    s.updWarden d fun w => { w with turn := c }

/-- A command starts (R417): on die 0 its tag is checked (R472); a request of the primary pair on channel 5 is the firmware's own,
and the spec gives it no more than its completion (R414). -/
def State.startCmd (s : State) (d : Nat) : State :=
  if !s.running d then s
  else match s.nextChan d with
    | none => s
    | some c =>
      let s := s.takeCmd d c
      if d = 0 then s.checkCritical c else (s.respond d c (.device s.free) .none).useFree

/-- COMMAND_START. -/
def execCommandStart (d : Fin 8) (s : State) : Outcome := runOn d s fun s => s.startCmd d

/-- MB_QDOORBELL: the write of the slot that goes before the doorbell, if any, and the doorbell. -/
def execMbQdoorbell (k : Fin 4) (n : Fin 256) (wrote : Option (Fin 65536 × List (BitVec 8))) (s : State) : Outcome :=
  runPkg s fun s =>
    if !s.flag F.MB_CHAN_c_present (idxL 0 0 k) then s
    else match wrote with
      | none => s.slotBell k n
      | some (op, b) => (s.hostSlot k n op (natBytes b)).slotBell k n

/-- The level of Table R423 for a pair that runs. -/
def State.overcast (s : State) (d load0 load1 : Nat) : Nat :=
  let deep (n : Nat) : Bool := (upTo 6).any fun c => decide (n ≤ (s.chan d c).depth)
  if deep 256 || (s.warden d).rejected then 3
  else if deep 128 || decide (80 ≤ load0) || decide (80 ≤ load1) then 2
  else if deep 64 || decide (50 ≤ load0) || decide (50 ≤ load1) then 1
  else 0

/-- MB_OVERCAST is updated (R423); a rise to 3 sets overcast. -/
def State.overcastUpdate (s : State) (d load0 load1 : Nat) : State :=
  if !s.running d then s
  else
    let l := dieL d
    let was := s.rd F.MB_OVERCAST_level l
    let lv := s.overcast d load0 load1
    let s := ((s.wr F.MB_OVERCAST_level l lv).wr F.MB_OVERCAST_load0 l load0).wr F.MB_OVERCAST_load1 l load1
    let s := s.updWarden d fun w => { w with rejected := false }
    if lv = 3 ∧ was ≠ 3 then s.ev F.MB_EVENT_overcast l 0 else s

/-- OVERCAST_UPDATE. -/
def execOvercastUpdate (d : Fin 8) (load0 load1 : Fin 101) (s : State) : Outcome :=
  runOn d s fun s => s.overcastUpdate d load0 load1

end Sys2Proof.Machine
end

