-- ==== Sys2Proof/Machine/Strongroom.lean ====
section
/-! DEFINITION. The Strongroom's commands (chapter 17): identity, attestation, sessions, counters, nonces, tokens, ownership. A
command's bytes are its input payload without the trailer of R471. -/

namespace Sys2Proof.Machine

/-- The life-cycle state in force (R478). -/
def State.lc (s : State) : Nat := s.rd F.LC_STATE_state pkgL

/-- GET_IDENTITY: the certificate as stored (R470). The spec gives no answer for a part that holds none. -/
def execGetIdentity (c : Fin 5) (s : State) : Outcome :=
  onCmd c [0xC030] s fun s _ =>
    if s.strong.cert.isEmpty then (s.respond 0 c (.device s.free) .none).useFree
    else s.respond 0 c .success (.bytes s.strong.cert)

/-- GET_ATTESTATION_REPORT (R470). -/
def execGetAttestationReport (c : Fin 5) (s : State) : Outcome :=
  onCmd c [0xC031] s fun s cmd =>
    if s.lc = 0 ∨ s.lc = 5 then s.respond 0 c .unsupported .none
    else if cmd.origin = .mailbox ∨ cmd.payload.length ≠ 32 then s.respond 0 c .invalidInput .none
    else s.signAsk (.sign c cmd.payload)

/-! ## Register write sessions (R476, R477) -/

/-- Core cycles in one millisecond. -/
def msCycles : Nat := 1000 * usCycles

/-- The session of a channel opens for a time, or takes it in place of what remains. -/
def State.openSession (s : State) (c ms : Nat) : State :=
  let l := idxL 0 0 c
  let s := (s.on F.SEC_SESSION_c_open l).wr F.SEC_SESSION_c_remaining_ms l ms
  s.updStrong fun g => { g with sessionEnd := Tbl.put g.sessionEnd c (s.now 0 + msCycles * ms) }

/-- The session of a channel closes: it has ended now. -/
def State.closeSession (s : State) (c : Nat) : State :=
  let l := idxL 0 0 c
  let s := (s.off F.SEC_SESSION_c_open l).off F.SEC_SESSION_c_remaining_ms l
  s.updStrong fun g => { g with sessionEnd := Tbl.put g.sessionEnd c (s.now 0) }

/-- OPEN_REGISTER_SESSION. -/
def execOpenRegisterSession (c : Fin 5) (s : State) : Outcome :=
  onCmd c [0xC032] s fun s cmd =>
    let ms := leAt cmd.payload 0 4
    if cmd.payload.length ≠ 8 ∨ leAt cmd.payload 4 4 ≠ 0 ∨ ms = 0 ∨ 60000 < ms then s.respond 0 c .invalidInput .none
    else (s.openSession c ms).respond 0 c .success .none

/-- CLOSE_REGISTER_SESSION. -/
def execCloseRegisterSession (c : Fin 5) (s : State) : Outcome :=
  onCmd c [0xC033] s fun s _ => (s.closeSession c).respond 0 c .success .none

/-- SESSION_EXPIRY. -/
def execSessionExpiry (c : Fin 5) (s : State) : Outcome :=
  onPkg s fun s => if s.flag F.SEC_SESSION_c_open (idxL 0 0 c) then s.closeSession c else s

/-! ## Counters, nonces, lockout -/

/-- GET_COUNTER: last_c (R474). -/
def execGetCounter (c : Fin 5) (s : State) : Outcome :=
  onCmd c [0xC034] s fun s _ => s.respond 0 c .success (.bytes (leBytes 8 (s.chan 0 c).last))

/-- A fresh nonce (R479): SHAKE256(device secret || boot_count || nonce number). -/
def State.freshNonce (s : State) : List Nat :=
  Config.shake256 (s.strong.secret ++ leBytes 4 s.curRec.boots ++ leBytes 4 s.strong.nonces) 256

/-- GET_NONCE: only the latest nonce is outstanding. -/
def execGetNonce (c : Fin 5) (s : State) : Outcome :=
  onCmd c [0xC035] s fun s _ =>
    let s := s.wake 0 22
    let n := s.freshNonce
    let s := s.updStrong fun g => { g with nonce := some n, nonces := g.nonces + 1 }
    s.respond 0 c .success (.bytes n)

/-- NONCE_EXPIRY. -/
def execNonceExpiry (s : State) : Outcome := onPkg s fun s => s.updStrong fun g => { g with nonce := none }

/-- LOCKOUT_EXPIRY. -/
def execLockoutExpiry (c : Fin 5) (s : State) : Outcome := onPkg s fun s => s.updChan 0 c fun x => { x with locked := false }

/-! ## Tokens, ownership, keys -/

/-- SUBMIT_TOKEN. -/
def execSubmitToken (c : Fin 5) (s : State) : Outcome := onCmd c [0xC036] s fun s cmd => s.submitToken c cmd.payload

/-- Take Ownership (Table 17.11): the root and one to four owner keys are stored, then Maker moves to Owned. -/
def State.takeOwnership (s : State) (c : Nat) (b : List Nat) : State :=
  let n := (b.length - 32) / 68
  if s.lc ≠ 1 ∨ b.length ≠ 32 + 68 * n ∨ n = 0 ∨ 4 < n then s.respond 0 c .invalidInput .none
  else
    let keys := (upTo n).map fun k => (k, slice b (32 + 68 * k) 68)
    ((s.updStrong fun g => { g with root := b.take 32, ownerKeys := keys }).showStore).transition 2 (some c)

/-- TAKE_OWNERSHIP. -/
def execTakeOwnership (c : Fin 5) (s : State) : Outcome := onCmd c [0xC037] s fun s cmd => s.takeOwnership c cmd.payload

/-- Rotate Command Root (R475): new_root XOR w, with w from the counter of the tag. Without a tag there is no counter, and the spec
gives no result. -/
def State.rotateRoot (s : State) (c : Nat) (cmd : Cmd) : State :=
  match cmd.counter with
  | none => (s.respond 0 c (.device s.free) .none).useFree
  | some ctr =>
    if cmd.payload.length ≠ 32 then s.respond 0 c .invalidInput .none
    else
      let s := s.wake 0 22
      let w := Config.kmacXof256 s.strong.root (leBytes 8 s.strong.deviceId ++ leBytes 8 ctr) 256 (ascii "SWEISKADE WRAP")
      let new := (upTo 32).map fun i => cmd.payload.getD i 0 ^^^ w.getD i 0
      (s.updStrong fun g => { g with root := new }).respond 0 c .success .none

/-- ROTATE_COMMAND_ROOT. -/
def execRotateCommandRoot (c : Fin 5) (s : State) : Outcome := onCmd c [0xC038] s fun s cmd => s.rotateRoot c cmd

/-- RELEASE_RESERVATION (R469). -/
def execReleaseReservation (c : Fin 5) (s : State) : Outcome := onCmd c [0xC039] s fun s _ => s.signAsk (.release c)

/-- The vendor's test program writes the fuses of a Blank part and moves it to Maker; it stores the identity certificate too
(Tables 17.2, 17.11). -/
def State.provision (s : State) (secret : List Nat) (id : Nat) (keys : List (List Nat)) (cert : List Nat) : State :=
  if s.lc ≠ 0 then s
  else
    let ks := (upTo (min 4 keys.length)).map fun k => (k, keys.getD k [])
    let s := s.updStrong fun g => { g with secret := secret, deviceId := id, vendorKeys := ks, cert := cert }
    ((s.wr64 F.LC_DEVICE_ID_LO_device_id F.LC_DEVICE_ID_HI_device_id pkgL id).showStore).transition 1 none

/-- TAP_PROVISION_MAKER. -/
def execTapProvisionMaker (secret : List (BitVec 8)) (id : BitVec 64) (keys : List (List (BitVec 8))) (cert : List (BitVec 8))
    (s : State) : Outcome :=
  onPkg s fun s => s.provision (natBytes secret) id.toNat (keys.map natBytes) (natBytes cert)

end Sys2Proof.Machine
end

