-- ==== Sys2Proof/Machine/ResetOps.lean ====
section
/-! DEFINITION. Package resets (R525 to R530): what a reset keeps and clears, its cause, and what must happen before the package
leaves it. -/

namespace Sys2Proof.Machine

/-- CK_RESET_CAUSE of a source (Table 20.7). -/
def ResetSrc.code : ResetSrc → Nat
  | .pwrOk => 2
  | .sysRst => 3
  | .rail => 4
  | .refclk => 5
  | .thermtrip => 6
  | .lifecycle => 7
  | .command => 8

/-- The order of R529. -/
def resetOrder : List ResetSrc := [.thermtrip, .rail, .refclk, .pwrOk, .sysRst, .lifecycle, .command]

/-- The first present source in the order of R529. -/
def firstSrc (srcs : List ResetSrc) : Option ResetSrc := resetOrder.find? fun x => srcs.contains x

/-- The pins and the bits of PD_PKG_STATUS that each source leaves (R529, R527, Table 2.17). -/
def State.srcMarks (s : State) (x : ResetSrc) : State :=
  let p := s.pkg
  match x with
  | .pwrOk => { s with pkg := { p with pwrOk := false, thermtrip := false } }
  | .sysRst => { s with pkg := { p with sysRstHigh := false } }
  | .rail => { (s.on F.PD_PKG_STATUS_rail_reset pkgL) with pkg := { p with wait := { p.wait with rails := true } } }
  | .refclk => { (s.on F.PD_PKG_STATUS_refclk_lost pkgL) with pkg := { p with wait := { p.wait with pwrLow := true } } }
  | .thermtrip => { (s.on F.PD_PKG_STATUS_thermtrip_seen pkgL) with pkg := { p with thermtrip := true } }
  | .lifecycle => { s with pkg := { p with lcReset := false, wait := { p.wait with hold := true } } }
  | .command => { s with pkg := { p with cmdReset := false, wait := { p.wait with hold := true } } }

/-- Fields that a package reset keeps (Table 20.2, R500, Table 18.5): those of the island, and what monitors show of supplies. -/
def keptFields : List Fld :=
  [F.CH_STATUS_gen, F.CH_STATUS_addr, F.CH_STATUS_eid, F.CH_STATUS_line_ok, F.CH_CNT_rx_frames, F.CH_CNT_tx_frames,
   F.CH_CNT_ERR_crc_err, F.CH_CNT_ERR_fwd_drop, F.CH_CNT_ERR_breaks, F.CH_CNT_ERR_oversize,
   F.PD_PKG_STATUS_thermtrip_seen, F.PD_PKG_STATUS_refclk_lost, F.PD_PKG_STATUS_rail_reset, F.PD_PKG_STATUS_island_source,
   F.CK_RESET_CAUSE_pkg_resets, F.CK_RESET_CAUSE_cause] ++ (upTo 8).map F.PD_PKG_STATUS_rail_low

/-- What the Strongroom keeps: fuses and store (Table 20.2). -/
def Strong.kept (g : Strong) : Strong :=
  { g with next := 0, signer := [], mute := false, nonce := none, nonces := 0, sessionEnd := [] }

/-- Everything but the island, the fuses, the store and the pins takes its reset value (Table 20.2). -/
def State.cleared (s : State) : State :=
  let s := s.tearRec
  let t : State :=
    { State.fresh s.part with pkg := { s.pkg with inReset := true, cmdReset := false, lcReset := false }, strong := s.strong.kept,
                              island := { s.island with parts := [], msgs := [] }, out := s.out, freeCtr := s.freeCtr,
                              pending := s.pending }
  let t := t.forEach keptFields fun t f => t.wr f pkgL (s.rd f pkgL)
  let t := t.forEach (upTo (16 * s.part.dies)) fun t p =>
    let l := unitL (portDie p) (portQuad p)
    let t := t.wr F.SP_STATUS_prsnt_raw l (s.rd F.SP_STATUS_prsnt_raw l)
    if (Tbl.getD s.ports p {}).perstIn then { t with ports := Tbl.put t.ports p { perstIn := true } } else t
  t.showFuses

/-- The package enters reset (R56, R525): the cause is the first present source (R529). In reset, a further source leaves its
marks and adds what must be waited for. -/
def State.enterReset (s : State) (srcs : List ResetSrc) : State :=
  match firstSrc srcs with
  | none => s
  | some x =>
    let s := s.forEach srcs State.srcMarks
    if s.pkg.inReset then s
    else
      let s := s.cleared
      (s.inc F.CK_RESET_CAUSE_pkg_resets pkgL).wr F.CK_RESET_CAUSE_cause pkgL (ResetSrc.code x)

/-- The bit of a rail in rail_low (Table 2.17). -/
def Rail.bit : Rail → Nat
  | .vddc => 0
  | .vdds => 1
  | .vddk => 2
  | .vdda => 3
  | .vddh => 4
  | .vddio => 5
  | .vddio33 => 6
  | .v12Bias => 7

/-- CK_RST_CMD's go (Table 20.9, R527, R528, R541): a wrong key, a reserved op, an absent die or one not yet released sets bad_cmd;
the key is cleared. -/
def State.rstCmd (s : State) (op key die : Nat) : State :=
  let s := ((s.wr F.CK_RST_CMD_op pkgL op).wr F.CK_RST_CMD_die pkgL die).off F.CK_RST_CMD_key pkgL
  if key ≠ 0xA5 then s.on F.CK_RST_CMD_bad_cmd pkgL
  else match op with
    | 0 => { s with pkg := { s.pkg with cmdReset := true } }
    | 1 =>
      if die < s.part.dies ∧ (s.flag (F.CK_BOOT_STATUS_fw_released die) pkgL ∨ s.flag F.RS_WDOG_STATUS_held (dieL die)) then s.restartWarden die false
      else s.on F.CK_RST_CMD_bad_cmd pkgL
    | _ => s.on F.CK_RST_CMD_bad_cmd pkgL

end Sys2Proof.Machine
end

