-- ==== Sys2Proof/Machine/Power.lean ====
section
/-! DEFINITION. Fabric time, temperature, power readings and power domains (chapters 1 and 2). Package domains P0 and P1 are domains
22 and 23 of die 0. -/

namespace Sys2Proof.Machine

/-! ## Fabric time (R36 to R39) -/

/-- The path of die 0's count to a die (R37): a direct Active site, else one to the third die of R176, and that die. DESIGN CHOICE
(log entry 123): of several sites, the lowest. -/
def State.countPath (s : State) (d : Nat) : Option (Nat × Option Nat) :=
  match (s.sitesTo 0 d).head? with
  | some t => some (t, none)
  | none => match s.viaDie 0 d with
    | some k => (s.sitesTo 0 k).head?.map fun t => (t, some k)
    | none => none

/-- Die 0 sends its count to a die, if a path works. -/
def State.sendCount (s : State) (d : Nat) : State :=
  match s.countPath d with
  | some p => s.emit (.masterCount d (s.now 0) p.1 p.2)
  | none => s

/-- MASTER_COUNT_SEND: die 0 sends its count to each other die. -/
def execMasterCountSend (s : State) : Outcome :=
  onPkg s fun s => if !s.clocks then s else s.forEach (upTo (s.part.dies - 1)) fun s k => s.sendCount (k + 1)

/-- The delay of the path that a count took (R37, R178): that of the receiving site `t` of die `d`; of a relayed count, the sum of
that and of the delay of the relaying die's site `u` towards die 0, plus 48 cycles. None where no such path leads to die 0. -/
def State.countDelay (s : State) (d t : Nat) (u : Option Nat) : Option Nat :=
  let k := s.part.peerDie d t
  let own := s.rd F.CL_PATH_DELAY_delay (unitL d t)
  match u with
  | none => if k = 0 then some own else none
  | some u => if k ≠ 0 ∧ k ≠ d ∧ s.part.peerDie k u = 0 then some (own + s.rd F.CL_PATH_DELAY_delay (unitL k u) + 48) else none

/-- A die corrects to the master's count plus the path delay (R38): it repeats its value, runs double, or jumps. Its aligned bit is
set once it is within 1 cycle, so that no two aligned dies differ by more than 2 (R39; DESIGN CHOICE, log entry 137). -/
def State.correct (s : State) (d count path : Nat) : State :=
  let m := count + path
  let t := s.now d
  if t + 2 < m then
    ({ s with ftime := Tbl.set s.ftime d m 0, ftAdj := Tbl.set s.ftAdj d 0 0 }.aligned d).inc F.CK_FTIME_STATUS_step_count pkgL
  else
    let s := { s with ftAdj := Tbl.set s.ftAdj d ((t : Int) - m) 0 }
    if m ≤ t + 1 ∧ t ≤ m + 1 then s.aligned d
    else
      { s.off (F.CK_FTIME_STATUS_aligned_mask d) pkgL with
        aligning := if s.aligning.contains d then s.aligning else s.aligning ++ [d] }

/-- MASTER_COUNT_RECEIVE: the count as sent, and the path by which it came. -/
def execMasterCountReceive (d : Fin 8) (count : Nat) (path : CountPath) (s : State) : Outcome :=
  onDie d s fun s =>
    if d.val = 0 ∨ !s.clocks then s
    else match s.countDelay d path.site (path.relay.map Fin.val) with
      | some delay => s.correct d count delay
      | none => s

/-- ALIGNMENT_TIMEOUT (R39): bit 0 is always set. -/
def execAlignmentTimeout (d : Fin 8) (s : State) : Outcome :=
  onDie d s fun s =>
    if d.val = 0 then s
    else { s.off (F.CK_FTIME_STATUS_aligned_mask d) pkgL with aligning := s.aligning.filter (· != d.val) }

/-! ## Temperature and power (R72, R77, R80) -/

/-- A temperature field as a signed number of 1/16 °C. -/
def tempVal (v : Nat) : Int := if v < 32768 then (v : Int) else (v : Int) - 65536

/-- The hottest sensor of a sample, the lowest of equals, with its reading. -/
def hottest (ts : List Int) : Nat × Int :=
  ((ts.drop 1).zip ((upTo 7).map (· + 1))).foldl (fun b e => if b.2 < e.1 then (e.2, e.1) else b) (0, ts.headD 0)

/-- THERMTRIP# (R77). -/
def State.thermtrip (s : State) : State := s.enterReset [.thermtrip]

/-- Every engine of a die runs at half rate, or no longer does (R77, R322). -/
def State.halfRate (s : State) (d : Nat) (on : Bool) : State :=
  s.forEach (upTo 8) fun s e => s.wrB F.DM_ENG_STATUS_throttled (idxL d 0 e) on

/-- One sample of a die's sensors (R77). -/
def State.thermal (s : State) (d : Nat) (ts : List Int) : State :=
  let l := dieL d
  let h := hottest ts
  let s := s.forEach (upTo 8) fun s k => s.wr F.TM_TEMP_n_temp (idxL d 0 k) (signed16 (ts.getD k 0))
  let s := (s.wr F.TM_TEMP_MAX_sensor l h.1).wr F.TM_TEMP_MAX_temp l (signed16 h.2)
  if 16 * 110 ≤ h.2 then s.thermtrip
  else
    let above : Bool := decide (16 * (s.rd F.TM_LIMITS_warn_c l : Int) < h.2)
    let was := s.warm.contains d
    let s := if above && !was then s.ev F.TM_STATUS_warn_event l 0 else s
    let s := { s with warm := if above then (if was then s.warm else s.warm ++ [d]) else s.warm.filter (· != d) }
    let thr : Int := 16 * (s.rd F.TM_LIMITS_throttle_c l : Int)
    if s.flag F.TM_STATUS_throttle_active l then
      (if h.2 < thr - 48 then (s.off F.TM_STATUS_throttle_active l).halfRate d false else s)
    else if thr < h.2 then ((s.on F.TM_STATUS_throttle_active l).halfRate d true).ev F.TM_STATUS_throttle_event l 0
    else s

/-- THERMAL_SAMPLE: the eight readings, in 1/16 °C. -/
def execThermalSample (d : Fin 8) (temps : List Int) (s : State) : Outcome :=
  onDie d s fun s => if temps.length = 8 then s.thermal d temps else s

/-- POWER_MONITOR_UPDATE: the dies' readings and the package's, in mW. -/
def execPowerMonitorUpdate (dies : List Nat) (pkg : Nat) (s : State) : Outcome :=
  onPkg s fun s =>
    let s := s.forEach (upTo s.part.dies) fun s d => s.wr F.TM_DIE_POWER_power_mw (dieL d) (dies.getD d 0)
    s.wr F.PD_PKG_POWER_power_mw pkgL pkg

/-! ## Power domains (R61 to R70) -/

/-- Every port on the quads of a group is disabled and every slot on them is off (Table 2.8). -/
def State.groupIdle (s : State) (d g : Nat) : Bool :=
  (upTo 4).all fun j =>
    let p := s.ownerPort (portNo d (4 * g + j))
    s.pstate p == 0 && !(s.isSlot p && decide (4 ≤ s.slotState p) && decide (s.slotState p ≤ 6))

/-- No engine of the four works, and no queue is assigned to them. DESIGN CHOICE (log entry 122): a queue is assigned to the engine
that its DM_Q_CFG names while the queue is not Disabled. -/
def State.enginesIdle (s : State) (d k : Nat) : Bool :=
  (upTo 4).all fun i =>
    let e := 4 * (k - 17) + i
    !s.flag F.DM_ENG_STATUS_busy (idxL d 0 e)
      && (upTo qCap).all fun q => !(s.qst d q != 0 && s.qEng d q == e)

/-- The range behind decoder entry `i` of die `e`, if mirrored (mirror_grp not 0), has die `d` as its ingress or home die: the die of
the decoder, that of its target 0, which is copy A, or that of the group's port_b. -/
def State.rangeUses (s : State) (d e i : Nat) : Bool :=
  let x := s.dec e i
  let a := (s.vppb e (s.slotOf (portNo e (i / 32)) (x.targets.headD (0, 0)).1)).port
  x.valid && x.grp != 0 && (e == d || portDie a == d || portDie (grpCopy (s.grp e x.grp) 1).1 == d)

/-- A mirrored range or a valid overlay entry has die `d` as its ingress or home die (Table 2.8). -/
def State.mirrorUses (s : State) (d : Nat) : Bool :=
  !(s.ovd d).entries.isEmpty || (upTo s.part.dies).any fun e => (upTo 512).any fun i => s.rangeUses d e i

/-- May a domain be Off (Table 2.8)? DESIGN CHOICE (log entry 122): a site that stands in Off, for which site_en 0 is enough, is
not in use. -/
def State.mayOff (s : State) (d k : Nat) : Bool :=
  if k < 4 then s.groupIdle d k
  else if k < 8 then s.groupIdle d (k - 4) && (upTo 4).all fun j => (s.port (portNo d (4 * (k - 4) + j))).cellar.isEmpty
  else if k < 15 then s.siteState d (k - 8) == 0 || s.siteState d (k - 8) == 6
  else match k with
    | 15 => (s.cad d).regions.isEmpty && (s.cad d).loft.isEmpty
    | 16 => !s.mirrorUses d
    | 17 => s.enginesIdle d 17
    | 18 => s.enginesIdle d 18
    | 19 => ((upTo 512).all fun i => (s.inst d i).state == 0) && (upTo qCap).all fun q => s.qst d q == 0
    | 20 => (Tbl.getD s.cntOn d []).isEmpty && !s.flag F.PM_ATTIC_CTRL_en (dieL d)
        && s.rd F.PM_ATTIC_STATUS_outstanding (dieL d) == 0
    | _ => false

/-- Whether a domain holds a copy of a register (Table 2.8). -/
def inDomain (k : Nat) (b : Blk) (unit idx : Nat) : Bool := blkDomain b unit idx == some k

/-- Blocks that domain `k` holds registers of. -/
def domBlks (k : Nat) : List Blk :=
  ([.lq, .pt, .cl, .ca, .mr, .dme, .dmq, .pn, .pnc, .pm] : List Blk).filter fun b =>
    (upTo 16).any fun u => inDomain k b u 0 || inDomain k b u 4

/-- Whether a number that `Nat.pair` made of a register's code and its place is of a register of domain `k` of die `d`; `div` is 32 for
a field and 1 for a whole register. -/
def keyIn (d k div key : Nat) : Bool :=
  let p := key.unpair
  let q := p.2.unpair
  let u := q.2.unpair
  q.1 == d && (domBlks k).any fun b => inDomain k b u.1 u.2 && b.regs.any fun r => r.ctorIdx == p.1 / div && (b != .dme || r.info.stride != 0)

/-- What the end of a site keeps while its domain has no power: the messages that the partner has not accepted, until the hand-over or the
end of hold_us has dealt with them (R174, R175). -/
def SiteSt.unsentOnly (x : SiteSt) : SiteSt :=
  { txq := x.txq, partly := x.partly, replay := x.replay, handing := x.handing, old := x.old, oldTx := x.oldTx, oldExp := x.oldExp,
    stopped := x.stopped }

/-- The fields, shadows and captures of a domain are gone, and so is what its units hold. -/
def State.domForget (s : State) (d k : Nat) : State :=
  let s := { s with regs := Tbl.drop s.regs fun x _ => keyIn d k 32 x, staged := Tbl.drop s.staged fun x _ => keyIn d k 32 x,
                    capture := Tbl.drop s.capture fun x _ => keyIn d k 1 x, held := Tbl.drop s.held fun x _ => keyIn d k 1 x }
  if k < 4 then { s with lanes := Tbl.drop s.lanes fun n _ => n / 64 == d && n / 16 % 4 == k }
  else if k < 8 then
    s.forEach ((upTo 4).map fun j => portNo d (4 * (k - 4) + j)) fun s p =>
      s.updPort p fun x => { perstIn := x.perstIn }
  else if k < 15 then { s with sites := Tbl.set s.sites (key2 d (k - 8)) (s.site d (k - 8)).unsentOnly {} }
  else match k with
    | 15 => { s with ca := Tbl.del s.ca d, spoilt := s.spoilt.filter fun e => e.1 != d || e.2.place.1 != 3 }
    | 16 => { s with mr := Tbl.del s.mr d, ov := Tbl.del s.ov d,
                     spoilt := s.spoilt.filter fun e => e.1 != d || !(e.2.place.1 == 1 || e.2.place.1 == 2) }
    | 17 => s.forEach (upTo 4) fun s e => { s with dmEng := Tbl.del s.dmEng (key2 d e) }
    | 18 => s.forEach (upTo 4) fun s e => { s with dmEng := Tbl.del s.dmEng (key2 d (4 + e)) }
    | 19 => { s with dmq := Tbl.drop s.dmq fun n _ => n / qCap == d, insts := Tbl.drop s.insts fun n _ => n.unpair.1 == d }
    | 20 => { s with cnt := Tbl.drop s.cnt fun n _ => n.unpair.1 == d, cntOn := Tbl.del s.cntOn d, frost := Tbl.del s.frost d,
                     atticSeen := Tbl.del s.atticSeen d }
    | _ => s

/-- A domain without power keeps nothing (R61): its registers read as their reset values. The role and width of its ports stay as
the Inventory gave them, for the slot controllers, which have power, follow them; a fenced port stays Fenced (R374); a site is Off at both ends (Table 5.9). -/
def State.domErase (s : State) (d k : Nat) : State :=
  let t := s.domForget d k
  if 4 ≤ k ∧ k < 8 then
    t.forEach ((upTo 4).map fun j => unitL d (4 * (k - 4) + j)) fun t l =>
      let t := (t.wr F.PT_CTRL_role l (s.rd F.PT_CTRL_role l)).wr F.PT_CTRL_width_cfg l (s.rd F.PT_CTRL_width_cfg l)
      if s.flag (F.RS_FENCE_STATUS_fenced l.unit) (dieL d) then t.wr F.PT_STATUS_pstate l 5 else t
  else if 8 ≤ k ∧ k < 15 then t.forEach (s.ends d (k - 8)) fun t e => t.toSite e (k - 8) 0
  else t

/-- A request is refused: the domain and its request bit stay as they are (R63). -/
def State.domRefuse (s : State) (d k : Nat) : State := s.evD (F.PD_DOM_REFUSED_refused k) (dieL d) 0 0 0

/-- A domain is requested On or Off (R63, R65, R70). Off while Powering waits for On; a domain that goes Off keeps nothing (R61). -/
def State.domAsk (s : State) (d k : Nat) (on : Bool) : State :=
  let l := dieL d
  let st := s.domState d k
  if on then
    let s := s.on (F.PD_DOM_REQ_dom_on k) l
    if st = 0 then s.setDom d k 1 else s
  else if st = 1 then s.off (F.PD_DOM_REQ_dom_on k) l
  else if !s.mayOff d k then s.domRefuse d k
  else
    let s := { s with waking := s.waking.filter (· != (d, k)) }
    ((s.off (F.PD_DOM_REQ_dom_on k) l).domErase d k).setDom d k 0

/-- A write to PD_DOM_REQ: each bit that differs from the request in force is a request. -/
def State.domReq (s : State) (d v : Nat) : State :=
  s.forEach ((upTo 22).filter fun k => bitOf v k != s.flag (F.PD_DOM_REQ_dom_on k) (dieL d)) fun s k => s.domAsk d k (bitOf v k)

/-- DOM_REQ_WRITE. -/
def execDomReqWrite (src : Src) (d : Fin 8) (v : Fin 4194304) (s : State) : Outcome := onWrite src d s fun s => s.domReq d v

/-- A flash access is open: an op of the loader runs, or the firmware of a die is still to be read (Table 20.3 t7, t8; Table 13.7). -/
def State.flashOpen (s : State) : Bool :=
  s.inv.op.isSome || decide (s.inv.fwNext < s.part.dies)
    || (upTo s.part.dies).any fun d => s.flag F.RS_WDOG_STATUS_restarting (dieL d)

/-- A write of p1_on (R63, R65): Off only once the Inventory has been applied and no flash access is open; Off while Powering waits
for On (R70). The registers of the loader are package registers and keep their values (DESIGN CHOICE, log entry 25). -/
def State.p1Ask (s : State) (on : Bool) : State :=
  let st := s.domAt 0 23
  if on then
    s.p1On
  else if st = 1 then s.off F.PD_PKG_CTRL_p1_on pkgL
  else if s.rd F.INV_STATUS_state pkgL = 2 ∧ !s.flashOpen then (s.off F.PD_PKG_CTRL_p1_on pkgL).setDom 0 23 0
  else if s.flag F.PD_PKG_CTRL_p1_on pkgL then s.ev F.PD_PKG_CTRL_p1_refused pkgL 0
  else s

/-- P1_REQ_WRITE. -/
def execP1ReqWrite (src : Src) (on : Bool) (s : State) : Outcome := onWrite src 0 s fun s => s.p1Ask on

/-! ## Lull (R67 to R70) -/

/-- A domain's Lull enable: D17 to D19, D21 of dies 1 and up, P0. -/
def State.lullEn (s : State) (d k : Nat) : Bool :=
  match k with
  | 17 => s.flag (F.PD_DOM_LULL_EN_lull_en 0) (dieL d)
  | 18 => s.flag (F.PD_DOM_LULL_EN_lull_en 1) (dieL d)
  | 19 => s.flag (F.PD_DOM_LULL_EN_lull_en 2) (dieL d)
  | 21 => d != 0 && s.flag F.PD_DOM_LULL_EN_lull_en_d21 (dieL d)
  | 22 => d == 0 && s.flag F.PD_PKG_CTRL_p0_lull_en pkgL
  | _ => false

/-- A domain has work now that R67 names and that lasts: a busy engine; a command of the primary pair; a request of the Strongroom's
engines. Work that is done at once is `State.wake`. -/
def State.hasWork (s : State) (d k : Nat) : Bool :=
  match k with
  | 17 => (upTo 4).any fun e => s.flag F.DM_ENG_STATUS_busy (idxL d 0 e)
  | 18 => (upTo 4).any fun e => s.flag F.DM_ENG_STATUS_busy (idxL d 0 (4 + e))
  | 21 => decide (0 < (s.chan d 5).depth)
  | 22 => !s.strong.signer.isEmpty
  | _ => false

/-- A domain has had no work for idle_us microseconds; 0 stops the entry. Die 0's value and time serve P0. -/
def State.lullDue (s : State) (d k : Nat) : Bool :=
  let us := s.rd F.PD_LULL_IDLE_idle_us (dieL d)
  us != 0 && !s.hasWork d k && decide (Tbl.getD s.lastWork (key2 d k) 0 + us * usCycles ≤ s.now d)

/-- LULL_ENTRY. Work of the same cycle comes first and restarts the count, so that the domain stays On (R69). -/
def execLullEntry (d : Fin 8) (k : Fin 23) (s : State) : Outcome :=
  onDie d s fun s => if s.lullEn d k ∧ s.domAt d k = 3 ∧ s.lullDue d k then s.setDom d k 2 else s

/-- LULL_WAKE: work has come that no other command brings; the domain stays in Lull until its exit is done. -/
def execLullWake (d : Fin 8) (k : Fin 23) (s : State) : Outcome :=
  onDie d s fun s =>
    let s := { s with lastWork := Tbl.set s.lastWork (key2 d k) (s.now d) 0 }
    if s.domAt d k = 2 ∧ !s.waking.contains (d.val, k.val) then { s with waking := s.waking ++ [(d.val, k.val)] } else s

/-- LULL_EXIT_DONE. -/
def execLullExitDone (d : Fin 8) (k : Fin 23) (s : State) : Outcome :=
  onDie d s fun s =>
    if s.domAt d k = 2 ∧ s.waking.contains (d.val, k.val) then
      ({ s with waking := s.waking.filter (· != (d.val, k.val)) }).setDom d k 3
    else s

/-! ## Supplies (R52, R55, R57, R58, R75) -/

/-- RAIL_DIP: a monitored rail of a die has been below its minimum for more than 20 µs. -/
def execRailDip (d : Fin 8) (rail : Rail) (s : State) : Outcome :=
  if s.part.dies ≤ d then .next s
  else
    .next (if rail = .v12Bias then s
      else
        let low := (d.val, Rail.bit rail)
        let s := { s with pkg := { s.pkg with lowRails := if s.pkg.lowRails.contains low then s.pkg.lowRails else s.pkg.lowRails ++ [low] } }
        let s := s.on (F.PD_PKG_STATUS_rail_low (Rail.bit rail)) pkgL
        if s.pkg.pwrOk then s.enterReset [.rail] else s)

/-- RAIL_RECOVERED: every monitored rail has been within tolerance for 1 ms. -/
def execRailRecovered (s : State) : Outcome :=
  let p := s.pkg
  let s := s.forEach (upTo 7) fun s k => s.off (F.PD_PKG_STATUS_rail_low k) pkgL
  .next { s with pkg := { p with lowRails := [], wait := { p.wait with rails := false } } }

/-- V12_BIAS_LOW (R52): every slot turns off, with the record of Table 13.14. -/
def execV12BiasLow (s : State) : Outcome :=
  let s := { (s.on (F.PD_PKG_STATUS_rail_low 7) pkgL) with pkg := { s.pkg with v12ok := false } }
  runPkg s fun s =>
    let s := s.forEach s.allPorts fun s p => if s.isSlot p then s.slotDisable p else s
    s.log 0 14 24 4 0 (s.word .PD_PKG_STATUS pkgL)

/-- V12_BIAS_VALID (R397): enabled slot controllers leave Disabled. -/
def execV12BiasValid (s : State) : Outcome :=
  let s := { (s.off (F.PD_PKG_STATUS_rail_low 7) pkgL) with pkg := { s.pkg with v12ok := true } }
  runPkg s fun s => s.forEach s.allPorts fun s p => if s.isSlot p then s.slotEnable p else s

/-- REFCLK_LOSS. -/
def execRefclkLoss (d : Fin 8) (s : State) : Outcome :=
  .next (if s.part.dies ≤ d ∨ !s.pkg.islandUp then s else s.enterReset [.refclk])

/-- PWR_OK_FALL. -/
def execPwrOkFall (s : State) : Outcome := .next (if s.pkg.islandUp then s.enterReset [.pwrOk] else s)

/-- SYS_RST_ASSERT. -/
def execSysRstAssert (s : State) : Outcome := .next (if s.pkg.islandUp then s.enterReset [.sysRst] else s)

/-- PACKAGE_RESET: the sources that arise in one cycle (R529). -/
def execPackageReset (srcs : List ResetSrc) (s : State) : Outcome :=
  .next (if s.pkg.islandUp then s.enterReset srcs else s)

/-- RESET_HOLD_EXPIRY. -/
def execResetHoldExpiry (s : State) : Outcome :=
  .next { s with pkg := { s.pkg with wait := { s.pkg.wait with hold := false } } }

/-- CK_RST_DELAY_EXPIRY. -/
def execCkRstDelayExpiry (s : State) : Outcome := onPkg s fun s => if s.pkg.cmdReset then s.enterReset [.command] else s

/-- TRANSITION_RESET_TIMER (R481 step 5). -/
def execTransitionResetTimer (s : State) : Outcome := onPkg s fun s => if s.pkg.lcReset then s.enterReset [.lifecycle] else s

/-- CK_RST_PACKAGE: go with op 0 and the key written. -/
def execCkRstPackage (src : Src) (key : Fin 256) (s : State) : Outcome := onWrite src 0 s fun s => s.rstCmd 0 key s.part.dies

/-- CK_RST_WARDEN: go with op 1, the key and the die written. -/
def execCkRstWarden (src : Src) (key : Fin 256) (die : Fin 8) (s : State) : Outcome := onWrite src 0 s fun s => s.rstCmd 1 key die

/-! ## The island (R57, R58, R525) -/

/-- The island starts, and with it the package, in reset. rail_low goes on showing the rails that are low (Table 2.17). -/
def State.islandStart (s : State) (vaux : Bool) : State :=
  let s := s.tearRec
  let t : State :=
    { State.fresh s.part with pkg := { s.pkg with islandUp := true, vaux := vaux, inReset := true, wait := {}, cmdReset := false, lcReset := false, thermtrip := false },
                              strong := s.strong.kept, out := s.out, freeCtr := s.freeCtr, pending := s.pending }
  let t := t.forEach ((upTo 7).filter fun k => s.pkg.lowRails.any fun x => x.2 == k) fun t k => t.on (F.PD_PKG_STATUS_rail_low k) pkgL
  let t := t.wrB (F.PD_PKG_STATUS_rail_low 7) pkgL (!s.pkg.v12ok)
  (t.wr F.PD_PKG_STATUS_island_source pkgL (if vaux then 1 else 2)).showFuses

/-- ISLAND_POWER_ON: from VAUX, or from CH_IN. -/
def execIslandPowerOn (vaux : Bool) (s : State) : Outcome := .next (if s.pkg.islandUp then s else s.islandStart vaux)

/-- ISLAND_POWER_LOSS: both sources are absent. CH_OUT is low while the island has no power (R86). -/
def execIslandPowerLoss (s : State) : Outcome :=
  .next (if s.pkg.islandUp then
    let t := s.islandStart false
    { t with pkg := { t.pkg with islandUp := false }, island := { chIn := false, chOut := false } }
  else s)

/-- ISLAND_SOURCE_CHANGE: the island takes power from VAUX, or from CH_IN, without a reset. -/
def execIslandSourceChange (toVaux : Bool) (s : State) : Outcome :=
  .next (if s.pkg.islandUp then
    { (s.wr F.PD_PKG_STATUS_island_source pkgL (if toVaux then 1 else 2)) with pkg := { s.pkg with vaux := toVaux } }
  else s)

end Sys2Proof.Machine
end

