-- ==== Sys2Proof/Machine/Space.lean ====
section
/-! DEFINITION. The register space (R7 to R15, R42 to R44): which register stands at an address, 64-bit pairs, and what an ignored
Quiet write leaves (R455). -/

namespace Sys2Proof.Machine

/-- The block and unit at an offset inside a die (Table 1.16). -/
def blkAt (off : Nat) : Option (Blk × Nat) :=
  if off < 0x1_0000 then some (.die, 0)
  else if off < 0x2_0000 then some (.lq, (off - 0x1_0000) / 0x1000)
  else if off < 0x4_0000 then none
  else if off < 0x6_0000 then some (.pt, (off - 0x4_0000) / 0x2000)
  else if off < 0x8_0000 then none
  else if off < 0x8_E000 then some (.cl, (off - 0x8_0000) / 0x2000)
  else if off < 0xA_0000 then none
  else if off < 0xC_0000 then some (.xb, 0)
  else if off < 0x10_0000 then some (.sc, 0)
  else if off < 0x20_0000 then some (.bd, 0)
  else if off < 0x30_0000 then some (.ca, 0)
  else if off < 0x40_0000 then some (.mr, 0)
  else if off < 0x42_0000 then some (.dmq, (off - 0x40_0000) / 0x40)
  else if off < 0x48_0000 then none
  else if off < 0x50_0000 then some (.dme, 0)
  else if off < 0x51_0000 then some (.pn, 0)
  else if off < 0x53_0000 then some (.pnc, 1 + (off - 0x51_0000) / 0x2000)
  else if off < 0x60_0000 then none
  else if off < 0x68_0000 then some (.rs, 0)
  else if off < 0x68_4000 then some (.sp, (off - 0x68_0000) / 0x400)
  else if off < 0x70_0000 then none
  else if off < 0x78_0000 then some (.pm, 0)
  else if off < 0x80_0000 then some (.mb, 0)
  else none

/-- The register at an offset of a die's block; the die channel of the Pantry shares the block of its other registers (R353). -/
def dieReg (d off : Nat) : Option (Reg × Loc) :=
  match blkAt off with
  | none => none
  | some (b, u) =>
    match regIn b (off - b.base u) with
    | some (r, i) => some (r, ⟨d, u, i⟩)
    | none => if b = .pn then (regIn .pnc (off - Blk.base .pnc 0)).map fun x => (x.1, ⟨d, 0, x.2⟩) else none

/-- The register at an address of the register space, if any (R42, R43, R11). -/
def regAt (a : Nat) : Option (Reg × Loc) :=
  if a < 0x100_0000 then (regIn .pkg a).map fun x => (x.1, ⟨0, 0, x.2⟩)
  else match addrDie a with
    | some d => dieReg d (a % 0x100_0000)
    | none => none

/-- The address of a register. -/
def regAddr (r : Reg) (l : Loc) : Nat :=
  let i := r.info
  (if i.blk = .pkg then 0 else (l.die + 1) * 0x100_0000) + i.blk.base l.unit + i.off + i.stride * l.idx

/-- Does the part have the block that holds an address (R10, R42)? A die that took no number is absent (R6). -/
def State.present (s : State) (a : Nat) : Bool :=
  decide (a < 0x100_0000) || match addrDie a with
    | some d => s.dieHere d
    | none => false

/-! ## 64-bit pairs (R8, R9) -/

/-- Pairs whose low and high words software reads or writes as R8 and R9 lay down. -/
def regPairs : List (Reg × Reg) :=
  [(.CK_FTIME_LO, .CK_FTIME_HI), (.CK_DIE_FTIME_LO, .CK_DIE_FTIME_HI), (.PT_PARTNER_SN_LO, .PT_PARTNER_SN_HI),
   (.BD_MISS_LOG_LO, .BD_MISS_LOG_HI), (.CA_LOST_LOG_LO, .CA_LOST_LOG_HI), (.DM_Q_BASE_LO, .DM_Q_BASE_HI),
   (.DM_Q_CQ_BASE_LO, .DM_Q_CQ_BASE_HI), (.DM_Q_INT_ADDR_LO, .DM_Q_INT_ADDR_HI), (.DM_ENG_BYTES_LO, .DM_ENG_BYTES_HI),
   (.RS_LOST_LOG_LO, .RS_LOST_LOG_HI), (.PM_FROST_AT_LO, .PM_FROST_AT_HI), (.PM_FROST_TIME_LO, .PM_FROST_TIME_HI),
   (.MB_DR_DADDR_s_LO, .MB_DR_DADDR_s_HI), (.MB_DM_INT_SUM_LO, .MB_DM_INT_SUM_HI), (.SHADOW_LO, .SHADOW_HI), (.LC_DEVICE_ID_LO, .LC_DEVICE_ID_HI), (.SEC_CTR_c_LO, .SEC_CTR_c_HI),
   (.CNT_LO, .CNT_HI)]

/-- The high word of a pair, by its low word. -/
def pairHigh (r : Reg) : Option Reg := (regPairs.find? fun x => x.1 == r).map Prod.snd
/-- The low word of a pair, by its high word. -/
def pairLow (r : Reg) : Option Reg := (regPairs.find? fun x => x.2 == r).map Prod.fst

/-! ## Ignored writes (R455) -/

/-- The ignored_write bit of the block that holds a register, if it has one. -/
def ignoredFld : Blk → Option Fld
  | .lq => some F.LQ_EVENT_ignored_write
  | .pt => some F.PT_EVENT_ignored_write
  | .cl => some F.CL_EVENT_ignored_write
  | .dmq => some F.DM_EVENT_ignored_write
  | .dme => some F.DM_EVENT_ignored_write
  | .sp => some F.SP_EVENT_ignored_write
  | .pm => some F.PM_EVENT_ignored_write
  | .mb => some F.MB_EVENT_ignored_write
  | _ => none

/-- Where the event register of a block that a register belongs to stands. -/
def eventLoc (b : Blk) (l : Loc) : Loc :=
  match b with
  | .lq => { l with idx := 0 }
  | .pt => { l with idx := 0 }
  | .cl => { l with idx := 0 }
  | .sp => { l with idx := 0 }
  | _ => dieL l.die

/-- The unit of a block's log records (Table 13.8): physical port, site, local queue; 0 otherwise. -/
def logUnit (b : Blk) (l : Loc) : Nat :=
  match b with
  | .lq => portNo l.die l.unit
  | .pt => portNo l.die l.unit
  | .sp => portNo l.die l.unit
  | .cl => l.unit
  | .dmq => l.unit
  | .pm => l.idx
  | .mb => l.idx
  | _ => 0

/-- A write that is ignored because its Quiet fields differ while their block runs. -/
def State.ignoredWrite (s : State) (src : Src) (r : Reg) (l : Loc) : State :=
  let b := r.info.blk
  let s := match ignoredFld b with
    | some f => s.ev f (eventLoc b l) (logUnit b l)
    | none => s
  let s := s.inc F.INV_IGNORED_CNT_ignored_writes pkgL
  if s.flag F.INV_IGNORED_LOG_valid pkgL then s
  else
    let w : Bool := match src with
      | .warden _ => true
      | _ => false
    ((s.on F.INV_IGNORED_LOG_valid pkgL).wrB F.INV_IGNORED_LOG_source pkgL w).wr F.INV_IGNORED_LOG_addr pkgL (regAddr r l / 4)

end Sys2Proof.Machine
end

