-- ==== Sys2Proof/Machine/Operands.lean ====
section
/-! DEFINITION. How a value written to a field is stored: the "is stored as" clauses of the register tables. -/

namespace Sys2Proof.Machine

/-- `v` brought into a range. -/
def clampTo (lo hi v : Nat) : Nat := max lo (min v hi)

/-- The highest rate code of the lane grade (Table 3.1). -/
def Part.topCode (p : Part) : Nat := if p.grade = 2 then 6 else 5

/-- The highest rate code a quad may be given (Table 3.10): the lower of the Inventory's limit and the grade's. -/
def State.rateCap (s : State) (d q : Nat) : Nat := min (Tbl.getD s.invRate (portNo d q) 6) (Part.topCode s.part)

/-- The smallest casub_pool of any class, or the pool of R161 before the Inventory is applied (R160). -/
def State.leastPool (s : State) (d : Nat) : Nat :=
  if s.applied then (upTo 12).foldl (fun b c => min b (s.pool d c)) (2 ^ 16) else 4096

/-- Limits of fields whose range the register tables give as numbers: a value outside is stored as the nearer limit. -/
def rangeOf : Reg → Nat → Option (Nat × Nat)
  | .TM_LIMITS, 8 => some (60, 100)
  | .TM_LIMITS, 0 => some (0, 100)
  | .LQ_EQ_CTRL, 12 => some (0, 10)
  | .LQ_EQ_CTRL, 0 => some (1, 255)
  | .LQ_EQ_BUDGET, 0 => some (1, 20)
  | .LQ_MARGIN_CTRL, 0 => some (1, 63)
  | .PT_CELLAR_CTRL, 16 => some (1, 1023)
  | .PT_CELLAR_CTRL, 0 => some (1, 10000)
  | .CL_CTRL, 23 => some (0, 2)
  | .CL_CTRL, 8 => some (1, 255)
  | .CL_REPLAY, 0 => some (10, 500)
  | .CL_DROUGHT, 16 => some (1, 255)
  | .BD_UNBIND_TMO, 0 => some (1, 65535)
  | .CA_CTRL, 16 => some (1, 255)
  | .CA_SNOOP_TMO, 0 => some (1, 65535)
  | .MR_TMO, 0 => some (1, 65535)
  | .OV_CTRL, 8 => some (1, 16)
  | .SC_ARB_WGT0_q, _ => some (1, 255)
  | .SC_ARB_WGT1_q, _ => some (1, 255)
  | .SC_ARB_WGT2_q, _ => some (1, 255)
  | .DM_Q_CFG, 0 => some (1, 255)
  | .DM_ENG_CTRL, 16 => some (1, 255)
  | .DM_ENG_CTRL, 0 => some (64, 512)
  | .PN_FREEZE_TMO, 0 => some (1, 65535)
  | .RS_CTRL, 0 => some (1, 65535)
  | .RS_SCRUB, 0 => some (1, 65535)
  | .RS_WDOG_CTRL, 0 => some (10, 65535)
  | .SP_SHUNT_LIM, 16 => some (1, 65535)
  | .SP_SHUNT_LIM, 0 => some (10, 300)
  | .SP_RAMP, 24 => some (100, 255)
  | .SP_RAMP, 12 => some (1, 255)
  | .SP_RAMP, 0 => some (1, 1000)
  | .SP_TIMERS, 14 => some (1, 600)
  | .SP_TIMERS, 0 => some (10, 10000)
  | .SP_FET_MODEL, 0 => some (1, 65535)
  | .PM_ATTIC_CTRL, 0 => some (0, 2048)
  | .MB_HATCH_CTRL, 16 => some (1, 65535)
  | .MB_HATCH_CTRL, 12 => some (0, 8)
  | .MB_HATCH_CTRL, 0 => some (1, 4095)
  | .MB_XBUS_CTRL_g, 28 => some (0, 2)
  | .MB_XBUS_CTRL_g, 0 => some (1, 65535)
  | _, _ => none

/-- What a field stores of a word written to its register. -/
def State.stored (s : State) (f : Fld) (l : Loc) (word : Nat) : Nat :=
  let v := bitsOf word f.hi f.lo
  match f.reg, f.lo with
  | .PD_DOM_REQ, 21 => 1
  | .PD_DOM_LULL_EN, 21 => if l.die = 0 then 0 else v
  | .LQ_CTRL, 4 => min v (s.rateCap l.die l.unit)
  | .CL_XOFF_CTRL, 0 => min v (s.leastPool l.die - 2688)
  | .XB_IN_CAP, 0 => if v = 0 then 64 else v
  | .XB_RESP_RESERVE, 0 => min v (s.rd F.XB_PART_SHARED_shared_total (dieL l.die) / 2)
  | .XB_CELLAR_TOTAL, 0 => min v (s.rd F.XB_PART_SHARED_shared_total (dieL l.die))
  | .LQ_MARGIN_CTRL, 16 => min v (marginCap (bitOf word 25))
  | .SC_SHP_CMD, 26 => if v = 3 then 0 else v
  | .PN_CMD, 24 => if v = 3 then 0 else v
  | .SP_FET_LIMIT, 16 => min v (bitsOf word 31 24)
  | r, k => match rangeOf r k with
    | some (lo, hi) => clampTo lo hi v
    | none => v

end Sys2Proof.Machine
end

