-- ==== Sys2Proof/Machine/BusOps.lean ====
section
/-! DEFINITION. A write of a whole word to a register that has no behaviour of its own, field by field (R13, R14, R454, R455), and
64-bit pairs (R8, R9). -/

namespace Sys2Proof.Machine

/-- A register that belongs to an instance: an owned queue or counter, whose Quiet fields the die register space cannot write
(chapter 11, R511). -/
def State.ownedReg (s : State) (r : Reg) (l : Loc) : Bool :=
  match r.info.blk with
  | .dmq => s.flag F.DM_Q_CFG_owned (unitL l.die l.unit)
  | .pm => (r = .EVT || r = .CNT_LO || r = .CNT_HI) && s.flag F.OWN_owned l
  | _ => false

/-- The owning block of a register runs, so that its Quiet fields are closed. -/
def State.blockRuns (s : State) (r : Reg) (l : Loc) : Bool :=
  match r.info.blk with
  | .lq => !s.quadOff l.die l.unit
  | .pt => s.pstate (portNo l.die l.unit) != 0
  | .cl => !(s.siteState l.die l.unit == 0 || s.siteState l.die l.unit == 6)
  | .dmq => s.qst l.die l.unit != 0
  | .sp => decide (4 ≤ s.slotState (portNo l.die l.unit)) && decide (s.slotState (portNo l.die l.unit) ≤ 6)
  | .pm =>
    if r = .EVT ∨ r = .CNT_LO ∨ r = .CNT_HI then s.flag F.EVT_en l
    else s.flag F.PM_ATTIC_CTRL_en (dieL l.die) || s.rd F.PM_ATTIC_STATUS_outstanding (dieL l.die) != 0
  | .mb => s.flag F.MB_XBUS_CTRL_g_en l
  | _ => false

/-- The owned_write bit of a block. -/
def ownedFld : Blk → Option Fld
  | .dmq => some F.DM_EVENT_owned_write
  | .pm => some F.PM_EVENT_owned_write
  | _ => none

/-- A Quiet write was ignored: because its block runs (R455), or because its queue or counter is owned. -/
def State.quietLost (s : State) (src : Src) (r : Reg) (l : Loc) : State :=
  let s := s.ignoredWrite src r l
  if s.ownedReg r l then
    match ownedFld r.info.blk with
    | some f => s.ev f (dieL l.die) (logUnit r.info.blk l)
    | none => s
  else s

/-- Does a write differ from a Quiet field's value in effect, in a field that is written? -/
def State.quietDiffers (s : State) (fs : List Fld) (l : Loc) (v : Nat) : Bool :=
  fs.any fun f => f.acc = .rw && f.cls = .quiet && s.stored f l v != s.rd f l

/-- One field of a write (R13, R14). WO fields have effects of their own. -/
def State.writeFld (s : State) (f : Fld) (l : Loc) (open_ : Bool) (v : Nat) : State :=
  match f.acc, f.cls with
  | .rw, .live => s.wr f l (s.stored f l v)
  | .rw, .staged => s.stage f l (s.stored f l v)
  | .rw, .quiet => if open_ then s.wr f l (s.stored f l v) else s
  | .w1c, _ => s.wr f l (s.rd f l &&& ((2 ^ f.width - 1) ^^^ bitsOf v f.hi f.lo))
  | _, _ => s

/-- A write of `v` to fields of one register: each by its class; the write is counted once when a Quiet field of it is ignored. A
register without power keeps nothing (R61). -/
def State.writeFlds (s : State) (src : Src) (r : Reg) (l : Loc) (fs : List Fld) (v : Nat) : State :=
  s.gated r l fun s =>
    let shut := s.ownedReg r l || s.blockRuns r l
    let t := s.forEach fs fun t f => t.writeFld f l (!shut) v
    if shut && s.quietDiffers fs l v then t.quietLost src r l else t

/-- A write to a register without behaviour of its own, but for the fields whose lowest bits are listed. -/
def State.plainWrite (s : State) (src : Src) (r : Reg) (l : Loc) (v : Nat) (except : List Nat) : State :=
  s.writeFlds src r l (r.fields.filter fun f => !except.contains f.lo) v

/-! ## Pairs -/

/-- A write to the low word of a pair waits for the high word (R8). -/
def State.holdLow (s : State) (r : Reg) (l : Loc) (v : Nat) : State :=
  s.gated r l fun s => { s with held := Tbl.put s.held (rkey r l) v }

/-- What the low word of a pair takes at the commit: the word held, or the value in effect where none was written. -/
def State.heldLow (s : State) (lo : Reg) (l : Loc) : Nat :=
  match Tbl.get s.held (rkey lo l) with
  | some v => v
  | none => s.word lo l

/-- A write to the high word commits both (R8). -/
def State.commitPair (s : State) (src : Src) (lo hi : Reg) (l : Loc) (v : Nat) : State :=
  s.gated hi l fun s =>
    let low := s.heldLow lo l
    let shut := s.ownedReg hi l || s.blockRuns hi l
    let lost : Bool := shut && (s.quietDiffers lo.fields l low || s.quietDiffers hi.fields l v)
    let t := (s.forEach lo.fields fun t f => t.writeFld f l (!shut) low).forEach hi.fields fun t f => t.writeFld f l (!shut) v
    let t := { t with held := Tbl.del t.held (rkey lo l) }
    if lost then t.quietLost src hi l else t

end Sys2Proof.Machine
end

