-- ==== Sys2Proof/Machine/Monitor.lean ====
section
/-! DEFINITION. The performance monitor's commands (chapter 19): counters, Frost, the Attic. While D20 is not On, writes to its
registers are discarded (Table 19.3). -/

namespace Sys2Proof.Machine

/-- A register write to the monitor of die `d`. -/
def onPm (src : Src) (d : Nat) (s : State) (f : State → State) : Outcome :=
  onWrite src d s fun s => if s.domOn d 20 then f s else s

/-! ## Event counters (R505 to R511) -/

/-- The units of an event, as a range; none for an event that Table 19.1 does not have. Events with unit "none" have unit 0 alone. -/
def eventUnits (e : Nat) : Option (Nat × Nat) :=
  if e = 0x0000 ∨ (0x1000 ≤ e ∧ e ≤ 0x1004) ∨ e = 0x5000 ∨ e = 0x5001 ∨ e = 0xC000 then some (0, 15)
  else if 0x2000 ≤ e ∧ e ≤ 0x2004 then some (0, 6)
  else if 0x3000 ≤ e ∧ e ≤ 0x3002 then some (0, 31)
  else if e = 0x4000 ∨ e = 0x4001 then some (0, 1023)
  else if 0x7000 ≤ e ∧ e ≤ 0x7003 then some (1, 4095)
  else if 0x9000 ≤ e ∧ e ≤ 0x9004 then some (0, 2047)
  else if e = 0x9010 then some (0, 7)
  else if e = 0xB000 ∨ e = 0xB001 then some (0, 5)
  else if e = 0xF000 then some (0, 4)
  else if e = 0x3003 ∨ e = 0x5002 ∨ (0x6000 ≤ e ∧ e ≤ 0x6003) ∨ e = 0x8000 ∨ e = 0x8001 ∨ e = 0xD000 ∨ e = 0xD001 ∨ e = 0xE000 then
    some (0, 0)
  else none

/-- An event whose unit is "none": unit_all is ignored, and unit must be 0. -/
def eventPlain (e : Nat) : Bool := eventUnits e == some (0, 0)

/-- May counter `k` be enabled with the fields in force (R508)? On an owned counter the unit is the instance (R511); with unit_all
the unit field selects nothing. -/
def State.evtOk (s : State) (d k : Nat) : Bool :=
  let l := idxL d 0 k
  let e := s.rd F.EVT_event l
  let u := s.rd F.EVT_unit l
  match eventUnits e with
  | none => false
  | some (lo, hi) =>
    s.flag F.OWN_owned l || (s.flag F.EVT_unit_all l && !eventPlain e) || (decide (lo ≤ u) && decide (u ≤ hi))

/-- An unowned counter is free for the Pantry while its en is 0 (R348, Table 12.6). -/
def State.showFreeCnt (s : State) (d : Nat) : State :=
  s.wr F.PN_FREE_counters_free (dieL d)
    ((upTo 512).filter fun k => !s.flag F.EVT_en (idxL d 0 k) && !s.flag F.OWN_owned (idxL d 0 k)).length

/-- A write to EVT (R508, R509): the Quiet fields by the state of the counter, then en. -/
def State.evtWrite (s : State) (src : Src) (d k v : Nat) : State :=
  let l := idxL d 0 k
  let s := s.plainWrite src .EVT l v [31]
  let s := if bitOf v 31 then
      (if s.evtOk d k then s.cntSet d k true else (s.cntSet d k false).ev F.PM_EVENT_evt_refused (dieL d) k)
    else s.cntSet d k false
  s.showFreeCnt d

/-- COUNTER_EVT_WRITE. -/
def execCounterEvtWrite (src : Src) (d : Fin 8) (k : Fin 512) (val : BitVec 32) (s : State) : Outcome :=
  onPm src d s fun s => s.evtWrite src d k val.toNat

/-- The commit of a counter's value (R509): Quiet, and without effect on ovf. -/
def State.cntWrite (s : State) (src : Src) (d k v : Nat) : State :=
  let l := idxL d 0 k
  let new := s.heldLow .CNT_LO l + 2 ^ 32 * (v % 2 ^ 16)
  let s' : State := { s with held := Tbl.del s.held (rkey .CNT_LO l) }
  if s.ownedReg .CNT_HI l || s.blockRuns .CNT_HI l then
    (if new = s.cntVal d k then s' else s'.quietLost src .CNT_HI l)
  else { s' with cnt := Tbl.set s'.cnt (cntKey d k) new 0 }

/-- COUNTER_CAPTURE_READ: through the register space or a doorbell page (R513). -/
def execCounterCaptureRead (d : Fin 8) (k : Fin 512) (s : State) : Outcome :=
  onDie d s fun s => if s.serving ∧ s.domOn d 20 then s.cntCapture d k else s

/-- COUNTER_WRAP: one more of its event at 2^48 − 1 (R510). -/
def execCounterWrap (d : Fin 8) (k : Fin 512) (s : State) : Outcome :=
  onDie d s fun s =>
    if s.flag F.EVT_en (idxL d 0 k) ∧ s.domOn d 20 ∧ s.cntVal d k = 2 ^ 48 - 1 then s.cntAdd d k 1 else s

/-! ## Frost (R514 to R516) -/

/-- The state that PM_FROST_STATUS shows: armed, or held after a first snap, or none. -/
def State.showFrost (s : State) (d : Nat) : State :=
  let l := dieL d
  s.wr F.PM_FROST_STATUS_state l
    (if (Tbl.get s.frost d).isSome then 1 else if s.rd64 F.PM_FROST_TIME_LO_snapped F.PM_FROST_TIME_HI_snapped l = 0 then 0 else 2)

/-- A die is armed; the new arm replaces the old. -/
def State.frostArmDie (s : State) (d t : Nat) (all : Bool) : State :=
  ({ s with frost := Tbl.put s.frost d ⟨t, all⟩ }).showFrost d

/-- A die's arm, if any, is gone. -/
def State.frostDrop (s : State) (d : Nat) : State := ({ s with frost := Tbl.del s.frost d }).showFrost d

/-- An arm is refused (R514). -/
def State.frostRefuse (s : State) (d : Nat) : State := s.ev F.PM_EVENT_frost_refused (dieL d) 0

/-- The target in effect. -/
def State.frostTarget (s : State) (d : Nat) : Nat := s.rd64 F.PM_FROST_AT_LO_target F.PM_FROST_AT_HI_target (dieL d)

/-- The other dies of the package. -/
def State.otherDies (s : State) : List Nat := (upTo s.part.dies).filter (· != 0)

/-- Every counter of a die is copied into its shadow (R515). -/
def State.frostSnap (s : State) (d t : Nat) : State :=
  let l := dieL d
  let now := s.now d
  let id := (s.rd F.PM_FROST_STATUS_frost_id l + 1) % 256
  let s := s.forEach (upTo 512) fun s k =>
    let c := idxL d 0 k
    let v := s.cntVal d k
    (((s.wr F.SHADOW_LO_shadow_lo c v).wr F.SHADOW_HI_shadow_hi c (v / 2 ^ 32)).wrB F.SHADOW_HI_ovf c (s.cntOvf d k)).wr
      F.SHADOW_HI_frost_id c id
  let s := (s.wr64 F.PM_FROST_TIME_LO_snapped F.PM_FROST_TIME_HI_snapped l now).wr F.PM_FROST_STATUS_frost_id l id
  let s := (s.wrB F.PM_FROST_STATUS_late l (decide (t < now))).wrB F.PM_FROST_STATUS_unaligned l
    (!s.flag (F.CK_FTIME_STATUS_aligned_mask d) pkgL)
  (s.frostDrop d).ev F.PM_EVENT_frost_done l 0

/-- A die's arm is cancelled; a snap of the same cycle wins (Table 19.3). -/
def State.frostCancelDie (s : State) (d : Nat) : State :=
  match Tbl.get s.frost d with
  | some a => if a.at_ ≤ s.now d ∧ s.domOn d 20 then s.frostSnap d a.at_ else s.frostDrop d
  | none => s.frostDrop d

/-- go of PM_FROST_CTRL: op 0 arms every die from die 0, op 1 this die; op 2 cancels. -/
def State.frostGo (s : State) (d op : Nat) : State :=
  let s := s.wr F.PM_FROST_CTRL_op (dieL d) op
  let t := s.frostTarget d
  match op with
  | 0 =>
    if d ≠ 0 ∨ t < s.now d + 4096 then s.frostRefuse d
    else
      let s := (s.forEach (upTo 8) fun s k => s.wrB (F.PM_FROST_STATUS_ack_mask k) (dieL 0) (k == 0)).frostArmDie 0 t true
      s.forEach s.otherDies fun s k => s.emit (.frostArm k t)
  | 1 => if t < s.now d + 4096 then s.frostRefuse d else s.frostArmDie d t false
  | 2 =>
    if d ≠ 0 then s.frostCancelDie d
    else
      let gone := s.otherDies.filter fun k => (Tbl.get s.frost k).any fun a => a.all
      (s.frostCancelDie 0).forEach gone fun s k => (s.frostCancelDie k).emit (.frostCancel k)
  | _ => s.frostRefuse d

/-- FROST_ARM_ALL. -/
def execFrostArmAll (src : Src) (d : Fin 8) (s : State) : Outcome := onPm src d s fun s => s.frostGo d 0

/-- FROST_ARM_DIE. -/
def execFrostArmDie (src : Src) (d : Fin 8) (s : State) : Outcome := onPm src d s fun s => s.frostGo d 1

/-- FROST_CANCEL. -/
def execFrostCancel (src : Src) (d : Fin 8) (s : State) : Outcome := onPm src d s fun s => s.frostGo d 2

/-- FROST_ARM_RECEIVE: the die takes the arm and acknowledges it. -/
def execFrostArmReceive (d : Fin 8) (target : Nat) (s : State) : Outcome :=
  onDie d s fun s => if d.val ≠ 0 ∧ s.domOn d 20 then (s.frostArmDie d target true).emit (.frostAck d) else s

/-- FROST_ACK_RECEIVE: die `d` has acknowledged. -/
def execFrostAckReceive (d : Fin 8) (s : State) : Outcome :=
  onDie d s fun s => if s.domOn 0 20 then s.on (F.PM_FROST_STATUS_ack_mask d) (dieL 0) else s

/-- FROST_SNAP: the fabric time of an armed die has reached its target. -/
def execFrostSnap (d : Fin 8) (s : State) : Outcome :=
  onDie d s fun s => match Tbl.get s.frost d with
    | none => s
    | some a => if a.at_ ≤ s.now d ∧ s.domOn d 20 then s.frostSnap d a.at_ else s

/-! ## The Attic (R520, R521) -/

/-- A write to PM_ATTIC_CTRL: a rise of en empties the Attic's pointers. -/
def State.atticCtrl (s : State) (src : Src) (d v : Nat) : State :=
  let l := dieL d
  let rise : Bool := bitOf v 31 && !s.flag F.PM_ATTIC_CTRL_en l
  let s := s.plainWrite src .PM_ATTIC_CTRL l v []
  if rise then
    let s := { s with atticSeen := Tbl.del s.atticSeen d }
    (((s.off F.PM_ATTIC_HEAD_head l).off F.PM_ATTIC_TAIL_tail l).off F.PM_ATTIC_STATUS_wrapped l).off F.PM_ATTIC_STATUS_full l
  else s

/-- ATTIC_EN_WRITE. -/
def execAtticEnWrite (src : Src) (d : Fin 8) (val : BitVec 32) (s : State) : Outcome :=
  onPm src d s fun s => s.atticCtrl src d val.toNat

/-- A write of tail: full reads 1 while head − tail is 2,048. -/
def State.atticTail (s : State) (d v : Nat) : State :=
  let l := dieL d
  let s := s.wr F.PM_ATTIC_TAIL_tail l v
  s.wrB F.PM_ATTIC_STATUS_full l (s.flag F.PM_ATTIC_CTRL_mode l && s.atticFill d == 2048)

/-- ATTIC_TAIL_WRITE. -/
def execAtticTailWrite (src : Src) (d : Fin 8) (val : BitVec 32) (s : State) : Outcome :=
  onPm src d s fun s => s.atticTail d val.toNat

end Sys2Proof.Machine
end

