-- ==== Sys2Proof/Machine/Flags.lean ====
section
/-! DEFINITION. Registers that show what the machine is at, computed at the read: fabric time, RAS pending bits and ALERT#, load and
interrupt summaries, the monitor's totals. -/

namespace Sys2Proof.Machine

/-! ## Pending bits and ALERT# (R388, Table 13.9) -/

/-- Bits of an event register that set no pending bit: ignored_write and the go-while-busy events. -/
def quietBits : Reg → List Nat
  | .LQ_EVENT => [F.LQ_EVENT_ignored_write.lo]
  | .PT_EVENT => [F.PT_EVENT_ignored_write.lo]
  | .CL_EVENT => [F.CL_EVENT_ignored_write.lo]
  | .XB_EVENT => [F.XB_EVENT_grp_busy.lo]
  | .SC_EVENT => [F.SC_EVENT_tbl_busy.lo]
  | .BD_EVENT => [F.BD_EVENT_tbl_busy.lo]
  | .CA_EVENT => [F.CA_EVENT_tbl_busy.lo]
  | .MR_EVENT => [F.MR_EVENT_tbl_busy.lo]
  | .OV_EVENT => [F.OV_EVENT_tbl_busy.lo]
  | .DM_EVENT => [F.DM_EVENT_ignored_write.lo]
  | .PN_EVENT => [F.PN_EVENT_tbl_busy.lo]
  | .MB_EVENT => [F.MB_EVENT_ignored_write.lo]
  | .SP_EVENT => [F.SP_EVENT_ignored_write.lo]
  | .PM_EVENT => [F.PM_EVENT_ignored_write.lo]
  | .INV_EVENT => [F.INV_EVENT_inv_busy.lo]
  | _ => []

/-- An event register has a bit set that counts. -/
def State.evSet (s : State) (r : Reg) (l : Loc) : Bool :=
  r.fields.any fun f => f.acc = .w1c && !(quietBits r).contains f.lo && s.flag f l

/-- Some unit of a die has such a bit. -/
def State.evUnits (s : State) (r : Reg) (d n : Nat) : Bool := (upTo n).any fun u => s.evSet r (unitL d u)

/-- Bit `b` of RS_STATUS pending. -/
def State.pendingBit (s : State) (d b : Nat) : Bool :=
  let l := dieL d
  match b with
  | 0 => s.evUnits .LQ_EVENT d 16
  | 1 => s.evUnits .PT_EVENT d 16
  | 2 => s.evUnits .CL_EVENT d 7
  | 3 => s.evSet .XB_EVENT l
  | 4 => s.evSet .SC_EVENT l
  | 5 => s.evSet .BD_EVENT l
  | 6 => s.evSet .CA_EVENT l
  | 7 => s.evSet .MR_EVENT l
  | 8 => s.evSet .OV_EVENT l
  | 9 => s.evSet .DM_EVENT l
  | 10 => s.evSet .PN_EVENT l
  | 11 => s.evSet .MB_EVENT l
  | 12 => s.evUnits .SP_EVENT d 16
  | 13 => s.domOn d 20 && s.evSet .PM_EVENT l
  | 14 => s.evSet .TM_STATUS l || s.evSet .PD_DOM_REFUSED l
      || (d == 0 && (s.flag F.PD_PKG_CTRL_p1_refused pkgL || s.evSet .INV_EVENT pkgL || s.evSet .SEC_EVENT pkgL || s.evSet .CH_EVENT pkgL))
  | _ => s.evSet .RS_EVENT l

/-- A number of which bit `i` is `p i`, for `i` below `n`. -/
def bitsWhere (n : Nat) (p : Nat → Bool) : Nat := ((upTo n).map fun i => if p i then 2 ^ i else 0).sum

/-- RS_STATUS pending. -/
def State.pendingBits (s : State) (d : Nat) : Nat := bitsWhere 16 (s.pendingBit d)

/-- The ALERT# pin: asserted while start-up has halted (R532), and while the package is out of reset and some die has an unmasked
pending bit or unmasked outside. -/
def State.alert (s : State) : Bool :=
  s.rd F.CK_BOOT_STATUS_stage pkgL == 15 || !s.pkg.inReset && (upTo s.part.dies).any fun d =>
    let mask := s.rd F.RS_ALERT_MASK_mask (dieL d)
    (upTo 16).any (fun b => s.pendingBit d b && !bitOf mask b)
      || (s.flag F.RS_STATUS_outside (dieL d) && !bitOf mask 15)
      || s.flag F.TM_STATUS_throttle_active (dieL d)

/-! ## Other computed registers -/

/-- Age in µs of the oldest accepted command of a die that has not started (R423). -/
def State.oldestUs (s : State) (d : Nat) : Nat :=
  (upTo 6).foldl (fun b c => max b (((s.chan d c).queue.map fun q => (s.now d - q.time) / usCycles).foldl max 0)) 0

/-- Milliseconds that a session has left (R477), rounded up. -/
def State.sessionMs (s : State) (c : Nat) : Nat :=
  match Tbl.get s.strong.sessionEnd c with
  | some t => (t - s.now 0 + msCycles - 1) / msCycles
  | none => 0

/-- Bits `32 h` to `32 h + 31` of MB_DM_INT_SUM (R422). -/
def State.intSum (s : State) (d h : Nat) : Nat := bitsWhere 32 fun k => s.word .MB_DM_INT_k (idxL d 0 (32 * h + k)) != 0

/-- PM_STATUS (Table 19.6). -/
def State.pmStatus (s : State) (d : Nat) : Nat :=
  2 ^ 31 + 2 ^ 16 * (Tbl.getD s.cntOn d []).length + ((upTo 512).filter fun k => s.flag F.OWN_owned (idxL d 0 k)).length

/-- Does the quad's slot controller serve no slot (R390)? -/
def State.noSlot (s : State) (l : Loc) : Bool := !s.isSlot (portNo l.die l.unit)

/-- Does a register show nothing: a monitor register while D20 is not On (Table 19.3), a slot controller without a slot (R390), an
admin window without function 1 (R350), credits in an SK8080 and XOFF outside it (R160, Table 5.20), a port register of an absorbed quad (R113)? -/
def State.dark (s : State) (r : Reg) (l : Loc) : Bool :=
  match r.info.blk with
  | .pm => !s.domOn l.die 20
  | .sp => s.noSlot l
  | .pnc => l.unit != 0 && !s.pantryFn.contains (portNo l.die (l.unit - 1))
  | .cl => if s.xoffMode then r = .CL_CREDIT_ADV_c || r = .CL_CREDIT_AVAIL_c else r = .CL_XOFF || r = .CL_XOFF_CTRL
  | .pt => r != .PT_CTRL && s.role (portNo l.die l.unit) == 3
  | .sc => (r = .SC_ARB_PRIO_q || r = .SC_ARB_WGT0_q || r = .SC_ARB_WGT1_q || r = .SC_ARB_WGT2_q || r = .SC_ARB_STARVE_q)
      && s.role (portNo l.die l.idx) == 3
  | _ => false

/-- Frames that a port's Cellar has released have not all left (Table 4.11, cellar 2). A flush disposes of its frames at once, so that
no read finds it under way. -/
def State.releasing (s : State) (p : Nat) : Bool :=
  s.rd F.PT_STATUS_cellar (portL p) == 0 && (s.xbd (portDie p)).queue.any fun e => e.held && e.msg.dst == p

/-- The value that a read of a register returns, apart from the capture of pairs. -/
def State.shown (s : State) (r : Reg) (l : Loc) : Nat :=
  let d := l.die
  if s.dark r l then 0
  else match r with
    | .CK_FTIME_LO => s.now 0 % 2 ^ 32
    | .CK_FTIME_HI => s.now 0 / 2 ^ 32 % 2 ^ 32
    | .CK_DIE_FTIME_LO => s.now d % 2 ^ 32
    | .CK_DIE_FTIME_HI => s.now d / 2 ^ 32 % 2 ^ 32
    | .SP_STATUS => if s.pkg.lowRails.contains (d, 6) then s.word r l - 2 ^ F.SP_STATUS_perst.lo * s.rd F.SP_STATUS_perst l else s.word r l
    | .PT_STATUS => if s.releasing (portNo d l.unit) then s.word r l + 2 * 2 ^ F.PT_STATUS_cellar.lo else s.word r l
    | .PT_CTRL => if s.role (portNo d l.unit) = 3 then 3 * 2 ^ F.PT_CTRL_role.lo else s.word r l
    | .DM_Q_STATUS => s.qStatus d l.unit
    | .OV_DATA1 => s.word r l + (s.ovd d).data1
    | .RS_STATUS => s.word r l + s.pendingBits d
    | .PN_STATUS => s.word r l + (if s.domUsable d 19 ∧ s.applied then 2 ^ F.PN_STATUS_ready.lo else 0)
    | .MB_OVERCAST => if s.running d then s.word r l else 3 * 2 ^ F.MB_OVERCAST_level.lo
    | .MB_OVERCAST_AGE => s.oldestUs d
    | .MB_DM_INT_SUM_LO => s.intSum d 0
    | .MB_DM_INT_SUM_HI => s.intSum d 1
    | .PM_STATUS => s.pmStatus d
    | .CNT_LO => s.cntVal d l.idx % 2 ^ 32
    | .SEC_SESSION_c => 2 ^ F.SEC_SESSION_c_open.lo * s.rd F.SEC_SESSION_c_open l + s.sessionMs l.idx
    | _ => s.word r l

end Sys2Proof.Machine
end

