-- ==== Sys2Proof/Machine/HatchOps.lean ====
section
/-! DEFINITION. Operations of the Hatch that need no register access: the external buses (R433 to R435), delayed reads (R429, R430)
and the prefetch buffer (R431, R432). -/

namespace Sys2Proof.Machine

/-! ## External windows (R433) -/

/-- Die, bus, target and register offset of an address in an external window. -/
def winAt (a : Nat) : Option (Nat × Nat × Nat × Nat) :=
  match addrDie a with
  | none => none
  | some d =>
    let o := a % 0x100_0000
    if 0x7C_0000 ≤ o ∧ o < 0x7E_0000 then
      let w := o - 0x7C_0000
      some (d, w / 0x8000, w % 0x8000 / 256, w % 256)
    else none

/-- The address of a register of a target in an external window. -/
def winAddr (d g target reg : Nat) : Nat := 0x100_0000 * (d + 1) + 0x7C_0000 + 0x8000 * g + target * 256 + reg

/-- What a read returns that gets no data. -/
def allOnes : Nat := 0xFFFFFFFF

/-! ## Prefetch (R431, R432) -/

/-- The Shelf block, or the external target, that an address belongs to. -/
def shelfBlk (a : Nat) : Nat × Nat × Nat :=
  match winAt a with
  | some (d, g, t, _) => (d + 1, 1000 + g, t)
  | none =>
    match addrDie a with
    | none => (0, a / 0x1_0000, 0)
    | some d => match blkAt (a % 0x100_0000) with
      | some (b, u) => (d + 1, b.ctorIdx, u)
      | none => (d + 1, 500, a % 0x100_0000 / 0x1000)

/-- The end of the marked range of a die that holds an address. -/
def State.rangeEnd (s : State) (d a : Nat) : Option Nat :=
  ((upTo 16).find? fun r =>
    s.flag F.MB_RANGE_r_word0_valid (idxL d 0 r) && decide (s.rd F.MB_RANGE_r_word0_base (idxL d 0 r) * 256 ≤ a)
      && decide (a < (s.rd F.MB_RANGE_r_word1_limit (idxL d 0 r) + 1) * 256)).map
    fun r => (s.rd F.MB_RANGE_r_word1_limit (idxL d 0 r) + 1) * 256

/-- How many words a read of `a` reads: one outside a marked range; pf_words, to the end of the range, inside. -/
def State.fillWords (s : State) (d a : Nat) : Nat :=
  match s.rangeEnd d a with
  | some e => max 1 (min (s.rd F.MB_HATCH_CTRL_pf_words (dieL d)) ((e - a) / 4))
  | none => 1

/-- Held words are discarded and counted. -/
def State.pfDrop (s : State) (d : Nat) : State :=
  match (s.hatch d).pf with
  | none => s
  | some p =>
    let s := s.updHatch d fun h => { h with pf := none }
    (s.add F.MB_HATCH_CNT0_pf_discard (dieL d) p.words.length).ev F.MB_EVENT_pf_discard (dieL d) 0

/-- A read by a source of an address: the held word, if it is the next one; held words of the same source go otherwise. -/
def State.pfTake (s : State) (d src a : Nat) : Option Nat × State :=
  match (s.hatch d).pf with
  | none => (none, s)
  | some p =>
    if p.src ≠ src then (none, s)
    else if p.addr ≠ a then (none, s.pfDrop d)
    else match p.words with
      | [] => (none, s)
      | w :: r => (some w, s.updHatch d fun h => { h with pf := if r.isEmpty then none else some ⟨src, a + 4, r⟩ })

/-- The words after the first of a read of `a` are kept for its source. -/
def State.pfFill (s : State) (d src a : Nat) (rest : List Nat) : State :=
  if rest.isEmpty then s else (s.pfDrop d).updHatch d fun h => { h with pf := some ⟨src, a + 4, rest⟩ }

/-- A write to an address by any source discards the words of its Shelf block or target that a Hatch holds. -/
def State.pfWritten (s : State) (a : Nat) : State :=
  s.forEach s.dies fun s d => match (s.hatch d).pf with
    | some p => if shelfBlk p.addr = shelfBlk a then s.pfDrop d else s
    | none => s

/-! ## Delayed reads (R429) -/

/-- The source number of the Warden's delayed reads at the prefetch buffer. -/
def drSrc : Nat := 4

/-- A delayed read has its data. -/
def State.drDone (s : State) (d k a w : Nat) (rest : List Nat) : State :=
  let l := idxL d 0 k
  let s := ((s.off F.MB_DR_CMD_s_busy l).on F.MB_DR_CMD_s_done l).wr F.MB_DR_DATA_s_data l w
  let s := s.updHatch d fun h => { h with backs := Tbl.del h.backs k, ahead := if h.ahead = some k then none else h.ahead }
  s.pfFill d drSrc a rest

/-! ## Buses -/

/-- Transactions of a bus, the first in progress. -/
def State.busList (s : State) (d g : Nat) : List XTx := Tbl.getD (s.hatch d).bus g []

/-- busy of a bus. -/
def State.showBus (s : State) (d g : Nat) : State :=
  s.wrB F.MB_XBUS_STATUS_g_busy (idxL d 0 g) (!(s.busList d g).isEmpty && !(s.hatch d).clearing.contains g)

/-- The byte-enabled bytes of a word. -/
def beMask (be w : Nat) : Nat := ((upTo 4).map fun k => if bitOf be k then 2 ^ (8 * k) * (w / 2 ^ (8 * k) % 256) else 0).sum

/-- The word that the entry in service waited for has come; the entry goes on with its next word. -/
def State.inboundWord (s : State) (d a : Nat) (isRead : Bool) (w : Nat) (rest : List Nat) : State :=
  match (s.hatch d).inbound with
  | [] => s
  | e :: r =>
    let be := (e.todo.headD (0, 0, 0)).2.1
    let s := s.updHatch d fun h =>
      { h with inbound := { e with todo := e.todo.drop 1, waits := false, got := if isRead then e.got ++ [beMask be w] else e.got } :: r }
    s.pfFill d e.fm a rest

/-- The first transaction of a bus ends with words read: who asked for it has them. -/
def State.xDone (s : State) (d g w : Nat) (rest : List Nat) : State :=
  match s.busList d g with
  | [] => s
  | t :: r =>
    let s := s.updHatch d fun h => { h with bus := Tbl.set h.bus g r [] }
    let a := winAddr d g t.target t.reg
    match t.who with
    | .inbound => s.inboundWord d a (t.words != 0) w rest
    | .dr k => s.drDone d k a w rest
    | .core => s

/-- A transaction ends in error (R434): counted, and a read gets all ones. -/
def State.xFail (s : State) (d g : Nat) (nack : Bool) : State :=
  let l := idxL d 0 g
  let s := if nack then (s.inc F.MB_XBUS_STATUS_g_nacks l).ev F.MB_EVENT_nack (dieL d) g
    else (s.inc F.MB_XBUS_STATUS_g_bus_errs l).ev F.MB_EVENT_bus_err (dieL d) g
  s.xDone d g allOnes []

/-- The first transaction of a bus begins; on a bus that is disabled or stuck, it and those after it end as errors at once. -/
def State.busGo : Nat → State → Nat → Nat → State
  | 0, s, _, _ => s
  | n + 1, s, d, g =>
    match s.busList d g with
    | [] => s
    | t :: _ =>
      if !s.flag F.MB_XBUS_CTRL_g_en (idxL d 0 g) || s.flag F.MB_XBUS_STATUS_g_stuck (idxL d 0 g) then
        State.busGo n (s.xFail d g false) d g
      else if (s.hatch d).clearing.contains g || !s.io33 d then s
      else s.emit (.xbus d g t)

/-- The bus goes on with its next transaction. -/
def State.busNext (s : State) (d g : Nat) : State := (State.busGo (s.busList d g).length s d g).showBus d g

/-- A transaction joins its bus. -/
def State.busAdd (s : State) (d g : Nat) (t : XTx) : State :=
  let was := s.busList d g
  let s := s.updHatch d fun h => { h with bus := Tbl.put h.bus g (was ++ [t]) }
  if was.isEmpty then s.busNext d g else s

/-- The delayed read of a slot waits on a bus. -/
def State.drOnBus (s : State) (d k : Nat) : Bool := (upTo 4).any fun g => (s.busList d g).any fun t => t.who == .dr k

/-- A delayed read of the register space (R429, R432). -/
def State.drRegister (s : State) (d k a : Nat) : State :=
  match s.pfTake d drSrc a with
  | (some w, s) => s.drDone d k a w []
  | (none, s) =>
    let n := s.fillWords d a
    match winAt a with
    | some (wd, g, t, r) => if wd = d then s.busAdd d g ⟨.dr k, t, r, n, []⟩ else s.emit (.readReg d k a n)
    | none => s.emit (.readReg d k a n)

/-- go of MB_DR_CMD_s: ignored while busy. -/
def State.drStart (s : State) (d k : Nat) (space : Bool) (addr : Nat) : State :=
  let l := idxL d 0 k
  if s.flag F.MB_DR_CMD_s_busy l then s
  else
    let s := (s.wrB F.MB_DR_CMD_s_space l space).wr F.MB_DR_CMD_s_addr l addr
    let s := ((s.drFree d k).on F.MB_DR_CMD_s_busy l)
    if space then s.drMemory d k else s.drRegister d k (addr / 4 * 4)

/-- A read of MB_DR_DATA_s: the data, and the slot is free. -/
def State.drCollect (s : State) (d k : Nat) : Nat × State :=
  (s.rd F.MB_DR_DATA_s_data (idxL d 0 k), if s.flag F.MB_DR_CMD_s_done (idxL d 0 k) then s.drFree d k else s)

end Sys2Proof.Machine
end

