-- ==== Sys2Proof/Machine/Bus.lean ====
section
/-! DEFINITION. Reads and writes of the register space (R7 to R15, R42 to R44), word by word: every register with its own behaviour
goes to the operation that the commands of its row use. -/

namespace Sys2Proof.Machine

/-! ## Doorbell pages (R350, R351, Table 12.2) -/

/-- Die, instance and offset of an address in a doorbell page. -/
def pageAt (a : Nat) : Option (Nat × Nat × Nat) :=
  match addrDie a with
  | none => none
  | some d =>
    let o := a % 0x100_0000
    if 0x80_0000 ≤ o ∧ o < 0xA0_0000 then some (d, (o - 0x80_0000) / 0x1000, o % 0x1000) else none

/-! ## Reads -/

/-- A read of the low word of a pair captures the high word (R9). -/
def State.pairRead (s : State) (lo hi : Reg) (l : Loc) : Nat × State :=
  (s.shown lo l, { s with capture := Tbl.put s.capture (rkey hi l) (s.shown hi l) })

/-- What the high word of a pair reads as before the low word has been read (R9): the reset value that its table gives, which for
LC_DEVICE_ID_HI is per fuses (Table 17.15) and for SEC_CTR_c_HI per store (Table 17.16). -/
def State.rstWord (s : State) (r : Reg) (l : Loc) : Nat :=
  if r = .LC_DEVICE_ID_HI ∨ r = .SEC_CTR_c_HI then s.word r l else (r.fields.map fun f => 2 ^ f.lo * s.rst f l).sum

/-- A read of a register. -/
def State.readAt (s : State) (r : Reg) (l : Loc) : Nat × State :=
  if s.dark r l then (0, s)
  else match r with
    | .CNT_LO => let t := s.cntCapture l.die l.idx; (t.rd F.CNT_LO_value_lo l, t)
    | .CNT_HI => (s.word .CNT_HI l, s)
    | .MB_DR_DATA_s => s.drCollect l.die l.idx
    | _ => match pairHigh r, pairLow r with
      | some hi, _ => s.pairRead r hi l
      | none, some _ => ((Tbl.get s.capture (rkey r l)).getD (s.rstWord r l), s)
      | none, none => (s.shown r l, s)

/-- Is an address one of the registers or doorbell pages of domain D19 (Table 2.8)? -/
def inD19 (a : Nat) : Bool :=
  (pageAt a).isSome || match regAt a with
    | some (r, _) => r.info.blk == .dmq || r.info.blk == .pn || r.info.blk == .pnc
    | none => false

/-- A register access to D19 is work for it (R67). -/
def State.wakeD19 (s : State) (a : Nat) : State :=
  if inD19 a then s.wake ((addrDie a).getD 0) 19 else s

/-- A read of the register space by 32-bit word (R10, R11). -/
def State.readReg (s : State) (a : Nat) : Nat × State :=
  if !s.present a then (allOnes, s)
  else
    let s := s.wakeD19 a
    match pageAt a with
    | some (d, i, o) => s.pageRead d i o
    | none => match regAt a with
      | some (r, l) => s.readAt r l
      | none => (0, s)

/-! ## Writes -/

/-- go of INV_CMD (Table 16.12, Table 16.9): ignored while busy; op 3 does nothing. -/
def State.invGo (s : State) (op slot : Nat) (chan : Option Nat) : State :=
  if s.flag F.INV_CMD_busy pkgL then s.ev F.INV_EVENT_inv_busy pkgL 0
  else
    let s := (s.wr F.INV_CMD_op pkgL op).wr F.INV_CMD_slot pkgL slot
    if op = 3 then s else { s.on F.INV_CMD_busy pkgL with inv := { s.inv with op := some ⟨op, slot, chan⟩ } }

/-- A write of LQ_CTRL. A write of max_rate ends a cap of code 2 (R372). -/
def State.lqCtrl (s : State) (src : Src) (l : Loc) (v : Nat) : State :=
  let p := portNo l.die l.unit
  let s := s.plainWrite src .LQ_CTRL l v [0]
  let s := s.updPort (s.ownerPort p) fun x => { x with capped2 := false }
  if bitOf v 0 = s.flag F.LQ_CTRL_quad_en l then s else s.setQuadEn l.die l.unit (bitOf v 0)

/-- What LQ_MARGIN_CTRL asks (Table 3.21). -/
def marginAsk (v : Nat) : MarginAsk :=
  ⟨Fin.ofNat 4 (bitsOf v 27 26), bitOf v 25, bitOf v 24, Fin.ofNat 128 (bitsOf v 22 16), Fin.ofNat 64 (bitsOf v 5 0)⟩

/-- A write of CL_CTRL. -/
def State.clCtrl (s : State) (src : Src) (l : Loc) (v : Nat) : State :=
  let s := s.plainWrite src .CL_CTRL l v [0]
  let s := if bitOf v 0 = s.flag F.CL_CTRL_site_en l then s else s.setSiteEn l.die l.unit (bitOf v 0)
  let s := if bitOf v 31 then s.siteRetrain l.die l.unit 0 else s
  let s := if bitOf v 30 then s.retireSite l.die l.unit else s
  if bitOf v 29 then s.reviveSite l.die l.unit else s

/-- A write of CL_BARO_THR: ignored whole where it breaks fail < spare_thr < accept (R166). -/
def State.clThr (s : State) (src : Src) (l : Loc) (v : Nat) : State :=
  let g (f : Fld) : Nat := bitsOf v f.hi f.lo
  if g F.CL_BARO_THR_fail < g F.CL_BARO_THR_spare_thr ∧ g F.CL_BARO_THR_spare_thr < g F.CL_BARO_THR_accept then
    s.plainWrite src .CL_BARO_THR l v []
  else s.ev F.CL_EVENT_thr_refused l l.unit

/-- A write of PT_CTRL. -/
def State.ptCtrl (s : State) (src : Src) (l : Loc) (v : Nat) : State :=
  let p := portNo l.die l.unit
  if s.role p = 3 then s
  else
    let s := s.plainWrite src .PT_CTRL l v [F.PT_CTRL_port_en.lo]
    let en := bitOf v F.PT_CTRL_port_en.lo
    let s := if en = s.flag F.PT_CTRL_port_en l then s else s.setPortEn p en
    if bitOf v F.PT_CTRL_retrain.lo then s.retrainPort p [] else s

/-- A write of SP_CTRL. slot_en comes first: its row of Table 14.2 has priority. -/
def State.spCtrl (s : State) (src : Src) (l : Loc) (v : Nat) : State :=
  let p := portNo l.die l.unit
  let b (f : Fld) : Bool := bitOf v f.lo
  let s := s.plainWrite src .SP_CTRL l v [F.SP_CTRL_slot_en.lo, F.SP_CTRL_power.lo, F.SP_CTRL_perst_hold.lo]
  let s := if b F.SP_CTRL_slot_en = s.flag F.SP_CTRL_slot_en l then s else s.slotEn p (b F.SP_CTRL_slot_en)
  let s := if b F.SP_CTRL_perst_hold = s.flag F.SP_CTRL_perst_hold l then s else s.perstHold p (b F.SP_CTRL_perst_hold)
  let s := s.slotPower p (b F.SP_CTRL_power)
  if b F.SP_CTRL_unlock then s.slotUnlock p else s

/-- A write of DM_Q_CTRL: pause first, then en, then resume. -/
def State.dmCtrl (s : State) (l : Loc) (v : Nat) : State :=
  let d := l.die
  let q := l.unit
  let en := bitOf v F.DM_Q_CTRL_en.lo
  let pause := bitOf v F.DM_Q_CTRL_pause.lo
  let s := if pause = s.flag F.DM_Q_CTRL_pause l then s else if pause then s.queuePause d q else s.queueUnpause d q
  let s := if en then s.queueEnable d q else if s.flag F.DM_Q_CTRL_en l then s.queueDisable d q else s
  if bitOf v F.DM_Q_CTRL_resume.lo then s.queueResume d q else s

/-- A write of LQ_TX_n: a 1 to force where it is closed is ignored, as an ignored write (R107). -/
def State.lqTx (s : State) (src : Src) (l : Loc) (v : Nat) : State :=
  if bitOf v F.LQ_TX_n_force.lo ∧ !s.forceOpen then
    let rest := Reg.LQ_TX_n.fields.filter fun f => f.lo != F.LQ_TX_n_force.lo
    let counted := s.blockRuns .LQ_TX_n l && s.quietDiffers rest l v
    let t := s.plainWrite src .LQ_TX_n l v [F.LQ_TX_n_force.lo]
    if counted then t else t.ignoredWrite src .LQ_TX_n l
  else s.plainWrite src .LQ_TX_n l v []

/-- A write of LQ_LOOP: the mode, then loop_go. -/
def State.lqLoop (s : State) (src : Src) (l : Loc) (v : Nat) : State :=
  let s := s.plainWrite src .LQ_LOOP l v [F.LQ_LOOP_loop_go.lo]
  let go := bitOf v F.LQ_LOOP_loop_go.lo
  if go ∨ s.flag F.LQ_LOOP_loop_go l then s.setLoopGo l.die l.unit go else s

/-- A write of LQ_PATTERN: check_en has an effect at its rise. -/
def State.lqPattern (s : State) (src : Src) (l : Loc) (v : Nat) : State :=
  (s.plainWrite src .LQ_PATTERN l v [F.LQ_PATTERN_check_en.lo]).setCheckEn l.die l.unit (bitOf v F.LQ_PATTERN_check_en.lo)

/-- A write of a command register: the operation where go is written, its fields alone otherwise. -/
def State.goWrite (s : State) (src : Src) (r : Reg) (l : Loc) (v : Nat) (f : State → State) : State :=
  if bitOf v 31 then f s else s.plainWrite src r l v []

/-- A write of CK_RST_CMD. -/
def State.ckRst (s : State) (src : Src) (v : Nat) : State :=
  let s := s.writeFld F.CK_RST_CMD_bad_cmd pkgL true v
  s.goWrite src .CK_RST_CMD pkgL v fun s => s.rstCmd (bitsOf v 30 29) (bitsOf v 23 16) (bitsOf v 2 0)

/-- A write of INV_CMD: ignored but from the primary pair. -/
def State.invCmdWrite (s : State) (src : Src) (v : Nat) : State :=
  match src with
  | .warden ⟨0, _⟩ => s.goWrite src .INV_CMD pkgL v fun s => s.invGo (bitsOf v 29 28) (bitsOf v 27 27) none
  | _ => s

/-- A write of MB_DR_CMD_s. -/
def State.drCmd (s : State) (src : Src) (l : Loc) (v : Nat) : State :=
  s.goWrite src .MB_DR_CMD_s l v fun s => s.drStart l.die l.idx (bitOf v 28) (bitsOf v 27 0)

/-- Writes to registers of the lanes, ports, sites and slots that have effects of their own, where they have power. -/
def State.writeIo (s : State) (src : Src) (r : Reg) (l : Loc) (v : Nat) : State :=
  s.gated r l fun s =>
  let d := l.die
  let u := l.unit
  match r with
  | .LQ_CTRL => s.lqCtrl src l v
  | .LQ_BARO_THR_NRZ => s.setBaroThr d u false (bitsOf v 31 24) (bitsOf v 23 16) (bitsOf v 15 8) (bitsOf v 7 0)
  | .LQ_BARO_THR_PAM4 => s.setBaroThr d u true (bitsOf v 31 24) (bitsOf v 23 16) (bitsOf v 15 8) (bitsOf v 7 0)
  | .LQ_BARO_n => if bitOf v 31 then s.clearBaroMin d u l.idx else s
  | .LQ_LOOP => s.lqLoop src l v
  | .LQ_TX_n => s.lqTx src l v
  | .LQ_PATTERN => s.lqPattern src l v
  | .LQ_MARGIN_CTRL => if bitOf v 31 then s.marginStart d u (marginAsk v) else s.setMarginCtrl d u (marginAsk v)
  | .PT_CTRL => s.ptCtrl src l v
  | .PT_CELLAR_CTRL => (s.plainWrite src r l v []).when (bitOf v 31) fun s => s.flushNow (portNo d u)
  | .CL_CTRL => s.clCtrl src l v
  | .CL_BARO_THR => s.clThr src l v
  | .CL_XOFF_CTRL => (s.plainWrite src r l v []).forEach (upTo 12) fun s c => s.xoffUpdate d c
  | .CL_BARO_n => s.when (bitOf v 31) fun s => s.wr F.CL_BARO_n_baro_min l (s.rd F.CL_BARO_n_baro l)
  | .SP_CTRL => s.spCtrl src l v
  | _ => s.plainWrite src r l v []

/-- Writes to the other registers of a die that have effects of their own. -/
def State.writeDie (s : State) (src : Src) (r : Reg) (l : Loc) (v : Nat) : State :=
  let d := l.die
  let go (f : State → State) : State := s.goWrite src r l v f
  match r with
  | .PD_DOM_REQ => s.domReq d v
  | .PD_DOM_LULL_EN => s.plainWrite src r l v (if d = 0 then [21] else [])
  | .XB_CTRL => (s.plainWrite src r l v []).when (bitOf v 31) fun s => s.xbCommit d
  | .XB_LARDER_MIN => s.when (bitOf v 31) fun s => s.larderMinClear d
  | .XB_GRP_CMD => go fun s => s.grpOp d (bitsOf v 29 28) (bitsOf v 11 0)
  | .BD_TBL_CMD => go fun s => s.bdOp d (bitsOf v 29 28) (bitsOf v F.BD_TBL_CMD_table.hi F.BD_TBL_CMD_table.lo)
      (bitsOf v F.BD_TBL_CMD_index.hi F.BD_TBL_CMD_index.lo)
  | .CA_TBL_CMD => go fun s => s.caOp d (bitsOf v 29 28) (bitsOf v F.CA_TBL_CMD_table.hi F.CA_TBL_CMD_table.lo)
      (bitsOf v F.CA_TBL_CMD_index.hi F.CA_TBL_CMD_index.lo)
  | .MR_TBL_CMD => go fun s => s.mrTblOp d (bitsOf v 29 28) (bitsOf v 11 0)
  | .MR_COPY_CMD => go fun s => s.mrCopyOp d (bitsOf v F.MR_COPY_CMD_op.hi F.MR_COPY_CMD_op.lo)
      (bitsOf v F.MR_COPY_CMD_index.hi F.MR_COPY_CMD_index.lo) (bitsOf v F.MR_COPY_CMD_copy.hi F.MR_COPY_CMD_copy.lo)
  | .OV_CMD => go fun s => s.ovOp d (bitsOf v 29 28)
  | .OV_DATA1 => (s.plainWrite src r l v []).updOv d fun x => { x with data1 := 0 }
  | .SC_CTRL => (s.plainWrite src r l v []).when (bitOf v 31) fun s => s.scCommit d
  | .SC_SHP_CMD => go fun s => s.shpOp d (bitsOf v 29 28) (bitsOf v F.SC_SHP_CMD_index.hi F.SC_SHP_CMD_index.lo) (bitsOf v 27 26)
  | .DM_Q_CTRL => s.dmCtrl l v
  | .DM_Q_DOORBELL => s.doorbell d l.unit
  | .DM_Q_INVALIDATE => s.when (bitOf v 0) fun s => s.queueInvalidate d l.unit
  | .DM_Q_CQ_HEAD => s.cqHead d l.unit v
  | .PN_CMD => s.pnWrite l v
  | .RS_FENCE_CMD => go fun s => s.fenceOp d (bitsOf v 29 28) (bitsOf v 3 0)
  | .RS_WDOG_KICK => s.wdogKick d v
  | .EVT => s.evtWrite src d l.idx v
  | .CNT_HI => s.cntWrite src d l.idx v
  | .PM_FROST_CTRL => go fun s => s.frostGo d (bitsOf v 29 28)
  | .PM_ATTIC_CTRL => s.atticCtrl src d v
  | .PM_ATTIC_TAIL => s.atticTail d v
  | .MB_CCI_CTRL => if d = 0 then s.plainWrite src r l v [] else s
  | .MB_DR_CMD_s => s.drCmd src l v
  | .PD_PKG_CTRL => (s.plainWrite src r l v [F.PD_PKG_CTRL_p1_on.lo]).p1Ask (bitOf v F.PD_PKG_CTRL_p1_on.lo)
  | .INV_CMD => s.invCmdWrite src v
  | .CK_RST_CMD => s.ckRst src v
  | _ => s.writeIo src r l v

/-- A write of a register. Low words of written pairs wait for their high words (R8). -/
def State.writeAt (s : State) (src : Src) (r : Reg) (l : Loc) (v : Nat) : State :=
  if s.dark r l then s
  else
    let rw : Bool := r.fields.any fun f => f.acc = .rw
    match pairHigh r, pairLow r with
    | some _, _ => if rw then s.holdLow r l v else s
    | none, some lo => if rw && r != .CNT_HI then s.commitPair src lo r l v else s.writeDie src r l v
    | none, none => s.writeDie src r l v

/-- A write of a word of the register space; addresses that hold no register take nothing (R10, R11). -/
def State.writeReg (s : State) (src : Src) (a v : Nat) : State :=
  if !s.present a then s
  else
    let s := (s.wakeD19 a).pfWritten a
    match pageAt a with
    | some (d, i, o) => s.pageWrite src d i o v
    | none => match winAt a with
      | some (d, g, t, r) => s.busAdd d g ⟨.core, t, r, 0, leBytes 4 v⟩
      | none => match regAt a with
        | some (r, l) => s.writeAt src r l v
        | none => s

/-- Does a write from outside the loader reach a register: from t6 on (R533), on a present die (R10), not in Scrap (Table 17.12);
function 1 of an upstream port reaches the doorbell pages of its own instances and its own admin window alone (R350). -/
def State.takes (s : State) (src : Src) (a : Nat) : Bool :=
  let reach : Bool := (tenantOf src).isNone || match pageAt a with
    | some (d, i, _) => s.pageFor src d i
    | none => match regAt a with
      | some (r, l) => r.info.blk == .pnc && ownChan src l.die l.unit
      | none => false
  s.serving && reach && s.present a && !s.shut src

/-- A write from outside the loader: discarded, refused for want of a session (R476), or taken. -/
def State.outerWrite (s : State) (src : Src) (a v : Nat) : State :=
  if s.takes src a then (if s.denied src then s.deny else s.writeReg src a v) else s

/-- A write command, with what it sets going. -/
def State.outerDone (s : State) (src : Src) (a v : Nat) : State :=
  if s.takes src a then (if s.denied src then s.deny else (s.writeReg src a v).finish) else s

/-- A read from outside: all ones while registers are not served (R533). -/
def State.outerRead (s : State) (a : Nat) : Nat × State := if s.serving then s.readReg a else (allOnes, s)

/-- REGISTER_WRITE. -/
def execRegisterWrite (src : Src) (addr : Fin 268435456) (val : BitVec 32) (s : State) : Outcome :=
  .next (s.outerDone src (addr / 4 * 4) val.toNat)

/-- The low word of a captured pair in a doorbell page: CNT_LO (Table 12.2). -/
def pageLow (a : Nat) : Bool :=
  match pageAt a with
  | some (_, _, o) => decide (0x440 ≤ o) && decide (o < 0x480) && o % 8 == 0
  | none => false

/-- PAIR_LOW_READ: a read of the low word of a pair, at its register or in a doorbell page. -/
def execPairLowRead (addr : Fin 268435456) (s : State) : Outcome :=
  .next (if pageLow (addr / 4 * 4) then (s.outerRead (addr / 4 * 4)).2
    else match regAt (addr / 4 * 4) with
      | some (r, _) => if (pairHigh r).isSome then (s.outerRead (addr / 4 * 4)).2 else s
      | none => s)

/-- PAIR_HIGH_WRITE: a write of the high word of a pair. -/
def execPairHighWrite (src : Src) (addr : Fin 268435456) (val : BitVec 32) (s : State) : Outcome :=
  .next (match regAt (addr / 4 * 4) with
    | some (r, _) => if (pairLow r).isSome then s.outerDone src (addr / 4 * 4) val.toNat else s
    | none => s)

end Sys2Proof.Machine
end

