-- ==== Sys2Proof/Machine/Inventory.lean ====
section
/-! DEFINITION. The Inventory (chapter 16): the image's layout and its checks, what its sections set, the start-up load, and the ops of
INV_CMD. Eznil's listing, which the spec does not give, places the values of sections of types 1 to 8: an image carries those values
beside its bytes. -/

namespace Sys2Proof.Machine

/-! ## Image layout (R441 to R445) -/

/-- A 32-bit word of an image. -/
def imgWord (b : List Nat) (o : Nat) : Nat := leAt b o 4

/-- The header (Table 16.2). -/
structure ImgHdr where
  magic : Nat
  format : Nat
  hdrLen : Nat
  length : Nat
  target : Nat
  mask : Nat
  version : Nat
  floor : Nat
  sections : Nat
  owner : Bool
  key : Nat

/-- The header that an image's bytes hold. -/
def imgHdr (b : List Nat) : ImgHdr :=
  let w4 := imgWord b 4
  let w1c := imgWord b 0x1C
  ⟨imgWord b 0, bitsOf w4 31 16, bitsOf w4 15 0, imgWord b 8, imgWord b 0xC, imgWord b 0x10, imgWord b 0x14, imgWord b 0x18,
    bitsOf w1c 31 16, bitOf w1c 8, bitsOf w1c 7 0⟩

/-- A section table entry (Table 16.3), with its index. -/
structure ImgSec where
  index : Nat
  kind : Nat
  mask : Nat
  off : Nat
  size : Nat

/-- The section table. -/
def imgSecs (b : List Nat) : List ImgSec :=
  (upTo (imgHdr b).sections).map fun i =>
    let o := 0x40 + 16 * i
    ⟨i, bitsOf (imgWord b o) 31 16, bitsOf (imgWord b o) 15 8, imgWord b (o + 4), imgWord b (o + 8)⟩

/-- Bytes of the signature block (R445). -/
def sigBytes : Nat := 2704

/-- magic, format, hdr_len and length (Table 16.6, check 1). -/
def hdrOk (h : ImgHdr) (magic most : Nat) : Bool :=
  h.magic == magic && h.format == 1 && h.hdrLen == 64 && decide (h.length ≤ most) && h.length % 16 == 0

/-- LC_PART_ID under the mask (check 2). -/
def State.targetOk (s : State) (h : ImgHdr) : Bool :=
  (s.word .LC_PART_ID pkgL &&& h.mask) == (h.target &&& h.mask)

/-- The signature over everything before its block (check 4). -/
def State.sigOk (s : State) (b : List Nat) (h : ImgHdr) : Bool :=
  match s.verifyKey h.owner h.key with
  | some k => Config.xmssVerify k (b.take (h.length - sigBytes)) (slice b (h.length - sigBytes) 2692)
  | none => false

/-- Does the life-cycle state accept the signer (Table 16.7)? -/
def State.signerOk (s : State) (owner : Bool) : Bool :=
  match s.lc with
  | 1 => !owner
  | 4 => !owner
  | 2 => owner
  | 3 => owner
  | _ => false

/-- A section covers die `d`. -/
def ImgSec.has (x : ImgSec) (d : Nat) : Bool := bitOf x.mask d

/-- Two sections overlap in the image, or cover one die with one type. -/
def secClash (x y : ImgSec) : Bool :=
  (x.off < y.off + y.size && y.off < x.off + x.size) || (x.kind == y.kind && (x.mask &&& y.mask != 0 || x.kind == 1))

/-- The header's and the signature block's reserved parts are 0, and the number of sections is 1 to 64. -/
def hdrClean (b : List Nat) (h : ImgHdr) : Bool :=
  decide (1 ≤ h.sections) && decide (h.sections ≤ 64) && bitsOf (imgWord b 0x1C) 15 9 == 0 && h.mask % 256 == 0
    && slice b 0x30 16 == zeros 16 && decide (0x40 + 16 * h.sections + sigBytes ≤ h.length) && slice b (h.length - 12) 12 == zeros 12

/-- A section entry meets R442. -/
def secClean (b : List Nat) (h : ImgHdr) (x : ImgSec) : Bool :=
  let o := 0x40 + 16 * x.index
  bitsOf (imgWord b o) 7 0 == 0 && imgWord b (o + 12) == 0 && x.off % 16 == 0 && decide (0x40 + 16 * h.sections ≤ x.off)
    && decide (x.off + x.size ≤ h.length - sigBytes)

/-- Types 5 and 6 cover every die of the part, and type 1 is present (R443). -/
def State.secsCover (s : State) (xs : List ImgSec) : Bool :=
  xs.any (fun x => x.kind == 1)
    && (upTo s.part.dies).all fun d => xs.any (fun x => x.kind == 5 && x.has d) && xs.any (fun x => x.kind == 6 && x.has d)

/-! ## Values of sections (Table 16.1) -/

/-- The fields of registers that a section of a type sets. -/
def secFld (kind : Nat) (f : Fld) : Bool :=
  match kind, f.reg with
  | 1, .RS_WDOG_CTRL => f.lo == F.RS_WDOG_CTRL_wdog_en.lo
  | 2, .PD_DOM_REQ => true
  | 2, .PD_DOM_LULL_EN => true
  | 2, .PD_LULL_IDLE => true
  | 2, .PD_PKG_CTRL => f.lo == F.PD_PKG_CTRL_p0_lull_en.lo
  | 3, .XB_FLOOR_c => true
  | 4, .CL_CTRL => f.lo == F.CL_CTRL_site_en.lo
  | 4, .CL_CREDIT_ADV_c => true
  | 5, .LQ_CTRL => f.lo == F.LQ_CTRL_quad_en.lo
  | 7, .MB_RANGE_r_word0 => true
  | 7, .MB_RANGE_r_word1 => true
  | _, _ => false

/-- Fields of a register that a mask touches. -/
def touched (r : Reg) (mask : Nat) : List Fld := r.fields.filter fun f => bitsOf mask f.hi f.lo != 0

/-- A mask touches fields alone, no reserved bit. -/
def maskInFields (r : Reg) (mask : Nat) : Bool := ((touched r mask).map fun f => 2 ^ f.lo * bitsOf mask f.hi f.lo).sum == mask

/-- Bits of `old` and, under the mask, of `new`. -/
def merge (old mask new : Nat) : Nat := (old &&& (0xFFFFFFFF ^^^ mask)) ||| (new &&& mask)

/-- The RW fields of a register as a word, with shadows where they are written: what a write of the rest leaves as it is. -/
def State.rwWord (s : State) (r : Reg) (l : Loc) : Nat :=
  (r.fields.map fun f => if f.acc = .rw then 2 ^ f.lo * ((Tbl.get s.staged (fkey f l)).getD (s.rd f l)) else 0).sum

/-- Registers whose limits follow from the Larder's partitions, which the image itself lays down: a value is stored as the nearest one
allowed once they are known (R187, Tables 5.20, 6.9, 6.10). -/
def lateClamped (r : Reg) : Bool := r = .CL_XOFF_CTRL || r = .XB_RESP_RESERVE || r = .XB_CELLAR_TOTAL

/-- A value lies in the range of its field. -/
def State.fldRange (s : State) (f : Fld) (l : Loc) (word : Nat) : Bool :=
  let v := bitsOf word f.hi f.lo
  match f.reg with
  | .CL_CREDIT_ADV_c => v != 0
  | .XB_FLOOR_c => f.lo != 0 || v != 0
  | .PD_DOM_REQ => true
  | .PD_DOM_LULL_EN => true
  | r => lateClamped r || s.stored f l word == v

/-- A register value that a section of `kind` holds is one that it may hold. -/
def State.regValOk (s : State) (x : ImgSec) (a mask v : Nat) : Bool :=
  a % 4 == 0 && match regAt a with
    | none => false
    | some (r, l) =>
      decide (l.die < s.part.dies) && (x.kind == 1 || r == .PD_PKG_CTRL || x.has l.die) && maskInFields r mask
        && (touched r mask).all fun f => secFld x.kind f && s.fldRange f l (merge (s.rwWord r l) mask v)

/-- A register-write record is one that R444 allows. -/
def State.recordOk (s : State) (x : ImgSec) (a mask v last : Nat) : Bool :=
  last == 0 && a % 4 == 0 && match regAt a with
    | none => false
    | some (r, l) =>
      decide (l.die < s.part.dies) && (r.info.blk == .pkg || x.has l.die) && maskInFields r mask
        && (touched r mask).all fun f => f.acc == .rw && f.cls != .fixed && s.fldRange f l (merge (s.rwWord r l) mask v)

/-- The records of a type 9 section, as (address, mask, value, last word). -/
def recordsOf (b : List Nat) (x : ImgSec) : List (Nat × Nat × Nat × Nat) :=
  (upTo (x.size / 16)).map fun i =>
    let o := x.off + 16 * i
    (imgWord b o, imgWord b (o + 4), imgWord b (o + 8), imgWord b (o + 12))

/-- The reserved bits of a seeded entry are 0: word and highest and lowest bit of each run. -/
def seedClean (w : List Nat) (runs : List (Nat × Nat × Nat)) : Bool := runs.all fun r => bitsOf (w.getD r.1 0) r.2.1 r.2.2 == 0

/-- A seeded group entry meets Table 6.3 and, where it is valid, R202. -/
def seedGrpOk (w : List Nat) : Bool :=
  w.length == 8 && seedClean w [(0, 15, 0), (5, 31, 31), (5, 23, 23), (5, 7, 0), (6, 31, 0), (7, 31, 0)] && bitsOf (w.getD 0 0) 30 29 < 2
    && (!grpValid w || grpOk w)

/-- A seeded mirror entry meets Table 9.1: no state is 3, and a valid entry has a size. -/
def seedMirOk (w : List Nat) : Bool :=
  w.length == 8 && seedClean w [(0, 21, 0), (1, 31, 24), (2, 31, 24), (3, 31, 16), (6, 31, 0), (7, 31, 0)]
    && bitsOf (w.getD 0 0) 27 26 != 3 && bitsOf (w.getD 0 0) 25 24 != 3 && (!bitOf (w.getD 0 0) 31 || w.getD 3 0 != 0)

/-- A seeded shared region meets Table 8.1, and a valid one lies below 2^31 units (R237). -/
def seedRegionOk (w : List Nat) : Bool :=
  w.length == 3 && seedClean w [(0, 29, 24), (0, 15, 0), (1, 31, 31), (2, 31, 31)]
    && (!bitOf (w.getD 0 0) 31 || (w.getD 2 0 != 0 && decide (w.getD 1 0 + w.getD 2 0 ≤ 2 ^ 31)))

/-- A value that no register shows belongs to its section and lies in its range. -/
def State.valOk (s : State) (x : ImgSec) : InvVal → Bool
  | .reg a m v => s.regValOk x a m.toNat v.toNat
  | .spread _ => x.kind == 1
  | .fmPort _ p => x.kind == 1 && decide (portDie p < s.part.dies)
  | .laneTx d _ _ _ => x.kind == 4 && x.has d
  | .bifur d _ code => x.kind == 5 && x.has d && decide (code.val ≤ 4)
  | .use d _ u => x.kind == 5 && x.has d && decide (u.val ≤ 2)
  | .rate d _ code => x.kind == 5 && x.has d && decide (code.val ≤ 6)
  | .clocking d _ c => x.kind == 5 && x.has d && decide (c.val ≤ 2)
  | .vcs p first count _ _ =>
    x.kind == 6 && x.has (portDie p) && decide (1 ≤ count.val) && decide (count.val ≤ 256) && decide (first.val + count.val ≤ 1024)
  | .group d i w => x.kind == 8 && x.has d && i.val != 0 && seedGrpOk (w.map BitVec.toNat)
  | .mirror d i w => x.kind == 8 && x.has d && i.val != 0 && seedMirOk (w.map BitVec.toNat)
  | .pid d _ w => x.kind == 8 && x.has d && w.toNat % 2 ^ 20 == 0
  | .region d _ w => x.kind == 8 && x.has d && seedRegionOk (w.map BitVec.toNat)
  | .share d _ _ => x.kind == 8 && x.has d

/-- vPPB runs of one die do not overlap (R209). -/
def vcsApart (vs : List InvVal) : Bool :=
  vs.all fun v => match v with
    | .vcs p f n _ _ => vs.all fun w => match w with
        | .vcs q g m _ _ => p == q || portDie p != portDie q || decide (f.val + n.val ≤ g.val) || decide (g.val + m.val ≤ f.val)
        | _ => true
    | _ => true

/-- Seeded regions of one port and LD do not overlap (R236). -/
def regionsApart (vs : List InvVal) : Bool :=
  let valid (w : List (BitVec 32)) : Bool := bitOf ((w.map BitVec.toNat).getD 0 0) 31
  vs.all fun v => match v with
    | .region d i w => !valid w || vs.all fun u => match u with
        | .region e j y => d != e || i == j || !valid y || !(regionFrom (w.map BitVec.toNat)).meets (regionFrom (y.map BitVec.toNat))
        | _ => true
    | _ => true

/-- The quads of a group by its bifurcation code (Table 4.1): of each, the offset of its port's first quad and the width code. -/
def groupCut (code : Nat) : List (Nat × Nat) :=
  match code with
  | 1 => [(0, 1), (0, 1), (2, 0), (3, 0)]
  | 2 => [(0, 0), (1, 0), (2, 1), (2, 1)]
  | 3 => [(0, 1), (0, 1), (2, 1), (2, 1)]
  | 4 => [(0, 2), (0, 2), (0, 2), (0, 2)]
  | _ => [(0, 0), (1, 0), (2, 0), (3, 0)]

/-- Every quad of one port has the same use (R112). -/
def usesAgree (vs : List InvVal) : Bool :=
  let codeOf (d : Fin 8) (g : Nat) : Nat := (vs.findSome? fun v => match v with
    | .bifur e h c => if e = d ∧ h.val = g then some c.val else none
    | _ => none).getD 0
  let useOf (d : Fin 8) (q : Nat) : Nat := (vs.findSome? fun v => match v with
    | .use e r u => if e = d ∧ r.val = q then some u.val else none
    | _ => none).getD 0
  vs.all fun v => match v with
    | .use d q u => u.val == useOf d (q.val / 4 * 4 + ((groupCut (codeOf d (q.val / 4))).getD (q.val % 4) (0, 0)).1)
    | _ => true

/-- The values of a section. -/
def imgVals (i : Image) (x : ImgSec) : List InvVal := i.vals.getD x.index []

/-- A section meets R442 to R444 (Table 16.6, check 6). -/
def State.secOk (s : State) (i : Image) (b : List Nat) (h : ImgHdr) (xs : List ImgSec) (x : ImgSec) : Bool :=
  secClean b h x && decide (1 ≤ x.kind) && decide (x.kind ≤ 9) && (x.kind != 1 || x.mask == 0)
    && (xs.all fun y => y.index == x.index || !secClash x y)
    && (if x.kind = 9 then
          imgVals i x == [] && x.size % 16 == 0 && (recordsOf b x).all fun r => s.recordOk x r.1 r.2.1 r.2.2.1 r.2.2.2
        else (imgVals i x).all (s.valOk x) && vcsApart (imgVals i x) && usesAgree (imgVals i x) && regionsApart (imgVals i x))

/-! ## Acceptance (R446, Table 16.6) -/

/-- The bytes of an image: what was read, to the length that its header gives. -/
def imgBytes (i : Image) : List Nat :=
  let b := natBytes i.raw
  b.take (imgHdr b).length

/-- Room of a slot by the directory; none where the entry is empty or there is no directory. -/
def State.slotRoom (s : State) (k : Nat) : Option Nat :=
  match s.inv.dir with
  | some d => (d.slots.getD k none).map Prod.snd
  | none => none

/-- Check 6: none when it holds; otherwise the section at fault, or 0xFF. -/
def State.secFault (s : State) (i : Image) (b : List Nat) (h : ImgHdr) : Option Nat :=
  if !hdrClean b h then some 0xFF
  else
    let xs := imgSecs b
    match xs.find? fun x => !s.secOk i b h xs x with
    | some x => some x.index
    | none => if s.secsCover xs then none else some 0xFF

/-- The checks of Table 16.6 on what was read of a slot: result and section, result 0 for an accepted image. -/
def State.invCheck (s : State) (slot : Nat) (got : Option Image) : Nat × Nat :=
  match s.slotRoom slot, got with
  | some room, some i =>
    let raw := natBytes i.raw
    let h := imgHdr raw
    let b := imgBytes i
    if room < h.length ∨ raw.length < h.length then (7, 0xFF)
    else if !hdrOk h 0x5C494E56 (4 * 2 ^ 20) then (4, 0xFF)
    else if !s.targetOk h then (2, 0xFF)
    else if !s.signerOk h.owner then (8, 0xFF)
    else if !s.sigOk b h then (1, 0xFF)
    else if h.version < s.curRec.invFloor then (3, 0xFF)
    else match s.secFault i b h with
      | some x => (4, x)
      | none => (0, 0xFF)
  | _, _ => (7, 0xFF)

/-- INV_RESULT. -/
def State.invResult (s : State) (res sec die quad : Nat) : State :=
  (((s.wr F.INV_RESULT_result pkgL res).wr F.INV_RESULT_section pkgL sec).wr F.INV_RESULT_die pkgL die).wr F.INV_RESULT_quad pkgL quad

/-! ## What values set -/

/-- Change what the loader holds. -/
def State.updInv (s : State) (f : InvSt → InvSt) : State := { s with inv := f s.inv }

/-- Bits of a register take effect as they stand. -/
def State.setBits (s : State) (a mask v : Nat) : State :=
  match regAt a with
  | none => s
  | some (r, l) =>
    let w := merge (s.word r l) mask v
    s.forEach (touched r mask) fun s f => s.wr f l (if lateClamped r then bitsOf w f.hi f.lo else s.stored f l w)

/-- A value of a section takes effect. -/
def State.loadVal (s : State) : InvVal → State
  | .reg a m v => s.setBits a m.toNat v.toNat
  | .spread b => s.updInv fun i => { i with spread := b }
  | .fmPort k p => s.updInv fun i => { i with fmPorts := Tbl.put i.fmPorts k p }
  | .laneTx d t l v => s.updInv fun i => { i with laneTx := Tbl.put i.laneTx (key3 d t l) v.toNat }
  | .bifur d g c => s.updInv fun i => { i with bifur := Tbl.put i.bifur (key2 d g) c }
  | .use d q u => s.updInv fun i => { i with uses := Tbl.put i.uses (portNo d q) u }
  | .rate d q c =>
    { s with invRate := Tbl.put s.invRate (portNo d q) c }.wr F.LQ_CTRL_max_rate (unitL d q) (min c.val (Part.topCode s.part))
  | .clocking d q c => s.wr F.PT_CTRL_clocking (unitL d q) c
  | .vcs p first count fm fn =>
    { s with vcss := Tbl.put s.vcss p { valid := true, fm := fm, usp := p, first := first, count := count },
             pantryFn := if fn ∧ !s.pantryFn.contains p.val then s.pantryFn ++ [p.val] else s.pantryFn }
  | .group d i w => s.putGrp d i (w.map BitVec.toNat)
  | .mirror d i w => s.putMir d i (mirFrom (w.map BitVec.toNat))
  | .pid d i w => s.pidOp d 1 i w.toNat
  | .region d i w =>
    let w := w.map BitVec.toNat
    (s.mend d 3 i).updCa d fun c => { c with regions := if bitOf (w.getD 0 0) 31 then Tbl.put c.regions i (regionFrom w) else Tbl.del c.regions i }
  | .share d q m => s.forEach (upTo 16) fun s l => s.wrB (F.BD_LD_SHARE_q_share l) (idxL d 0 q) (bitOf m l)

/-- Role, width and slot class of the quads of a group (R112, R113). -/
def State.cutGroup (s : State) (d g : Nat) : State :=
  let cut := groupCut (Tbl.getD s.inv.bifur (key2 d g) 0)
  s.forEach (upTo 4) fun s j =>
    let q := 4 * g + j
    let c := cut.getD j (0, 0)
    let l := unitL d q
    let u := Tbl.getD s.inv.uses (portNo d q) 0
    let role := if c.1 = j then u else 3
    ((s.wr F.PT_CTRL_role l role).wr F.PT_CTRL_width_cfg l (if c.1 = j then c.2 else 0)).wr F.SP_CTRL_slot_class l
      (if c.1 = j then u else 0)

/-- xon_hyst of a site is at most the smallest Casub pool less 2,688 (R160, R187). -/
def State.cutHyst (s : State) (d t : Nat) : State :=
  let least := (upTo 12).foldl (fun b c => min b (s.rd F.XB_FLOOR_c_casub_pool (idxL d 0 c))) (2 ^ 16)
  if s.xoffMode then s.wr F.CL_XOFF_CTRL_xon_hyst (unitL d t) (min (s.rd F.CL_XOFF_CTRL_xon_hyst (unitL d t)) (least - 2688)) else s

/-- Larder partitions of a die (Table 6.2), and the fields clamped to the shared region (Tables 6.9, 6.10) and to the pools (R160).
DESIGN CHOICE (log entry 149): shared_min starts at the whole shared region. -/
def State.cutLarder (s : State) (d : Nat) : State :=
  let l := dieL d
  let floors := 18 * ((upTo 12).map fun c => s.rd F.XB_FLOOR_c_floor (idxL d 0 c)).sum
  let casub := if s.xoffMode then ((upTo 12).map fun c => s.rd F.XB_FLOOR_c_casub_pool (idxL d 0 c)).sum
    else ((upTo 7).map fun t => ((upTo 12).map fun c =>
      s.rd F.CL_CREDIT_ADV_c_hdr_adv (idxL d t c) + s.rd F.CL_CREDIT_ADV_c_data_adv (idxL d t c)).sum).sum
  let shared := 393216 - floors - casub - s.rd F.XB_PART_RELAY_relay_total l
  let s := ((s.wr F.XB_PART_FLOORS_floors_total l floors).wr F.XB_PART_CASUB_casub_total l casub).wr F.XB_PART_SHARED_shared_total l shared
  let s := s.wr F.XB_RESP_RESERVE_resp_reserve l (min (s.rd F.XB_RESP_RESERVE_resp_reserve l) (shared / 2))
  let s := s.wr F.XB_CELLAR_TOTAL_cellar_total l (min (s.rd F.XB_CELLAR_TOTAL_cellar_total l) shared)
  let s := s.forEach (upTo 7) fun s t => s.cutHyst d t
  (s.wr F.XB_LARDER_FREE_shared_free l shared).wr F.XB_LARDER_MIN_shared_min l shared

/-- The channels that the FM ports give (Table 15.2). -/
def State.showFm (s : State) : State :=
  s.forEach (upTo 4) fun s k =>
    let on := (Tbl.get s.inv.fmPorts k).isSome
    (s.wrB (F.MB_STATUS_fm_ports k) (dieL 0) on).wrB F.MB_CHAN_c_present (idxL 0 0 k) on

/-- Threshold registers whose order of R99 or R166 a record would break: it is ignored whole, as any write. -/
def thrRefused (r : Reg) (w : Nat) : Option Fld :=
  let g (f : Fld) : Nat := bitsOf w f.hi f.lo
  let lq : Bool := decide (bitsOf w 7 0 < bitsOf w 15 8) && decide (bitsOf w 15 8 < bitsOf w 31 24)
    && decide (bitsOf w 31 24 ≤ bitsOf w 23 16)
  match r with
  | .LQ_BARO_THR_NRZ => if lq then none else some F.LQ_EVENT_thr_refused
  | .LQ_BARO_THR_PAM4 => if lq then none else some F.LQ_EVENT_thr_refused
  | .CL_BARO_THR =>
    if g F.CL_BARO_THR_fail < g F.CL_BARO_THR_spare_thr ∧ g F.CL_BARO_THR_spare_thr < g F.CL_BARO_THR_accept then none
    else some F.CL_EVENT_thr_refused
  | _ => none

/-- A register-write record at start-up: its fields take effect. Thresholds out of order are refused (R99, R166); loop_go is refused,
for no quad leaves Off yet (R106, R534); a closed coefficient force is ignored (R107). A counter, a queue and the Attic begin by
their own rules. -/
def State.loadRecord (s : State) (a mask v : Nat) : State :=
  match regAt a with
  | none => s
  | some (r, l) =>
    let w := merge (s.rwWord r l) mask v
    match r with
    | .EVT => s.evtWrite (.warden 0) l.die l.idx w
    | .CNT_LO => s.holdLow r l w
    | .CNT_HI => s.cntWrite (.warden 0) l.die l.idx w
    | .PM_ATTIC_CTRL => s.atticCtrl (.warden 0) l.die w
    | .DM_Q_CTRL => s.dmCtrl l w
    | .LQ_LOOP => (s.setBits a (mask &&& 3) v).when (bitOf w F.LQ_LOOP_loop_go.lo) fun s => s.setLoopGo l.die l.unit true
    | .LQ_TX_n => s.setBits a (if s.forceOpen then mask else mask % 2 ^ 31) v
    | _ => match thrRefused r w with
      | some f => s.ev f (eventLoc r.info.blk l) (logUnit r.info.blk l)
      | none => s.setBits a mask v

/-- Sections of a type, in the order of the table. -/
def secsOf (b : List Nat) (kind : Nat) : List ImgSec := (imgSecs b).filter fun x => x.kind == kind

/-- The sections of an accepted image take effect, in type order (Table 16.8, t4). -/
def State.loadSections (s : State) (i : Image) : State :=
  let b := imgBytes i
  let s := s.forEach ((upTo 8).map (· + 1)) fun s k =>
    s.forEach (secsOf b k) fun s x => s.forEach (imgVals i x) fun s v => s.loadVal v
  let s := s.forEach (upTo s.part.dies) fun s d => s.forEach (upTo 4) fun s g => s.cutGroup d g
  let s := s.forEach (secsOf b 9) fun s x => s.forEach (recordsOf b x) fun s r => s.loadRecord r.1 r.2.1 r.2.2.1
  (s.forEach (upTo s.part.dies) fun s d => s.cutLarder d).showFm

/-! ## The start-up load (R448, R449) -/

/-- CK_BOOT_STATUS stage, kept at 15 once the sequence has halted (R532). -/
def State.bootStage (s : State) (n : Nat) : State :=
  if s.rd F.CK_BOOT_STATUS_stage pkgL = 15 then s else s.wr F.CK_BOOT_STATUS_stage pkgL n

/-- A stage fails (R532): stage 15 and the first error. -/
def State.bootFail (s : State) (e : Nat) : State :=
  if s.rd F.CK_BOOT_STATUS_stage pkgL = 15 then s
  else (s.wr F.CK_BOOT_STATUS_stage pkgL 15).wr F.CK_BOOT_STATUS_error pkgL e

/-- The load is under way. -/
def State.loading (s : State) : Bool := s.rd F.INV_STATUS_state pkgL == 1

/-- CRC-32 of IEEE 802.3 over bytes (R539). -/
def crc32 (b : List Nat) : Nat :=
  let step (c : Nat) : Nat := if c % 2 = 1 then c / 2 ^^^ 0xEDB88320 else c / 2
  (b.foldl (fun c x => (upTo 8).foldl (fun c _ => step c) (c ^^^ x)) 0xFFFFFFFF) ^^^ 0xFFFFFFFF

/-- The directory that a copy holds, if magic, format and crc are right (R539, Table 20.5); slots that break its rules are empty. -/
def dirOf (b : List Nat) (flashBytes : Nat) : Option FlashDir :=
  if b.length = 64 ∧ leAt b 0 4 = 0x5C464C44 ∧ leAt b 0x3C 4 = crc32 (b.take 0x3C) then
    let ent (i : Nat) : Nat × Nat := (leAt b (8 + 8 * i) 4, leAt b (0xC + 8 * i) 4)
    let hit (x y : Nat × Nat) : Bool := decide (x.1 < y.1 + y.2) && decide (y.1 < x.1 + x.2)
    let ok (i : Nat) : Bool :=
      let e := ent i
      e.2 != 0 && e.1 % 4096 == 0 && decide (e.2 ≤ if i < 2 then 4 * 2 ^ 20 else 768 * 1024) && decide (e.1 + e.2 ≤ flashBytes)
        && !hit e (0, 64) && !hit e (0x1000, 64) && (upTo 4).all fun j => j == i || !hit e (ent j)
    some ⟨bitsOf (leAt b 4 4) 0 0, (upTo 4).map fun i => if ok i then some (ent i) else none⟩
  else none

/-- The flash settings chosen (R538). -/
def flashSet (f : Option Sfdp) : FlashSet :=
  match f with
  | none => ⟨5, 0, false, 12500, 16 * 2 ^ 20⟩
  | some t =>
    let k := ((upTo 5).find? fun k => (t.modes.getD k none).isSome).getD 5
    let khz := match t.maxKhz with
      | none => 50000
      | some m => ([100000, 50000, 25000, 12500].find? fun c => decide (c ≤ m)).getD 12500
    ⟨k, (t.modes.getD k none).getD 0, decide (16 * 2 ^ 20 < t.bytes), khz, t.bytes⟩

/-- INV_FLASH_DIRECTORY_READ: the flash's parameter table (none without a valid signature) and the two directory copies. -/
def execInvFlashDirectoryRead (sfdp : Option Sfdp) (copy0 copy1 : List (BitVec 8)) (s : State) : Outcome :=
  onPkg s fun s =>
    if s.loading ∧ !s.inv.dirRead then
      let f := flashSet sfdp
      let d := match dirOf (natBytes copy0) f.bytes with
        | some d => some d
        | none => dirOf (natBytes copy1) f.bytes
      s.updInv fun i => { i with flash := some f, dir := d, dirRead := true, slot := s.curRec.bootSlot }
    else s

/-- INV_IMAGE_READ: what was read from the slot being loaded; none for a read in error. -/
def execInvImageRead (got : Option Image) (s : State) : Outcome :=
  onPkg s fun s =>
    if s.loading ∧ s.inv.dirRead ∧ s.inv.got = none ∧ !s.inv.accepted then s.updInv fun i => { i with got := some got } else s

/-- Both images have failed (R448, R532). -/
def State.invFailed (s : State) : State :=
  (((s.wr F.INV_STATUS_state pkgL 3).updInv fun i => { i with got := none }).wr F.SEC_STATUS_boot_stage pkgL 3).bootFail 4

/-- The checks of a loaded image end: accepted, or the other slot, or Failed. -/
def State.loadChecked (s : State) (got : Option Image) : State :=
  let k := s.inv.slot
  let r := s.invCheck k got
  if r.1 = 0 then s.updInv fun i => { i with accepted := true }
  else
    let s := s.invResult r.1 r.2 0 0
    if k = s.curRec.bootSlot then
      ((s.on F.INV_STATUS_fallback pkgL).ev F.INV_EVENT_fallback pkgL 0).updInv fun i => { i with slot := 1 - k, got := none }
    else s.invFailed

/-- INV_CHECKS. -/
def execInvChecks (s : State) : Outcome :=
  onPkg s fun s => match s.inv.got with
    | some g => if s.loading ∧ !s.inv.accepted then s.loadChecked g else s
    | none => s

/-- Domains take the states that dom_on gives (R63, R65): one that is Off keeps nothing, and one that is not On yet is Powering. A site
that is not Off goes there first, with a hand-over (Table 5.9). -/
def State.domsApplied (s : State) : State :=
  s.forEach (upTo s.part.dies) fun s d => s.forEach (upTo 22) fun s k =>
    if !s.flag (F.PD_DOM_REQ_dom_on k) (dieL d) then
      let s := if 8 ≤ k ∧ k < 15 ∧ s.siteState d (k - 8) ≠ 0 then s.siteDown d (k - 8) 0 0 else s
      (s.domErase d k).setDom d k 0
    else if s.domState d k = 0 then s.setDom d k 1 else s

/-- Sites after an application (R159): those in service retrain; those that site_en holds go Off; the others start. -/
def State.sitesApplied (s : State) : State :=
  s.forEach (upTo s.part.dies) fun s d => s.forEach (upTo 7) fun s t =>
    if !s.flag F.CL_CTRL_site_en (unitL d t) ∨ !s.domOn d (8 + t) then
      (if s.siteState d t = 0 then s else s.siteDown d t 0 0)
    else if s.siteState d t = 4 then s.siteRetrain d t 0 else s.siteStart d t

/-- An SK8040's site 6 comes into service at the application where site 4 or site 5 of a die stands Retired by then (R139). -/
def State.sparesApplied (s : State) : State :=
  s.forEach (upTo s.part.dies) fun s d => s.forEach [4, 5] fun s t => if s.siteState d t = 6 then s.spareSite d t else s

/-- An image is in force: what INV_ shows of it, and its measurement (R465 step 5, R466). -/
def State.invInForce (s : State) (i : Image) (slot : Nat) : State :=
  let b := imgBytes i
  let h := imgHdr b
  let s := ((s.updInv fun x => { x with force := some i }).wr F.INV_VERSION_version pkgL h.version).wr F.INV_STATUS_loaded_slot pkgL slot
  (s.forEach (upTo 4) fun s k => s.wr F.INV_BUILD_i_build_id (idxL 0 0 k) (imgWord b (0x20 + 4 * k))).extend 1 (digest b)

/-- Applied (Table 16.8, t5 and t6): every block is ready; slot controllers and ports with their enables leave Disabled. -/
def State.goLive (s : State) (i : Image) : State :=
  let s := s.forEach (upTo s.part.dies) fun s d =>
    let l := dieL d
    (((((s.on F.XB_CTRL_core_up l).on F.BD_STATUS_tables_ready l).on F.CA_CTRL_ready l).on F.MR_STATUS_ready l).on F.OV_STATUS_ready l).on
      F.SC_CTRL_ready l
  let s := (s.wr F.INV_STATUS_state pkgL 2).invInForce i s.inv.slot
  let s := s.domsApplied.sitesApplied.sparesApplied
  let s := s.wr F.CK_BOOT_STATUS_applied_ms pkgL (min (s.now 0 / (1000 * usCycles)) 65535)
  let s := (s.bootStage 5).wr F.SEC_STATUS_boot_stage pkgL 3
  let s := s.updInv fun x => { x with got := none, accepted := false }
  let s := s.forEach s.allPorts fun s p => if s.isSlot p then s.slotEnable p else s
  s.forEach s.allPorts fun s p => if s.role p = 3 then s else s.portEnable p

/-- The sections are applied; a floor that rises is durable before Applied (R447). -/
def State.applySections (s : State) (i : Image) : State :=
  let s := s.loadSections i
  let fl := (imgHdr (imgBytes i)).floor
  if s.curRec.invFloor < fl then (s.updInv fun x => { x with accepted := false }).record (.invFloor fl) .applied else s.goLive i

/-- INV_SECTIONS_APPLY. -/
def execInvSectionsApply (s : State) : Outcome :=
  runPkg s fun s => match s.inv.got with
    | some (some i) => if s.loading ∧ s.inv.accepted then s.applySections i else s
    | _ => s

end Sys2Proof.Machine
end

