-- ==== Sys2Proof/Machine/Loader.lean ====
section
/-! DEFINITION. Inventory ops on a running part (R450 to R453): differences, the apply, arm and verify; and the firmware commands that
write the flash (R540, R544). -/

namespace Sys2Proof.Machine

/-! ## Differences (R450) -/

/-- What one difference of an image from the values in force asks of the part. -/
inductive InvDiff where
  /-- A Staged or Live field. -/
  | run
  /-- A seeded table, which an apply never touches. -/
  | table
  | restart
  /-- A Block difference of a quad group, of the block of a register, of a domain that is to be Off. -/
  | group (d g : Nat)
  | block (r : Reg) (l : Loc)
  | domain (d k : Nat)
  deriving DecidableEq, Repr

/-- A value of a section equals the value in force; bits of a register are compared field by field elsewhere. -/
def State.valInForce (s : State) : InvVal → Bool
  | .reg a m v => match regAt a with
    | some (r, l) => (s.shown r l &&& m.toNat) == (v.toNat &&& m.toNat)
    | none => true
  | .spread b => s.inv.spread == b
  | .fmPort k p => Tbl.get s.inv.fmPorts k == some p.val
  | .laneTx d t l v => Tbl.get s.inv.laneTx (key3 d t l) == some v.toNat
  | .bifur d g c => Tbl.getD s.inv.bifur (key2 d g) 0 == c.val
  | .use d q u => Tbl.getD s.inv.uses (portNo d q) 0 == u.val
  | .rate d q c => Tbl.get s.invRate (portNo d q) == some c.val
  | .clocking d q c => s.rd F.PT_CTRL_clocking (unitL d q) == c.val
  | .vcs p first count fm fn =>
    let x := Tbl.getD s.vcss p {}
    x.valid && x.fm == fm && x.usp == p.val && x.first == first.val && x.count == count.val && s.pantryFn.contains p.val == fn
  | .group d i w => s.grp d i == (let w := w.map BitVec.toNat; if w.all (· == 0) then [] else w)
  | .mirror d i w => s.mir d i == mirFrom (w.map BitVec.toNat)
  | .pid d i w => Tbl.getD s.pids (key2 d i) 0 == 2 ^ 20 * (w.toNat / 2 ^ 20)
  | .region d i w =>
    let w := w.map BitVec.toNat
    Tbl.get (s.cad d).regions i == (if bitOf (w.getD 0 0) 31 then some (regionFrom w) else none)
  | .share d q m => (upTo 16).all fun l => s.flag (F.BD_LD_SHARE_q_share l) (idxL d 0 q) == bitOf m l

/-- Differences of bits of a register, field by field, in a section of a type. -/
def State.regDiffs (s : State) (kind a mask v : Nat) : List InvDiff :=
  match regAt a with
  | none => []
  | some (r, l) =>
    ((touched r mask).filter fun f => bitsOf (s.shown r l) f.hi f.lo != bitsOf (merge (s.shown r l) mask v) f.hi f.lo).map fun f =>
      if r = .PD_DOM_REQ then (if bitOf v f.lo then .run else .domain l.die f.lo)
      else match f.cls with
        | .fixed => if kind = 5 then .group l.die (l.unit / 4) else .restart
        | .quiet => .block r l
        | _ => .run

/-- Differences of one value. -/
def State.valDiffs (s : State) (kind : Nat) (v : InvVal) : List InvDiff :=
  if s.valInForce v then []
  else match v with
    | .reg a m v => s.regDiffs kind a m.toNat v.toNat
    | .spread _ => [.restart]
    | .fmPort _ _ => [.restart]
    | .laneTx _ _ _ _ => [.restart]
    | .vcs _ _ _ _ _ => [.restart]
    | .bifur d g _ => [.group d g]
    | .use d q _ => [.group d (q.val / 4)]
    | .rate d q _ => [.group d (q.val / 4)]
    | .clocking d q _ => [.group d (q.val / 4)]
    | .group _ _ _ => [.table]
    | .mirror _ _ _ => [.table]
    | .pid _ _ _ => [.table]
    | .region _ _ _ => [.table]
    | .share _ _ _ => [.table]

/-- A quad's use changes to or from host port on a die of the mask: the VCS section changes with it (R450). -/
def State.hostMoves (s : State) (i : Image) (mask : Nat) : Bool :=
  i.vals.any fun vs => vs.any fun v => match v with
    | .use d q u => bitOf mask d && (u.val == 0) != (Tbl.getD s.inv.uses (portNo d q) 0 == 0)
    | _ => false

/-- The sections of the image in force, by type and dies. -/
def State.forceSecs (s : State) : List (Nat × Nat) :=
  match s.inv.force with
  | some i => (imgSecs (imgBytes i)).map fun x => (x.kind, x.mask)
  | none => []

/-- Differences of a section. -/
def State.secDiffs (s : State) (i : Image) (x : ImgSec) : List InvDiff :=
  (if s.forceSecs.contains (x.kind, x.mask) then [] else [.restart])
    ++ (if x.kind = 6 ∧ s.hostMoves i x.mask then [.restart] else [])
    ++ (if x.kind = 9 then ((recordsOf (imgBytes i) x).map fun r => s.regDiffs 9 r.1 r.2.1 r.2.2.1).flatten
        else ((imgVals i x).map (s.valDiffs x.kind)).flatten)

/-- Types of sections in force that the image does not have. -/
def State.secsGone (s : State) (i : Image) : List Nat :=
  (s.forceSecs.filter fun k => !(imgSecs (imgBytes i)).any fun x => x.kind == k.1 && x.mask == k.2).map Prod.fst

/-- INV_CHANGES. -/
def State.showChanges (s : State) (i : Image) : State :=
  let kinds := ((imgSecs (imgBytes i)).filter fun x => !(s.secDiffs i x).isEmpty).map (fun x => x.kind) ++ s.secsGone i
  s.wr F.INV_CHANGES_changed pkgL (((upTo 9).map fun k => if kinds.contains (k + 1) then 2 ^ k else 0).sum)

/-! ## The apply (R451) -/

/-- The first section with a Restart difference; 0xFF when the only one is a section that is gone. -/
def State.restartAt (s : State) (i : Image) : Option Nat :=
  match (imgSecs (imgBytes i)).find? fun x => (s.secDiffs i x).contains .restart with
  | some x => some x.index
  | none => if (s.secsGone i).isEmpty then none else some 0xFF

/-- What keeps a difference from being applied: die and local index (quad, site, queue, domain). -/
def State.blockedBy (s : State) : InvDiff → Option (Nat × Nat)
  | .group d g =>
    (((upTo 4).map fun j => 4 * g + j).find? fun q =>
      let p := portNo d q
      s.role p != 3 && (s.pstate p != 0 || (s.isSlot p && s.slotState p != 0))).map fun q => (d, q)
  | .block r l => if s.blockRuns r l || s.ownedReg r l then some (l.die, logUnit r.info.blk l % 16) else none
  | .domain d k => if s.mayOff d k then none else some (d, k % 16)
  | _ => none

/-- The first item that fails, in the order of the section table: section, die, local index. -/
def State.applyBlocked (s : State) (i : Image) : Option (Nat × Nat × Nat) :=
  (imgSecs (imgBytes i)).findSome? fun x => (s.secDiffs i x).findSome? fun y => (s.blockedBy y).map fun b => (x.index, b.1, b.2)

/-- Bits of a register are written as the loader writes them. The low word of a pair is committed with the high word in effect. -/
def State.applyReg (s : State) (a mask v : Nat) : State :=
  match regAt a with
  | none => s
  | some (r, l) =>
    let src : Src := .warden 0
    let s := s.writeAt src r l (merge (s.rwWord r l) mask v)
    match pairHigh r with
    | some hi => if r = .CNT_LO then s else s.writeAt src hi l (s.rwWord hi l)
    | none => s

/-- A value that differs is written (step 5). Tables are never applied, and Restart values are equal. -/
def State.applyVal (s : State) (v : InvVal) : State :=
  if s.valInForce v then s
  else match v with
    | .reg a m v => s.applyReg a m.toNat v.toNat
    | .bifur _ _ _ => s.loadVal v
    | .use _ _ _ => s.loadVal v
    | .rate _ _ _ => s.loadVal v
    | .clocking _ _ _ => s.loadVal v
    | _ => s

/-- The quad groups that differ. -/
def State.groupsMoved (s : State) (i : Image) : List (Nat × Nat) :=
  (((imgSecs (imgBytes i)).map (s.secDiffs i)).flatten.filterMap fun y => match y with
    | .group d g => some (d, g)
    | _ => none).dedup

/-- Step 5: every difference is written. -/
def State.applyDiffs (s : State) (i : Image) : State :=
  let b := imgBytes i
  let moved := s.groupsMoved i
  let s := s.forEach ((upTo 7).map (· + 1)) fun s k =>
    s.forEach (secsOf b k) fun s x => s.forEach (imgVals i x) fun s v => s.applyVal v
  let s := s.forEach moved fun s g => s.cutGroup g.1 g.2
  s.forEach (secsOf b 9) fun s x => s.forEach (recordsOf b x) fun s r =>
    if (s.regDiffs 9 r.1 r.2.1 r.2.2.1).isEmpty then s else s.applyReg r.1 r.2.1 r.2.2.1

/-- Steps 2 to 6 on an accepted image: result, section, die, local index. -/
def State.applyImage (s : State) (slot : Nat) (i : Image) : (Nat × Nat × Nat × Nat) × State :=
  match s.restartAt i with
  | some x => ((6, x, 0, 0), s)
  | none => match s.applyBlocked i with
    | some b => ((5, b.1, b.2.1, b.2.2), s)
    | none =>
      let s := s.applyDiffs i
      let s := (s.putRec (.bootSlot slot (imgHdr (imgBytes i)).floor)).invInForce i slot
      ((0, 0xFF, 0, 0), s.off F.INV_STATUS_pending_restart pkgL)

/-! ## Ops of INV_CMD (R451, R452) -/

/-- The bytes of INV_RESULT. -/
def State.resultBytes (s : State) : List Nat := leBytes 4 (s.word .INV_RESULT pkgL)

/-- The command that waits for the loader is answered: INV_RESULT when the op is done; the spec gives no return code for another
result. -/
def State.invAnswer (s : State) (chan : Option Nat) (res : Nat) : State :=
  match chan with
  | none => s
  | some c =>
    if res = 0 then s.respond 0 c .success (.bytes s.resultBytes) else (s.respond 0 c (.device s.free) (.bytes s.resultBytes)).useFree

/-- An op ends. -/
def State.invDone (s : State) (o : InvOp) (r : Nat × Nat × Nat × Nat) : State :=
  let s := s.invResult r.1 r.2.1 r.2.2.1 r.2.2.2
  let s := if r.1 = 0 then s else s.ev F.INV_EVENT_apply_refused pkgL 0
  let s := { s.off F.INV_CMD_busy pkgL with inv := { s.inv with op := none } }
  s.invAnswer o.chan r.1

/-- An op runs on what was read of its slot, when it is the op that INV_CMD started. With P1 Off no flash access is possible (R64). -/
def State.invRun (s : State) (op : Nat) (got : Option Image) (f : State → InvOp → Image → (Nat × Nat × Nat × Nat) × State) : State :=
  match s.inv.op with
  | none => s
  | some o =>
    if o.op ≠ op then s
    else
      let got := if s.rd F.PD_PKG_STATUS_p1_state pkgL = 3 then got else none
      let r := s.invCheck o.slot got
      match got with
      | none => s.invDone o (r.1, r.2, 0, 0)
      | some i =>
        if r.1 ≠ 0 then s.invDone o (r.1, r.2, 0, 0)
        else
          let t := f s o i
          t.2.invDone o t.1

/-- INV_VERIFY: op 0. -/
def execInvVerify (got : Option Image) (s : State) : Outcome :=
  runPkg s fun s => s.invRun 0 got fun s _ i => ((0, 0xFF, 0, 0), s.showChanges i)

/-- INV_APPLY: op 1. -/
def execInvApply (got : Option Image) (s : State) : Outcome :=
  runPkg s fun s => s.invRun 1 got fun s o i => (s.showChanges i).applyImage o.slot i

/-- INV_ARM: op 2. -/
def execInvArm (got : Option Image) (s : State) : Outcome :=
  runPkg s fun s => s.invRun 2 got fun s o _ =>
    ((0, 0xFF, 0, 0), (s.putRec (.bootSlot o.slot 0)).on F.INV_STATUS_pending_restart pkgL)

/-- INVENTORY_CONTROL: opcode C020h writes INV_CMD. Its answer waits for the op. -/
def execInventoryControl (c : Fin 5) (op : Fin 4) (slot : Fin 2) (s : State) : Outcome :=
  onCmd c [0xC020] s fun s _ =>
    if op.val = 3 then s.respond 0 c .invalidInput .none
    else if s.flag F.INV_CMD_busy pkgL then ((s.invGo op slot none).respond 0 c (.device s.free) .none).useFree
    else (s.invGo op slot (some c)).holdCmd c

/-! ## Firmware commands (R540, R544) -/

/-- The directory's slot for a slot number of the standard: 1 and 2 are firmware slots 0 and 1; 3 and 4 Inventory slots 0 and 1. -/
def fwSlotIdx (n : Nat) : Option Nat :=
  match n with
  | 1 => some 2
  | 2 => some 3
  | 3 => some 0
  | 4 => some 1
  | _ => none

/-- GET_FW_INFO: four slots, with the version that each holds. -/
def execGetFwInfo (c : Fin 5) (versions : List (Option Nat)) (s : State) : Outcome :=
  onCmd c [0x0200] s fun s _ =>
    let fw := (Tbl.get s.inv.fwSlot 0).map (· + 1)
    let inv := if s.inv.force.isSome then some (s.rd F.INV_STATUS_loaded_slot pkgL + 3) else none
    s.respond 0 c .success (.fwInfo (versions.take 4) fw inv)

/-- Does a slot hold what runs: the Inventory in force, or die 0's firmware? -/
def State.slotInUse (s : State) (k : Nat) : Bool :=
  (s.inv.force.isSome && k == s.rd F.INV_STATUS_loaded_slot pkgL)
    || (match Tbl.get s.inv.fwSlot 0 with
        | some f => k == 2 + f
        | none => false)

/-- TRANSFER_FW: the slot is erased and programmed, or the transfer is refused. -/
def execTransferFw (c : Fin 5) (slot : Fin 256) (bytes : List (BitVec 8)) (s : State) : Outcome :=
  onCmd c [0x0201] s fun s _ =>
    let bad (s : State) (rc : Rc) : State := s.respond 0 c rc .none
    match fwSlotIdx slot with
    | none => bad s .invalidInput
    | some k => match s.slotRoom k with
      | none => bad s .invalidInput
      | some room =>
        if s.slotInUse k ∨ room < bytes.length then bad s .invalidInput
        else if s.flag F.INV_CMD_busy pkgL then bad s .busy
        else if s.rd F.PD_PKG_STATUS_p1_state pkgL ≠ 3 then bad s .internal
        else (s.emit (.flashSlot k bytes)).respond 0 c .success .none

/-- ACTIVATE_FW: both directory copies take fw_boot, the second copy first. -/
def execActivateFw (c : Fin 5) (slot : Fin 256) (s : State) : Outcome :=
  onCmd c [0x0202] s fun s _ =>
    if slot.val ≠ 1 ∧ slot.val ≠ 2 then s.respond 0 c .invalidInput .none
    else if s.rd F.PD_PKG_STATUS_p1_state pkgL ≠ 3 then s.respond 0 c .internal .none
    else match s.inv.dir with
      | none => s.respond 0 c .internal .none
      | some d =>
        let s := s.updInv fun i => { i with dir := some { d with fwBoot := slot.val - 1 } }
        ((s.emit (.flashDir 1 (slot.val - 1))).emit (.flashDir 0 (slot.val - 1))).respond 0 c .success .none

end Sys2Proof.Machine
end

