-- ==== Sys2Proof/Machine/Startup.lean ====
section
/-! DEFINITION. Start-up (Table 20.3): leaving reset, the clocks, the die chain, the Strongroom's part of the boot, Warden firmware;
and a domain that reaches On (R65). -/

namespace Sys2Proof.Machine

/-! ## Leaving reset, clocks, die chain -/

/-- The fuse check failed: the boot runs as in Scrap (R465 step 1). -/
def State.fuseError (s : State) : State := ((s.on F.LC_STATE_fuse_err pkgL).wr F.LC_STATE_state pkgL 5).bootFail 6

/-- The pins and waits of R527 allow the package to leave reset, and no monitored rail is below its minimum, which with PWR_OK high
would reset it again (R55). `pwrLow` says that PWR_OK has been low for 10 µs. -/
def State.mayLeave (s : State) (pwrLow : Bool) : Bool :=
  let p := s.pkg
  p.inReset && p.islandUp && p.vaux && !p.thermtrip && (pwrLow || !p.wait.pwrLow) && !p.wait.rails && !p.wait.hold && p.lowRails.isEmpty

/-- The package leaves reset (t0), with PWR_OK and SYS_RST# high. -/
def State.leaveReset (s : State) (fuseBad : Bool) : State :=
  let s := { s with pkg := { s.pkg with inReset := false, pwrOk := true, sysRstHigh := true, wait := {} } }
  let s := (s.wr F.CK_BOOT_STATUS_stage pkgL 1).off F.CK_BOOT_STATUS_error pkgL
  if fuseBad then s.fuseError else s

/-- PACKAGE_RESET_EXIT. -/
def execPackageResetExit (pwrLow fuseBad : Bool) (s : State) : Outcome :=
  .next (if s.mayLeave pwrLow then s.leaveReset fuseBad else s)

/-- PLL_LOCK (t1): the core clocks run and fabric time starts at 0. -/
def execPllLock (s : State) : Outcome :=
  onPkg s fun s => if s.clocks then s else ({ s with clocks := true, ftime := [], ftAdj := [] }).bootStage 2

/-- A PLL has not locked in time: the part is held in reset as after R75, with error 1 (Table 20.4). -/
def State.pllFailed (s : State) : State :=
  let s := (ResetSrc.refclk |> s.srcMarks).cleared
  (s.wr F.CK_BOOT_STATUS_stage pkgL 15).wr F.CK_BOOT_STATUS_error pkgL 1

/-- PLL_LOCK_TIMEOUT. -/
def execPllLockTimeout (s : State) : Outcome := onPkg s fun s => if s.clocks then s else s.pllFailed

/-- The die chain has not ended. -/
def State.chainRuns (s : State) : Bool := s.clocks && !s.flag F.CH_DIE_done pkgL && !s.flag F.CH_DIE_chain_err pkgL

/-- The die chain fails (R502, R6): die_mask keeps the dies that took a number. -/
def State.chainFailed (s : State) (mask : Nat) : State :=
  let s := s.wr F.LC_PART_ID_die_mask pkgL ((mask ||| 1) % 2 ^ s.part.dies)
  ((s.on F.CH_DIE_chain_err pkgL).ev F.CH_EVENT_chain_err pkgL 0).bootFail 2

/-- The die chain succeeds (t2): every die has a number, and the Casub sites start. -/
def State.chainGood (s : State) : State :=
  let s := ((s.wr F.LC_PART_ID_die_mask pkgL (2 ^ s.part.dies - 1)).on F.CH_DIE_done pkgL).bootStage 3
  s.forEach (upTo s.part.dies) fun s d => s.forEach (upTo 7) fun s t => s.siteStart d t

/-- DIE_CHAIN_COMPLETE: the number that the returning token carries, and the dies that took a number. -/
def execDieChainComplete (number : Fin 16) (mask : Fin 256) (s : State) : Outcome :=
  runPkg s fun s =>
    if !s.chainRuns then s
    else
      let s := s.wr F.CH_DIE_returned pkgL (number % 8)
      if number.val = s.part.dies then s.chainGood else s.chainFailed mask

/-- DIE_CHAIN_TIMEOUT. -/
def execDieChainTimeout (mask : Fin 256) (s : State) : Outcome := onPkg s fun s => if s.chainRuns then s.chainFailed mask else s

/-! ## The Strongroom's boot (R465 to R469, R474) -/

/-- The record of this boot is written (t4). boot_count counts package resets since entry to Maker (Table 17.3). -/
def State.bootRecord (s : State) : State := s.record (.boot (decide (1 ≤ s.strong.lc))) .boot

/-- Every last_c is one below its floor after a reset (R474): the reset value of SEC_CTR_c, which its high word shows until the low
word is read (R9, Table 17.16). -/
def State.lastFromFloors (s : State) : State :=
  s.forEach (upTo 5) fun s c =>
    let s := s.setLast c (s.curRec.floors.getD c 0 - 1)
    { s with capture := Tbl.put s.capture (rkey .SEC_CTR_c_HI (idxL 0 0 c)) (s.word .SEC_CTR_c_HI (idxL 0 0 c)) }

/-- The store without a valid record, and a device key that is nearly used up, are reported at the reset (R461, R469). -/
def State.storeReport (s : State) : State :=
  let s := if s.strong.mute then (s.on F.SEC_STATUS_store_err pkgL).ev F.SEC_EVENT_store_err pkgL 0 else s
  if 1048576 < s.strong.next + 65536 then s.ev F.SEC_EVENT_xmss_low pkgL 0 else s

/-- A transition in progress is completed first; otherwise the boot's record is written (R465 step 3). -/
def State.storeResume (s : State) : State :=
  match s.curRec.intent with
  | some t => (s.enterState t).record (.done t) .resumed
  | none => s.bootRecord

/-- The current record is selected, and the boot goes on from it (R465 step 3). -/
def State.storeStart (s : State) : State := s.selectRec.showStore.lastFromFloors.storeReport.storeResume

/-- STRONGROOM_SELFTEST (R465 step 2). -/
def execStrongroomSelftest (pass : Bool) (s : State) : Outcome :=
  onPkg s fun s =>
    if !s.flag F.CH_DIE_done pkgL ∨ s.rd F.SEC_STATUS_boot_stage pkgL ≠ 0 then s
    else if pass then (s.wr F.SEC_STATUS_boot_stage pkgL 1).storeStart
    else ((s.on F.SEC_STATUS_selftest_fail pkgL).wr F.SEC_STATUS_boot_stage pkgL 15).bootFail 3

/-- The boot's record is durable: M0 and M3, then P1 On and the Inventory load (t4, t5). -/
def State.bootGo (s : State) : State :=
  let s := (s.firstMeas.wr F.SEC_STATUS_boot_stage pkgL 2).wr F.PD_PKG_STATUS_p1_state pkgL 3
  (s.wr F.INV_STATUS_state pkgL 1).bootStage 4

/-! ## Warden firmware (R467) -/

/-- fw_boot's order of the two firmware slots. -/
def State.fwOrder (s : State) : List Nat :=
  match s.inv.dir with
  | some d => [d.fwBoot, 1 - d.fwBoot]
  | none => []

/-- Is the image read from firmware slot `k` one that the Strongroom accepts? -/
def State.fwOk (s : State) (k : Nat) (got : Option Image) : Bool :=
  match s.slotRoom (2 + k), got with
  | some room, some i =>
    let raw := natBytes i.raw
    let h := imgHdr raw
    decide (h.length ≤ room) && decide (h.length ≤ raw.length) && hdrOk h 0x5C574644 (768 * 1024) && s.targetOk h && !h.owner
      && s.sigOk (imgBytes i) h && decide (s.curRec.fwFloor ≤ h.version)
  | _, _ => false

/-- Start-up is done with a die's pair; after the last die the part runs (t8). -/
def State.fwAdvance (s : State) (d : Nat) : State :=
  if s.inv.fwNext ≠ d then s
  else
    let s := s.updInv fun i => { i with fwNext := d + 1 }
    if d + 1 = s.part.dies then (s.bootStage 6).wr F.SEC_STATUS_boot_stage pkgL 4 else s

/-- A die's cores are released (t7, t8, Table 13.7 t3). -/
def State.fwRelease (s : State) (d : Nat) : State := (s.releaseWarden d).fwAdvance d

/-- An image is accepted: M2, then the floor, then the release. -/
def State.fwTake (s : State) (d k : Nat) (i : Image) : State :=
  let h := imgHdr (natBytes i.raw)
  let s := s.extend 2 (digest (imgBytes i))
  let s := s.updInv fun x => { x with fwSlot := Tbl.put x.fwSlot d k, fwVersion := if d = 0 then h.version else x.fwVersion }
  if s.curRec.fwFloor < h.floor then s.record (.fwFloor h.floor) (.release d) else s.fwRelease d

/-- Both images fail on a die (error 5): its pair is held. -/
def State.fwFailed (s : State) (d : Nat) : State :=
  let s := (s.holdWarden d).ev F.SEC_EVENT_fw_fail pkgL d
  let s := if s.inv.fwNext = d ∧ s.rd F.CK_BOOT_STATUS_error pkgL = 0 then s.wr F.CK_BOOT_STATUS_error pkgL 5 else s
  s.fwAdvance d

/-- A die's firmware is due: at start-up in turn, once the Inventory is applied or has failed, or in a Warden restart; P1 is On, and no record
write holds its release. -/
def State.fwDue (s : State) (d : Nat) : Bool :=
  ((s.inv.fwNext == d && decide (2 ≤ s.rd F.INV_STATUS_state pkgL)) || s.flag F.RS_WDOG_STATUS_restarting (dieL d))
    && s.domAt 0 23 == 3 && s.strong.jobs.all fun j => j.next != .release d

/-- FIRMWARE_VERIFY: what was read from the two firmware slots; none for a read in error. -/
def execFirmwareVerify (d : Fin 8) (img0 img1 : Option Image) (s : State) : Outcome :=
  runOn d s fun s =>
    if !s.fwDue d then s
    else
      let got (k : Nat) : Option Image := if k = 0 then img0 else img1
      match s.fwOrder.find? fun k => s.fwOk k (got k) with
      | some k => match got k with
        | some i => s.fwTake d k i
        | none => s
      | none => s.fwFailed d

/-! ## Records become durable (R461) -/

/-- A critical command whose record is durable has used its counter, and is executed next (R474). -/
def State.counterGo (s : State) (c v : Nat) : State :=
  (s.updChan 0 c fun x => { x with running := x.running.map fun q => { q with waits := false } }).setLast c v

/-- What waited for a record goes on. -/
def State.storeNext (s : State) : StoreNext → State
  | .nothing => s
  | .boot => s.bootGo
  | .counter c v => s.counterGo c v
  | .counted c v => s.setLast c v
  | .xmss => s.signGo
  | .reply c => s.respond 0 c .success .none
  | .enter t c => s.transitionGo t c
  | .ended t c => s.transitionEnd t c
  | .resumed => s.bootRecord
  | .applied => match s.inv.got with
    | some (some i) => s.goLive i
    | _ => s
  | .release d => s.fwRelease d

/-- The first record write is durable. -/
def State.recordDone (s : State) : State :=
  match s.strong.jobs with
  | [] => s
  | j :: r => ((s.updStrong fun g => { g with jobs := r }).putRec j.set).storeNext j.next

/-- STORE_RECORD_DURABLE. -/
def execStoreRecordDurable (s : State) : Outcome := runPkg s fun s => s.recordDone

/-! ## A domain reaches On (R65, R457) -/

/-- A value of the image in force belongs to domain `k` of die `d`. -/
def valOf (d k : Nat) : InvVal → Bool
  | .reg a _ _ => match regAt a with
    | some (r, l) => l.die == d && inDomain k r.info.blk l.unit l.idx
    | none => false
  | .rate e q _ => e.val == d && k == q.val / 4
  | .clocking e q _ => e.val == d && k == 4 + q.val / 4
  | .mirror e _ _ => e.val == d && k == 16
  | .region e _ _ => e.val == d && k == 15
  | _ => false

/-- The domain takes the values that the current Inventory sets, and its units are ready. -/
def State.domLoad (s : State) (d k : Nat) : State :=
  match s.inv.force with
  | none => s
  | some i =>
    let b := imgBytes i
    let l := dieL d
    let s := s.forEach (imgSecs b) fun s x => s.forEach ((imgVals i x).filter (valOf d k)) fun s v => s.loadVal v
    let s := if 4 ≤ k ∧ k < 8 then s.cutGroup d (k - 4) else s
    let s := s.forEach (secsOf b 9) fun s x => s.forEach (recordsOf b x) fun s r =>
      if valOf d k (.reg (Fin.ofNat 268435456 r.1) 0 0) then s.loadRecord r.1 r.2.1 r.2.2.1 else s
    let s := if 8 ≤ k ∧ k < 15 then s.cutHyst d (k - 8) else s
    match k with
    | 15 => s.on F.CA_CTRL_ready l
    | 16 => (s.on F.MR_STATUS_ready l).on F.OV_STATUS_ready l
    | _ => s

/-- What starts by itself once a domain is On: its ports, or its site. -/
def State.domStart (s : State) (d k : Nat) : State :=
  if k < 8 then s.forEach ((upTo 4).map fun j => portNo d (4 * (k % 4) + j)) fun s p => s.portEnable p
  else if k < 15 then s.siteStart d (k - 8)
  else if k = 17 ∨ k = 18 then s.halfRate d (s.flag F.TM_STATUS_throttle_active (dieL d))
  else s

/-- A domain reaches On; a request for Off that came meanwhile is then carried out or refused (R70). -/
def State.domPowered (s : State) (d k : Nat) : State :=
  let s := ((s.domErase d k).setDom d k 3).domLoad d k
  if s.flag (F.PD_DOM_REQ_dom_on k) (dieL d) then s.domStart d k
  else (s.on (F.PD_DOM_REQ_dom_on k) (dieL d)).domAsk d k false

/-- P1 reaches On; a request for Off that came meanwhile is then carried out or refused (R70). -/
def State.p1Powered (s : State) : State :=
  let s := s.setDom 0 23 3
  if s.flag F.PD_PKG_CTRL_p1_on pkgL then s else (s.on F.PD_PKG_CTRL_p1_on pkgL).p1Ask false

/-- DOMAIN_POWERED: domains 0 to 21 of a die, or P1 (23). P0 is always On or in Lull, and never Powering (Table 2.8). -/
def execDomainPowered (d : Fin 8) (k : Fin 24) (s : State) : Outcome :=
  runOn d s fun s =>
    if k.val < 22 then (if s.domState d k = 1 then s.domPowered d k else s)
    else if k.val = 23 ∧ d.val = 0 ∧ s.domAt 0 23 = 1 then s.p1Powered else s

end Sys2Proof.Machine
end

