-- ==== Sys2Proof/Machine/Hatch.lean ====
section
/-! DEFINITION. The Hatch's commands (chapter 15): inbound accesses, delayed reads, prefetch timeouts, the external buses. -/

namespace Sys2Proof.Machine

/-! ## Inbound accesses (R424 to R430, R432) -/

/-- A write that the Shelf or a target cannot take is discarded (R427). -/
def State.partialWrite (s : State) (d : Nat) : State :=
  (s.inc F.MB_HATCH_CNT1_partial_wr (dieL d)).ev F.MB_EVENT_partial_wr (dieL d) 0

/-- The bytes of a word that contiguous enables name, with the place of the first; none when they are not contiguous. -/
def enabledBytes (be v : Nat) : Option (Nat × List Nat) :=
  let on := (upTo 4).filter fun k => bitOf be k
  match on with
  | [] => none
  | k :: _ => if on = (upTo on.length).map (· + k) then some (k, on.map fun i => v / 2 ^ (8 * i) % 256) else none

/-- The head of the inbound buffer waits for an external bus. -/
def State.headWaits (s : State) (d : Nat) : State :=
  s.updHatch d fun h => match h.inbound with
    | [] => h
    | e :: r => { h with inbound := { e with waits := true } :: r }

/-- One word of an inbound write. -/
def State.inWrite (s : State) (d fm a be v : Nat) : State :=
  let src : Src := .fm (Fin.ofNat 4 fm)
  let past (s : State) : State := s.inboundWord d a false 0 []
  match winAt a with
  | none => past (if be = 15 then s.outerWrite src a v else s.partialWrite d)
  | some (w, g, t, r) =>
    if !(s.serving && s.present a && !s.shut src) then past s
    else if s.denied src then past s.deny
    else match enabledBytes be v with
      | none => past (s.partialWrite d)
      | some (k, b) => ((s.pfWritten a).headWaits d).busAdd w g ⟨.inbound, t, r + k, 0, b⟩

/-- Consecutive words of the Shelf are read in ascending order (R426). -/
def State.readRun : Nat → State → Nat → List Nat × State
  | 0, s, _ => ([], s)
  | n + 1, s, a =>
    let x := s.outerRead a
    let y := State.readRun n x.2 (a + 4)
    (x.1 :: y.1, y.2)

/-- One word of an inbound read: from the prefetch buffer, an external bus, or the Shelf. -/
def State.inRead (s : State) (d fm a : Nat) : State :=
  match s.pfTake d fm a with
  | (some w, s) => s.inboundWord d a true w []
  | (none, s) =>
    let n := s.fillWords d a
    match winAt a with
    | some (w, g, t, r) =>
      if s.serving && s.present a then (s.headWaits d).busAdd w g ⟨.inbound, t, r, n, []⟩ else s.inboundWord d a true allOnes []
    | none =>
      let x := s.readRun n a
      x.2.inboundWord d a true (x.1.headD 0) (x.1.drop 1)

/-- The entry at the head of the inbound buffer goes on until it waits or has no word left. A delayed read that has backed off 16
times goes before an entry that has not begun (R430). -/
def State.serveN : Nat → State → Nat → State
  | 0, s, _ => s
  | n + 1, s, d =>
    match (s.hatch d).inbound with
    | [] => s
    | e :: r =>
      if e.waits ∨ (!e.begun ∧ (s.hatch d).ahead.isSome) then s
      else
        let s := s.updHatch d fun h => { h with inbound := { e with begun := true } :: r }
        match e.todo with
        | [] => s
        | (a, be, v) :: _ => State.serveN n (if e.write then s.inWrite d e.fm a be v else s.inRead d e.fm a) d

/-- The Hatch of a die serves its inbound buffer. -/
def State.serve (s : State) (d : Nat) : State :=
  match (s.hatch d).inbound with
  | [] => s
  | e :: _ => State.serveN (e.todo.length + 1) s d

/-- A delayed read is backed off by an inbound request (R430). -/
def State.backOff (s : State) (d k : Nat) : State :=
  if !s.flag F.MB_DR_CMD_s_busy (idxL d 0 k) then s
  else
    let s := s.inc F.MB_HATCH_CNT1_backoffs (dieL d)
    let n := Tbl.getD (s.hatch d).backs k 0 + 1
    s.updHatch d fun h => { h with backs := Tbl.put h.backs k n, ahead := if 16 ≤ n ∧ h.ahead = none then some k else h.ahead }

/-- An inbound request is accepted (R425). -/
def State.inbound (s : State) (ingress fm tag addr : Nat) (words : List HWord) (conflict : Option Nat) : State :=
  let a := addr / 4 * 4
  let d := s.hatchOf ingress a
  if !s.flag F.MB_CHAN_c_present (idxL 0 0 fm) || words.isEmpty || decide (32 ≤ (s.hatch d).inbound.length) then s
  else
    let todo := ((upTo words.length).zip words).map fun x =>
      (a + 4 * x.1, x.2.be.val, match x.2.val with
        | some v => v.toNat
        | none => 0)
    let e : HEnt := { fm := fm, tag := tag, write := words.any fun w => w.val.isSome, todo := todo }
    let s := s.updHatch d fun h => { h with inbound := h.inbound ++ [e] }
    let s := match conflict with
      | some k => s.backOff d k
      | none => s
    s.serve d

/-- HATCH_INBOUND_ACCESS: FM port, tag, address and words of the request; the delayed read that it backs off, if any. -/
def execHatchInboundAccess (d : Fin 8) (fm : Fin 4) (tag : Fin 1024) (addr : Fin 268435456) (words : List HWord)
    (conflict : Option (Fin 8)) (s : State) : Outcome :=
  runOn d s fun s => s.inbound d fm tag addr words (conflict.map (·.val))

/-- The completion of an entry that came over the crossbar: it goes back to the request's tracker, a read with its words where they stand in
the payload (R424); a posted write has none. -/
def State.hatchReply (s : State) (d : Nat) (e : HEnt) : State :=
  match e.trk with
  | none => s
  | some (td, t) =>
    let o := e.off / 4 * 4
    let put (c : List Nat) (x : Nat × Nat) : List Nat :=
      let (k, b) := barPlace e.off (o + 4 * x.1)
      c.set k (c.getD k 0 + 2 ^ b * x.2)
    let cells := ((upTo e.got.length).zip e.got).foldl put (List.replicate (barCells o (4 * e.got.length)) 0)
    let m : Msg := { tc := 2, kind := .ioCpl, dst := Tbl.getD s.inv.fmPorts e.fm 0, src := 0x88 + d, ptag := e.tag, trkDie := td, trk := t,
                     last := true }
    s.push (.resp d (made (withCells m (if e.write then [] else tlpCell m :: cells))))

/-- HATCH_ACCESS_DONE: the completion of the entry at the head returns (R428). -/
def State.accessDone (s : State) (d : Nat) : State :=
  match (s.hatch d).inbound with
  | [] => s
  | e :: r =>
    if e.waits ∨ !e.begun ∨ !e.todo.isEmpty then s
    else
      let s := s.updHatch d fun h => { h with inbound := r }
      (if e.crossed then s.hatchReply d e
      else s.emit (if e.write then .hatchWrite d e.fm e.tag else .hatchRead d e.fm e.tag e.got)).serve d

/-- HATCH_ACCESS_DONE: an entry that came over the crossbar is served now, if nothing has yet. -/
def execHatchAccessDone (d : Fin 8) (s : State) : Outcome := runOn d s fun s => (s.serve d).accessDone d

/-! ## Delayed reads (R429) -/

/-- DELAYED_READ_START: go of MB_DR_CMD_s. -/
def execDelayedReadStart (src : Src) (d : Fin 8) (k : Fin 8) (space : Bool) (addr : Fin 268435456) (s : State) : Outcome :=
  onWrite src d s fun s => s.drStart d k space addr

/-- The data of a delayed read arrives. A register of the part is read now, with the effects of its read; words of memory, and of
another die's external window, are those that came, the first the slot's and the others kept (R432). -/
def State.drData (s : State) (d k : Nat) (words : List Nat) : State :=
  let l := idxL d 0 k
  let a := s.rd F.MB_DR_CMD_s_addr l / 4 * 4
  let space := s.flag F.MB_DR_CMD_s_space l
  if !s.flag F.MB_DR_CMD_s_busy l || s.drOnBus d k || (s.hatch d).want.contains k then s
  else if !space && (winAt a).isNone then
    let x := s.readRun (s.fillWords d a) a
    (x.2.drDone d k a (x.1.headD allOnes) (x.1.drop 1)).serve d
  else match words with
    | [] => s
    | w :: r => (s.drDone d k a w (if space then [] else r)).serve d

/-- DELAYED_READ_DATA. -/
def execDelayedReadData (d : Fin 8) (k : Fin 8) (words : List (BitVec 32)) (s : State) : Outcome :=
  runOn d s fun s => s.drData d k (words.map BitVec.toNat)

/-- DELAYED_READ_COLLECT: a read of MB_DR_DATA_s. -/
def execDelayedReadCollect (d : Fin 8) (k : Fin 8) (s : State) : Outcome :=
  runOn d s fun s => (s.drCollect d k).2

/-- DR_TMO_EXPIRY. -/
def execDrTmoExpiry (d : Fin 8) (k : Fin 8) (s : State) : Outcome :=
  runOn d s fun s =>
    if s.flag F.MB_DR_CMD_s_done (idxL d 0 k) then
      ((s.inc F.MB_HATCH_CNT0_dr_discard (dieL d)).ev F.MB_EVENT_dr_discard (dieL d) 0).drFree d k
    else s

/-- PF_TMO_EXPIRY. -/
def execPfTmoExpiry (d : Fin 8) (s : State) : Outcome := runOn d s fun s => s.pfDrop d

/-! ## External buses (R433 to R435) -/

/-- Is the first transaction of a bus in progress? -/
def State.busActive (s : State) (d g : Nat) : Bool := !(s.busList d g).isEmpty && !(s.hatch d).clearing.contains g

/-- The part drives MB_SCL and MB_SDA of a bus, open-drain (Table 2.30): a transaction or a recovery is under way, and VDDIO33 is
valid; else both lines present high impedance (R85). -/
def State.busDriven (s : State) (d g : Nat) : Bool := s.io33 d && !s.pkg.inReset && (s.busActive d g || (s.hatch d).clearing.contains g)

/-- Words of the bytes that a transaction read. -/
def readWords (n : Nat) (b : List Nat) : List Nat := (upTo n).map fun i => leAt b (4 * i) 4

/-- A bus error: the transaction ends, and the Hatch sends 9 clocks and a STOP (R435). -/
def State.busError (s : State) (d g : Nat) : State :=
  let s := s.xFail d g false
  let s := s.updHatch d fun h => { h with clearing := h.clearing ++ [g] }
  s.emit (.xbusClear d g)

/-- The first transaction of a bus ends. -/
def State.busEnd (s : State) (d g : Nat) (how : XEnd) : State :=
  let n := ((s.busList d g).headD ⟨.core, 0, 0, 0, []⟩).words
  let s := match how with
    | .ok b =>
      let w := readWords n (natBytes b)
      s.xDone d g (w.headD 0) (w.drop 1)
    | .nack => s.xFail d g true
    | .stretch => s.busError d g
    | .low => s.busError d g
  (s.busNext d g).serve d

/-- XBUS_TRANSACTION_END. -/
def execXbusTransactionEnd (d : Fin 8) (g : Fin 4) (how : XEnd) (s : State) : Outcome :=
  runOn d s fun s => if s.busActive d g then s.busEnd d g how else s

/-- SDA is high after a recovery: the bus is usable again. -/
def State.busFree (s : State) (d g : Nat) : State :=
  let l := idxL d 0 g
  let s := s.updHatch d fun h => { h with clearing := h.clearing.filter (· != g) }
  let s := if s.flag F.MB_XBUS_STATUS_g_stuck l then (s.off F.MB_XBUS_STATUS_g_stuck l).ev F.MB_EVENT_recovered (dieL d) g else s
  s.busNext d g

/-- SDA is low after a recovery: stuck; every access ends at once as an error. -/
def State.busStuck (s : State) (d g : Nat) : State :=
  let l := idxL d 0 g
  let s := if s.flag F.MB_XBUS_STATUS_g_stuck l then s else (s.on F.MB_XBUS_STATUS_g_stuck l).ev F.MB_EVENT_stuck (dieL d) g
  (s.busNext d g).emit (.xbusClear d g)

/-- XBUS_RECOVERY: 9 clocks and a STOP have been sent; whether SDA is then high. -/
def execXbusRecovery (d : Fin 8) (g : Fin 4) (sdaHigh : Bool) (s : State) : Outcome :=
  runOn d s fun s =>
    if !(s.hatch d).clearing.contains g.val then s
    else (if sdaHigh then s.busFree d g else s.busStuck d g).serve d

end Sys2Proof.Machine
end

