-- ==== Sys2Proof/Machine/Chain.lean ====
section
/-! DEFINITION. The management chain (chapter 18): frames, Stocktake, breaks and Notices, MCTP messages, register access. It works
whenever the island has power. MCTP's own layouts, which the spec takes from DSP0236, are the standard's. -/

namespace Sys2Proof.Machine

/-- An event of the chain interface, while the island has power. -/
def onChain (s : State) (f : State → State) : Outcome := .next (if s.pkg.islandUp then f s else s)

/-- Change what the island holds. -/
def State.updIsland (s : State) (f : Island → Island) : State := { s with island := f s.island }

/-- An event of the chain block; the log runs only while the package is out of reset. -/
def State.chEv (s : State) (f : Fld) : State := if s.pkg.inReset then s.on f pkgL else s.ev f pkgL 0

/-! ## Frames (R491 to R493) -/

/-- CRC-16 of Table 18.1. -/
def crc16 (b : List Nat) : Nat :=
  let step (c : Nat) : Nat := if bitOf c 15 then (c * 2 % 65536) ^^^ 0x1021 else c * 2
  b.foldl (fun c x => (upTo 8).foldl (fun c _ => step c) (c ^^^ (x * 256))) 0xFFFF

/-- A frame with its crc, high byte first. -/
def withCrc (b : List Nat) : List Nat := b ++ [crc16 b / 256, crc16 b % 256]

/-- The chain address that stands for none. -/
def noAddr : Nat := 0xFE

/-- The package's chain address. -/
def State.chAddr (s : State) : Nat := s.rd F.CH_STATUS_addr pkgL

/-- Is a length within the range of its kind (Table 18.1)? No length is in that of a reserved kind. -/
def lenOk (kind n : Nat) : Bool :=
  match kind with
  | 0 => decide (5 ≤ n) && decide (n ≤ 132)
  | 1 => n == 2
  | 2 => n == 12
  | _ => false

/-- A frame joins the queue of frames to be forwarded; the fifth is dropped (R493). -/
def State.forward (s : State) (b : List Nat) : State :=
  if s.island.fwd.length < 4 then s.updIsland fun i => { i with fwd := i.fwd ++ [b] }
  else (s.inc F.CH_CNT_ERR_fwd_drop pkgL).chEv F.CH_EVENT_fwd_drop

/-- A frame is taken. -/
def State.takeFrame (s : State) (b : List Nat) : State := s.updIsland fun i => { i with taken := i.taken ++ [b] }

/-- What becomes of a valid frame (R492). A Stocktake frame is forwarded once it has been acted on (R497). -/
def State.routeFrame (s : State) (b : List Nat) : State :=
  let dst := b.getD 0 0
  let kind := b.getD 2 0
  if s.chAddr = noAddr then (if kind = 1 then s.takeFrame b else s.forward b)
  else if dst = s.chAddr then s.takeFrame b
  else if dst = 0xFF then (if kind = 1 then s.takeFrame b else (s.takeFrame b).forward b)
  else s.forward b

/-- A frame has arrived whole. -/
def State.frameIn (s : State) (b : List Nat) : State :=
  let s := (s.updIsland fun i => { i with chIn := true }).on F.CH_STATUS_line_ok pkgL
  let n := b.getD 3 0
  let body := b.take (b.length - 2)
  if b.length < 6 ∨ b.length ≠ n + 6 ∨ withCrc body ≠ b then (s.inc F.CH_CNT_ERR_crc_err pkgL).chEv F.CH_EVENT_frame_err
  else if !lenOk (b.getD 2 0) n then (s.inc F.CH_CNT_ERR_oversize pkgL).chEv F.CH_EVENT_frame_err
  else (s.inc F.CH_CNT_rx_frames pkgL).routeFrame body

/-- CHAIN_FRAME_RECEIVE. -/
def execChainFrameReceive (f : ChFrame) (s : State) : Outcome := onChain s fun s => s.frameIn (natBytes f.bytes)

/-- A frame leaves: one to be forwarded before one of the package's own. -/
def State.frameOut (s : State) : State :=
  match s.island.fwd, s.island.own with
  | b :: r, _ => ((s.updIsland fun i => { i with fwd := r }).inc F.CH_CNT_tx_frames pkgL).emit (.chainFrame (withCrc b))
  | [], b :: r => ((s.updIsland fun i => { i with own := r }).inc F.CH_CNT_tx_frames pkgL).emit (.chainFrame (withCrc b))
  | [], [] => s

/-- CHAIN_FRAME_FORWARD. -/
def execChainFrameForward (s : State) : Outcome := onChain s State.frameOut

/-- The first taken frame of a kind, and the others. -/
def State.takenOf (s : State) (kind : Nat) : Option (List Nat × List (List Nat)) :=
  match s.island.taken.find? fun b => b.getD 2 0 == kind with
  | some b => some (b, s.island.taken.erase b)
  | none => none

/-! ## Stocktake, breaks, Notices (R497, R498) -/

/-- A Stocktake frame is acted on. -/
def State.stocktake (s : State) (b : List Nat) : State :=
  let count := b.getD 5 0
  let pass (s : State) (f : List Nat) : State := if b.getD 0 0 = s.chAddr ∧ s.chAddr ≠ noAddr then s else s.forward f
  if count < 62 then
    let s := pass s (b.set 5 (count + 1))
    ((s.wr F.CH_STATUS_addr pkgL (count + 1)).wr F.CH_STATUS_gen pkgL (b.getD 4 0)).chEv F.CH_EVENT_stocktake
  else ((pass s b).wr F.CH_STATUS_addr pkgL noAddr).chEv F.CH_EVENT_st_overflow

/-- STOCKTAKE. -/
def execStocktake (s : State) : Outcome :=
  onChain s fun s => match s.takenOf 1 with
    | some (b, r) => (s.updIsland fun i => { i with taken := r }).stocktake b
    | none => s

/-- CHAIN_BREAK. -/
def execChainBreak (s : State) : Outcome :=
  onChain s fun s =>
    let s := ((s.updIsland fun i => { i with chIn := false }).off F.CH_STATUS_line_ok pkgL).wr F.CH_STATUS_addr pkgL noAddr
    (s.inc F.CH_CNT_ERR_breaks pkgL).chEv F.CH_EVENT_ch_break

/-- A Notice frame. -/
def State.notice (s : State) : List Nat :=
  [0, noAddr, 2, 12] ++ leBytes 4 (s.word .LC_PART_ID pkgL) ++ leBytes 8 s.strong.deviceId

/-- A frame of the package's own waits to be sent. -/
def State.sendFrame (s : State) (b : List Nat) : State := s.updIsland fun i => { i with own := i.own ++ [b] }

/-- NOTICE_SEND: CH_IN has been idle-high for 1 ms, or 100 ms have passed since the last Notice. -/
def execNoticeSend (s : State) : Outcome :=
  onChain s fun s =>
    let s := (s.updIsland fun i => { i with chIn := true }).on F.CH_STATUS_line_ok pkgL
    if s.chAddr = noAddr then s.sendFrame s.notice else s

/-! ## MCTP (R494, R495) -/

/-- The MCTP endpoint ID; 0 for none. -/
def State.eid (s : State) : Nat := s.rd F.CH_STATUS_eid pkgL

/-- Bytes cut into pieces of at most 64; at least one piece. -/
def pieces : Nat → List Nat → List (List Nat)
  | 0, b => [b]
  | n + 1, b => if b.length ≤ 64 then [b] else b.take 64 :: pieces n (b.drop 64)

/-- A response message to the sender of `m`, as packets of at most 64 bytes. -/
def State.reply (s : State) (m : Mctp) (body : List Nat) : State :=
  let ps := pieces body.length body
  s.forEach ((upTo ps.length).zip ps) fun s x =>
    let flags := b2n (x.1 == 0) * 128 + b2n (x.1 + 1 == ps.length) * 64 + x.1 % 4 * 16 + m.tag % 8
    s.sendFrame ([m.addr, s.chAddr, 0, 4 + x.2.length, 1, m.eid, s.eid, flags] ++ x.2)

/-- A Fabric Manager or CCI request (`cci`): to channel 4, or Busy while only the island is powered (R495). -/
def State.cciMsg (s : State) (m : Mctp) (cci : Bool) : State :=
  let opcode := leAt m.bytes 4 2
  let o : CmdFrom := .mctp (Fin.ofNat 256 m.eid) (Fin.ofNat 8 m.tag)
  if s.pkg.inReset then s.emit (.cmdReply 0 4 opcode o .busy .none)
  else s.acceptCmd 0 4 { opcode := opcode, payload := m.bytes.drop 13, origin := o, cci := cci }

/-- A control request with a command code. -/
def isControl (code : Nat) (b : List Nat) : Bool := b.getD 0 0 % 128 == 0 && bitOf (b.getD 1 0) 7 && b.getD 2 0 == code

/-- The response to a control request: its header without the request bit, its code, then completion code and data. -/
def State.control (s : State) (m : Mctp) (data : List Nat) : State :=
  s.reply m ([0, m.bytes.getD 1 0 % 32, m.bytes.getD 2 0] ++ data)

/-- A whole message, by its type (Table 18.2). -/
def State.wholeMsg (s : State) (m : Mctp) : State :=
  match m.bytes.getD 0 0 % 128 with
  | 0x00 =>
    if (upTo 5).any fun k => isControl (k + 1) m.bytes then s.updIsland fun i => { i with msgs := i.msgs ++ [m] }
    else if bitOf (m.bytes.getD 1 0) 7 then s.control m [5]
    else s
  | 0x07 => s.cciMsg m false
  | 0x08 => s.cciMsg m true
  | 0x7E => if slice m.bytes 1 2 = [0xC5, 0xA5] then s.updIsland fun i => { i with msgs := i.msgs ++ [m] } else s
  | _ => s

/-- A packet joins its message: in sequence, or its message is discarded (R494). -/
def State.packet (s : State) (b : List Nat) : State :=
  let p := b.drop 4
  let fl := p.getD 3 0
  let eid := p.getD 2 0
  let k := key2 eid (fl % 16)
  let dst := p.getD 1 0
  let data := p.drop 4
  let seq := fl / 16 % 4
  if !(dst == 0 || dst == 0xFF || dst == s.eid) then s
  else
    let old : Option Mctp := if bitOf fl 7 then some { addr := b.getD 1 0, eid := eid, tag := fl % 16, seq := seq } else Tbl.get s.island.parts k
    let s := s.updIsland fun i => { i with parts := Tbl.del i.parts k }
    match old with
    | none => s
    | some m =>
      if m.seq ≠ seq ∨ 256 ≤ s.island.parts.length + s.island.msgs.length then s
      else
        let m := { m with seq := (seq + 1) % 4, bytes := m.bytes ++ data }
        if bitOf fl 6 then s.wholeMsg m else s.updIsland fun i => { i with parts := Tbl.put i.parts k m }

/-- MCTP_PACKET. -/
def execMctpPacket (s : State) : Outcome :=
  onChain s fun s => match s.takenOf 0 with
    | some (b, r) => (((s.updIsland fun i => { i with taken := r }).packet b).settle)
    | none => s

/-- The first whole message that `p` holds of is answered by `f`. -/
def onMsg (p : List Nat → Bool) (s : State) (f : State → Mctp → State) : Outcome :=
  onChain s fun s => match s.island.msgs.find? fun m => p m.bytes with
    | some m => f (s.updIsland fun i => { i with msgs := i.msgs.erase m }) m
    | none => s

/-- Set Endpoint ID: an ID from the bus owner is taken. 0 and 0xFF are no endpoint IDs. -/
def State.setEid (s : State) (m : Mctp) : State :=
  let e := m.bytes.getD 4 0
  if m.bytes.getD 3 0 % 4 ≤ 1 ∧ e ≠ 0 ∧ e ≠ 0xFF then (s.wr F.CH_STATUS_eid pkgL e).control m [0, 0, e, 0] else s.control m [2]

/-- SET_ENDPOINT_ID. -/
def execSetEndpointId (s : State) : Outcome := onMsg (isControl 1) s State.setEid

/-- GET_ENDPOINT_ID. -/
def execGetEndpointId (s : State) : Outcome := onMsg (isControl 2) s fun s m => s.control m [0, s.eid, 0, 0]

/-- GET_ENDPOINT_UUID. -/
def execGetEndpointUuid (s : State) : Outcome :=
  onMsg (isControl 3) s fun s m => s.control m (0 :: Config.uuid s.strong.deviceId)

/-- GET_MCTP_VERSION_SUPPORT. -/
def execGetMctpVersionSupport (s : State) : Outcome := onMsg (isControl 4) s fun s m => s.control m (0 :: Config.mctpVersions)

/-- GET_MESSAGE_TYPE_SUPPORT: the types of Table 18.2. -/
def execGetMessageTypeSupport (s : State) : Outcome :=
  onMsg (isControl 5) s fun s m => s.control m [0, 4, 0x00, 0x07, 0x08, 0x7E]

/-! ## Register access (R496) -/

/-- The package's registers are served to the chain: from t6 on, and in a start-up that has halted but for a failed self-test (R532,
R533). -/
def State.chainServes (s : State) : Bool :=
  s.serving || (!s.pkg.inReset && s.rd F.CK_BOOT_STATUS_stage pkgL == 15 && !s.flag F.SEC_STATUS_selftest_fail pkgL)

/-- Registers of the island: LC_PART_ID, identity and life cycle (R59). -/
def islandReg (a : Nat) : Bool :=
  match regAt a with
  | some (r, _) => r = .LC_PART_ID || r = .LC_STATE || r = .LC_DEVICE_ID_LO || r = .LC_DEVICE_ID_HI
  | none => false

/-- A read by the chain. -/
def State.chainRead (s : State) (a : Nat) : Nat × State :=
  if s.chainServes ∨ islandReg a then s.readReg a else (allOnes, s)

/-- Does an address hold anything that a write could reach? -/
def State.holds (s : State) (a : Nat) : Bool := s.present a && ((pageAt a).isSome || (winAt a).isSome || (regAt a).isSome)

/-- A write by the chain: whether it was refused or discarded, and its effect. -/
def State.chainWrite (s : State) (a v : Nat) : Bool × State :=
  if !s.chainServes || s.shut .chain || !s.holds a then (true, s)
  else if s.denied .chain then (true, s.deny)
  else (false, s.writeReg .chain a v)

/-- `n` words are read in ascending order. -/
def State.chainReads : Nat → State → Nat → List Nat × State
  | 0, s, _ => ([], s)
  | n + 1, s, a =>
    let x := s.chainRead a
    let y := State.chainReads n x.2 (a + 4)
    (x.1 :: y.1, y.2)

/-- Words are written in ascending order: whether one was refused, and their effects. -/
def State.chainWrites (s : State) (a : Nat) : List Nat → Bool × State
  | [] => (false, s)
  | v :: r =>
    let x := s.chainWrite a v
    let y := State.chainWrites x.2 (a + 4) r
    (x.1 || y.1, y.2)

/-- A register-access request that writes, or one that does not: op 1, or another. -/
def isRegAccess (write : Bool) (b : List Nat) : Bool := b.getD 0 0 % 128 == 0x7E && (b.getD 3 0 == 1) == write

/-- The word count and address of a request, when they are valid. -/
def regAsk (b : List Nat) (data : Bool) : Option (Nat × Nat) :=
  let w := b.getD 4 0
  let a := leAt b 5 4
  if 1 ≤ w ∧ w ≤ 14 ∧ a % 4 = 0 ∧ b.length = 9 + (if data then 4 * w else 0) then some (w, a) else none

/-- A response: completion code, word count, address, words. -/
def State.regReply (s : State) (m : Mctp) (code : Nat) (words : List Nat) : State :=
  s.reply m ([0x7E, 0xC5, 0xA5, code, m.bytes.getD 4 0] ++ slice m.bytes 5 4 ++ (words.map (leBytes 4)).flatten)

/-- A read request. An op that is neither 0 nor 1 is invalid. -/
def State.regRead (s : State) (m : Mctp) : State :=
  match regAsk m.bytes false with
  | none => s.regReply m 1 []
  | some (w, a) =>
    if m.bytes.getD 3 0 ≠ 0 then s.regReply m 1 []
    else
      let x := s.chainReads w a
      x.2.regReply m 0 x.1

/-- REG_ACCESS_READ. -/
def execRegAccessRead (s : State) : Outcome := onMsg (isRegAccess false) s State.regRead

/-- A write request. -/
def State.regWrite (s : State) (m : Mctp) : State :=
  match regAsk m.bytes true with
  | none => s.regReply m 1 []
  | some (w, a) =>
    let x := s.chainWrites a (readWords w (m.bytes.drop 9))
    x.2.finish.regReply m (if x.1 then 2 else 0) []

/-- REG_ACCESS_WRITE. -/
def execRegAccessWrite (s : State) : Outcome := onMsg (isRegAccess true) s State.regWrite

end Sys2Proof.Machine
end

