-- ==== Sys2Proof/Machine/Dispatch.lean ====
section
/-! DEFINITION. Which meaning each command has: one arm for every constructor of Instr. -/

namespace Sys2Proof.Machine

def exec (i : Instr) (s : State) : Host.Outcome State Fault Refusal :=
  match i with
  | .registerWrite src addr val => Sys2Proof.Machine.execRegisterWrite src addr val s
  | .pairLowRead addr => Sys2Proof.Machine.execPairLowRead addr s
  | .pairHighWrite src addr val => Sys2Proof.Machine.execPairHighWrite src addr val s
  | .islandPowerOn vaux => Sys2Proof.Machine.execIslandPowerOn vaux s
  | .islandSourceChange toVaux => Sys2Proof.Machine.execIslandSourceChange toVaux s
  | .pwrOkFall => Sys2Proof.Machine.execPwrOkFall s
  | .sysRstAssert => Sys2Proof.Machine.execSysRstAssert s
  | .railDip d rail => Sys2Proof.Machine.execRailDip d rail s
  | .railRecovered => Sys2Proof.Machine.execRailRecovered s
  | .v12BiasLow => Sys2Proof.Machine.execV12BiasLow s
  | .refclkLoss d => Sys2Proof.Machine.execRefclkLoss d s
  | .packageReset srcs => Sys2Proof.Machine.execPackageReset srcs s
  | .packageResetExit pwrLow fuseBad => Sys2Proof.Machine.execPackageResetExit pwrLow fuseBad s
  | .resetHoldExpiry => Sys2Proof.Machine.execResetHoldExpiry s
  | .pllLock => Sys2Proof.Machine.execPllLock s
  | .pllLockTimeout => Sys2Proof.Machine.execPllLockTimeout s
  | .dieChainComplete number mask => Sys2Proof.Machine.execDieChainComplete number mask s
  | .dieChainTimeout mask => Sys2Proof.Machine.execDieChainTimeout mask s
  | .strongroomSelftest pass => Sys2Proof.Machine.execStrongroomSelftest pass s
  | .storeRecordDurable => Sys2Proof.Machine.execStoreRecordDurable s
  | .invFlashDirectoryRead sfdp copy0 copy1 => Sys2Proof.Machine.execInvFlashDirectoryRead sfdp copy0 copy1 s
  | .invImageRead got => Sys2Proof.Machine.execInvImageRead got s
  | .invChecks => Sys2Proof.Machine.execInvChecks s
  | .invSectionsApply => Sys2Proof.Machine.execInvSectionsApply s
  | .firmwareVerify d img0 img1 => Sys2Proof.Machine.execFirmwareVerify d img0 img1 s
  | .masterCountSend => Sys2Proof.Machine.execMasterCountSend s
  | .masterCountReceive d count path => Sys2Proof.Machine.execMasterCountReceive d count path s
  | .alignmentTimeout d => Sys2Proof.Machine.execAlignmentTimeout d s
  | .thermalSample d temps => Sys2Proof.Machine.execThermalSample d temps s
  | .powerMonitorUpdate dies pkg => Sys2Proof.Machine.execPowerMonitorUpdate dies pkg s
  | .domReqWrite src d v => Sys2Proof.Machine.execDomReqWrite src d v s
  | .p1ReqWrite src on => Sys2Proof.Machine.execP1ReqWrite src on s
  | .domainPowered d k => Sys2Proof.Machine.execDomainPowered d k s
  | .lullEntry d k => Sys2Proof.Machine.execLullEntry d k s
  | .lullWake d k => Sys2Proof.Machine.execLullWake d k s
  | .lullExitDone d k => Sys2Proof.Machine.execLullExitDone d k s
  | .quadEnWrite src d q en => Sys2Proof.Machine.execQuadEnWrite src d q en s
  | .laneDetectPulse d q l => Sys2Proof.Machine.execLaneDetectPulse d q l s
  | .partnerTerminationSensed d q l => Sys2Proof.Machine.execPartnerTerminationSensed d q l s
  | .laneSymbolLock d q l inverted => Sys2Proof.Machine.execLaneSymbolLock d q l inverted s
  | .eqEvaluationEnd d q l got => Sys2Proof.Machine.execEqEvaluationEnd d q l got s
  | .eqBudgetExpired d q l => Sys2Proof.Machine.execEqBudgetExpired d q l s
  | .laneLockTimeout d q l => Sys2Proof.Machine.execLaneLockTimeout d q l s
  | .laneAlignmentFound d q l => Sys2Proof.Machine.execLaneAlignmentFound d q l s
  | .exchangeDone d q l accepted => Sys2Proof.Machine.execExchangeDone d q l accepted s
  | .barometerRefresh d q l got => Sys2Proof.Machine.execBarometerRefresh d q l got s
  | .lossOfSignal d q l => Sys2Proof.Machine.execLossOfSignal d q l s
  | .farEndLoopbackRequest d q l => Sys2Proof.Machine.execFarEndLoopbackRequest d q l s
  | .farEndLoopbackExit d q l => Sys2Proof.Machine.execFarEndLoopbackExit d q l s
  | .loopGoWrite src d q go => Sys2Proof.Machine.execLoopGoWrite src d q go s
  | .coefficientRequest d q l ask => Sys2Proof.Machine.execCoefficientRequest d q l ask s
  | .checkEnRise src d q => Sys2Proof.Machine.execCheckEnRise src d q s
  | .laneMarginStart src d q ask => Sys2Proof.Machine.execLaneMarginStart src d q ask s
  | .protocolMarginRequest d q ask => Sys2Proof.Machine.execProtocolMarginRequest d q ask s
  | .marginStepDone d q l errors => Sys2Proof.Machine.execMarginStepDone d q l errors s
  | .baroMinClear src d q l => Sys2Proof.Machine.execBaroMinClear src d q l s
  | .baroThrWrite src d q pam4 accept target degrade fail => Sys2Proof.Machine.execBaroThrWrite src d q pam4 accept target degrade fail s
  | .portTrainingStart d q => Sys2Proof.Machine.execPortTrainingStart d q s
  | .protocolNegotiationEnd d q offer => Sys2Proof.Machine.execProtocolNegotiationEnd d q offer s
  | .negFailRetry d q => Sys2Proof.Machine.execNegFailRetry d q s
  | .dlActive d up => Sys2Proof.Machine.execDlActive d up s
  | .identityReadDone d q walk caps => Sys2Proof.Machine.execIdentityReadDone d q walk caps s
  | .identityReadTimeout d q => Sys2Proof.Machine.execIdentityReadTimeout d q s
  | .linkDown d q cause unacked => Sys2Proof.Machine.execLinkDown d q cause unacked s
  | .cellarHoldExpiry d q => Sys2Proof.Machine.execCellarHoldExpiry d q s
  | .flushNow src d q => Sys2Proof.Machine.execFlushNow src d q s
  | .ptRetrain src d q unacked => Sys2Proof.Machine.execPtRetrain src d q unacked s
  | .portEnWrite src d q en => Sys2Proof.Machine.execPortEnWrite src d q en s
  | .l0pWidthChange d q width => Sys2Proof.Machine.execL0pWidthChange d q width s
  | .hostPerstAssert d q hotReset => Sys2Proof.Machine.execHostPerstAssert d q hotReset s
  | .flitSend d t => Sys2Proof.Machine.execFlitSend d t s
  | .flitReceive d t f e0 e1 => Sys2Proof.Machine.execFlitReceive d t f e0 e1 s
  | .replayReqReceive d t req => Sys2Proof.Machine.execReplayReqReceive d t req s
  | .replayTimeout d t => Sys2Proof.Machine.execReplayTimeout d t s
  | .ackTimer d t => Sys2Proof.Machine.execAckTimer d t s
  | .droughtSuspicion d t c => Sys2Proof.Machine.execDroughtSuspicion d t c s
  | .auditCommandReceive d t c => Sys2Proof.Machine.execAuditCommandReceive d t c s
  | .auditReplyReceive d t c freeH retH freeD retD => Sys2Proof.Machine.execAuditReplyReceive d t c freeH retH freeD retD s
  | .casubBaroRefresh d t got => Sys2Proof.Machine.execCasubBaroRefresh d t got s
  | .mapChangeCmdReceive d t map => Sys2Proof.Machine.execMapChangeCmdReceive d t map s
  | .markerReceive d t words => Sys2Proof.Machine.execMarkerReceive d t words s
  | .periodicMarker d t => Sys2Proof.Machine.execPeriodicMarker d t s
  | .siteEnWrite src d t en => Sys2Proof.Machine.execSiteEnWrite src d t en s
  | .siteCalibrateDone d t got => Sys2Proof.Machine.execSiteCalibrateDone d t got s
  | .siteCalibrateTimeout d t => Sys2Proof.Machine.execSiteCalibrateTimeout d t s
  | .siteAlignFound d t delay => Sys2Proof.Machine.execSiteAlignFound d t delay s
  | .siteAlignTimeout d t => Sys2Proof.Machine.execSiteAlignTimeout d t s
  | .siteInitExchange d t peerDie peerSite adv rxExp => Sys2Proof.Machine.execSiteInitExchange d t peerDie peerSite adv rxExp s
  | .siteInitTimeout d t => Sys2Proof.Machine.execSiteInitTimeout d t s
  | .clRetrain src d t => Sys2Proof.Machine.execClRetrain src d t s
  | .clRetire src d t => Sys2Proof.Machine.execClRetire src d t s
  | .clRevive src d t => Sys2Proof.Machine.execClRevive src d t s
  | .holdUsExpiry d t => Sys2Proof.Machine.execHoldUsExpiry d t s
  | .handoverQueryReceive d t => Sys2Proof.Machine.execHandoverQueryReceive d t s
  | .handoverReplyReceive d t rxExp => Sys2Proof.Machine.execHandoverReplyReceive d t rxExp s
  | .relayReturn d t => Sys2Proof.Machine.execRelayReturn d t s
  | .messageArrival d input m own => Sys2Proof.Machine.execMessageArrival d input m own s
  | .crossbarMatch d full errs => Sys2Proof.Machine.execCrossbarMatch d full errs s
  | .xbGrpRead src d index => Sys2Proof.Machine.execXbGrpRead src d index s
  | .xbGrpWrite src d index => Sys2Proof.Machine.execXbGrpWrite src d index s
  | .xbGrpClear src d index => Sys2Proof.Machine.execXbGrpClear src d index s
  | .xbCommit src d => Sys2Proof.Machine.execXbCommit src d s
  | .xbLarderMinClear src d => Sys2Proof.Machine.execXbLarderMinClear src d s
  | .hdmConfigAccess v n k acc => Sys2Proof.Machine.execHdmConfigAccess v n k acc s
  | .hostConfigRequest v goal acc => Sys2Proof.Machine.execHostConfigRequest v goal acc s
  | .hostDecoderCommit v n base size ways gran targets => Sys2Proof.Machine.execHostDecoderCommit v n base size ways gran targets s
  | .hostDecoderCommitClear v n => Sys2Proof.Machine.execHostDecoderCommitClear v n s
  | .bdTblRead src d table index => Sys2Proof.Machine.execBdTblRead src d table index s
  | .bdTblWrite src d table index => Sys2Proof.Machine.execBdTblWrite src d table index s
  | .bdTblClear src d table index => Sys2Proof.Machine.execBdTblClear src d table index s
  | .bdSetMirror src d table index => Sys2Proof.Machine.execBdSetMirror src d table index s
  | .identifySwitchDevice c => Sys2Proof.Machine.execIdentifySwitchDevice c s
  | .getPhysicalPortState c ports => Sys2Proof.Machine.execGetPhysicalPortState c ports s
  | .physicalPortControl c port act => Sys2Proof.Machine.execPhysicalPortControl c port act s
  | .sendPpbConfigRequest c port reg put got => Sys2Proof.Machine.execSendPpbConfigRequest c port reg put got s
  | .getVirtualCxlSwitchInfo c vcss start count => Sys2Proof.Machine.execGetVirtualCxlSwitchInfo c vcss start count s
  | .bindVppb c vcs n port ld => Sys2Proof.Machine.execBindVppb c vcs n port ld s
  | .vppbBindingDone d slot => Sys2Proof.Machine.execVppbBindingDone d slot s
  | .unbindVppb c vcs n option => Sys2Proof.Machine.execUnbindVppb c vcs n option s
  | .unbindDrainDone d slot => Sys2Proof.Machine.execUnbindDrainDone d slot s
  | .unbindTmoExpiry d slot => Sys2Proof.Machine.execUnbindTmoExpiry d slot s
  | .generateAerEvent c vcs n bytes => Sys2Proof.Machine.execGenerateAerEvent c vcs n bytes s
  | .tunnelManagementCommand c port ld opcode bytes got => Sys2Proof.Machine.execTunnelManagementCommand c port ld opcode bytes got s
  | .sendLdConfigRequest c port ld reg put got => Sys2Proof.Machine.execSendLdConfigRequest c port ld reg put got s
  | .sendLdMemoryRequest c port ld addr len put got => Sys2Proof.Machine.execSendLdMemoryRequest c port ld addr len put got s
  | .mldComponentCommand c port bytes got => Sys2Proof.Machine.execMldComponentCommand c port bytes got s
  | .dcdManagementCommand c port ld bytes got => Sys2Proof.Machine.execDcdManagementCommand c port ld bytes got s
  | .setLdShare c port ld share => Sys2Proof.Machine.execSetLdShare c port ld share s
  | .getBindingTable c vcs => Sys2Proof.Machine.execGetBindingTable c vcs s
  | .unsupportedOpcode c => Sys2Proof.Machine.execUnsupportedOpcode c s
  | .identify c => Sys2Proof.Machine.execIdentify c s
  | .backgroundOperationStatus c => Sys2Proof.Machine.execBackgroundOperationStatus c s
  | .getResponseMessageLimit c => Sys2Proof.Machine.execGetResponseMessageLimit c s
  | .setResponseMessageLimit c n => Sys2Proof.Machine.execSetResponseMessageLimit c n s
  | .getFwInfo c versions => Sys2Proof.Machine.execGetFwInfo c versions s
  | .transferFw c slot bytes => Sys2Proof.Machine.execTransferFw c slot bytes s
  | .activateFw c slot => Sys2Proof.Machine.execActivateFw c slot s
  | .agentMessage d bad => Sys2Proof.Machine.execAgentMessage d bad s
  | .deviceResponsePass d trkDie trk => Sys2Proof.Machine.execDeviceResponsePass d trkDie trk s
  | .snoopIssue d => Sys2Proof.Machine.execSnoopIssue d s
  | .birspReceive d tag v kind => Sys2Proof.Machine.execBirspReceive d tag v kind s
  | .birspHoldRelease d => Sys2Proof.Machine.execBirspHoldRelease d s
  | .biconflict d v quad ld line tag => Sys2Proof.Machine.execBiconflict d v quad ld line tag s
  | .snoopTimeout d tag => Sys2Proof.Machine.execSnoopTimeout d tag s
  | .caTblRead src d table index => Sys2Proof.Machine.execCaTblRead src d table index s
  | .caRegionWrite src d table index => Sys2Proof.Machine.execCaRegionWrite src d table index s
  | .caRegionClear src d table index => Sys2Proof.Machine.execCaRegionClear src d table index s
  | .caLoftLookup src d table index => Sys2Proof.Machine.execCaLoftLookup src d table index s
  | .loftWalkStart d => Sys2Proof.Machine.execLoftWalkStart d s
  | .loftWalkEnd d => Sys2Proof.Machine.execLoftWalkEnd d s
  | .writeCopyNdr d trk copy => Sys2Proof.Machine.execWriteCopyNdr d trk copy s
  | .copyTmoExpiry d trk copy => Sys2Proof.Machine.execCopyTmoExpiry d trk copy s
  | .mirrorReadReturn d trkDie trk => Sys2Proof.Machine.execMirrorReadReturn d trkDie trk s
  | .poisonedReadRepair d trk data => Sys2Proof.Machine.execPoisonedReadRepair d trk data s
  | .guardArmRequest d chooser grp copy port ld lines => Sys2Proof.Machine.execGuardArmRequest d chooser grp copy port ld lines s
  | .guardAck d grp copy lines => Sys2Proof.Machine.execGuardAck d grp copy lines s
  | .pairQuery d chooser grp copy lines => Sys2Proof.Machine.execPairQuery d chooser grp copy lines s
  | .pairQueryAnswered d grp copy line => Sys2Proof.Machine.execPairQueryAnswered d grp copy line s
  | .guardedRewrite d chooser grp copy line poison data => Sys2Proof.Machine.execGuardedRewrite d chooser grp copy line poison data s
  | .copyStateMessage d from_ m => Sys2Proof.Machine.execCopyStateMessage d from_ m s
  | .mrTblRead src d index => Sys2Proof.Machine.execMrTblRead src d index s
  | .mrTblWrite src d index => Sys2Proof.Machine.execMrTblWrite src d index s
  | .mrTblClear src d index => Sys2Proof.Machine.execMrTblClear src d index s
  | .mrCopyFail src d index copy => Sys2Proof.Machine.execMrCopyFail src d index copy s
  | .mrCopyResilver src d index copy => Sys2Proof.Machine.execMrCopyResilver src d index copy s
  | .mrCopyForceHealthy src d index copy => Sys2Proof.Machine.execMrCopyForceHealthy src d index copy s
  | .mrCopyStopResilver src d index copy => Sys2Proof.Machine.execMrCopyStopResilver src d index copy s
  | .resilverStateAck d => Sys2Proof.Machine.execResilverStateAck d s
  | .resilverBlockDone d line => Sys2Proof.Machine.execResilverBlockDone d line s
  | .blkGapExpiry d => Sys2Proof.Machine.execBlkGapExpiry d s
  | .ovLookup src d => Sys2Proof.Machine.execOvLookup src d s
  | .ovStart src d => Sys2Proof.Machine.execOvStart src d s
  | .ovAbort src d => Sys2Proof.Machine.execOvAbort src d s
  | .ovClear src d => Sys2Proof.Machine.execOvClear src d s
  | .lineCopyReadReturn d slot line poison data => Sys2Proof.Machine.execLineCopyReadReturn d slot line poison data s
  | .lineCopyDone d slot line => Sys2Proof.Machine.execLineCopyDone d slot line s
  | .migrationDrained d slot => Sys2Proof.Machine.execMigrationDrained d slot s
  | .dualWriteNdr d tag newCopy => Sys2Proof.Machine.execDualWriteNdr d tag newCopy s
  | .starvePromotion d o e => Sys2Proof.Machine.execStarvePromotion d o e s
  | .scCommit src d => Sys2Proof.Machine.execScCommit src d s
  | .wheelSlot d => Sys2Proof.Machine.execWheelSlot d s
  | .scShpRead src d index => Sys2Proof.Machine.execScShpRead src d index s
  | .scShpWrite src d index tokReset => Sys2Proof.Machine.execScShpWrite src d index tokReset s
  | .scShpClear src d index tokReset => Sys2Proof.Machine.execScShpClear src d index tokReset s
  | .shaperWriteEffect d => Sys2Proof.Machine.execShaperWriteEffect d s
  | .policerCreditReturn d q c => Sys2Proof.Machine.execPolicerCreditReturn d q c s
  | .dmDoorbell src d q => Sys2Proof.Machine.execDmDoorbell src d q s
  | .scanReadReturn d tag line poison => Sys2Proof.Machine.execScanReadReturn d tag line poison s
  | .engineArbitration d e => Sys2Proof.Machine.execEngineArbitration d e s
  | .dmLineResponse d tag line poison => Sys2Proof.Machine.execDmLineResponse d tag line poison s
  | .descriptorRetire d q => Sys2Proof.Machine.execDescriptorRetire d q s
  | .migrateReply d tag answer => Sys2Proof.Machine.execMigrateReply d tag answer s
  | .linkRereadReturn d tag line poison => Sys2Proof.Machine.execLinkRereadReturn d tag line poison s
  | .dmQEnable src d q => Sys2Proof.Machine.execDmQEnable src d q s
  | .dmQDisable src d q => Sys2Proof.Machine.execDmQDisable src d q s
  | .dmQPause src d q => Sys2Proof.Machine.execDmQPause src d q s
  | .dmQUnpause src d q => Sys2Proof.Machine.execDmQUnpause src d q s
  | .dmQResume src d q => Sys2Proof.Machine.execDmQResume src d q s
  | .dmQInvalidate src d q => Sys2Proof.Machine.execDmQInvalidate src d q s
  | .cqHeadWrite src d q v => Sys2Proof.Machine.execCqHeadWrite src d q v s
  | .pnReadEntry src d chan inst => Sys2Proof.Machine.execPnReadEntry src d chan inst s
  | .pnCreate src d chan inst => Sys2Proof.Machine.execPnCreate src d chan inst s
  | .pnRemove src d chan inst => Sys2Proof.Machine.execPnRemove src d chan inst s
  | .pnReset src d chan inst => Sys2Proof.Machine.execPnReset src d chan inst s
  | .pnSetQueue src d chan inst j => Sys2Proof.Machine.execPnSetQueue src d chan inst j s
  | .pnSetShaper src d chan inst j tokReset => Sys2Proof.Machine.execPnSetShaper src d chan inst j tokReset s
  | .pnSetCounter src d chan inst k => Sys2Proof.Machine.execPnSetCounter src d chan inst k s
  | .pnFreeze src d chan inst => Sys2Proof.Machine.execPnFreeze src d chan inst s
  | .freezeComplete d inst => Sys2Proof.Machine.execFreezeComplete d inst s
  | .freezeTmoExpiry d inst => Sys2Proof.Machine.execFreezeTmoExpiry d inst s
  | .pnSave src d chan inst => Sys2Proof.Machine.execPnSave src d chan inst s
  | .pnRestore src d chan inst => Sys2Proof.Machine.execPnRestore src d chan inst s
  | .pnThaw src d chan inst => Sys2Proof.Machine.execPnThaw src d chan inst s
  | .staleOutZero d inst => Sys2Proof.Machine.execStaleOutZero d inst s
  | .fenceCmd src d q => Sys2Proof.Machine.execFenceCmd src d q s
  | .unfenceCmd src d q => Sys2Proof.Machine.execUnfenceCmd src d q s
  | .scrubStep d hit => Sys2Proof.Machine.execScrubStep d hit s
  | .watchdogKick src d v => Sys2Proof.Machine.execWatchdogKick src d v s
  | .watchdogExpiry d => Sys2Proof.Machine.execWatchdogExpiry d s
  | .slotEnWrite src d q en => Sys2Proof.Machine.execSlotEnWrite src d q en s
  | .prsntFall d q => Sys2Proof.Machine.execPrsntFall d q s
  | .presenceConfirmed d q => Sys2Proof.Machine.execPresenceConfirmed d q s
  | .prsntRise d q => Sys2Proof.Machine.execPrsntRise d q s
  | .slotPowerWrite src d q on => Sys2Proof.Machine.execSlotPowerWrite src d q on s
  | .rampShortCheck d q vout => Sys2Proof.Machine.execRampShortCheck d q vout s
  | .gateCheck d q gate => Sys2Proof.Machine.execGateCheck d q gate s
  | .rampComplete d q gate vout feedsHigh => Sys2Proof.Machine.execRampComplete d q gate vout feedsHigh s
  | .rampTimeout d q => Sys2Proof.Machine.execRampTimeout d q s
  | .faultTimerExpiry d q => Sys2Proof.Machine.execFaultTimerExpiry d q s
  | .fastTrip d q sense => Sys2Proof.Machine.execFastTrip d q sense s
  | .outputUnderVoltage d q => Sys2Proof.Machine.execOutputUnderVoltage d q s
  | .pgoodLost d q => Sys2Proof.Machine.execPgoodLost d q s
  | .retryTimerEnd d q => Sys2Proof.Machine.execRetryTimerEnd d q s
  | .slotUnlock src d q => Sys2Proof.Machine.execSlotUnlock src d q s
  | .feedGood d q feed => Sys2Proof.Machine.execFeedGood d q feed s
  | .feedLost d q feed high => Sys2Proof.Machine.execFeedLost d q feed high s
  | .reverseCurrent d q feed => Sys2Proof.Machine.execReverseCurrent d q feed s
  | .oringReenable d q feed => Sys2Proof.Machine.execOringReenable d q feed s
  | .slotSample d q got => Sys2Proof.Machine.execSlotSample d q got s
  | .fetTempSample d q got => Sys2Proof.Machine.execFetTempSample d q got s
  | .slotMeasurementUpdate d q => Sys2Proof.Machine.execSlotMeasurementUpdate d q s
  | .forecastAssert d q => Sys2Proof.Machine.execForecastAssert d q s
  | .forecastClear d q => Sys2Proof.Machine.execForecastClear d q s
  | .perstReleaseTimer d q => Sys2Proof.Machine.execPerstReleaseTimer d q s
  | .perstHoldWrite src d q hold => Sys2Proof.Machine.execPerstHoldWrite src d q hold s
  | .fcLeadExpiry d q => Sys2Proof.Machine.execFcLeadExpiry d q s
  | .gateOffDelay d q => Sys2Proof.Machine.execGateOffDelay d q s
  | .stoppingEnd d q => Sys2Proof.Machine.execStoppingEnd d q s
  | .commandAccept d c opcode payload requester tag => Sys2Proof.Machine.execCommandAccept d c opcode payload requester tag s
  | .commandStart d => Sys2Proof.Machine.execCommandStart d s
  | .mbQdoorbell k n wrote => Sys2Proof.Machine.execMbQdoorbell k n wrote s
  | .hatchInboundAccess d fm tag addr words conflict => Sys2Proof.Machine.execHatchInboundAccess d fm tag addr words conflict s
  | .hatchAccessDone d => Sys2Proof.Machine.execHatchAccessDone d s
  | .delayedReadStart src d k space addr => Sys2Proof.Machine.execDelayedReadStart src d k space addr s
  | .delayedReadData d k words => Sys2Proof.Machine.execDelayedReadData d k words s
  | .delayedReadCollect d k => Sys2Proof.Machine.execDelayedReadCollect d k s
  | .drTmoExpiry d k => Sys2Proof.Machine.execDrTmoExpiry d k s
  | .pfTmoExpiry d => Sys2Proof.Machine.execPfTmoExpiry d s
  | .xbusTransactionEnd d g how => Sys2Proof.Machine.execXbusTransactionEnd d g how s
  | .xbusRecovery d g sdaHigh => Sys2Proof.Machine.execXbusRecovery d g sdaHigh s
  | .overcastUpdate d load0 load1 => Sys2Proof.Machine.execOvercastUpdate d load0 load1 s
  | .inventoryControl c op slot => Sys2Proof.Machine.execInventoryControl c op slot s
  | .invVerify got => Sys2Proof.Machine.execInvVerify got s
  | .invApply got => Sys2Proof.Machine.execInvApply got s
  | .invArm got => Sys2Proof.Machine.execInvArm got s
  | .getIdentity c => Sys2Proof.Machine.execGetIdentity c s
  | .getAttestationReport c => Sys2Proof.Machine.execGetAttestationReport c s
  | .openRegisterSession c => Sys2Proof.Machine.execOpenRegisterSession c s
  | .closeRegisterSession c => Sys2Proof.Machine.execCloseRegisterSession c s
  | .sessionExpiry c => Sys2Proof.Machine.execSessionExpiry c s
  | .getCounter c => Sys2Proof.Machine.execGetCounter c s
  | .getNonce c => Sys2Proof.Machine.execGetNonce c s
  | .nonceExpiry => Sys2Proof.Machine.execNonceExpiry s
  | .submitToken c => Sys2Proof.Machine.execSubmitToken c s
  | .transitionResetTimer => Sys2Proof.Machine.execTransitionResetTimer s
  | .takeOwnership c => Sys2Proof.Machine.execTakeOwnership c s
  | .rotateCommandRoot c => Sys2Proof.Machine.execRotateCommandRoot c s
  | .releaseReservation c => Sys2Proof.Machine.execReleaseReservation c s
  | .tapProvisionMaker secret id keys cert => Sys2Proof.Machine.execTapProvisionMaker secret id keys cert s
  | .lockoutExpiry c => Sys2Proof.Machine.execLockoutExpiry c s
  | .chainFrameReceive f => Sys2Proof.Machine.execChainFrameReceive f s
  | .chainFrameForward => Sys2Proof.Machine.execChainFrameForward s
  | .stocktake => Sys2Proof.Machine.execStocktake s
  | .chainBreak => Sys2Proof.Machine.execChainBreak s
  | .noticeSend => Sys2Proof.Machine.execNoticeSend s
  | .mctpPacket => Sys2Proof.Machine.execMctpPacket s
  | .setEndpointId => Sys2Proof.Machine.execSetEndpointId s
  | .getEndpointId => Sys2Proof.Machine.execGetEndpointId s
  | .getEndpointUuid => Sys2Proof.Machine.execGetEndpointUuid s
  | .getMctpVersionSupport => Sys2Proof.Machine.execGetMctpVersionSupport s
  | .getMessageTypeSupport => Sys2Proof.Machine.execGetMessageTypeSupport s
  | .regAccessRead => Sys2Proof.Machine.execRegAccessRead s
  | .regAccessWrite => Sys2Proof.Machine.execRegAccessWrite s
  | .counterEvtWrite src d k val => Sys2Proof.Machine.execCounterEvtWrite src d k val s
  | .counterCaptureRead d k => Sys2Proof.Machine.execCounterCaptureRead d k s
  | .counterWrap d k => Sys2Proof.Machine.execCounterWrap d k s
  | .frostArmAll src d => Sys2Proof.Machine.execFrostArmAll src d s
  | .frostArmDie src d => Sys2Proof.Machine.execFrostArmDie src d s
  | .frostCancel src d => Sys2Proof.Machine.execFrostCancel src d s
  | .frostArmReceive d target => Sys2Proof.Machine.execFrostArmReceive d target s
  | .frostAckReceive d => Sys2Proof.Machine.execFrostAckReceive d s
  | .frostSnap d => Sys2Proof.Machine.execFrostSnap d s
  | .atticEnWrite src d val => Sys2Proof.Machine.execAtticEnWrite src d val s
  | .atticTailWrite src d val => Sys2Proof.Machine.execAtticTailWrite src d val s
  | .ckRstPackage src key => Sys2Proof.Machine.execCkRstPackage src key s
  | .ckRstDelayExpiry => Sys2Proof.Machine.execCkRstDelayExpiry s
  | .ckRstWarden src key die => Sys2Proof.Machine.execCkRstWarden src key die s
  | .v12BiasValid => Sys2Proof.Machine.execV12BiasValid s
  | .casubLaneSignalLoss d t n => Sys2Proof.Machine.execCasubLaneSignalLoss d t n s
  | .viralIndication d q => Sys2Proof.Machine.execViralIndication d q s
  | .islandPowerLoss => Sys2Proof.Machine.execIslandPowerLoss s

end Sys2Proof.Machine
end

