-- ==== Sys2Proof/Machine/Tick.lean ====
section
/-! DEFINITION. One core cycle in which no command comes: fabric time (R36, R38), and the event counters of kinds Time and Level
(R506, Table 19.1). -/

namespace Sys2Proof.Machine

/-- A die's fabric time advances: it repeats its value while it is ahead, and runs double while it catches up (R38); it is aligned once
it is within 1 cycle (R39, log entry 137). -/
def State.timeStep (s : State) (d : Nat) : State :=
  let adj : Int := Tbl.getD s.ftAdj d 0
  let up := if 0 < adj then 0 else if adj < 0 then 2 else 1
  let left : Int := if 0 < adj then adj - 1 else if adj < 0 then adj + 1 else 0
  let s := { s with ftime := Tbl.set s.ftime d (s.now d + up) 0, ftAdj := Tbl.set s.ftAdj d left 0 }
  if s.aligning.contains d ∧ left.natAbs ≤ 1 then s.aligned d else s

/-- What an event of kind Time or Level adds in a cycle for one unit (Table 19.1); 0 for the other kinds. -/
def State.levelOfEvent (s : State) (d ev u : Nat) : Nat :=
  match ev with
  | 0x1003 => b2n (s.holding (portNo d u))
  | 0x1004 => ((s.port (portNo d u)).cellar.map fun e => e.msg.size).sum
  | 0x2004 => b2n ((s.site d u).txq.any fun m => !s.mayStart d u (s.site d u).spent m)
  | 0x3002 => b2n ((s.xbd d).withheld.any fun w => w.1 == u)
  | 0x3003 => s.rd F.XB_LARDER_FREE_shared_free (dieL d)
  | 0x4001 => b2n !((s.shp d u).upTo (s.now d)).runs
  | 0x5002 => (List.filter (fun e => e.1 / trkCap == d) s.trks).length
  | 0x6003 => (s.cad d).loft.length
  | 0x9003 => b2n !s.qRuns d u
  | 0x9004 => b2n (s.qst d u == 2)
  | 0xD000 => 1
  | 0xE000 => b2n (s.flag F.TM_STATUS_throttle_active (dieL d) && s.now d % usCycles == 0)
  | _ => 0

/-- What an enabled counter adds in a cycle: for its unit, for every unit with unit_all, for its instance's queues when it is owned
(R506, R511). -/
def State.cntLevel (s : State) (d k : Nat) : Nat :=
  let l := idxL d 0 k
  let ev := s.rd F.EVT_event l
  if s.flag F.OWN_owned l then ((s.inst d (s.rd F.OWN_owner l)).queues.map (s.levelOfEvent d ev)).sum
  else if s.flag F.EVT_unit_all l && !eventPlain ev then
    match eventUnits ev with
    | some (lo, hi) => ((upTo (hi + 1 - lo)).map fun u => s.levelOfEvent d ev (lo + u)).sum
    | none => 0
  else s.levelOfEvent d ev (s.rd F.EVT_unit l)

/-- The counters of a die that count in a cycle add what they count. -/
def State.countCycle (s : State) (d : Nat) : State :=
  s.forEach ((Tbl.getD s.cntOn d []).map fun k => (k, s.cntLevel d k)) fun t c => if c.2 = 0 then t else t.cntAdd d c.1 c.2

/-- The pattern checker of a lane works: check_en, and Loopback under a near-end mode (R105). -/
def State.checks (s : State) (d q l : Nat) : Bool :=
  s.flag F.LQ_PATTERN_check_en (unitL d q) && s.flag F.LQ_LOOP_loop_go (unitL d q) && s.stageOf d q l == 6

/-- The pattern generator of a lane works: gen_en, and Loopback under a near-end mode (R105). -/
def State.generates (s : State) (d q l : Nat) : Bool :=
  s.flag F.LQ_PATTERN_gen_en (unitL d q) && s.flag F.LQ_LOOP_loop_go (unitL d q) && s.stageOf d q l == 6

/-- The bits that a lane carries in the core cycle that begins at fabric time `t`. -/
def cycleBits (rate t : Nat) : Nat := rateMbps rate * (t + 1) / usCycles - rateMbps rate * t / usCycles

/-- The two taps of a PRBS (PRESUMED, log entry 145). -/
def prbsTaps (pattern : Nat) : Nat × Nat :=
  match pattern with
  | 0 => (7, 6)
  | 1 => (15, 14)
  | 2 => (23, 18)
  | _ => (31, 28)

/-- The next bit of a pattern (Table 3.19) after the bits in `g`, of which the latest is bit 0. The alternating levels are 0 and 1, and at
PAM4 rates the pairs of the lowest and the highest level. A PRBS whose register holds zeros starts from ones. -/
def patBit (pattern g : Nat) (pam4 : Bool) : Bool :=
  if pattern = 4 then (if pam4 then !bitOf g 0 && !bitOf g 1 && !bitOf g 2 else !bitOf g 0)
  else
    let (a, b) := prbsTaps pattern
    g % 2 ^ a == 0 || (bitOf g (a - 1) != bitOf g (b - 1))

/-- The generator's register after `n` more bits. -/
def patRun (pattern : Nat) (pam4 : Bool) : Nat → Nat → Nat
  | 0, g => g
  | n + 1, g => patRun pattern pam4 n ((2 * g + b2n (patBit pattern g pam4)) % 2 ^ 31)

/-- The PAM4 level of a Gray-coded pair, the first bit sent being the upper one. -/
def grayLevel (hi lo : Bool) : Nat := if hi then (if lo then 2 else 3) else b2n lo

/-- The last symbol that a lane's generator has sent: a level 0 or 1, and 0 to 3 at PAM4 rates (R105). -/
def State.patSymbol (s : State) (d q l : Nat) : Nat :=
  let g := (s.lane d q l).gen
  if isPam4 (s.quadRate d q) then grayLevel (bitOf g 1) (bitOf g 0) else g % 2

/-- The generators of a die send the bits of a cycle (R105). -/
def State.genCycle (s : State) (d : Nat) : State :=
  s.forEach (upTo 16) fun s q => s.forEach ((upTo 4).filter fun l => s.generates d q l) fun s l =>
    let r := s.quadRate d q
    let n := cycleBits r (s.now d)
    s.updLane d q l fun x => { x with gen := patRun (s.rd F.LQ_PATTERN_pattern (unitL d q)) (isPam4 r) n x.gen }

/-- The checkers of a die count the bit errors of a cycle, saturating (R105). A generated pattern comes back as it was sent over the
near-end parallel path, which bypasses the analog front end. Over the serial path, or without a pattern, how many of the bits of a
cycle are wrong is a free value (log entry 114). -/
def State.checkCycle (s : State) (d : Nat) : State :=
  s.forEach (upTo 16) fun s q => s.forEach ((upTo 4).filter fun l => s.checks d q l) fun s l =>
    let clean : Bool := s.generates d q l && s.rd F.LQ_LOOP_mode (unitL d q) == 2 && decide (s.rd F.LQ_PATTERN_pattern (unitL d q) < 5)
    if clean then s
    else (s.add F.LQ_PAT_ERR_n_errors (idxL d q l) (s.free % (cycleBits (s.quadRate d q) (s.now d) + 1))).useFree

/-- One core cycle of every die, once the clocks run. -/
def State.tick (s : State) : State :=
  if s.clocks then (((s.forEach s.dies State.countCycle).forEach s.dies State.genCycle).forEach s.dies State.checkCycle).forEach s.dies State.timeStep else s

end Sys2Proof.Machine
end

