-- ==== Sys2Proof/WellFormed.lean ====
section
/-! DEFINITION. Which commands are well formed: a command of a die names a die of the part (R2, R6), and lists that the spec fixes in
length have that length. A command is an event at the part, so one that no part can see is ill formed. -/

namespace Sys2Proof

/-- The die at which a command happens, for commands that happen at one die and stop the model where the part has no such die. A
write to a register of an absent die is not one of these: it is discarded (R10). -/
def Instr.die : Instr → Option Nat
  | .registerWrite _ _ _ => none
  | .pairLowRead _ => none
  | .pairHighWrite _ _ _ => none
  | .islandPowerOn _ => none
  | .islandSourceChange _ => none
  | .pwrOkFall => none
  | .sysRstAssert => none
  | .railDip d _ => some d
  | .railRecovered => none
  | .v12BiasLow => none
  | .refclkLoss d => some d
  | .packageReset _ => none
  | .packageResetExit _ _ => none
  | .resetHoldExpiry => none
  | .pllLock => none
  | .pllLockTimeout => none
  | .dieChainComplete _ _ => none
  | .dieChainTimeout _ => none
  | .strongroomSelftest _ => none
  | .storeRecordDurable => none
  | .invFlashDirectoryRead _ _ _ => none
  | .invImageRead _ => none
  | .invChecks => none
  | .invSectionsApply => none
  | .firmwareVerify d _ _ => some d
  | .masterCountSend => none
  | .masterCountReceive d _ _ => some d
  | .alignmentTimeout d => some d
  | .thermalSample d _ => some d
  | .powerMonitorUpdate _ _ => none
  | .domReqWrite _ _ _ => none
  | .p1ReqWrite _ _ => none
  | .domainPowered d _ => some d
  | .lullEntry d _ => some d
  | .lullWake d _ => some d
  | .lullExitDone d _ => some d
  | .quadEnWrite _ _ _ _ => none
  | .laneDetectPulse d _ _ => some d
  | .partnerTerminationSensed d _ _ => some d
  | .laneSymbolLock d _ _ _ => some d
  | .eqEvaluationEnd d _ _ _ => some d
  | .eqBudgetExpired d _ _ => some d
  | .laneLockTimeout d _ _ => some d
  | .laneAlignmentFound d _ _ => some d
  | .exchangeDone d _ _ _ => some d
  | .barometerRefresh d _ _ _ => some d
  | .lossOfSignal d _ _ => some d
  | .farEndLoopbackRequest d _ _ => some d
  | .farEndLoopbackExit d _ _ => some d
  | .loopGoWrite _ _ _ _ => none
  | .coefficientRequest d _ _ _ => some d
  | .checkEnRise _ _ _ => none
  | .laneMarginStart _ _ _ _ => none
  | .protocolMarginRequest d _ _ => some d
  | .marginStepDone d _ _ _ => some d
  | .baroMinClear _ _ _ _ => none
  | .baroThrWrite _ _ _ _ _ _ _ _ => none
  | .portTrainingStart d _ => some d
  | .protocolNegotiationEnd d _ _ => some d
  | .negFailRetry d _ => some d
  | .dlActive d _ => some d
  | .identityReadDone d _ _ _ => some d
  | .identityReadTimeout d _ => some d
  | .linkDown d _ _ _ => some d
  | .cellarHoldExpiry d _ => some d
  | .flushNow _ _ _ => none
  | .ptRetrain _ _ _ _ => none
  | .portEnWrite _ _ _ _ => none
  | .l0pWidthChange d _ _ => some d
  | .hostPerstAssert d _ _ => some d
  | .flitSend d _ => some d
  | .flitReceive d _ _ _ _ => some d
  | .replayReqReceive d _ _ => some d
  | .replayTimeout d _ => some d
  | .ackTimer d _ => some d
  | .droughtSuspicion d _ _ => some d
  | .auditCommandReceive d _ _ => some d
  | .auditReplyReceive d _ _ _ _ _ _ => some d
  | .casubBaroRefresh d _ _ => some d
  | .mapChangeCmdReceive d _ _ => some d
  | .markerReceive d _ _ => some d
  | .periodicMarker d _ => some d
  | .siteEnWrite _ _ _ _ => none
  | .siteCalibrateDone d _ _ => some d
  | .siteCalibrateTimeout d _ => some d
  | .siteAlignFound d _ _ => some d
  | .siteAlignTimeout d _ => some d
  | .siteInitExchange d _ _ _ _ _ => some d
  | .siteInitTimeout d _ => some d
  | .clRetrain _ _ _ => none
  | .clRetire _ _ _ => none
  | .clRevive _ _ _ => none
  | .holdUsExpiry d _ => some d
  | .handoverQueryReceive d _ => some d
  | .handoverReplyReceive d _ _ => some d
  | .relayReturn d _ => some d
  | .messageArrival d _ _ _ => some d
  | .crossbarMatch d _ _ => some d
  | .xbGrpRead _ _ _ => none
  | .xbGrpWrite _ _ _ => none
  | .xbGrpClear _ _ _ => none
  | .xbCommit _ _ => none
  | .xbLarderMinClear _ _ => none
  | .hdmConfigAccess v _ _ _ => some (v / 16)
  | .hostConfigRequest v _ _ => some (v / 16)
  | .hostDecoderCommit v _ _ _ _ _ _ => some (v / 16)
  | .hostDecoderCommitClear v _ => some (v / 16)
  | .bdTblRead _ _ _ _ => none
  | .bdTblWrite _ _ _ _ => none
  | .bdTblClear _ _ _ _ => none
  | .bdSetMirror _ _ _ _ => none
  | .identifySwitchDevice _ => none
  | .getPhysicalPortState _ _ => none
  | .physicalPortControl _ _ _ => none
  | .sendPpbConfigRequest _ _ _ _ _ => none
  | .getVirtualCxlSwitchInfo _ _ _ _ => none
  | .bindVppb _ _ _ _ _ => none
  | .vppbBindingDone d _ => some d
  | .unbindVppb _ _ _ _ => none
  | .unbindDrainDone d _ => some d
  | .unbindTmoExpiry d _ => some d
  | .generateAerEvent _ _ _ _ => none
  | .tunnelManagementCommand _ _ _ _ _ _ => none
  | .sendLdConfigRequest _ _ _ _ _ _ => none
  | .sendLdMemoryRequest _ _ _ _ _ _ _ => none
  | .mldComponentCommand _ _ _ _ => none
  | .dcdManagementCommand _ _ _ _ _ => none
  | .setLdShare _ _ _ _ => none
  | .getBindingTable _ _ => none
  | .unsupportedOpcode _ => none
  | .identify _ => none
  | .backgroundOperationStatus _ => none
  | .getResponseMessageLimit _ => none
  | .setResponseMessageLimit _ _ => none
  | .getFwInfo _ _ => none
  | .transferFw _ _ _ => none
  | .activateFw _ _ => none
  | .agentMessage d _ => some d
  | .deviceResponsePass d _ _ => some d
  | .snoopIssue d => some d
  | .birspReceive d _ _ _ => some d
  | .birspHoldRelease d => some d
  | .biconflict d _ _ _ _ _ => some d
  | .snoopTimeout d _ => some d
  | .caTblRead _ _ _ _ => none
  | .caRegionWrite _ _ _ _ => none
  | .caRegionClear _ _ _ _ => none
  | .caLoftLookup _ _ _ _ => none
  | .loftWalkStart d => some d
  | .loftWalkEnd d => some d
  | .writeCopyNdr d _ _ => some d
  | .copyTmoExpiry d _ _ => some d
  | .mirrorReadReturn d _ _ => some d
  | .poisonedReadRepair d _ _ => some d
  | .guardArmRequest d _ _ _ _ _ _ => some d
  | .guardAck d _ _ _ => some d
  | .pairQuery d _ _ _ _ => some d
  | .pairQueryAnswered d _ _ _ => some d
  | .guardedRewrite d _ _ _ _ _ _ => some d
  | .copyStateMessage d _ _ => some d
  | .mrTblRead _ _ _ => none
  | .mrTblWrite _ _ _ => none
  | .mrTblClear _ _ _ => none
  | .mrCopyFail _ _ _ _ => none
  | .mrCopyResilver _ _ _ _ => none
  | .mrCopyForceHealthy _ _ _ _ => none
  | .mrCopyStopResilver _ _ _ _ => none
  | .resilverStateAck d => some d
  | .resilverBlockDone d _ => some d
  | .blkGapExpiry d => some d
  | .ovLookup _ _ => none
  | .ovStart _ _ => none
  | .ovAbort _ _ => none
  | .ovClear _ _ => none
  | .lineCopyReadReturn d _ _ _ _ => some d
  | .lineCopyDone d _ _ => some d
  | .migrationDrained d _ => some d
  | .dualWriteNdr d _ _ => some d
  | .starvePromotion d _ _ => some d
  | .scCommit _ _ => none
  | .wheelSlot d => some d
  | .scShpRead _ _ _ => none
  | .scShpWrite _ _ _ _ => none
  | .scShpClear _ _ _ _ => none
  | .shaperWriteEffect d => some d
  | .policerCreditReturn d _ _ => some d
  | .dmDoorbell _ _ _ => none
  | .scanReadReturn d _ _ _ => some d
  | .engineArbitration d _ => some d
  | .dmLineResponse d _ _ _ => some d
  | .descriptorRetire d _ => some d
  | .migrateReply d _ _ => some d
  | .linkRereadReturn d _ _ _ => some d
  | .dmQEnable _ _ _ => none
  | .dmQDisable _ _ _ => none
  | .dmQPause _ _ _ => none
  | .dmQUnpause _ _ _ => none
  | .dmQResume _ _ _ => none
  | .dmQInvalidate _ _ _ => none
  | .cqHeadWrite _ _ _ _ => none
  | .pnReadEntry _ _ _ _ => none
  | .pnCreate _ _ _ _ => none
  | .pnRemove _ _ _ _ => none
  | .pnReset _ _ _ _ => none
  | .pnSetQueue _ _ _ _ _ => none
  | .pnSetShaper _ _ _ _ _ _ => none
  | .pnSetCounter _ _ _ _ _ => none
  | .pnFreeze _ _ _ _ => none
  | .freezeComplete d _ => some d
  | .freezeTmoExpiry d _ => some d
  | .pnSave _ _ _ _ => none
  | .pnRestore _ _ _ _ => none
  | .pnThaw _ _ _ _ => none
  | .staleOutZero d _ => some d
  | .fenceCmd _ _ _ => none
  | .unfenceCmd _ _ _ => none
  | .scrubStep d _ => some d
  | .watchdogKick _ _ _ => none
  | .watchdogExpiry d => some d
  | .slotEnWrite _ _ _ _ => none
  | .prsntFall d _ => some d
  | .presenceConfirmed d _ => some d
  | .prsntRise d _ => some d
  | .slotPowerWrite _ _ _ _ => none
  | .rampShortCheck d _ _ => some d
  | .gateCheck d _ _ => some d
  | .rampComplete d _ _ _ _ => some d
  | .rampTimeout d _ => some d
  | .faultTimerExpiry d _ => some d
  | .fastTrip d _ _ => some d
  | .outputUnderVoltage d _ => some d
  | .pgoodLost d _ => some d
  | .retryTimerEnd d _ => some d
  | .slotUnlock _ _ _ => none
  | .feedGood d _ _ => some d
  | .feedLost d _ _ _ => some d
  | .reverseCurrent d _ _ => some d
  | .oringReenable d _ _ => some d
  | .slotSample d _ _ => some d
  | .fetTempSample d _ _ => some d
  | .slotMeasurementUpdate d _ => some d
  | .forecastAssert d _ => some d
  | .forecastClear d _ => some d
  | .perstReleaseTimer d _ => some d
  | .perstHoldWrite _ _ _ _ => none
  | .fcLeadExpiry d _ => some d
  | .gateOffDelay d _ => some d
  | .stoppingEnd d _ => some d
  | .commandAccept d _ _ _ _ _ => some d
  | .commandStart d => some d
  | .mbQdoorbell _ _ _ => none
  | .hatchInboundAccess d _ _ _ _ _ => some d
  | .hatchAccessDone d => some d
  | .delayedReadStart _ _ _ _ _ => none
  | .delayedReadData d _ _ => some d
  | .delayedReadCollect d _ => some d
  | .drTmoExpiry d _ => some d
  | .pfTmoExpiry d => some d
  | .xbusTransactionEnd d _ _ => some d
  | .xbusRecovery d _ _ => some d
  | .overcastUpdate d _ _ => some d
  | .inventoryControl _ _ _ => none
  | .invVerify _ => none
  | .invApply _ => none
  | .invArm _ => none
  | .getIdentity _ => none
  | .getAttestationReport _ => none
  | .openRegisterSession _ => none
  | .closeRegisterSession _ => none
  | .sessionExpiry _ => none
  | .getCounter _ => none
  | .getNonce _ => none
  | .nonceExpiry => none
  | .submitToken _ => none
  | .transitionResetTimer => none
  | .takeOwnership _ => none
  | .rotateCommandRoot _ => none
  | .releaseReservation _ => none
  | .tapProvisionMaker _ _ _ _ => none
  | .lockoutExpiry _ => none
  | .chainFrameReceive _ => none
  | .chainFrameForward => none
  | .stocktake => none
  | .chainBreak => none
  | .noticeSend => none
  | .mctpPacket => none
  | .setEndpointId => none
  | .getEndpointId => none
  | .getEndpointUuid => none
  | .getMctpVersionSupport => none
  | .getMessageTypeSupport => none
  | .regAccessRead => none
  | .regAccessWrite => none
  | .counterEvtWrite _ _ _ _ => none
  | .counterCaptureRead d _ => some d
  | .counterWrap d _ => some d
  | .frostArmAll _ _ => none
  | .frostArmDie _ _ => none
  | .frostCancel _ _ => none
  | .frostArmReceive d _ => some d
  | .frostAckReceive d => some d
  | .frostSnap d => some d
  | .atticEnWrite _ _ _ => none
  | .atticTailWrite _ _ _ => none
  | .ckRstPackage _ _ => none
  | .ckRstDelayExpiry => none
  | .ckRstWarden _ _ _ => none
  | .v12BiasValid => none
  | .casubLaneSignalLoss d _ _ => some d
  | .viralIndication d _ => some d
  | .islandPowerLoss => none

/-- The sender and the die of a command that is a write to one register of a die or of the package (die 0's block). A write given by
its address is not one of these: it may reach any register. -/
def Instr.write : Instr → Option (Src × Nat)
  | .registerWrite _ _ _ => none
  | .pairLowRead _ => none
  | .pairHighWrite _ _ _ => none
  | .islandPowerOn _ => none
  | .islandSourceChange _ => none
  | .pwrOkFall => none
  | .sysRstAssert => none
  | .railDip _ _ => none
  | .railRecovered => none
  | .v12BiasLow => none
  | .refclkLoss _ => none
  | .packageReset _ => none
  | .packageResetExit _ _ => none
  | .resetHoldExpiry => none
  | .pllLock => none
  | .pllLockTimeout => none
  | .dieChainComplete _ _ => none
  | .dieChainTimeout _ => none
  | .strongroomSelftest _ => none
  | .storeRecordDurable => none
  | .invFlashDirectoryRead _ _ _ => none
  | .invImageRead _ => none
  | .invChecks => none
  | .invSectionsApply => none
  | .firmwareVerify _ _ _ => none
  | .masterCountSend => none
  | .masterCountReceive _ _ _ => none
  | .alignmentTimeout _ => none
  | .thermalSample _ _ => none
  | .powerMonitorUpdate _ _ => none
  | .domReqWrite src d _ => some (src, d)
  | .p1ReqWrite src _ => some (src, 0)
  | .domainPowered _ _ => none
  | .lullEntry _ _ => none
  | .lullWake _ _ => none
  | .lullExitDone _ _ => none
  | .quadEnWrite src d _ _ => some (src, d)
  | .laneDetectPulse _ _ _ => none
  | .partnerTerminationSensed _ _ _ => none
  | .laneSymbolLock _ _ _ _ => none
  | .eqEvaluationEnd _ _ _ _ => none
  | .eqBudgetExpired _ _ _ => none
  | .laneLockTimeout _ _ _ => none
  | .laneAlignmentFound _ _ _ => none
  | .exchangeDone _ _ _ _ => none
  | .barometerRefresh _ _ _ _ => none
  | .lossOfSignal _ _ _ => none
  | .farEndLoopbackRequest _ _ _ => none
  | .farEndLoopbackExit _ _ _ => none
  | .loopGoWrite src d _ _ => some (src, d)
  | .coefficientRequest _ _ _ _ => none
  | .checkEnRise src d _ => some (src, d)
  | .laneMarginStart src d _ _ => some (src, d)
  | .protocolMarginRequest _ _ _ => none
  | .marginStepDone _ _ _ _ => none
  | .baroMinClear src d _ _ => some (src, d)
  | .baroThrWrite src d _ _ _ _ _ _ => some (src, d)
  | .portTrainingStart _ _ => none
  | .protocolNegotiationEnd _ _ _ => none
  | .negFailRetry _ _ => none
  | .dlActive _ _ => none
  | .identityReadDone _ _ _ _ => none
  | .identityReadTimeout _ _ => none
  | .linkDown _ _ _ _ => none
  | .cellarHoldExpiry _ _ => none
  | .flushNow src d _ => some (src, d)
  | .ptRetrain src d _ _ => some (src, d)
  | .portEnWrite src d _ _ => some (src, d)
  | .l0pWidthChange _ _ _ => none
  | .hostPerstAssert _ _ _ => none
  | .flitSend _ _ => none
  | .flitReceive _ _ _ _ _ => none
  | .replayReqReceive _ _ _ => none
  | .replayTimeout _ _ => none
  | .ackTimer _ _ => none
  | .droughtSuspicion _ _ _ => none
  | .auditCommandReceive _ _ _ => none
  | .auditReplyReceive _ _ _ _ _ _ _ => none
  | .casubBaroRefresh _ _ _ => none
  | .mapChangeCmdReceive _ _ _ => none
  | .markerReceive _ _ _ => none
  | .periodicMarker _ _ => none
  | .siteEnWrite src d _ _ => some (src, d)
  | .siteCalibrateDone _ _ _ => none
  | .siteCalibrateTimeout _ _ => none
  | .siteAlignFound _ _ _ => none
  | .siteAlignTimeout _ _ => none
  | .siteInitExchange _ _ _ _ _ _ => none
  | .siteInitTimeout _ _ => none
  | .clRetrain src d _ => some (src, d)
  | .clRetire src d _ => some (src, d)
  | .clRevive src d _ => some (src, d)
  | .holdUsExpiry _ _ => none
  | .handoverQueryReceive _ _ => none
  | .handoverReplyReceive _ _ _ => none
  | .relayReturn _ _ => none
  | .messageArrival _ _ _ _ => none
  | .crossbarMatch _ _ _ => none
  | .xbGrpRead src d _ => some (src, d)
  | .xbGrpWrite src d _ => some (src, d)
  | .xbGrpClear src d _ => some (src, d)
  | .xbCommit src d => some (src, d)
  | .xbLarderMinClear src d => some (src, d)
  | .hdmConfigAccess _ _ _ _ => none
  | .hostConfigRequest _ _ _ => none
  | .hostDecoderCommit _ _ _ _ _ _ _ => none
  | .hostDecoderCommitClear _ _ => none
  | .bdTblRead src d _ _ => some (src, d)
  | .bdTblWrite src d _ _ => some (src, d)
  | .bdTblClear src d _ _ => some (src, d)
  | .bdSetMirror src d _ _ => some (src, d)
  | .identifySwitchDevice _ => none
  | .getPhysicalPortState _ _ => none
  | .physicalPortControl _ _ _ => none
  | .sendPpbConfigRequest _ _ _ _ _ => none
  | .getVirtualCxlSwitchInfo _ _ _ _ => none
  | .bindVppb _ _ _ _ _ => none
  | .vppbBindingDone _ _ => none
  | .unbindVppb _ _ _ _ => none
  | .unbindDrainDone _ _ => none
  | .unbindTmoExpiry _ _ => none
  | .generateAerEvent _ _ _ _ => none
  | .tunnelManagementCommand _ _ _ _ _ _ => none
  | .sendLdConfigRequest _ _ _ _ _ _ => none
  | .sendLdMemoryRequest _ _ _ _ _ _ _ => none
  | .mldComponentCommand _ _ _ _ => none
  | .dcdManagementCommand _ _ _ _ _ => none
  | .setLdShare _ _ _ _ => none
  | .getBindingTable _ _ => none
  | .unsupportedOpcode _ => none
  | .identify _ => none
  | .backgroundOperationStatus _ => none
  | .getResponseMessageLimit _ => none
  | .setResponseMessageLimit _ _ => none
  | .getFwInfo _ _ => none
  | .transferFw _ _ _ => none
  | .activateFw _ _ => none
  | .agentMessage _ _ => none
  | .deviceResponsePass _ _ _ => none
  | .snoopIssue _ => none
  | .birspReceive _ _ _ _ => none
  | .birspHoldRelease _ => none
  | .biconflict _ _ _ _ _ _ => none
  | .snoopTimeout _ _ => none
  | .caTblRead src d _ _ => some (src, d)
  | .caRegionWrite src d _ _ => some (src, d)
  | .caRegionClear src d _ _ => some (src, d)
  | .caLoftLookup src d _ _ => some (src, d)
  | .loftWalkStart _ => none
  | .loftWalkEnd _ => none
  | .writeCopyNdr _ _ _ => none
  | .copyTmoExpiry _ _ _ => none
  | .mirrorReadReturn _ _ _ => none
  | .poisonedReadRepair _ _ _ => none
  | .guardArmRequest _ _ _ _ _ _ _ => none
  | .guardAck _ _ _ _ => none
  | .pairQuery _ _ _ _ _ => none
  | .pairQueryAnswered _ _ _ _ => none
  | .guardedRewrite _ _ _ _ _ _ _ => none
  | .copyStateMessage _ _ _ => none
  | .mrTblRead src d _ => some (src, d)
  | .mrTblWrite src d _ => some (src, d)
  | .mrTblClear src d _ => some (src, d)
  | .mrCopyFail src d _ _ => some (src, d)
  | .mrCopyResilver src d _ _ => some (src, d)
  | .mrCopyForceHealthy src d _ _ => some (src, d)
  | .mrCopyStopResilver src d _ _ => some (src, d)
  | .resilverStateAck _ => none
  | .resilverBlockDone _ _ => none
  | .blkGapExpiry _ => none
  | .ovLookup src d => some (src, d)
  | .ovStart src d => some (src, d)
  | .ovAbort src d => some (src, d)
  | .ovClear src d => some (src, d)
  | .lineCopyReadReturn _ _ _ _ _ => none
  | .lineCopyDone _ _ _ => none
  | .migrationDrained _ _ => none
  | .dualWriteNdr _ _ _ => none
  | .starvePromotion _ _ _ => none
  | .scCommit src d => some (src, d)
  | .wheelSlot _ => none
  | .scShpRead src d _ => some (src, d)
  | .scShpWrite src d _ _ => some (src, d)
  | .scShpClear src d _ _ => some (src, d)
  | .shaperWriteEffect _ => none
  | .policerCreditReturn _ _ _ => none
  | .dmDoorbell src d _ => some (src, d)
  | .scanReadReturn _ _ _ _ => none
  | .engineArbitration _ _ => none
  | .dmLineResponse _ _ _ _ => none
  | .descriptorRetire _ _ => none
  | .migrateReply _ _ _ => none
  | .linkRereadReturn _ _ _ _ => none
  | .dmQEnable src d _ => some (src, d)
  | .dmQDisable src d _ => some (src, d)
  | .dmQPause src d _ => some (src, d)
  | .dmQUnpause src d _ => some (src, d)
  | .dmQResume src d _ => some (src, d)
  | .dmQInvalidate src d _ => some (src, d)
  | .cqHeadWrite src d _ _ => some (src, d)
  | .pnReadEntry src d _ _ => some (src, d)
  | .pnCreate src d _ _ => some (src, d)
  | .pnRemove src d _ _ => some (src, d)
  | .pnReset src d _ _ => some (src, d)
  | .pnSetQueue src d _ _ _ => some (src, d)
  | .pnSetShaper src d _ _ _ _ => some (src, d)
  | .pnSetCounter src d _ _ _ => some (src, d)
  | .pnFreeze src d _ _ => some (src, d)
  | .freezeComplete _ _ => none
  | .freezeTmoExpiry _ _ => none
  | .pnSave src d _ _ => some (src, d)
  | .pnRestore src d _ _ => some (src, d)
  | .pnThaw src d _ _ => some (src, d)
  | .staleOutZero _ _ => none
  | .fenceCmd src d _ => some (src, d)
  | .unfenceCmd src d _ => some (src, d)
  | .scrubStep _ _ => none
  | .watchdogKick src d _ => some (src, d)
  | .watchdogExpiry _ => none
  | .slotEnWrite src d _ _ => some (src, d)
  | .prsntFall _ _ => none
  | .presenceConfirmed _ _ => none
  | .prsntRise _ _ => none
  | .slotPowerWrite src d _ _ => some (src, d)
  | .rampShortCheck _ _ _ => none
  | .gateCheck _ _ _ => none
  | .rampComplete _ _ _ _ _ => none
  | .rampTimeout _ _ => none
  | .faultTimerExpiry _ _ => none
  | .fastTrip _ _ _ => none
  | .outputUnderVoltage _ _ => none
  | .pgoodLost _ _ => none
  | .retryTimerEnd _ _ => none
  | .slotUnlock src d _ => some (src, d)
  | .feedGood _ _ _ => none
  | .feedLost _ _ _ _ => none
  | .reverseCurrent _ _ _ => none
  | .oringReenable _ _ _ => none
  | .slotSample _ _ _ => none
  | .fetTempSample _ _ _ => none
  | .slotMeasurementUpdate _ _ => none
  | .forecastAssert _ _ => none
  | .forecastClear _ _ => none
  | .perstReleaseTimer _ _ => none
  | .perstHoldWrite src d _ _ => some (src, d)
  | .fcLeadExpiry _ _ => none
  | .gateOffDelay _ _ => none
  | .stoppingEnd _ _ => none
  | .commandAccept _ _ _ _ _ _ => none
  | .commandStart _ => none
  | .mbQdoorbell _ _ _ => none
  | .hatchInboundAccess _ _ _ _ _ _ => none
  | .hatchAccessDone _ => none
  | .delayedReadStart src d _ _ _ => some (src, d)
  | .delayedReadData _ _ _ => none
  | .delayedReadCollect _ _ => none
  | .drTmoExpiry _ _ => none
  | .pfTmoExpiry _ => none
  | .xbusTransactionEnd _ _ _ => none
  | .xbusRecovery _ _ _ => none
  | .overcastUpdate _ _ _ => none
  | .inventoryControl _ _ _ => none
  | .invVerify _ => none
  | .invApply _ => none
  | .invArm _ => none
  | .getIdentity _ => none
  | .getAttestationReport _ => none
  | .openRegisterSession _ => none
  | .closeRegisterSession _ => none
  | .sessionExpiry _ => none
  | .getCounter _ => none
  | .getNonce _ => none
  | .nonceExpiry => none
  | .submitToken _ => none
  | .transitionResetTimer => none
  | .takeOwnership _ => none
  | .rotateCommandRoot _ => none
  | .releaseReservation _ => none
  | .tapProvisionMaker _ _ _ _ => none
  | .lockoutExpiry _ => none
  | .chainFrameReceive _ => none
  | .chainFrameForward => none
  | .stocktake => none
  | .chainBreak => none
  | .noticeSend => none
  | .mctpPacket => none
  | .setEndpointId => none
  | .getEndpointId => none
  | .getEndpointUuid => none
  | .getMctpVersionSupport => none
  | .getMessageTypeSupport => none
  | .regAccessRead => none
  | .regAccessWrite => none
  | .counterEvtWrite src d _ _ => some (src, d)
  | .counterCaptureRead _ _ => none
  | .counterWrap _ _ => none
  | .frostArmAll src d => some (src, d)
  | .frostArmDie src d => some (src, d)
  | .frostCancel src d => some (src, d)
  | .frostArmReceive _ _ => none
  | .frostAckReceive _ => none
  | .frostSnap _ => none
  | .atticEnWrite src d _ => some (src, d)
  | .atticTailWrite src d _ => some (src, d)
  | .ckRstPackage src _ => some (src, 0)
  | .ckRstDelayExpiry => none
  | .ckRstWarden src _ _ => some (src, 0)
  | .v12BiasValid => none
  | .casubLaneSignalLoss _ _ _ => none
  | .viralIndication _ _ => none
  | .islandPowerLoss => none

/-- The die of a command is one that the part has (R2). -/
def Instr.dieOk (p : Part) (i : Instr) : Bool :=
  match i.die with
  | some d => decide (d < p.dies)
  | none => true

/-- Words of one inbound request: at least one, and all reads or all writes (R424, R426). -/
def wordsOk (ws : List HWord) : Bool :=
  !ws.isEmpty && (ws.all (fun w => w.val.isSome) || ws.all fun w => w.val.isNone)

/-- Lists of a command have the length that the spec fixes: eight sensors of a die (R77), one power reading for each die (R72), a
chain frame with its header and crc (Table 18.1), data cells as many as the header says (R181), the extension cell among them (R183). -/
def Instr.listsOk (p : Part) (i : Instr) : Bool :=
  match i with
  | .thermalSample _ ts => ts.length == 8
  | .powerMonitorUpdate ds _ => ds.length == p.dies
  | .hatchInboundAccess _ _ _ _ ws _ => wordsOk ws
  | .chainFrameReceive f => decide (6 ≤ f.bytes.length)
  | .messageArrival _ _ m _ => m.data.length == m.cells && (!m.ext || decide (1 ≤ m.cells))
  | _ => true

/-- A command is well formed for a part. -/
def Instr.wf (p : Part) (i : Instr) : Bool := i.dieOk p && i.listsOk p

end Sys2Proof
end

