-- ==== Sys2Proof/Safety.lean ====
section
/-! DEFINITION. What counts as a safe run: every waiting command is well formed for the part, and a step then never stops. And when a
command may be carried out: the conditions on the state that the statements name. -/

namespace Sys2Proof.Machine

/-- Every waiting command is well formed for the part. -/
def State.queueOk (s : State) : Bool := s.pending.all (Instr.wf s.part)

/-- A step goes on. -/
def stepsOn (s : State) : Prop := ∃ t, step s = .next t

/-- `n` steps in a row go on. -/
def runsOn : Nat → State → Prop
  | 0, _ => True
  | n + 1, s => ∃ t, step s = .next t ∧ runsOn n t

/-- The registers in which a log record shows (R387, R506, R510): the ring and its head, the class counts, RS_STATUS, RS_EVENT, the
wrapped bits of counters of log records, and the state of the Wardens' domain, which the interrupt of a wrap brings out of Lull (R67,
R68). -/
def logRegs : List Reg := [.RS_LOG_r, .RS_LOG_HEAD, .RS_CNT_CLASS, .RS_STATUS, .RS_EVENT, .PM_OVF_j, .PM_EVENT, .PD_DOM_STATE1]

/-- A state without its register file and without what a log record or a count of an event counter changes: the records of the last
microsecond, the counts, when a domain last had work and which leave Lull, and what is sent out. -/
def State.logless (s : State) : State := { s with regs := [], recent := [], cnt := [], lastWork := [], waking := [], out := [] }

/-- `t` differs from `s` only by log records and in the registers `rs`. -/
def State.onlyLogs (s t : State) (rs : List Reg) : Prop :=
  t.logless = s.logless ∧ ∀ (g : Fld) (m : Loc), g.lo < 32 → g.reg ∉ logRegs → g.reg ∉ rs → t.rd g m = s.rd g m

/-! ## When a command is carried out -/

/-- The package is out of reset (R56, R527). -/
abbrev State.live (s : State) : Prop := s.pkg.inReset = false

/-- The package is out of reset, and the part has die `d` (R2). -/
abbrev State.ready (s : State) (d : Nat) : Prop := s.pkg.inReset = false ∧ d < s.part.dies

/-- A write by `src` to a register of die `d` is taken: registers are served (R533), the part has the die (R10), it is not in Scrap
(Table 17.12), and a session is open where one is needed (R476). -/
abbrev State.writable (s : State) (src : Src) (d : Nat) : Prop :=
  s.serving = true ∧ d < s.part.dies ∧ s.shut src = false ∧ s.denied src = false

/-- A write by `src` to a register of die `d` is discarded before any rule of the register is looked at (R10, R533, Table 17.12). -/
abbrev State.discards (s : State) (src : Src) (d : Nat) : Prop :=
  s.serving = false ∨ s.part.dies ≤ d ∨ s.shut src = true

/-- Channel `c` of die 0 has started command `cmd`, whose opcode is one of `ops` and may be carried by the kind of message
that carried it (Table 18.2), and no record of its counter is awaited (R417, R474). -/
abbrev State.started (s : State) (c : Nat) (ops : List Nat) (cmd : Cmd) : Prop :=
  s.pkg.inReset = false ∧ (s.chan 0 c).running = some cmd ∧ ops.contains cmd.opcode = true ∧ cmd.waits = false ∧ cmd.typeOk = true

/-- A queue is reached through a doorbell page of an instance whose pages the source sees (R350). -/
def paged (s : State) (src : Src) (d : Nat) : QTo → Bool
  | .reg _ => false
  | .page i _ => s.pageFor src d i

/-- Function 1 of an upstream port reaches what the command writes: a doorbell page of its VCS, or its own admin window (R350). -/
def forTenant (s : State) : Instr → Bool
  | .registerWrite _ _ _ => false
  | .pairLowRead _ => false
  | .pairHighWrite _ _ _ => false
  | .islandPowerOn _ => false
  | .islandSourceChange _ => false
  | .pwrOkFall => false
  | .sysRstAssert => false
  | .railDip _ _ => false
  | .railRecovered => false
  | .v12BiasLow => false
  | .refclkLoss _ => false
  | .packageReset _ => false
  | .packageResetExit _ _ => false
  | .resetHoldExpiry => false
  | .pllLock => false
  | .pllLockTimeout => false
  | .dieChainComplete _ _ => false
  | .dieChainTimeout _ => false
  | .strongroomSelftest _ => false
  | .storeRecordDurable => false
  | .invFlashDirectoryRead _ _ _ => false
  | .invImageRead _ => false
  | .invChecks => false
  | .invSectionsApply => false
  | .firmwareVerify _ _ _ => false
  | .masterCountSend => false
  | .masterCountReceive _ _ _ => false
  | .alignmentTimeout _ => false
  | .thermalSample _ _ => false
  | .powerMonitorUpdate _ _ => false
  | .domReqWrite _ _ _ => false
  | .p1ReqWrite _ _ => false
  | .domainPowered _ _ => false
  | .lullEntry _ _ => false
  | .lullWake _ _ => false
  | .lullExitDone _ _ => false
  | .quadEnWrite _ _ _ _ => false
  | .laneDetectPulse _ _ _ => false
  | .partnerTerminationSensed _ _ _ => false
  | .laneSymbolLock _ _ _ _ => false
  | .eqEvaluationEnd _ _ _ _ => false
  | .eqBudgetExpired _ _ _ => false
  | .laneLockTimeout _ _ _ => false
  | .laneAlignmentFound _ _ _ => false
  | .exchangeDone _ _ _ _ => false
  | .barometerRefresh _ _ _ _ => false
  | .lossOfSignal _ _ _ => false
  | .farEndLoopbackRequest _ _ _ => false
  | .farEndLoopbackExit _ _ _ => false
  | .loopGoWrite _ _ _ _ => false
  | .coefficientRequest _ _ _ _ => false
  | .checkEnRise _ _ _ => false
  | .laneMarginStart _ _ _ _ => false
  | .protocolMarginRequest _ _ _ => false
  | .marginStepDone _ _ _ _ => false
  | .baroMinClear _ _ _ _ => false
  | .baroThrWrite _ _ _ _ _ _ _ _ => false
  | .portTrainingStart _ _ => false
  | .protocolNegotiationEnd _ _ _ => false
  | .negFailRetry _ _ => false
  | .dlActive _ _ => false
  | .identityReadDone _ _ _ _ => false
  | .identityReadTimeout _ _ => false
  | .linkDown _ _ _ _ => false
  | .cellarHoldExpiry _ _ => false
  | .flushNow _ _ _ => false
  | .ptRetrain _ _ _ _ => false
  | .portEnWrite _ _ _ _ => false
  | .l0pWidthChange _ _ _ => false
  | .hostPerstAssert _ _ _ => false
  | .flitSend _ _ => false
  | .flitReceive _ _ _ _ _ => false
  | .replayReqReceive _ _ _ => false
  | .replayTimeout _ _ => false
  | .ackTimer _ _ => false
  | .droughtSuspicion _ _ _ => false
  | .auditCommandReceive _ _ _ => false
  | .auditReplyReceive _ _ _ _ _ _ _ => false
  | .casubBaroRefresh _ _ _ => false
  | .mapChangeCmdReceive _ _ _ => false
  | .markerReceive _ _ _ => false
  | .periodicMarker _ _ => false
  | .siteEnWrite _ _ _ _ => false
  | .siteCalibrateDone _ _ _ => false
  | .siteCalibrateTimeout _ _ => false
  | .siteAlignFound _ _ _ => false
  | .siteAlignTimeout _ _ => false
  | .siteInitExchange _ _ _ _ _ _ => false
  | .siteInitTimeout _ _ => false
  | .clRetrain _ _ _ => false
  | .clRetire _ _ _ => false
  | .clRevive _ _ _ => false
  | .holdUsExpiry _ _ => false
  | .handoverQueryReceive _ _ => false
  | .handoverReplyReceive _ _ _ => false
  | .relayReturn _ _ => false
  | .messageArrival _ _ _ _ => false
  | .crossbarMatch _ _ _ => false
  | .xbGrpRead _ _ _ => false
  | .xbGrpWrite _ _ _ => false
  | .xbGrpClear _ _ _ => false
  | .xbCommit _ _ => false
  | .xbLarderMinClear _ _ => false
  | .hdmConfigAccess _ _ _ _ => false
  | .hostConfigRequest _ _ _ => false
  | .hostDecoderCommit _ _ _ _ _ _ _ => false
  | .hostDecoderCommitClear _ _ => false
  | .bdTblRead _ _ _ _ => false
  | .bdTblWrite _ _ _ _ => false
  | .bdTblClear _ _ _ _ => false
  | .bdSetMirror _ _ _ _ => false
  | .identifySwitchDevice _ => false
  | .getPhysicalPortState _ _ => false
  | .physicalPortControl _ _ _ => false
  | .sendPpbConfigRequest _ _ _ _ _ => false
  | .getVirtualCxlSwitchInfo _ _ _ _ => false
  | .bindVppb _ _ _ _ _ => false
  | .vppbBindingDone _ _ => false
  | .unbindVppb _ _ _ _ => false
  | .unbindDrainDone _ _ => false
  | .unbindTmoExpiry _ _ => false
  | .generateAerEvent _ _ _ _ => false
  | .tunnelManagementCommand _ _ _ _ _ _ => false
  | .sendLdConfigRequest _ _ _ _ _ _ => false
  | .sendLdMemoryRequest _ _ _ _ _ _ _ => false
  | .mldComponentCommand _ _ _ _ => false
  | .dcdManagementCommand _ _ _ _ _ => false
  | .setLdShare _ _ _ _ => false
  | .getBindingTable _ _ => false
  | .unsupportedOpcode _ => false
  | .identify _ => false
  | .backgroundOperationStatus _ => false
  | .getResponseMessageLimit _ => false
  | .setResponseMessageLimit _ _ => false
  | .getFwInfo _ _ => false
  | .transferFw _ _ _ => false
  | .activateFw _ _ => false
  | .agentMessage _ _ => false
  | .deviceResponsePass _ _ _ => false
  | .snoopIssue _ => false
  | .birspReceive _ _ _ _ => false
  | .birspHoldRelease _ => false
  | .biconflict _ _ _ _ _ _ => false
  | .snoopTimeout _ _ => false
  | .caTblRead _ _ _ _ => false
  | .caRegionWrite _ _ _ _ => false
  | .caRegionClear _ _ _ _ => false
  | .caLoftLookup _ _ _ _ => false
  | .loftWalkStart _ => false
  | .loftWalkEnd _ => false
  | .writeCopyNdr _ _ _ => false
  | .copyTmoExpiry _ _ _ => false
  | .mirrorReadReturn _ _ _ => false
  | .poisonedReadRepair _ _ _ => false
  | .guardArmRequest _ _ _ _ _ _ _ => false
  | .guardAck _ _ _ _ => false
  | .pairQuery _ _ _ _ _ => false
  | .pairQueryAnswered _ _ _ _ => false
  | .guardedRewrite _ _ _ _ _ _ _ => false
  | .copyStateMessage _ _ _ => false
  | .mrTblRead _ _ _ => false
  | .mrTblWrite _ _ _ => false
  | .mrTblClear _ _ _ => false
  | .mrCopyFail _ _ _ _ => false
  | .mrCopyResilver _ _ _ _ => false
  | .mrCopyForceHealthy _ _ _ _ => false
  | .mrCopyStopResilver _ _ _ _ => false
  | .resilverStateAck _ => false
  | .resilverBlockDone _ _ => false
  | .blkGapExpiry _ => false
  | .ovLookup _ _ => false
  | .ovStart _ _ => false
  | .ovAbort _ _ => false
  | .ovClear _ _ => false
  | .lineCopyReadReturn _ _ _ _ _ => false
  | .lineCopyDone _ _ _ => false
  | .migrationDrained _ _ => false
  | .dualWriteNdr _ _ _ => false
  | .starvePromotion _ _ _ => false
  | .scCommit _ _ => false
  | .wheelSlot _ => false
  | .scShpRead _ _ _ => false
  | .scShpWrite _ _ _ _ => false
  | .scShpClear _ _ _ _ => false
  | .shaperWriteEffect _ => false
  | .policerCreditReturn _ _ _ => false
  | .dmDoorbell src d q => paged s src d q
  | .scanReadReturn _ _ _ _ => false
  | .engineArbitration _ _ => false
  | .dmLineResponse _ _ _ _ => false
  | .descriptorRetire _ _ => false
  | .migrateReply _ _ _ => false
  | .linkRereadReturn _ _ _ _ => false
  | .dmQEnable _ _ _ => false
  | .dmQDisable _ _ _ => false
  | .dmQPause src d q => paged s src d q
  | .dmQUnpause src d q => paged s src d q
  | .dmQResume src d q => paged s src d q
  | .dmQInvalidate src d q => paged s src d q
  | .cqHeadWrite src d q _ => paged s src d q
  | .pnReadEntry src d chan _ => ownChan src d chan
  | .pnCreate src d chan _ => ownChan src d chan
  | .pnRemove src d chan _ => ownChan src d chan
  | .pnReset src d chan _ => ownChan src d chan
  | .pnSetQueue src d chan _ _ => ownChan src d chan
  | .pnSetShaper src d chan _ _ _ => ownChan src d chan
  | .pnSetCounter src d chan _ _ => ownChan src d chan
  | .pnFreeze src d chan _ => ownChan src d chan
  | .freezeComplete _ _ => false
  | .freezeTmoExpiry _ _ => false
  | .pnSave src d chan _ => ownChan src d chan
  | .pnRestore src d chan _ => ownChan src d chan
  | .pnThaw src d chan _ => ownChan src d chan
  | .staleOutZero _ _ => false
  | .fenceCmd _ _ _ => false
  | .unfenceCmd _ _ _ => false
  | .scrubStep _ _ => false
  | .watchdogKick _ _ _ => false
  | .watchdogExpiry _ => false
  | .slotEnWrite _ _ _ _ => false
  | .prsntFall _ _ => false
  | .presenceConfirmed _ _ => false
  | .prsntRise _ _ => false
  | .slotPowerWrite _ _ _ _ => false
  | .rampShortCheck _ _ _ => false
  | .gateCheck _ _ _ => false
  | .rampComplete _ _ _ _ _ => false
  | .rampTimeout _ _ => false
  | .faultTimerExpiry _ _ => false
  | .fastTrip _ _ _ => false
  | .outputUnderVoltage _ _ => false
  | .pgoodLost _ _ => false
  | .retryTimerEnd _ _ => false
  | .slotUnlock _ _ _ => false
  | .feedGood _ _ _ => false
  | .feedLost _ _ _ _ => false
  | .reverseCurrent _ _ _ => false
  | .oringReenable _ _ _ => false
  | .slotSample _ _ _ => false
  | .fetTempSample _ _ _ => false
  | .slotMeasurementUpdate _ _ => false
  | .forecastAssert _ _ => false
  | .forecastClear _ _ => false
  | .perstReleaseTimer _ _ => false
  | .perstHoldWrite _ _ _ _ => false
  | .fcLeadExpiry _ _ => false
  | .gateOffDelay _ _ => false
  | .stoppingEnd _ _ => false
  | .commandAccept _ _ _ _ _ _ => false
  | .commandStart _ => false
  | .mbQdoorbell _ _ _ => false
  | .hatchInboundAccess _ _ _ _ _ _ => false
  | .hatchAccessDone _ => false
  | .delayedReadStart _ _ _ _ _ => false
  | .delayedReadData _ _ _ => false
  | .delayedReadCollect _ _ => false
  | .drTmoExpiry _ _ => false
  | .pfTmoExpiry _ => false
  | .xbusTransactionEnd _ _ _ => false
  | .xbusRecovery _ _ _ => false
  | .overcastUpdate _ _ _ => false
  | .inventoryControl _ _ _ => false
  | .invVerify _ => false
  | .invApply _ => false
  | .invArm _ => false
  | .getIdentity _ => false
  | .getAttestationReport _ => false
  | .openRegisterSession _ => false
  | .closeRegisterSession _ => false
  | .sessionExpiry _ => false
  | .getCounter _ => false
  | .getNonce _ => false
  | .nonceExpiry => false
  | .submitToken _ => false
  | .transitionResetTimer => false
  | .takeOwnership _ => false
  | .rotateCommandRoot _ => false
  | .releaseReservation _ => false
  | .tapProvisionMaker _ _ _ _ => false
  | .lockoutExpiry _ => false
  | .chainFrameReceive _ => false
  | .chainFrameForward => false
  | .stocktake => false
  | .chainBreak => false
  | .noticeSend => false
  | .mctpPacket => false
  | .setEndpointId => false
  | .getEndpointId => false
  | .getEndpointUuid => false
  | .getMctpVersionSupport => false
  | .getMessageTypeSupport => false
  | .regAccessRead => false
  | .regAccessWrite => false
  | .counterEvtWrite _ _ _ _ => false
  | .counterCaptureRead _ _ => false
  | .counterWrap _ _ => false
  | .frostArmAll _ _ => false
  | .frostArmDie _ _ => false
  | .frostCancel _ _ => false
  | .frostArmReceive _ _ => false
  | .frostAckReceive _ => false
  | .frostSnap _ => false
  | .atticEnWrite _ _ _ => false
  | .atticTailWrite _ _ _ => false
  | .ckRstPackage _ _ => false
  | .ckRstDelayExpiry => false
  | .ckRstWarden _ _ _ => false
  | .v12BiasValid => false
  | .casubLaneSignalLoss _ _ _ => false
  | .viralIndication _ _ => false
  | .islandPowerLoss => false

/-! ## Frames -/

/-- The registers that a command of small effect may change beside those of `logRegs`; none for the other commands, whose effects
their own statements give. -/
def touches : Instr → Option (List Reg)
  | .registerWrite _ _ _ => none
  | .pairLowRead _ => none
  | .pairHighWrite _ _ _ => none
  | .islandPowerOn _ => none
  | .islandSourceChange _ => some [.PD_PKG_STATUS]
  | .pwrOkFall => none
  | .sysRstAssert => none
  | .railDip _ _ => none
  | .railRecovered => some [.PD_PKG_STATUS]
  | .v12BiasLow => none
  | .refclkLoss _ => none
  | .packageReset _ => none
  | .packageResetExit _ _ => none
  | .resetHoldExpiry => some []
  | .pllLock => none
  | .pllLockTimeout => none
  | .dieChainComplete _ _ => none
  | .dieChainTimeout _ => none
  | .strongroomSelftest _ => none
  | .storeRecordDurable => none
  | .invFlashDirectoryRead _ _ _ => some []
  | .invImageRead _ => some []
  | .invChecks => none
  | .invSectionsApply => none
  | .firmwareVerify _ _ _ => none
  | .masterCountSend => some []
  | .masterCountReceive _ _ _ => some [.CK_FTIME_STATUS]
  | .alignmentTimeout _ => some [.CK_FTIME_STATUS]
  | .thermalSample _ _ => none
  | .powerMonitorUpdate _ _ => some [.TM_DIE_POWER, .PD_PKG_POWER]
  | .domReqWrite _ _ _ => none
  | .p1ReqWrite _ _ => none
  | .domainPowered _ _ => none
  | .lullEntry _ _ => none
  | .lullWake _ _ => some []
  | .lullExitDone _ _ => none
  | .quadEnWrite _ _ _ _ => none
  | .laneDetectPulse _ _ _ => some [.LQ_STATUS]
  | .partnerTerminationSensed _ _ _ => none
  | .laneSymbolLock _ _ _ _ => none
  | .eqEvaluationEnd _ _ _ _ => none
  | .eqBudgetExpired _ _ _ => none
  | .laneLockTimeout _ _ _ => none
  | .laneAlignmentFound _ _ _ => none
  | .exchangeDone _ _ _ _ => none
  | .barometerRefresh _ _ _ _ => none
  | .lossOfSignal _ _ _ => none
  | .farEndLoopbackRequest _ _ _ => none
  | .farEndLoopbackExit _ _ _ => none
  | .loopGoWrite _ _ _ _ => none
  | .coefficientRequest _ _ _ _ => some [.LQ_TX_n]
  | .checkEnRise _ _ _ => none
  | .laneMarginStart _ _ _ _ => none
  | .protocolMarginRequest _ _ _ => none
  | .marginStepDone _ _ _ _ => some [.LQ_MARGIN_STATUS]
  | .baroMinClear _ _ _ _ => none
  | .baroThrWrite _ _ _ _ _ _ _ _ => none
  | .portTrainingStart _ _ => none
  | .protocolNegotiationEnd _ _ _ => none
  | .negFailRetry _ _ => some []
  | .dlActive _ _ => none
  | .identityReadDone _ _ _ _ => none
  | .identityReadTimeout _ _ => none
  | .linkDown _ _ _ _ => none
  | .cellarHoldExpiry _ _ => none
  | .flushNow _ _ _ => none
  | .ptRetrain _ _ _ _ => none
  | .portEnWrite _ _ _ _ => none
  | .l0pWidthChange _ _ _ => none
  | .hostPerstAssert _ _ _ => none
  | .flitSend _ _ => none
  | .flitReceive _ _ _ _ _ => none
  | .replayReqReceive _ _ _ => some [.CL_SEQ, .CL_REPLAY, .CL_XOFF, .CL_CREDIT_AVAIL_c]
  | .replayTimeout _ _ => some []
  | .ackTimer _ _ => some []
  | .droughtSuspicion _ _ _ => some []
  | .auditCommandReceive _ _ _ => some []
  | .auditReplyReceive _ _ _ _ _ _ _ => none
  | .casubBaroRefresh _ _ _ => none
  | .mapChangeCmdReceive _ _ _ => some []
  | .markerReceive _ _ _ => none
  | .periodicMarker _ _ => some []
  | .siteEnWrite _ _ _ _ => none
  | .siteCalibrateDone _ _ _ => none
  | .siteCalibrateTimeout _ _ => none
  | .siteAlignFound _ _ _ => none
  | .siteAlignTimeout _ _ => none
  | .siteInitExchange _ _ _ _ _ _ => none
  | .siteInitTimeout _ _ => none
  | .clRetrain _ _ _ => none
  | .clRetire _ _ _ => none
  | .clRevive _ _ _ => none
  | .holdUsExpiry _ _ => none
  | .handoverQueryReceive _ _ => some []
  | .handoverReplyReceive _ _ _ => none
  | .relayReturn _ _ => some []
  | .messageArrival _ _ _ _ => none
  | .crossbarMatch _ _ _ => none
  | .xbGrpRead _ _ _ => none
  | .xbGrpWrite _ _ _ => none
  | .xbGrpClear _ _ _ => none
  | .xbCommit _ _ => none
  | .xbLarderMinClear _ _ => none
  | .hdmConfigAccess _ _ _ _ => some []
  | .hostConfigRequest _ _ _ => none
  | .hostDecoderCommit _ _ _ _ _ _ _ => some []
  | .hostDecoderCommitClear _ _ => some []
  | .bdTblRead _ _ _ _ => none
  | .bdTblWrite _ _ _ _ => none
  | .bdTblClear _ _ _ _ => none
  | .bdSetMirror _ _ _ _ => none
  | .identifySwitchDevice _ => none
  | .getPhysicalPortState _ _ => none
  | .physicalPortControl _ _ _ => none
  | .sendPpbConfigRequest _ _ _ _ _ => none
  | .getVirtualCxlSwitchInfo _ _ _ _ => none
  | .bindVppb _ _ _ _ _ => none
  | .vppbBindingDone _ _ => none
  | .unbindVppb _ _ _ _ => none
  | .unbindDrainDone _ _ => none
  | .unbindTmoExpiry _ _ => none
  | .generateAerEvent _ _ _ _ => none
  | .tunnelManagementCommand _ _ _ _ _ _ => none
  | .sendLdConfigRequest _ _ _ _ _ _ => none
  | .sendLdMemoryRequest _ _ _ _ _ _ _ => none
  | .mldComponentCommand _ _ _ _ => none
  | .dcdManagementCommand _ _ _ _ _ => none
  | .setLdShare _ _ _ _ => none
  | .getBindingTable _ _ => none
  | .unsupportedOpcode _ => none
  | .identify _ => none
  | .backgroundOperationStatus _ => none
  | .getResponseMessageLimit _ => none
  | .setResponseMessageLimit _ _ => none
  | .getFwInfo _ _ => none
  | .transferFw _ _ _ => none
  | .activateFw _ _ => none
  | .agentMessage _ _ => none
  | .deviceResponsePass _ _ _ => none
  | .snoopIssue _ => none
  | .birspReceive _ _ _ _ => none
  | .birspHoldRelease _ => none
  | .biconflict _ _ _ _ _ _ => none
  | .snoopTimeout _ _ => none
  | .caTblRead _ _ _ _ => none
  | .caRegionWrite _ _ _ _ => none
  | .caRegionClear _ _ _ _ => none
  | .caLoftLookup _ _ _ _ => none
  | .loftWalkStart _ => none
  | .loftWalkEnd _ => none
  | .writeCopyNdr _ _ _ => none
  | .copyTmoExpiry _ _ _ => none
  | .mirrorReadReturn _ _ _ => none
  | .poisonedReadRepair _ _ _ => none
  | .guardArmRequest _ _ _ _ _ _ _ => none
  | .guardAck _ _ _ _ => none
  | .pairQuery _ _ _ _ _ => none
  | .pairQueryAnswered _ _ _ _ => none
  | .guardedRewrite _ _ _ _ _ _ _ => none
  | .copyStateMessage _ _ _ => none
  | .mrTblRead _ _ _ => none
  | .mrTblWrite _ _ _ => none
  | .mrTblClear _ _ _ => none
  | .mrCopyFail _ _ _ _ => none
  | .mrCopyResilver _ _ _ _ => none
  | .mrCopyForceHealthy _ _ _ _ => none
  | .mrCopyStopResilver _ _ _ _ => none
  | .resilverStateAck _ => none
  | .resilverBlockDone _ _ => none
  | .blkGapExpiry _ => none
  | .ovLookup _ _ => none
  | .ovStart _ _ => none
  | .ovAbort _ _ => none
  | .ovClear _ _ => none
  | .lineCopyReadReturn _ _ _ _ _ => none
  | .lineCopyDone _ _ _ => none
  | .migrationDrained _ _ => none
  | .dualWriteNdr _ _ _ => none
  | .starvePromotion _ _ _ => none
  | .scCommit _ _ => none
  | .wheelSlot _ => none
  | .scShpRead _ _ _ => none
  | .scShpWrite _ _ _ _ => none
  | .scShpClear _ _ _ _ => none
  | .shaperWriteEffect _ => none
  | .policerCreditReturn _ _ _ => none
  | .dmDoorbell _ _ _ => none
  | .scanReadReturn _ _ _ _ => none
  | .engineArbitration _ _ => none
  | .dmLineResponse _ _ _ _ => none
  | .descriptorRetire _ _ => none
  | .migrateReply _ _ _ => none
  | .linkRereadReturn _ _ _ _ => none
  | .dmQEnable _ _ _ => none
  | .dmQDisable _ _ _ => none
  | .dmQPause _ _ _ => none
  | .dmQUnpause _ _ _ => none
  | .dmQResume _ _ _ => none
  | .dmQInvalidate _ _ _ => none
  | .cqHeadWrite _ _ _ _ => none
  | .pnReadEntry _ _ _ _ => none
  | .pnCreate _ _ _ _ => none
  | .pnRemove _ _ _ _ => none
  | .pnReset _ _ _ _ => none
  | .pnSetQueue _ _ _ _ _ => none
  | .pnSetShaper _ _ _ _ _ _ => none
  | .pnSetCounter _ _ _ _ _ => none
  | .pnFreeze _ _ _ _ => none
  | .freezeComplete _ _ => none
  | .freezeTmoExpiry _ _ => none
  | .pnSave _ _ _ _ => none
  | .pnRestore _ _ _ _ => none
  | .pnThaw _ _ _ _ => none
  | .staleOutZero _ _ => none
  | .fenceCmd _ _ _ => none
  | .unfenceCmd _ _ _ => none
  | .scrubStep _ _ => none
  | .watchdogKick _ _ _ => none
  | .watchdogExpiry _ => none
  | .slotEnWrite _ _ _ _ => none
  | .prsntFall _ _ => none
  | .presenceConfirmed _ _ => none
  | .prsntRise _ _ => none
  | .slotPowerWrite _ _ _ _ => none
  | .rampShortCheck _ _ _ => none
  | .gateCheck _ _ _ => none
  | .rampComplete _ _ _ _ _ => none
  | .rampTimeout _ _ => none
  | .faultTimerExpiry _ _ => none
  | .fastTrip _ _ _ => none
  | .outputUnderVoltage _ _ => none
  | .pgoodLost _ _ => none
  | .retryTimerEnd _ _ => none
  | .slotUnlock _ _ _ => none
  | .feedGood _ _ _ => none
  | .feedLost _ _ _ _ => none
  | .reverseCurrent _ _ _ => none
  | .oringReenable _ _ _ => none
  | .slotSample _ _ _ => none
  | .fetTempSample _ _ _ => none
  | .slotMeasurementUpdate _ _ => none
  | .forecastAssert _ _ => none
  | .forecastClear _ _ => none
  | .perstReleaseTimer _ _ => none
  | .perstHoldWrite _ _ _ _ => none
  | .fcLeadExpiry _ _ => none
  | .gateOffDelay _ _ => none
  | .stoppingEnd _ _ => none
  | .commandAccept _ _ _ _ _ _ => none
  | .commandStart _ => none
  | .mbQdoorbell _ _ _ => none
  | .hatchInboundAccess _ _ _ _ _ _ => none
  | .hatchAccessDone _ => none
  | .delayedReadStart _ _ _ _ _ => none
  | .delayedReadData _ _ _ => none
  | .delayedReadCollect _ _ => none
  | .drTmoExpiry _ _ => none
  | .pfTmoExpiry _ => none
  | .xbusTransactionEnd _ _ _ => none
  | .xbusRecovery _ _ _ => none
  | .overcastUpdate _ _ _ => none
  | .inventoryControl _ _ _ => none
  | .invVerify _ => none
  | .invApply _ => none
  | .invArm _ => none
  | .getIdentity _ => none
  | .getAttestationReport _ => none
  | .openRegisterSession _ => none
  | .closeRegisterSession _ => none
  | .sessionExpiry _ => some [.SEC_SESSION_c]
  | .getCounter _ => none
  | .getNonce _ => none
  | .nonceExpiry => some []
  | .submitToken _ => none
  | .transitionResetTimer => none
  | .takeOwnership _ => none
  | .rotateCommandRoot _ => none
  | .releaseReservation _ => none
  | .tapProvisionMaker _ _ _ _ => none
  | .lockoutExpiry _ => some [.MB_CHAN_c]
  | .chainFrameReceive _ => none
  | .chainFrameForward => some [.CH_CNT]
  | .stocktake => none
  | .chainBreak => some [.CH_STATUS, .CH_CNT_ERR, .CH_EVENT]
  | .noticeSend => none
  | .mctpPacket => none
  | .setEndpointId => none
  | .getEndpointId => none
  | .getEndpointUuid => none
  | .getMctpVersionSupport => none
  | .getMessageTypeSupport => none
  | .regAccessRead => none
  | .regAccessWrite => none
  | .counterEvtWrite _ _ _ _ => none
  | .counterCaptureRead _ _ => some [.CNT_LO, .CNT_HI, .STAMP_LO, .STAMP_HI]
  | .counterWrap _ _ => some []
  | .frostArmAll _ _ => none
  | .frostArmDie _ _ => none
  | .frostCancel _ _ => none
  | .frostArmReceive _ _ => some [.PM_FROST_STATUS]
  | .frostAckReceive _ => some [.PM_FROST_STATUS]
  | .frostSnap _ => none
  | .atticEnWrite _ _ _ => none
  | .atticTailWrite _ _ _ => none
  | .ckRstPackage _ _ => none
  | .ckRstDelayExpiry => none
  | .ckRstWarden _ _ _ => none
  | .v12BiasValid => none
  | .casubLaneSignalLoss _ _ _ => none
  | .viralIndication _ _ => none
  | .islandPowerLoss => none

end Sys2Proof.Machine
end

