-- ==== Sys2Proof/Certificates/Slice0/Obligations.lean ====
section
/-! DEFINITION. The statements for the provers: what a step does, what each command answers when it is carried out, what the rules of
the spec say of single commands and of the register file, and what every step keeps. -/

section

open Sys2Proof Sys2Proof.Machine

/-- A step carries out the command at the front of the queue, with the rest of the queue waiting. The queue is the model's own (log
entry 6). -/
def Obligations.StepRunsFront : Prop :=
  ∀ (s : State) (c : Instr) (r : List Instr), s.pending = c :: r → step s = exec c { s with pending := r }

/-- With no command waiting one core cycle passes (DESIGN CHOICE, log entry 6): the event counters of kinds Time and Level count, the
pattern generators send their bits, the checkers count the bit errors of the cycle (none of a pattern that comes back over the
parallel path, else a free number: log entry 114), and the fabric time of every die advances. Before the clocks run, nothing
changes. -/
def Obligations.EmptyQueueTicks : Prop :=
  ∀ s : State, s.pending = [] →
    step s = .next s.tick ∧ (s.clocks = false → s.tick = s) ∧
    (s.clocks = true →
      s.tick = (((s.forEach s.dies State.countCycle).forEach s.dies State.genCycle).forEach s.dies State.checkCycle).forEach s.dies
        State.timeStep)

/-- At reset every field reads the value of its register table (where the spec gives none, that of log entry 1); the package is in
reset, the clocks stand, no command waits. -/
def Obligations.ResetState : Prop :=
  State.reset.pending = [] ∧ State.reset.queueOk = true ∧ State.reset.regsOk = true ∧ State.reset.pkg.inReset = true ∧
    State.reset.clocks = false ∧
    ∀ (f : Fld) (l : Loc), State.reset.rd f l = f.rst State.reset.part l % 2 ^ f.width

/-- Completion of the commands of the register space: on a state that meets the named conditions, each answers the state that its
rules give. -/
def Obligations.RegisterSpaceComplete : Prop :=
  (∀ (s : State) (src : Src) (addr : Fin 268435456) (val : BitVec 32),
      exec (.registerWrite src addr val) s = .next (s.outerDone src (addr / 4 * 4) val.toNat)) ∧
  (∀ (s : State) (addr : Fin 268435456),
      exec (.pairLowRead addr) s = .next (
        if pageLow (addr / 4 * 4) then (s.outerRead (addr / 4 * 4)).2
          else match regAt (addr / 4 * 4) with
            | some (r, _) => if (pairHigh r).isSome then (s.outerRead (addr / 4 * 4)).2 else s
            | none => s)) ∧
  (∀ (s : State) (src : Src) (addr : Fin 268435456) (val : BitVec 32) r l,
      regAt (addr / 4 * 4) = some (r, l) → (pairLow r).isSome →
      exec (.pairHighWrite src addr val) s = .next (s.outerDone src (addr / 4 * 4) val.toNat))

/-- Completion of the commands of the reset, supplies and the start of the dies: on a state that meets the named conditions, each
answers the state that its rules give. -/
def Obligations.ResetAndSuppliesComplete : Prop :=
  (∀ (s : State) (vaux : Bool),
      ¬(s.pkg.islandUp) →
      exec (.islandPowerOn vaux) s = .next (s.islandStart vaux)) ∧
  (∀ (s : State) (toVaux : Bool),
      s.pkg.islandUp →
      exec (.islandSourceChange toVaux) s = .next
        ({ (s.wr F.PD_PKG_STATUS_island_source pkgL (if toVaux then 1 else 2)) with pkg := { s.pkg with vaux := toVaux
                                                                                             } })) ∧
  (∀ (s : State),
      s.pkg.islandUp →
      exec .pwrOkFall s = .next (s.enterReset [.pwrOk])) ∧
  (∀ (s : State),
      s.pkg.islandUp →
      exec .sysRstAssert s = .next (s.enterReset [.sysRst])) ∧
  (∀ (s : State) (d : Fin 8) (rail : Rail),
      d < s.part.dies → rail ≠ .v12Bias →
      exec (.railDip d rail) s = .next (
        let low := (d.val, Rail.bit rail)
        let t := { s with pkg := { s.pkg with
          lowRails := if s.pkg.lowRails.contains low then s.pkg.lowRails else s.pkg.lowRails ++ [low] } }
        let u := t.on (F.PD_PKG_STATUS_rail_low (Rail.bit rail)) pkgL
        if s.pkg.pwrOk then u.enterReset [.rail] else u)) ∧
  (∀ (s : State) (d : Fin 8),
      d < s.part.dies →
      exec (.railDip d .v12Bias) s = .next s) ∧
  (∀ (s : State),
      exec .railRecovered s = .next (
        let t := s.forEach (upTo 7) fun t k => t.off (F.PD_PKG_STATUS_rail_low k) pkgL
        { t with pkg := { s.pkg with lowRails := [], wait := { s.pkg.wait with rails := false } } })) ∧
  (∀ (s : State),
      s.live →
      exec .v12BiasLow s = .next (
        let t := { (s.on (F.PD_PKG_STATUS_rail_low 7) pkgL) with pkg := { s.pkg with v12ok := false } }
        let u := t.forEach t.allPorts fun u p => if u.isSlot p then u.slotDisable p else u
        u.log 0 14 24 4 0 (u.word .PD_PKG_STATUS pkgL)).finish) ∧
  (∀ (s : State) (d : Fin 8),
      d < s.part.dies → s.pkg.islandUp →
      exec (.refclkLoss d) s = .next (s.enterReset [.refclk])) ∧
  (∀ (s : State) (srcs : List ResetSrc),
      s.pkg.islandUp →
      exec (.packageReset srcs) s = .next (s.enterReset srcs)) ∧
  (∀ (s : State) (pwrLow fuseBad : Bool),
      s.mayLeave pwrLow →
      exec (.packageResetExit pwrLow fuseBad) s = .next (s.leaveReset fuseBad)) ∧
  (∀ (s : State),
      exec .resetHoldExpiry s = .next ({ s with pkg := { s.pkg with wait := { s.pkg.wait with hold := false } } })) ∧
  (∀ (s : State),
      s.live → ¬(s.clocks) →
      exec .pllLock s = .next (({ s with clocks := true, ftime := [], ftAdj := [] }).bootStage 2)) ∧
  (∀ (s : State),
      s.live → ¬(s.clocks) →
      exec .pllLockTimeout s = .next (s.pllFailed)) ∧
  (∀ (s : State) (number : Fin 16) (mask : Fin 256),
      s.live → s.chainRuns →
      exec (.dieChainComplete number mask) s = .next (
        let s := s.wr F.CH_DIE_returned pkgL (number % 8)
        if number.val = s.part.dies then s.chainGood else s.chainFailed mask).finish) ∧
  (∀ (s : State) (mask : Fin 256),
      s.live → s.chainRuns →
      exec (.dieChainTimeout mask) s = .next (s.chainFailed mask)) ∧
  (∀ (s : State),
      s.live → s.pkg.lcReset →
      exec .transitionResetTimer s = .next (s.enterReset [.lifecycle])) ∧
  (∀ (s : State) (src : Src) (key : Fin 256),
      tenantOf src = none → s.writable src 0 →
      exec (.ckRstPackage src key) s = .next (s.rstCmd 0 key s.part.dies).finish) ∧
  (∀ (s : State),
      s.live → s.pkg.cmdReset →
      exec .ckRstDelayExpiry s = .next (s.enterReset [.command])) ∧
  (∀ (s : State) (src : Src) (key : Fin 256) (die : Fin 8),
      tenantOf src = none → s.writable src 0 →
      exec (.ckRstWarden src key die) s = .next (s.rstCmd 1 key die).finish) ∧
  (∀ (s : State),
      s.live →
      exec .v12BiasValid s = .next (
        let t := { (s.off (F.PD_PKG_STATUS_rail_low 7) pkgL) with pkg := { s.pkg with v12ok := true } }
        t.forEach t.allPorts fun u p => if u.isSlot p then u.slotEnable p else u).finish) ∧
  (∀ (s : State),
      s.pkg.islandUp →
      exec .islandPowerLoss s = .next (
        let t := s.islandStart false
        { t with pkg := { t.pkg with islandUp := false }, island := { chIn := false, chOut := false } }))

/-- Completion of the commands of the start of the Strongroom, Inventory loading and firmware: on a state that meets the named
conditions, each answers the state that its rules give. -/
def Obligations.BootAndLoadComplete : Prop :=
  (∀ (s : State) (pass : Bool),
      s.live → ¬(!s.flag F.CH_DIE_done pkgL ∨ s.rd F.SEC_STATUS_boot_stage pkgL ≠ 0) →
      exec (.strongroomSelftest pass) s = .next (
        if pass then (s.wr F.SEC_STATUS_boot_stage pkgL 1).storeStart
          else ((s.on F.SEC_STATUS_selftest_fail pkgL).wr F.SEC_STATUS_boot_stage pkgL 15).bootFail 3)) ∧
  (∀ (s : State),
      s.live →
      exec .storeRecordDurable s = .next (s.recordDone).finish) ∧
  (∀ (s : State) (sfdp : Option Sfdp) (copy0 copy1 : List (BitVec 8)),
      s.live → (s.loading ∧ !s.inv.dirRead) →
      exec (.invFlashDirectoryRead sfdp copy0 copy1) s = .next (
        let f := flashSet sfdp
        let d := match dirOf (natBytes copy0) f.bytes with
          | some d => some d
          | none => dirOf (natBytes copy1) f.bytes
        s.updInv fun i => { i with flash := some f, dir := d, dirRead := true, slot := s.curRec.bootSlot })) ∧
  (∀ (s : State) (got : Option Image),
      s.live → (s.loading ∧ s.inv.dirRead ∧ s.inv.got = none ∧ !s.inv.accepted) →
      exec (.invImageRead got) s = .next (s.updInv fun i => { i with got := some got })) ∧
  (∀ (s : State) g,
      s.live → s.inv.got = some g → (s.loading ∧ !s.inv.accepted) →
      exec .invChecks s = .next (s.loadChecked g)) ∧
  (∀ (s : State),
      s.live →
      exec .invSectionsApply s = .next (
        match s.inv.got with
          | some (some i) => if s.loading ∧ s.inv.accepted then s.applySections i else s
          | _ => s).finish) ∧
  (∀ (s : State) (d : Fin 8) (img0 img1 : Option Image),
      s.ready d → s.fwDue d →
      exec (.firmwareVerify d img0 img1) s = .next (
        let got (k : Nat) : Option Image := if k = 0 then img0 else img1
        match s.fwOrder.find? fun k => s.fwOk k (got k) with
        | some k => match got k with
          | some i => s.fwTake d k i
          | none => s
        | none => s.fwFailed d).finish)

/-- Completion of the commands of the fabric time, temperature and power domains: on a state that meets the named conditions, each
answers the state that its rules give. -/
def Obligations.FabricTimePowerComplete : Prop :=
  (∀ (s : State),
      s.live → s.clocks →
      exec .masterCountSend s = .next (s.forEach (upTo (s.part.dies - 1)) fun s k => s.sendCount (k + 1))) ∧
  (∀ (s : State) (d : Fin 8) (count : Nat) (path : CountPath) delay,
      s.ready d → ¬(d.val = 0 ∨ !s.clocks) → s.countDelay d path.site (path.relay.map Fin.val) = some delay →
      exec (.masterCountReceive d count path) s = .next (s.correct d count delay)) ∧
  (∀ (s : State) (d : Fin 8),
      s.ready d → ¬(d.val = 0) →
      exec (.alignmentTimeout d) s = .next
        ({ s.off (F.CK_FTIME_STATUS_aligned_mask d) pkgL with aligning := s.aligning.filter (· != d.val) })) ∧
  (∀ (s : State) (d : Fin 8) (temps : List Int),
      s.ready d → temps.length = 8 →
      exec (.thermalSample d temps) s = .next (s.thermal d temps)) ∧
  (∀ (s : State) (dies : List Nat) (pkg : Nat),
      s.live →
      exec (.powerMonitorUpdate dies pkg) s = .next (
        let s := s.forEach (upTo s.part.dies) fun s d => s.wr F.TM_DIE_POWER_power_mw (dieL d) (dies.getD d 0)
        s.wr F.PD_PKG_POWER_power_mw pkgL pkg)) ∧
  (∀ (s : State) (src : Src) (d : Fin 8) (v : Fin 4194304),
      tenantOf src = none → s.writable src d →
      exec (.domReqWrite src d v) s = .next (s.domReq d v).finish) ∧
  (∀ (s : State) (src : Src) (on : Bool),
      tenantOf src = none → s.writable src 0 →
      exec (.p1ReqWrite src on) s = .next (s.p1Ask on).finish) ∧
  (∀ (s : State) (d : Fin 8) (k : Fin 24),
      s.ready d →
      exec (.domainPowered d k) s = .next (
        if k.val < 22 then (if s.domState d k = 1 then s.domPowered d k else s)
        else if k.val = 23 ∧ d.val = 0 ∧ s.domAt 0 23 = 1 then s.p1Powered else s).finish) ∧
  (∀ (s : State) (d : Fin 8) (k : Fin 23),
      s.ready d → (s.lullEn d k ∧ s.domAt d k = 3 ∧ s.lullDue d k) →
      exec (.lullEntry d k) s = .next (s.setDom d k 2)) ∧
  (∀ (s : State) (d : Fin 8) (k : Fin 23),
      s.ready d →
      exec (.lullWake d k) s = .next (
        let s := { s with lastWork := Tbl.set s.lastWork (key2 d k) (s.now d) 0 }
        if s.domAt d k = 2 ∧ !s.waking.contains (d.val, k.val) then { s with waking := s.waking ++ [(d.val, k.val)] }
          else s)) ∧
  (∀ (s : State) (d : Fin 8) (k : Fin 23),
      s.ready d → (s.domAt d k = 2 ∧ s.waking.contains (d.val, k.val)) →
      exec (.lullExitDone d k) s = .next (({ s with waking := s.waking.filter (· != (d.val, k.val)) }).setDom d k 3))

/-- Completion of the commands of the lane training: on a state that meets the named conditions, each answers the state that its rules
give. -/
def Obligations.LanesTrainingComplete : Prop :=
  (∀ (s : State) (src : Src) (d : Fin 8) (q : Fin 16) (en : Bool),
      tenantOf src = none → s.writable src d →
      exec (.quadEnWrite src d q en) s = .next (s.gated .LQ_CTRL (unitL d q) fun s => s.setQuadEn d q en).finish) ∧
  (∀ (s : State) (d : Fin 8) (q : Fin 16) (l : Fin 4),
      s.ready d → s.awaits d q l →
      exec (.laneDetectPulse d q l) s = .next (s.off (F.LQ_STATUS_partner_detect l) (unitL d q))) ∧
  (∀ (s : State) (d : Fin 8) (q : Fin 16) (l : Fin 4),
      s.ready d → s.awaits d q l →
      exec (.partnerTerminationSensed d q l) s = .next
        ((s.on (F.LQ_STATUS_partner_detect l) (unitL d q)).toTrain d q l 0 none false)) ∧
  (∀ (s : State) (d : Fin 8) (q : Fin 16) (l : Fin 4) (inverted : Bool),
      s.ready d → (s.stageOf d q l = 2 ∧ s.quadRate d q < 2) →
      exec (.laneSymbolLock d q l inverted) s = .next
        (((s.on (F.LQ_STATUS_signal_detect l) (unitL d q)).wrB (F.LQ_STATUS_polarity_inverted l) (unitL d q)
        inverted).toStage d q l 3)) ∧
  (∀ (s : State) (d : Fin 8) (q : Fin 16) (l : Fin 4) (got : Option Meas),
      s.ready d → s.equalising d q l →
      exec (.eqEvaluationEnd d q l got) s = .next (
        let s := if got.isSome then s.on (F.LQ_STATUS_signal_detect l) (unitL d q) else s
        let b := got.map fun m => baroOf m (s.quadRate d q) (s.rd F.LQ_EQ_CTRL_dwell_us (unitL d q))
        let r := s.eqEval d q l b (s.reportedSerial (s.portOfQuad d q))
        if r.2 then r.1.eqEnded d q l else r.1).finish) ∧
  (∀ (s : State) (d : Fin 8) (q : Fin 16) (l : Fin 4),
      s.ready d → s.equalising d q l →
      exec (.eqBudgetExpired d q l) s = .next
        ((s.eqFinish d q l (s.reportedSerial (s.portOfQuad d q)) false true).eqEnded d q l).finish) ∧
  (∀ (s : State) (d : Fin 8) (q : Fin 16) (l : Fin 4),
      s.ready d →
      exec (.laneLockTimeout d q l) s = .next (
        let ev (s : State) : State := s.ev (F.LQ_EVENT_lock_lost l) (unitL d q) (portNo d q)
        if s.stageOf d q l = 2 then ((ev s).laneLost d q l).laneEnded d q l
        else if s.stageOf d q l = 3 then ((ev s).laneAgain d q l).trainAgain (s.portOfQuad d q) (d, q, l)
        else s).finish) ∧
  (∀ (s : State) (d : Fin 8) (q : Fin 16) (l : Fin 4),
      s.ready d → s.stageOf d q l = 3 →
      exec (.laneAlignmentFound d q l) s = .next (s.toStage d q l 4)) ∧
  (∀ (s : State) (d : Fin 8) (q : Fin 16) (l : Fin 4) (accepted : Bool),
      s.ready d → s.stageOf d q l = 4 →
      exec (.exchangeDone d q l accepted) s = .next (
        if !s.wanted (s.portOfQuad d q) (d, q, l) then s.toStage d q l 1
          else if accepted then (s.toStage d q l 5).judgeRate (s.portOfQuad d q)
          else if s.free % 2 = 0 then (s.useFree.laneAgain d q l).trainAgain (s.portOfQuad d q) (d, q, l)
          else (s.useFree.laneLost d q l).laneEnded d q l).finish) ∧
  (∀ (s : State) (d : Fin 8) (q : Fin 16) (l : Fin 4) (got : Meas),
      s.ready d → s.stageOf d q l = 5 →
      exec (.barometerRefresh d q l got) s = .next (s.refreshLane d q l (baroOf got (s.quadRate d q) 1000))) ∧
  (∀ (s : State) (d : Fin 8) (q : Fin 16) (l : Fin 4),
      s.ready d → s.stageOf d q l = 5 →
      exec (.lossOfSignal d q l) s = .next (
        ((s.off (F.LQ_STATUS_signal_detect l) (unitL d q)).ev (F.LQ_EVENT_lock_lost l) (unitL d q)
          (portNo d q)).recover
          (s.portOfQuad d q))) ∧
  (∀ (s : State) (d : Fin 8) (q : Fin 16) (l : Fin 4),
      s.ready d → s.stageOf d q l = 5 →
      exec (.farEndLoopbackRequest d q l) s = .next ((s.toStage d q l 6).on F.LQ_LOOP_far_end_active (unitL d q))) ∧
  (∀ (s : State) (d : Fin 8) (q : Fin 16) (l : Fin 4),
      s.ready d → (s.stageOf d q l = 6 ∧ !s.flag F.LQ_LOOP_loop_go (unitL d q)) →
      exec (.farEndLoopbackExit d q l) s = .next (
        let s := s.toStage d q l 1
        if (upTo 4).any fun k => s.stageOf d q k == 6 then s else s.off F.LQ_LOOP_far_end_active (unitL d q)))

/-- Completion of the commands of the lane loopback, margining and thresholds: on a state that meets the named conditions, each
answers the state that its rules give. -/
def Obligations.LanesServiceComplete : Prop :=
  (∀ (s : State) (src : Src) (d : Fin 8) (q : Fin 16) (go : Bool),
      tenantOf src = none → s.writable src d →
      exec (.loopGoWrite src d q go) s = .next (s.gated .LQ_LOOP (unitL d q) fun s => s.setLoopGo d q go).finish) ∧
  (∀ (s : State) (d : Fin 8) (q : Fin 16) (l : Fin 4) (ask : TxAsk),
      s.ready d → (s.stageOf d q l = 2 ∧ 2 ≤ s.quadRate d q) →
      exec (.coefficientRequest d q l ask) s = .next (s.coefRequest d q l ask)) ∧
  (∀ (s : State) (src : Src) (d : Fin 8) (q : Fin 16),
      tenantOf src = none → s.writable src d →
      exec (.checkEnRise src d q) s = .next (s.gated .LQ_PATTERN (unitL d q) fun s => s.setCheckEn d q true).finish) ∧
  (∀ (s : State) (src : Src) (d : Fin 8) (q : Fin 16) (ask : MarginAsk),
      tenantOf src = none → s.writable src d →
      exec (.laneMarginStart src d q ask) s = .next
        (s.gated .LQ_MARGIN_CTRL (unitL d q) fun s => s.marginStart d q ask).finish) ∧
  (∀ (s : State) (d : Fin 8) (q : Fin 16) (ask : MarginAsk),
      s.ready d → s.marginable d q ask.lane →
      exec (.protocolMarginRequest d q ask) s = .next ((s.marginYield d q ask.lane).marginBegin d q ask true)) ∧
  (∀ (s : State) (d : Fin 8) (q : Fin 16) (l : Fin 4) (errors : Nat),
      s.ready d →
      exec (.marginStepDone d q l errors) s = .next (s.marginStep d q l errors)) ∧
  (∀ (s : State) (src : Src) (d : Fin 8) (q : Fin 16) (l : Fin 4),
      tenantOf src = none → s.writable src d →
      exec (.baroMinClear src d q l) s = .next (s.gated .LQ_BARO_n (unitL d q) fun s => s.clearBaroMin d q l).finish) ∧
  (∀ (s : State) (src : Src) (d : Fin 8) (q : Fin 16) (pam4 : Bool) (accept target degrade fail : Fin 256),
      tenantOf src = none → s.writable src d →
      exec (.baroThrWrite src d q pam4 accept target degrade fail) s = .next
        (s.gated .LQ_BARO_THR_NRZ (unitL d q) fun s => s.setBaroThr d q pam4 accept target degrade fail).finish)

/-- Completion of the commands of the ports and Cellars: on a state that meets the named conditions, each answers the state that its
rules give. -/
def Obligations.PortsComplete : Prop :=
  (∀ (s : State) (d : Fin 8) (q : Fin 16),
      s.ready d →
      exec (.portTrainingStart d q) s = .next (s.trainingStart (portNo d q))) ∧
  (∀ (s : State) (d : Fin 8) (q : Fin 16) (offer : Offer),
      s.ready d →
      exec (.protocolNegotiationEnd d q offer) s = .next (s.negotiate (portNo d q) offer).finish) ∧
  (∀ (s : State) (d : Fin 8) (q : Fin 16),
      s.ready d → s.pstate (portNo d q) = 2 →
      exec (.negFailRetry d q) s = .next (s.updPort (portNo d q) fun x => { x with negFailed := false })) ∧
  (∀ (s : State) (d : Fin 8) (up : LinkUp),
      s.ready d →
      exec (.dlActive d up) s = .next (
        let p := portNo d up.q
        let s := if up.expired ∧ s.holding p ∧ (s.port p).timer.isSome then s.flush p else s
        if s.pstate p = 2 ∧ (s.port p).settled ∧ s.lanesActive p then s.dlActive p else s).finish) ∧
  (∀ (s : State) (d : Fin 8) (q : Fin 16) (walk : List (Option (BitVec 64))) (caps : List Nat),
      s.ready d → s.pstate (portNo d q) = 3 →
      exec (.identityReadDone d q walk caps) s = .next
        ((s.putCaps (portNo d q) caps).identityKnown (portNo d q) true (walkSerial walk)).finish) ∧
  (∀ (s : State) (d : Fin 8) (q : Fin 16),
      s.ready d → s.pstate (portNo d q) = 3 →
      exec (.identityReadTimeout d q) s = .next (s.identityKnown (portNo d q) false none).finish) ∧
  (∀ (s : State) (d : Fin 8) (q : Fin 16) (cause : DownCause) (unacked : List Msg),
      s.ready d → (2 ≤ s.pstate (portNo d q) ∧ s.pstate (portNo d q) ≤ 4) →
      exec (.linkDown d q cause unacked) s = .next
        (s.linkDown (portNo d q) (DownCause.code cause) (unackedEntries (portNo d q) unacked)).finish) ∧
  (∀ (s : State) (d : Fin 8) (q : Fin 16),
      s.ready d → (s.holding (portNo d q) ∧ (s.port (portNo d q)).timer.isSome) →
      exec (.cellarHoldExpiry d q) s = .next (s.flush (portNo d q)).finish) ∧
  (∀ (s : State) (src : Src) (d : Fin 8) (q : Fin 16),
      tenantOf src = none → s.writable src d → s.holding (portNo d q) →
      exec (.flushNow src d q) s = .next (s.flush (portNo d q)).finish) ∧
  (∀ (s : State) (src : Src) (d : Fin 8) (q : Fin 16) (unacked : List Msg),
      tenantOf src = none → s.writable src d →
      exec (.ptRetrain src d q unacked) s = .next (
        s.gated .PT_CTRL (unitL d q) fun s =>
          if s.role (portNo d q) = 3 then s else s.retrainPort (portNo d q)
            (unackedEntries (portNo d q) unacked)).finish) ∧
  (∀ (s : State) (src : Src) (d : Fin 8) (q : Fin 16) (en : Bool),
      tenantOf src = none → s.writable src d →
      exec (.portEnWrite src d q en) s = .next
        (s.gated .PT_CTRL (unitL d q) fun s => s.setPortEn (portNo d q) en).finish) ∧
  (∀ (s : State) (d : Fin 8) (q : Fin 16) (width : Fin 17),
      s.ready d →
      exec (.l0pWidthChange d q width) s = .next (
        let l := portL (portNo d q)
        let w := s.rd F.PT_NEG_LINK_width l
        let step : Bool := width.val * 2 == w || width.val == w * 2
        if s.pstate (portNo d q) = 4 ∧ 2 ≤ s.rd F.PT_NEG_LINK_flit l ∧ step ∧ 1 ≤ width.val ∧
          width.val ≤ (s.port (portNo d q)).trained then
          let low : Bool := decide (width.val < (s.portLanes (portNo d q)).length)
          let s := (s.wr F.PT_NEG_LINK_width l width).wrB F.PT_NEG_LINK_degraded_width l low
          if low then s.ev F.PT_EVENT_width_degraded l (portNo d q) else s
        else s)) ∧
  (∀ (s : State) (d : Fin 8) (q : Fin 16) (hotReset : Bool),
      s.ready d → s.role (portNo d q) = 0 →
      exec (.hostPerstAssert d q hotReset) s = .next (s.hostPerst (portNo d q) hotReset).finish)

/-- Completion of the commands of the flits, credits and lane maps of Casub sites: on a state that meets the named conditions, each
answers the state that its rules give. -/
def Obligations.CasubFlitsComplete : Prop :=
  (∀ (s : State) (d : Fin 8) (t : Fin 7),
      s.ready d → s.siteActive d t = true → ¬((s.site d t).handing) →
      exec (.flitSend d t) s = .next (s.sendFlit d t).finish) ∧
  (∀ (s : State) (d : Fin 8) (t : Fin 7) (f : Flit) (e0 e1 : Nat),
      s.ready d → s.siteActive d t = true → ¬((s.site d t).stopped) →
      exec (.flitReceive d t f e0 e1) s = .next (s.takeFlit d t f e0 e1).finish) ∧
  (∀ (s : State) (d : Fin 8) (t : Fin 7) (req : ReplayReq),
      s.ready d → s.siteActive d t = true →
      exec (.replayReqReceive d t req) s = .next (
        ((s.takeAck d t req.ack).takeCredit d t
          { type := .replayReq, ack := req.ack, crKind := req.kind, crClass := req.cls,
            crCount := req.count }).replayFrom d t req.ack)) ∧
  (∀ (s : State) (d : Fin 8) (t : Fin 7),
      s.ready d → s.siteActive d t = true →
      exec (.replayTimeout d t) s = .next (s.updSite d t fun x => { x with resend := x.replay.head?.map Flit.seq })) ∧
  (∀ (s : State) (d : Fin 8) (t : Fin 7),
      s.ready d → s.siteActive d t = true → ¬((s.site d t).unsentAck = 0) →
      exec (.ackTimer d t) s = .next (s.updSite d t fun x => { x with ackDue := true })) ∧
  (∀ (s : State) (d : Fin 8) (t : Fin 7) (c : Fin 12),
      s.ready d → s.siteActive d t = true →
      exec (.droughtSuspicion d t c) s = .next (
        let x := s.site d t
        let asked : Bool := x.audit.isSome || x.cmds.any fun k => match k with
          | .audit _ => true
          | _ => false
        if s.parched d t c && !asked then s.updSite d t fun x => { x with cmds := x.cmds ++ [.audit c] } else s)) ∧
  (∀ (s : State) (d : Fin 8) (t : Fin 7) (c : Fin 12),
      s.ready d → s.siteActive d t = true →
      exec (.auditCommandReceive d t c) s = .next (s.auditCmd d t c)) ∧
  (∀ (s : State) (d : Fin 8) (t : Fin 7) (c : Fin 12) (freeH retH freeD retD : Fin 65536),
      s.ready d → s.siteActive d t = true →
      exec (.auditReplyReceive d t c freeH retH freeD retD) s = .next (s.auditRep d t c freeH retH freeD retD)) ∧
  (∀ (s : State) (d : Fin 8) (t : Fin 7) (got : List (Option Meas)),
      s.ready d → (1 ≤ s.siteState d t ∧ s.siteState d t ≤ 5) →
      exec (.casubBaroRefresh d t got) s = .next
        ((((s.measured d t got 100).showSpares d t).reeval d t .refresh)).finish) ∧
  (∀ (s : State) (d : Fin 8) (t : Fin 7) (map : LaneMap),
      s.ready d → s.siteActive d t = true →
      exec (.mapChangeCmdReceive d t map) s = .next (s.newTxMap d t map)) ∧
  (∀ (s : State) (d : Fin 8) (t : Fin 7) (words : List (BitVec 64)),
      s.ready d → s.siteActive d t = true →
      exec (.markerReceive d t words) s = .next (s.markerCame d t words).finish) ∧
  (∀ (s : State) (d : Fin 8) (t : Fin 7) m,
      s.ready d → s.siteActive d t = true → (s.site d t).txMap = some m → 4096 ≤ (s.site d t).flits →
      exec (.periodicMarker d t) s = .next (
        let s := s.updSite (s.part.peerDie d t) t fun x => { x with markers := x.markers ++ [false] }
        (s.updSite d t fun x => { x with flits := 0 }).emit (.marker d t (markerLanes m m))))

/-- Completion of the commands of the states of Casub sites: on a state that meets the named conditions, each answers the state that
its rules give. -/
def Obligations.CasubSitesComplete : Prop :=
  (∀ (s : State) (src : Src) (d : Fin 8) (t : Fin 7) (en : Bool),
      tenantOf src = none → s.writable src d →
      exec (.siteEnWrite src d t en) s = .next (s.gated .CL_CTRL (unitL d t) fun s => s.setSiteEn d t en).finish) ∧
  (∀ (s : State) (d : Fin 8) (t : Fin 7) (got : List (Option Meas)),
      s.ready d → s.siteState d t = 1 →
      exec (.siteCalibrateDone d t got) s = .next (
        let s := s.measured d t got 20
        match s.bestMap d t true with
        | some m => (s.useMap d t m true).toSite d t 2
        | none => s.calibFailed d t).finish) ∧
  (∀ (s : State) (d : Fin 8) (t : Fin 7),
      s.ready d → s.siteState d t = 1 →
      exec (.siteCalibrateTimeout d t) s = .next (s.calibFailed d t).finish) ∧
  (∀ (s : State) (d : Fin 8) (t : Fin 7) (delay : Fin 65536),
      s.ready d → s.siteState d t = 2 →
      exec (.siteAlignFound d t delay) s = .next
        (((s.on F.CL_PATH_DELAY_valid (unitL d t)).wr F.CL_PATH_DELAY_delay (unitL d t) delay).enterInit d t)) ∧
  (∀ (s : State) (d : Fin 8) (t : Fin 7),
      s.ready d → s.siteState d t = 2 →
      exec (.siteAlignTimeout d t) s = .next (s.siteCalibrate d t)) ∧
  (∀ (s : State) (d : Fin 8) (t : Fin 7) (peerDie : Fin 8) (peerSite : PeerSite) (adv : List Nat) (rxExp : Fin 1024),
      s.ready d → s.siteState d t = 3 →
      exec (.siteInitExchange d t peerDie peerSite adv rxExp) s = .next (
        if peerDie.val = s.part.peerDie d t ∧ peerSite.site.val = t.val then
            (if (s.site peerDie t).advd = some (adv, rxExp.val) then
              (s.updSite d t fun x => { x with stopped := false }).initSite d t adv rxExp
            else s)
          else
            let s := (s.evC F.CL_EVENT_wiring_err (unitL d t) t 2).siteDown d t 6 3
            match peerSite.source with
            | some q => s.push (.fence (s.ownerPort (portNo d q)) 5)
            | none => s).finish) ∧
  (∀ (s : State) (d : Fin 8) (t : Fin 7),
      s.ready d → s.siteState d t = 3 →
      exec (.siteInitTimeout d t) s = .next (s.siteCalibrate d t)) ∧
  (∀ (s : State) (src : Src) (d : Fin 8) (t : Fin 7),
      tenantOf src = none → s.writable src d →
      exec (.clRetrain src d t) s = .next (s.gated .CL_CTRL (unitL d t) fun s => s.siteRetrain d t 0).finish) ∧
  (∀ (s : State) (src : Src) (d : Fin 8) (t : Fin 7),
      tenantOf src = none → s.writable src d →
      exec (.clRetire src d t) s = .next (s.gated .CL_CTRL (unitL d t) fun s => s.retireSite d t).finish) ∧
  (∀ (s : State) (src : Src) (d : Fin 8) (t : Fin 7),
      tenantOf src = none → s.writable src d →
      exec (.clRevive src d t) s = .next (s.gated .CL_CTRL (unitL d t) fun s => s.reviveSite d t).finish) ∧
  (∀ (s : State) (d : Fin 8) (t : Fin 7),
      s.ready d →
      exec (.holdUsExpiry d t) s = .next (s.holdExpired d t).finish) ∧
  (∀ (s : State) (d : Fin 8) (t : Fin 7),
      s.ready d →
      exec (.handoverQueryReceive d t) s = .next (
        (s.updSite d t fun x => { x with stopped := true, oldExp := none }).emit
          (.handReply (s.part.peerDie d t) t ((s.site d t).oldExp.getD (s.rd F.CL_SEQ_rx_expected (unitL d t)))))) ∧
  (∀ (s : State) (d : Fin 8) (t : Fin 7) (rxExp : Fin 1024),
      s.ready d → (s.site d t).handing →
      exec (.handoverReplyReceive d t rxExp) s = .next (s.finishHandOver d t rxExp).finish) ∧
  (∀ (s : State) (d : Fin 8) (t : Fin 7),
      s.ready d → s.siteActive d t = true →
      exec (.relayReturn d t) s = .next (s.returnStreams d t)) ∧
  (∀ (s : State) (d : Fin 8) (t : Fin 7) (n : Fin 34),
      s.ready d → (1 ≤ s.siteState d t ∧ s.siteState d t ≤ 5) →
      exec (.casubLaneSignalLoss d t n) s = .next ((((s.setCbaro d t n 0).showSpares d t).reeval d t .signal)).finish)

/-- Completion of the commands of the crossbar: on a state that meets the named conditions, each answers the state that its rules
give. -/
def Obligations.SwitchComplete : Prop :=
  (∀ (s : State) (d : Fin 8) (input : Fin 32) (m : Msg) (own : Option (Fin 128)),
      s.ready d →
      exec (.messageArrival d input m own) s = .next (
        let p := s.ownerPort (portNo d input)
        let m := if input.val < 16 ∧ s.role p = 0 ∧ m.kind = .biConflict then { m with tc := s.conflictTc p m } else m
        let i := if input.val < 16 then s.inputOf d input m else input.val
        let ready : Bool :=
          if i < 16 then s.portUp (s.ownerPort (portNo d i)) && !malformed m
          else if i < 30 then s.siteActive d ((i - 16) / 2) else !malformed m
        let t := (i - 16) / 2
        if !ready then s
        else if 16 ≤ i ∧ i < 30 ∧ !malformed m ∧ !s.fits d t [m] then s.overflow d t
        else s.arrive d i m (own.map Fin.val)).finish) ∧
  (∀ (s : State) (d : Fin 8) (full : List NoRoom) (errs : List CellRead),
      s.ready d →
      exec (.crossbarMatch d full errs) s = .next (s.cellTime d full errs).finish) ∧
  (∀ (s : State) (src : Src) (d : Fin 8) (index : Fin 4096),
      tenantOf src = none → s.writable src d →
      exec (.xbGrpRead src d index) s = .next (s.grpOp d 0 index).finish) ∧
  (∀ (s : State) (src : Src) (d : Fin 8) (index : Fin 4096),
      tenantOf src = none → s.writable src d →
      exec (.xbGrpWrite src d index) s = .next (s.grpOp d 1 index).finish) ∧
  (∀ (s : State) (src : Src) (d : Fin 8) (index : Fin 4096),
      tenantOf src = none → s.writable src d →
      exec (.xbGrpClear src d index) s = .next (s.grpOp d 2 index).finish) ∧
  (∀ (s : State) (src : Src) (d : Fin 8),
      tenantOf src = none → s.writable src d →
      exec (.xbCommit src d) s = .next (s.xbCommit d).finish) ∧
  (∀ (s : State) (src : Src) (d : Fin 8),
      tenantOf src = none → s.writable src d →
      exec (.xbLarderMinClear src d) s = .next (s.larderMinClear d).finish)

/-- Completion of the commands of the host configuration and binding tables: on a state that meets the named conditions, each answers
the state that its rules give. -/
def Obligations.HostConfigTablesComplete : Prop :=
  (∀ (s : State) (v : Fin 128) (n : Fin 256) (k : Fin 32) (acc : HdmAcc),
      s.ready (portDie v) →
      exec (.hdmConfigAccess v n k acc) s = .next (s.hdmAccess v n k acc)) ∧
  (∀ (s : State) (v : Fin 128) (goal : CfgTo) (acc : CfgAcc),
      s.ready (portDie v) →
      exec (.hostConfigRequest v goal acc) s = .next (s.hostConfig v goal acc).finish) ∧
  (∀ (s : State) (v : Fin 128) (n : Fin 32) (base size : Fin 16777216) (ways gran : Fin 16) (targets : List (Fin 256)),
      s.ready (portDie v) →
      exec (.hostDecoderCommit v n base size ways gran targets) s = .next
        (s.decoderCommit v n { base := base, size := size, ways := ways, gran := gran,
                               targets := targets.map Fin.val })) ∧
  (∀ (s : State) (v : Fin 128) (n : Fin 32),
      s.ready (portDie v) →
      exec (.hostDecoderCommitClear v n) s = .next (s.decoderClear v n)) ∧
  (∀ (s : State) (src : Src) (d : Fin 8) (table : Fin 4) (index : Fin 4096),
      tenantOf src = none → s.writable src d →
      exec (.bdTblRead src d table index) s = .next (s.bdOp d 0 table index).finish) ∧
  (∀ (s : State) (src : Src) (d : Fin 8) (table : Fin 4) (index : Fin 4096),
      tenantOf src = none → s.writable src d →
      exec (.bdTblWrite src d table index) s = .next (s.bdOp d 1 table index).finish) ∧
  (∀ (s : State) (src : Src) (d : Fin 8) (table : Fin 4) (index : Fin 4096),
      tenantOf src = none → s.writable src d →
      exec (.bdTblClear src d table index) s = .next (s.bdOp d 2 table index).finish) ∧
  (∀ (s : State) (src : Src) (d : Fin 8) (table : Fin 4) (index : Fin 4096),
      tenantOf src = none → s.writable src d →
      exec (.bdSetMirror src d table index) s = .next (s.bdOp d 3 table index).finish)

/-- Completion of the commands of the Fabric Manager information commands: on a state that meets the named conditions, each answers
the state that its rules give. -/
def Obligations.FmInformationComplete : Prop :=
  (∀ (s : State) (c : Fin 5) (cmd : Cmd),
      s.started c [0x5100] cmd →
      exec (.identifySwitchDevice c) s = .next (
        let vs := s.allPorts.filter fun v => (s.vcs v).valid
        s.respond 0 c .success
          (.switchDevice s.allPorts.length vs.length ((vs.map fun v => (s.vcs v).count).sum))).finish) ∧
  (∀ (s : State) (c : Fin 5) (ports : List (Fin 256)) (cmd : Cmd),
      s.started c [0x5101] cmd →
      exec (.getPhysicalPortState c ports) s = .next (
        if ports.all fun p => decide (p.val < s.part.dies * 16) then
          s.respond 0 c .success (.portStates (ports.map fun p => s.portInfo p))
        else s.respond 0 c .invalidInput .none).finish) ∧
  (∀ (s : State) (c : Fin 5) (port act : Fin 256) (cmd : Cmd),
      s.started c [0x5102] cmd →
      exec (.physicalPortControl c port act) s = .next (
        let p := port.val
        let bad (s : State) : State := s.respond 0 c .invalidInput .none
        if s.part.dies * 16 ≤ p ∨ !s.isSlot p then bad s
        else match act.val with
          | 0 => (s.perstHold p true).respond 0 c .success .none
          | 1 => (s.perstHold p false).respond 0 c .success .none
          | 2 =>
            if s.slotState p ≠ 5 then bad s
            else (s.perstHold p true).updSlot p fun x => { x with resetFor := some c }
          | _ => bad s).finish) ∧
  (∀ (s : State) (c : Fin 5) (port : Fin 256) (reg : Fin 1024) (put : Option (BitVec 32)) (got : DevAnswer) (cmd : Cmd),
      s.started c [0x5103] cmd →
      exec (.sendPpbConfigRequest c port reg put got) s = .next (
        let unbound := !(s.allSlots.any fun di => (s.vppb di.1 di.2).state != 0 && (s.vppb di.1 di.2).port ==
          port.val)
        s.askDevice c port unbound (.devConfig port none reg (put.map BitVec.toNat)) got).finish) ∧
  (∀ (s : State) (c : Fin 5) (vcss : List (Fin 256)) (start count : Fin 256) (cmd : Cmd),
      s.started c [0x5200] cmd →
      exec (.getVirtualCxlSwitchInfo c vcss start count) s = .next (
        if vcss.all fun v => (s.vcs v).valid then
          s.respond 0 c .success
            (.vcsInfos (vcss.map fun v => ⟨v, (s.vcs v).usp, s.vcsState v, s.vppbInfos v start count⟩))
        else s.respond 0 c .invalidInput .none).finish) ∧
  (∀ (s : State) (c : Fin 5) (vcs : Fin 256) (cmd : Cmd),
      s.started c [0xC011] cmd →
      exec (.getBindingTable c vcs) s = .next (
        if (s.vcs vcs).valid then s.respond 0 c .success (.vppbs (s.vppbInfos vcs 0 256))
        else s.respond 0 c .invalidInput .none).finish) ∧
  (∀ (s : State) (c : Fin 5) cmd,
      s.live → (s.chan 0 c).running = some cmd → ¬(knownOps.contains cmd.opcode ∧ cmd.typeOk) →
      exec (.unsupportedOpcode c) s = .next (s.respond 0 c .unsupported .none).finish) ∧
  (∀ (s : State) (c : Fin 5) (cmd : Cmd),
      s.started c [0x0001] cmd →
      exec (.identify c) s = .next
        (s.respond 0 c .success
        (.identity (s.word .LC_PART_ID pkgL)
        (s.rd64 F.LC_DEVICE_ID_LO_device_id F.LC_DEVICE_ID_HI_device_id pkgL))).finish) ∧
  (∀ (s : State) (c : Fin 5) (cmd : Cmd),
      s.started c [0x0002] cmd →
      exec (.backgroundOperationStatus c) s = .next (
        let x := s.chan 0 c
        match x.bg with
        | some b => s.respond 0 c .success (.background true b.opcode none)
        | none => s.respond 0 c .success
          (.background false (x.bgLast.map Prod.fst |>.getD 0) (x.bgLast.map Prod.snd))).finish) ∧
  (∀ (s : State) (c : Fin 5) (cmd : Cmd),
      s.started c [0x0003] cmd →
      exec (.getResponseMessageLimit c) s = .next
        (s.respond 0 c .success (.word ((s.chan 0 c).limit.getD (limitMax c)))).finish) ∧
  (∀ (s : State) (c : Fin 5) (n : Fin 256) (cmd : Cmd),
      s.started c [0x0004] cmd →
      exec (.setResponseMessageLimit c n) s = .next (
        let k := min n.val (limitMax c)
        (s.updChan 0 c fun x => { x with limit := some k }).respond 0 c .success (.word k)).finish) ∧
  (∀ (s : State) (c : Fin 5) (versions : List (Option Nat)) (cmd : Cmd),
      s.started c [0x0200] cmd →
      exec (.getFwInfo c versions) s = .next (
        let fw := (Tbl.get s.inv.fwSlot 0).map (· + 1)
        let inv := if s.inv.force.isSome then some (s.rd F.INV_STATUS_loaded_slot pkgL + 3) else none
        s.respond 0 c .success (.fwInfo (versions.take 4) fw inv)).finish)

/-- Completion of the commands of the Fabric Manager binding and tunnelling commands: on a state that meets the named conditions, each
answers the state that its rules give. -/
def Obligations.FmBindingComplete : Prop :=
  (∀ (s : State) (c : Fin 5) (vcs n port : Fin 256) (ld : Fin 65536) (cmd : Cmd),
      s.started c [0x5201] cmd →
      exec (.bindVppb c vcs n port ld) s = .next (s.bind c vcs n port ld).finish) ∧
  (∀ (s : State) (d : Fin 8) (slot : Fin 1024),
      s.ready d →
      exec (.vppbBindingDone d slot) s = .next (s.bindingDone d slot)) ∧
  (∀ (s : State) (c : Fin 5) (vcs n option : Fin 256) (cmd : Cmd),
      s.started c [0x5202] cmd →
      exec (.unbindVppb c vcs n option) s = .next (s.unbind c vcs n option).finish) ∧
  (∀ (s : State) (d : Fin 8) (slot : Fin 1024),
      s.ready d →
      exec (.unbindDrainDone d slot) s = .next (s.drained d slot).finish) ∧
  (∀ (s : State) (d : Fin 8) (slot : Fin 1024),
      s.ready d →
      exec (.unbindTmoExpiry d slot) s = .next (s.unbindExpiry d slot).finish) ∧
  (∀ (s : State) (c : Fin 5) (vcs n : Fin 256) (bytes : List (BitVec 8)) (cmd : Cmd),
      s.started c [0x5203] cmd →
      exec (.generateAerEvent c vcs n bytes) s = .next (
        if (s.vcs vcs).valid ∧ n.val < (s.vcs vcs).count then
          (s.emit (.aerGen (portDie vcs) (s.slotOf vcs n) (bytes.map BitVec.toNat))).respond 0 c .success .none
        else s.respond 0 c .invalidInput .none).finish) ∧
  (∀ (s : State) (c : Fin 5) (port : Fin 256) (ld : Option (Fin 16)) (opcode : Fin 65536) (bytes : List (BitVec 8))
  (got : DevAnswer) (cmd : Cmd),
      s.started c [0x5300] cmd →
      exec (.tunnelManagementCommand c port ld opcode bytes got) s = .next (
        s.askDevice c port (ld.isNone || s.flag F.PT_NEG_PROTO_mld (portL port))
          (.tunnel port (ld.map Fin.val) opcode (bytes.map BitVec.toNat)) got).finish) ∧
  (∀ (s : State) (c : Fin 5) (port : Fin 256) (ld : Fin 65536) (reg : Fin 1024) (put : Option (BitVec 32))
  (got : DevAnswer) (cmd : Cmd),
      s.started c [0x5301] cmd →
      exec (.sendLdConfigRequest c port ld reg put got) s = .next
        (s.askDevice c port (s.ldOk port ld) (.devConfig port (some ld) reg (put.map BitVec.toNat)) got).finish) ∧
  (∀ (s : State) (c : Fin 5) (port : Fin 256) (ld : Fin 65536) (addr : BitVec 64) (len : Fin 4096)
  (put : Option (List (BitVec 8))) (got : DevAnswer) (cmd : Cmd),
      s.started c [0x5302] cmd →
      exec (.sendLdMemoryRequest c port ld addr len put got) s = .next (
        s.askDevice c port (s.ldOk port ld)
          (.devMemory port ld addr.toNat len (put.map fun b => b.map BitVec.toNat)) got).finish) ∧
  (∀ (s : State) (c : Fin 5) (port : Fin 256) (bytes : List (BitVec 8)) (got : DevAnswer) (cmd : Cmd),
      s.started c [0x5400, 0x5401, 0x5402, 0x5403, 0x5404, 0x5405, 0x5406] cmd →
      exec (.mldComponentCommand c port bytes got) s = .next (
        s.askDevice c port (s.flag F.PT_NEG_PROTO_mld (portL port))
          (.tunnel port none cmd.opcode (bytes.map BitVec.toNat)) got).finish) ∧
  (∀ (s : State) (c : Fin 5) (port : Fin 256) (ld : Option (Fin 16)) (bytes : List (BitVec 8)) (got : DevAnswer)
  (cmd : Cmd),
      s.started c [0x5600, 0x5601, 0x5602, 0x5603, 0x5604, 0x5605] cmd →
      exec (.dcdManagementCommand c port ld bytes got) s = .next (
        s.askDevice c port (ld.isNone || s.flag F.PT_NEG_PROTO_mld (portL port))
          (.tunnel port (ld.map Fin.val) cmd.opcode (bytes.map BitVec.toNat)) got).finish) ∧
  (∀ (s : State) (c : Fin 5) (port : Fin 256) (ld : Fin 65536) (share : Bool) (cmd : Cmd),
      s.started c [0xC010] cmd →
      exec (.setLdShare c port ld share) s = .next (s.setShare c port ld share).finish)

/-- Completion of the commands of the firmware and Inventory commands: on a state that meets the named conditions, each answers the
state that its rules give. -/
def Obligations.FirmwareInventoryComplete : Prop :=
  (∀ (s : State) (c : Fin 5) (slot : Fin 256) (bytes : List (BitVec 8)) (cmd : Cmd),
      s.started c [0x0201] cmd →
      exec (.transferFw c slot bytes) s = .next (
        let bad (s : State) (rc : Rc) : State := s.respond 0 c rc .none
        match fwSlotIdx slot with
        | none => bad s .invalidInput
        | some k => match s.slotRoom k with
          | none => bad s .invalidInput
          | some room =>
            if s.slotInUse k ∨ room < bytes.length then bad s .invalidInput
            else if s.flag F.INV_CMD_busy pkgL then bad s .busy
            else if s.rd F.PD_PKG_STATUS_p1_state pkgL ≠ 3 then bad s .internal
            else (s.emit (.flashSlot k bytes)).respond 0 c .success .none).finish) ∧
  (∀ (s : State) (c : Fin 5) (slot : Fin 256) (cmd : Cmd),
      s.started c [0x0202] cmd →
      exec (.activateFw c slot) s = .next (
        if slot.val ≠ 1 ∧ slot.val ≠ 2 then s.respond 0 c .invalidInput .none
        else if s.rd F.PD_PKG_STATUS_p1_state pkgL ≠ 3 then s.respond 0 c .internal .none
        else match s.inv.dir with
          | none => s.respond 0 c .internal .none
          | some d =>
            let s := s.updInv fun i => { i with dir := some { d with fwBoot := slot.val - 1 } }
            ((s.emit (.flashDir 1 (slot.val - 1))).emit (.flashDir 0 (slot.val - 1))).respond 0 c .success
              .none).finish) ∧
  (∀ (s : State) (c : Fin 5) (op : Fin 4) (slot : Fin 2) (cmd : Cmd),
      s.started c [0xC020] cmd →
      exec (.inventoryControl c op slot) s = .next (
        if op.val = 3 then s.respond 0 c .invalidInput .none
        else if s.flag F.INV_CMD_busy pkgL then ((s.invGo op slot none).respond 0 c (.device s.free) .none).useFree
        else (s.invGo op slot (some c)).holdCmd c).finish) ∧
  (∀ (s : State) (got : Option Image),
      s.live →
      exec (.invVerify got) s = .next (s.invRun 0 got fun s _ i => ((0, 0xFF, 0, 0), s.showChanges i)).finish) ∧
  (∀ (s : State) (got : Option Image),
      s.live →
      exec (.invApply got) s = .next (s.invRun 1 got fun s o i => (s.showChanges i).applyImage o.slot i).finish) ∧
  (∀ (s : State) (got : Option Image),
      s.live →
      exec (.invArm got) s = .next (
        s.invRun 2 got fun s o _ =>
          ((0, 0xFF, 0, 0), (s.putRec (.bootSlot o.slot 0)).on F.INV_STATUS_pending_restart pkgL)).finish)

/-- Completion of the commands of the coherency agent: on a state that meets the named conditions, each answers the state that its
rules give. -/
def Obligations.AgentComplete : Prop :=
  (∀ (s : State) (d : Fin 8) (bad : Option (Fin 16 × Bool)),
      s.ready d →
      exec (.agentMessage d bad) s = .next (s.agentNext d (bad.map fun x => (x.1.val, x.2))).finish) ∧
  (∀ (s : State) (d trkDie : Fin 8) (trk : Fin 16384),
      s.ready d →
      exec (.deviceResponsePass d trkDie trk) s = .next (s.passOne trkDie trk).finish) ∧
  (∀ (s : State) (d : Fin 8),
      s.ready d →
      exec (.snoopIssue d) s = .next (s.issueSnoop d).finish) ∧
  (∀ (s : State) (d : Fin 8) (tag : Fin 4096) (v : Fin 128) (kind : MKind),
      s.ready d → isBirsp kind →
      exec (.birspReceive d tag v kind) s = .next (s.birsp d tag v kind).finish) ∧
  (∀ (s : State) (d : Fin 8),
      s.ready d →
      exec (.birspHoldRelease d) s = .next (s.releaseBirsp d).finish) ∧
  (∀ (s : State) (d : Fin 8) (v : Fin 128) (quad ld : Fin 16) (line : Fin 70368744177664) (tag : Fin 65536),
      s.ready d →
      exec (.biconflict d v quad ld line tag) s = .next
        (s.biConflict { tc := 5, kind := .biConflict, src := v, dst := portNo d quad, ld := ld, addr := line,
                        ptag := tag }).finish) ∧
  (∀ (s : State) (d : Fin 8) (tag : Fin 4096),
      s.ready d →
      exec (.snoopTimeout d tag) s = .next (s.snoopTimeout d tag).finish) ∧
  (∀ (s : State) (src : Src) (d : Fin 8) (table : Fin 4) (index : Fin 1048576),
      tenantOf src = none → s.writable src d →
      exec (.caTblRead src d table index) s = .next (s.caOp d 0 table index).finish) ∧
  (∀ (s : State) (src : Src) (d : Fin 8) (table : Fin 4) (index : Fin 1048576),
      tenantOf src = none → s.writable src d →
      exec (.caRegionWrite src d table index) s = .next (s.caOp d 1 table index).finish) ∧
  (∀ (s : State) (src : Src) (d : Fin 8) (table : Fin 4) (index : Fin 1048576),
      tenantOf src = none → s.writable src d →
      exec (.caRegionClear src d table index) s = .next (s.caOp d 2 table index).finish) ∧
  (∀ (s : State) (src : Src) (d : Fin 8) (table : Fin 4) (index : Fin 1048576),
      tenantOf src = none → s.writable src d →
      exec (.caLoftLookup src d table index) s = .next (s.caOp d 3 table index).finish) ∧
  (∀ (s : State) (d : Fin 8),
      s.ready d →
      exec (.loftWalkStart d) s = .next (s.walkStart d).finish) ∧
  (∀ (s : State) (d : Fin 8),
      s.ready d →
      exec (.loftWalkEnd d) s = .next (s.walkEnd d).finish)

/-- Completion of the commands of the mirror: on a state that meets the named conditions, each answers the state that its rules give. -/
def Obligations.MirrorComplete : Prop :=
  (∀ (s : State) (d : Fin 8) (trk : Fin 16384) (copy : Fin 2),
      s.ready d →
      exec (.writeCopyNdr d trk copy) s = .next (s.copyNdr d trk copy).finish) ∧
  (∀ (s : State) (d : Fin 8) (trk : Fin 16384) (copy : Fin 2),
      s.ready d →
      exec (.copyTmoExpiry d trk copy) s = .next (s.copyTmo d trk copy).finish) ∧
  (∀ (s : State) (d trkDie : Fin 8) (trk : Fin 16384) x,
      s.ready d → s.trk trkDie trk = some x → (x.mirror.isSome ∧ readsMem x.kind ∧ s.chooser trkDie x = d) →
      exec (.mirrorReadReturn d trkDie trk) s = .next (s.reissue trkDie trk).finish) ∧
  (∀ (s : State) (d : Fin 8) (trk : Fin 16384) (data : Nat) x,
      s.ready d → s.trk d trk = some x → (x.mirror.isSome ∧ readsData x.kind) →
      exec (.poisonedReadRepair d trk data) s = .next (s.poisonedRead d trk [data] none).finish) ∧
  (∀ (s : State) (d chooser : Fin 8) (grp : Fin 4096) (copy : Fin 2) (port : Fin 128) (ld : Fin 16) (lines : List Nat),
      s.ready d → (guardLines lines ∧ portDie port = d) →
      exec (.guardArmRequest d chooser grp copy port ld lines) s = .next
        (s.armGuard d { chooser := chooser, grp := grp, copy := copy, port := port, ld := ld, lines := lines,
                        left := lines }).finish) ∧
  (∀ (s : State) (d : Fin 8) (grp : Fin 4096) (copy : Fin 2) (lines : List Nat),
      s.ready d →
      exec (.guardAck d grp copy lines) s = .next (s.guardAck d grp copy lines).finish) ∧
  (∀ (s : State) (d chooser : Fin 8) (grp : Fin 4096) (copy : Fin 2) (lines : List Nat),
      s.ready d →
      exec (.pairQuery d chooser grp copy lines) s = .next (s.pairQuery d chooser grp copy lines).finish) ∧
  (∀ (s : State) (d : Fin 8) (grp : Fin 4096) (copy : Fin 2) (line : Nat),
      s.ready d →
      exec (.pairQueryAnswered d grp copy line) s = .next (s.pairsDone d grp copy line).finish) ∧
  (∀ (s : State) (d chooser : Fin 8) (grp : Fin 4096) (copy : Fin 2) (line : Nat) (poison : Bool) (data : Nat),
      s.ready d →
      exec (.guardedRewrite d chooser grp copy line poison data) s = .next
        (s.rewriteLine d chooser grp copy line poison data).finish) ∧
  (∀ (s : State) (d from_ : Fin 8) (m : CopyMsg),
      s.ready d →
      exec (.copyStateMessage d from_ m) s = .next (s.copyMsgCame d from_ m).finish) ∧
  (∀ (s : State) (src : Src) (d : Fin 8) (index : Fin 4096),
      tenantOf src = none → s.writable src d →
      exec (.mrTblRead src d index) s = .next (s.mrTblOp d 0 index).finish) ∧
  (∀ (s : State) (src : Src) (d : Fin 8) (index : Fin 4096),
      tenantOf src = none → s.writable src d →
      exec (.mrTblWrite src d index) s = .next (s.mrTblOp d 1 index).finish) ∧
  (∀ (s : State) (src : Src) (d : Fin 8) (index : Fin 4096),
      tenantOf src = none → s.writable src d →
      exec (.mrTblClear src d index) s = .next (s.mrTblOp d 2 index).finish) ∧
  (∀ (s : State) (src : Src) (d : Fin 8) (index : Fin 4096) (copy : Fin 2),
      tenantOf src = none → s.writable src d →
      exec (.mrCopyFail src d index copy) s = .next (s.mrCopyOp d 0 index copy).finish) ∧
  (∀ (s : State) (src : Src) (d : Fin 8) (index : Fin 4096) (copy : Fin 2),
      tenantOf src = none → s.writable src d →
      exec (.mrCopyResilver src d index copy) s = .next (s.mrCopyOp d 1 index copy).finish) ∧
  (∀ (s : State) (src : Src) (d : Fin 8) (index : Fin 4096) (copy : Fin 2),
      tenantOf src = none → s.writable src d →
      exec (.mrCopyForceHealthy src d index copy) s = .next (s.mrCopyOp d 2 index copy).finish) ∧
  (∀ (s : State) (src : Src) (d : Fin 8) (index : Fin 4096) (copy : Fin 2),
      tenantOf src = none → s.writable src d →
      exec (.mrCopyStopResilver src d index copy) s = .next (s.mrCopyOp d 3 index copy).finish) ∧
  (∀ (s : State) (d : Fin 8),
      s.ready d →
      exec (.resilverStateAck d) s = .next (s.resilverAcked d).finish) ∧
  (∀ (s : State) (d : Fin 8) (line : Nat),
      s.ready d →
      exec (.resilverBlockDone d line) s = .next (s.blockDone d line).finish) ∧
  (∀ (s : State) (d : Fin 8) r,
      s.ready d → (s.mrd d).resilver = some r → r.gap →
      exec (.blkGapExpiry d) s = .next
        (s.updMr d fun m => { m with resilver := some { r with gap := false } }).finish)

/-- Completion of the commands of the migration overlay: on a state that meets the named conditions, each answers the state that its
rules give. -/
def Obligations.OverlayComplete : Prop :=
  (∀ (s : State) (src : Src) (d : Fin 8),
      tenantOf src = none → s.writable src d →
      exec (.ovLookup src d) s = .next (s.ovOp d 0).finish) ∧
  (∀ (s : State) (src : Src) (d : Fin 8),
      tenantOf src = none → s.writable src d →
      exec (.ovStart src d) s = .next (s.ovOp d 1).finish) ∧
  (∀ (s : State) (src : Src) (d : Fin 8),
      tenantOf src = none → s.writable src d →
      exec (.ovAbort src d) s = .next (s.ovOp d 2).finish) ∧
  (∀ (s : State) (src : Src) (d : Fin 8),
      tenantOf src = none → s.writable src d →
      exec (.ovClear src d) s = .next (s.ovOp d 3).finish) ∧
  (∀ (s : State) (d : Fin 8) (slot line : Fin 64) (poison : Bool) (data : Nat),
      s.ready d →
      exec (.lineCopyReadReturn d slot line poison data) s = .next (s.lineRead d slot line poison [data]).finish) ∧
  (∀ (s : State) (d : Fin 8) (slot line : Fin 64),
      s.ready d →
      exec (.lineCopyDone d slot line) s = .next (s.lineDone d slot line).finish) ∧
  (∀ (s : State) (d : Fin 8) (slot : Fin 64),
      s.ready d →
      exec (.migrationDrained d slot) s = .next (s.migDrained d slot).finish) ∧
  (∀ (s : State) (d : Fin 8) (tag : Fin 1024) (newCopy : Bool),
      s.ready d →
      exec (.dualWriteNdr d tag newCopy) s = .next (s.dualNdr d tag newCopy).finish)

/-- Completion of the commands of the scheduler and shapers: on a state that meets the named conditions, each answers the state that
its rules give. -/
def Obligations.SchedulerComplete : Prop :=
  (∀ (s : State) (d : Fin 8) (o : Fin 16) (e : Fin 9),
      s.ready d →
      exec (.starvePromotion d o e) s = .next (s.starved d o e).finish) ∧
  (∀ (s : State) (src : Src) (d : Fin 8),
      tenantOf src = none → s.writable src d →
      exec (.scCommit src d) s = .next (s.scCommit d).finish) ∧
  (∀ (s : State) (d : Fin 8),
      s.ready d →
      exec (.wheelSlot d) s = .next ((s.shpEffect d).wheelSlot d).finish) ∧
  (∀ (s : State) (src : Src) (d : Fin 8) (index : Fin 1024),
      tenantOf src = none → s.writable src d →
      exec (.scShpRead src d index) s = .next (s.shpOp d 0 index (s.rd F.SC_SHP_CMD_tok_reset (dieL d))).finish) ∧
  (∀ (s : State) (src : Src) (d : Fin 8) (index : Fin 1024) (tokReset : Fin 4),
      tenantOf src = none → s.writable src d →
      exec (.scShpWrite src d index tokReset) s = .next (s.shpOp d 1 index tokReset).finish) ∧
  (∀ (s : State) (src : Src) (d : Fin 8) (index : Fin 1024) (tokReset : Fin 4),
      tenantOf src = none → s.writable src d →
      exec (.scShpClear src d index tokReset) s = .next (s.shpOp d 2 index tokReset).finish) ∧
  (∀ (s : State) (d : Fin 8),
      s.ready d →
      exec (.shaperWriteEffect d) s = .next (s.shpEffect d).finish) ∧
  (∀ (s : State) (d : Fin 8) (q : Fin 16) (c : Fin 12),
      s.ready d →
      exec (.policerCreditReturn d q c) s = .next (s.payCredit (portNo d q) c).finish)

/-- Completion of the commands of the data movers: on a state that meets the named conditions, each answers the state that its rules
give. -/
def Obligations.DataMoverComplete : Prop :=
  (∀ (s : State) (src : Src) (d : Fin 8) (q : Fin 2048),
      tenantOf src = none → s.writable src d →
      exec (.dmDoorbell src d (.reg q)) s = .next ((s.wake d 19).doorbell d q).finish) ∧
  (∀ (s : State) (src : Src) (d : Fin 8) (i : Fin 512) (j : Fin 16) q,
      s.writable src d → s.pageFor src d i = true → (s.inst d i).deaf = false →
      (s.inst d i).queues[j.val]? = some q →
      exec (.dmDoorbell src d (.page i j)) s = .next ((s.wake d 19).doorbell d q).finish) ∧
  (∀ (s : State) (d : Fin 8) (tag : Fin 65536) (line : Nat) (poison : Bool),
      s.ready d →
      exec (.scanReadReturn d tag line poison) s = .next
        (s.responseFor d tag DmUse.isDesc fun s => s.dmResponse d tag (line % 2 ^ 512) poison).finish) ∧
  (∀ (s : State) (d e : Fin 8),
      s.ready d →
      exec (.engineArbitration d e) s = .next (s.engineTurn d e).finish) ∧
  (∀ (s : State) (d : Fin 8) (tag : Fin 65536) (line : Nat) (poison : Bool),
      s.ready d →
      exec (.dmLineResponse d tag line poison) s = .next
        (s.responseFor d tag DmUse.isLine fun s => s.dmResponse d tag (line % 2 ^ 512) poison).finish) ∧
  (∀ (s : State) (d : Fin 8) (q : Fin 2048),
      s.ready d →
      exec (.descriptorRetire d q) s = .next (s.retire d q).finish) ∧
  (∀ (s : State) (d : Fin 8) (tag : Fin 65536) (answer : MigAnswer),
      s.ready d →
      exec (.migrateReply d tag answer) s = .next (s.migrateReply d tag answer).finish) ∧
  (∀ (s : State) (d : Fin 8) (tag : Fin 65536) (line : Nat) (poison : Bool),
      s.ready d →
      exec (.linkRereadReturn d tag line poison) s = .next (s.linkReturn d tag (line % 2 ^ 512) poison).finish) ∧
  (∀ (s : State) (src : Src) (d : Fin 8) (q : Fin 2048),
      tenantOf src = none → s.writable src d →
      exec (.dmQEnable src d q) s = .next ((s.wake d 19).queueEnable d q).finish) ∧
  (∀ (s : State) (src : Src) (d : Fin 8) (q : Fin 2048),
      tenantOf src = none → s.writable src d →
      exec (.dmQDisable src d q) s = .next ((s.wake d 19).queueDisable d q).finish) ∧
  (∀ (s : State) (src : Src) (d : Fin 8) (q : Fin 2048),
      tenantOf src = none → s.writable src d →
      exec (.dmQPause src d (.reg q)) s = .next ((s.wake d 19).queuePause d q).finish) ∧
  (∀ (s : State) (src : Src) (d : Fin 8) (i : Fin 512) (j : Fin 16) q,
      s.writable src d → s.pageFor src d i = true →
      (s.inst d i).queues[j.val]? = some q →
      exec (.dmQPause src d (.page i j)) s = .next ((s.wake d 19).queuePause d q).finish) ∧
  (∀ (s : State) (src : Src) (d : Fin 8) (q : Fin 2048),
      tenantOf src = none → s.writable src d →
      exec (.dmQUnpause src d (.reg q)) s = .next ((s.wake d 19).queueUnpause d q).finish) ∧
  (∀ (s : State) (src : Src) (d : Fin 8) (i : Fin 512) (j : Fin 16) q,
      s.writable src d → s.pageFor src d i = true →
      (s.inst d i).queues[j.val]? = some q →
      exec (.dmQUnpause src d (.page i j)) s = .next ((s.wake d 19).queueUnpause d q).finish) ∧
  (∀ (s : State) (src : Src) (d : Fin 8) (q : Fin 2048),
      tenantOf src = none → s.writable src d →
      exec (.dmQResume src d (.reg q)) s = .next ((s.wake d 19).queueResume d q).finish) ∧
  (∀ (s : State) (src : Src) (d : Fin 8) (i : Fin 512) (j : Fin 16) q,
      s.writable src d → s.pageFor src d i = true →
      (s.inst d i).queues[j.val]? = some q →
      exec (.dmQResume src d (.page i j)) s = .next ((s.wake d 19).queueResume d q).finish) ∧
  (∀ (s : State) (src : Src) (d : Fin 8) (q : Fin 2048),
      tenantOf src = none → s.writable src d →
      exec (.dmQInvalidate src d (.reg q)) s = .next ((s.wake d 19).queueInvalidate d q).finish) ∧
  (∀ (s : State) (src : Src) (d : Fin 8) (i : Fin 512) (j : Fin 16) q,
      s.writable src d → s.pageFor src d i = true →
      (s.inst d i).queues[j.val]? = some q →
      exec (.dmQInvalidate src d (.page i j)) s = .next ((s.wake d 19).queueInvalidate d q).finish) ∧
  (∀ (s : State) (src : Src) (d : Fin 8) (q : Fin 2048) (v : BitVec 32),
      tenantOf src = none → s.writable src d →
      exec (.cqHeadWrite src d (.reg q) v) s = .next ((s.wake d 19).cqHead d q v.toNat).finish) ∧
  (∀ (s : State) (src : Src) (d : Fin 8) (i : Fin 512) (j : Fin 16) (v : BitVec 32) q,
      s.writable src d → s.pageFor src d i = true →
      (s.inst d i).queues[j.val]? = some q →
      exec (.cqHeadWrite src d (.page i j) v) s = .next ((s.wake d 19).cqHead d q v.toNat).finish)

/-- Completion of the commands of the Pantry: on a state that meets the named conditions, each answers the state that its rules give. -/
def Obligations.PantryComplete : Prop :=
  (∀ (s : State) (src : Src) (d : Fin 8) (chan : Fin 17) (i : Fin 512),
      ownChan src d chan = true → s.writable src d →
      (chan.val == 0 || s.pantryFn.contains (portNo d (chan - 1))) = true →
      exec (.pnReadEntry src d chan i) s = .next (
        let s := s.wake d 19
        s.pnDo d chan (s.pnOld d chan 0 i)).finish) ∧
  (∀ (s : State) (src : Src) (d : Fin 8) (chan : Fin 17) (i : Fin 512),
      ownChan src d chan = true → s.writable src d →
      (chan.val == 0 || s.pantryFn.contains (portNo d (chan - 1))) = true →
      exec (.pnCreate src d chan i) s = .next (
        let s := s.wake d 19
        s.pnDo d chan (s.pnOld d chan 1 i)).finish) ∧
  (∀ (s : State) (src : Src) (d : Fin 8) (chan : Fin 17) (i : Fin 512),
      ownChan src d chan = true → s.writable src d →
      (chan.val == 0 || s.pantryFn.contains (portNo d (chan - 1))) = true →
      exec (.pnRemove src d chan i) s = .next (
        let s := s.wake d 19
        s.pnDo d chan (s.pnOld d chan 2 i)).finish) ∧
  (∀ (s : State) (src : Src) (d : Fin 8) (chan : Fin 17) (i : Fin 512),
      ownChan src d chan = true → s.writable src d →
      (chan.val == 0 || s.pantryFn.contains (portNo d (chan - 1))) = true →
      exec (.pnReset src d chan i) s = .next (
        let s := s.wake d 19
        s.pnDo d chan (s.pnOld d chan 3 i)).finish) ∧
  (∀ (s : State) (src : Src) (d : Fin 8) (chan : Fin 17) (i : Fin 512) (j : Fin 16),
      ownChan src d chan = true → s.writable src d →
      (chan.val == 0 || s.pantryFn.contains (portNo d (chan - 1))) = true →
      exec (.pnSetQueue src d chan i j) s = .next (
        let s := s.wake d 19
        s.pnDo d chan { s.pnOld d chan 4 i with obj := j }).finish) ∧
  (∀ (s : State) (src : Src) (d : Fin 8) (chan : Fin 17) (i : Fin 512) (j : Fin 16) (tokReset : Fin 4),
      ownChan src d chan = true → s.writable src d →
      (chan.val == 0 || s.pantryFn.contains (portNo d (chan - 1))) = true →
      exec (.pnSetShaper src d chan i j tokReset) s = .next (
        let s := s.wake d 19
        s.pnDo d chan ⟨5, i, j, tokReset⟩).finish) ∧
  (∀ (s : State) (src : Src) (d : Fin 8) (chan : Fin 17) (i : Fin 512) (k : Fin 16),
      ownChan src d chan = true → s.writable src d →
      (chan.val == 0 || s.pantryFn.contains (portNo d (chan - 1))) = true →
      exec (.pnSetCounter src d chan i k) s = .next (
        let s := s.wake d 19
        s.pnDo d chan { s.pnOld d chan 6 i with obj := k }).finish) ∧
  (∀ (s : State) (src : Src) (d : Fin 8) (chan : Fin 17) (i : Fin 512),
      ownChan src d chan = true → s.writable src d →
      (chan.val == 0 || s.pantryFn.contains (portNo d (chan - 1))) = true →
      exec (.pnFreeze src d chan i) s = .next (
        let s := s.wake d 19
        s.pnDo d chan (s.pnOld d chan 7 i)).finish) ∧
  (∀ (s : State) (d : Fin 8) (i : Fin 512),
      s.ready d → ((s.inst d i).state = 3 ∧ s.instQuiet d i) →
      exec (.freezeComplete d i) s = .next (s.frozen d i).finish) ∧
  (∀ (s : State) (d : Fin 8) (i : Fin 512),
      s.ready d → (s.inst d i).state = 3 →
      exec (.freezeTmoExpiry d i) s = .next (s.freezeFail d i).finish) ∧
  (∀ (s : State) (src : Src) (d : Fin 8) (chan : Fin 17) (i : Fin 512),
      ownChan src d chan = true → s.writable src d →
      (chan.val == 0 || s.pantryFn.contains (portNo d (chan - 1))) = true →
      exec (.pnSave src d chan i) s = .next (
        let s := s.wake d 19
        s.pnDo d chan (s.pnOld d chan 8 i)).finish) ∧
  (∀ (s : State) (src : Src) (d : Fin 8) (chan : Fin 17) (i : Fin 512),
      ownChan src d chan = true → s.writable src d →
      (chan.val == 0 || s.pantryFn.contains (portNo d (chan - 1))) = true →
      exec (.pnRestore src d chan i) s = .next (
        let s := s.wake d 19
        s.pnDo d chan (s.pnOld d chan 9 i)).finish) ∧
  (∀ (s : State) (src : Src) (d : Fin 8) (chan : Fin 17) (i : Fin 512),
      ownChan src d chan = true → s.writable src d →
      (chan.val == 0 || s.pantryFn.contains (portNo d (chan - 1))) = true →
      exec (.pnThaw src d chan i) s = .next (
        let s := s.wake d 19
        s.pnDo d chan (s.pnOld d chan 10 i)).finish) ∧
  (∀ (s : State) (d : Fin 8) (i : Fin 512),
      s.ready d → (s.inst d i).stale = 0 →
      exec (.staleOutZero d i) s = .next (s.staleZero d i).finish)

/-- Completion of the commands of the fences, scrubbing, watchdogs and viral: on a state that meets the named conditions, each answers
the state that its rules give. -/
def Obligations.RasComplete : Prop :=
  (∀ (s : State) (src : Src) (d : Fin 8) (q : Fin 16),
      tenantOf src = none → s.writable src d →
      exec (.fenceCmd src d q) s = .next (s.fenceOp d 0 q).finish) ∧
  (∀ (s : State) (src : Src) (d : Fin 8) (q : Fin 16),
      tenantOf src = none → s.writable src d →
      exec (.unfenceCmd src d q) s = .next (s.fenceOp d 1 q).finish) ∧
  (∀ (s : State) (d : Fin 8) (hit : ScrubHit),
      s.ready d → s.flag F.RS_SCRUB_scrub_en (dieL d) →
      exec (.scrubStep d hit) s = .next (
        let s := s.scrubJudge d
        match hit with
        | .clean => s
        | .single a larder => s.scrubSingle d a larder
        | .double a what => s.scrubDouble d a what).finish) ∧
  (∀ (s : State) (src : Src) (d : Fin 8) (v : BitVec 32),
      tenantOf src = none → s.writable src d →
      exec (.watchdogKick src d v) s = .next (s.wdogKick d v.toNat).finish) ∧
  (∀ (s : State) (d : Fin 8),
      s.ready d → s.wdogRuns d →
      exec (.watchdogExpiry d) s = .next (s.restartWarden d true).finish) ∧
  (∀ (s : State) (d : Fin 8) (q : Fin 16),
      s.ready d → s.portUp (portNo d q) →
      exec (.viralIndication d q) s = .next (s.viralFrom (portNo d q)).finish)

/-- Completion of the commands of the slot presence, ramp and trips: on a state that meets the named conditions, each answers the
state that its rules give. -/
def Obligations.SlotPowerComplete : Prop :=
  (∀ (s : State) (src : Src) (d : Fin 8) (q : Fin 16) (en : Bool),
      tenantOf src = none → s.writable src d → s.isSlot (portNo d q) = true →
      exec (.slotEnWrite src d q en) s = .next (s.slotEn (portNo d q) en).finish) ∧
  (∀ (s : State) (d : Fin 8) (q : Fin 16),
      d < s.part.dies → s.live → (s.prsntPin (portNo d q) true).isSlot (portNo d q) = true →
      exec (.prsntFall d q) s = .next (
        let t := s.prsntPin (portNo d q) true
        if t.slotState (portNo d q) = 1 then t.slotTo (portNo d q) 2 else t).finish) ∧
  (∀ (s : State) (d : Fin 8) (q : Fin 16),
      s.ready d → s.isSlot (portNo d q) = true →
      exec (.presenceConfirmed d q) s = .next (s.inserted (portNo d q)).finish) ∧
  (∀ (s : State) (d : Fin 8) (q : Fin 16),
      d < s.part.dies → s.live → (s.prsntPin (portNo d q) false).isSlot (portNo d q) = true →
      exec (.prsntRise d q) s = .next ((s.prsntPin (portNo d q) false).removed (portNo d q)).finish) ∧
  (∀ (s : State) (src : Src) (d : Fin 8) (q : Fin 16) (on : Bool),
      tenantOf src = none → s.writable src d → s.isSlot (portNo d q) = true →
      exec (.slotPowerWrite src d q on) s = .next (s.slotPower (portNo d q) on).finish) ∧
  (∀ (s : State) (d : Fin 8) (q : Fin 16) (vout : Nat),
      s.ready d → s.isSlot (portNo d q) = true → s.tripFrom (portNo d q) = (4, false) →
      exec (.rampShortCheck d q vout) s = .next (
        if 2000 < vout then s.trip (portNo d q) 5
          else if s.slotState (portNo d q) = 4 then s.updSlot (portNo d q) fun x => { x with gate := true } else
            s).finish) ∧
  (∀ (s : State) (d : Fin 8) (q : Fin 16) (gate : Nat),
      s.ready d → s.isSlot (portNo d q) = true → (s.tripFrom (portNo d q) = (4, true) ∧ gate < 2000) →
      exec (.gateCheck d q gate) s = .next (s.trip (portNo d q) 4).finish) ∧
  (∀ (s : State) (d : Fin 8) (q : Fin 16) (gate vout : Nat) (feedsHigh : Bool),
      s.ready d → s.isSlot (portNo d q) = true →
      exec (.rampComplete d q gate vout feedsHigh) s = .next (s.rampDone (portNo d q) gate vout feedsHigh).finish) ∧
  (∀ (s : State) (d : Fin 8) (q : Fin 16),
      s.ready d → s.isSlot (portNo d q) = true → (s.tripFrom (portNo d q)).1 = 4 →
      exec (.rampTimeout d q) s = .next (s.trip (portNo d q) 6).finish) ∧
  (∀ (s : State) (d : Fin 8) (q : Fin 16),
      s.ready d → s.isSlot (portNo d q) = true →
      s.rd F.SP_TIMERS_flt_us (portL (portNo d q)) * 8 ≤ (s.slotSt (portNo d q)).fault →
      exec (.faultTimerExpiry d q) s = .next (s.trip (portNo d q) 1).finish) ∧
  (∀ (s : State) (d : Fin 8) (q : Fin 16) (sense : Nat),
      s.ready d → s.isSlot (portNo d q) = true → 20 * s.rd F.SP_SHUNT_LIM_ilim (portL (portNo d q)) < sense →
      exec (.fastTrip d q sense) s = .next
        ((s.updSlot (portNo d q) fun x => { x with sense := sense }).trip (portNo d q) 2).finish) ∧
  (∀ (s : State) (d : Fin 8) (q : Fin 16),
      s.ready d → s.isSlot (portNo d q) = true → (s.tripFrom (portNo d q)).1 = 5 →
      exec (.outputUnderVoltage d q) s = .next (s.trip (portNo d q) 7).finish) ∧
  (∀ (s : State) (d : Fin 8) (q : Fin 16),
      s.ready d → s.isSlot (portNo d q) = true →
      (s.slotState (portNo d q) = 5 ∧ s.flag F.SP_STATUS_pgood (portL (portNo d q))) →
      exec (.pgoodLost d q) s = .next
        ((s.off F.SP_STATUS_pgood (portL (portNo d q))).spEv F.SP_EVENT_pgood_lost (portNo d q) 0).finish) ∧
  (∀ (s : State) (d : Fin 8) (q : Fin 16),
      s.ready d → s.isSlot (portNo d q) = true → s.slotState (portNo d q) = 7 →
      exec (.retryTimerEnd d q) s = .next
        ((s.updSlot (portNo d q) fun x => { x with retrying := false }).cooldownEnd (portNo d q)).finish) ∧
  (∀ (s : State) (src : Src) (d : Fin 8) (q : Fin 16),
      tenantOf src = none → s.writable src d → s.isSlot (portNo d q) = true →
      exec (.slotUnlock src d q) s = .next (s.slotUnlock (portNo d q)).finish)

/-- Completion of the commands of the slot feeds, samples and PERST#: on a state that meets the named conditions, each answers the
state that its rules give. -/
def Obligations.SlotFeedsComplete : Prop :=
  (∀ (s : State) (d : Fin 8) (q : Fin 16) (feed : Fin 2),
      s.ready d → s.isSlot (portNo d q) = true →
      exec (.feedGood d q feed) s = .next
        ((s.on (F.SP_STATUS_feed_good feed) (portL (portNo d q))).setOring (portNo d q)).finish) ∧
  (∀ (s : State) (d : Fin 8) (q : Fin 16) (feed : Fin 2) (high : Bool),
      s.ready d → s.isSlot (portNo d q) = true →
      exec (.feedLost d q feed high) s = .next (s.feedLost (portNo d q) feed high).finish) ∧
  (∀ (s : State) (d : Fin 8) (q : Fin 16) (feed : Fin 2),
      s.ready d → s.isSlot (portNo d q) = true →
      exec (.reverseCurrent d q feed) s = .next (s.reverse_ (portNo d q) feed).finish) ∧
  (∀ (s : State) (d : Fin 8) (q : Fin 16) (feed : Fin 2),
      s.ready d → s.isSlot (portNo d q) = true → s.flag (F.SP_STATUS_feed_good feed) (portL (portNo d q)) →
      exec (.oringReenable d q feed) s = .next
        ((s.updSlot (portNo d q) fun x => { x with reversed := x.reversed.filter (· != feed.val) }).setOring
        (portNo d q)).finish) ∧
  (∀ (s : State) (d : Fin 8) (q : Fin 16) (got : SlotSample),
      s.ready d → s.isSlot (portNo d q) = true →
      exec (.slotSample d q got) s = .next (s.slotSample (portNo d q) got).finish) ∧
  (∀ (s : State) (d : Fin 8) (q : Fin 16) (got : Int),
      s.ready d → s.isSlot (portNo d q) = true →
      exec (.fetTempSample d q got) s = .next (s.fetTemp (portNo d q) got).finish) ∧
  (∀ (s : State) (d : Fin 8) (q : Fin 16),
      s.ready d → s.isSlot (portNo d q) = true →
      exec (.slotMeasurementUpdate d q) s = .next (s.slotMeasure (portNo d q)).finish) ∧
  (∀ (s : State) (d : Fin 8) (q : Fin 16),
      s.ready d → s.isSlot (portNo d q) = true → s.slotState (portNo d q) = 5 →
      exec (.forecastAssert d q) s = .next (s.forecastNow (portNo d q)).finish) ∧
  (∀ (s : State) (d : Fin 8) (q : Fin 16),
      s.ready d → s.isSlot (portNo d q) = true → s.slotState (portNo d q) = 5 →
      exec (.forecastClear d q) s = .next (s.off F.SP_STATUS_forecast (portL (portNo d q))).finish) ∧
  (∀ (s : State) (d : Fin 8) (q : Fin 16),
      s.ready d → s.isSlot (portNo d q) = true →
      exec (.perstReleaseTimer d q) s = .next (
        let x := s.slotSt (portNo d q)
        if s.slotState (portNo d q) = 5 ∧
          !x.perstTime then ((s.updSlot (portNo d q) fun x => { x with perstTime := true }).setPerst
          (portNo d q)).perstDone (portNo d q)
        else if x.resetFor.isSome then s.perstHold (portNo d q) false else s).finish) ∧
  (∀ (s : State) (src : Src) (d : Fin 8) (q : Fin 16) (hold : Bool),
      tenantOf src = none → s.writable src d → s.isSlot (portNo d q) = true →
      exec (.perstHoldWrite src d q hold) s = .next (s.perstHold (portNo d q) hold).finish) ∧
  (∀ (s : State) (d : Fin 8) (q : Fin 16),
      s.ready d → s.isSlot (portNo d q) = true → (s.slotState (portNo d q) = 6 ∧ (s.slotSt (portNo d q)).lead) →
      exec (.fcLeadExpiry d q) s = .next
        (((s.updSlot (portNo d q) fun x => { x with lead := false }).setPerst (portNo d q)).portTold (portNo d q)
        4).finish) ∧
  (∀ (s : State) (d : Fin 8) (q : Fin 16),
      s.ready d → s.isSlot (portNo d q) = true → (s.slotState (portNo d q) = 6 ∧ !(s.slotSt (portNo d q)).lead) →
      exec (.gateOffDelay d q) s = .next (s.gateOff (portNo d q)).finish) ∧
  (∀ (s : State) (d : Fin 8) (q : Fin 16),
      s.ready d → s.isSlot (portNo d q) = true → s.slotState (portNo d q) = 6 →
      exec (.stoppingEnd d q) s = .next (
        let s := if (s.slotSt (portNo d q)).lead then s.portTold (portNo d q) 4 else s
        ((s.gateOff (portNo d q)).spEv F.SP_EVENT_power_off (portNo d q) 0).slotPresent (portNo d q)).finish)

/-- Completion of the commands of the channels, Hatch and expansion buses: on a state that meets the named conditions, each answers
the state that its rules give. -/
def Obligations.WardenHatchComplete : Prop :=
  (∀ (s : State) (d : Fin 8) (c : Fin 6) (opcode : Fin 65536) (payload : List (BitVec 8)) (requester : Fin 256)
  (tag : Fin 8),
      s.ready d →
      exec (.commandAccept d c opcode payload requester tag) s = .next
        (s.acceptCmd d c { opcode := opcode.val, payload := natBytes payload,
                           origin := chanOrigin c.val requester tag }).finish) ∧
  (∀ (s : State) (d : Fin 8),
      s.ready d →
      exec (.commandStart d) s = .next (s.startCmd d).finish) ∧
  (∀ (s : State) (k : Fin 4) (n : Fin 256) (wrote : Option (Fin 65536 × List (BitVec 8))),
      s.live → s.flag F.MB_CHAN_c_present (idxL 0 0 k) →
      exec (.mbQdoorbell k n wrote) s = .next (
        match wrote with
          | none => s.slotBell k n
          | some (op, b) => (s.hostSlot k n op (natBytes b)).slotBell k n).finish) ∧
  (∀ (s : State) (d : Fin 8) (fm : Fin 4) (tag : Fin 1024) (addr : Fin 268435456) (words : List HWord)
  (conflict : Option (Fin 8)),
      s.ready d →
      exec (.hatchInboundAccess d fm tag addr words conflict) s = .next
        (s.inbound d fm tag addr words (conflict.map (·.val))).finish) ∧
  (∀ (s : State) (d : Fin 8),
      s.ready d →
      exec (.hatchAccessDone d) s = .next ((s.serve d).accessDone d).finish) ∧
  (∀ (s : State) (src : Src) (d : Fin 8) (k : Fin 8) (space : Bool) (addr : Fin 268435456),
      tenantOf src = none → s.writable src d →
      exec (.delayedReadStart src d k space addr) s = .next (s.drStart d k space addr).finish) ∧
  (∀ (s : State) (d : Fin 8) (k : Fin 8) (words : List (BitVec 32)),
      s.ready d →
      exec (.delayedReadData d k words) s = .next (s.drData d k (words.map BitVec.toNat)).finish) ∧
  (∀ (s : State) (d : Fin 8) (k : Fin 8),
      s.ready d →
      exec (.delayedReadCollect d k) s = .next ((s.drCollect d k).2).finish) ∧
  (∀ (s : State) (d : Fin 8) (k : Fin 8),
      s.ready d → s.flag F.MB_DR_CMD_s_done (idxL d 0 k) →
      exec (.drTmoExpiry d k) s = .next
        (((s.inc F.MB_HATCH_CNT0_dr_discard (dieL d)).ev F.MB_EVENT_dr_discard (dieL d) 0).drFree d k).finish) ∧
  (∀ (s : State) (d : Fin 8),
      s.ready d →
      exec (.pfTmoExpiry d) s = .next (s.pfDrop d).finish) ∧
  (∀ (s : State) (d : Fin 8) (g : Fin 4) (how : XEnd),
      s.ready d → s.busActive d g →
      exec (.xbusTransactionEnd d g how) s = .next (s.busEnd d g how).finish) ∧
  (∀ (s : State) (d : Fin 8) (g : Fin 4) (sdaHigh : Bool),
      s.ready d → (s.hatch d).clearing.contains g.val →
      exec (.xbusRecovery d g sdaHigh) s = .next ((if sdaHigh then s.busFree d g else s.busStuck d g).serve d).finish) ∧
  (∀ (s : State) (d : Fin 8) (load0 load1 : Fin 101),
      s.ready d →
      exec (.overcastUpdate d load0 load1) s = .next (s.overcastUpdate d load0 load1).finish)

/-- Completion of the commands of the Strongroom and life cycle: on a state that meets the named conditions, each answers the state
that its rules give. -/
def Obligations.StrongroomComplete : Prop :=
  (∀ (s : State) (c : Fin 5) (cmd : Cmd),
      s.started c [0xC030] cmd →
      exec (.getIdentity c) s = .next (
        if s.strong.cert.isEmpty then (s.respond 0 c (.device s.free) .none).useFree
        else s.respond 0 c .success (.bytes s.strong.cert)).finish) ∧
  (∀ (s : State) (c : Fin 5) (cmd : Cmd),
      s.started c [0xC031] cmd →
      exec (.getAttestationReport c) s = .next (
        if s.lc = 0 ∨ s.lc = 5 then s.respond 0 c .unsupported .none
        else if cmd.origin = .mailbox ∨ cmd.payload.length ≠ 32 then s.respond 0 c .invalidInput .none
        else s.signAsk (.sign c cmd.payload)).finish) ∧
  (∀ (s : State) (c : Fin 5) (cmd : Cmd),
      s.started c [0xC032] cmd →
      exec (.openRegisterSession c) s = .next (
        let ms := leAt cmd.payload 0 4
        if cmd.payload.length ≠ 8 ∨ leAt cmd.payload 4 4 ≠ 0 ∨ ms = 0 ∨ 60000 < ms then s.respond 0 c .invalidInput
          .none
        else (s.openSession c ms).respond 0 c .success .none).finish) ∧
  (∀ (s : State) (c : Fin 5) (cmd : Cmd),
      s.started c [0xC033] cmd →
      exec (.closeRegisterSession c) s = .next ((s.closeSession c).respond 0 c .success .none).finish) ∧
  (∀ (s : State) (c : Fin 5),
      s.live → s.flag F.SEC_SESSION_c_open (idxL 0 0 c) →
      exec (.sessionExpiry c) s = .next (s.closeSession c)) ∧
  (∀ (s : State) (c : Fin 5) (cmd : Cmd),
      s.started c [0xC034] cmd →
      exec (.getCounter c) s = .next (s.respond 0 c .success (.bytes (leBytes 8 (s.chan 0 c).last))).finish) ∧
  (∀ (s : State) (c : Fin 5) (cmd : Cmd),
      s.started c [0xC035] cmd →
      exec (.getNonce c) s = .next (
        let s := s.wake 0 22
        let n := s.freshNonce
        let s := s.updStrong fun g => { g with nonce := some n, nonces := g.nonces + 1 }
        s.respond 0 c .success (.bytes n)).finish) ∧
  (∀ (s : State),
      s.live →
      exec .nonceExpiry s = .next (s.updStrong fun g => { g with nonce := none })) ∧
  (∀ (s : State) (c : Fin 5) (cmd : Cmd),
      s.started c [0xC036] cmd →
      exec (.submitToken c) s = .next (s.submitToken c cmd.payload).finish) ∧
  (∀ (s : State) (c : Fin 5) (cmd : Cmd),
      s.started c [0xC037] cmd →
      exec (.takeOwnership c) s = .next (s.takeOwnership c cmd.payload).finish) ∧
  (∀ (s : State) (c : Fin 5) (cmd : Cmd),
      s.started c [0xC038] cmd →
      exec (.rotateCommandRoot c) s = .next (s.rotateRoot c cmd).finish) ∧
  (∀ (s : State) (c : Fin 5) (cmd : Cmd),
      s.started c [0xC039] cmd →
      exec (.releaseReservation c) s = .next (s.signAsk (.release c)).finish) ∧
  (∀ (s : State) (secret : List (BitVec 8)) (id : BitVec 64) (keys : List (List (BitVec 8))) (cert : List (BitVec 8)),
      s.live →
      exec (.tapProvisionMaker secret id keys cert) s = .next
        (s.provision (natBytes secret) id.toNat (keys.map natBytes) (natBytes cert))) ∧
  (∀ (s : State) (c : Fin 5),
      s.live →
      exec (.lockoutExpiry c) s = .next (s.updChan 0 c fun x => { x with locked := false }))

/-- Completion of the commands of the management chain: on a state that meets the named conditions, each answers the state that its
rules give. -/
def Obligations.ChainComplete : Prop :=
  (∀ (s : State) (f : ChFrame),
      s.pkg.islandUp = true →
      exec (.chainFrameReceive f) s = .next (s.frameIn (natBytes f.bytes))) ∧
  (∀ (s : State),
      s.pkg.islandUp = true →
      exec .chainFrameForward s = .next (s.frameOut)) ∧
  (∀ (s : State) b r,
      s.pkg.islandUp = true → s.takenOf 1 = some (b, r) →
      exec .stocktake s = .next ((s.updIsland fun i => { i with taken := r }).stocktake b)) ∧
  (∀ (s : State),
      s.pkg.islandUp = true →
      exec .chainBreak s = .next (
        let s := ((s.updIsland fun i => { i with chIn := false }).off F.CH_STATUS_line_ok pkgL).wr F.CH_STATUS_addr
          pkgL noAddr
        (s.inc F.CH_CNT_ERR_breaks pkgL).chEv F.CH_EVENT_ch_break)) ∧
  (∀ (s : State),
      s.pkg.islandUp = true →
      exec .noticeSend s = .next (
        let s := (s.updIsland fun i => { i with chIn := true }).on F.CH_STATUS_line_ok pkgL
        if s.chAddr = noAddr then s.sendFrame s.notice else s)) ∧
  (∀ (s : State) b r,
      s.pkg.islandUp = true → s.takenOf 0 = some (b, r) →
      exec .mctpPacket s = .next ((((s.updIsland fun i => { i with taken := r }).packet b).settle))) ∧
  (∀ (s : State) (m : Mctp),
      s.pkg.islandUp = true → (s.island.msgs.find? fun x => isControl 1 x.bytes) = some m →
      exec .setEndpointId s = .next ((State.setEid (s.updIsland fun i => { i with msgs := i.msgs.erase m }) m))) ∧
  (∀ (s : State) (m : Mctp),
      s.pkg.islandUp = true → (s.island.msgs.find? fun x => isControl 2 x.bytes) = some m →
      exec .getEndpointId s = .next (
        let s := s.updIsland fun i => { i with msgs := i.msgs.erase m }
        s.control m [0, s.eid, 0, 0])) ∧
  (∀ (s : State) (m : Mctp),
      s.pkg.islandUp = true → (s.island.msgs.find? fun x => isControl 3 x.bytes) = some m →
      exec .getEndpointUuid s = .next (
        let s := s.updIsland fun i => { i with msgs := i.msgs.erase m }
        s.control m (0 :: Config.uuid s.strong.deviceId))) ∧
  (∀ (s : State) (m : Mctp),
      s.pkg.islandUp = true → (s.island.msgs.find? fun x => isControl 4 x.bytes) = some m →
      exec .getMctpVersionSupport s = .next (
        let s := s.updIsland fun i => { i with msgs := i.msgs.erase m }
        s.control m (0 :: Config.mctpVersions))) ∧
  (∀ (s : State) (m : Mctp),
      s.pkg.islandUp = true → (s.island.msgs.find? fun x => isControl 5 x.bytes) = some m →
      exec .getMessageTypeSupport s = .next (
        let s := s.updIsland fun i => { i with msgs := i.msgs.erase m }
        s.control m [0, 4, 0x00, 0x07, 0x08, 0x7E])) ∧
  (∀ (s : State) (m : Mctp),
      s.pkg.islandUp = true → (s.island.msgs.find? fun x => isRegAccess false x.bytes) = some m →
      exec .regAccessRead s = .next ((State.regRead (s.updIsland fun i => { i with msgs := i.msgs.erase m }) m))) ∧
  (∀ (s : State) (m : Mctp),
      s.pkg.islandUp = true → (s.island.msgs.find? fun x => isRegAccess true x.bytes) = some m →
      exec .regAccessWrite s = .next ((State.regWrite (s.updIsland fun i => { i with msgs := i.msgs.erase m }) m)))

/-- Completion of the commands of the monitor, Frost and Attic: on a state that meets the named conditions, each answers the state
that its rules give. -/
def Obligations.MonitorComplete : Prop :=
  (∀ (s : State) (src : Src) (d : Fin 8) (k : Fin 512) (val : BitVec 32),
      tenantOf src = none → s.writable src d → s.domOn d 20 = true →
      exec (.counterEvtWrite src d k val) s = .next (s.evtWrite src d k val.toNat).finish) ∧
  (∀ (s : State) (d : Fin 8) (k : Fin 512),
      s.ready d → (s.serving ∧ s.domOn d 20) →
      exec (.counterCaptureRead d k) s = .next (s.cntCapture d k)) ∧
  (∀ (s : State) (d : Fin 8) (k : Fin 512),
      s.ready d → (s.flag F.EVT_en (idxL d 0 k) ∧ s.domOn d 20 ∧ s.cntVal d k = 2 ^ 48 - 1) →
      exec (.counterWrap d k) s = .next (s.cntAdd d k 1)) ∧
  (∀ (s : State) (src : Src) (d : Fin 8),
      tenantOf src = none → s.writable src d → s.domOn d 20 = true →
      exec (.frostArmAll src d) s = .next (s.frostGo d 0).finish) ∧
  (∀ (s : State) (src : Src) (d : Fin 8),
      tenantOf src = none → s.writable src d → s.domOn d 20 = true →
      exec (.frostArmDie src d) s = .next (s.frostGo d 1).finish) ∧
  (∀ (s : State) (src : Src) (d : Fin 8),
      tenantOf src = none → s.writable src d → s.domOn d 20 = true →
      exec (.frostCancel src d) s = .next (s.frostGo d 2).finish) ∧
  (∀ (s : State) (d : Fin 8) (target : Nat),
      s.ready d → (d.val ≠ 0 ∧ s.domOn d 20) →
      exec (.frostArmReceive d target) s = .next ((s.frostArmDie d target true).emit (.frostAck d))) ∧
  (∀ (s : State) (d : Fin 8),
      s.ready d → s.domOn 0 20 →
      exec (.frostAckReceive d) s = .next (s.on (F.PM_FROST_STATUS_ack_mask d) (dieL 0))) ∧
  (∀ (s : State) (d : Fin 8) a,
      s.ready d → Tbl.get s.frost d = some a → (a.at_ ≤ s.now d ∧ s.domOn d 20) →
      exec (.frostSnap d) s = .next (s.frostSnap d a.at_)) ∧
  (∀ (s : State) (src : Src) (d : Fin 8) (val : BitVec 32),
      tenantOf src = none → s.writable src d → s.domOn d 20 = true →
      exec (.atticEnWrite src d val) s = .next (s.atticCtrl src d val.toNat).finish) ∧
  (∀ (s : State) (src : Src) (d : Fin 8) (val : BitVec 32),
      tenantOf src = none → s.writable src d → s.domOn d 20 = true →
      exec (.atticTailWrite src d val) s = .next (s.atticTail d val.toNat).finish)

/-- A command is an event of a die. At a die that the part does not have nothing happens, and the state is as it was (log entry 7). -/
def Obligations.AbsentDieDoesNothing : Prop :=
  ∀ (c : Instr) (s : State) (d : Nat), c.die = some d → s.part.dies ≤ d → exec c s = .next s

/-- No command stops the machine or is refused: in every state every command answers a next state. -/
def Obligations.CommandsComplete : Prop :=
  ∀ (c : Instr) (s : State), ∃ t : State, exec c s = .next t

/-- The straps and the mask revision of the part, and the commands waiting behind this one, are beyond the reach of a command. -/
def Obligations.ExecKeepsPartAndQueue : Prop :=
  ∀ (c : Instr) (s t : State), exec c s = .next t → t.part = s.part ∧ t.pending = s.pending

/-- A queue of well-formed commands stays one, and a step on it goes on. -/
def Obligations.QueueStaysWellFormed : Prop :=
  ∀ s : State, s.queueOk = true → ∃ t, step s = .next t ∧ t.queueOk = true

/-- No number of steps ends in a fault or a refusal, whatever commands wait. -/
def Obligations.NeverStops : Prop :=
  ∀ (s : State) (n : Nat), runsOn n s

/-- Life-cycle fuses are blown and never made whole: no step lowers the life-cycle code. -/
def Obligations.LifecycleOnlyRises : Prop :=
  ∀ s t : State, step s = .next t → s.strong.lc ≤ t.strong.lc

/-- The register file lists each field of each register at most once, in rising order of key, and every step keeps it so. -/
def Obligations.RegisterFileStaysCanonical : Prop :=
  ∀ s t : State, s.regsOk = true → step s = .next t → t.regsOk = true

/-- A write outside a session is discarded: it is counted in reg_denied, its event bit is set with a log record, and nothing else
changes. No command of the register space has another effect then. -/
def Obligations.DeniedWrites : Prop :=
  (∀ (c : Instr) (s : State) (src : Src) (d : Nat),
      c.write = some (src, d) → ¬ s.discards src d → s.denied src = true → exec c s = .next s.deny) ∧
  (∀ (s : State) (src : Src) (addr : Fin 268435456) (val : BitVec 32),
      s.takes src (addr / 4 * 4) = true → s.denied src = true → exec (.registerWrite src addr val) s = .next s.deny) ∧
  (∀ s : State, s.regsOk = true →
      s.onlyLogs s.deny [.SEC_CNT_AUTH, .SEC_EVENT] ∧
      s.deny.rd F.SEC_EVENT_reg_denied pkgL = 1 ∧
      s.deny.rd F.SEC_CNT_AUTH_reg_denied pkgL =
        min (s.rd F.SEC_CNT_AUTH_reg_denied pkgL + 1) (2 ^ F.SEC_CNT_AUTH_reg_denied.width - 1))

/-- A write that the part discards leaves the state as it was: before registers are served (R533), at an absent die (R10), in Scrap
(Table 17.12), or from function 1 of an upstream port to what it does not reach (R350). -/
def Obligations.DiscardedWrites : Prop :=
  (∀ (c : Instr) (s : State) (src : Src) (d : Nat),
      c.write = some (src, d) → s.discards src d → exec c s = .next s) ∧
  (∀ (c : Instr) (s : State) (v : Fin 128) (d : Nat),
      c.write = some (.tenant v, d) → forTenant s c = false → exec c s = .next s) ∧
  (∀ (s : State) (src : Src) (addr : Fin 268435456) (val : BitVec 32),
      s.takes src (addr / 4 * 4) = false →
      exec (.registerWrite src addr val) s = .next s ∧ exec (.pairHighWrite src addr val) s = .next s)

/-- The frame of the commands that `touches` lists: every register but those named there, and but for the log, reads as before. -/
def Obligations.SmallEffectsFrame : Prop :=
  ∀ (c : Instr) (s t : State) (rs : List Reg), touches c = some rs → exec c s = .next t → s.regsOk = true →
    ∀ (g : Fld) (m : Loc), g.lo < 32 → g.reg ∉ logRegs → g.reg ∉ rs → t.rd g m = s.rd g m

/-- A field that is given a value reads that value, kept to its width; every other field of every register, and everything beside the
register file, is as before. -/
def Obligations.FieldWrites : Prop :=
  ∀ (s : State) (f : Fld) (l : Loc) (v : Nat), s.regsOk = true → f.lo < 32 →
    (s.wr f l v).rd f l = v % 2 ^ f.width ∧ { s.wr f l v with regs := s.regs } = s ∧
    ∀ (g : Fld) (m : Loc), g.lo < 32 → ¬(g.reg = f.reg ∧ g.lo = f.lo ∧ m = l) → (s.wr f l v).rd g m = s.rd g m

/-- An event sets its bit, with a record of the log; every other field outside the log, and all other state, is as before. -/
def Obligations.EventSetsItsBit : Prop :=
  ∀ (s : State) (f : Fld) (l : Loc) (unit cls detail : Nat), s.regsOk = true → f.lo < 32 → f.reg ∉ logRegs → 0 < f.width →
    let t := s.evD f l unit cls detail
    t.rd f l = 1 ∧ t.logless = s.logless ∧
    ∀ (g : Fld) (m : Loc), g.lo < 32 → g.reg ∉ logRegs → ¬(g.reg = f.reg ∧ g.lo = f.lo ∧ m = l) → t.rd g m = s.rd g m

/-- Record number n goes to entry n mod 256 of the ring, in the format of Table 13.8, and HEAD counts it. -/
def Obligations.LogRecordLayout : Prop :=
  ∀ (s : State) (d blk bit cls unit detail : Nat), s.regsOk = true →
    let t := s.logPut d blk bit cls unit detail
    let n := s.rd F.RS_LOG_HEAD_head (dieL d)
    let w (k : Nat) : Nat := t.rd F.RS_LOG_r_word (idxL d 0 (n % 256 * 4 + k))
    w 0 = s.now d % 2 ^ 32 ∧ w 1 = s.now d / 2 ^ 32 % 2 ^ 32 ∧
    w 2 = (2 ^ 28 * blk + 2 ^ 23 * bit + 2 ^ 20 * cls + unit % 2 ^ 16) % 2 ^ 32 ∧ w 3 = detail % 2 ^ 32 ∧
    t.rd F.RS_LOG_HEAD_head (dieL d) = (n + 1) % 2 ^ 32

/-- Any read of the block of an absent die returns 0xFFFF_FFFF, and any write to it is discarded. -/
def Obligations.AbsentDieBlock : Prop :=
  ∀ (s : State) (src : Src) (addr : Fin 268435456) (val : BitVec 32) (d : Nat),
    d < 8 → s.part.dies ≤ d → (d + 1) * 2 ^ 24 ≤ addr.val → addr.val < (d + 2) * 2 ^ 24 →
    s.outerRead (addr / 4 * 4) = (0xFFFF_FFFF, s) ∧
    exec (.registerWrite src addr val) s = .next s ∧ exec (.pairHighWrite src addr val) s = .next s ∧
    exec (.pairLowRead addr) s = .next s

/-- A read of the low word of a pair captures the high word, which a read of the high word returns, capturing nothing. With nothing
captured the high word reads its reset value. (Counter values are captured as R513 gives, in COUNTER_CAPTURE_READ.) -/
def Obligations.PairReads : Prop :=
  ∀ (s : State) (r hi : Reg) (l : Loc), pairHigh r = some hi → r ≠ .CNT_LO → s.dark r l = false → s.dark hi l = false →
    let t := (s.readAt r l).2
    (s.readAt r l).1 = s.shown r l ∧ t.readAt hi l = (s.shown hi l, t) ∧
    (Tbl.get s.capture (rkey hi l) = none → s.readAt hi l = (s.rstWord hi l, s))

/-- A write to the low word of a pair has no effect on the value in use: it is held for the write of the high word, which commits
both. A register without power keeps nothing (R61). -/
def Obligations.PairWrites : Prop :=
  ∀ (s : State) (src : Src) (r hi : Reg) (l : Loc) (v w : Nat),
    pairHigh r = some hi → r ≠ .CNT_LO → s.dark r l = false → s.dark hi l = false →
    (r.fields.any fun f => f.acc = .rw) = true → (hi.fields.any fun f => f.acc = .rw) = true →
    (s.unpowered r l = true → s.writeAt src r l v = s) ∧
    (s.unpowered r l = false →
      let t := s.writeAt src r l v
      { t with held := s.held } = s ∧ t.heldLow r l = v ∧ t.writeAt src hi l w = t.commitPair src r hi l w)

/-- A write of 1 to flush_now while the port is holding flushes the Cellar at once; at any other time it has no effect. -/
def Obligations.FlushNow : Prop :=
  (∀ (s : State) (src : Src) (d : Fin 8) (q : Fin 16), tenantOf src = none → s.writable src d → s.holding (portNo d q) = true →
      exec (.flushNow src d q) s = .next (s.flush (portNo d q)).finish) ∧
  (∀ (s : State) (src : Src) (d : Fin 8) (q : Fin 16), s.denied src = false → s.holding (portNo d q) = false →
      exec (.flushNow src d q) s = .next s) ∧
  (∀ (s : State) (p : Nat), s.holding p = true →
      ∀ e ∈ (s.port p).cellar, Work.dispose p e true ∈ (s.flush p).todo)

/-- Of several reset sources in one cycle the first in the order of R529 is recorded; the bits of PD_PKG_STATUS are set for each. -/
def Obligations.ResetCause : Prop :=
  ∀ (s : State) (srcs : List ResetSrc) (x : ResetSrc), s.regsOk = true → s.pkg.islandUp = true → s.live →
    ([ResetSrc.thermtrip, .rail, .refclk, .pwrOk, .sysRst, .lifecycle, .command].find? fun y => srcs.contains y) = some x →
    ∃ t : State, exec (.packageReset srcs) s = .next t ∧ t.pkg.inReset = true ∧
      t.rd F.CK_RESET_CAUSE_cause pkgL = ResetSrc.code x ∧
      (.thermtrip ∈ srcs → t.rd F.PD_PKG_STATUS_thermtrip_seen pkgL = 1) ∧
      (.rail ∈ srcs → t.rd F.PD_PKG_STATUS_rail_reset pkgL = 1) ∧
      (.refclk ∈ srcs → t.rd F.PD_PKG_STATUS_refclk_lost pkgL = 1)

/-- The package leaves reset only with VAUX present (R54), THERMTRIP# not asserted, no rail low, and its waits over (R527). That
PWR_OK and SYS_RST# are high is what the command says (log entry 20). -/
def Obligations.ResetExit : Prop :=
  ∀ (s : State) (pwrLow fuseBad : Bool),
    ((s.pkg.vaux = false ∨ s.pkg.thermtrip = true ∨ s.pkg.wait.rails = true ∨ s.pkg.wait.hold = true ∨
        s.pkg.lowRails ≠ [] ∨ (s.pkg.wait.pwrLow = true ∧ pwrLow = false)) →
      exec (.packageResetExit pwrLow fuseBad) s = .next s) ∧
    (s.pkg.inReset = true → s.pkg.islandUp = true → s.pkg.vaux = true → s.pkg.thermtrip = false → s.pkg.wait.rails = false →
      s.pkg.wait.hold = false → s.pkg.lowRails = [] → (s.pkg.wait.pwrLow = true → pwrLow = true) →
      ∃ t : State, exec (.packageResetExit pwrLow fuseBad) s = .next t ∧ t.live ∧ t.pkg.pwrOk = true ∧ t.pkg.sysRstHigh = true)

/-- A die behind by more than 2 cycles jumps to the master value and counts a step; one less far behind, or ahead, keeps its value and
corrects itself by the difference in the cycles that follow. Its bit of aligned_mask is set when it is within 1 cycle, so that two
aligned dies are within 2 of one another (while it is further off, the model holds it clear: log entry 137), and cleared by the
time limit of R39. -/
def Obligations.FabricTimeCorrection : Prop :=
  (∀ (s : State) (d t : Nat), s.part.peerDie d t = 0 → s.countDelay d t none = some (s.rd F.CL_PATH_DELAY_delay (unitL d t))) ∧
  (∀ (s : State) (d t u : Nat), s.part.peerDie d t ≠ 0 → s.part.peerDie d t ≠ d → s.part.peerDie (s.part.peerDie d t) u = 0 →
      s.countDelay d t (some u) = some (s.rd F.CL_PATH_DELAY_delay (unitL d t) +
        s.rd F.CL_PATH_DELAY_delay (unitL (s.part.peerDie d t) u) + 48)) ∧
  (∀ (s : State) (d : Fin 8) (count delay : Nat) (path : CountPath), s.ready d → d.val ≠ 0 → s.clocks = true →
      s.regsOk = true → s.countDelay d path.site (path.relay.map Fin.val) = some delay →
      ∃ v : State, exec (.masterCountReceive d count path) s = .next v ∧
        v.rd (F.CK_FTIME_STATUS_aligned_mask d) pkgL =
          (if s.now d + 2 < count + delay ∨ (count + delay ≤ s.now d + 1 ∧ s.now d ≤ count + delay + 1) then 1 else 0) ∧
        (s.now d + 2 < count + delay → v.now d = count + delay ∧
          v.rd F.CK_FTIME_STATUS_step_count pkgL =
            min (s.rd F.CK_FTIME_STATUS_step_count pkgL + 1) (2 ^ F.CK_FTIME_STATUS_step_count.width - 1)) ∧
        (count + delay ≤ s.now d + 2 → v.ftime = s.ftime ∧
          v.ftAdj = Tbl.set s.ftAdj d ((s.now d : Int) - (count + delay : Nat)) 0)) ∧
  (∀ (s : State) (d : Fin 8), s.ready d → d.val ≠ 0 → s.regsOk = true →
      ∃ t : State, exec (.alignmentTimeout d) s = .next t ∧ t.rd (F.CK_FTIME_STATUS_aligned_mask d) pkgL = 0)

/-- A counter that passes 2^48 - 1 wraps to 0 and sets its bit in PM_OVF_j; with int_en the wrap also sets ovf in PM_EVENT and
interrupts Warden core 1 of the die. -/
def Obligations.CounterWraps : Prop :=
  ∀ (s : State) (d : Fin 8) (k : Fin 512), s.ready d → s.flag F.EVT_en (idxL d 0 k) = true → s.domOn d 20 = true →
    s.cntVal d k = 2 ^ 48 - 1 → s.regsOk = true →
    (s.flag F.EVT_int_en (idxL d 0 k) = false →
      exec (.counterWrap d k) s = .next (({ s with cnt := Tbl.set s.cnt (cntKey d k) 0 0 }).on
        (F.PM_OVF_j_ovf (k % 32)) (idxL d 0 (k / 32)))) ∧
    (s.flag F.EVT_int_en (idxL d 0 k) = true → s.flag F.OWN_owned (idxL d 0 k) = false →
      ∃ t : State, exec (.counterWrap d k) s = .next t ∧ t.rd (F.PM_OVF_j_ovf (k % 32)) (idxL d 0 (k / 32)) = 1 ∧
        t.rd F.PM_EVENT_ovf (dieL d) = 1 ∧ .wardenIrq d 1 ∈ t.out)

/-- A command that arrives at a queue of 256 entries is rejected with Busy, counted in busy_rejects and shown in busy_reject; else it
joins the queue. -/
def Obligations.CommandQueueFull : Prop :=
  ∀ (s : State) (d : Fin 8) (c : Fin 6) (cmd : Cmd),
    s.flag F.MB_CHAN_c_present (idxL d 0 c) = true → s.running d = true → s.regsOk = true →
    let t := s.when (c.val == 5) fun s => s.wake d 21
    (256 ≤ (s.chan d c).depth →
      s.acceptCmd d c cmd = t.rejectBusy d c cmd ∧
      .cmdReply d c cmd.opcode cmd.origin .busy .none ∈ (s.acceptCmd d c cmd).out ∧
      (s.acceptCmd d c cmd).rd F.MB_EVENT_busy_reject (dieL d) = 1 ∧
      (s.acceptCmd d c cmd).rd F.MB_CHAN_c_busy_rejects (idxL d 0 c) =
        min (s.rd F.MB_CHAN_c_busy_rejects (idxL d 0 c) + 1) (2 ^ F.MB_CHAN_c_busy_rejects.width - 1)) ∧
    ((s.chan d c).depth < 256 → cmd.origin ≠ .mailbox →
      s.acceptCmd d c cmd =
        (t.updChan d c fun x => { x with queue := x.queue ++ [{ cmd with time := s.now d }] }).pm d 0xB000 c 1)

/-- With the session of its channel open a source is not denied; with it closed it is denied in Owned and Field and in no other state. -/
def Obligations.SessionsOpenAndClose : Prop :=
  ∀ (s : State) (src : Src) (c ms : Nat), s.regsOk = true → Src.session src = some c → 0 < ms →
    (s.openSession c ms).denied src = false ∧ (s.closeSession c).denied src = s.needsSession ∧
    ∀ (other : Src) (e : Nat), Src.session other = some e → e ≠ c →
      (s.openSession c ms).denied other = s.denied other ∧ (s.closeSession c).denied other = s.denied other

/-- The thresholds satisfy fail < degrade < accept <= target; a write that would break this is ignored whole and sets thr_refused. -/
def Obligations.ThresholdOrder : Prop :=
  (∀ (s : State) (src : Src) (d : Fin 8) (q : Fin 16) (pam4 : Bool) (accept target degrade fail : Fin 256),
      tenantOf src = none → s.writable src d →
      exec (.baroThrWrite src d q pam4 accept target degrade fail) s =
        .next (if s.unpowered .LQ_BARO_THR_NRZ (unitL d q) then s else s.setBaroThr d q pam4 accept target degrade fail).finish) ∧
  (∀ (s : State) (src : Src) (l : Loc) (v : Nat), v < 2 ^ 32 →
      s.unpowered .LQ_BARO_THR_NRZ l = false → s.unpowered .LQ_BARO_THR_PAM4 l = false →
      s.writeDie src .LQ_BARO_THR_NRZ l v =
        s.setBaroThr l.die l.unit false (v / 2 ^ 24 % 256) (v / 2 ^ 16 % 256) (v / 2 ^ 8 % 256) (v % 256) ∧
      s.writeDie src .LQ_BARO_THR_PAM4 l v =
        s.setBaroThr l.die l.unit true (v / 2 ^ 24 % 256) (v / 2 ^ 16 % 256) (v / 2 ^ 8 % 256) (v % 256)) ∧
  (∀ (s : State) (d q : Nat) (pam4 : Bool) (accept target degrade fail : Nat), s.regsOk = true →
      ¬(fail < degrade ∧ degrade < accept ∧ accept ≤ target) →
      let t := s.setBaroThr d q pam4 accept target degrade fail
      s.onlyLogs t [.LQ_EVENT] ∧ t.rd F.LQ_EVENT_thr_refused (unitL d q) = 1) ∧
  (∀ (s : State) (d q accept target degrade fail : Nat), s.regsOk = true → target < 256 →
      fail < degrade → degrade < accept → accept ≤ target →
      let t := s.setBaroThr d q false accept target degrade fail
      let u := s.setBaroThr d q true accept target degrade fail
      t.rd F.LQ_BARO_THR_NRZ_degrade (unitL d q) = degrade ∧ t.rd F.LQ_BARO_THR_NRZ_fail (unitL d q) = fail ∧
      Tbl.get t.staged (fkey F.LQ_BARO_THR_NRZ_accept (unitL d q)) = some accept ∧
      Tbl.get t.staged (fkey F.LQ_BARO_THR_NRZ_target (unitL d q)) = some target ∧
      u.rd F.LQ_BARO_THR_PAM4_degrade (unitL d q) = degrade ∧ u.rd F.LQ_BARO_THR_PAM4_fail (unitL d q) = fail ∧
      Tbl.get u.staged (fkey F.LQ_BARO_THR_PAM4_accept (unitL d q)) = some accept ∧
      Tbl.get u.staged (fkey F.LQ_BARO_THR_PAM4_target (unitL d q)) = some target)

/-- On every output the level of the TC8 entry (entry 5) is no higher in number than those of the TC3 and TC4 entries (entries 1 and
2). A commit that would break this on any output is refused whole. -/
def Obligations.ArbitrationCommit : Prop :=
  ∀ (s : State) (src : Src) (d : Fin 8), tenantOf src = none → s.writable src d → s.regsOk = true →
    let level (q e : Nat) : Nat :=
      (Tbl.get s.staged (fkey (F.SC_ARB_PRIO_q_level e) (idxL d 0 q))).getD (s.rd (F.SC_ARB_PRIO_q_level e) (idxL d 0 q))
    ((∃ q < 16, level q 1 < level q 5 ∨ level q 2 < level q 5) →
      ∃ u : State, exec (.scCommit src d) s = .next u.finish ∧ s.onlyLogs u [.SC_EVENT] ∧ u.rd F.SC_EVENT_arb_refused (dieL d) = 1) ∧
    ((∀ q < 16, level q 5 ≤ level q 1 ∧ level q 5 ≤ level q 2) →
      exec (.scCommit src d) s = .next (s.forEach (upTo 16) fun s q =>
        s.forEach [.SC_ARB_PRIO_q, .SC_ARB_WGT0_q, .SC_ARB_WGT1_q, .SC_ARB_WGT2_q, .SC_ARB_STARVE_q] fun s r =>
          s.commitReg r (idxL d 0 q)).finish)

/-- A refused write through a table command changes no table: only the fields of the command register, the event bit and the log. -/
def Obligations.RefusedTableWrites : Prop :=
  (∀ (s : State) (src : Src) (d : Fin 8) (table : Fin 4) (index : Fin 4096), tenantOf src = none → s.writable src d →
      s.regsOk = true → s.flag F.BD_TBL_CMD_busy (dieL d) = false → table.val < 2 →
      (∃ u : State, exec (.bdTblWrite src d table index) s = .next u.finish ∧ s.onlyLogs u [.BD_TBL_CMD, .BD_EVENT] ∧
        u.rd F.BD_EVENT_tbl_refused (dieL d) = 1) ∧
      (∃ u : State, exec (.bdTblClear src d table index) s = .next u.finish ∧ s.onlyLogs u [.BD_TBL_CMD, .BD_EVENT] ∧
        u.rd F.BD_EVENT_tbl_refused (dieL d) = 1)) ∧
  (∀ (s : State) (src : Src) (d : Fin 8) (index : Fin 4096), tenantOf src = none → s.writable src d → s.regsOk = true →
      s.flag F.XB_GRP_CMD_busy (dieL d) = false →
      (index.val = 0 ∨ (let w := (upTo 8).map fun k => s.rd F.XB_GRP_DATAw_data (idxL d 0 k)
        grpValid w = true ∧ grpOk w = false)) →
      ∃ u : State, exec (.xbGrpWrite src d index) s = .next u.finish ∧ s.onlyLogs u [.XB_GRP_CMD, .XB_EVENT] ∧
        u.rd F.XB_EVENT_grp_refused (dieL d) = 1) ∧
  (∀ (s : State) (src : Src) (d : Fin 8), tenantOf src = none → s.writable src d → s.regsOk = true →
      s.flag F.MR_TBL_CMD_busy (dieL d) = false →
      (∃ u : State, exec (.mrTblWrite src d 0) s = .next u.finish ∧ s.onlyLogs u [.MR_TBL_CMD, .MR_EVENT] ∧
        u.rd F.MR_EVENT_mr_refused (dieL d) = 1) ∧
      (∃ u : State, exec (.mrTblClear src d 0) s = .next u.finish ∧ s.onlyLogs u [.MR_TBL_CMD, .MR_EVENT] ∧
        u.rd F.MR_EVENT_mr_refused (dieL d) = 1)) ∧
  (∀ (s : State) (src : Src) (d : Fin 8) (index : Fin 1024) (tok : Fin 4), tenantOf src = none → s.writable src d →
      s.regsOk = true → s.flag F.SC_SHP_CMD_busy (dieL d) = false → (s.shp d index).owned = true →
      (∃ u : State, exec (.scShpWrite src d index tok) s = .next u.finish ∧ s.onlyLogs u [.SC_SHP_CMD, .SC_EVENT] ∧
        u.rd F.SC_EVENT_shp_refused (dieL d) = 1) ∧
      (∃ u : State, exec (.scShpClear src d index tok) s = .next u.finish ∧ s.onlyLogs u [.SC_SHP_CMD, .SC_EVENT] ∧
        u.rd F.SC_EVENT_shp_refused (dieL d) = 1))

/-- A doorbell acts by the state of its queue (Table 11.5), through a page only at a slot of the instance (R351) that hears it (R358,
Table 12.5a); a write of cq_head is taken only within the completions written (R337). -/
def Obligations.QueueWrites : Prop :=
  (∀ (s : State) (src : Src) (d : Fin 8) (q : Fin 2048), tenantOf src = none → s.writable src d → s.regsOk = true →
      ((s.qst d q = 2 ∨ s.qst d q = 4) →
        exec (.dmDoorbell src d (.reg q)) s = .next (((s.wake d 19).wake d (engDom (s.qEng d q))).on F.DM_Q_STATUS_rescan (unitL d q)).finish) ∧
      ((s.qst d q = 0 ∨ 5 ≤ s.qst d q) →
        exec (.dmDoorbell src d (.reg q)) s = .next (((s.wake d 19).wake d (engDom (s.qEng d q))).inc F.DM_CNT_MISC_db_ignored (dieL d)).finish)) ∧
  (∀ (s : State) (src : Src) (d : Fin 8) (i : Fin 512) (j : Fin 16), s.writable src d → s.pageFor src d i = true →
      ((s.inst d i).queues.length ≤ j.val ∨ (s.inst d i).deaf = true) →
      exec (.dmDoorbell src d (.page i j)) s = .next ((s.wake d 19).inc F.PN_CNT_MISC_db_discard (dieL d)).finish) ∧
  (∀ (s : State) (src : Src) (d : Fin 8) (q : Fin 2048) (v : BitVec 32), tenantOf src = none → s.writable src d →
      s.regsOk = true →
      let head := s.rd F.DM_Q_CQ_HEAD_cq_head (unitL d q)
      let ahead (x : Nat) : Nat := (x + 2 ^ 32 - head) % 2 ^ 32
      let tail := s.rd F.DM_Q_CQ_TAIL_cq_tail (unitL d q)
      (ahead v.toNat ≤ ahead tail →
        exec (.cqHeadWrite src d (.reg q) v) s = .next (((s.wake d 19).wr F.DM_Q_CQ_HEAD_cq_head (unitL d q) v.toNat).retGo d q).finish) ∧
      (ahead tail < ahead v.toNat →
        ∃ u : State, exec (.cqHeadWrite src d (.reg q) v) s = .next u.finish ∧ s.onlyLogs u [.DM_EVENT] ∧
          u.rd F.DM_EVENT_cq_head_bad (dieL d) = 1))

/-- A Frost is armed for every die through die 0 (op 0) or for one die (op 1); it is refused too close to its target, and for op 0
elsewhere than at die 0. Other dies acknowledge, which die 0 shows in ack_mask. -/
def Obligations.FrostArms : Prop :=
  (∀ (s : State) (src : Src), tenantOf src = none → s.writable src 0 → s.domOn 0 20 = true → s.regsOk = true →
      s.now 0 + 4096 ≤ s.frostTarget 0 →
      ∃ u : State, exec (.frostArmAll src 0) s = .next u.finish ∧ Tbl.get u.frost 0 = some ⟨s.frostTarget 0, true⟩ ∧
        (∀ k < 8, u.rd (F.PM_FROST_STATUS_ack_mask k) (dieL 0) = if k = 0 then 1 else 0) ∧
        ∀ k, 0 < k → k < s.part.dies → .frostArm k (s.frostTarget 0) ∈ u.out) ∧
  (∀ (s : State) (src : Src) (d : Fin 8), tenantOf src = none → s.writable src d → s.domOn d 20 = true → s.regsOk = true →
      s.now d + 4096 ≤ s.frostTarget d →
      ∃ u : State, exec (.frostArmDie src d) s = .next u.finish ∧ Tbl.get u.frost d = some ⟨s.frostTarget d, false⟩ ∧
        (∀ k, k ≠ d.val → Tbl.get u.frost k = Tbl.get s.frost k) ∧ u.out = s.out) ∧
  (∀ (s : State) (src : Src) (d : Fin 8), tenantOf src = none → s.writable src d → s.domOn d 20 = true → s.regsOk = true →
      (d.val ≠ 0 ∨ s.frostTarget d < s.now d + 4096) →
      ∃ u : State, exec (.frostArmAll src d) s = .next u.finish ∧ s.onlyLogs u [.PM_FROST_CTRL, .PM_EVENT] ∧
        u.rd F.PM_EVENT_frost_refused (dieL d) = 1) ∧
  (∀ (s : State) (src : Src) (d : Fin 8), tenantOf src = none → s.writable src d → s.domOn d 20 = true → s.regsOk = true →
      s.frostTarget d < s.now d + 4096 →
      ∃ u : State, exec (.frostArmDie src d) s = .next u.finish ∧ s.onlyLogs u [.PM_FROST_CTRL, .PM_EVENT] ∧
        u.rd F.PM_EVENT_frost_refused (dieL d) = 1) ∧
  (∀ (s : State) (d : Fin 8) (target : Nat), s.ready d → d.val ≠ 0 → s.domOn d 20 = true →
      ∃ t : State, exec (.frostArmReceive d target) s = .next t ∧ Tbl.get t.frost d = some ⟨target, true⟩ ∧ .frostAck d ∈ t.out) ∧
  (∀ (s : State) (d : Fin 8), s.ready d → s.domOn 0 20 = true → s.regsOk = true →
      ∃ t : State, exec (.frostAckReceive d) s = .next t ∧ t.rd (F.PM_FROST_STATUS_ack_mask d) (dieL 0) = 1)

/-- A break takes the chain address and keeps the endpoint ID (R498). Frames to be forwarded are sent before the package's own, in
arrival order (R493). -/
def Obligations.ChainBreakAndForward : Prop :=
  (∀ s : State, s.pkg.islandUp = true → s.regsOk = true →
      ∃ t : State, exec .chainBreak s = .next t ∧ t.rd F.CH_STATUS_line_ok pkgL = 0 ∧ t.rd F.CH_STATUS_addr pkgL = 0xFE ∧
        t.rd F.CH_STATUS_eid pkgL = s.rd F.CH_STATUS_eid pkgL ∧ t.rd F.CH_STATUS_gen pkgL = s.rd F.CH_STATUS_gen pkgL ∧
        t.rd F.CH_EVENT_ch_break pkgL = 1 ∧
        t.rd F.CH_CNT_ERR_breaks pkgL = min (s.rd F.CH_CNT_ERR_breaks pkgL + 1) (2 ^ F.CH_CNT_ERR_breaks.width - 1)) ∧
  (∀ (s : State) (b : List Nat) (r : List (List Nat)), s.pkg.islandUp = true → s.regsOk = true → s.island.fwd = b :: r →
      ∃ t : State, exec .chainFrameForward s = .next t ∧ t.island.fwd = r ∧ t.island.own = s.island.own ∧
        t.out = s.out ++ [.chainFrame (withCrc b)] ∧
        t.rd F.CH_CNT_tx_frames pkgL = min (s.rd F.CH_CNT_tx_frames pkgL + 1) (2 ^ F.CH_CNT_tx_frames.width - 1)) ∧
  (∀ (s : State) (b : List Nat) (r : List (List Nat)), s.pkg.islandUp = true → s.island.fwd = [] → s.island.own = b :: r →
      ∃ t : State, exec .chainFrameForward s = .next t ∧ t.island.own = r ∧ t.out = s.out ++ [.chainFrame (withCrc b)])

/-- If VOUT stays below pg_v, the part sets pgood_lost and drops PGOOD, but it does not trip. -/
def Obligations.PgoodLossDoesNotTrip : Prop :=
  ∀ (s : State) (d : Fin 8) (q : Fin 16), s.ready d → s.isSlot (portNo d q) = true → s.slotState (portNo d q) = 5 →
    s.flag F.SP_STATUS_pgood (portL (portNo d q)) = true → s.regsOk = true →
    ∃ u : State, exec (.pgoodLost d q) s = .next u.finish ∧ u.slotState (portNo d q) = 5 ∧
      s.onlyLogs u [.SP_STATUS, .SP_EVENT] ∧ u.rd F.SP_STATUS_pgood (portL (portNo d q)) = 0 ∧
      u.rd F.SP_EVENT_pgood_lost (portL (portNo d q)) = 1

end
end

