-- ==== Sys2Proof/Laws/Table.lean ====
section
/-! SUPPORT. Sparse tables: every operation keeps the canonical form; what is written is read, and nothing else changes. -/

namespace Sys2Proof.Machine

variable {α : Type}
theorem Tbl.above_mono {j k : Nat} {t : Tbl α} (h : j ≤ k) (w : Tbl.above k t = true) : Tbl.above j t = true := by
  cases t with
  | nil => rfl
  | cons e t =>
    simp only [Tbl.above, Bool.and_eq_true, decide_eq_true_eq] at w ⊢
    exact ⟨by omega, w.2⟩

theorem Tbl.above_put {j k : Nat} {t : Tbl α} (v : α) (h : j < k) (w : Tbl.above j t = true) : Tbl.above j (Tbl.put t k v) = true := by
  induction t generalizing j with
  | nil => simp [Tbl.put, Tbl.above, h]
  | cons e t ih =>
    obtain ⟨k', v'⟩ := e
    simp only [Tbl.above, Bool.and_eq_true, decide_eq_true_eq] at w
    unfold Tbl.put
    split
    · simp [Tbl.above, *]
    · split
      · subst k'
        simp [Tbl.above, h, w.2]
      · simp only [Tbl.above, Bool.and_eq_true, decide_eq_true_eq]
        exact ⟨w.1, ih (by omega) w.2⟩

theorem Tbl.above_del {j : Nat} {t : Tbl α} (k : Nat) (w : Tbl.above j t = true) : Tbl.above j (Tbl.del t k) = true := by
  induction t generalizing j with
  | nil => rfl
  | cons e t ih =>
    obtain ⟨k', v'⟩ := e
    have w' := w
    simp only [Tbl.above, Bool.and_eq_true, decide_eq_true_eq] at w
    unfold Tbl.del
    split
    · exact Tbl.above_mono (Nat.le_of_lt w.1) w.2
    · split
      · exact w'
      · simp only [Tbl.above, Bool.and_eq_true, decide_eq_true_eq]
        exact ⟨w.1, ih w.2⟩

theorem Tbl.above_drop {j : Nat} {t : Tbl α} (p : Nat → α → Bool) (w : Tbl.above j t = true) : Tbl.above j (Tbl.drop t p) = true := by
  induction t generalizing j with
  | nil => rfl
  | cons e t ih =>
    simp only [Tbl.above, Bool.and_eq_true, decide_eq_true_eq] at w
    unfold Tbl.drop at ih ⊢
    rw [List.filter_cons]
    split
    · simp only [Tbl.above, Bool.and_eq_true, decide_eq_true_eq]
      exact ⟨w.1, ih w.2⟩
    · exact ih (Tbl.above_mono (Nat.le_of_lt w.1) w.2)

theorem Tbl.wf_of_above {j : Nat} {t : Tbl α} (w : Tbl.above j t = true) : Tbl.wf t = true := by
  cases t with
  | nil => rfl
  | cons e t =>
    simp only [Tbl.above, Bool.and_eq_true] at w
    exact w.2

/-- Listing an entry keeps the canonical form. -/
theorem Tbl.wf_put {t : Tbl α} (k : Nat) (v : α) (w : Tbl.wf t = true) : Tbl.wf (Tbl.put t k v) = true := by
  cases t with
  | nil => rfl
  | cons e t =>
    obtain ⟨k', v'⟩ := e
    unfold Tbl.put
    split
    · simp only [Tbl.wf, Tbl.above, Bool.and_eq_true, decide_eq_true_eq]
      exact ⟨‹_›, w⟩
    · split
      · subst k'
        exact w
      · exact Tbl.above_put v (by omega) w

/-- Taking an entry off keeps the canonical form. -/
theorem Tbl.wf_del {t : Tbl α} (k : Nat) (w : Tbl.wf t = true) : Tbl.wf (Tbl.del t k) = true := by
  cases t with
  | nil => rfl
  | cons e t =>
    obtain ⟨k', v'⟩ := e
    unfold Tbl.del
    split
    · exact Tbl.wf_of_above w
    · split
      · exact w
      · exact Tbl.above_del k w

/-- Dropping entries keeps the canonical form. -/
theorem Tbl.wf_drop {t : Tbl α} (p : Nat → α → Bool) (w : Tbl.wf t = true) : Tbl.wf (Tbl.drop t p) = true := by
  cases t with
  | nil => rfl
  | cons e t =>
    unfold Tbl.drop
    rw [List.filter_cons]
    split
    · exact Tbl.above_drop p w
    · exact Tbl.wf_of_above (Tbl.above_drop p w)

/-- A write keeps the canonical form. -/
theorem Tbl.wf_set [DecidableEq α] {t : Tbl α} (k : Nat) (v d : α) (w : Tbl.wf t = true) : Tbl.wf (Tbl.set t k v d) = true := by
  unfold Tbl.set
  split
  · exact Tbl.wf_del k w
  · exact Tbl.wf_put k v w

theorem Tbl.get_above {j k : Nat} {t : Tbl α} (h : k ≤ j) (w : Tbl.above j t = true) : Tbl.get t k = none := by
  cases t with
  | nil => rfl
  | cons e t =>
    obtain ⟨k', v'⟩ := e
    simp only [Tbl.above, Bool.and_eq_true, decide_eq_true_eq] at w
    rw [Tbl.get, if_neg (by omega), if_pos (by omega)]

/-- What has been listed is read. -/
@[simp] theorem Tbl.get_put_same (t : Tbl α) (k : Nat) (v : α) : Tbl.get (Tbl.put t k v) k = some v := by
  induction t with
  | nil => simp [Tbl.put, Tbl.get]
  | cons e t ih =>
    obtain ⟨k', v'⟩ := e
    unfold Tbl.put
    split
    · simp [Tbl.get]
    · split
      · simp [Tbl.get]
      · rw [Tbl.get, if_neg (by omega), if_neg (by omega), ih]

/-- Listing one entry leaves every other. -/
theorem Tbl.get_put_other (t : Tbl α) {k j : Nat} (v : α) (h : j ≠ k) : Tbl.get (Tbl.put t k v) j = Tbl.get t j := by
  induction t with
  | nil =>
    simp [Tbl.put, Tbl.get, h.symm]
  | cons e t ih =>
    obtain ⟨k', v'⟩ := e
    unfold Tbl.put
    split
    · rw [Tbl.get, if_neg h.symm]
      split
      · rw [Tbl.get, if_neg (by omega), if_pos (by omega)]
      · rfl
    · split
      · subst k'
        rw [Tbl.get, if_neg h.symm, Tbl.get, if_neg h.symm]
      · rw [Tbl.get, Tbl.get, ih]

/-- What has been taken off is not read. -/
theorem Tbl.get_del_same {t : Tbl α} (k : Nat) (w : Tbl.wf t = true) : Tbl.get (Tbl.del t k) k = none := by
  induction t with
  | nil => rfl
  | cons e t ih =>
    obtain ⟨k', v'⟩ := e
    unfold Tbl.del
    split
    · subst k'
      exact Tbl.get_above (Nat.le_refl _) w
    · split
      · rw [Tbl.get, if_neg (by omega), if_pos (by omega)]
      · rw [Tbl.get, if_neg (by omega), if_neg (by omega), ih (Tbl.wf_of_above w)]

/-- Taking one entry off leaves every other. -/
theorem Tbl.get_del_other {t : Tbl α} {k j : Nat} (h : j ≠ k) (w : Tbl.wf t = true) : Tbl.get (Tbl.del t k) j = Tbl.get t j := by
  induction t with
  | nil => rfl
  | cons e t ih =>
    obtain ⟨k', v'⟩ := e
    unfold Tbl.del
    split
    · subst k'
      rw [Tbl.get, if_neg h.symm]
      split
      · exact Tbl.get_above (by omega) w
      · rfl
    · split
      · rfl
      · rw [Tbl.get, Tbl.get, ih (Tbl.wf_of_above w)]

/-- What has been written is read. -/
theorem Tbl.getD_set_same [DecidableEq α] {t : Tbl α} (k : Nat) (v d : α) (w : Tbl.wf t = true) :
    Tbl.getD (Tbl.set t k v d) k d = v := by
  unfold Tbl.set Tbl.getD
  split
  · rw [Tbl.get_del_same k w, Option.getD_none, ‹v = d›]
  · rw [Tbl.get_put_same, Option.getD_some]

/-- A write at one key leaves every other. -/
theorem Tbl.get_set_other [DecidableEq α] {t : Tbl α} {k j : Nat} (v d : α) (h : j ≠ k) (w : Tbl.wf t = true) :
    Tbl.get (Tbl.set t k v d) j = Tbl.get t j := by
  unfold Tbl.set
  split
  · exact Tbl.get_del_other h w
  · exact Tbl.get_put_other t v h

end Sys2Proof.Machine
end

