-- ==== Sys2Proof/Laws/State.lean ====
section
/-! SUPPORT. The part of a state that ordinary operations leave alone. -/

namespace Sys2Proof.Machine

/-- What almost every operation leaves alone: the part, the waiting commands and the blown life-cycle fuses. -/
def State.core (s : State) : Part × List Instr × Nat := (s.part, s.pending, s.strong.lc)

theorem State.core_eta (s : State) : (s.part, s.pending, s.strong.lc) = s.core := rfl

theorem State.core_mk x0 x1 x2 x3 x4 x5 x6 x7 x8 x9 x10 x11 x12 x13 x14 x15 x16 x17 x18 x19 x20 x21 x22 x23 x24 x25 x26 x27
    x28 x29 x30 x31 x32 x33 x34 x35 x36 x37 x38 x39 x40 x41 x42 x43 x44 x45 x46 x47 x48 x49 x50 x51 x52 x53 x54 x55 x56 x57
    x58 x59 x60 x61 :
    (State.mk x0 x1 x2 x3 x4 x5 x6 x7 x8 x9 x10 x11 x12 x13 x14 x15 x16 x17 x18 x19 x20 x21 x22 x23 x24 x25 x26 x27 x28 x29
    x30 x31 x32 x33 x34 x35 x36 x37 x38 x39 x40 x41 x42 x43 x44 x45 x46 x47 x48 x49 x50 x51 x52 x53 x54 x55 x56 x57 x58 x59
    x60 x61).core = (x0, x61, x49.lc) := rfl

theorem State.regsOk_eta (s : State) : Tbl.wf s.regs = s.regsOk := rfl

theorem State.regsOk_mk x0 x1 x2 x3 x4 x5 x6 x7 x8 x9 x10 x11 x12 x13 x14 x15 x16 x17 x18 x19 x20 x21 x22 x23 x24 x25 x26 x27
    x28 x29 x30 x31 x32 x33 x34 x35 x36 x37 x38 x39 x40 x41 x42 x43 x44 x45 x46 x47 x48 x49 x50 x51 x52 x53 x54 x55 x56 x57
    x58 x59 x60 x61 :
    (State.mk x0 x1 x2 x3 x4 x5 x6 x7 x8 x9 x10 x11 x12 x13 x14 x15 x16 x17 x18 x19 x20 x21 x22 x23 x24 x25 x26 x27 x28 x29
    x30 x31 x32 x33 x34 x35 x36 x37 x38 x39 x40 x41 x42 x43 x44 x45 x46 x47 x48 x49 x50 x51 x52 x53 x54 x55 x56 x57 x58 x59
    x60 x61).regsOk = Tbl.wf x1 := rfl

/-! ## Reading a field after an update

A write of a register field changes the register file alone, an emission what is sent out alone. -/

@[simp] theorem State.wr_part (s : State) (f : Fld) (l : Loc) (v : Nat) : (s.wr f l v).part = s.part := rfl
@[simp] theorem State.wr_staged (s : State) (f : Fld) (l : Loc) (v : Nat) : (s.wr f l v).staged = s.staged := rfl
@[simp] theorem State.wr_capture (s : State) (f : Fld) (l : Loc) (v : Nat) : (s.wr f l v).capture = s.capture := rfl
@[simp] theorem State.wr_held (s : State) (f : Fld) (l : Loc) (v : Nat) : (s.wr f l v).held = s.held := rfl
@[simp] theorem State.wr_pkg (s : State) (f : Fld) (l : Loc) (v : Nat) : (s.wr f l v).pkg = s.pkg := rfl
@[simp] theorem State.wr_ftime (s : State) (f : Fld) (l : Loc) (v : Nat) : (s.wr f l v).ftime = s.ftime := rfl
@[simp] theorem State.wr_ftAdj (s : State) (f : Fld) (l : Loc) (v : Nat) : (s.wr f l v).ftAdj = s.ftAdj := rfl
@[simp] theorem State.wr_clocks (s : State) (f : Fld) (l : Loc) (v : Nat) : (s.wr f l v).clocks = s.clocks := rfl
@[simp] theorem State.wr_recent (s : State) (f : Fld) (l : Loc) (v : Nat) : (s.wr f l v).recent = s.recent := rfl
@[simp] theorem State.wr_cnt (s : State) (f : Fld) (l : Loc) (v : Nat) : (s.wr f l v).cnt = s.cnt := rfl
@[simp] theorem State.wr_cntOn (s : State) (f : Fld) (l : Loc) (v : Nat) : (s.wr f l v).cntOn = s.cntOn := rfl
@[simp] theorem State.wr_lanes (s : State) (f : Fld) (l : Loc) (v : Nat) : (s.wr f l v).lanes = s.lanes := rfl
@[simp] theorem State.wr_ports (s : State) (f : Fld) (l : Loc) (v : Nat) : (s.wr f l v).ports = s.ports := rfl
@[simp] theorem State.wr_invRate (s : State) (f : Fld) (l : Loc) (v : Nat) : (s.wr f l v).invRate = s.invRate := rfl
@[simp] theorem State.wr_xb (s : State) (f : Fld) (l : Loc) (v : Nat) : (s.wr f l v).xb = s.xb := rfl
@[simp] theorem State.wr_groups (s : State) (f : Fld) (l : Loc) (v : Nat) : (s.wr f l v).groups = s.groups := rfl
@[simp] theorem State.wr_trks (s : State) (f : Fld) (l : Loc) (v : Nat) : (s.wr f l v).trks = s.trks := rfl
@[simp] theorem State.wr_heldRsp (s : State) (f : Fld) (l : Loc) (v : Nat) : (s.wr f l v).heldRsp = s.heldRsp := rfl
@[simp] theorem State.wr_streams (s : State) (f : Fld) (l : Loc) (v : Nat) : (s.wr f l v).streams = s.streams := rfl
@[simp] theorem State.wr_sites (s : State) (f : Fld) (l : Loc) (v : Nat) : (s.wr f l v).sites = s.sites := rfl
@[simp] theorem State.wr_vcss (s : State) (f : Fld) (l : Loc) (v : Nat) : (s.wr f l v).vcss = s.vcss := rfl
@[simp] theorem State.wr_vppbs (s : State) (f : Fld) (l : Loc) (v : Nat) : (s.wr f l v).vppbs = s.vppbs := rfl
@[simp] theorem State.wr_decs (s : State) (f : Fld) (l : Loc) (v : Nat) : (s.wr f l v).decs = s.decs := rfl
@[simp] theorem State.wr_hostDecs (s : State) (f : Fld) (l : Loc) (v : Nat) : (s.wr f l v).hostDecs = s.hostDecs := rfl
@[simp] theorem State.wr_pids (s : State) (f : Fld) (l : Loc) (v : Nat) : (s.wr f l v).pids = s.pids := rfl
@[simp] theorem State.wr_pantryFn (s : State) (f : Fld) (l : Loc) (v : Nat) : (s.wr f l v).pantryFn = s.pantryFn := rfl
@[simp] theorem State.wr_uspCfg (s : State) (f : Fld) (l : Loc) (v : Nat) : (s.wr f l v).uspCfg = s.uspCfg := rfl
@[simp] theorem State.wr_fn1Cfg (s : State) (f : Fld) (l : Loc) (v : Nat) : (s.wr f l v).fn1Cfg = s.fn1Cfg := rfl
@[simp] theorem State.wr_fn2Cfg (s : State) (f : Fld) (l : Loc) (v : Nat) : (s.wr f l v).fn2Cfg = s.fn2Cfg := rfl
@[simp] theorem State.wr_bindSeq (s : State) (f : Fld) (l : Loc) (v : Nat) : (s.wr f l v).bindSeq = s.bindSeq := rfl
@[simp] theorem State.wr_devCap (s : State) (f : Fld) (l : Loc) (v : Nat) : (s.wr f l v).devCap = s.devCap := rfl
@[simp] theorem State.wr_devBiOff (s : State) (f : Fld) (l : Loc) (v : Nat) : (s.wr f l v).devBiOff = s.devBiOff := rfl
@[simp] theorem State.wr_ca (s : State) (f : Fld) (l : Loc) (v : Nat) : (s.wr f l v).ca = s.ca := rfl
@[simp] theorem State.wr_mr (s : State) (f : Fld) (l : Loc) (v : Nat) : (s.wr f l v).mr = s.mr := rfl
@[simp] theorem State.wr_ov (s : State) (f : Fld) (l : Loc) (v : Nat) : (s.wr f l v).ov = s.ov := rfl
@[simp] theorem State.wr_shps (s : State) (f : Fld) (l : Loc) (v : Nat) : (s.wr f l v).shps = s.shps := rfl
@[simp] theorem State.wr_shpWrites (s : State) (f : Fld) (l : Loc) (v : Nat) : (s.wr f l v).shpWrites = s.shpWrites := rfl
@[simp] theorem State.wr_owed (s : State) (f : Fld) (l : Loc) (v : Nat) : (s.wr f l v).owed = s.owed := rfl
@[simp] theorem State.wr_dmq (s : State) (f : Fld) (l : Loc) (v : Nat) : (s.wr f l v).dmq = s.dmq := rfl
@[simp] theorem State.wr_dmEng (s : State) (f : Fld) (l : Loc) (v : Nat) : (s.wr f l v).dmEng = s.dmEng := rfl
@[simp] theorem State.wr_dmReqs (s : State) (f : Fld) (l : Loc) (v : Nat) : (s.wr f l v).dmReqs = s.dmReqs := rfl
@[simp] theorem State.wr_insts (s : State) (f : Fld) (l : Loc) (v : Nat) : (s.wr f l v).insts = s.insts := rfl
@[simp] theorem State.wr_slots (s : State) (f : Fld) (l : Loc) (v : Nat) : (s.wr f l v).slots = s.slots := rfl
@[simp] theorem State.wr_chans (s : State) (f : Fld) (l : Loc) (v : Nat) : (s.wr f l v).chans = s.chans := rfl
@[simp] theorem State.wr_wardens (s : State) (f : Fld) (l : Loc) (v : Nat) : (s.wr f l v).wardens = s.wardens := rfl
@[simp] theorem State.wr_hatches (s : State) (f : Fld) (l : Loc) (v : Nat) : (s.wr f l v).hatches = s.hatches := rfl
@[simp] theorem State.wr_rewritten (s : State) (f : Fld) (l : Loc) (v : Nat) : (s.wr f l v).rewritten = s.rewritten := rfl
@[simp] theorem State.wr_spoilt (s : State) (f : Fld) (l : Loc) (v : Nat) : (s.wr f l v).spoilt = s.spoilt := rfl
@[simp] theorem State.wr_strong (s : State) (f : Fld) (l : Loc) (v : Nat) : (s.wr f l v).strong = s.strong := rfl
@[simp] theorem State.wr_inv (s : State) (f : Fld) (l : Loc) (v : Nat) : (s.wr f l v).inv = s.inv := rfl
@[simp] theorem State.wr_island (s : State) (f : Fld) (l : Loc) (v : Nat) : (s.wr f l v).island = s.island := rfl
@[simp] theorem State.wr_frost (s : State) (f : Fld) (l : Loc) (v : Nat) : (s.wr f l v).frost = s.frost := rfl
@[simp] theorem State.wr_warm (s : State) (f : Fld) (l : Loc) (v : Nat) : (s.wr f l v).warm = s.warm := rfl
@[simp] theorem State.wr_waking (s : State) (f : Fld) (l : Loc) (v : Nat) : (s.wr f l v).waking = s.waking := rfl
@[simp] theorem State.wr_lastWork (s : State) (f : Fld) (l : Loc) (v : Nat) : (s.wr f l v).lastWork = s.lastWork := rfl
@[simp] theorem State.wr_aligning (s : State) (f : Fld) (l : Loc) (v : Nat) : (s.wr f l v).aligning = s.aligning := rfl
@[simp] theorem State.wr_atticSeen (s : State) (f : Fld) (l : Loc) (v : Nat) : (s.wr f l v).atticSeen = s.atticSeen := rfl
@[simp] theorem State.wr_todo (s : State) (f : Fld) (l : Loc) (v : Nat) : (s.wr f l v).todo = s.todo := rfl
@[simp] theorem State.wr_out (s : State) (f : Fld) (l : Loc) (v : Nat) : (s.wr f l v).out = s.out := rfl
@[simp] theorem State.wr_freeCtr (s : State) (f : Fld) (l : Loc) (v : Nat) : (s.wr f l v).freeCtr = s.freeCtr := rfl
@[simp] theorem State.wr_pending (s : State) (f : Fld) (l : Loc) (v : Nat) : (s.wr f l v).pending = s.pending := rfl

@[simp] theorem State.emit_part (s : State) (o : Out) : (s.emit o).part = s.part := rfl
@[simp] theorem State.emit_regs (s : State) (o : Out) : (s.emit o).regs = s.regs := rfl
@[simp] theorem State.emit_staged (s : State) (o : Out) : (s.emit o).staged = s.staged := rfl
@[simp] theorem State.emit_capture (s : State) (o : Out) : (s.emit o).capture = s.capture := rfl
@[simp] theorem State.emit_held (s : State) (o : Out) : (s.emit o).held = s.held := rfl
@[simp] theorem State.emit_pkg (s : State) (o : Out) : (s.emit o).pkg = s.pkg := rfl
@[simp] theorem State.emit_ftime (s : State) (o : Out) : (s.emit o).ftime = s.ftime := rfl
@[simp] theorem State.emit_ftAdj (s : State) (o : Out) : (s.emit o).ftAdj = s.ftAdj := rfl
@[simp] theorem State.emit_clocks (s : State) (o : Out) : (s.emit o).clocks = s.clocks := rfl
@[simp] theorem State.emit_recent (s : State) (o : Out) : (s.emit o).recent = s.recent := rfl
@[simp] theorem State.emit_cnt (s : State) (o : Out) : (s.emit o).cnt = s.cnt := rfl
@[simp] theorem State.emit_cntOn (s : State) (o : Out) : (s.emit o).cntOn = s.cntOn := rfl
@[simp] theorem State.emit_lanes (s : State) (o : Out) : (s.emit o).lanes = s.lanes := rfl
@[simp] theorem State.emit_ports (s : State) (o : Out) : (s.emit o).ports = s.ports := rfl
@[simp] theorem State.emit_invRate (s : State) (o : Out) : (s.emit o).invRate = s.invRate := rfl
@[simp] theorem State.emit_xb (s : State) (o : Out) : (s.emit o).xb = s.xb := rfl
@[simp] theorem State.emit_groups (s : State) (o : Out) : (s.emit o).groups = s.groups := rfl
@[simp] theorem State.emit_trks (s : State) (o : Out) : (s.emit o).trks = s.trks := rfl
@[simp] theorem State.emit_heldRsp (s : State) (o : Out) : (s.emit o).heldRsp = s.heldRsp := rfl
@[simp] theorem State.emit_streams (s : State) (o : Out) : (s.emit o).streams = s.streams := rfl
@[simp] theorem State.emit_sites (s : State) (o : Out) : (s.emit o).sites = s.sites := rfl
@[simp] theorem State.emit_vcss (s : State) (o : Out) : (s.emit o).vcss = s.vcss := rfl
@[simp] theorem State.emit_vppbs (s : State) (o : Out) : (s.emit o).vppbs = s.vppbs := rfl
@[simp] theorem State.emit_decs (s : State) (o : Out) : (s.emit o).decs = s.decs := rfl
@[simp] theorem State.emit_hostDecs (s : State) (o : Out) : (s.emit o).hostDecs = s.hostDecs := rfl
@[simp] theorem State.emit_pids (s : State) (o : Out) : (s.emit o).pids = s.pids := rfl
@[simp] theorem State.emit_pantryFn (s : State) (o : Out) : (s.emit o).pantryFn = s.pantryFn := rfl
@[simp] theorem State.emit_uspCfg (s : State) (o : Out) : (s.emit o).uspCfg = s.uspCfg := rfl
@[simp] theorem State.emit_fn1Cfg (s : State) (o : Out) : (s.emit o).fn1Cfg = s.fn1Cfg := rfl
@[simp] theorem State.emit_fn2Cfg (s : State) (o : Out) : (s.emit o).fn2Cfg = s.fn2Cfg := rfl
@[simp] theorem State.emit_bindSeq (s : State) (o : Out) : (s.emit o).bindSeq = s.bindSeq := rfl
@[simp] theorem State.emit_devCap (s : State) (o : Out) : (s.emit o).devCap = s.devCap := rfl
@[simp] theorem State.emit_devBiOff (s : State) (o : Out) : (s.emit o).devBiOff = s.devBiOff := rfl
@[simp] theorem State.emit_ca (s : State) (o : Out) : (s.emit o).ca = s.ca := rfl
@[simp] theorem State.emit_mr (s : State) (o : Out) : (s.emit o).mr = s.mr := rfl
@[simp] theorem State.emit_ov (s : State) (o : Out) : (s.emit o).ov = s.ov := rfl
@[simp] theorem State.emit_shps (s : State) (o : Out) : (s.emit o).shps = s.shps := rfl
@[simp] theorem State.emit_shpWrites (s : State) (o : Out) : (s.emit o).shpWrites = s.shpWrites := rfl
@[simp] theorem State.emit_owed (s : State) (o : Out) : (s.emit o).owed = s.owed := rfl
@[simp] theorem State.emit_dmq (s : State) (o : Out) : (s.emit o).dmq = s.dmq := rfl
@[simp] theorem State.emit_dmEng (s : State) (o : Out) : (s.emit o).dmEng = s.dmEng := rfl
@[simp] theorem State.emit_dmReqs (s : State) (o : Out) : (s.emit o).dmReqs = s.dmReqs := rfl
@[simp] theorem State.emit_insts (s : State) (o : Out) : (s.emit o).insts = s.insts := rfl
@[simp] theorem State.emit_slots (s : State) (o : Out) : (s.emit o).slots = s.slots := rfl
@[simp] theorem State.emit_chans (s : State) (o : Out) : (s.emit o).chans = s.chans := rfl
@[simp] theorem State.emit_wardens (s : State) (o : Out) : (s.emit o).wardens = s.wardens := rfl
@[simp] theorem State.emit_hatches (s : State) (o : Out) : (s.emit o).hatches = s.hatches := rfl
@[simp] theorem State.emit_rewritten (s : State) (o : Out) : (s.emit o).rewritten = s.rewritten := rfl
@[simp] theorem State.emit_spoilt (s : State) (o : Out) : (s.emit o).spoilt = s.spoilt := rfl
@[simp] theorem State.emit_strong (s : State) (o : Out) : (s.emit o).strong = s.strong := rfl
@[simp] theorem State.emit_inv (s : State) (o : Out) : (s.emit o).inv = s.inv := rfl
@[simp] theorem State.emit_island (s : State) (o : Out) : (s.emit o).island = s.island := rfl
@[simp] theorem State.emit_frost (s : State) (o : Out) : (s.emit o).frost = s.frost := rfl
@[simp] theorem State.emit_warm (s : State) (o : Out) : (s.emit o).warm = s.warm := rfl
@[simp] theorem State.emit_waking (s : State) (o : Out) : (s.emit o).waking = s.waking := rfl
@[simp] theorem State.emit_lastWork (s : State) (o : Out) : (s.emit o).lastWork = s.lastWork := rfl
@[simp] theorem State.emit_aligning (s : State) (o : Out) : (s.emit o).aligning = s.aligning := rfl
@[simp] theorem State.emit_atticSeen (s : State) (o : Out) : (s.emit o).atticSeen = s.atticSeen := rfl
@[simp] theorem State.emit_todo (s : State) (o : Out) : (s.emit o).todo = s.todo := rfl
@[simp] theorem State.emit_freeCtr (s : State) (o : Out) : (s.emit o).freeCtr = s.freeCtr := rfl
@[simp] theorem State.emit_pending (s : State) (o : Out) : (s.emit o).pending = s.pending := rfl

theorem State.ite_ok {c : Prop} [Decidable c] {s t : State} (hs : s.regsOk = true) (ht : t.regsOk = true) :
    (if c then s else t).regsOk = true := by
  split
  · exact hs
  · exact ht

/-- `t` comes after `s` in one life of the part: the same part, the same waiting commands, no fuse blown in `s` whole again. -/
def State.Follows (s t : State) : Prop := t.part = s.part ∧ t.pending = s.pending ∧ s.strong.lc ≤ t.strong.lc

theorem State.Follows.of_core {s t : State} (h : t.core = s.core) : s.Follows t := by
  unfold State.core at h
  injection h with h1 h2
  injection h2 with h2 h3
  exact ⟨h1, h2, h3.ge⟩

theorem State.Follows.rfl (s : State) : s.Follows s := ⟨Eq.refl _, Eq.refl _, Nat.le_refl _⟩

theorem State.Follows.trans {s t u : State} (h : s.Follows t) (k : t.Follows u) : s.Follows u :=
  ⟨k.1.trans h.1, k.2.1.trans h.2.1, h.2.2.trans k.2.2⟩

theorem State.Follows.of_max {s t : State} {n : Nat} (h : t.core = (s.part, s.pending, max s.strong.lc n)) : s.Follows t := by
  unfold State.core at h
  injection h with h1 h2
  injection h2 with h2 h3
  exact ⟨h1, h2, by rw [h3]; exact Nat.le_max_left _ _⟩

end Sys2Proof.Machine
end

