-- ==== Sys2Proof/Laws/Ops.lean ====
section
/-! SUPPORT. What the operations of Machine/Ops.lean leave alone: the part, the waiting commands, the blown life-cycle fuses, and the
canonical form of the register file. -/

namespace Sys2Proof.Machine
set_option linter.unusedSimpArgs false
set_option linter.unusedVariables false
set_option linter.unreachableTactic false
set_option linter.unusedTactic false
set_option linter.style.nameCheck false

theorem State.wr_core (s : State) (f : Fld) (l : Loc) (v : Nat) : (State.wr s f l v).core = s.core := by
  rfl

theorem State.on_core (s : State) (f : Fld) (l : Loc) : (State.on s f l).core = s.core := by
  simp only [State.on, ↓State.wr_core, State.core_mk, State.core_eta, ↓apply_ite State.core, ite_self, implies_true, eq_self]

theorem State.off_core (s : State) (f : Fld) (l : Loc) : (State.off s f l).core = s.core := by
  simp only [State.off, ↓State.wr_core, State.core_mk, State.core_eta, ↓apply_ite State.core, ite_self, implies_true, eq_self]

theorem State.wrB_core (s : State) (f : Fld) (l : Loc) (b : Bool) : (State.wrB s f l b).core = s.core := by
  simp only [State.wrB, ↓State.wr_core, State.core_mk, State.core_eta, ↓apply_ite State.core, ite_self, implies_true, eq_self]

theorem State.add_core (s : State) (f : Fld) (l : Loc) (n : Nat) : (State.add s f l n).core = s.core := by
  simp only [State.add, ↓State.wr_core, State.core_mk, State.core_eta, ↓apply_ite State.core, ite_self, implies_true, eq_self]

theorem State.inc_core (s : State) (f : Fld) (l : Loc) : (State.inc s f l).core = s.core := by
  simp only [State.inc, ↓State.add_core, State.core_mk, State.core_eta, ↓apply_ite State.core, ite_self, implies_true, eq_self]

theorem State.rstFld_core (s : State) (f : Fld) (l : Loc) : (State.rstFld s f l).core = s.core := by
  simp only [State.rstFld, ↓State.wr_core, State.core_mk, State.core_eta, ↓apply_ite State.core, ite_self, implies_true, eq_self]

theorem State.forEach_core {α : Type} (s : State) (xs : List α) (g : State → α → State) (h : ∀ s a, (g s a).core = s.core) :
    (s.forEach xs g).core = s.core := by
  unfold State.forEach
  induction xs generalizing s with
  | nil => rfl
  | cons a t ih => rw [List.foldl_cons, ih, h]

theorem State.when_core (s : State) (b : Bool) (g : State → State) (h : ∀ s, (g s).core = s.core) : (s.when b g).core = s.core := by
  unfold State.when
  split
  · exact h s
  · rfl

theorem State.foldPair_core {α β : Type} (xs : List α) (g : β × State → α → β × State)
    (h : ∀ r a, (g r a).2.core = r.2.core) (r : β × State) : (xs.foldl g r).2.core = r.2.core := by
  induction xs generalizing r with
  | nil => rfl
  | cons a t ih => rw [List.foldl_cons, ih, h]

theorem State.wr64_core (s : State) (fl fh : Fld) (l : Loc) (v : Nat) : (State.wr64 s fl fh l v).core = s.core := by
  simp only [State.wr64, ↓State.wr_core, State.core_mk, State.core_eta, ↓apply_ite State.core, ite_self, implies_true, eq_self]

theorem State.emit_core (s : State) (o : Out) : (State.emit s o).core = s.core := by
  rfl

theorem State.useFree_core (s : State) : (State.useFree s).core = s.core := by
  rfl

theorem State.setDom_core (s : State) (d k v : Nat) : (State.setDom s d k v).core = s.core := by
  simp only [State.setDom, ↓State.wr_core, State.core_mk, State.core_eta, ↓apply_ite State.core, ite_self, implies_true, eq_self]

theorem State.wake_core (s : State) (d k : Nat) : (State.wake s d k).core = s.core := by
  simp only [State.wake, ↓State.setDom_core, State.core_mk, State.core_eta, ↓apply_ite State.core, ite_self, implies_true, eq_self]

theorem State.irqWarden_core (s : State) (d core : Nat) : (State.irqWarden s d core).core = s.core := by
  simp only [State.irqWarden, ↓State.wake_core, ↓State.emit_core, State.core_mk, State.core_eta, ↓apply_ite State.core, ite_self, implies_true, eq_self]

theorem State.aligned_core (s : State) (d : Nat) : (State.aligned s d).core = s.core := by
  rfl

theorem State.cntBump_core (s : State) (d k n : Nat) : (State.cntBump s d k n).core = s.core := by
  simp only [State.cntBump, ↓State.on_core, State.core_mk, State.core_eta, ↓apply_ite State.core, ite_self, implies_true, eq_self]

theorem State.countClass_core (s : State) (d cls : Nat) : (State.countClass s d cls).core = s.core := by
  unfold State.countClass
  repeat' split
  all_goals simp only [↓State.inc_core, ↓State.on_core, State.core_mk, State.core_eta, ↓apply_ite State.core, ite_self, implies_true, eq_self]

theorem State.logPut_core (s : State) (d blk bit cls unit detail : Nat) : (State.logPut s d blk bit cls unit detail).core = s.core := by
  simp only [State.logPut, ↓State.wr_core, ↓State.countClass_core, ↓State.on_core, State.core_mk, State.core_eta, ↓apply_ite State.core, ite_self, implies_true, eq_self]

theorem State.cntIrq_core (s : State) (d : Nat) : (State.cntIrq s d).core = s.core := by
  simp only [State.cntIrq, ↓State.on_core, ↓State.irqWarden_core, ↓State.inc_core, ↓State.logPut_core, ↓State.forEach_core, ↓State.cntBump_core, State.core_mk, State.core_eta, ↓apply_ite State.core, ite_self, implies_true, eq_self]

theorem State.cntAdd_core (s : State) (d k n : Nat) : (State.cntAdd s d k n).core = s.core := by
  simp only [State.cntAdd, ↓State.cntBump_core, ↓State.cntIrq_core, State.core_mk, State.core_eta, ↓apply_ite State.core, ite_self, implies_true, eq_self]

theorem State.pmI_core (s : State) (d ev u n : Nat) (inst : Option Nat) : (State.pmI s d ev u n inst).core = s.core := by
  simp only [State.pmI, ↓State.forEach_core, ↓State.cntAdd_core, State.core_mk, State.core_eta, ↓apply_ite State.core, ite_self, implies_true, eq_self]

theorem State.pm_core (s : State) (d ev u n : Nat) : (State.pm s d ev u n).core = s.core := by
  simp only [State.pm, ↓State.pmI_core, State.core_mk, State.core_eta, ↓apply_ite State.core, ite_self, implies_true, eq_self]

theorem State.log_core (s : State) (d blk bit cls unit detail : Nat) : (State.log s d blk bit cls unit detail).core = s.core := by
  simp only [State.log, ↓State.inc_core, ↓State.logPut_core, ↓State.pm_core, State.core_mk, State.core_eta, ↓apply_ite State.core, ite_self, implies_true, eq_self]

theorem State.evD_core (s : State) (f : Fld) (l : Loc) (unit cls detail : Nat) : (State.evD s f l unit cls detail).core = s.core := by
  simp only [State.evD, ↓State.on_core, ↓State.log_core, State.core_mk, State.core_eta, ↓apply_ite State.core, ite_self, implies_true, eq_self]

theorem State.ev_core (s : State) (f : Fld) (l : Loc) (unit : Nat) : (State.ev s f l unit).core = s.core := by
  simp only [State.ev, ↓State.evD_core, State.core_mk, State.core_eta, ↓apply_ite State.core, ite_self, implies_true, eq_self]

theorem State.evC_core (s : State) (f : Fld) (l : Loc) (unit cls : Nat) : (State.evC s f l unit cls).core = s.core := by
  simp only [State.evC, ↓State.evD_core, State.core_mk, State.core_eta, ↓apply_ite State.core, ite_self, implies_true, eq_self]

theorem State.gated_core (s : State) (r : Reg) (l : Loc) (f : State → State) (hf : ∀ s, (f s).core = s.core) : (State.gated s r l f).core = s.core := by
  simp only [State.gated, hf, State.core_mk, State.core_eta, ↓apply_ite State.core, ite_self, implies_true, eq_self]

theorem State.mend_core (s : State) (d table i : Nat) : (State.mend s d table i).core = s.core := by
  simp only [State.mend, State.core_mk, State.core_eta, ↓apply_ite State.core, ite_self, implies_true, eq_self]

theorem State.spoil_core (s : State) (d : Nat) (x : Spoilt) : (State.spoil s d x).core = s.core := by
  simp only [State.spoil, ↓State.mend_core, State.core_mk, State.core_eta, ↓apply_ite State.core, ite_self, implies_true, eq_self]

theorem State.wr_ok (s : State) (f : Fld) (l : Loc) (v : Nat) (hok : s.regsOk = true) : (State.wr s f l v).regsOk = true :=
  Tbl.wf_set _ _ _ hok

theorem State.on_ok (s : State) (f : Fld) (l : Loc) (hok : s.regsOk = true) : (State.on s f l).regsOk = true := by
  simp only [State.on, State.wr_ok, State.regsOk_mk, State.regsOk_eta, apply_ite State.regsOk, ite_self, implies_true, eq_self, hok]

theorem State.off_ok (s : State) (f : Fld) (l : Loc) (hok : s.regsOk = true) : (State.off s f l).regsOk = true := by
  simp only [State.off, State.wr_ok, State.regsOk_mk, State.regsOk_eta, apply_ite State.regsOk, ite_self, implies_true, eq_self, hok]

theorem State.wrB_ok (s : State) (f : Fld) (l : Loc) (b : Bool) (hok : s.regsOk = true) : (State.wrB s f l b).regsOk = true := by
  simp only [State.wrB, State.wr_ok, State.regsOk_mk, State.regsOk_eta, apply_ite State.regsOk, ite_self, implies_true, eq_self, hok]

theorem State.add_ok (s : State) (f : Fld) (l : Loc) (n : Nat) (hok : s.regsOk = true) : (State.add s f l n).regsOk = true := by
  simp only [State.add, State.wr_ok, State.regsOk_mk, State.regsOk_eta, apply_ite State.regsOk, ite_self, implies_true, eq_self, hok]

theorem State.inc_ok (s : State) (f : Fld) (l : Loc) (hok : s.regsOk = true) : (State.inc s f l).regsOk = true := by
  simp only [State.inc, State.add_ok, State.regsOk_mk, State.regsOk_eta, apply_ite State.regsOk, ite_self, implies_true, eq_self, hok]

theorem State.rstFld_ok (s : State) (f : Fld) (l : Loc) (hok : s.regsOk = true) : (State.rstFld s f l).regsOk = true := by
  simp only [State.rstFld, State.wr_ok, State.regsOk_mk, State.regsOk_eta, apply_ite State.regsOk, ite_self, implies_true, eq_self, hok]

theorem State.forEach_ok {α : Type} (s : State) (xs : List α) (g : State → α → State)
    (hg : ∀ s a, State.regsOk s = true → (g s a).regsOk = true) (hok : s.regsOk = true) : (s.forEach xs g).regsOk = true := by
  unfold State.forEach
  induction xs generalizing s with
  | nil => exact hok
  | cons a t ih => exact ih _ (hg _ _ hok)

theorem State.when_ok (s : State) (b : Bool) (g : State → State) (hg : ∀ s, State.regsOk s = true → (g s).regsOk = true)
    (hok : s.regsOk = true) : (s.when b g).regsOk = true := by
  unfold State.when
  split
  · exact hg s hok
  · exact hok

theorem State.foldPair_ok {α β : Type} (xs : List α) (g : β × State → α → β × State)
    (hg : ∀ r a, State.regsOk r.2 = true → (g r a).2.regsOk = true) (r : β × State) (hok : r.2.regsOk = true) :
    (xs.foldl g r).2.regsOk = true := by
  induction xs generalizing r with
  | nil => exact hok
  | cons a t ih => exact ih _ (hg _ _ hok)

theorem State.wr64_ok (s : State) (fl fh : Fld) (l : Loc) (v : Nat) (hok : s.regsOk = true) : (State.wr64 s fl fh l v).regsOk = true := by
  simp only [State.wr64, State.wr_ok, State.regsOk_mk, State.regsOk_eta, apply_ite State.regsOk, ite_self, implies_true, eq_self, hok]

theorem State.emit_ok (s : State) (o : Out) (hok : s.regsOk = true) : (State.emit s o).regsOk = true := by
  simp only [State.emit, State.regsOk_mk, State.regsOk_eta, apply_ite State.regsOk, ite_self, implies_true, eq_self, hok]

theorem State.useFree_ok (s : State) (hok : s.regsOk = true) : (State.useFree s).regsOk = true := by
  simp only [State.useFree, State.regsOk_mk, State.regsOk_eta, apply_ite State.regsOk, ite_self, implies_true, eq_self, hok]

theorem State.setDom_ok (s : State) (d k v : Nat) (hok : s.regsOk = true) : (State.setDom s d k v).regsOk = true := by
  simp only [State.setDom, State.wr_ok, State.regsOk_mk, State.regsOk_eta, apply_ite State.regsOk, ite_self, implies_true, eq_self, hok]

theorem State.wake_ok (s : State) (d k : Nat) (hok : s.regsOk = true) : (State.wake s d k).regsOk = true := by
  simp only [State.wake, State.setDom_ok, State.regsOk_mk, State.regsOk_eta, apply_ite State.regsOk, ite_self, implies_true, eq_self, hok]

theorem State.irqWarden_ok (s : State) (d core : Nat) (hok : s.regsOk = true) : (State.irqWarden s d core).regsOk = true := by
  simp only [State.irqWarden, State.wake_ok, State.emit_ok, State.regsOk_mk, State.regsOk_eta, apply_ite State.regsOk, ite_self, implies_true, eq_self, hok]

theorem State.aligned_ok (s : State) (d : Nat) (hok : s.regsOk = true) : (State.aligned s d).regsOk = true := by
  simp only [State.aligned, State.on_ok, State.regsOk_mk, State.regsOk_eta, apply_ite State.regsOk, ite_self, implies_true, eq_self, hok]

theorem State.cntBump_ok (s : State) (d k n : Nat) (hok : s.regsOk = true) : (State.cntBump s d k n).regsOk = true := by
  simp only [State.cntBump, State.on_ok, State.regsOk_mk, State.regsOk_eta, apply_ite State.regsOk, ite_self, implies_true, eq_self, hok]

theorem State.countClass_ok (s : State) (d cls : Nat) (hok : s.regsOk = true) : (State.countClass s d cls).regsOk = true := by
  unfold State.countClass
  repeat' split
  all_goals simp only [State.inc_ok, State.on_ok, State.regsOk_mk, State.regsOk_eta, apply_ite State.regsOk, ite_self, implies_true, eq_self, hok]

theorem State.logPut_ok (s : State) (d blk bit cls unit detail : Nat) (hok : s.regsOk = true) : (State.logPut s d blk bit cls unit detail).regsOk = true := by
  unfold State.logPut
  repeat' (first | with_reducible assumption | with_reducible (apply State.wr_ok) | with_reducible (apply State.countClass_ok) | with_reducible (apply State.on_ok) | with_reducible (apply State.ite_ok) | split | (intro _ _ hok) | (intro _ hok) | (intro _ _ _ hok) | simp only [State.regsOk_mk, State.regsOk_eta])

theorem State.cntIrq_ok (s : State) (d : Nat) (hok : s.regsOk = true) : (State.cntIrq s d).regsOk = true := by
  unfold State.cntIrq
  extract_lets
  repeat' (first | with_reducible assumption | with_reducible (apply State.on_ok) | with_reducible (apply State.irqWarden_ok) | with_reducible (apply State.inc_ok) | with_reducible (apply State.logPut_ok) | with_reducible (apply State.forEach_ok) | with_reducible (apply State.cntBump_ok) | with_reducible (apply State.ite_ok) | split | (intro _ _ hok) | (intro _ hok) | (intro _ _ _ hok) | simp only [State.regsOk_mk, State.regsOk_eta])

theorem State.cntAdd_ok (s : State) (d k n : Nat) (hok : s.regsOk = true) : (State.cntAdd s d k n).regsOk = true := by
  simp only [State.cntAdd, State.cntBump_ok, State.cntIrq_ok, State.regsOk_mk, State.regsOk_eta, apply_ite State.regsOk, ite_self, implies_true, eq_self, hok]

theorem State.pmI_ok (s : State) (d ev u n : Nat) (inst : Option Nat) (hok : s.regsOk = true) : (State.pmI s d ev u n inst).regsOk = true := by
  unfold State.pmI
  repeat' (first | assumption | simp only [State.forEach_ok, State.cntAdd_ok, State.regsOk_mk, State.regsOk_eta, apply_ite State.regsOk, ite_self, implies_true, eq_self, hok] | split | (refine State.forEach_ok _ _ _ (fun s a hok => ?_) ?_))

theorem State.pm_ok (s : State) (d ev u n : Nat) (hok : s.regsOk = true) : (State.pm s d ev u n).regsOk = true := by
  simp only [State.pm, State.pmI_ok, State.regsOk_mk, State.regsOk_eta, apply_ite State.regsOk, ite_self, implies_true, eq_self, hok]

theorem State.log_ok (s : State) (d blk bit cls unit detail : Nat) (hok : s.regsOk = true) : (State.log s d blk bit cls unit detail).regsOk = true := by
  simp only [State.log, State.inc_ok, State.logPut_ok, State.pm_ok, State.regsOk_mk, State.regsOk_eta, apply_ite State.regsOk, ite_self, implies_true, eq_self, hok]

theorem State.evD_ok (s : State) (f : Fld) (l : Loc) (unit cls detail : Nat) (hok : s.regsOk = true) : (State.evD s f l unit cls detail).regsOk = true := by
  simp only [State.evD, State.on_ok, State.log_ok, State.regsOk_mk, State.regsOk_eta, apply_ite State.regsOk, ite_self, implies_true, eq_self, hok]

theorem State.ev_ok (s : State) (f : Fld) (l : Loc) (unit : Nat) (hok : s.regsOk = true) : (State.ev s f l unit).regsOk = true := by
  simp only [State.ev, State.evD_ok, State.regsOk_mk, State.regsOk_eta, apply_ite State.regsOk, ite_self, implies_true, eq_self, hok]

theorem State.evC_ok (s : State) (f : Fld) (l : Loc) (unit cls : Nat) (hok : s.regsOk = true) : (State.evC s f l unit cls).regsOk = true := by
  simp only [State.evC, State.evD_ok, State.regsOk_mk, State.regsOk_eta, apply_ite State.regsOk, ite_self, implies_true, eq_self, hok]

theorem State.gated_ok (s : State) (r : Reg) (l : Loc) (f : State → State) (hf : ∀ s, State.regsOk s = true → (f s).regsOk = true) (hok : s.regsOk = true) : (State.gated s r l f).regsOk = true := by
  simp only [State.gated, hf, State.regsOk_mk, State.regsOk_eta, apply_ite State.regsOk, ite_self, implies_true, eq_self, hok]

theorem State.mend_ok (s : State) (d table i : Nat) (hok : s.regsOk = true) : (State.mend s d table i).regsOk = true := by
  simp only [State.mend, State.regsOk_mk, State.regsOk_eta, apply_ite State.regsOk, ite_self, implies_true, eq_self, hok]

theorem State.spoil_ok (s : State) (d : Nat) (x : Spoilt) (hok : s.regsOk = true) : (State.spoil s d x).regsOk = true := by
  simp only [State.spoil, State.mend_ok, State.regsOk_mk, State.regsOk_eta, apply_ite State.regsOk, ite_self, implies_true, eq_self, hok]

end Sys2Proof.Machine
end

