-- ==== Sys2Proof/Laws/LaneOps.lean ====
section
/-! SUPPORT. What the operations of Machine/LaneOps.lean leave alone: the part, the waiting commands, the blown life-cycle fuses, and the
canonical form of the register file. -/

namespace Sys2Proof.Machine
set_option linter.unusedSimpArgs false
set_option linter.unusedVariables false
set_option linter.unreachableTactic false
set_option linter.unusedTactic false
set_option linter.style.nameCheck false

theorem State.stage_core (s : State) (f : Fld) (l : Loc) (v : Nat) : (State.stage s f l v).core = s.core := by
  simp only [State.stage, State.core_mk, State.core_eta, ↓apply_ite State.core, ite_self, implies_true, eq_self]

theorem State.commitFld_core (s : State) (f : Fld) (l : Loc) : (State.commitFld s f l).core = s.core := by
  unfold State.commitFld
  repeat' split
  all_goals simp only [↓State.wr_core, State.core_mk, State.core_eta, ↓apply_ite State.core, ite_self, implies_true, eq_self]

theorem State.commitReg_core (s : State) (r : Reg) (l : Loc) : (State.commitReg s r l).core = s.core := by
  simp only [State.commitReg, ↓State.forEach_core, ↓State.commitFld_core, State.core_mk, State.core_eta, ↓apply_ite State.core, ite_self, implies_true, eq_self]

theorem State.updLane_core (s : State) (d q l : Nat) (f : LaneSt → LaneSt) : (State.updLane s d q l f).core = s.core := by
  simp only [State.updLane, State.core_mk, State.core_eta, ↓apply_ite State.core, ite_self, implies_true, eq_self]

theorem State.abortMargin_core (s : State) (d q l : Nat) : (State.abortMargin s d q l).core = s.core := by
  unfold State.abortMargin
  repeat' split
  all_goals simp only [↓State.updLane_core, ↓State.on_core, ↓State.wr_core, ↓State.off_core, State.core_mk, State.core_eta, ↓apply_ite State.core, ite_self, implies_true, eq_self]

theorem State.toStage_core (s : State) (d q l st : Nat) : (State.toStage s d q l st).core = s.core := by
  unfold State.toStage
  repeat' split
  all_goals simp only [↓State.abortMargin_core, ↓State.wr_core, ↓State.off_core, ↓State.updLane_core, ↓State.forEach_core, ↓State.commitReg_core, ↓State.pm_core, ↓State.on_core, State.core_mk, State.core_eta, ↓apply_ite State.core, ite_self, implies_true, eq_self]

theorem State.quadToOff_core (s : State) (d q : Nat) : (State.quadToOff s d q).core = s.core := by
  simp only [State.quadToOff, ↓State.forEach_core, ↓State.toStage_core, State.core_mk, State.core_eta, ↓apply_ite State.core, ite_self, implies_true, eq_self]

theorem State.setBaro_core (s : State) (d q l v : Nat) : (State.setBaro s d q l v).core = s.core := by
  simp only [State.setBaro, ↓State.wr_core, State.core_mk, State.core_eta, ↓apply_ite State.core, ite_self, implies_true, eq_self]

theorem State.eqTry_core (s : State) (d q l : Nat) (p : EqPhase) (c : EqSetting) : (State.eqTry s d q l p c).core = s.core := by
  simp only [State.eqTry, ↓State.updLane_core, ↓State.emit_core, State.core_mk, State.core_eta, ↓apply_ite State.core, ite_self, implies_true, eq_self]

theorem State.eqFull_core (s : State) (d q l : Nat) : (State.eqFull s d q l).core = s.core := by
  simp only [State.eqFull, ↓State.updLane_core, ↓State.eqTry_core, State.core_mk, State.core_eta, ↓apply_ite State.core, ite_self, implies_true, eq_self]

theorem State.showEq_core (s : State) (d q l : Nat) : (State.showEq s d q l).core = s.core := by
  simp only [State.showEq, ↓State.wrB_core, ↓State.wr_core, State.core_mk, State.core_eta, ↓apply_ite State.core, ite_self, implies_true, eq_self]

theorem State.setRate_core (s : State) (d q r : Nat) : (State.setRate s d q r).core = s.core := by
  simp only [State.setRate, ↓State.wr_core, ↓State.forEach_core, ↓State.showEq_core, State.core_mk, State.core_eta, ↓apply_ite State.core, ite_self, implies_true, eq_self]

theorem State.eqBegin_core (s : State) (d q l rate : Nat) (serial : Option Nat) (noEq : Bool) : (State.eqBegin s d q l rate serial noEq).core = s.core := by
  simp only [State.eqBegin, ↓State.updLane_core, ↓State.eqTry_core, ↓State.eqFull_core, State.core_mk, State.core_eta, ↓apply_ite State.core, ite_self, implies_true, eq_self]
  repeat' split
  all_goals (try simp only [↓State.updLane_core, ↓State.eqTry_core, ↓State.eqFull_core, State.core_mk, State.core_eta, ↓apply_ite State.core, ite_self, implies_true, eq_self])

theorem State.toTrain_core (s : State) (d q l rate : Nat) (serial : Option Nat) (noEq : Bool) : (State.toTrain s d q l rate serial noEq).core = s.core := by
  simp only [State.toTrain, ↓State.setRate_core, ↓State.toStage_core, ↓State.updLane_core, ↓State.eqBegin_core, State.core_mk, State.core_eta, ↓apply_ite State.core, ite_self, implies_true, eq_self]

theorem State.eqFinish_core (s : State) (d q l : Nat) (serial : Option Nat) (reused expired : Bool) : (State.eqFinish s d q l serial reused expired).core = s.core := by
  unfold State.eqFinish
  repeat' (first | with_reducible rfl | simp only [↓State.emit_core, ↓State.setBaro_core, ↓State.updLane_core, ↓State.showEq_core, ↓State.toStage_core, ↓State.ev_core, State.core_mk, State.core_eta, ↓apply_ite State.core, ite_self, implies_true, eq_self] | split)

theorem State.eqEval_core (s : State) (d q l : Nat) (r : Option Nat) (serial : Option Nat) : (State.eqEval s d q l r serial).1.core = s.core := by
  simp only [State.eqEval, ↓State.setBaro_core, ↓State.updLane_core, ↓State.eqTry_core, ↓State.eqFull_core, ↓State.eqFinish_core, State.core_mk, State.core_eta, ↓apply_ite State.core, ite_self, implies_true, eq_self]
  repeat' split
  all_goals (try simp only [↓State.setBaro_core, ↓State.updLane_core, ↓State.eqTry_core, ↓State.eqFull_core, ↓State.eqFinish_core, State.core_mk, State.core_eta, ↓apply_ite State.core, ite_self, implies_true, eq_self])

theorem State.eqEval_core' {s : State} {d q l : Nat} {r : Option Nat} {serial : Option Nat} {xs xa}
    (hx : (State.eqEval s d q l r serial) = (xs, xa)) : xs.core = s.core := by
  have := State.eqEval_core s d q l r serial
  rw [hx] at this
  exact this

theorem State.stage_ok (s : State) (f : Fld) (l : Loc) (v : Nat) (hok : s.regsOk = true) : (State.stage s f l v).regsOk = true := by
  simp only [State.stage, State.regsOk_mk, State.regsOk_eta, apply_ite State.regsOk, ite_self, implies_true, eq_self, hok]

theorem State.commitFld_ok (s : State) (f : Fld) (l : Loc) (hok : s.regsOk = true) : (State.commitFld s f l).regsOk = true := by
  unfold State.commitFld
  repeat' split
  all_goals simp only [State.wr_ok, State.regsOk_mk, State.regsOk_eta, apply_ite State.regsOk, ite_self, implies_true, eq_self, hok]

theorem State.commitReg_ok (s : State) (r : Reg) (l : Loc) (hok : s.regsOk = true) : (State.commitReg s r l).regsOk = true := by
  unfold State.commitReg
  repeat' (first | with_reducible assumption | with_reducible (apply State.forEach_ok) | with_reducible (apply State.commitFld_ok) | with_reducible (apply State.ite_ok) | split | (intro _ _ hok) | (intro _ hok) | (intro _ _ _ hok) | simp only [State.regsOk_mk, State.regsOk_eta])

theorem State.updLane_ok (s : State) (d q l : Nat) (f : LaneSt → LaneSt) (hok : s.regsOk = true) : (State.updLane s d q l f).regsOk = true := by
  simp only [State.updLane, State.regsOk_mk, State.regsOk_eta, apply_ite State.regsOk, ite_self, implies_true, eq_self, hok]

theorem State.abortMargin_ok (s : State) (d q l : Nat) (hok : s.regsOk = true) : (State.abortMargin s d q l).regsOk = true := by
  unfold State.abortMargin
  extract_lets
  repeat' (first | with_reducible assumption | with_reducible (apply State.updLane_ok) | with_reducible (apply State.on_ok) | with_reducible (apply State.wr_ok) | with_reducible (apply State.off_ok) | with_reducible (apply State.ite_ok) | split | (intro _ _ hok) | (intro _ hok) | (intro _ _ _ hok) | simp only [State.regsOk_mk, State.regsOk_eta])

theorem State.toStage_ok (s : State) (d q l st : Nat) (hok : s.regsOk = true) : (State.toStage s d q l st).regsOk = true := by
  unfold State.toStage
  repeat' (first | with_reducible assumption | with_reducible (apply State.abortMargin_ok) | with_reducible (apply State.wr_ok) | with_reducible (apply State.off_ok) | with_reducible (apply State.updLane_ok) | with_reducible (apply State.forEach_ok) | with_reducible (apply State.commitReg_ok) | with_reducible (apply State.pm_ok) | with_reducible (apply State.on_ok) | with_reducible (apply State.ite_ok) | split | (intro _ _ hok) | (intro _ hok) | (intro _ _ _ hok) | simp only [State.regsOk_mk, State.regsOk_eta])

theorem State.quadToOff_ok (s : State) (d q : Nat) (hok : s.regsOk = true) : (State.quadToOff s d q).regsOk = true := by
  unfold State.quadToOff
  repeat' (first | with_reducible assumption | with_reducible (apply State.forEach_ok) | with_reducible (apply State.toStage_ok) | with_reducible (apply State.ite_ok) | split | (intro _ _ hok) | (intro _ hok) | (intro _ _ _ hok) | simp only [State.regsOk_mk, State.regsOk_eta])

theorem State.setBaro_ok (s : State) (d q l v : Nat) (hok : s.regsOk = true) : (State.setBaro s d q l v).regsOk = true := by
  simp only [State.setBaro, State.wr_ok, State.regsOk_mk, State.regsOk_eta, apply_ite State.regsOk, ite_self, implies_true, eq_self, hok]

theorem State.eqTry_ok (s : State) (d q l : Nat) (p : EqPhase) (c : EqSetting) (hok : s.regsOk = true) : (State.eqTry s d q l p c).regsOk = true := by
  simp only [State.eqTry, State.updLane_ok, State.emit_ok, State.regsOk_mk, State.regsOk_eta, apply_ite State.regsOk, ite_self, implies_true, eq_self, hok]

theorem State.eqFull_ok (s : State) (d q l : Nat) (hok : s.regsOk = true) : (State.eqFull s d q l).regsOk = true := by
  simp only [State.eqFull, State.updLane_ok, State.eqTry_ok, State.regsOk_mk, State.regsOk_eta, apply_ite State.regsOk, ite_self, implies_true, eq_self, hok]

theorem State.showEq_ok (s : State) (d q l : Nat) (hok : s.regsOk = true) : (State.showEq s d q l).regsOk = true := by
  unfold State.showEq
  extract_lets
  repeat' (first | with_reducible assumption | with_reducible (apply State.wrB_ok) | with_reducible (apply State.wr_ok) | with_reducible (apply State.ite_ok) | split | (intro _ _ hok) | (intro _ hok) | (intro _ _ _ hok) | simp only [State.regsOk_mk, State.regsOk_eta])

theorem State.setRate_ok (s : State) (d q r : Nat) (hok : s.regsOk = true) : (State.setRate s d q r).regsOk = true := by
  unfold State.setRate
  repeat' (first | with_reducible assumption | with_reducible (apply State.wr_ok) | with_reducible (apply State.forEach_ok) | with_reducible (apply State.showEq_ok) | with_reducible (apply State.ite_ok) | split | (intro _ _ hok) | (intro _ hok) | (intro _ _ _ hok) | simp only [State.regsOk_mk, State.regsOk_eta])

theorem State.eqBegin_ok (s : State) (d q l rate : Nat) (serial : Option Nat) (noEq : Bool) (hok : s.regsOk = true) : (State.eqBegin s d q l rate serial noEq).regsOk = true := by
  unfold State.eqBegin
  repeat' (first | with_reducible assumption | with_reducible (apply State.updLane_ok) | with_reducible (apply State.eqTry_ok) | with_reducible (apply State.eqFull_ok) | with_reducible (apply State.ite_ok) | split | (intro _ _ hok) | (intro _ hok) | (intro _ _ _ hok) | simp only [State.regsOk_mk, State.regsOk_eta])

theorem State.toTrain_ok (s : State) (d q l rate : Nat) (serial : Option Nat) (noEq : Bool) (hok : s.regsOk = true) : (State.toTrain s d q l rate serial noEq).regsOk = true := by
  unfold State.toTrain
  extract_lets
  repeat' (first | with_reducible assumption | with_reducible (apply State.setRate_ok) | with_reducible (apply State.toStage_ok) | with_reducible (apply State.updLane_ok) | with_reducible (apply State.eqBegin_ok) | with_reducible (apply State.ite_ok) | split | (intro _ _ hok) | (intro _ hok) | (intro _ _ _ hok) | simp only [State.regsOk_mk, State.regsOk_eta])

theorem State.eqFinish_ok (s : State) (d q l : Nat) (serial : Option Nat) (reused expired : Bool) (hok : s.regsOk = true) : (State.eqFinish s d q l serial reused expired).regsOk = true := by
  unfold State.eqFinish
  repeat' (first | with_reducible assumption | with_reducible (apply State.emit_ok) | with_reducible (apply State.setBaro_ok) | with_reducible (apply State.updLane_ok) | with_reducible (apply State.showEq_ok) | with_reducible (apply State.toStage_ok) | with_reducible (apply State.ev_ok) | with_reducible (apply State.ite_ok) | split | (intro _ _ hok) | (intro _ hok) | (intro _ _ _ hok) | simp only [State.regsOk_mk, State.regsOk_eta])

theorem State.eqEval_ok (s : State) (d q l : Nat) (r : Option Nat) (serial : Option Nat) (hok : s.regsOk = true) : (State.eqEval s d q l r serial).1.regsOk = true := by
  unfold State.eqEval
  repeat' (first | with_reducible assumption | with_reducible (apply State.setBaro_ok) | with_reducible (apply State.updLane_ok) | with_reducible (apply State.eqTry_ok) | with_reducible (apply State.eqFull_ok) | with_reducible (apply State.eqFinish_ok) | with_reducible (apply State.ite_ok) | split | (intro _ _ hok) | (intro _ hok) | (intro _ _ _ hok) | simp only [State.regsOk_mk, State.regsOk_eta])

theorem State.eqEval_ok' {s : State} {d q l : Nat} {r : Option Nat} {serial : Option Nat} {xs xa}
    (hx : State.eqEval s d q l r serial = (xs, xa)) (hok : s.regsOk = true) : xs.regsOk = true := by
  have := State.eqEval_ok s d q l r serial hok
  rw [hx] at this
  exact this

end Sys2Proof.Machine
end

