-- ==== Sys2Proof/Laws/Path.lean ====
section
/-! SUPPORT. What the operations of Machine/Path.lean leave alone: the part, the waiting commands, the blown life-cycle fuses, and the
canonical form of the register file. -/

namespace Sys2Proof.Machine
set_option linter.unusedSimpArgs false
set_option linter.unusedVariables false
set_option linter.unreachableTactic false
set_option linter.unusedTactic false
set_option linter.style.nameCheck false

theorem State.updXb_core (s : State) (d : Nat) (f : XbDie → XbDie) : (State.updXb s d f).core = s.core := by
  simp only [State.updXb, State.core_mk, State.core_eta, ↓apply_ite State.core, ite_self, implies_true, eq_self]

theorem State.updPort_core (s : State) (p : Nat) (f : PortSt → PortSt) : (State.updPort s p f).core = s.core := by
  simp only [State.updPort, State.core_mk, State.core_eta, ↓apply_ite State.core, ite_self, implies_true, eq_self]

theorem State.push_core (s : State) (w : Work) : (State.push s w).core = s.core := by
  simp only [State.push, State.core_mk, State.core_eta, ↓apply_ite State.core, ite_self, implies_true, eq_self]

theorem State.updSite_core (s : State) (d t : Nat) (f : SiteSt → SiteSt) : (State.updSite s d t f).core = s.core := by
  simp only [State.updSite, State.core_mk, State.core_eta, ↓apply_ite State.core, ite_self, implies_true, eq_self]

theorem State.xoffUpdate_core (s : State) (d c : Nat) : (State.xoffUpdate s d c).core = s.core := by
  simp only [State.xoffUpdate, ↓State.forEach_core, ↓State.on_core, ↓State.off_core, State.core_mk, State.core_eta, ↓apply_ite State.core, ite_self, implies_true, eq_self]

theorem State.giveCredit_core (s : State) (d t c cells : Nat) : (State.giveCredit s d t c cells).core = s.core := by
  simp only [State.giveCredit, ↓State.xoffUpdate_core, ↓State.updSite_core, State.core_mk, State.core_eta, ↓apply_ite State.core, ite_self, implies_true, eq_self]

theorem State.setShared_core (s : State) (d v : Nat) : (State.setShared s d v).core = s.core := by
  simp only [State.setShared, ↓State.wr_core, State.core_mk, State.core_eta, ↓apply_ite State.core, ite_self, implies_true, eq_self]

theorem State.takeShared_core (s : State) (d input n : Nat) : (State.takeShared s d input n).core = s.core := by
  simp only [State.takeShared, ↓State.setShared_core, ↓State.ev_core, State.core_mk, State.core_eta, ↓apply_ite State.core, ite_self, implies_true, eq_self]

theorem State.putIn_core (s : State) (d : Nat) (l : LMsg) : (State.putIn s d l).2.core = s.core := by
  simp only [State.putIn, ↓State.updXb_core, State.core_mk, State.core_eta, ↓apply_ite State.core, ite_self, implies_true, eq_self]

theorem State.putIn_core' {s : State} {d : Nat} {l : LMsg} {xa xs}
    (hx : (State.putIn s d l) = (xa, xs)) : xs.core = s.core := by
  have := State.putIn_core s d l
  rw [hx] at this
  exact this

theorem State.store_core (s : State) (d : Nat) (l : LMsg) : (State.store s d l).2.core = s.core := by
  simp only [State.store, ↓State.putIn_core, ↓State.takeShared_core, State.core_mk, State.core_eta, ↓apply_ite State.core, ite_self, implies_true, eq_self]

theorem State.store_core' {s : State} {d : Nat} {l : LMsg} {xa xs}
    (hx : (State.store s d l) = (xa, xs)) : xs.core = s.core := by
  have := State.store_core s d l
  rw [hx] at this
  exact this

theorem State.freeCopy_core (s : State) (d : Nat) (mid : Option Nat) : (State.freeCopy s d mid).core = s.core := by
  unfold State.freeCopy
  repeat' split
  all_goals simp only [↓State.updXb_core, ↓State.setShared_core, ↓State.giveCredit_core, State.core_mk, State.core_eta, ↓apply_ite State.core, ite_self, implies_true, eq_self]

theorem State.addCopy_core (s : State) (d : Nat) (mid : Option Nat) : (State.addCopy s d mid).core = s.core := by
  unfold State.addCopy
  repeat' split
  all_goals simp only [↓State.updXb_core, State.core_mk, State.core_eta, ↓apply_ite State.core, ite_self, implies_true, eq_self]

theorem State.setCopies_core (s : State) (d : Nat) (mid : Option Nat) (n : Nat) : (State.setCopies s d mid n).core = s.core := by
  unfold State.setCopies
  repeat' split
  all_goals simp only [↓State.updXb_core, State.core_mk, State.core_eta, ↓apply_ite State.core, ite_self, implies_true, eq_self]

theorem State.backCredit_core (s : State) (d input c n : Nat) {t : State} (h : s.backCredit d input c n = some t) : t.core = s.core := by
  unfold State.backCredit at h
  obtain ⟨⟨fl, sh⟩, _, rfl⟩ := Option.map_eq_some_iff.mp h
  exact State.takeShared_core _ _ _ _

theorem State.useCredit_core (s : State) (d input c n : Nat) {g : Nat × Nat} {t : State} (h : s.useCredit d input c n = some (g, t)) : t.core = s.core := by
  unfold State.useCredit at h
  have now : ∀ {g : Nat × Nat} {t : State}, (s.canTake d input c n).map (fun got => (got, s.takeShared d input got.2)) = some (g, t) →
      t.core = s.core := by
    intro g t h
    obtain ⟨x, _, hx⟩ := Option.map_eq_some_iff.mp h
    injection hx with _ h2
    rw [← h2]
    exact State.takeShared_core _ _ _ _
  dsimp only at h
  split at h
  · exact now h
  · split at h
    · injection h with h
      injection h with _ h
      rw [← h]
      split
      · exact State.setShared_core _ _ _
      · rfl
    · exact now h

theorem State.withhold_core (s : State) (d input c n : Nat) : (State.withhold s d input c n).core = s.core := by
  simp only [State.withhold, ↓State.updXb_core, ↓State.on_core, ↓State.inc_core, ↓State.ev_core, State.core_mk, State.core_eta, ↓apply_ite State.core, ite_self, implies_true, eq_self]

theorem State.noLate_core (s : State) (d t c : Nat) : (State.noLate s d t c).core = s.core := by
  simp only [State.noLate, ↓State.updXb_core, State.core_mk, State.core_eta, ↓apply_ite State.core, ite_self, implies_true, eq_self]

theorem State.grantCredit_core (s : State) (d input c n : Nat) : (s.grantCredit d input c n).core = s.core := by
  unfold State.grantCredit
  split
  · rfl
  · split
    · exact State.backCredit_core _ _ _ _ _ (by assumption)
    · exact State.withhold_core _ _ _ _ _

theorem State.returnCredit_core (s : State) (d : Nat) : (s.returnCredit d).core = s.core := by
  unfold State.returnCredit
  dsimp only
  split
  · rfl
  · refine (State.forEach_core _ _ _ (fun s a => ?_)).trans ((State.forEach_core _ _ _ (fun s w => ?_)).trans rfl)
    · split
      · rfl
      · exact State.off_core _ _ _
    · split
      · rename_i h
        split at h
        · cases h
        · exact State.backCredit_core _ _ _ _ _ h
      · rfl

theorem State.dropCredit_core (s : State) (p : Nat) : (State.dropCredit s p).core = s.core := by
  simp only [State.dropCredit, ↓State.forEach_core, ↓State.updXb_core, ↓State.setShared_core, ↓State.off_core, State.core_mk, State.core_eta, ↓apply_ite State.core, ite_self, implies_true, eq_self]

theorem State.siteFor_core (s : State) (a b input dst c : Nat) (relayed : Bool) : (State.siteFor s a b input dst c relayed).2.core = s.core := by
  simp only [State.siteFor, State.core_mk, State.core_eta, ↓apply_ite State.core, ite_self, implies_true, eq_self]
  repeat' split
  all_goals (try simp only [State.core_mk, State.core_eta, ↓apply_ite State.core, ite_self, implies_true, eq_self])

theorem State.siteFor_core' {s : State} {a b input dst c : Nat} {relayed : Bool} {xa xs}
    (hx : (State.siteFor s a b input dst c relayed) = (xa, xs)) : xs.core = s.core := by
  have := State.siteFor_core s a b input dst c relayed
  rw [hx] at this
  exact this

theorem State.showCellar_core (s : State) (p : Nat) : (State.showCellar s p).core = s.core := by
  simp only [State.showCellar, ↓State.wr_core, State.core_mk, State.core_eta, ↓apply_ite State.core, ite_self, implies_true, eq_self]

theorem State.cellarArrive_core (s : State) (p : Nat) (e : QEnt) : (State.cellarArrive s p e).core = s.core := by
  simp only [State.cellarArrive, ↓State.updPort_core, ↓State.showCellar_core, ↓State.ev_core, ↓State.push_core, State.core_mk, State.core_eta, ↓apply_ite State.core, ite_self, implies_true, eq_self]

theorem State.enqueue_core (s : State) (d : Nat) (e : QEnt) : (State.enqueue s d e).core = s.core := by
  simp only [State.enqueue, ↓State.freeCopy_core, ↓State.push_core, ↓State.updXb_core, State.core_mk, State.core_eta, ↓apply_ite State.core, ite_self, implies_true, eq_self]

theorem State.routeIn_core (s : State) (d input : Nat) (mid : Option Nat) (m : Msg) : (State.routeIn s d input mid m).core = s.core := by
  unfold State.routeIn
  repeat' (first | with_reducible rfl | simp only [↓State.enqueue_core, ↓State.siteFor_core, ↓State.push_core, State.core_mk, State.core_eta, ↓apply_ite State.core, ite_self, implies_true, eq_self] | split | (refine (State.siteFor_core' (by assumption)).trans ?_))

theorem State.route_core (s : State) (d input : Nat) (mid : Option Nat) (m : Msg) : (State.route s d input mid m).core = s.core := by
  unfold State.route
  repeat' (first | with_reducible rfl | split | simp only [↓State.updXb_core, ↓State.routeIn_core, ↓State.store_core, State.core_mk, State.core_eta, ↓apply_ite State.core, ite_self, implies_true, eq_self] | (refine (State.store_core' (by assumption)).trans ?_))

theorem State.makeAgain_core (s : State) (d : Nat) : (State.makeAgain s d).core = s.core := by
  simp only [State.makeAgain, ↓State.updXb_core, ↓State.forEach_core, ↓State.route_core, State.core_mk, State.core_eta, ↓apply_ite State.core, ite_self, implies_true, eq_self]

theorem State.putTrk_core (s : State) (d t : Nat) (x : Trk) : (State.putTrk s d t x).core = s.core := by
  simp only [State.putTrk, State.core_mk, State.core_eta, ↓apply_ite State.core, ite_self, implies_true, eq_self]

theorem State.updTrk_core (s : State) (d t : Nat) (f : Trk → Trk) : (State.updTrk s d t f).core = s.core := by
  unfold State.updTrk
  repeat' split
  all_goals simp only [↓State.putTrk_core, State.core_mk, State.core_eta, ↓apply_ite State.core, ite_self, implies_true, eq_self]

theorem State.updTrkOf_core (s : State) (m : Msg) (f : Trk → Trk) : (State.updTrkOf s m f).core = s.core := by
  simp only [State.updTrkOf, ↓State.updTrk_core, State.core_mk, State.core_eta, ↓apply_ite State.core, ite_self, implies_true, eq_self]

theorem State.atticRecord_core (s : State) (d t : Nat) (x : Trk) (poison err : Bool) : (State.atticRecord s d t x poison err).core = s.core := by
  unfold State.atticRecord
  repeat' split
  all_goals simp only [↓State.wr_core, ↓State.inc_core, ↓State.forEach_core, ↓State.pm_core, ↓State.on_core, ↓State.ev_core, State.core_mk, State.core_eta, ↓apply_ite State.core, ite_self, implies_true, eq_self]

theorem State.noteLoft_core (s : State) (p : Nat → Bool) (d t : Nat) : (State.noteLoft s p d t).core = s.core := by
  simp only [State.noteLoft, ↓State.forEach_core, ↓State.push_core, State.core_mk, State.core_eta, ↓apply_ite State.core, ite_self, implies_true, eq_self]

theorem State.noteSlots_core (s : State) (p : Nat → Bool) (d t : Nat) : (State.noteSlots s p d t).core = s.core := by
  simp only [State.noteSlots, ↓State.forEach_core, ↓State.push_core, State.core_mk, State.core_eta, ↓apply_ite State.core, ite_self, implies_true, eq_self]

theorem State.noteAt_core (s : State) (p : Nat → Bool) (d t : Nat) : (State.noteAt s p d t).core = s.core := by
  simp only [State.noteAt, ↓State.noteLoft_core, ↓State.noteSlots_core, State.core_mk, State.core_eta, ↓apply_ite State.core, ite_self, implies_true, eq_self]

theorem State.noteDone_core (s : State) (d t : Nat) : (State.noteDone s d t).core = s.core := by
  simp only [State.noteDone, ↓State.noteAt_core, State.core_mk, State.core_eta, ↓apply_ite State.core, ite_self, implies_true, eq_self]

theorem State.unwait_core (s : State) (d t : Nat) : (State.unwait s d t).core = s.core := by
  simp only [State.unwait, State.core_mk, State.core_eta, ↓apply_ite State.core, ite_self, implies_true, eq_self]

theorem State.dropCarry_core (s : State) (d : Nat) (by_ : Carry) : (State.dropCarry s d by_).core = s.core := by
  unfold State.dropCarry
  repeat' split
  all_goals simp only [↓State.freeCopy_core, State.core_mk, State.core_eta, ↓apply_ite State.core, ite_self, implies_true, eq_self]

theorem State.complete_core (s : State) (d t : Nat) (k : MKind) (poison err : Bool) (mv : MetaV) (data : List Nat) (by_ : Carry) : (State.complete s d t k poison err mv data by_).core = s.core := by
  unfold State.complete
  repeat' split
  all_goals simp only [↓State.dropCarry_core, ↓State.atticRecord_core, ↓State.noteDone_core, ↓State.unwait_core, ↓State.updXb_core, ↓State.route_core, ↓State.forEach_core, State.core_mk, State.core_eta, ↓apply_ite State.core, ite_self, implies_true, eq_self]

theorem State.lostWriteAt_core (s : State) (at_ : Nat) (d : Nat) (x : Trk) : (State.lostWriteAt s at_ d x).core = s.core := by
  unfold State.lostWriteAt
  repeat' split
  all_goals simp only [↓State.wr_core, ↓State.on_core, ↓State.evC_core, ↓State.emit_core, State.core_mk, State.core_eta, ↓apply_ite State.core, ite_self, implies_true, eq_self]

theorem State.completeOther_core (s : State) (at_ d t : Nat) : (State.completeOther s at_ d t).core = s.core := by
  unfold State.completeOther
  repeat' split
  all_goals simp only [↓State.complete_core, ↓State.lostWriteAt_core, ↓State.noteDone_core, State.core_mk, State.core_eta, ↓apply_ite State.core, ite_self, implies_true, eq_self]

theorem State.poisonOut_core (s : State) (at_ d t : Nat) : (State.poisonOut s at_ d t).core = s.core := by
  unfold State.poisonOut
  repeat' split
  all_goals simp only [↓State.complete_core, ↓State.completeOther_core, State.core_mk, State.core_eta, ↓apply_ite State.core, ite_self, implies_true, eq_self]

theorem State.updXb_ok (s : State) (d : Nat) (f : XbDie → XbDie) (hok : s.regsOk = true) : (State.updXb s d f).regsOk = true := by
  simp only [State.updXb, State.regsOk_mk, State.regsOk_eta, apply_ite State.regsOk, ite_self, implies_true, eq_self, hok]

theorem State.updPort_ok (s : State) (p : Nat) (f : PortSt → PortSt) (hok : s.regsOk = true) : (State.updPort s p f).regsOk = true := by
  simp only [State.updPort, State.regsOk_mk, State.regsOk_eta, apply_ite State.regsOk, ite_self, implies_true, eq_self, hok]

theorem State.push_ok (s : State) (w : Work) (hok : s.regsOk = true) : (State.push s w).regsOk = true := by
  simp only [State.push, State.regsOk_mk, State.regsOk_eta, apply_ite State.regsOk, ite_self, implies_true, eq_self, hok]

theorem State.updSite_ok (s : State) (d t : Nat) (f : SiteSt → SiteSt) (hok : s.regsOk = true) : (State.updSite s d t f).regsOk = true := by
  simp only [State.updSite, State.regsOk_mk, State.regsOk_eta, apply_ite State.regsOk, ite_self, implies_true, eq_self, hok]

theorem State.xoffUpdate_ok (s : State) (d c : Nat) (hok : s.regsOk = true) : (State.xoffUpdate s d c).regsOk = true := by
  unfold State.xoffUpdate
  extract_lets
  repeat' (first | with_reducible assumption | with_reducible (apply State.forEach_ok) | with_reducible (apply State.on_ok) | with_reducible (apply State.off_ok) | with_reducible (apply State.ite_ok) | split | (intro _ _ hok) | (intro _ hok) | (intro _ _ _ hok) | simp only [State.regsOk_mk, State.regsOk_eta])

theorem State.giveCredit_ok (s : State) (d t c cells : Nat) (hok : s.regsOk = true) : (State.giveCredit s d t c cells).regsOk = true := by
  simp only [State.giveCredit, State.xoffUpdate_ok, State.updSite_ok, State.regsOk_mk, State.regsOk_eta, apply_ite State.regsOk, ite_self, implies_true, eq_self, hok]

theorem State.setShared_ok (s : State) (d v : Nat) (hok : s.regsOk = true) : (State.setShared s d v).regsOk = true := by
  simp only [State.setShared, State.wr_ok, State.regsOk_mk, State.regsOk_eta, apply_ite State.regsOk, ite_self, implies_true, eq_self, hok]

theorem State.takeShared_ok (s : State) (d input n : Nat) (hok : s.regsOk = true) : (State.takeShared s d input n).regsOk = true := by
  simp only [State.takeShared, State.setShared_ok, State.ev_ok, State.regsOk_mk, State.regsOk_eta, apply_ite State.regsOk, ite_self, implies_true, eq_self, hok]

theorem State.putIn_ok (s : State) (d : Nat) (l : LMsg) (hok : s.regsOk = true) : (State.putIn s d l).2.regsOk = true := by
  simp only [State.putIn, State.updXb_ok, State.regsOk_mk, State.regsOk_eta, apply_ite State.regsOk, ite_self, implies_true, eq_self, hok]

theorem State.putIn_ok' {s : State} {d : Nat} {l : LMsg} {xa xs}
    (hx : State.putIn s d l = (xa, xs)) (hok : s.regsOk = true) : xs.regsOk = true := by
  have := State.putIn_ok s d l hok
  rw [hx] at this
  exact this

theorem State.store_ok (s : State) (d : Nat) (l : LMsg) (hok : s.regsOk = true) : (State.store s d l).2.regsOk = true := by
  simp only [State.store, State.putIn_ok, State.takeShared_ok, State.regsOk_mk, State.regsOk_eta, apply_ite State.regsOk, ite_self, implies_true, eq_self, hok]

theorem State.store_ok' {s : State} {d : Nat} {l : LMsg} {xa xs}
    (hx : State.store s d l = (xa, xs)) (hok : s.regsOk = true) : xs.regsOk = true := by
  have := State.store_ok s d l hok
  rw [hx] at this
  exact this

theorem State.freeCopy_ok (s : State) (d : Nat) (mid : Option Nat) (hok : s.regsOk = true) : (State.freeCopy s d mid).regsOk = true := by
  unfold State.freeCopy
  repeat' split
  all_goals simp only [State.updXb_ok, State.setShared_ok, State.giveCredit_ok, State.regsOk_mk, State.regsOk_eta, apply_ite State.regsOk, ite_self, implies_true, eq_self, hok]

theorem State.addCopy_ok (s : State) (d : Nat) (mid : Option Nat) (hok : s.regsOk = true) : (State.addCopy s d mid).regsOk = true := by
  unfold State.addCopy
  repeat' split
  all_goals simp only [State.updXb_ok, State.regsOk_mk, State.regsOk_eta, apply_ite State.regsOk, ite_self, implies_true, eq_self, hok]

theorem State.setCopies_ok (s : State) (d : Nat) (mid : Option Nat) (n : Nat) (hok : s.regsOk = true) : (State.setCopies s d mid n).regsOk = true := by
  unfold State.setCopies
  repeat' split
  all_goals simp only [State.updXb_ok, State.regsOk_mk, State.regsOk_eta, apply_ite State.regsOk, ite_self, implies_true, eq_self, hok]

theorem State.backCredit_ok (s : State) (d input c n : Nat) {t : State} (h : s.backCredit d input c n = some t) (hok : s.regsOk = true) :
    t.regsOk = true := by
  unfold State.backCredit at h
  obtain ⟨⟨fl, sh⟩, _, rfl⟩ := Option.map_eq_some_iff.mp h
  exact State.takeShared_ok _ _ _ _ hok

theorem State.useCredit_ok (s : State) (d input c n : Nat) {g : Nat × Nat} {t : State} (h : s.useCredit d input c n = some (g, t))
    (hok : s.regsOk = true) : t.regsOk = true := by
  unfold State.useCredit at h
  have now : ∀ {g : Nat × Nat} {t : State}, (s.canTake d input c n).map (fun got => (got, s.takeShared d input got.2)) = some (g, t) →
      t.regsOk = true := by
    intro g t h
    obtain ⟨x, _, hx⟩ := Option.map_eq_some_iff.mp h
    injection hx with _ h2
    rw [← h2]
    exact State.takeShared_ok _ _ _ _ hok
  dsimp only at h
  split at h
  · exact now h
  · split at h
    · injection h with h
      injection h with _ h
      rw [← h]
      split
      · exact State.setShared_ok _ _ _ hok
      · exact hok
    · exact now h

theorem State.withhold_ok (s : State) (d input c n : Nat) (hok : s.regsOk = true) : (State.withhold s d input c n).regsOk = true := by
  unfold State.withhold
  repeat' (first | with_reducible assumption | with_reducible (apply State.updXb_ok) | with_reducible (apply State.on_ok) | with_reducible (apply State.inc_ok) | with_reducible (apply State.ev_ok) | with_reducible (apply State.ite_ok) | split | (intro _ _ hok) | (intro _ hok) | (intro _ _ _ hok) | simp only [State.regsOk_mk, State.regsOk_eta])

theorem State.noLate_ok (s : State) (d t c : Nat) (hok : s.regsOk = true) : (State.noLate s d t c).regsOk = true := by
  simp only [State.noLate, State.updXb_ok, State.regsOk_mk, State.regsOk_eta, apply_ite State.regsOk, ite_self, implies_true, eq_self, hok]

theorem State.grantCredit_ok (s : State) (d input c n : Nat) (hok : s.regsOk = true) : (s.grantCredit d input c n).regsOk = true := by
  unfold State.grantCredit
  split
  · exact hok
  · split
    · exact State.backCredit_ok _ _ _ _ _ (by assumption) hok
    · exact State.withhold_ok _ _ _ _ _ hok

theorem State.returnCredit_ok (s : State) (d : Nat) (hok : s.regsOk = true) : (s.returnCredit d).regsOk = true := by
  unfold State.returnCredit
  dsimp only
  split
  · exact hok
  · refine State.forEach_ok _ _ _ (fun s a hok => ?_) (State.forEach_ok _ _ _ (fun s w hok => ?_) hok)
    · split
      · exact hok
      · exact State.off_ok _ _ _ hok
    · split
      · rename_i h
        split at h
        · cases h
        · exact State.backCredit_ok _ _ _ _ _ h hok
      · exact hok

theorem State.dropCredit_ok (s : State) (p : Nat) (hok : s.regsOk = true) : (State.dropCredit s p).regsOk = true := by
  unfold State.dropCredit
  extract_lets
  repeat' (first | with_reducible assumption | with_reducible (apply State.forEach_ok) | with_reducible (apply State.updXb_ok) | with_reducible (apply State.setShared_ok) | with_reducible (apply State.off_ok) | with_reducible (apply State.ite_ok) | split | (intro _ _ hok) | (intro _ hok) | (intro _ _ _ hok) | simp only [State.regsOk_mk, State.regsOk_eta])

theorem State.siteFor_ok (s : State) (a b input dst c : Nat) (relayed : Bool) (hok : s.regsOk = true) : (State.siteFor s a b input dst c relayed).2.regsOk = true := by
  unfold State.siteFor
  repeat' (first | with_reducible assumption | with_reducible (apply State.ite_ok) | split | (intro _ _ hok) | (intro _ hok) | (intro _ _ _ hok) | simp only [State.regsOk_mk, State.regsOk_eta])

theorem State.siteFor_ok' {s : State} {a b input dst c : Nat} {relayed : Bool} {xa xs}
    (hx : State.siteFor s a b input dst c relayed = (xa, xs)) (hok : s.regsOk = true) : xs.regsOk = true := by
  have := State.siteFor_ok s a b input dst c relayed hok
  rw [hx] at this
  exact this

theorem State.showCellar_ok (s : State) (p : Nat) (hok : s.regsOk = true) : (State.showCellar s p).regsOk = true := by
  unfold State.showCellar
  extract_lets
  repeat' (first | with_reducible assumption | with_reducible (apply State.wr_ok) | with_reducible (apply State.ite_ok) | split | (intro _ _ hok) | (intro _ hok) | (intro _ _ _ hok) | simp only [State.regsOk_mk, State.regsOk_eta])

theorem State.cellarArrive_ok (s : State) (p : Nat) (e : QEnt) (hok : s.regsOk = true) : (State.cellarArrive s p e).regsOk = true := by
  simp only [State.cellarArrive, State.updPort_ok, State.showCellar_ok, State.ev_ok, State.push_ok, State.regsOk_mk, State.regsOk_eta, apply_ite State.regsOk, ite_self, implies_true, eq_self, hok]

theorem State.enqueue_ok (s : State) (d : Nat) (e : QEnt) (hok : s.regsOk = true) : (State.enqueue s d e).regsOk = true := by
  simp only [State.enqueue, State.freeCopy_ok, State.push_ok, State.updXb_ok, State.regsOk_mk, State.regsOk_eta, apply_ite State.regsOk, ite_self, implies_true, eq_self, hok]

theorem State.routeIn_ok (s : State) (d input : Nat) (mid : Option Nat) (m : Msg) (hok : s.regsOk = true) : (State.routeIn s d input mid m).regsOk = true := by
  unfold State.routeIn
  extract_lets
  repeat' (first | with_reducible assumption | with_reducible (apply State.enqueue_ok) | with_reducible (apply State.siteFor_ok) | with_reducible (apply State.push_ok) | with_reducible (exact State.siteFor_ok' (by assumption) (by assumption)) | (refine State.siteFor_ok' (by assumption) ?_) | with_reducible (apply State.ite_ok) | split | (intro _ _ hok) | (intro _ hok) | (intro _ _ _ hok) | simp only [State.regsOk_mk, State.regsOk_eta])

theorem State.route_ok (s : State) (d input : Nat) (mid : Option Nat) (m : Msg) (hok : s.regsOk = true) : (State.route s d input mid m).regsOk = true := by
  unfold State.route
  repeat' (first | with_reducible assumption | with_reducible (apply State.updXb_ok) | with_reducible (apply State.routeIn_ok) | with_reducible (apply State.store_ok) | with_reducible (exact State.store_ok' (by assumption) (by assumption)) | (refine State.store_ok' (by assumption) ?_) | with_reducible (apply State.ite_ok) | split | (intro _ _ hok) | (intro _ hok) | (intro _ _ _ hok) | simp only [State.regsOk_mk, State.regsOk_eta])

theorem State.makeAgain_ok (s : State) (d : Nat) (hok : s.regsOk = true) : (State.makeAgain s d).regsOk = true := by
  unfold State.makeAgain
  repeat' (first | with_reducible assumption | with_reducible (apply State.updXb_ok) | with_reducible (apply State.forEach_ok) | with_reducible (apply State.route_ok) | with_reducible (apply State.ite_ok) | split | (intro _ _ hok) | (intro _ hok) | (intro _ _ _ hok) | simp only [State.regsOk_mk, State.regsOk_eta])

theorem State.putTrk_ok (s : State) (d t : Nat) (x : Trk) (hok : s.regsOk = true) : (State.putTrk s d t x).regsOk = true := by
  simp only [State.putTrk, State.regsOk_mk, State.regsOk_eta, apply_ite State.regsOk, ite_self, implies_true, eq_self, hok]

theorem State.updTrk_ok (s : State) (d t : Nat) (f : Trk → Trk) (hok : s.regsOk = true) : (State.updTrk s d t f).regsOk = true := by
  unfold State.updTrk
  repeat' split
  all_goals simp only [State.putTrk_ok, State.regsOk_mk, State.regsOk_eta, apply_ite State.regsOk, ite_self, implies_true, eq_self, hok]

theorem State.updTrkOf_ok (s : State) (m : Msg) (f : Trk → Trk) (hok : s.regsOk = true) : (State.updTrkOf s m f).regsOk = true := by
  simp only [State.updTrkOf, State.updTrk_ok, State.regsOk_mk, State.regsOk_eta, apply_ite State.regsOk, ite_self, implies_true, eq_self, hok]

theorem State.atticRecord_ok (s : State) (d t : Nat) (x : Trk) (poison err : Bool) (hok : s.regsOk = true) : (State.atticRecord s d t x poison err).regsOk = true := by
  unfold State.atticRecord
  extract_lets
  repeat' (first | with_reducible assumption | with_reducible (apply State.wr_ok) | with_reducible (apply State.inc_ok) | with_reducible (apply State.forEach_ok) | with_reducible (apply State.pm_ok) | with_reducible (apply State.on_ok) | with_reducible (apply State.ev_ok) | with_reducible (apply State.ite_ok) | split | (intro _ _ hok) | (intro _ hok) | (intro _ _ _ hok) | simp only [State.regsOk_mk, State.regsOk_eta])

theorem State.noteLoft_ok (s : State) (p : Nat → Bool) (d t : Nat) (hok : s.regsOk = true) : (State.noteLoft s p d t).regsOk = true := by
  unfold State.noteLoft
  extract_lets
  repeat' (first | with_reducible assumption | with_reducible (apply State.forEach_ok) | with_reducible (apply State.push_ok) | with_reducible (apply State.ite_ok) | split | (intro _ _ hok) | (intro _ hok) | (intro _ _ _ hok) | simp only [State.regsOk_mk, State.regsOk_eta])

theorem State.noteSlots_ok (s : State) (p : Nat → Bool) (d t : Nat) (hok : s.regsOk = true) : (State.noteSlots s p d t).regsOk = true := by
  unfold State.noteSlots
  repeat' (first | with_reducible assumption | with_reducible (apply State.forEach_ok) | with_reducible (apply State.push_ok) | with_reducible (apply State.ite_ok) | split | (intro _ _ hok) | (intro _ hok) | (intro _ _ _ hok) | simp only [State.regsOk_mk, State.regsOk_eta])

theorem State.noteAt_ok (s : State) (p : Nat → Bool) (d t : Nat) (hok : s.regsOk = true) : (State.noteAt s p d t).regsOk = true := by
  simp only [State.noteAt, State.noteLoft_ok, State.noteSlots_ok, State.regsOk_mk, State.regsOk_eta, apply_ite State.regsOk, ite_self, implies_true, eq_self, hok]

theorem State.noteDone_ok (s : State) (d t : Nat) (hok : s.regsOk = true) : (State.noteDone s d t).regsOk = true := by
  simp only [State.noteDone, State.noteAt_ok, State.regsOk_mk, State.regsOk_eta, apply_ite State.regsOk, ite_self, implies_true, eq_self, hok]

theorem State.unwait_ok (s : State) (d t : Nat) (hok : s.regsOk = true) : (State.unwait s d t).regsOk = true := by
  simp only [State.unwait, State.regsOk_mk, State.regsOk_eta, apply_ite State.regsOk, ite_self, implies_true, eq_self, hok]

theorem State.dropCarry_ok (s : State) (d : Nat) (by_ : Carry) (hok : s.regsOk = true) : (State.dropCarry s d by_).regsOk = true := by
  unfold State.dropCarry
  repeat' split
  all_goals simp only [State.freeCopy_ok, State.regsOk_mk, State.regsOk_eta, apply_ite State.regsOk, ite_self, implies_true, eq_self, hok]

theorem State.complete_ok (s : State) (d t : Nat) (k : MKind) (poison err : Bool) (mv : MetaV) (data : List Nat) (by_ : Carry) (hok : s.regsOk = true) : (State.complete s d t k poison err mv data by_).regsOk = true := by
  unfold State.complete
  repeat' (first | with_reducible assumption | with_reducible (apply State.dropCarry_ok) | with_reducible (apply State.atticRecord_ok) | with_reducible (apply State.noteDone_ok) | with_reducible (apply State.unwait_ok) | with_reducible (apply State.updXb_ok) | with_reducible (apply State.route_ok) | with_reducible (apply State.forEach_ok) | with_reducible (apply State.ite_ok) | split | (intro _ _ hok) | (intro _ hok) | (intro _ _ _ hok) | simp only [State.regsOk_mk, State.regsOk_eta])

theorem State.lostWriteAt_ok (s : State) (at_ : Nat) (d : Nat) (x : Trk) (hok : s.regsOk = true) : (State.lostWriteAt s at_ d x).regsOk = true := by
  unfold State.lostWriteAt
  repeat' (first | with_reducible assumption | with_reducible (apply State.wr_ok) | with_reducible (apply State.on_ok) | with_reducible (apply State.evC_ok) | with_reducible (apply State.emit_ok) | with_reducible (apply State.ite_ok) | split | (intro _ _ hok) | (intro _ hok) | (intro _ _ _ hok) | simp only [State.regsOk_mk, State.regsOk_eta])

theorem State.completeOther_ok (s : State) (at_ d t : Nat) (hok : s.regsOk = true) : (State.completeOther s at_ d t).regsOk = true := by
  unfold State.completeOther
  repeat' split
  all_goals simp only [State.complete_ok, State.lostWriteAt_ok, State.noteDone_ok, State.regsOk_mk, State.regsOk_eta, apply_ite State.regsOk, ite_self, implies_true, eq_self, hok]

theorem State.poisonOut_ok (s : State) (at_ d t : Nat) (hok : s.regsOk = true) : (State.poisonOut s at_ d t).regsOk = true := by
  unfold State.poisonOut
  repeat' split
  all_goals simp only [State.complete_ok, State.completeOther_ok, State.regsOk_mk, State.regsOk_eta, apply_ite State.regsOk, ite_self, implies_true, eq_self, hok]

end Sys2Proof.Machine
end

