-- ==== Sys2Proof/Laws/BindOps.lean ====
section
/-! SUPPORT. What the operations of Machine/BindOps.lean leave alone: the part, the waiting commands, the blown life-cycle fuses, and the
canonical form of the register file. -/

namespace Sys2Proof.Machine
set_option linter.unusedSimpArgs false
set_option linter.unusedVariables false
set_option linter.unreachableTactic false
set_option linter.unusedTactic false
set_option linter.style.nameCheck false

theorem State.updVppb_core (s : State) (d i : Nat) (f : Vppb → Vppb) : (State.updVppb s d i f).core = s.core := by
  simp only [State.updVppb, State.core_mk, State.core_eta, ↓apply_ite State.core, ite_self, implies_true, eq_self]

theorem State.putDec_core (s : State) (d i : Nat) (x : Dec) : (State.putDec s d i x).core = s.core := by
  simp only [State.putDec, ↓State.mend_core, State.core_mk, State.core_eta, ↓apply_ite State.core, ite_self, implies_true, eq_self]

theorem State.putHostDec_core (s : State) (d i : Nat) (x : HostDec) : (State.putHostDec s d i x).core = s.core := by
  simp only [State.putHostDec, State.core_mk, State.core_eta, ↓apply_ite State.core, ite_self, implies_true, eq_self]

theorem State.fn1Write_core (s : State) (v w x : Nat) : (State.fn1Write s v w x).core = s.core := by
  simp only [State.fn1Write, State.core_mk, State.core_eta, ↓apply_ite State.core, ite_self, implies_true, eq_self]

theorem State.fn2Write_core (s : State) (p w x : Nat) : (State.fn2Write s p w x).core = s.core := by
  simp only [State.fn2Write, State.core_mk, State.core_eta, ↓apply_ite State.core, ite_self, implies_true, eq_self]

theorem State.bindPortUp_core (s : State) (p : Nat) : (State.bindPortUp s p).core = s.core := by
  simp only [State.bindPortUp, ↓State.forEach_core, ↓State.updVppb_core, ↓State.emit_core, State.core_mk, State.core_eta, ↓apply_ite State.core, ite_self, implies_true, eq_self]

theorem State.beginUnbinding_core (s : State) (d i : Nat) : (State.beginUnbinding s d i).core = s.core := by
  simp only [State.beginUnbinding, ↓State.updVppb_core, ↓State.on_core, State.core_mk, State.core_eta, ↓apply_ite State.core, ite_self, implies_true, eq_self]

theorem State.boardGone_core (s : State) (p : Nat) : (State.boardGone s p).core = s.core := by
  simp only [State.boardGone, ↓State.forEach_core, ↓State.updVppb_core, ↓State.emit_core, State.core_mk, State.core_eta, ↓apply_ite State.core, ite_self, implies_true, eq_self]

theorem State.bindPortDown_core (s : State) (p cause : Nat) : (State.bindPortDown s p cause).core = s.core := by
  simp only [State.bindPortDown, ↓State.forEach_core, ↓State.updVppb_core, ↓State.emit_core, ↓State.beginUnbinding_core, State.core_mk, State.core_eta, ↓apply_ite State.core, ite_self, implies_true, eq_self]

theorem State.vcsReset_core (s : State) (v : Nat) : (State.vcsReset s v).core = s.core := by
  simp only [State.vcsReset, ↓State.forEach_core, ↓State.putTrk_core, ↓State.updVppb_core, ↓State.putHostDec_core, ↓State.putDec_core, State.core_mk, State.core_eta, ↓apply_ite State.core, ite_self, implies_true, eq_self]

theorem State.updVppb_ok (s : State) (d i : Nat) (f : Vppb → Vppb) (hok : s.regsOk = true) : (State.updVppb s d i f).regsOk = true := by
  simp only [State.updVppb, State.regsOk_mk, State.regsOk_eta, apply_ite State.regsOk, ite_self, implies_true, eq_self, hok]

theorem State.putDec_ok (s : State) (d i : Nat) (x : Dec) (hok : s.regsOk = true) : (State.putDec s d i x).regsOk = true := by
  simp only [State.putDec, State.mend_ok, State.regsOk_mk, State.regsOk_eta, apply_ite State.regsOk, ite_self, implies_true, eq_self, hok]

theorem State.putHostDec_ok (s : State) (d i : Nat) (x : HostDec) (hok : s.regsOk = true) : (State.putHostDec s d i x).regsOk = true := by
  simp only [State.putHostDec, State.regsOk_mk, State.regsOk_eta, apply_ite State.regsOk, ite_self, implies_true, eq_self, hok]

theorem State.fn1Write_ok (s : State) (v w x : Nat) (hok : s.regsOk = true) : (State.fn1Write s v w x).regsOk = true := by
  simp only [State.fn1Write, State.regsOk_mk, State.regsOk_eta, apply_ite State.regsOk, ite_self, implies_true, eq_self, hok]

theorem State.fn2Write_ok (s : State) (p w x : Nat) (hok : s.regsOk = true) : (State.fn2Write s p w x).regsOk = true := by
  simp only [State.fn2Write, State.regsOk_mk, State.regsOk_eta, apply_ite State.regsOk, ite_self, implies_true, eq_self, hok]

theorem State.bindPortUp_ok (s : State) (p : Nat) (hok : s.regsOk = true) : (State.bindPortUp s p).regsOk = true := by
  unfold State.bindPortUp
  repeat' (first | with_reducible assumption | with_reducible (apply State.forEach_ok) | with_reducible (apply State.updVppb_ok) | with_reducible (apply State.emit_ok) | with_reducible (apply State.ite_ok) | split | (intro _ _ hok) | (intro _ hok) | (intro _ _ _ hok) | simp only [State.regsOk_mk, State.regsOk_eta])

theorem State.beginUnbinding_ok (s : State) (d i : Nat) (hok : s.regsOk = true) : (State.beginUnbinding s d i).regsOk = true := by
  simp only [State.beginUnbinding, State.updVppb_ok, State.on_ok, State.regsOk_mk, State.regsOk_eta, apply_ite State.regsOk, ite_self, implies_true, eq_self, hok]

theorem State.boardGone_ok (s : State) (p : Nat) (hok : s.regsOk = true) : (State.boardGone s p).regsOk = true := by
  unfold State.boardGone
  repeat' (first | with_reducible assumption | with_reducible (apply State.forEach_ok) | with_reducible (apply State.updVppb_ok) | with_reducible (apply State.emit_ok) | with_reducible (apply State.ite_ok) | split | (intro _ _ hok) | (intro _ hok) | (intro _ _ _ hok) | simp only [State.regsOk_mk, State.regsOk_eta])

theorem State.bindPortDown_ok (s : State) (p cause : Nat) (hok : s.regsOk = true) : (State.bindPortDown s p cause).regsOk = true := by
  unfold State.bindPortDown
  extract_lets
  repeat' (first | with_reducible assumption | with_reducible (apply State.forEach_ok) | with_reducible (apply State.updVppb_ok) | with_reducible (apply State.emit_ok) | with_reducible (apply State.beginUnbinding_ok) | with_reducible (apply State.ite_ok) | split | (intro _ _ hok) | (intro _ hok) | (intro _ _ _ hok) | simp only [State.regsOk_mk, State.regsOk_eta])

theorem State.vcsReset_ok (s : State) (v : Nat) (hok : s.regsOk = true) : (State.vcsReset s v).regsOk = true := by
  unfold State.vcsReset
  repeat' (first | with_reducible assumption | with_reducible (apply State.forEach_ok) | with_reducible (apply State.putTrk_ok) | with_reducible (apply State.updVppb_ok) | with_reducible (apply State.putHostDec_ok) | with_reducible (apply State.putDec_ok) | with_reducible (apply State.ite_ok) | split | (intro _ _ hok) | (intro _ hok) | (intro _ _ _ hok) | simp only [State.regsOk_mk, State.regsOk_eta])

end Sys2Proof.Machine
end

