-- ==== Sys2Proof/Laws/MirrorOps.lean ====
section
/-! SUPPORT. What the operations of Machine/MirrorOps.lean leave alone: the part, the waiting commands, the blown life-cycle fuses, and the
canonical form of the register file. -/

namespace Sys2Proof.Machine
set_option linter.unusedSimpArgs false
set_option linter.unusedVariables false
set_option linter.unreachableTactic false
set_option linter.unusedTactic false
set_option linter.style.nameCheck false

theorem State.updMr_core (s : State) (d : Nat) (f : MrDie → MrDie) : (State.updMr s d f).core = s.core := by
  simp only [State.updMr, State.core_mk, State.core_eta, ↓apply_ite State.core, ite_self, implies_true, eq_self]

theorem State.putMir_core (s : State) (d i : Nat) (x : Mir) : (State.putMir s d i x).core = s.core := by
  simp only [State.putMir, ↓State.mend_core, ↓State.updMr_core, State.core_mk, State.core_eta, ↓apply_ite State.core, ite_self, implies_true, eq_self]

theorem State.putGuards_core (s : State) (h : Nat) (f : Tbl Guard → Tbl Guard) : (State.putGuards s h f).core = s.core := by
  simp only [State.putGuards, ↓State.updMr_core, ↓State.wr_core, State.core_mk, State.core_eta, ↓apply_ite State.core, ite_self, implies_true, eq_self]

theorem State.armGuard_core (s : State) (h : Nat) (g : Guard) : (State.armGuard s h g).core = s.core := by
  unfold State.armGuard
  repeat' split
  all_goals simp only [↓State.updMr_core, ↓State.putGuards_core, ↓State.emit_core, State.core_mk, State.core_eta, ↓apply_ite State.core, ite_self, implies_true, eq_self]

theorem State.serveArm_core (s : State) (h : Nat) : (State.serveArm s h).core = s.core := by
  simp only [State.serveArm, ↓State.updMr_core, ↓State.forEach_core, ↓State.armGuard_core, State.core_mk, State.core_eta, ↓apply_ite State.core, ite_self, implies_true, eq_self]

theorem State.releaseGuards_core (s : State) (chooser grp : Nat) (lines : List Nat) : (State.releaseGuards s chooser grp lines).core = s.core := by
  simp only [State.releaseGuards, ↓State.forEach_core, ↓State.updMr_core, ↓State.putGuards_core, ↓State.serveArm_core, State.core_mk, State.core_eta, ↓apply_ite State.core, ite_self, implies_true, eq_self]

theorem State.markHit_core (s : State) (h : Nat) (m : Msg) : (State.markHit s h m).core = s.core := by
  simp only [State.markHit, ↓State.updMr_core, State.core_mk, State.core_eta, ↓apply_ite State.core, ite_self, implies_true, eq_self]

theorem State.askGuard_core (s : State) (d : Nat) (r : Rewrite) : (State.askGuard s d r).core = s.core := by
  simp only [State.askGuard, ↓State.emit_core, State.core_mk, State.core_eta, ↓apply_ite State.core, ite_self, implies_true, eq_self]

theorem State.pairAnswer_core (s : State) (src ch grp copy : Nat) (lines : List Nat) : (State.pairAnswer s src ch grp copy lines).core = s.core := by
  unfold State.pairAnswer
  repeat' split
  all_goals simp only [↓State.updMr_core, ↓State.emit_core, State.core_mk, State.core_eta, ↓apply_ite State.core, ite_self, implies_true, eq_self]

theorem State.answerPairs_core (s : State) (d : Nat) : (State.answerPairs s d).core = s.core := by
  simp only [State.answerPairs, ↓State.updMr_core, ↓State.forEach_core, ↓State.pairAnswer_core, State.core_mk, State.core_eta, ↓apply_ite State.core, ite_self, implies_true, eq_self]

theorem State.startRepair_core (s : State) (d : Nat) : (State.startRepair s d).core = s.core := by
  unfold State.startRepair
  repeat' (first | with_reducible rfl | split | simp only [↓State.updMr_core, ↓State.askGuard_core, State.core_mk, State.core_eta, ↓apply_ite State.core, ite_self, implies_true, eq_self])

theorem State.queueRepair_core (s : State) (d g c a : Nat) : (State.queueRepair s d g c a).core = s.core := by
  simp only [State.queueRepair, ↓State.inc_core, ↓State.updMr_core, ↓State.wr_core, ↓State.startRepair_core, State.core_mk, State.core_eta, ↓apply_ite State.core, ite_self, implies_true, eq_self]

theorem State.dropRepairs_core (s : State) (d g : Nat) : (State.dropRepairs s d g).core = s.core := by
  simp only [State.dropRepairs, ↓State.releaseGuards_core, ↓State.updMr_core, ↓State.wr_core, ↓State.startRepair_core, State.core_mk, State.core_eta, ↓apply_ite State.core, ite_self, implies_true, eq_self]

theorem State.setLines_core (s : State) (d e n : Nat) : (State.setLines s d e n).core = s.core := by
  simp only [State.setLines, ↓State.wake_core, ↓State.wr_core, ↓State.wrB_core, State.core_mk, State.core_eta, ↓apply_ite State.core, ite_self, implies_true, eq_self]

theorem State.lineSent_core (s : State) (d e : Nat) : (State.lineSent s d e).core = s.core := by
  simp only [State.lineSent, ↓State.setLines_core, State.core_mk, State.core_eta, ↓apply_ite State.core, ite_self, implies_true, eq_self]

theorem State.linesBack_core (s : State) (d e n : Nat) : (State.linesBack s d e n).core = s.core := by
  simp only [State.linesBack, ↓State.setLines_core, State.core_mk, State.core_eta, ↓apply_ite State.core, ite_self, implies_true, eq_self]

theorem State.firstSent_core {α : Type} (s : State) (xs : List α) (f : State → α → Bool × State) (hf : ∀ s a, (f s a).2.core = s.core) :
    (s.firstSent xs f).2.core = s.core := by
  unfold State.firstSent
  suffices h : ∀ (r : Bool × State), (xs.foldl (fun r x => if r.1 then r else f r.2 x) r).2.core = r.2.core from h (false, s)
  induction xs with
  | nil => exact fun _ => rfl
  | cons a t ih =>
    intro r
    rw [List.foldl_cons, ih]
    split
    · rfl
    · exact hf _ _

theorem State.firstSent_core' {α : Type} {s : State} {xs : List α} {f : State → α → Bool × State} {xa : Bool} {t : State}
    (hx : s.firstSent xs f = (xa, t)) (hf : ∀ s a, (f s a).2.core = s.core) : t.core = s.core := by
  have := State.firstSent_core s xs f hf
  rw [hx] at this
  exact this

theorem State.endResilver_core (s : State) (d : Nat) : (State.endResilver s d).core = s.core := by
  unfold State.endResilver
  repeat' split
  all_goals simp only [↓State.linesBack_core, ↓State.releaseGuards_core, ↓State.updMr_core, ↓State.putMir_core, ↓State.off_core, State.core_mk, State.core_eta, ↓apply_ite State.core, ite_self, implies_true, eq_self]

theorem State.resolveCopies_core (s : State) (d g c : Nat) : (State.resolveCopies s d g c).core = s.core := by
  simp only [State.resolveCopies, ↓State.forEach_core, ↓State.push_core, State.core_mk, State.core_eta, ↓apply_ite State.core, ite_self, implies_true, eq_self]

theorem State.failCopyBy_core (s : State) (d g c cause : Nat) (losing : Bool) : (State.failCopyBy s d g c cause losing).core = s.core := by
  unfold State.failCopyBy
  repeat' (first | with_reducible rfl | simp only [↓State.putMir_core, ↓State.on_core, ↓State.wr_core, ↓State.inc_core, ↓State.evC_core, ↓State.endResilver_core, ↓State.dropRepairs_core, ↓State.resolveCopies_core, State.core_mk, State.core_eta, ↓apply_ite State.core, ite_self, implies_true, eq_self] | split)

theorem State.failCopy_core (s : State) (d g c cause : Nat) : (State.failCopy s d g c cause).core = s.core := by
  unfold State.failCopy
  repeat' (first | with_reducible rfl | split | simp only [↓State.failCopyBy_core, State.core_mk, State.core_eta, ↓apply_ite State.core, ite_self, implies_true, eq_self])

theorem State.applyCopyMsg_core (s : State) (d : Nat) (m : CopyMsg) : (State.applyCopyMsg s d m).core = s.core := by
  unfold State.applyCopyMsg
  repeat' split
  all_goals simp only [↓State.forEach_core, ↓State.failCopyBy_core, ↓State.failCopy_core, ↓State.putMir_core, State.core_mk, State.core_eta, ↓apply_ite State.core, ite_self, implies_true, eq_self]

theorem State.sendCopyMsg_core (s : State) (d : Nat) (m : CopyMsg) : (State.sendCopyMsg s d m).core = s.core := by
  simp only [State.sendCopyMsg, ↓State.forEach_core, ↓State.applyCopyMsg_core, ↓State.emit_core, State.core_mk, State.core_eta, ↓apply_ite State.core, ite_self, implies_true, eq_self]

theorem State.countPoison_core (s : State) (d g c : Nat) : (State.countPoison s d g c).core = s.core := by
  simp only [State.countPoison, ↓State.putMir_core, ↓State.sendCopyMsg_core, State.core_mk, State.core_eta, ↓apply_ite State.core, ite_self, implies_true, eq_self]

theorem State.startResilver_core (s : State) (d g c : Nat) : (State.startResilver s d g c).core = s.core := by
  simp only [State.startResilver, ↓State.commitReg_core, ↓State.updMr_core, ↓State.on_core, ↓State.wr_core, ↓State.putMir_core, ↓State.sendCopyMsg_core, ↓State.ev_core, State.core_mk, State.core_eta, ↓apply_ite State.core, ite_self, implies_true, eq_self]

theorem State.startBlock_core (s : State) (d : Nat) : (State.startBlock s d).core = s.core := by
  unfold State.startBlock
  repeat' split
  all_goals simp only [↓State.updMr_core, ↓State.putMir_core, ↓State.wr_core, ↓State.askGuard_core, State.core_mk, State.core_eta, ↓apply_ite State.core, ite_self, implies_true, eq_self]

theorem State.startBlocks_core (s : State) (d : Nat) : (State.startBlocks s d).core = s.core := by
  simp only [State.startBlocks, ↓State.forEach_core, ↓State.startBlock_core, State.core_mk, State.core_eta, ↓apply_ite State.core, ite_self, implies_true, eq_self]

theorem State.readLine_core (s : State) (d e i : Nat) : (State.readLine s d e i).2.core = s.core := by
  unfold State.readLine
  repeat' split
  all_goals simp only [↓State.updMr_core, ↓State.lineSent_core, ↓State.emit_core, State.core_mk, State.core_eta, ↓apply_ite State.core, ite_self, implies_true, eq_self]

theorem State.readLine_core' {s : State} {d e i : Nat} {xa xs}
    (hx : (State.readLine s d e i) = (xa, xs)) : xs.core = s.core := by
  have := State.readLine_core s d e i
  rw [hx] at this
  exact this

theorem State.lineCame_core (s : State) (d grp copy aline : Nat) : (State.lineCame s d grp copy aline).core = s.core := by
  unfold State.lineCame
  repeat' split
  all_goals simp only [↓State.updMr_core, ↓State.linesBack_core, State.core_mk, State.core_eta, ↓apply_ite State.core, ite_self, implies_true, eq_self]

theorem State.autoResilver_core (s : State) (p : Nat) : (State.autoResilver s p).core = s.core := by
  simp only [State.autoResilver, ↓State.forEach_core, ↓State.startResilver_core, State.core_mk, State.core_eta, ↓apply_ite State.core, ite_self, implies_true, eq_self]

theorem State.updMr_ok (s : State) (d : Nat) (f : MrDie → MrDie) (hok : s.regsOk = true) : (State.updMr s d f).regsOk = true := by
  simp only [State.updMr, State.regsOk_mk, State.regsOk_eta, apply_ite State.regsOk, ite_self, implies_true, eq_self, hok]

theorem State.putMir_ok (s : State) (d i : Nat) (x : Mir) (hok : s.regsOk = true) : (State.putMir s d i x).regsOk = true := by
  simp only [State.putMir, State.mend_ok, State.updMr_ok, State.regsOk_mk, State.regsOk_eta, apply_ite State.regsOk, ite_self, implies_true, eq_self, hok]

theorem State.putGuards_ok (s : State) (h : Nat) (f : Tbl Guard → Tbl Guard) (hok : s.regsOk = true) : (State.putGuards s h f).regsOk = true := by
  simp only [State.putGuards, State.updMr_ok, State.wr_ok, State.regsOk_mk, State.regsOk_eta, apply_ite State.regsOk, ite_self, implies_true, eq_self, hok]

theorem State.armGuard_ok (s : State) (h : Nat) (g : Guard) (hok : s.regsOk = true) : (State.armGuard s h g).regsOk = true := by
  unfold State.armGuard
  repeat' split
  all_goals simp only [State.updMr_ok, State.putGuards_ok, State.emit_ok, State.regsOk_mk, State.regsOk_eta, apply_ite State.regsOk, ite_self, implies_true, eq_self, hok]

theorem State.serveArm_ok (s : State) (h : Nat) (hok : s.regsOk = true) : (State.serveArm s h).regsOk = true := by
  unfold State.serveArm
  extract_lets
  repeat' (first | with_reducible assumption | with_reducible (apply State.updMr_ok) | with_reducible (apply State.forEach_ok) | with_reducible (apply State.armGuard_ok) | with_reducible (apply State.ite_ok) | split | (intro _ _ hok) | (intro _ hok) | (intro _ _ _ hok) | simp only [State.regsOk_mk, State.regsOk_eta])

theorem State.releaseGuards_ok (s : State) (chooser grp : Nat) (lines : List Nat) (hok : s.regsOk = true) : (State.releaseGuards s chooser grp lines).regsOk = true := by
  unfold State.releaseGuards
  extract_lets
  repeat' (first | with_reducible assumption | with_reducible (apply State.forEach_ok) | with_reducible (apply State.updMr_ok) | with_reducible (apply State.putGuards_ok) | with_reducible (apply State.serveArm_ok) | with_reducible (apply State.ite_ok) | split | (intro _ _ hok) | (intro _ hok) | (intro _ _ _ hok) | simp only [State.regsOk_mk, State.regsOk_eta])

theorem State.markHit_ok (s : State) (h : Nat) (m : Msg) (hok : s.regsOk = true) : (State.markHit s h m).regsOk = true := by
  simp only [State.markHit, State.updMr_ok, State.regsOk_mk, State.regsOk_eta, apply_ite State.regsOk, ite_self, implies_true, eq_self, hok]

theorem State.askGuard_ok (s : State) (d : Nat) (r : Rewrite) (hok : s.regsOk = true) : (State.askGuard s d r).regsOk = true := by
  simp only [State.askGuard, State.emit_ok, State.regsOk_mk, State.regsOk_eta, apply_ite State.regsOk, ite_self, implies_true, eq_self, hok]

theorem State.pairAnswer_ok (s : State) (src ch grp copy : Nat) (lines : List Nat) (hok : s.regsOk = true) : (State.pairAnswer s src ch grp copy lines).regsOk = true := by
  unfold State.pairAnswer
  repeat' split
  all_goals simp only [State.updMr_ok, State.emit_ok, State.regsOk_mk, State.regsOk_eta, apply_ite State.regsOk, ite_self, implies_true, eq_self, hok]

theorem State.answerPairs_ok (s : State) (d : Nat) (hok : s.regsOk = true) : (State.answerPairs s d).regsOk = true := by
  unfold State.answerPairs
  extract_lets
  repeat' (first | with_reducible assumption | with_reducible (apply State.updMr_ok) | with_reducible (apply State.forEach_ok) | with_reducible (apply State.pairAnswer_ok) | with_reducible (apply State.ite_ok) | split | (intro _ _ hok) | (intro _ hok) | (intro _ _ _ hok) | simp only [State.regsOk_mk, State.regsOk_eta])

theorem State.startRepair_ok (s : State) (d : Nat) (hok : s.regsOk = true) : (State.startRepair s d).regsOk = true := by
  unfold State.startRepair
  repeat' (first | assumption | split | simp only [State.updMr_ok, State.askGuard_ok, State.regsOk_mk, State.regsOk_eta, apply_ite State.regsOk, ite_self, implies_true, eq_self, hok])

theorem State.queueRepair_ok (s : State) (d g c a : Nat) (hok : s.regsOk = true) : (State.queueRepair s d g c a).regsOk = true := by
  unfold State.queueRepair
  extract_lets
  repeat' (first | with_reducible assumption | with_reducible (apply State.inc_ok) | with_reducible (apply State.updMr_ok) | with_reducible (apply State.wr_ok) | with_reducible (apply State.startRepair_ok) | with_reducible (apply State.ite_ok) | split | (intro _ _ hok) | (intro _ hok) | (intro _ _ _ hok) | simp only [State.regsOk_mk, State.regsOk_eta])

theorem State.dropRepairs_ok (s : State) (d g : Nat) (hok : s.regsOk = true) : (State.dropRepairs s d g).regsOk = true := by
  unfold State.dropRepairs
  repeat' (first | with_reducible assumption | with_reducible (apply State.releaseGuards_ok) | with_reducible (apply State.updMr_ok) | with_reducible (apply State.wr_ok) | with_reducible (apply State.startRepair_ok) | with_reducible (apply State.ite_ok) | split | (intro _ _ hok) | (intro _ hok) | (intro _ _ _ hok) | simp only [State.regsOk_mk, State.regsOk_eta])

theorem State.setLines_ok (s : State) (d e n : Nat) (hok : s.regsOk = true) : (State.setLines s d e n).regsOk = true := by
  unfold State.setLines
  repeat' (first | with_reducible assumption | with_reducible (apply State.wake_ok) | with_reducible (apply State.wr_ok) | with_reducible (apply State.wrB_ok) | with_reducible (apply State.ite_ok) | split | (intro _ _ hok) | (intro _ hok) | (intro _ _ _ hok) | simp only [State.regsOk_mk, State.regsOk_eta])

theorem State.lineSent_ok (s : State) (d e : Nat) (hok : s.regsOk = true) : (State.lineSent s d e).regsOk = true := by
  simp only [State.lineSent, State.setLines_ok, State.regsOk_mk, State.regsOk_eta, apply_ite State.regsOk, ite_self, implies_true, eq_self, hok]

theorem State.linesBack_ok (s : State) (d e n : Nat) (hok : s.regsOk = true) : (State.linesBack s d e n).regsOk = true := by
  simp only [State.linesBack, State.setLines_ok, State.regsOk_mk, State.regsOk_eta, apply_ite State.regsOk, ite_self, implies_true, eq_self, hok]

theorem State.firstSent_ok {α : Type} (s : State) (xs : List α) (f : State → α → Bool × State)
    (hf : ∀ s a, State.regsOk s = true → (f s a).2.regsOk = true) (hok : s.regsOk = true) : (s.firstSent xs f).2.regsOk = true := by
  unfold State.firstSent
  suffices h : ∀ (r : Bool × State), r.2.regsOk = true → (xs.foldl (fun r x => if r.1 then r else f r.2 x) r).2.regsOk = true from
    h (false, s) hok
  induction xs with
  | nil => exact fun _ h => h
  | cons a t ih =>
    intro r h
    rw [List.foldl_cons]
    apply ih
    split
    · exact h
    · exact hf _ _ h

theorem State.firstSent_ok' {α : Type} {s : State} {xs : List α} {f : State → α → Bool × State} {xa : Bool} {t : State}
    (hx : s.firstSent xs f = (xa, t)) (hf : ∀ s a, State.regsOk s = true → (f s a).2.regsOk = true) (hok : s.regsOk = true) :
    t.regsOk = true := by
  have := State.firstSent_ok s xs f hf hok
  rw [hx] at this
  exact this

theorem State.endResilver_ok (s : State) (d : Nat) (hok : s.regsOk = true) : (State.endResilver s d).regsOk = true := by
  unfold State.endResilver
  repeat' (first | with_reducible assumption | with_reducible (apply State.linesBack_ok) | with_reducible (apply State.releaseGuards_ok) | with_reducible (apply State.updMr_ok) | with_reducible (apply State.putMir_ok) | with_reducible (apply State.off_ok) | with_reducible (apply State.ite_ok) | split | (intro _ _ hok) | (intro _ hok) | (intro _ _ _ hok) | simp only [State.regsOk_mk, State.regsOk_eta])

theorem State.resolveCopies_ok (s : State) (d g c : Nat) (hok : s.regsOk = true) : (State.resolveCopies s d g c).regsOk = true := by
  unfold State.resolveCopies
  repeat' (first | with_reducible assumption | with_reducible (apply State.forEach_ok) | with_reducible (apply State.push_ok) | with_reducible (apply State.ite_ok) | split | (intro _ _ hok) | (intro _ hok) | (intro _ _ _ hok) | simp only [State.regsOk_mk, State.regsOk_eta])

theorem State.failCopyBy_ok (s : State) (d g c cause : Nat) (losing : Bool) (hok : s.regsOk = true) : (State.failCopyBy s d g c cause losing).regsOk = true := by
  unfold State.failCopyBy
  extract_lets
  repeat' (first | with_reducible assumption | with_reducible (apply State.putMir_ok) | with_reducible (apply State.on_ok) | with_reducible (apply State.wr_ok) | with_reducible (apply State.inc_ok) | with_reducible (apply State.evC_ok) | with_reducible (apply State.endResilver_ok) | with_reducible (apply State.dropRepairs_ok) | with_reducible (apply State.resolveCopies_ok) | with_reducible (apply State.ite_ok) | split | (intro _ _ hok) | (intro _ hok) | (intro _ _ _ hok) | simp only [State.regsOk_mk, State.regsOk_eta])

theorem State.failCopy_ok (s : State) (d g c cause : Nat) (hok : s.regsOk = true) : (State.failCopy s d g c cause).regsOk = true := by
  simp only [State.failCopy, State.failCopyBy_ok, State.regsOk_mk, State.regsOk_eta, apply_ite State.regsOk, ite_self, implies_true, eq_self, hok]

theorem State.applyCopyMsg_ok (s : State) (d : Nat) (m : CopyMsg) (hok : s.regsOk = true) : (State.applyCopyMsg s d m).regsOk = true := by
  unfold State.applyCopyMsg
  repeat' (first | with_reducible assumption | with_reducible (apply State.forEach_ok) | with_reducible (apply State.failCopyBy_ok) | with_reducible (apply State.failCopy_ok) | with_reducible (apply State.putMir_ok) | with_reducible (apply State.ite_ok) | split | (intro _ _ hok) | (intro _ hok) | (intro _ _ _ hok) | simp only [State.regsOk_mk, State.regsOk_eta])

theorem State.sendCopyMsg_ok (s : State) (d : Nat) (m : CopyMsg) (hok : s.regsOk = true) : (State.sendCopyMsg s d m).regsOk = true := by
  unfold State.sendCopyMsg
  repeat' (first | with_reducible assumption | with_reducible (apply State.forEach_ok) | with_reducible (apply State.applyCopyMsg_ok) | with_reducible (apply State.emit_ok) | with_reducible (apply State.ite_ok) | split | (intro _ _ hok) | (intro _ hok) | (intro _ _ _ hok) | simp only [State.regsOk_mk, State.regsOk_eta])

theorem State.countPoison_ok (s : State) (d g c : Nat) (hok : s.regsOk = true) : (State.countPoison s d g c).regsOk = true := by
  simp only [State.countPoison, State.putMir_ok, State.sendCopyMsg_ok, State.regsOk_mk, State.regsOk_eta, apply_ite State.regsOk, ite_self, implies_true, eq_self, hok]

theorem State.startResilver_ok (s : State) (d g c : Nat) (hok : s.regsOk = true) : (State.startResilver s d g c).regsOk = true := by
  unfold State.startResilver
  extract_lets
  repeat' (first | with_reducible assumption | with_reducible (apply State.commitReg_ok) | with_reducible (apply State.updMr_ok) | with_reducible (apply State.on_ok) | with_reducible (apply State.wr_ok) | with_reducible (apply State.putMir_ok) | with_reducible (apply State.sendCopyMsg_ok) | with_reducible (apply State.ev_ok) | with_reducible (apply State.ite_ok) | split | (intro _ _ hok) | (intro _ hok) | (intro _ _ _ hok) | simp only [State.regsOk_mk, State.regsOk_eta])

theorem State.startBlock_ok (s : State) (d : Nat) (hok : s.regsOk = true) : (State.startBlock s d).regsOk = true := by
  unfold State.startBlock
  extract_lets
  repeat' (first | with_reducible assumption | with_reducible (apply State.updMr_ok) | with_reducible (apply State.putMir_ok) | with_reducible (apply State.wr_ok) | with_reducible (apply State.askGuard_ok) | with_reducible (apply State.ite_ok) | split | (intro _ _ hok) | (intro _ hok) | (intro _ _ _ hok) | simp only [State.regsOk_mk, State.regsOk_eta])

theorem State.startBlocks_ok (s : State) (d : Nat) (hok : s.regsOk = true) : (State.startBlocks s d).regsOk = true := by
  unfold State.startBlocks
  repeat' (first | with_reducible assumption | with_reducible (apply State.forEach_ok) | with_reducible (apply State.startBlock_ok) | with_reducible (apply State.ite_ok) | split | (intro _ _ hok) | (intro _ hok) | (intro _ _ _ hok) | simp only [State.regsOk_mk, State.regsOk_eta])

theorem State.readLine_ok (s : State) (d e i : Nat) (hok : s.regsOk = true) : (State.readLine s d e i).2.regsOk = true := by
  unfold State.readLine
  repeat' (first | with_reducible assumption | with_reducible (apply State.updMr_ok) | with_reducible (apply State.lineSent_ok) | with_reducible (apply State.emit_ok) | with_reducible (apply State.ite_ok) | split | (intro _ _ hok) | (intro _ hok) | (intro _ _ _ hok) | simp only [State.regsOk_mk, State.regsOk_eta])

theorem State.readLine_ok' {s : State} {d e i : Nat} {xa xs}
    (hx : State.readLine s d e i = (xa, xs)) (hok : s.regsOk = true) : xs.regsOk = true := by
  have := State.readLine_ok s d e i hok
  rw [hx] at this
  exact this

theorem State.lineCame_ok (s : State) (d grp copy aline : Nat) (hok : s.regsOk = true) : (State.lineCame s d grp copy aline).regsOk = true := by
  unfold State.lineCame
  repeat' split
  all_goals simp only [State.updMr_ok, State.linesBack_ok, State.regsOk_mk, State.regsOk_eta, apply_ite State.regsOk, ite_self, implies_true, eq_self, hok]

theorem State.autoResilver_ok (s : State) (p : Nat) (hok : s.regsOk = true) : (State.autoResilver s p).regsOk = true := by
  unfold State.autoResilver
  extract_lets
  repeat' (first | with_reducible assumption | with_reducible (apply State.forEach_ok) | with_reducible (apply State.startResilver_ok) | with_reducible (apply State.ite_ok) | split | (intro _ _ hok) | (intro _ hok) | (intro _ _ _ hok) | simp only [State.regsOk_mk, State.regsOk_eta])

end Sys2Proof.Machine
end

