-- ==== Sys2Proof/Laws/OverlayOps.lean ====
section
/-! SUPPORT. What the operations of Machine/OverlayOps.lean leave alone: the part, the waiting commands, the blown life-cycle fuses, and the
canonical form of the register file. -/

namespace Sys2Proof.Machine
set_option linter.unusedSimpArgs false
set_option linter.unusedVariables false
set_option linter.unreachableTactic false
set_option linter.unusedTactic false
set_option linter.style.nameCheck false

theorem State.updOv_core (s : State) (d : Nat) (f : OvDie → OvDie) : (State.updOv s d f).core = s.core := by
  simp only [State.updOv, State.core_mk, State.core_eta, ↓apply_ite State.core, ite_self, implies_true, eq_self]

theorem State.putMig_core (s : State) (d sl : Nat) (m : MigSlot) : (State.putMig s d sl m).core = s.core := by
  simp only [State.putMig, ↓State.updOv_core, State.core_mk, State.core_eta, ↓apply_ite State.core, ite_self, implies_true, eq_self]

theorem State.showOv_core (s : State) (d : Nat) : (State.showOv s d).core = s.core := by
  simp only [State.showOv, ↓State.wr_core, State.core_mk, State.core_eta, ↓apply_ite State.core, ite_self, implies_true, eq_self]

theorem State.ovLookup_core (s : State) (d : Nat) (e : QEnt) : (State.ovLookup s d e).2.core = s.core := by
  unfold State.ovLookup
  repeat' (first | with_reducible rfl | split | simp only [↓State.putMig_core, ↓State.inc_core, ↓State.pm_core, ↓State.updOv_core, State.core_mk, State.core_eta, ↓apply_ite State.core, ite_self, implies_true, eq_self])

theorem State.ovLookup_core' {s : State} {d : Nat} {e : QEnt} {xa xs}
    (hx : (State.ovLookup s d e) = (xa, xs)) : xs.core = s.core := by
  have := State.ovLookup_core s d e
  rw [hx] at this
  exact this

theorem State.ovSend_core (s : State) (d : Nat) (e : QEnt) (o : OvTo) : (State.ovSend s d e o).core = s.core := by
  unfold State.ovSend
  repeat' split
  all_goals simp only [↓State.markHit_core, ↓State.route_core, ↓State.pm_core, ↓State.updTrkOf_core, ↓State.addCopy_core, State.core_mk, State.core_eta, ↓apply_ite State.core, ite_self, implies_true, eq_self]

theorem State.dualLost_core (s : State) (d : Nat) (t : OvTag) : (State.dualLost s d t).core = s.core := by
  unfold State.dualLost
  repeat' split
  all_goals simp only [↓State.push_core, State.core_mk, State.core_eta, ↓apply_ite State.core, ite_self, implies_true, eq_self]

theorem State.dualEnd_core (s : State) (d tag : Nat) (ndr : Bool) : (State.dualEnd s d tag ndr).core = s.core := by
  unfold State.dualEnd
  repeat' split
  all_goals simp only [↓State.updOv_core, ↓State.noteDone_core, ↓State.push_core, ↓State.dualLost_core, State.core_mk, State.core_eta, ↓apply_ite State.core, ite_self, implies_true, eq_self]

theorem State.tagServe_core (s : State) (d : Nat) : (State.tagServe s d).core = s.core := by
  simp only [State.tagServe, ↓State.updOv_core, ↓State.forEach_core, ↓State.push_core, State.core_mk, State.core_eta, ↓apply_ite State.core, ite_self, implies_true, eq_self]

theorem State.migRequest_core (s : State) (d t sl k : Nat) (tc : Nat) (kind : MKind) (p : Place) (data : List Nat) (poison : Bool) : (State.migRequest s d t sl k tc kind p data poison).1.core = s.core := by
  simp only [State.migRequest, ↓State.putTrk_core, State.core_mk, State.core_eta, ↓apply_ite State.core, ite_self, implies_true, eq_self]

theorem State.migRequest_core' {s : State} {d t sl k : Nat} {tc : Nat} {kind : MKind} {p : Place} {data : List Nat} {poison : Bool} {xs xa}
    (hx : (State.migRequest s d t sl k tc kind p data poison) = (xs, xa)) : xs.core = s.core := by
  have := State.migRequest_core s d t sl k tc kind p data poison
  rw [hx] at this
  exact this

theorem State.startLine_core (s : State) (d sl : Nat) : (State.startLine s d sl).2.core = s.core := by
  unfold State.startLine
  repeat' split
  all_goals simp only [↓State.migRequest_core, ↓State.putMig_core, ↓State.lineSent_core, ↓State.push_core, State.core_mk, State.core_eta, ↓apply_ite State.core, ite_self, implies_true, eq_self]

theorem State.startLine_core' {s : State} {d sl : Nat} {xa xs}
    (hx : (State.startLine s d sl) = (xa, xs)) : xs.core = s.core := by
  have := State.startLine_core s d sl
  rw [hx] at this
  exact this

theorem State.lineRead_core (s : State) (d sl k : Nat) (poison : Bool) (data : List Nat) : (State.lineRead s d sl k poison data).core = s.core := by
  unfold State.lineRead
  repeat' split
  all_goals simp only [↓State.linesBack_core, ↓State.ev_core, ↓State.putMig_core, State.core_mk, State.core_eta, ↓apply_ite State.core, ite_self, implies_true, eq_self]

theorem State.writeLine_core (s : State) (d sl : Nat) : (State.writeLine s d sl).2.core = s.core := by
  unfold State.writeLine
  repeat' (first | with_reducible rfl | simp only [↓State.migRequest_core, ↓State.putMig_core, ↓State.lineSent_core, ↓State.route_core, State.core_mk, State.core_eta, ↓apply_ite State.core, ite_self, implies_true, eq_self] | split | (refine (State.migRequest_core' (by assumption)).trans ?_))

theorem State.writeLine_core' {s : State} {d sl : Nat} {xa xs}
    (hx : (State.writeLine s d sl) = (xa, xs)) : xs.core = s.core := by
  have := State.writeLine_core s d sl
  rw [hx] at this
  exact this

theorem State.migWake_core (s : State) (d sl : Nat) (p : QEnt → Bool) : (State.migWake s d sl p).core = s.core := by
  unfold State.migWake
  repeat' split
  all_goals simp only [↓State.putMig_core, ↓State.forEach_core, ↓State.push_core, State.core_mk, State.core_eta, ↓apply_ite State.core, ite_self, implies_true, eq_self]

theorem State.migSwitch_core (s : State) (d sl : Nat) : (State.migSwitch s d sl).core = s.core := by
  unfold State.migSwitch
  repeat' split
  all_goals simp only [↓State.updOv_core, ↓State.putMig_core, ↓State.on_core, ↓State.showOv_core, State.core_mk, State.core_eta, ↓apply_ite State.core, ite_self, implies_true, eq_self]

theorem State.lineDone_core (s : State) (d sl k : Nat) : (State.lineDone s d sl k).core = s.core := by
  unfold State.lineDone
  repeat' split
  all_goals simp only [↓State.putMig_core, ↓State.linesBack_core, ↓State.wr_core, ↓State.migWake_core, ↓State.migSwitch_core, State.core_mk, State.core_eta, ↓apply_ite State.core, ite_self, implies_true, eq_self]

theorem State.migServe_core (s : State) (d sl : Nat) : (State.migServe s d sl).core = s.core := by
  unfold State.migServe
  repeat' split
  all_goals simp only [↓State.migWake_core, State.core_mk, State.core_eta, ↓apply_ite State.core, ite_self, implies_true, eq_self]

theorem State.migAbort_core (s : State) (d sl : Nat) : (State.migAbort s d sl).core = s.core := by
  unfold State.migAbort
  repeat' split
  all_goals simp only [↓State.updOv_core, ↓State.putMig_core, ↓State.on_core, ↓State.migWake_core, ↓State.showOv_core, State.core_mk, State.core_eta, ↓apply_ite State.core, ite_self, implies_true, eq_self]

theorem State.migDrained_core (s : State) (d sl : Nat) : (State.migDrained s d sl).core = s.core := by
  unfold State.migDrained
  repeat' split
  all_goals simp only [↓State.updOv_core, ↓State.off_core, ↓State.showOv_core, ↓State.on_core, ↓State.inc_core, ↓State.ev_core, ↓State.emit_core, State.core_mk, State.core_eta, ↓apply_ite State.core, ite_self, implies_true, eq_self]

theorem State.migPortAbort_core (s : State) (p : Nat) : (State.migPortAbort s p).core = s.core := by
  simp only [State.migPortAbort, ↓State.forEach_core, ↓State.migAbort_core, State.core_mk, State.core_eta, ↓apply_ite State.core, ite_self, implies_true, eq_self]

theorem State.ovBegin_core (s : State) (d quad ld page : Nat) (n : Place) (reply : Option (Nat × Nat)) : (State.ovBegin s d quad ld page n reply).core = s.core := by
  simp only [State.ovBegin, ↓State.commitReg_core, ↓State.mend_core, ↓State.updOv_core, ↓State.on_core, ↓State.off_core, ↓State.wr_core, ↓State.showOv_core, State.core_mk, State.core_eta, ↓apply_ite State.core, ite_self, implies_true, eq_self]

theorem State.rewriteEnded_core (s : State) (ch grp copy xline : Nat) : (State.rewriteEnded s ch grp copy xline).core = s.core := by
  unfold State.rewriteEnded
  repeat' (first | with_reducible rfl | simp only [↓State.pm_core, ↓State.updMr_core, ↓State.wr_core, ↓State.startRepair_core, State.core_mk, State.core_eta, ↓apply_ite State.core, ite_self, implies_true, eq_self] | split)

theorem State.rewriteLine_core (s : State) (d ch grp copy line : Nat) (poison : Bool) (data : Nat) : (State.rewriteLine s d ch grp copy line poison data).core = s.core := by
  unfold State.rewriteLine
  repeat' (first | with_reducible rfl | simp only [↓State.lineCame_core, ↓State.updMr_core, ↓State.inc_core, ↓State.putTrk_core, ↓State.ovLookup_core, ↓State.ovSend_core, ↓State.putGuards_core, ↓State.serveArm_core, ↓State.emit_core, ↓State.rewriteEnded_core, State.core_mk, State.core_eta, ↓apply_ite State.core, ite_self, implies_true, eq_self] | split | (refine (State.ovLookup_core' (by assumption)).trans ?_))

theorem State.rewritesAgain_core (s : State) (d : Nat) : (State.rewritesAgain s d).core = s.core := by
  simp only [State.rewritesAgain, ↓State.updMr_core, ↓State.forEach_core, ↓State.rewriteLine_core, State.core_mk, State.core_eta, ↓apply_ite State.core, ite_self, implies_true, eq_self]

theorem State.updOv_ok (s : State) (d : Nat) (f : OvDie → OvDie) (hok : s.regsOk = true) : (State.updOv s d f).regsOk = true := by
  simp only [State.updOv, State.regsOk_mk, State.regsOk_eta, apply_ite State.regsOk, ite_self, implies_true, eq_self, hok]

theorem State.putMig_ok (s : State) (d sl : Nat) (m : MigSlot) (hok : s.regsOk = true) : (State.putMig s d sl m).regsOk = true := by
  simp only [State.putMig, State.updOv_ok, State.regsOk_mk, State.regsOk_eta, apply_ite State.regsOk, ite_self, implies_true, eq_self, hok]

theorem State.showOv_ok (s : State) (d : Nat) (hok : s.regsOk = true) : (State.showOv s d).regsOk = true := by
  simp only [State.showOv, State.wr_ok, State.regsOk_mk, State.regsOk_eta, apply_ite State.regsOk, ite_self, implies_true, eq_self, hok]

theorem State.ovLookup_ok (s : State) (d : Nat) (e : QEnt) (hok : s.regsOk = true) : (State.ovLookup s d e).2.regsOk = true := by
  unfold State.ovLookup
  extract_lets
  repeat' (first | with_reducible assumption | with_reducible (apply State.putMig_ok) | with_reducible (apply State.inc_ok) | with_reducible (apply State.pm_ok) | with_reducible (apply State.updOv_ok) | with_reducible (apply State.ite_ok) | split | (intro _ _ hok) | (intro _ hok) | (intro _ _ _ hok) | simp only [State.regsOk_mk, State.regsOk_eta])

theorem State.ovLookup_ok' {s : State} {d : Nat} {e : QEnt} {xa xs}
    (hx : State.ovLookup s d e = (xa, xs)) (hok : s.regsOk = true) : xs.regsOk = true := by
  have := State.ovLookup_ok s d e hok
  rw [hx] at this
  exact this

theorem State.ovSend_ok (s : State) (d : Nat) (e : QEnt) (o : OvTo) (hok : s.regsOk = true) : (State.ovSend s d e o).regsOk = true := by
  unfold State.ovSend
  repeat' (first | with_reducible assumption | with_reducible (apply State.markHit_ok) | with_reducible (apply State.route_ok) | with_reducible (apply State.pm_ok) | with_reducible (apply State.updTrkOf_ok) | with_reducible (apply State.addCopy_ok) | with_reducible (apply State.ite_ok) | split | (intro _ _ hok) | (intro _ hok) | (intro _ _ _ hok) | simp only [State.regsOk_mk, State.regsOk_eta])

theorem State.dualLost_ok (s : State) (d : Nat) (t : OvTag) (hok : s.regsOk = true) : (State.dualLost s d t).regsOk = true := by
  unfold State.dualLost
  repeat' split
  all_goals simp only [State.push_ok, State.regsOk_mk, State.regsOk_eta, apply_ite State.regsOk, ite_self, implies_true, eq_self, hok]

theorem State.dualEnd_ok (s : State) (d tag : Nat) (ndr : Bool) (hok : s.regsOk = true) : (State.dualEnd s d tag ndr).regsOk = true := by
  unfold State.dualEnd
  extract_lets
  repeat' (first | with_reducible assumption | with_reducible (apply State.updOv_ok) | with_reducible (apply State.noteDone_ok) | with_reducible (apply State.push_ok) | with_reducible (apply State.dualLost_ok) | with_reducible (apply State.ite_ok) | split | (intro _ _ hok) | (intro _ hok) | (intro _ _ _ hok) | simp only [State.regsOk_mk, State.regsOk_eta])

theorem State.tagServe_ok (s : State) (d : Nat) (hok : s.regsOk = true) : (State.tagServe s d).regsOk = true := by
  unfold State.tagServe
  extract_lets
  repeat' (first | with_reducible assumption | with_reducible (apply State.updOv_ok) | with_reducible (apply State.forEach_ok) | with_reducible (apply State.push_ok) | with_reducible (apply State.ite_ok) | split | (intro _ _ hok) | (intro _ hok) | (intro _ _ _ hok) | simp only [State.regsOk_mk, State.regsOk_eta])

theorem State.migRequest_ok (s : State) (d t sl k : Nat) (tc : Nat) (kind : MKind) (p : Place) (data : List Nat) (poison : Bool) (hok : s.regsOk = true) : (State.migRequest s d t sl k tc kind p data poison).1.regsOk = true := by
  simp only [State.migRequest, State.putTrk_ok, State.regsOk_mk, State.regsOk_eta, apply_ite State.regsOk, ite_self, implies_true, eq_self, hok]

theorem State.migRequest_ok' {s : State} {d t sl k : Nat} {tc : Nat} {kind : MKind} {p : Place} {data : List Nat} {poison : Bool} {xs xa}
    (hx : State.migRequest s d t sl k tc kind p data poison = (xs, xa)) (hok : s.regsOk = true) : xs.regsOk = true := by
  have := State.migRequest_ok s d t sl k tc kind p data poison hok
  rw [hx] at this
  exact this

theorem State.startLine_ok (s : State) (d sl : Nat) (hok : s.regsOk = true) : (State.startLine s d sl).2.regsOk = true := by
  unfold State.startLine
  repeat' (first | with_reducible assumption | with_reducible (apply State.migRequest_ok) | with_reducible (apply State.putMig_ok) | with_reducible (apply State.lineSent_ok) | with_reducible (apply State.push_ok) | with_reducible (exact State.migRequest_ok' (by assumption) (by assumption)) | (refine State.migRequest_ok' (by assumption) ?_) | with_reducible (apply State.ite_ok) | split | (intro _ _ hok) | (intro _ hok) | (intro _ _ _ hok) | simp only [State.regsOk_mk, State.regsOk_eta])

theorem State.startLine_ok' {s : State} {d sl : Nat} {xa xs}
    (hx : State.startLine s d sl = (xa, xs)) (hok : s.regsOk = true) : xs.regsOk = true := by
  have := State.startLine_ok s d sl hok
  rw [hx] at this
  exact this

theorem State.lineRead_ok (s : State) (d sl k : Nat) (poison : Bool) (data : List Nat) (hok : s.regsOk = true) : (State.lineRead s d sl k poison data).regsOk = true := by
  unfold State.lineRead
  repeat' (first | with_reducible assumption | with_reducible (apply State.linesBack_ok) | with_reducible (apply State.ev_ok) | with_reducible (apply State.putMig_ok) | with_reducible (apply State.ite_ok) | split | (intro _ _ hok) | (intro _ hok) | (intro _ _ _ hok) | simp only [State.regsOk_mk, State.regsOk_eta])

theorem State.writeLine_ok (s : State) (d sl : Nat) (hok : s.regsOk = true) : (State.writeLine s d sl).2.regsOk = true := by
  unfold State.writeLine
  repeat' (first | with_reducible assumption | with_reducible (apply State.migRequest_ok) | with_reducible (apply State.putMig_ok) | with_reducible (apply State.lineSent_ok) | with_reducible (apply State.route_ok) | with_reducible (exact State.migRequest_ok' (by assumption) (by assumption)) | (refine State.migRequest_ok' (by assumption) ?_) | with_reducible (apply State.ite_ok) | split | (intro _ _ hok) | (intro _ hok) | (intro _ _ _ hok) | simp only [State.regsOk_mk, State.regsOk_eta])

theorem State.writeLine_ok' {s : State} {d sl : Nat} {xa xs}
    (hx : State.writeLine s d sl = (xa, xs)) (hok : s.regsOk = true) : xs.regsOk = true := by
  have := State.writeLine_ok s d sl hok
  rw [hx] at this
  exact this

theorem State.migWake_ok (s : State) (d sl : Nat) (p : QEnt → Bool) (hok : s.regsOk = true) : (State.migWake s d sl p).regsOk = true := by
  unfold State.migWake
  repeat' (first | with_reducible assumption | with_reducible (apply State.putMig_ok) | with_reducible (apply State.forEach_ok) | with_reducible (apply State.push_ok) | with_reducible (apply State.ite_ok) | split | (intro _ _ hok) | (intro _ hok) | (intro _ _ _ hok) | simp only [State.regsOk_mk, State.regsOk_eta])

theorem State.migSwitch_ok (s : State) (d sl : Nat) (hok : s.regsOk = true) : (State.migSwitch s d sl).regsOk = true := by
  unfold State.migSwitch
  repeat' (first | with_reducible assumption | with_reducible (apply State.updOv_ok) | with_reducible (apply State.putMig_ok) | with_reducible (apply State.on_ok) | with_reducible (apply State.showOv_ok) | with_reducible (apply State.ite_ok) | split | (intro _ _ hok) | (intro _ hok) | (intro _ _ _ hok) | simp only [State.regsOk_mk, State.regsOk_eta])

theorem State.lineDone_ok (s : State) (d sl k : Nat) (hok : s.regsOk = true) : (State.lineDone s d sl k).regsOk = true := by
  unfold State.lineDone
  repeat' (first | with_reducible assumption | with_reducible (apply State.putMig_ok) | with_reducible (apply State.linesBack_ok) | with_reducible (apply State.wr_ok) | with_reducible (apply State.migWake_ok) | with_reducible (apply State.migSwitch_ok) | with_reducible (apply State.ite_ok) | split | (intro _ _ hok) | (intro _ hok) | (intro _ _ _ hok) | simp only [State.regsOk_mk, State.regsOk_eta])

theorem State.migServe_ok (s : State) (d sl : Nat) (hok : s.regsOk = true) : (State.migServe s d sl).regsOk = true := by
  unfold State.migServe
  repeat' split
  all_goals simp only [State.migWake_ok, State.regsOk_mk, State.regsOk_eta, apply_ite State.regsOk, ite_self, implies_true, eq_self, hok]

theorem State.migAbort_ok (s : State) (d sl : Nat) (hok : s.regsOk = true) : (State.migAbort s d sl).regsOk = true := by
  unfold State.migAbort
  repeat' (first | with_reducible assumption | with_reducible (apply State.updOv_ok) | with_reducible (apply State.putMig_ok) | with_reducible (apply State.on_ok) | with_reducible (apply State.migWake_ok) | with_reducible (apply State.showOv_ok) | with_reducible (apply State.ite_ok) | split | (intro _ _ hok) | (intro _ hok) | (intro _ _ _ hok) | simp only [State.regsOk_mk, State.regsOk_eta])

theorem State.migDrained_ok (s : State) (d sl : Nat) (hok : s.regsOk = true) : (State.migDrained s d sl).regsOk = true := by
  unfold State.migDrained
  extract_lets
  repeat' (first | with_reducible assumption | with_reducible (apply State.updOv_ok) | with_reducible (apply State.off_ok) | with_reducible (apply State.showOv_ok) | with_reducible (apply State.on_ok) | with_reducible (apply State.inc_ok) | with_reducible (apply State.ev_ok) | with_reducible (apply State.emit_ok) | with_reducible (apply State.ite_ok) | split | (intro _ _ hok) | (intro _ hok) | (intro _ _ _ hok) | simp only [State.regsOk_mk, State.regsOk_eta])

theorem State.migPortAbort_ok (s : State) (p : Nat) (hok : s.regsOk = true) : (State.migPortAbort s p).regsOk = true := by
  unfold State.migPortAbort
  repeat' (first | with_reducible assumption | with_reducible (apply State.forEach_ok) | with_reducible (apply State.migAbort_ok) | with_reducible (apply State.ite_ok) | split | (intro _ _ hok) | (intro _ hok) | (intro _ _ _ hok) | simp only [State.regsOk_mk, State.regsOk_eta])

theorem State.ovBegin_ok (s : State) (d quad ld page : Nat) (n : Place) (reply : Option (Nat × Nat)) (hok : s.regsOk = true) : (State.ovBegin s d quad ld page n reply).regsOk = true := by
  unfold State.ovBegin
  extract_lets
  repeat' (first | with_reducible assumption | with_reducible (apply State.commitReg_ok) | with_reducible (apply State.mend_ok) | with_reducible (apply State.updOv_ok) | with_reducible (apply State.on_ok) | with_reducible (apply State.off_ok) | with_reducible (apply State.wr_ok) | with_reducible (apply State.showOv_ok) | with_reducible (apply State.ite_ok) | split | (intro _ _ hok) | (intro _ hok) | (intro _ _ _ hok) | simp only [State.regsOk_mk, State.regsOk_eta])

theorem State.rewriteEnded_ok (s : State) (ch grp copy xline : Nat) (hok : s.regsOk = true) : (State.rewriteEnded s ch grp copy xline).regsOk = true := by
  unfold State.rewriteEnded
  extract_lets
  repeat' (first | with_reducible assumption | with_reducible (apply State.pm_ok) | with_reducible (apply State.updMr_ok) | with_reducible (apply State.wr_ok) | with_reducible (apply State.startRepair_ok) | with_reducible (apply State.ite_ok) | split | (intro _ _ hok) | (intro _ hok) | (intro _ _ _ hok) | simp only [State.regsOk_mk, State.regsOk_eta])

theorem State.rewriteLine_ok (s : State) (d ch grp copy line : Nat) (poison : Bool) (data : Nat) (hok : s.regsOk = true) : (State.rewriteLine s d ch grp copy line poison data).regsOk = true := by
  unfold State.rewriteLine
  repeat' (first | with_reducible assumption | with_reducible (apply State.lineCame_ok) | with_reducible (apply State.updMr_ok) | with_reducible (apply State.inc_ok) | with_reducible (apply State.putTrk_ok) | with_reducible (apply State.ovLookup_ok) | with_reducible (apply State.ovSend_ok) | with_reducible (apply State.putGuards_ok) | with_reducible (apply State.serveArm_ok) | with_reducible (apply State.emit_ok) | with_reducible (apply State.rewriteEnded_ok) | with_reducible (exact State.ovLookup_ok' (by assumption) (by assumption)) | (refine State.ovLookup_ok' (by assumption) ?_) | with_reducible (apply State.ite_ok) | split | (intro _ _ hok) | (intro _ hok) | (intro _ _ _ hok) | simp only [State.regsOk_mk, State.regsOk_eta])

theorem State.rewritesAgain_ok (s : State) (d : Nat) (hok : s.regsOk = true) : (State.rewritesAgain s d).regsOk = true := by
  unfold State.rewritesAgain
  repeat' (first | with_reducible assumption | with_reducible (apply State.updMr_ok) | with_reducible (apply State.forEach_ok) | with_reducible (apply State.rewriteLine_ok) | with_reducible (apply State.ite_ok) | split | (intro _ _ hok) | (intro _ hok) | (intro _ _ _ hok) | simp only [State.regsOk_mk, State.regsOk_eta])

end Sys2Proof.Machine
end

