-- ==== Sys2Proof/Laws/SchedOps.lean ====
section
/-! SUPPORT. What the operations of Machine/SchedOps.lean leave alone: the part, the waiting commands, the blown life-cycle fuses, and the
canonical form of the register file. -/

namespace Sys2Proof.Machine
set_option linter.unusedSimpArgs false
set_option linter.unusedVariables false
set_option linter.unreachableTactic false
set_option linter.unusedTactic false
set_option linter.style.nameCheck false

theorem State.putShp_core (s : State) (d i : Nat) (x : Shaper) : (State.putShp s d i x).core = s.core := by
  simp only [State.putShp, State.core_mk, State.core_eta, ↓apply_ite State.core, ite_self, implies_true, eq_self]

theorem State.charge_core (s : State) (d i : Nat) (m : Msg) : (State.charge s d i m).core = s.core := by
  simp only [State.charge, ↓State.putShp_core, ↓State.pm_core, State.core_mk, State.core_eta, ↓apply_ite State.core, ite_self, implies_true, eq_self]

theorem State.showShps_core (s : State) (d : Nat) : (State.showShps s d).core = s.core := by
  simp only [State.showShps, ↓State.wr_core, State.core_mk, State.core_eta, ↓apply_ite State.core, ite_self, implies_true, eq_self]

theorem State.shpWrite_core (s : State) (d : Nat) (w : ShpWrite) : (State.shpWrite s d w).core = s.core := by
  simp only [State.shpWrite, ↓State.wr_core, ↓State.mend_core, ↓State.putShp_core, ↓State.showShps_core, State.core_mk, State.core_eta, ↓apply_ite State.core, ite_self, implies_true, eq_self]

theorem State.serveShp_core (s : State) (d i : Nat) : (State.serveShp s d i).core = s.core := by
  unfold State.serveShp
  repeat' (first | with_reducible rfl | split | simp only [↓State.putShp_core, State.core_mk, State.core_eta, ↓apply_ite State.core, ite_self, implies_true, eq_self])

theorem State.wheelSlot_core (s : State) (d : Nat) : (State.wheelSlot s d).core = s.core := by
  simp only [State.wheelSlot, ↓State.wr_core, ↓State.forEach_core, ↓State.serveShp_core, ↓State.putShp_core, ↓State.inc_core, ↓State.ev_core, State.core_mk, State.core_eta, ↓apply_ite State.core, ite_self, implies_true, eq_self]

theorem State.owe_core (s : State) (p input : Nat) (m : Msg) : (State.owe s p input m).core = s.core := by
  simp only [State.owe, ↓State.grantCredit_core, State.core_mk, State.core_eta, ↓apply_ite State.core, ite_self, implies_true, eq_self]

theorem State.dropOwed_core (s : State) (p : Nat) : (State.dropOwed s p).core = s.core := by
  unfold State.dropOwed
  repeat' (first | with_reducible rfl | split | simp only [↓State.forEach_core, ↓State.dropCredit_core, State.core_mk, State.core_eta, ↓apply_ite State.core, ite_self, implies_true, eq_self] | (refine (State.forEach_core _ _ _ (fun s a => ?_)).trans ?_))

theorem State.payCredit_core (s : State) (p c : Nat) : (s.payCredit p c).core = s.core := by
  unfold State.payCredit
  dsimp only
  split
  · rfl
  · split
    · rfl
    · split
      · rfl
      · rename_i h
        have ht := State.backCredit_core s _ _ _ _ h
        exact ht
      · rename_i h
        have ht := State.backCredit_core s _ _ _ _ h
        split
        · rfl
        · split
          · exact (State.charge_core _ _ _ _).trans ht
          · exact (State.inc_core _ _ _).trans ((State.charge_core _ _ _ _).trans ht)

theorem State.chooseEntry_core (s : State) (d o : Nat) (ready : Nat → Bool) : (State.chooseEntry s d o ready).2.core = s.core := by
  unfold State.chooseEntry
  repeat' split
  all_goals simp only [↓State.updXb_core, State.core_mk, State.core_eta, ↓apply_ite State.core, ite_self, implies_true, eq_self]

theorem State.chooseEntry_core' {s : State} {d o : Nat} {ready : Nat → Bool} {xa xs}
    (hx : (State.chooseEntry s d o ready) = (xa, xs)) : xs.core = s.core := by
  have := State.chooseEntry_core s d o ready
  rw [hx] at this
  exact this

theorem State.served_core (s : State) (d o e n : Nat) : (State.served s d o e n).core = s.core := by
  simp only [State.served, ↓State.updXb_core, State.core_mk, State.core_eta, ↓apply_ite State.core, ite_self, implies_true, eq_self]

theorem State.chargeOut_core (s : State) (d o : Nat) (m : Msg) : (State.chargeOut s d o m).core = s.core := by
  unfold State.chargeOut
  repeat' split
  all_goals simp only [↓State.charge_core, State.core_mk, State.core_eta, ↓apply_ite State.core, ite_self, implies_true, eq_self]

theorem State.putShp_ok (s : State) (d i : Nat) (x : Shaper) (hok : s.regsOk = true) : (State.putShp s d i x).regsOk = true := by
  simp only [State.putShp, State.regsOk_mk, State.regsOk_eta, apply_ite State.regsOk, ite_self, implies_true, eq_self, hok]

theorem State.charge_ok (s : State) (d i : Nat) (m : Msg) (hok : s.regsOk = true) : (State.charge s d i m).regsOk = true := by
  simp only [State.charge, State.putShp_ok, State.pm_ok, State.regsOk_mk, State.regsOk_eta, apply_ite State.regsOk, ite_self, implies_true, eq_self, hok]

theorem State.showShps_ok (s : State) (d : Nat) (hok : s.regsOk = true) : (State.showShps s d).regsOk = true := by
  simp only [State.showShps, State.wr_ok, State.regsOk_mk, State.regsOk_eta, apply_ite State.regsOk, ite_self, implies_true, eq_self, hok]

theorem State.shpWrite_ok (s : State) (d : Nat) (w : ShpWrite) (hok : s.regsOk = true) : (State.shpWrite s d w).regsOk = true := by
  unfold State.shpWrite
  repeat' (first | with_reducible assumption | with_reducible (apply State.wr_ok) | with_reducible (apply State.mend_ok) | with_reducible (apply State.putShp_ok) | with_reducible (apply State.showShps_ok) | with_reducible (apply State.ite_ok) | split | (intro _ _ hok) | (intro _ hok) | (intro _ _ _ hok) | simp only [State.regsOk_mk, State.regsOk_eta])

theorem State.serveShp_ok (s : State) (d i : Nat) (hok : s.regsOk = true) : (State.serveShp s d i).regsOk = true := by
  unfold State.serveShp
  repeat' (first | assumption | split | simp only [State.putShp_ok, State.regsOk_mk, State.regsOk_eta, apply_ite State.regsOk, ite_self, implies_true, eq_self, hok])

theorem State.wheelSlot_ok (s : State) (d : Nat) (hok : s.regsOk = true) : (State.wheelSlot s d).regsOk = true := by
  unfold State.wheelSlot
  extract_lets
  repeat' (first | with_reducible assumption | with_reducible (apply State.wr_ok) | with_reducible (apply State.forEach_ok) | with_reducible (apply State.serveShp_ok) | with_reducible (apply State.putShp_ok) | with_reducible (apply State.inc_ok) | with_reducible (apply State.ev_ok) | with_reducible (apply State.ite_ok) | split | (intro _ _ hok) | (intro _ hok) | (intro _ _ _ hok) | simp only [State.regsOk_mk, State.regsOk_eta])

theorem State.owe_ok (s : State) (p input : Nat) (m : Msg) (hok : s.regsOk = true) : (State.owe s p input m).regsOk = true := by
  simp only [State.owe, State.grantCredit_ok, State.regsOk_mk, State.regsOk_eta, apply_ite State.regsOk, ite_self, implies_true, eq_self, hok]

theorem State.dropOwed_ok (s : State) (p : Nat) (hok : s.regsOk = true) : (State.dropOwed s p).regsOk = true := by
  unfold State.dropOwed
  repeat' (first | with_reducible assumption | with_reducible (apply State.forEach_ok) | with_reducible (apply State.dropCredit_ok) | with_reducible (apply State.ite_ok) | split | (intro _ _ hok) | (intro _ hok) | (intro _ _ _ hok) | simp only [State.regsOk_mk, State.regsOk_eta])

theorem State.payCredit_ok (s : State) (p c : Nat) (hok : s.regsOk = true) : (s.payCredit p c).regsOk = true := by
  unfold State.payCredit
  dsimp only
  split
  · exact hok
  · split
    · exact hok
    · split
      · exact hok
      · rename_i h
        have ht := State.backCredit_ok s _ _ _ _ h hok
        exact ht
      · rename_i h
        have ht := State.backCredit_ok s _ _ _ _ h hok
        split
        · exact hok
        · split
          · exact State.charge_ok _ _ _ _ ht
          · exact State.inc_ok _ _ _ (State.charge_ok _ _ _ _ ht)

theorem State.chooseEntry_ok (s : State) (d o : Nat) (ready : Nat → Bool) (hok : s.regsOk = true) : (State.chooseEntry s d o ready).2.regsOk = true := by
  unfold State.chooseEntry
  repeat' split
  all_goals simp only [State.updXb_ok, State.regsOk_mk, State.regsOk_eta, apply_ite State.regsOk, ite_self, implies_true, eq_self, hok]

theorem State.chooseEntry_ok' {s : State} {d o : Nat} {ready : Nat → Bool} {xa xs}
    (hx : State.chooseEntry s d o ready = (xa, xs)) (hok : s.regsOk = true) : xs.regsOk = true := by
  have := State.chooseEntry_ok s d o ready hok
  rw [hx] at this
  exact this

theorem State.served_ok (s : State) (d o e n : Nat) (hok : s.regsOk = true) : (State.served s d o e n).regsOk = true := by
  simp only [State.served, State.updXb_ok, State.regsOk_mk, State.regsOk_eta, apply_ite State.regsOk, ite_self, implies_true, eq_self, hok]

theorem State.chargeOut_ok (s : State) (d o : Nat) (m : Msg) (hok : s.regsOk = true) : (State.chargeOut s d o m).regsOk = true := by
  unfold State.chargeOut
  repeat' split
  all_goals simp only [State.charge_ok, State.regsOk_mk, State.regsOk_eta, apply_ite State.regsOk, ite_self, implies_true, eq_self, hok]

end Sys2Proof.Machine
end

