-- ==== Sys2Proof/Laws/TrackOps.lean ====
section
/-! SUPPORT. What the operations of Machine/TrackOps.lean leave alone: the part, the waiting commands, the blown life-cycle fuses, and the
canonical form of the register file. -/

namespace Sys2Proof.Machine
set_option linter.unusedSimpArgs false
set_option linter.unusedVariables false
set_option linter.unreachableTactic false
set_option linter.unusedTactic false
set_option linter.style.nameCheck false

theorem State.reissue_core (s : State) (d t : Nat) : (State.reissue s d t).core = s.core := by
  unfold State.reissue
  repeat' split
  all_goals simp only [↓State.putTrk_core, ↓State.push_core, ↓State.completeOther_core, State.core_mk, State.core_eta, ↓apply_ite State.core, ite_self, implies_true, eq_self]

theorem State.copyResolved_core (s : State) (d t c : Nat) (ndr : Bool) (by_ : Carry) : (State.copyResolved s d t c ndr by_).core = s.core := by
  unfold State.copyResolved
  repeat' split
  all_goals simp only [↓State.dropCarry_core, ↓State.noLate_core, ↓State.complete_core, ↓State.completeOther_core, ↓State.push_core, ↓State.putTrk_core, ↓State.lostWriteAt_core, State.core_mk, State.core_eta, ↓apply_ite State.core, ite_self, implies_true, eq_self]

theorem State.giveUpCopy_core (s : State) (d t c : Nat) : (State.giveUpCopy s d t c).core = s.core := by
  unfold State.giveUpCopy
  repeat' split
  all_goals simp only [↓State.copyResolved_core, ↓State.updXb_core, State.core_mk, State.core_eta, ↓apply_ite State.core, ite_self, implies_true, eq_self]

theorem State.poisonedRead_core (s : State) (d t : Nat) (data : List Nat) (by_ : Carry) : (State.poisonedRead s d t data by_).core = s.core := by
  unfold State.poisonedRead
  repeat' split
  all_goals simp only [↓State.dropCarry_core, ↓State.inc_core, ↓State.evC_core, ↓State.complete_core, ↓State.countPoison_core, ↓State.putTrk_core, ↓State.push_core, ↓State.reissue_core, State.core_mk, State.core_eta, ↓apply_ite State.core, ite_self, implies_true, eq_self]

theorem State.mirroredData_core (s : State) (d t : Nat) (data : List Nat) (by_ : Carry) : (State.mirroredData s d t data by_).core = s.core := by
  unfold State.mirroredData
  repeat' split
  all_goals simp only [↓State.dropCarry_core, ↓State.complete_core, ↓State.inc_core, ↓State.pm_core, ↓State.evC_core, ↓State.queueRepair_core, State.core_mk, State.core_eta, ↓apply_ite State.core, ite_self, implies_true, eq_self]

theorem State.trkResponse_core (s : State) (d : Nat) (m : Msg) (by_ : Carry) : (State.trkResponse s d m by_).core = s.core := by
  unfold State.trkResponse
  repeat' split
  all_goals simp only [↓State.dropCarry_core, ↓State.noLate_core, ↓State.copyResolved_core, ↓State.complete_core, ↓State.poisonedRead_core, ↓State.mirroredData_core, ↓State.route_core, State.core_mk, State.core_eta, ↓apply_ite State.core, ite_self, implies_true, eq_self]

theorem State.response_core (s : State) (d input : Nat) (mid : Option Nat) (m : Msg) : (State.response s d input mid m).core = s.core := by
  simp only [State.response, ↓State.freeCopy_core, ↓State.dualEnd_core, ↓State.trkResponse_core, ↓State.route_core, State.core_mk, State.core_eta, ↓apply_ite State.core, ite_self, implies_true, eq_self]

theorem State.flushCount_core (s : State) (flush : Bool) (p : Nat) (f : Fld) : (State.flushCount s flush p f).core = s.core := by
  simp only [State.flushCount, ↓State.inc_core, State.core_mk, State.core_eta, ↓apply_ite State.core, ite_self, implies_true, eq_self]

theorem State.dropRecord_core (s : State) (p tc : Nat) : (State.dropRecord s p tc).core = s.core := by
  simp only [State.dropRecord, ↓State.log_core, State.core_mk, State.core_eta, ↓apply_ite State.core, ite_self, implies_true, eq_self]

theorem State.noteLoss_core (s : State) (at_ : Nat) (p : Nat) (x : Option Trk) : (State.noteLoss s at_ p x).core = s.core := by
  simp only [State.noteLoss, ↓State.log_core, State.core_mk, State.core_eta, ↓apply_ite State.core, ite_self, implies_true, eq_self]

theorem State.dispose_core (s : State) (at_ p : Nat) (e : QEnt) (flush : Bool) : (State.dispose s at_ p e flush).core = s.core := by
  unfold State.dispose
  repeat' (first | with_reducible rfl | split | simp only [↓State.freeCopy_core, ↓State.flushCount_core, ↓State.push_core, ↓State.reissue_core, ↓State.noteLoss_core, ↓State.completeOther_core, ↓State.dropRecord_core, ↓State.dualEnd_core, ↓State.noLate_core, ↓State.copyResolved_core, State.core_mk, State.core_eta, ↓apply_ite State.core, ite_self, implies_true, eq_self])

theorem State.sendBack_core (s : State) (at_ : Nat) (e : QEnt) : (State.sendBack s at_ e).core = s.core := by
  simp only [State.sendBack, ↓State.freeCopy_core, ↓State.push_core, ↓State.reissue_core, ↓State.emit_core, State.core_mk, State.core_eta, ↓apply_ite State.core, ite_self, implies_true, eq_self]

theorem State.hold_core (s : State) (p : Nat) (e : QEnt) : (State.hold s p e).core = s.core := by
  simp only [State.hold, ↓State.updTrk_core, ↓State.cellarArrive_core, State.core_mk, State.core_eta, ↓apply_ite State.core, ite_self, implies_true, eq_self]

theorem State.notUp_core (s : State) (p : Nat) (e : QEnt) : (State.notUp s p e).core = s.core := by
  simp only [State.notUp, ↓State.sendBack_core, ↓State.updXb_core, ↓State.inc_core, ↓State.dispose_core, State.core_mk, State.core_eta, ↓apply_ite State.core, ite_self, implies_true, eq_self]

theorem State.lostPath_core (s : State) (d : Nat) (e : QEnt) : (State.lostPath s d e).core = s.core := by
  unfold State.lostPath
  repeat' (first | with_reducible rfl | simp only [↓State.freeCopy_core, ↓State.dispose_core, ↓State.noLate_core, ↓State.dropRecord_core, ↓State.push_core, ↓State.copyResolved_core, ↓State.reissue_core, ↓State.poisonOut_core, State.core_mk, State.core_eta, ↓apply_ite State.core, ite_self, implies_true, eq_self] | split)

theorem State.grpMiss_core (s : State) (d input : Nat) : (State.grpMiss s d input).core = s.core := by
  simp only [State.grpMiss, ↓State.inc_core, ↓State.ev_core, State.core_mk, State.core_eta, ↓apply_ite State.core, ite_self, implies_true, eq_self]

theorem State.replicate_core (s : State) (d input : Nat) (mid : Option Nat) (m : Msg) (gi : Nat) : (State.replicate s d input mid m gi).core = s.core := by
  simp only [State.replicate, ↓State.freeCopy_core, ↓State.grpMiss_core, ↓State.completeOther_core, ↓State.dropRecord_core, ↓State.setCopies_core, ↓State.forEach_core, ↓State.route_core, State.core_mk, State.core_eta, ↓apply_ite State.core, ite_self, implies_true, eq_self]

theorem State.reissue_ok (s : State) (d t : Nat) (hok : s.regsOk = true) : (State.reissue s d t).regsOk = true := by
  unfold State.reissue
  repeat' split
  all_goals simp only [State.putTrk_ok, State.push_ok, State.completeOther_ok, State.regsOk_mk, State.regsOk_eta, apply_ite State.regsOk, ite_self, implies_true, eq_self, hok]

theorem State.copyResolved_ok (s : State) (d t c : Nat) (ndr : Bool) (by_ : Carry) (hok : s.regsOk = true) : (State.copyResolved s d t c ndr by_).regsOk = true := by
  unfold State.copyResolved
  extract_lets
  repeat' (first | with_reducible assumption | with_reducible (apply State.dropCarry_ok) | with_reducible (apply State.noLate_ok) | with_reducible (apply State.complete_ok) | with_reducible (apply State.completeOther_ok) | with_reducible (apply State.push_ok) | with_reducible (apply State.putTrk_ok) | with_reducible (apply State.lostWriteAt_ok) | with_reducible (apply State.ite_ok) | split | (intro _ _ hok) | (intro _ hok) | (intro _ _ _ hok) | simp only [State.regsOk_mk, State.regsOk_eta])

theorem State.giveUpCopy_ok (s : State) (d t c : Nat) (hok : s.regsOk = true) : (State.giveUpCopy s d t c).regsOk = true := by
  unfold State.giveUpCopy
  repeat' split
  all_goals simp only [State.copyResolved_ok, State.updXb_ok, State.regsOk_mk, State.regsOk_eta, apply_ite State.regsOk, ite_self, implies_true, eq_self, hok]

theorem State.poisonedRead_ok (s : State) (d t : Nat) (data : List Nat) (by_ : Carry) (hok : s.regsOk = true) : (State.poisonedRead s d t data by_).regsOk = true := by
  unfold State.poisonedRead
  repeat' (first | with_reducible assumption | with_reducible (apply State.dropCarry_ok) | with_reducible (apply State.inc_ok) | with_reducible (apply State.evC_ok) | with_reducible (apply State.complete_ok) | with_reducible (apply State.countPoison_ok) | with_reducible (apply State.putTrk_ok) | with_reducible (apply State.push_ok) | with_reducible (apply State.reissue_ok) | with_reducible (apply State.ite_ok) | split | (intro _ _ hok) | (intro _ hok) | (intro _ _ _ hok) | simp only [State.regsOk_mk, State.regsOk_eta])

theorem State.mirroredData_ok (s : State) (d t : Nat) (data : List Nat) (by_ : Carry) (hok : s.regsOk = true) : (State.mirroredData s d t data by_).regsOk = true := by
  unfold State.mirroredData
  repeat' (first | with_reducible assumption | with_reducible (apply State.dropCarry_ok) | with_reducible (apply State.complete_ok) | with_reducible (apply State.inc_ok) | with_reducible (apply State.pm_ok) | with_reducible (apply State.evC_ok) | with_reducible (apply State.queueRepair_ok) | with_reducible (apply State.ite_ok) | split | (intro _ _ hok) | (intro _ hok) | (intro _ _ _ hok) | simp only [State.regsOk_mk, State.regsOk_eta])

theorem State.trkResponse_ok (s : State) (d : Nat) (m : Msg) (by_ : Carry) (hok : s.regsOk = true) : (State.trkResponse s d m by_).regsOk = true := by
  unfold State.trkResponse
  repeat' split
  all_goals simp only [State.dropCarry_ok, State.noLate_ok, State.copyResolved_ok, State.complete_ok, State.poisonedRead_ok, State.mirroredData_ok, State.route_ok, State.regsOk_mk, State.regsOk_eta, apply_ite State.regsOk, ite_self, implies_true, eq_self, hok]

theorem State.response_ok (s : State) (d input : Nat) (mid : Option Nat) (m : Msg) (hok : s.regsOk = true) : (State.response s d input mid m).regsOk = true := by
  simp only [State.response, State.freeCopy_ok, State.dualEnd_ok, State.trkResponse_ok, State.route_ok, State.regsOk_mk, State.regsOk_eta, apply_ite State.regsOk, ite_self, implies_true, eq_self, hok]

theorem State.flushCount_ok (s : State) (flush : Bool) (p : Nat) (f : Fld) (hok : s.regsOk = true) : (State.flushCount s flush p f).regsOk = true := by
  simp only [State.flushCount, State.inc_ok, State.regsOk_mk, State.regsOk_eta, apply_ite State.regsOk, ite_self, implies_true, eq_self, hok]

theorem State.dropRecord_ok (s : State) (p tc : Nat) (hok : s.regsOk = true) : (State.dropRecord s p tc).regsOk = true := by
  simp only [State.dropRecord, State.log_ok, State.regsOk_mk, State.regsOk_eta, apply_ite State.regsOk, ite_self, implies_true, eq_self, hok]

theorem State.noteLoss_ok (s : State) (at_ : Nat) (p : Nat) (x : Option Trk) (hok : s.regsOk = true) : (State.noteLoss s at_ p x).regsOk = true := by
  simp only [State.noteLoss, State.log_ok, State.regsOk_mk, State.regsOk_eta, apply_ite State.regsOk, ite_self, implies_true, eq_self, hok]

theorem State.dispose_ok (s : State) (at_ p : Nat) (e : QEnt) (flush : Bool) (hok : s.regsOk = true) : (State.dispose s at_ p e flush).regsOk = true := by
  unfold State.dispose
  extract_lets
  repeat' (first | with_reducible assumption | with_reducible (apply State.freeCopy_ok) | with_reducible (apply State.flushCount_ok) | with_reducible (apply State.push_ok) | with_reducible (apply State.reissue_ok) | with_reducible (apply State.noteLoss_ok) | with_reducible (apply State.completeOther_ok) | with_reducible (apply State.dropRecord_ok) | with_reducible (apply State.dualEnd_ok) | with_reducible (apply State.noLate_ok) | with_reducible (apply State.copyResolved_ok) | with_reducible (apply State.ite_ok) | split | (intro _ _ hok) | (intro _ hok) | (intro _ _ _ hok) | simp only [State.regsOk_mk, State.regsOk_eta])

theorem State.sendBack_ok (s : State) (at_ : Nat) (e : QEnt) (hok : s.regsOk = true) : (State.sendBack s at_ e).regsOk = true := by
  simp only [State.sendBack, State.freeCopy_ok, State.push_ok, State.reissue_ok, State.emit_ok, State.regsOk_mk, State.regsOk_eta, apply_ite State.regsOk, ite_self, implies_true, eq_self, hok]

theorem State.hold_ok (s : State) (p : Nat) (e : QEnt) (hok : s.regsOk = true) : (State.hold s p e).regsOk = true := by
  simp only [State.hold, State.updTrk_ok, State.cellarArrive_ok, State.regsOk_mk, State.regsOk_eta, apply_ite State.regsOk, ite_self, implies_true, eq_self, hok]

theorem State.notUp_ok (s : State) (p : Nat) (e : QEnt) (hok : s.regsOk = true) : (State.notUp s p e).regsOk = true := by
  simp only [State.notUp, State.sendBack_ok, State.updXb_ok, State.inc_ok, State.dispose_ok, State.regsOk_mk, State.regsOk_eta, apply_ite State.regsOk, ite_self, implies_true, eq_self, hok]

theorem State.lostPath_ok (s : State) (d : Nat) (e : QEnt) (hok : s.regsOk = true) : (State.lostPath s d e).regsOk = true := by
  unfold State.lostPath
  repeat' (first | with_reducible assumption | with_reducible (apply State.freeCopy_ok) | with_reducible (apply State.dispose_ok) | with_reducible (apply State.noLate_ok) | with_reducible (apply State.dropRecord_ok) | with_reducible (apply State.push_ok) | with_reducible (apply State.copyResolved_ok) | with_reducible (apply State.reissue_ok) | with_reducible (apply State.poisonOut_ok) | with_reducible (apply State.ite_ok) | split | (intro _ _ hok) | (intro _ hok) | (intro _ _ _ hok) | simp only [State.regsOk_mk, State.regsOk_eta])

theorem State.grpMiss_ok (s : State) (d input : Nat) (hok : s.regsOk = true) : (State.grpMiss s d input).regsOk = true := by
  simp only [State.grpMiss, State.inc_ok, State.ev_ok, State.regsOk_mk, State.regsOk_eta, apply_ite State.regsOk, ite_self, implies_true, eq_self, hok]

theorem State.replicate_ok (s : State) (d input : Nat) (mid : Option Nat) (m : Msg) (gi : Nat) (hok : s.regsOk = true) : (State.replicate s d input mid m gi).regsOk = true := by
  unfold State.replicate
  extract_lets
  repeat' (first | with_reducible assumption | with_reducible (apply State.freeCopy_ok) | with_reducible (apply State.grpMiss_ok) | with_reducible (apply State.completeOther_ok) | with_reducible (apply State.dropRecord_ok) | with_reducible (apply State.setCopies_ok) | with_reducible (apply State.forEach_ok) | with_reducible (apply State.route_ok) | with_reducible (apply State.ite_ok) | split | (intro _ _ hok) | (intro _ hok) | (intro _ _ _ hok) | simp only [State.regsOk_mk, State.regsOk_eta])

end Sys2Proof.Machine
end

