-- ==== Sys2Proof/Laws/AgentOps.lean ====
section
/-! SUPPORT. What the operations of Machine/AgentOps.lean leave alone: the part, the waiting commands, the blown life-cycle fuses, and the
canonical form of the register file. -/

namespace Sys2Proof.Machine
set_option linter.unusedSimpArgs false
set_option linter.unusedVariables false
set_option linter.unreachableTactic false
set_option linter.unusedTactic false
set_option linter.style.nameCheck false

theorem State.updCa_core (s : State) (d : Nat) (f : CaDie → CaDie) : (State.updCa s d f).core = s.core := by
  simp only [State.updCa, State.core_mk, State.core_eta, ↓apply_ite State.core, ite_self, implies_true, eq_self]

theorem State.showCa_core (s : State) (d : Nat) : (State.showCa s d).core = s.core := by
  simp only [State.showCa, ↓State.wr_core, State.core_mk, State.core_eta, ↓apply_ite State.core, ite_self, implies_true, eq_self]

theorem State.putLoft_core (s : State) (d i : Nat) (e : LoftE) : (State.putLoft s d i e).core = s.core := by
  simp only [State.putLoft, ↓State.updCa_core, ↓State.showCa_core, State.core_mk, State.core_eta, ↓apply_ite State.core, ite_self, implies_true, eq_self]

theorem State.delLoft_core (s : State) (d i : Nat) : (State.delLoft s d i).core = s.core := by
  simp only [State.delLoft, ↓State.updCa_core, ↓State.showCa_core, State.core_mk, State.core_eta, ↓apply_ite State.core, ite_self, implies_true, eq_self]

theorem State.askSnoop_core (s : State) (d i : Nat) (kind : MKind) (v : Nat) : (State.askSnoop s d i kind v).core = s.core := by
  unfold State.askSnoop
  repeat' split
  all_goals simp only [↓State.putLoft_core, ↓State.updCa_core, State.core_mk, State.core_eta, ↓apply_ite State.core, ite_self, implies_true, eq_self]

theorem State.sendSnoop_core (s : State) (d slot : Nat) (w : Snoop) : (State.sendSnoop s d slot w).core = s.core := by
  simp only [State.sendSnoop, ↓State.inc_core, ↓State.pm_core, ↓State.push_core, State.core_mk, State.core_eta, ↓apply_ite State.core, ite_self, implies_true, eq_self]

theorem State.updLine_core (s : State) (d : Nat) (w : Snoop) (f : LoftE → LoftE) : (State.updLine s d w f).core = s.core := by
  unfold State.updLine
  repeat' split
  all_goals simp only [↓State.putLoft_core, State.core_mk, State.core_eta, ↓apply_ite State.core, ite_self, implies_true, eq_self]

theorem State.issueSnoop_core (s : State) (d : Nat) : (State.issueSnoop s d).core = s.core := by
  unfold State.issueSnoop
  repeat' split
  all_goals simp only [↓State.updCa_core, ↓State.showCa_core, ↓State.updLine_core, ↓State.sendSnoop_core, State.core_mk, State.core_eta, ↓apply_ite State.core, ite_self, implies_true, eq_self]

theorem State.postedSend_core (s : State) (d g : Nat) (a : AgMsg) (onward : State → QEnt → State) (hf : ∀ s e, (onward s e).core = s.core) :
    (State.postedSend s d g a onward).core = s.core := by
  unfold State.postedSend
  repeat' split
  all_goals simp only [↓State.ovSend_core, ↓State.freeCopy_core, ↓State.lostWriteAt_core, hf, State.core_mk, State.core_eta, ↓apply_ite State.core, ite_self, implies_true, eq_self]

theorem State.agentSend_core (s : State) (d : Nat) (a : AgMsg) : (State.agentSend s d a).core = s.core := by
  unfold State.agentSend
  repeat' (first | with_reducible rfl | split | simp only [↓State.push_core, ↓State.route_core, ↓State.ovSend_core, ↓State.postedSend_core, ↓State.freeCopy_core, ↓State.poisonOut_core, ↓State.pm_core, ↓State.putTrk_core, State.core_mk, State.core_eta, ↓apply_ite State.core, ite_self, implies_true, eq_self])

theorem State.agentNdr_core (s : State) (d : Nat) (a : AgMsg) : (State.agentNdr s d a).core = s.core := by
  simp only [State.agentNdr, ↓State.freeCopy_core, ↓State.push_core, State.core_mk, State.core_eta, ↓apply_ite State.core, ite_self, implies_true, eq_self]

theorem State.setGrant_core (s : State) (a : AgMsg) (snooped : Bool) : (State.setGrant s a snooped).core = s.core := by
  simp only [State.setGrant, ↓State.updTrkOf_core, State.core_mk, State.core_eta, ↓apply_ite State.core, ite_self, implies_true, eq_self]

theorem State.poisonWrite_core (s : State) (d t : Nat) (a : AgMsg) : (State.poisonWrite s d t a).core = s.core := by
  simp only [State.poisonWrite, ↓State.inc_core, ↓State.putTrk_core, ↓State.forEach_core, ↓State.push_core, State.core_mk, State.core_eta, ↓apply_ite State.core, ite_self, implies_true, eq_self]

theorem State.serveHead_core (s : State) (d i : Nat) : (State.serveHead s d i).1.core = s.core := by
  simp only [State.serveHead, ↓State.delLoft_core, ↓State.putLoft_core, ↓State.poisonWrite_core, ↓State.forEach_core, ↓State.askSnoop_core, ↓State.inc_core, ↓State.setGrant_core, ↓State.agentNdr_core, ↓State.agentSend_core, State.core_mk, State.core_eta, ↓apply_ite State.core, ite_self, implies_true, eq_self]
  repeat' split
  all_goals (try simp only [↓State.delLoft_core, ↓State.putLoft_core, ↓State.poisonWrite_core, ↓State.forEach_core, ↓State.askSnoop_core, ↓State.inc_core, ↓State.setGrant_core, ↓State.agentNdr_core, ↓State.agentSend_core, State.core_mk, State.core_eta, ↓apply_ite State.core, ite_self, implies_true, eq_self])

theorem State.serveHead_core' {s : State} {d i : Nat} {xs xa}
    (hx : (State.serveHead s d i) = (xs, xa)) : xs.core = s.core := by
  have := State.serveHead_core s d i
  rw [hx] at this
  exact this

theorem State.joinLine_core (s : State) (d i : Nat) (a : AgMsg) : (State.joinLine s d i a).core = s.core := by
  unfold State.joinLine
  repeat' split
  all_goals simp only [↓State.updCa_core, ↓State.putLoft_core, ↓State.push_core, State.core_mk, State.core_eta, ↓apply_ite State.core, ite_self, implies_true, eq_self]

theorem State.serveEvict_core (s : State) (d i : Nat) : (State.serveEvict s d i).core = s.core := by
  unfold State.serveEvict
  repeat' split
  all_goals simp only [↓State.inc_core, ↓State.pm_core, ↓State.delLoft_core, ↓State.putLoft_core, ↓State.joinLine_core, ↓State.forEach_core, ↓State.push_core, ↓State.askSnoop_core, State.core_mk, State.core_eta, ↓apply_ite State.core, ite_self, implies_true, eq_self]

theorem State.serveLine_core (s : State) (d i : Nat) : (State.serveLine s d i).core = s.core := by
  unfold State.serveLine
  repeat' (first | with_reducible rfl | split | simp only [↓State.serveHead_core, ↓State.push_core, ↓State.serveEvict_core, State.core_mk, State.core_eta, ↓apply_ite State.core, ite_self, implies_true, eq_self] | (refine (State.serveHead_core' (by assumption)).trans ?_))

theorem State.agentLook_core (s : State) (d : Nat) (a : AgMsg) : (State.agentLook s d a).core = s.core := by
  unfold State.agentLook
  repeat' (first | with_reducible rfl | split | simp only [↓State.joinLine_core, ↓State.putLoft_core, State.core_mk, State.core_eta, ↓apply_ite State.core, ite_self, implies_true, eq_self])

theorem State.countLook_core (s : State) (d : Nat) : (State.countLook s d).core = s.core := by
  simp only [State.countLook, ↓State.inc_core, ↓State.pm_core, State.core_mk, State.core_eta, ↓apply_ite State.core, ite_self, implies_true, eq_self]

theorem State.agentInput_core (s : State) (d : Nat) (a : AgMsg) : (State.agentInput s d a).core = s.core := by
  unfold State.agentInput
  repeat' (first | with_reducible rfl | split | simp only [↓State.updCa_core, ↓State.inc_core, ↓State.ev_core, ↓State.freeCopy_core, ↓State.completeOther_core, State.core_mk, State.core_eta, ↓apply_ite State.core, ite_self, implies_true, eq_self])

theorem State.homeServe_core (s : State) (d : Nat) (a : AgMsg) : (State.homeServe s d a).core = s.core := by
  simp only [State.homeServe, ↓State.agentInput_core, ↓State.agentSend_core, State.core_mk, State.core_eta, ↓apply_ite State.core, ite_self, implies_true, eq_self]

theorem State.home_core (s : State) (d input : Nat) (mid : Option Nat) (m : Msg) : (State.home s d input mid m).core = s.core := by
  unfold State.home
  repeat' (first | with_reducible rfl | split | simp only [↓State.route_core, ↓State.updCa_core, ↓State.freeCopy_core, ↓State.forEach_core, ↓State.push_core, ↓State.dropRecord_core, ↓State.homeServe_core, ↓State.ovLookup_core, State.core_mk, State.core_eta, ↓apply_ite State.core, ite_self, implies_true, eq_self] | (refine (State.forEach_core _ _ _ (fun s a => ?_)).trans ?_) | (refine (State.ovLookup_core' (by assumption)).trans ?_))

theorem State.pairServe_core (s : State) (d : Nat) : (State.pairServe s d).core = s.core := by
  simp only [State.pairServe, ↓State.updCa_core, ↓State.forEach_core, ↓State.push_core, ↓State.home_core, State.core_mk, State.core_eta, ↓apply_ite State.core, ite_self, implies_true, eq_self]

theorem State.serveOf_core (s : State) (d : Nat) (w : Snoop) : (State.serveOf s d w).core = s.core := by
  unfold State.serveOf
  repeat' split
  all_goals simp only [↓State.push_core, State.core_mk, State.core_eta, ↓apply_ite State.core, ite_self, implies_true, eq_self]

theorem State.closeSnoop_core (s : State) (d slot : Nat) (w : Snoop) (f : LoftE → LoftE) : (State.closeSnoop s d slot w f).core = s.core := by
  unfold State.closeSnoop
  repeat' (first | with_reducible rfl | split | simp only [↓State.updCa_core, ↓State.showCa_core, ↓State.updLine_core, ↓State.serveOf_core, State.core_mk, State.core_eta, ↓apply_ite State.core, ite_self, implies_true, eq_self])

theorem State.loseSnoop_core (s : State) (d : Nat) (w : Snoop) (sent : Bool) : (State.loseSnoop s d w sent).core = s.core := by
  simp only [State.loseSnoop, ↓State.updLine_core, ↓State.serveOf_core, ↓State.inc_core, ↓State.wr_core, ↓State.on_core, ↓State.wrB_core, ↓State.evC_core, ↓State.push_core, State.core_mk, State.core_eta, ↓apply_ite State.core, ite_self, implies_true, eq_self]

theorem State.snoopLost_core (s : State) (d slot : Nat) : (State.snoopLost s d slot).core = s.core := by
  unfold State.snoopLost
  repeat' split
  all_goals simp only [↓State.updCa_core, ↓State.showCa_core, ↓State.loseSnoop_core, State.core_mk, State.core_eta, ↓apply_ite State.core, ite_self, implies_true, eq_self]

theorem State.poisonAgain_core (s : State) (d : Nat) : (State.poisonAgain s d).core = s.core := by
  simp only [State.poisonAgain, ↓State.forEach_core, ↓State.push_core, State.core_mk, State.core_eta, ↓apply_ite State.core, ite_self, implies_true, eq_self]

theorem State.birsp_core (s : State) (d tag v : Nat) (k : MKind) : (State.birsp s d tag v k).core = s.core := by
  unfold State.birsp
  repeat' split
  all_goals simp only [↓State.inc_core, ↓State.ev_core, ↓State.snoopLost_core, ↓State.log_core, ↓State.closeSnoop_core, State.core_mk, State.core_eta, ↓apply_ite State.core, ite_self, implies_true, eq_self]

theorem State.snoopTimeout_core (s : State) (d slot : Nat) : (State.snoopTimeout s d slot).core = s.core := by
  unfold State.snoopTimeout
  repeat' split
  all_goals simp only [↓State.updCa_core, ↓State.inc_core, ↓State.ev_core, ↓State.sendSnoop_core, ↓State.snoopLost_core, State.core_mk, State.core_eta, ↓apply_ite State.core, ite_self, implies_true, eq_self]

theorem State.snoopFlushed_core (s : State) (m : Msg) : (State.snoopFlushed s m).core = s.core := by
  unfold State.snoopFlushed
  repeat' (first | with_reducible rfl | split | simp only [↓State.push_core, ↓State.snoopLost_core, State.core_mk, State.core_eta, ↓apply_ite State.core, ite_self, implies_true, eq_self])

theorem State.loseSnoopsTo_core (s : State) (v : Nat) : (State.loseSnoopsTo s v).core = s.core := by
  unfold State.loseSnoopsTo
  repeat' (first | with_reducible rfl | split | simp only [↓State.forEach_core, ↓State.updCa_core, ↓State.loseSnoop_core, ↓State.push_core, ↓State.snoopLost_core, State.core_mk, State.core_eta, ↓apply_ite State.core, ite_self, implies_true, eq_self] | (refine (State.forEach_core _ _ _ (fun s a => ?_)).trans ?_))

theorem State.askWalk_core (s : State) (d : Nat) (regions : List Region) (unbind : List (Nat × Nat × Nat)) (reset : List Nat) : (State.askWalk s d regions unbind reset).core = s.core := by
  simp only [State.askWalk, ↓State.updCa_core, ↓State.on_core, State.core_mk, State.core_eta, ↓apply_ite State.core, ite_self, implies_true, eq_self]

theorem State.walkStart_core (s : State) (d : Nat) : (State.walkStart s d).core = s.core := by
  unfold State.walkStart
  repeat' (first | with_reducible rfl | split | simp only [↓State.updCa_core, ↓State.on_core, ↓State.off_core, ↓State.wrB_core, ↓State.wr_core, State.core_mk, State.core_eta, ↓apply_ite State.core, ite_self, implies_true, eq_self])

theorem State.walkEntry_core (s : State) (d i : Nat) : (State.walkEntry s d i).core = s.core := by
  unfold State.walkEntry
  repeat' split
  all_goals simp only [↓State.delLoft_core, ↓State.forEach_core, ↓State.push_core, ↓State.putLoft_core, ↓State.askSnoop_core, State.core_mk, State.core_eta, ↓apply_ite State.core, ite_self, implies_true, eq_self]

theorem State.walkEnd_core (s : State) (d : Nat) : (State.walkEnd s d).core = s.core := by
  simp only [State.walkEnd, ↓State.forEach_core, ↓State.walkEntry_core, ↓State.updCa_core, ↓State.off_core, ↓State.countLook_core, ↓State.push_core, State.core_mk, State.core_eta, ↓apply_ite State.core, ite_self, implies_true, eq_self]

theorem State.updCa_ok (s : State) (d : Nat) (f : CaDie → CaDie) (hok : s.regsOk = true) : (State.updCa s d f).regsOk = true := by
  simp only [State.updCa, State.regsOk_mk, State.regsOk_eta, apply_ite State.regsOk, ite_self, implies_true, eq_self, hok]

theorem State.showCa_ok (s : State) (d : Nat) (hok : s.regsOk = true) : (State.showCa s d).regsOk = true := by
  simp only [State.showCa, State.wr_ok, State.regsOk_mk, State.regsOk_eta, apply_ite State.regsOk, ite_self, implies_true, eq_self, hok]

theorem State.putLoft_ok (s : State) (d i : Nat) (e : LoftE) (hok : s.regsOk = true) : (State.putLoft s d i e).regsOk = true := by
  simp only [State.putLoft, State.updCa_ok, State.showCa_ok, State.regsOk_mk, State.regsOk_eta, apply_ite State.regsOk, ite_self, implies_true, eq_self, hok]

theorem State.delLoft_ok (s : State) (d i : Nat) (hok : s.regsOk = true) : (State.delLoft s d i).regsOk = true := by
  simp only [State.delLoft, State.updCa_ok, State.showCa_ok, State.regsOk_mk, State.regsOk_eta, apply_ite State.regsOk, ite_self, implies_true, eq_self, hok]

theorem State.askSnoop_ok (s : State) (d i : Nat) (kind : MKind) (v : Nat) (hok : s.regsOk = true) : (State.askSnoop s d i kind v).regsOk = true := by
  unfold State.askSnoop
  repeat' split
  all_goals simp only [State.putLoft_ok, State.updCa_ok, State.regsOk_mk, State.regsOk_eta, apply_ite State.regsOk, ite_self, implies_true, eq_self, hok]

theorem State.sendSnoop_ok (s : State) (d slot : Nat) (w : Snoop) (hok : s.regsOk = true) : (State.sendSnoop s d slot w).regsOk = true := by
  unfold State.sendSnoop
  extract_lets
  repeat' (first | with_reducible assumption | with_reducible (apply State.inc_ok) | with_reducible (apply State.pm_ok) | with_reducible (apply State.push_ok) | with_reducible (apply State.ite_ok) | split | (intro _ _ hok) | (intro _ hok) | (intro _ _ _ hok) | simp only [State.regsOk_mk, State.regsOk_eta])

theorem State.updLine_ok (s : State) (d : Nat) (w : Snoop) (f : LoftE → LoftE) (hok : s.regsOk = true) : (State.updLine s d w f).regsOk = true := by
  unfold State.updLine
  repeat' split
  all_goals simp only [State.putLoft_ok, State.regsOk_mk, State.regsOk_eta, apply_ite State.regsOk, ite_self, implies_true, eq_self, hok]

theorem State.issueSnoop_ok (s : State) (d : Nat) (hok : s.regsOk = true) : (State.issueSnoop s d).regsOk = true := by
  unfold State.issueSnoop
  repeat' (first | with_reducible assumption | with_reducible (apply State.updCa_ok) | with_reducible (apply State.showCa_ok) | with_reducible (apply State.updLine_ok) | with_reducible (apply State.sendSnoop_ok) | with_reducible (apply State.ite_ok) | split | (intro _ _ hok) | (intro _ hok) | (intro _ _ _ hok) | simp only [State.regsOk_mk, State.regsOk_eta])

theorem State.postedSend_ok (s : State) (d g : Nat) (a : AgMsg) (onward : State → QEnt → State)
    (hf : ∀ s e, State.regsOk s = true → (onward s e).regsOk = true) (hok : s.regsOk = true) : (State.postedSend s d g a onward).regsOk = true := by
  unfold State.postedSend
  repeat' split
  all_goals simp only [State.ovSend_ok, State.freeCopy_ok, State.lostWriteAt_ok, hf, hf, State.regsOk_mk, State.regsOk_eta, apply_ite State.regsOk, ite_self, implies_true, eq_self, hok]

theorem State.agentSend_ok (s : State) (d : Nat) (a : AgMsg) (hok : s.regsOk = true) : (State.agentSend s d a).regsOk = true := by
  unfold State.agentSend
  repeat' (first | with_reducible assumption | with_reducible (apply State.push_ok) | with_reducible (apply State.route_ok) | with_reducible (apply State.ovSend_ok) | with_reducible (apply State.postedSend_ok) | with_reducible (apply State.freeCopy_ok) | with_reducible (apply State.poisonOut_ok) | with_reducible (apply State.pm_ok) | with_reducible (apply State.putTrk_ok) | with_reducible (apply State.ite_ok) | split | (intro _ _ hok) | (intro _ hok) | (intro _ _ _ hok) | simp only [State.regsOk_mk, State.regsOk_eta])

theorem State.agentNdr_ok (s : State) (d : Nat) (a : AgMsg) (hok : s.regsOk = true) : (State.agentNdr s d a).regsOk = true := by
  simp only [State.agentNdr, State.freeCopy_ok, State.push_ok, State.regsOk_mk, State.regsOk_eta, apply_ite State.regsOk, ite_self, implies_true, eq_self, hok]

theorem State.setGrant_ok (s : State) (a : AgMsg) (snooped : Bool) (hok : s.regsOk = true) : (State.setGrant s a snooped).regsOk = true := by
  simp only [State.setGrant, State.updTrkOf_ok, State.regsOk_mk, State.regsOk_eta, apply_ite State.regsOk, ite_self, implies_true, eq_self, hok]

theorem State.poisonWrite_ok (s : State) (d t : Nat) (a : AgMsg) (hok : s.regsOk = true) : (State.poisonWrite s d t a).regsOk = true := by
  unfold State.poisonWrite
  extract_lets
  repeat' (first | with_reducible assumption | with_reducible (apply State.inc_ok) | with_reducible (apply State.putTrk_ok) | with_reducible (apply State.forEach_ok) | with_reducible (apply State.push_ok) | with_reducible (apply State.ite_ok) | split | (intro _ _ hok) | (intro _ hok) | (intro _ _ _ hok) | simp only [State.regsOk_mk, State.regsOk_eta])

theorem State.serveHead_ok (s : State) (d i : Nat) (hok : s.regsOk = true) : (State.serveHead s d i).1.regsOk = true := by
  unfold State.serveHead
  dsimp only
  repeat' (first | with_reducible assumption | with_reducible (apply State.delLoft_ok) | with_reducible (apply State.putLoft_ok) | with_reducible (apply State.poisonWrite_ok) | with_reducible (apply State.forEach_ok) | with_reducible (apply State.askSnoop_ok) | with_reducible (apply State.inc_ok) | with_reducible (apply State.setGrant_ok) | with_reducible (apply State.agentNdr_ok) | with_reducible (apply State.agentSend_ok) | with_reducible (apply State.ite_ok) | split | (intro _ _ hok) | (intro _ hok) | (intro _ _ _ hok) | simp only [State.regsOk_mk, State.regsOk_eta])

theorem State.serveHead_ok' {s : State} {d i : Nat} {xs xa}
    (hx : State.serveHead s d i = (xs, xa)) (hok : s.regsOk = true) : xs.regsOk = true := by
  have := State.serveHead_ok s d i hok
  rw [hx] at this
  exact this

theorem State.joinLine_ok (s : State) (d i : Nat) (a : AgMsg) (hok : s.regsOk = true) : (State.joinLine s d i a).regsOk = true := by
  unfold State.joinLine
  extract_lets
  repeat' (first | with_reducible assumption | with_reducible (apply State.updCa_ok) | with_reducible (apply State.putLoft_ok) | with_reducible (apply State.push_ok) | with_reducible (apply State.ite_ok) | split | (intro _ _ hok) | (intro _ hok) | (intro _ _ _ hok) | simp only [State.regsOk_mk, State.regsOk_eta])

theorem State.serveEvict_ok (s : State) (d i : Nat) (hok : s.regsOk = true) : (State.serveEvict s d i).regsOk = true := by
  unfold State.serveEvict
  extract_lets
  repeat' (first | with_reducible assumption | with_reducible (apply State.inc_ok) | with_reducible (apply State.pm_ok) | with_reducible (apply State.delLoft_ok) | with_reducible (apply State.putLoft_ok) | with_reducible (apply State.joinLine_ok) | with_reducible (apply State.forEach_ok) | with_reducible (apply State.push_ok) | with_reducible (apply State.askSnoop_ok) | with_reducible (apply State.ite_ok) | split | (intro _ _ hok) | (intro _ hok) | (intro _ _ _ hok) | simp only [State.regsOk_mk, State.regsOk_eta])

theorem State.serveLine_ok (s : State) (d i : Nat) (hok : s.regsOk = true) : (State.serveLine s d i).regsOk = true := by
  unfold State.serveLine
  repeat' (first | with_reducible assumption | with_reducible (apply State.serveHead_ok) | with_reducible (apply State.push_ok) | with_reducible (apply State.serveEvict_ok) | with_reducible (exact State.serveHead_ok' (by assumption) (by assumption)) | (refine State.serveHead_ok' (by assumption) ?_) | with_reducible (apply State.ite_ok) | split | (intro _ _ hok) | (intro _ hok) | (intro _ _ _ hok) | simp only [State.regsOk_mk, State.regsOk_eta])

theorem State.agentLook_ok (s : State) (d : Nat) (a : AgMsg) (hok : s.regsOk = true) : (State.agentLook s d a).regsOk = true := by
  unfold State.agentLook
  repeat' (first | assumption | split | simp only [State.joinLine_ok, State.putLoft_ok, State.regsOk_mk, State.regsOk_eta, apply_ite State.regsOk, ite_self, implies_true, eq_self, hok])

theorem State.countLook_ok (s : State) (d : Nat) (hok : s.regsOk = true) : (State.countLook s d).regsOk = true := by
  simp only [State.countLook, State.inc_ok, State.pm_ok, State.regsOk_mk, State.regsOk_eta, apply_ite State.regsOk, ite_self, implies_true, eq_self, hok]

theorem State.agentInput_ok (s : State) (d : Nat) (a : AgMsg) (hok : s.regsOk = true) : (State.agentInput s d a).regsOk = true := by
  unfold State.agentInput
  repeat' (first | with_reducible assumption | with_reducible (apply State.updCa_ok) | with_reducible (apply State.inc_ok) | with_reducible (apply State.ev_ok) | with_reducible (apply State.freeCopy_ok) | with_reducible (apply State.completeOther_ok) | with_reducible (apply State.ite_ok) | split | (intro _ _ hok) | (intro _ hok) | (intro _ _ _ hok) | simp only [State.regsOk_mk, State.regsOk_eta])

theorem State.homeServe_ok (s : State) (d : Nat) (a : AgMsg) (hok : s.regsOk = true) : (State.homeServe s d a).regsOk = true := by
  simp only [State.homeServe, State.agentInput_ok, State.agentSend_ok, State.regsOk_mk, State.regsOk_eta, apply_ite State.regsOk, ite_self, implies_true, eq_self, hok]

theorem State.home_ok (s : State) (d input : Nat) (mid : Option Nat) (m : Msg) (hok : s.regsOk = true) : (State.home s d input mid m).regsOk = true := by
  unfold State.home
  repeat' (first | with_reducible assumption | with_reducible (apply State.route_ok) | with_reducible (apply State.updCa_ok) | with_reducible (apply State.freeCopy_ok) | with_reducible (apply State.forEach_ok) | with_reducible (apply State.push_ok) | with_reducible (apply State.dropRecord_ok) | with_reducible (apply State.homeServe_ok) | with_reducible (apply State.ovLookup_ok) | with_reducible (exact State.ovLookup_ok' (by assumption) (by assumption)) | (refine State.ovLookup_ok' (by assumption) ?_) | with_reducible (apply State.ite_ok) | split | (intro _ _ hok) | (intro _ hok) | (intro _ _ _ hok) | simp only [State.regsOk_mk, State.regsOk_eta])

theorem State.pairServe_ok (s : State) (d : Nat) (hok : s.regsOk = true) : (State.pairServe s d).regsOk = true := by
  unfold State.pairServe
  extract_lets
  repeat' (first | with_reducible assumption | with_reducible (apply State.updCa_ok) | with_reducible (apply State.forEach_ok) | with_reducible (apply State.push_ok) | with_reducible (apply State.home_ok) | with_reducible (apply State.ite_ok) | split | (intro _ _ hok) | (intro _ hok) | (intro _ _ _ hok) | simp only [State.regsOk_mk, State.regsOk_eta])

theorem State.serveOf_ok (s : State) (d : Nat) (w : Snoop) (hok : s.regsOk = true) : (State.serveOf s d w).regsOk = true := by
  unfold State.serveOf
  repeat' split
  all_goals simp only [State.push_ok, State.regsOk_mk, State.regsOk_eta, apply_ite State.regsOk, ite_self, implies_true, eq_self, hok]

theorem State.closeSnoop_ok (s : State) (d slot : Nat) (w : Snoop) (f : LoftE → LoftE) (hok : s.regsOk = true) : (State.closeSnoop s d slot w f).regsOk = true := by
  unfold State.closeSnoop
  extract_lets
  repeat' (first | with_reducible assumption | with_reducible (apply State.updCa_ok) | with_reducible (apply State.showCa_ok) | with_reducible (apply State.updLine_ok) | with_reducible (apply State.serveOf_ok) | with_reducible (apply State.ite_ok) | split | (intro _ _ hok) | (intro _ hok) | (intro _ _ _ hok) | simp only [State.regsOk_mk, State.regsOk_eta])

theorem State.loseSnoop_ok (s : State) (d : Nat) (w : Snoop) (sent : Bool) (hok : s.regsOk = true) : (State.loseSnoop s d w sent).regsOk = true := by
  unfold State.loseSnoop
  extract_lets
  repeat' (first | with_reducible assumption | with_reducible (apply State.updLine_ok) | with_reducible (apply State.serveOf_ok) | with_reducible (apply State.inc_ok) | with_reducible (apply State.wr_ok) | with_reducible (apply State.on_ok) | with_reducible (apply State.wrB_ok) | with_reducible (apply State.evC_ok) | with_reducible (apply State.push_ok) | with_reducible (apply State.ite_ok) | split | (intro _ _ hok) | (intro _ hok) | (intro _ _ _ hok) | simp only [State.regsOk_mk, State.regsOk_eta])

theorem State.snoopLost_ok (s : State) (d slot : Nat) (hok : s.regsOk = true) : (State.snoopLost s d slot).regsOk = true := by
  unfold State.snoopLost
  repeat' (first | with_reducible assumption | with_reducible (apply State.updCa_ok) | with_reducible (apply State.showCa_ok) | with_reducible (apply State.loseSnoop_ok) | with_reducible (apply State.ite_ok) | split | (intro _ _ hok) | (intro _ hok) | (intro _ _ _ hok) | simp only [State.regsOk_mk, State.regsOk_eta])

theorem State.poisonAgain_ok (s : State) (d : Nat) (hok : s.regsOk = true) : (State.poisonAgain s d).regsOk = true := by
  unfold State.poisonAgain
  repeat' (first | with_reducible assumption | with_reducible (apply State.forEach_ok) | with_reducible (apply State.push_ok) | with_reducible (apply State.ite_ok) | split | (intro _ _ hok) | (intro _ hok) | (intro _ _ _ hok) | simp only [State.regsOk_mk, State.regsOk_eta])

theorem State.birsp_ok (s : State) (d tag v : Nat) (k : MKind) (hok : s.regsOk = true) : (State.birsp s d tag v k).regsOk = true := by
  unfold State.birsp
  extract_lets
  repeat' (first | with_reducible assumption | with_reducible (apply State.inc_ok) | with_reducible (apply State.ev_ok) | with_reducible (apply State.snoopLost_ok) | with_reducible (apply State.log_ok) | with_reducible (apply State.closeSnoop_ok) | with_reducible (apply State.ite_ok) | split | (intro _ _ hok) | (intro _ hok) | (intro _ _ _ hok) | simp only [State.regsOk_mk, State.regsOk_eta])

theorem State.snoopTimeout_ok (s : State) (d slot : Nat) (hok : s.regsOk = true) : (State.snoopTimeout s d slot).regsOk = true := by
  unfold State.snoopTimeout
  repeat' (first | with_reducible assumption | with_reducible (apply State.updCa_ok) | with_reducible (apply State.inc_ok) | with_reducible (apply State.ev_ok) | with_reducible (apply State.sendSnoop_ok) | with_reducible (apply State.snoopLost_ok) | with_reducible (apply State.ite_ok) | split | (intro _ _ hok) | (intro _ hok) | (intro _ _ _ hok) | simp only [State.regsOk_mk, State.regsOk_eta])

theorem State.snoopFlushed_ok (s : State) (m : Msg) (hok : s.regsOk = true) : (State.snoopFlushed s m).regsOk = true := by
  unfold State.snoopFlushed
  repeat' (first | assumption | split | simp only [State.push_ok, State.snoopLost_ok, State.regsOk_mk, State.regsOk_eta, apply_ite State.regsOk, ite_self, implies_true, eq_self, hok])

theorem State.loseSnoopsTo_ok (s : State) (v : Nat) (hok : s.regsOk = true) : (State.loseSnoopsTo s v).regsOk = true := by
  unfold State.loseSnoopsTo
  repeat' (first | with_reducible assumption | with_reducible (apply State.forEach_ok) | with_reducible (apply State.updCa_ok) | with_reducible (apply State.loseSnoop_ok) | with_reducible (apply State.push_ok) | with_reducible (apply State.snoopLost_ok) | with_reducible (apply State.ite_ok) | split | (intro _ _ hok) | (intro _ hok) | (intro _ _ _ hok) | simp only [State.regsOk_mk, State.regsOk_eta])

theorem State.askWalk_ok (s : State) (d : Nat) (regions : List Region) (unbind : List (Nat × Nat × Nat)) (reset : List Nat) (hok : s.regsOk = true) : (State.askWalk s d regions unbind reset).regsOk = true := by
  simp only [State.askWalk, State.updCa_ok, State.on_ok, State.regsOk_mk, State.regsOk_eta, apply_ite State.regsOk, ite_self, implies_true, eq_self, hok]

theorem State.walkStart_ok (s : State) (d : Nat) (hok : s.regsOk = true) : (State.walkStart s d).regsOk = true := by
  unfold State.walkStart
  extract_lets
  repeat' (first | with_reducible assumption | with_reducible (apply State.updCa_ok) | with_reducible (apply State.on_ok) | with_reducible (apply State.off_ok) | with_reducible (apply State.wrB_ok) | with_reducible (apply State.wr_ok) | with_reducible (apply State.ite_ok) | split | (intro _ _ hok) | (intro _ hok) | (intro _ _ _ hok) | simp only [State.regsOk_mk, State.regsOk_eta])

theorem State.walkEntry_ok (s : State) (d i : Nat) (hok : s.regsOk = true) : (State.walkEntry s d i).regsOk = true := by
  unfold State.walkEntry
  extract_lets
  repeat' (first | with_reducible assumption | with_reducible (apply State.delLoft_ok) | with_reducible (apply State.forEach_ok) | with_reducible (apply State.push_ok) | with_reducible (apply State.putLoft_ok) | with_reducible (apply State.askSnoop_ok) | with_reducible (apply State.ite_ok) | split | (intro _ _ hok) | (intro _ hok) | (intro _ _ _ hok) | simp only [State.regsOk_mk, State.regsOk_eta])

theorem State.walkEnd_ok (s : State) (d : Nat) (hok : s.regsOk = true) : (State.walkEnd s d).regsOk = true := by
  unfold State.walkEnd
  extract_lets
  repeat' (first | with_reducible assumption | with_reducible (apply State.forEach_ok) | with_reducible (apply State.walkEntry_ok) | with_reducible (apply State.updCa_ok) | with_reducible (apply State.off_ok) | with_reducible (apply State.countLook_ok) | with_reducible (apply State.push_ok) | with_reducible (apply State.ite_ok) | split | (intro _ _ hok) | (intro _ hok) | (intro _ _ _ hok) | simp only [State.regsOk_mk, State.regsOk_eta])

end Sys2Proof.Machine
end

