-- ==== Sys2Proof/Laws/PortOps.lean ====
section
/-! SUPPORT. What the operations of Machine/PortOps.lean leave alone: the part, the waiting commands, the blown life-cycle fuses, and the
canonical form of the register file. -/

namespace Sys2Proof.Machine
set_option linter.unusedSimpArgs false
set_option linter.unusedVariables false
set_option linter.unreachableTactic false
set_option linter.unusedTactic false
set_option linter.style.nameCheck false

theorem State.lanesOff_core (s : State) (p : Nat) : (State.lanesOff s p).core = s.core := by
  simp only [State.lanesOff, ↓State.forEach_core, ↓State.toStage_core, State.core_mk, State.core_eta, ↓apply_ite State.core, ite_self, implies_true, eq_self]

theorem State.lanesDetect_core (s : State) (p : Nat) : (State.lanesDetect s p).core = s.core := by
  simp only [State.lanesDetect, ↓State.forEach_core, ↓State.toStage_core, State.core_mk, State.core_eta, ↓apply_ite State.core, ite_self, implies_true, eq_self]

theorem State.trainLane_core (s : State) (p r : Nat) (x : Nat × Nat × Nat) : (State.trainLane s p r x).core = s.core := by
  simp only [State.trainLane, ↓State.toTrain_core, State.core_mk, State.core_eta, ↓apply_ite State.core, ite_self, implies_true, eq_self]

theorem State.laneAfresh_core (s : State) (p : Nat) (x : Nat × Nat × Nat) : (State.laneAfresh s p x).core = s.core := by
  unfold State.laneAfresh
  repeat' split
  all_goals simp only [↓State.trainLane_core, ↓State.toStage_core, ↓State.setRate_core, ↓State.updLane_core, State.core_mk, State.core_eta, ↓apply_ite State.core, ite_self, implies_true, eq_self]

theorem State.leaveOut_core (s : State) (p r : Nat) (x : Nat × Nat × Nat) : (State.leaveOut s p r x).core = s.core := by
  unfold State.leaveOut
  repeat' split
  all_goals simp only [↓State.trainLane_core, ↓State.toStage_core, State.core_mk, State.core_eta, ↓apply_ite State.core, ite_self, implies_true, eq_self]

theorem State.restartTraining_core (s : State) (p : Nat) : (State.restartTraining s p).core = s.core := by
  simp only [State.restartTraining, ↓State.updPort_core, ↓State.forEach_core, ↓State.laneAfresh_core, ↓State.lanesDetect_core, ↓State.wr_core, State.core_mk, State.core_eta, ↓apply_ite State.core, ite_self, implies_true, eq_self]

theorem State.commitLanes_core (s : State) (ls : List (Nat × Nat × Nat)) : (State.commitLanes s ls).core = s.core := by
  simp only [State.commitLanes, ↓State.forEach_core, ↓State.commitReg_core, State.core_mk, State.core_eta, ↓apply_ite State.core, ite_self, implies_true, eq_self]

theorem State.settleLink_core (s : State) (p r w : Nat) : (State.settleLink s p r w).core = s.core := by
  unfold State.settleLink
  repeat' split
  all_goals simp only [↓State.wr_core, ↓State.wrB_core, ↓State.ev_core, ↓State.updPort_core, ↓State.forEach_core, ↓State.leaveOut_core, State.core_mk, State.core_eta, ↓apply_ite State.core, ite_self, implies_true, eq_self]

theorem State.trainSettled_core (s : State) (p r w : Nat) : (State.trainSettled s p r w).core = s.core := by
  simp only [State.trainSettled, ↓State.restartTraining_core, ↓State.commitLanes_core, ↓State.forEach_core, ↓State.trainLane_core, State.core_mk, State.core_eta, ↓apply_ite State.core, ite_self, implies_true, eq_self]

theorem State.chooseRate_core (s : State) (p : Nat) : (State.chooseRate s p).core = s.core := by
  unfold State.chooseRate
  repeat' (first | with_reducible rfl | simp only [↓State.settleLink_core, ↓State.trainSettled_core, State.core_mk, State.core_eta, ↓apply_ite State.core, ite_self, implies_true, eq_self] | split)

theorem State.searchFrom_core (s : State) (p : Nat) (rs : List Nat) : (State.searchFrom s p rs).core = s.core := by
  induction rs generalizing s with
  | nil => exact State.chooseRate_core s p
  | cons r rest ih =>
    unfold State.searchFrom
    extract_lets ls t no t1 t2
    have h2 : t2.core = s.core :=
      (show t2.core = t1.core from rfl).trans ((State.updPort_core _ _ _).trans (State.commitLanes_core _ _))
    split
    · exact ih _
    · split
      · exact (State.forEach_core _ _ _ (fun s a => State.trainLane_core s p r a)).trans h2
      · exact (ih _).trans h2

theorem State.judgeRate_core (s : State) (p : Nat) : (State.judgeRate s p).core = s.core := by
  simp only [State.judgeRate, ↓State.updPort_core, ↓State.chooseRate_core, ↓State.searchFrom_core, State.core_mk, State.core_eta, ↓apply_ite State.core, ite_self, implies_true, eq_self]

theorem State.laneEnded_core (s : State) (d q l : Nat) : (State.laneEnded s d q l).core = s.core := by
  simp only [State.laneEnded, ↓State.updPort_core, ↓State.judgeRate_core, State.core_mk, State.core_eta, ↓apply_ite State.core, ite_self, implies_true, eq_self]

theorem State.laneAgain_core (s : State) (d q l : Nat) : (State.laneAgain s d q l).core = s.core := by
  simp only [State.laneAgain, ↓State.updPort_core, State.core_mk, State.core_eta, ↓apply_ite State.core, ite_self, implies_true, eq_self]

theorem State.laneLost_core (s : State) (d q l : Nat) : (State.laneLost s d q l).core = s.core := by
  simp only [State.laneLost, ↓State.toStage_core, ↓State.restartTraining_core, State.core_mk, State.core_eta, ↓apply_ite State.core, ite_self, implies_true, eq_self]

theorem State.rateDown_core (s : State) (p : Nat) (ls : List (Nat × Nat × Nat)) : (State.rateDown s p ls).core = s.core := by
  unfold State.rateDown
  repeat' split
  all_goals simp only [↓State.restartTraining_core, ↓State.forEach_core, ↓State.trainLane_core, ↓State.settleLink_core, State.core_mk, State.core_eta, ↓apply_ite State.core, ite_self, implies_true, eq_self]

theorem State.trainAgain_core (s : State) (p : Nat) (x : Nat × Nat × Nat) : (State.trainAgain s p x).core = s.core := by
  simp only [State.trainAgain, ↓State.commitLanes_core, ↓State.trainLane_core, ↓State.rateDown_core, State.core_mk, State.core_eta, ↓apply_ite State.core, ite_self, implies_true, eq_self]

theorem State.noDetail_core (s : State) (p : Nat) : (State.noDetail s p).core = s.core := by
  simp only [State.noDetail, ↓State.forEach_core, ↓State.off_core, State.core_mk, State.core_eta, ↓apply_ite State.core, ite_self, implies_true, eq_self]

theorem State.forgetLate_core (s : State) (p : Nat) : (State.forgetLate s p).core = s.core := by
  simp only [State.forgetLate, ↓State.forEach_core, ↓State.updXb_core, State.core_mk, State.core_eta, ↓apply_ite State.core, ite_self, implies_true, eq_self]

theorem State.flushAll_core (s : State) (p : Nat) (back : List QEnt) : (State.flushAll s p back).core = s.core := by
  simp only [State.flushAll, ↓State.forgetLate_core, ↓State.updXb_core, ↓State.updPort_core, ↓State.wr_core, ↓State.showCellar_core, ↓State.noDetail_core, ↓State.inc_core, ↓State.ev_core, ↓State.push_core, ↓State.forEach_core, ↓State.dispose_core, State.core_mk, State.core_eta, ↓apply_ite State.core, ite_self, implies_true, eq_self]

theorem State.flush_core (s : State) (p : Nat) : (State.flush s p).core = s.core := by
  simp only [State.flush, ↓State.flushAll_core, State.core_mk, State.core_eta, ↓apply_ite State.core, ite_self, implies_true, eq_self]

theorem State.release_core (s : State) (p : Nat) : (State.release s p).core = s.core := by
  unfold State.release
  repeat' (first | with_reducible rfl | split | simp only [↓State.updPort_core, ↓State.wr_core, ↓State.showCellar_core, ↓State.updXb_core, ↓State.inc_core, ↓State.evC_core, ↓State.noDetail_core, ↓State.ev_core, ↓State.push_core, ↓State.forEach_core, ↓State.dispose_core, State.core_mk, State.core_eta, ↓apply_ite State.core, ite_self, implies_true, eq_self] | (refine (State.forEach_core _ _ _ (fun s a => ?_)).trans ?_))

theorem State.portUpNow_core (s : State) (p : Nat) : (State.portUpNow s p).core = s.core := by
  simp only [State.portUpNow, ↓State.wr_core, ↓State.on_core, ↓State.ev_core, ↓State.updPort_core, ↓State.bindPortUp_core, ↓State.autoResilver_core, State.core_mk, State.core_eta, ↓apply_ite State.core, ite_self, implies_true, eq_self]

theorem State.cellarAtUp_core (s : State) (p : Nat) (same : Bool) : (State.cellarAtUp s p same).core = s.core := by
  unfold State.cellarAtUp
  repeat' split
  all_goals simp only [↓State.release_core, ↓State.evC_core, ↓State.flush_core, ↓State.push_core, State.core_mk, State.core_eta, ↓apply_ite State.core, ite_self, implies_true, eq_self]

theorem State.identityKnown_core (s : State) (p : Nat) (known : Bool) (sn : Option Nat) : (State.identityKnown s p known sn).core = s.core := by
  simp only [State.identityKnown, ↓State.wr64_core, ↓State.wrB_core, ↓State.wr_core, ↓State.updPort_core, ↓State.cellarAtUp_core, ↓State.portUpNow_core, State.core_mk, State.core_eta, ↓apply_ite State.core, ite_self, implies_true, eq_self]

theorem State.dlActive_core (s : State) (p : Nat) : (State.dlActive s p).core = s.core := by
  simp only [State.dlActive, ↓State.updPort_core, ↓State.cellarAtUp_core, ↓State.portUpNow_core, ↓State.wr_core, State.core_mk, State.core_eta, ↓apply_ite State.core, ite_self, implies_true, eq_self]

theorem State.holdStart_core (s : State) (p : Nat) (unacked : List QEnt) : (State.holdStart s p unacked).core = s.core := by
  simp only [State.holdStart, ↓State.updXb_core, ↓State.updPort_core, ↓State.wr_core, ↓State.showCellar_core, ↓State.forEach_core, ↓State.chargeOut_core, ↓State.cellarArrive_core, State.core_mk, State.core_eta, ↓apply_ite State.core, ite_self, implies_true, eq_self]

theorem State.lanesDown_core (s : State) (p cause : Nat) : (State.lanesDown s p cause).core = s.core := by
  simp only [State.lanesDown, ↓State.lanesOff_core, ↓State.forEach_core, ↓State.laneAfresh_core, State.core_mk, State.core_eta, ↓apply_ite State.core, ite_self, implies_true, eq_self]

theorem State.linkDown_core (s : State) (p cause : Nat) (unacked : List QEnt) : (State.linkDown s p cause unacked).core = s.core := by
  unfold State.linkDown
  repeat' split
  all_goals simp only [↓State.forEach_core, ↓State.commitFld_core, ↓State.wr_core, ↓State.off_core, ↓State.updPort_core, ↓State.lanesDown_core, ↓State.dropOwed_core, ↓State.holdStart_core, ↓State.flush_core, ↓State.ev_core, ↓State.bindPortDown_core, ↓State.evC_core, ↓State.push_core, ↓State.flushAll_core, ↓State.vcsReset_core, State.core_mk, State.core_eta, ↓apply_ite State.core, ite_self, implies_true, eq_self]

theorem State.updSlot_core (s : State) (p : Nat) (f : SlotSt → SlotSt) : (State.updSlot s p f).core = s.core := by
  simp only [State.updSlot, State.core_mk, State.core_eta, ↓apply_ite State.core, ite_self, implies_true, eq_self]

theorem State.setPerst_core (s : State) (p : Nat) : (State.setPerst s p).core = s.core := by
  simp only [State.setPerst, ↓State.wrB_core, State.core_mk, State.core_eta, ↓apply_ite State.core, ite_self, implies_true, eq_self]

theorem State.fence_core (s : State) (p reason : Nat) : (State.fence s p reason).core = s.core := by
  unfold State.fence
  repeat' split
  all_goals simp only [↓State.linkDown_core, ↓State.wr_core, ↓State.flush_core, ↓State.push_core, ↓State.updPort_core, ↓State.lanesOff_core, ↓State.setPerst_core, ↓State.on_core, ↓State.evD_core, ↓State.loseSnoopsTo_core, ↓State.forEach_core, ↓State.emit_core, State.core_mk, State.core_eta, ↓apply_ite State.core, ite_self, implies_true, eq_self]

theorem State.unfence_core (s : State) (p : Nat) : (State.unfence s p).core = s.core := by
  simp only [State.unfence, ↓State.wrB_core, ↓State.off_core, ↓State.setPerst_core, ↓State.ev_core, State.core_mk, State.core_eta, ↓apply_ite State.core, ite_self, implies_true, eq_self]

theorem State.lastingFault_core (s : State) (p : Nat) : (State.lastingFault s p).core = s.core := by
  simp only [State.lastingFault, ↓State.fence_core, ↓State.forEach_core, ↓State.stage_core, ↓State.updPort_core, ↓State.evD_core, State.core_mk, State.core_eta, ↓apply_ite State.core, ite_self, implies_true, eq_self]

theorem State.portDisable_core (s : State) (p : Nat) : (State.portDisable s p).core = s.core := by
  unfold State.portDisable
  repeat' (first | with_reducible rfl | split | simp only [↓State.linkDown_core, ↓State.flush_core, ↓State.updPort_core, ↓State.wr_core, ↓State.lanesOff_core, State.core_mk, State.core_eta, ↓apply_ite State.core, ite_self, implies_true, eq_self])

theorem State.portEnable_core (s : State) (p : Nat) : (State.portEnable s p).core = s.core := by
  simp only [State.portEnable, ↓State.wr_core, State.core_mk, State.core_eta, ↓apply_ite State.core, ite_self, implies_true, eq_self]

theorem State.lanesOff_ok (s : State) (p : Nat) (hok : s.regsOk = true) : (State.lanesOff s p).regsOk = true := by
  unfold State.lanesOff
  repeat' (first | with_reducible assumption | with_reducible (apply State.forEach_ok) | with_reducible (apply State.toStage_ok) | with_reducible (apply State.ite_ok) | split | (intro _ _ hok) | (intro _ hok) | (intro _ _ _ hok) | simp only [State.regsOk_mk, State.regsOk_eta])

theorem State.lanesDetect_ok (s : State) (p : Nat) (hok : s.regsOk = true) : (State.lanesDetect s p).regsOk = true := by
  unfold State.lanesDetect
  repeat' (first | with_reducible assumption | with_reducible (apply State.forEach_ok) | with_reducible (apply State.toStage_ok) | with_reducible (apply State.ite_ok) | split | (intro _ _ hok) | (intro _ hok) | (intro _ _ _ hok) | simp only [State.regsOk_mk, State.regsOk_eta])

theorem State.trainLane_ok (s : State) (p r : Nat) (x : Nat × Nat × Nat) (hok : s.regsOk = true) : (State.trainLane s p r x).regsOk = true := by
  simp only [State.trainLane, State.toTrain_ok, State.regsOk_mk, State.regsOk_eta, apply_ite State.regsOk, ite_self, implies_true, eq_self, hok]

theorem State.laneAfresh_ok (s : State) (p : Nat) (x : Nat × Nat × Nat) (hok : s.regsOk = true) : (State.laneAfresh s p x).regsOk = true := by
  unfold State.laneAfresh
  repeat' split
  all_goals simp only [State.trainLane_ok, State.toStage_ok, State.setRate_ok, State.updLane_ok, State.regsOk_mk, State.regsOk_eta, apply_ite State.regsOk, ite_self, implies_true, eq_self, hok]

theorem State.leaveOut_ok (s : State) (p r : Nat) (x : Nat × Nat × Nat) (hok : s.regsOk = true) : (State.leaveOut s p r x).regsOk = true := by
  unfold State.leaveOut
  repeat' split
  all_goals simp only [State.trainLane_ok, State.toStage_ok, State.regsOk_mk, State.regsOk_eta, apply_ite State.regsOk, ite_self, implies_true, eq_self, hok]

theorem State.restartTraining_ok (s : State) (p : Nat) (hok : s.regsOk = true) : (State.restartTraining s p).regsOk = true := by
  unfold State.restartTraining
  repeat' (first | with_reducible assumption | with_reducible (apply State.updPort_ok) | with_reducible (apply State.forEach_ok) | with_reducible (apply State.laneAfresh_ok) | with_reducible (apply State.lanesDetect_ok) | with_reducible (apply State.wr_ok) | with_reducible (apply State.ite_ok) | split | (intro _ _ hok) | (intro _ hok) | (intro _ _ _ hok) | simp only [State.regsOk_mk, State.regsOk_eta])

theorem State.commitLanes_ok (s : State) (ls : List (Nat × Nat × Nat)) (hok : s.regsOk = true) : (State.commitLanes s ls).regsOk = true := by
  unfold State.commitLanes
  repeat' (first | with_reducible assumption | with_reducible (apply State.forEach_ok) | with_reducible (apply State.commitReg_ok) | with_reducible (apply State.ite_ok) | split | (intro _ _ hok) | (intro _ hok) | (intro _ _ _ hok) | simp only [State.regsOk_mk, State.regsOk_eta])

theorem State.settleLink_ok (s : State) (p r w : Nat) (hok : s.regsOk = true) : (State.settleLink s p r w).regsOk = true := by
  unfold State.settleLink
  extract_lets
  repeat' (first | with_reducible assumption | with_reducible (apply State.wr_ok) | with_reducible (apply State.wrB_ok) | with_reducible (apply State.ev_ok) | with_reducible (apply State.updPort_ok) | with_reducible (apply State.forEach_ok) | with_reducible (apply State.leaveOut_ok) | with_reducible (apply State.ite_ok) | split | (intro _ _ hok) | (intro _ hok) | (intro _ _ _ hok) | simp only [State.regsOk_mk, State.regsOk_eta])

theorem State.trainSettled_ok (s : State) (p r w : Nat) (hok : s.regsOk = true) : (State.trainSettled s p r w).regsOk = true := by
  unfold State.trainSettled
  extract_lets
  repeat' (first | with_reducible assumption | with_reducible (apply State.restartTraining_ok) | with_reducible (apply State.commitLanes_ok) | with_reducible (apply State.forEach_ok) | with_reducible (apply State.trainLane_ok) | with_reducible (apply State.ite_ok) | split | (intro _ _ hok) | (intro _ hok) | (intro _ _ _ hok) | simp only [State.regsOk_mk, State.regsOk_eta])

theorem State.chooseRate_ok (s : State) (p : Nat) (hok : s.regsOk = true) : (State.chooseRate s p).regsOk = true := by
  unfold State.chooseRate
  repeat' (first | assumption | simp only [State.settleLink_ok, State.trainSettled_ok, State.regsOk_mk, State.regsOk_eta, apply_ite State.regsOk, ite_self, implies_true, eq_self, hok] | split)

theorem State.searchFrom_ok (s : State) (p : Nat) (rs : List Nat) (hok : s.regsOk = true) :
    (State.searchFrom s p rs).regsOk = true := by
  induction rs generalizing s with
  | nil => exact State.chooseRate_ok s p hok
  | cons r rest ih =>
    unfold State.searchFrom
    extract_lets ls t no t1 t2
    have ht : t.regsOk = true := State.commitLanes_ok _ _ hok
    have h2 : t2.regsOk = true := State.wr_ok _ _ _ _ (State.updPort_ok _ _ _ ht)
    split
    · exact ih _ hok
    · split
      · exact State.forEach_ok _ _ _ (fun s a h => State.trainLane_ok s p r a h) h2
      · exact ih _ h2

theorem State.judgeRate_ok (s : State) (p : Nat) (hok : s.regsOk = true) : (State.judgeRate s p).regsOk = true := by
  simp only [State.judgeRate, State.updPort_ok, State.chooseRate_ok, State.searchFrom_ok, State.regsOk_mk, State.regsOk_eta, apply_ite State.regsOk, ite_self, implies_true, eq_self, hok]

theorem State.laneEnded_ok (s : State) (d q l : Nat) (hok : s.regsOk = true) : (State.laneEnded s d q l).regsOk = true := by
  unfold State.laneEnded
  repeat' (first | with_reducible assumption | with_reducible (apply State.updPort_ok) | with_reducible (apply State.judgeRate_ok) | with_reducible (apply State.ite_ok) | split | (intro _ _ hok) | (intro _ hok) | (intro _ _ _ hok) | simp only [State.regsOk_mk, State.regsOk_eta])

theorem State.laneAgain_ok (s : State) (d q l : Nat) (hok : s.regsOk = true) : (State.laneAgain s d q l).regsOk = true := by
  simp only [State.laneAgain, State.updPort_ok, State.regsOk_mk, State.regsOk_eta, apply_ite State.regsOk, ite_self, implies_true, eq_self, hok]

theorem State.laneLost_ok (s : State) (d q l : Nat) (hok : s.regsOk = true) : (State.laneLost s d q l).regsOk = true := by
  simp only [State.laneLost, State.toStage_ok, State.restartTraining_ok, State.regsOk_mk, State.regsOk_eta, apply_ite State.regsOk, ite_self, implies_true, eq_self, hok]

theorem State.rateDown_ok (s : State) (p : Nat) (ls : List (Nat × Nat × Nat)) (hok : s.regsOk = true) : (State.rateDown s p ls).regsOk = true := by
  unfold State.rateDown
  repeat' (first | with_reducible assumption | with_reducible (apply State.restartTraining_ok) | with_reducible (apply State.forEach_ok) | with_reducible (apply State.trainLane_ok) | with_reducible (apply State.settleLink_ok) | with_reducible (apply State.ite_ok) | split | (intro _ _ hok) | (intro _ hok) | (intro _ _ _ hok) | simp only [State.regsOk_mk, State.regsOk_eta])

theorem State.trainAgain_ok (s : State) (p : Nat) (x : Nat × Nat × Nat) (hok : s.regsOk = true) : (State.trainAgain s p x).regsOk = true := by
  simp only [State.trainAgain, State.commitLanes_ok, State.trainLane_ok, State.rateDown_ok, State.regsOk_mk, State.regsOk_eta, apply_ite State.regsOk, ite_self, implies_true, eq_self, hok]

theorem State.noDetail_ok (s : State) (p : Nat) (hok : s.regsOk = true) : (State.noDetail s p).regsOk = true := by
  unfold State.noDetail
  repeat' (first | with_reducible assumption | with_reducible (apply State.forEach_ok) | with_reducible (apply State.off_ok) | with_reducible (apply State.ite_ok) | split | (intro _ _ hok) | (intro _ hok) | (intro _ _ _ hok) | simp only [State.regsOk_mk, State.regsOk_eta])

theorem State.forgetLate_ok (s : State) (p : Nat) (hok : s.regsOk = true) : (State.forgetLate s p).regsOk = true := by
  unfold State.forgetLate
  repeat' (first | with_reducible assumption | with_reducible (apply State.forEach_ok) | with_reducible (apply State.updXb_ok) | with_reducible (apply State.ite_ok) | split | (intro _ _ hok) | (intro _ hok) | (intro _ _ _ hok) | simp only [State.regsOk_mk, State.regsOk_eta])

theorem State.flushAll_ok (s : State) (p : Nat) (back : List QEnt) (hok : s.regsOk = true) : (State.flushAll s p back).regsOk = true := by
  unfold State.flushAll
  extract_lets
  repeat' (first | with_reducible assumption | with_reducible (apply State.forgetLate_ok) | with_reducible (apply State.updXb_ok) | with_reducible (apply State.updPort_ok) | with_reducible (apply State.wr_ok) | with_reducible (apply State.showCellar_ok) | with_reducible (apply State.noDetail_ok) | with_reducible (apply State.inc_ok) | with_reducible (apply State.ev_ok) | with_reducible (apply State.push_ok) | with_reducible (apply State.forEach_ok) | with_reducible (apply State.dispose_ok) | with_reducible (apply State.ite_ok) | split | (intro _ _ hok) | (intro _ hok) | (intro _ _ _ hok) | simp only [State.regsOk_mk, State.regsOk_eta])

theorem State.flush_ok (s : State) (p : Nat) (hok : s.regsOk = true) : (State.flush s p).regsOk = true := by
  unfold State.flush
  repeat' (first | with_reducible assumption | with_reducible (apply State.flushAll_ok) | with_reducible (apply State.ite_ok) | split | (intro _ _ hok) | (intro _ hok) | (intro _ _ _ hok) | simp only [State.regsOk_mk, State.regsOk_eta])

theorem State.release_ok (s : State) (p : Nat) (hok : s.regsOk = true) : (State.release s p).regsOk = true := by
  unfold State.release
  extract_lets
  repeat' (first | with_reducible assumption | with_reducible (apply State.updPort_ok) | with_reducible (apply State.wr_ok) | with_reducible (apply State.showCellar_ok) | with_reducible (apply State.updXb_ok) | with_reducible (apply State.inc_ok) | with_reducible (apply State.evC_ok) | with_reducible (apply State.noDetail_ok) | with_reducible (apply State.ev_ok) | with_reducible (apply State.push_ok) | with_reducible (apply State.forEach_ok) | with_reducible (apply State.dispose_ok) | with_reducible (apply State.ite_ok) | split | (intro _ _ hok) | (intro _ hok) | (intro _ _ _ hok) | simp only [State.regsOk_mk, State.regsOk_eta])

theorem State.portUpNow_ok (s : State) (p : Nat) (hok : s.regsOk = true) : (State.portUpNow s p).regsOk = true := by
  unfold State.portUpNow
  repeat' (first | with_reducible assumption | with_reducible (apply State.wr_ok) | with_reducible (apply State.on_ok) | with_reducible (apply State.ev_ok) | with_reducible (apply State.updPort_ok) | with_reducible (apply State.bindPortUp_ok) | with_reducible (apply State.autoResilver_ok) | with_reducible (apply State.ite_ok) | split | (intro _ _ hok) | (intro _ hok) | (intro _ _ _ hok) | simp only [State.regsOk_mk, State.regsOk_eta])

theorem State.cellarAtUp_ok (s : State) (p : Nat) (same : Bool) (hok : s.regsOk = true) : (State.cellarAtUp s p same).regsOk = true := by
  unfold State.cellarAtUp
  repeat' (first | with_reducible assumption | with_reducible (apply State.release_ok) | with_reducible (apply State.evC_ok) | with_reducible (apply State.flush_ok) | with_reducible (apply State.push_ok) | with_reducible (apply State.ite_ok) | split | (intro _ _ hok) | (intro _ hok) | (intro _ _ _ hok) | simp only [State.regsOk_mk, State.regsOk_eta])

theorem State.identityKnown_ok (s : State) (p : Nat) (known : Bool) (sn : Option Nat) (hok : s.regsOk = true) : (State.identityKnown s p known sn).regsOk = true := by
  unfold State.identityKnown
  extract_lets
  repeat' (first | with_reducible assumption | with_reducible (apply State.wr64_ok) | with_reducible (apply State.wrB_ok) | with_reducible (apply State.wr_ok) | with_reducible (apply State.updPort_ok) | with_reducible (apply State.cellarAtUp_ok) | with_reducible (apply State.portUpNow_ok) | with_reducible (apply State.ite_ok) | split | (intro _ _ hok) | (intro _ hok) | (intro _ _ _ hok) | simp only [State.regsOk_mk, State.regsOk_eta])

theorem State.dlActive_ok (s : State) (p : Nat) (hok : s.regsOk = true) : (State.dlActive s p).regsOk = true := by
  unfold State.dlActive
  extract_lets
  repeat' (first | with_reducible assumption | with_reducible (apply State.updPort_ok) | with_reducible (apply State.cellarAtUp_ok) | with_reducible (apply State.portUpNow_ok) | with_reducible (apply State.wr_ok) | with_reducible (apply State.ite_ok) | split | (intro _ _ hok) | (intro _ hok) | (intro _ _ _ hok) | simp only [State.regsOk_mk, State.regsOk_eta])

theorem State.holdStart_ok (s : State) (p : Nat) (unacked : List QEnt) (hok : s.regsOk = true) : (State.holdStart s p unacked).regsOk = true := by
  unfold State.holdStart
  extract_lets
  repeat' (first | with_reducible assumption | with_reducible (apply State.updXb_ok) | with_reducible (apply State.updPort_ok) | with_reducible (apply State.wr_ok) | with_reducible (apply State.showCellar_ok) | with_reducible (apply State.forEach_ok) | with_reducible (apply State.chargeOut_ok) | with_reducible (apply State.cellarArrive_ok) | with_reducible (apply State.ite_ok) | split | (intro _ _ hok) | (intro _ hok) | (intro _ _ _ hok) | simp only [State.regsOk_mk, State.regsOk_eta])

theorem State.lanesDown_ok (s : State) (p cause : Nat) (hok : s.regsOk = true) : (State.lanesDown s p cause).regsOk = true := by
  unfold State.lanesDown
  repeat' (first | with_reducible assumption | with_reducible (apply State.lanesOff_ok) | with_reducible (apply State.forEach_ok) | with_reducible (apply State.laneAfresh_ok) | with_reducible (apply State.ite_ok) | split | (intro _ _ hok) | (intro _ hok) | (intro _ _ _ hok) | simp only [State.regsOk_mk, State.regsOk_eta])

theorem State.linkDown_ok (s : State) (p cause : Nat) (unacked : List QEnt) (hok : s.regsOk = true) : (State.linkDown s p cause unacked).regsOk = true := by
  unfold State.linkDown
  extract_lets
  repeat' (first | with_reducible assumption | with_reducible (apply State.forEach_ok) | with_reducible (apply State.commitFld_ok) | with_reducible (apply State.wr_ok) | with_reducible (apply State.off_ok) | with_reducible (apply State.updPort_ok) | with_reducible (apply State.lanesDown_ok) | with_reducible (apply State.dropOwed_ok) | with_reducible (apply State.holdStart_ok) | with_reducible (apply State.flush_ok) | with_reducible (apply State.ev_ok) | with_reducible (apply State.bindPortDown_ok) | with_reducible (apply State.evC_ok) | with_reducible (apply State.push_ok) | with_reducible (apply State.flushAll_ok) | with_reducible (apply State.vcsReset_ok) | with_reducible (apply State.ite_ok) | split | (intro _ _ hok) | (intro _ hok) | (intro _ _ _ hok) | simp only [State.regsOk_mk, State.regsOk_eta])

theorem State.updSlot_ok (s : State) (p : Nat) (f : SlotSt → SlotSt) (hok : s.regsOk = true) : (State.updSlot s p f).regsOk = true := by
  simp only [State.updSlot, State.regsOk_mk, State.regsOk_eta, apply_ite State.regsOk, ite_self, implies_true, eq_self, hok]

theorem State.setPerst_ok (s : State) (p : Nat) (hok : s.regsOk = true) : (State.setPerst s p).regsOk = true := by
  simp only [State.setPerst, State.wrB_ok, State.regsOk_mk, State.regsOk_eta, apply_ite State.regsOk, ite_self, implies_true, eq_self, hok]

theorem State.fence_ok (s : State) (p reason : Nat) (hok : s.regsOk = true) : (State.fence s p reason).regsOk = true := by
  unfold State.fence
  repeat' (first | with_reducible assumption | with_reducible (apply State.linkDown_ok) | with_reducible (apply State.wr_ok) | with_reducible (apply State.flush_ok) | with_reducible (apply State.push_ok) | with_reducible (apply State.updPort_ok) | with_reducible (apply State.lanesOff_ok) | with_reducible (apply State.setPerst_ok) | with_reducible (apply State.on_ok) | with_reducible (apply State.evD_ok) | with_reducible (apply State.loseSnoopsTo_ok) | with_reducible (apply State.forEach_ok) | with_reducible (apply State.emit_ok) | with_reducible (apply State.ite_ok) | split | (intro _ _ hok) | (intro _ hok) | (intro _ _ _ hok) | simp only [State.regsOk_mk, State.regsOk_eta])

theorem State.unfence_ok (s : State) (p : Nat) (hok : s.regsOk = true) : (State.unfence s p).regsOk = true := by
  unfold State.unfence
  extract_lets
  repeat' (first | with_reducible assumption | with_reducible (apply State.wrB_ok) | with_reducible (apply State.off_ok) | with_reducible (apply State.setPerst_ok) | with_reducible (apply State.ev_ok) | with_reducible (apply State.ite_ok) | split | (intro _ _ hok) | (intro _ hok) | (intro _ _ _ hok) | simp only [State.regsOk_mk, State.regsOk_eta])

theorem State.lastingFault_ok (s : State) (p : Nat) (hok : s.regsOk = true) : (State.lastingFault s p).regsOk = true := by
  unfold State.lastingFault
  extract_lets
  repeat' (first | with_reducible assumption | with_reducible (apply State.fence_ok) | with_reducible (apply State.forEach_ok) | with_reducible (apply State.stage_ok) | with_reducible (apply State.updPort_ok) | with_reducible (apply State.evD_ok) | with_reducible (apply State.ite_ok) | split | (intro _ _ hok) | (intro _ hok) | (intro _ _ _ hok) | simp only [State.regsOk_mk, State.regsOk_eta])

theorem State.portDisable_ok (s : State) (p : Nat) (hok : s.regsOk = true) : (State.portDisable s p).regsOk = true := by
  unfold State.portDisable
  repeat' (first | with_reducible assumption | with_reducible (apply State.linkDown_ok) | with_reducible (apply State.flush_ok) | with_reducible (apply State.updPort_ok) | with_reducible (apply State.wr_ok) | with_reducible (apply State.lanesOff_ok) | with_reducible (apply State.ite_ok) | split | (intro _ _ hok) | (intro _ hok) | (intro _ _ _ hok) | simp only [State.regsOk_mk, State.regsOk_eta])

theorem State.portEnable_ok (s : State) (p : Nat) (hok : s.regsOk = true) : (State.portEnable s p).regsOk = true := by
  simp only [State.portEnable, State.wr_ok, State.regsOk_mk, State.regsOk_eta, apply_ite State.regsOk, ite_self, implies_true, eq_self, hok]

end Sys2Proof.Machine
end

