-- ==== Sys2Proof/Laws/ArriveOps.lean ====
section
/-! SUPPORT. What the operations of Machine/ArriveOps.lean leave alone: the part, the waiting commands, the blown life-cycle fuses, and the
canonical form of the register file. -/

namespace Sys2Proof.Machine
set_option linter.unusedSimpArgs false
set_option linter.unusedVariables false
set_option linter.unreachableTactic false
set_option linter.unusedTactic false
set_option linter.style.nameCheck false

theorem State.atticSelect_core (s : State) (d tc src vcs hpa : Nat) (dev : Option Nat) (dst : Nat) : (State.atticSelect s d tc src vcs hpa dev dst).2.core = s.core := by
  unfold State.atticSelect
  repeat' (first | with_reducible rfl | split | simp only [↓State.inc_core, ↓State.useFree_core, ↓State.wr_core, State.core_mk, State.core_eta, ↓apply_ite State.core, ite_self, implies_true, eq_self])

theorem State.atticSelect_core' {s : State} {d tc src vcs hpa : Nat} {dev : Option Nat} {dst : Nat} {xa xs}
    (hx : (State.atticSelect s d tc src vcs hpa dev dst) = (xa, xs)) : xs.core = s.core := by
  have := State.atticSelect_core s d tc src vcs hpa dev dst
  rw [hx] at this
  exact this

theorem State.noteMiss_core (s : State) (d v tc hpa : Nat) : (State.noteMiss s d v tc hpa).core = s.core := by
  simp only [State.noteMiss, ↓State.inc_core, ↓State.pm_core, ↓State.on_core, ↓State.wr_core, ↓State.ev_core, State.core_mk, State.core_eta, ↓apply_ite State.core, ite_self, implies_true, eq_self]

theorem State.turnedBack_core (s : State) (d v t : Nat) (m : Msg) : (State.turnedBack s d v t m).core = s.core := by
  unfold State.turnedBack
  repeat' split
  all_goals simp only [↓State.dropRecord_core, ↓State.completeOther_core, State.core_mk, State.core_eta, ↓apply_ite State.core, ite_self, implies_true, eq_self]

theorem State.decodeMiss_core (s : State) (d v t : Nat) (m : Msg) : (State.decodeMiss s d v t m).core = s.core := by
  unfold State.decodeMiss
  repeat' split
  all_goals simp only [↓State.noteMiss_core, ↓State.turnedBack_core, State.core_mk, State.core_eta, ↓apply_ite State.core, ite_self, implies_true, eq_self]

theorem State.mirrorRead_core (s : State) (d input : Nat) (mid : Option Nat) (t g : Nat) (x : Trk) (m : Msg) : (State.mirrorRead s d input mid t g x m).core = s.core := by
  unfold State.mirrorRead
  repeat' split
  all_goals simp only [↓State.freeCopy_core, ↓State.poisonOut_core, ↓State.putTrk_core, ↓State.pm_core, ↓State.push_core, ↓State.home_core, State.core_mk, State.core_eta, ↓apply_ite State.core, ite_self, implies_true, eq_self]

theorem State.mirrorWrite_core (s : State) (d input : Nat) (mid : Option Nat) (t g : Nat) (x : Trk) (m : Msg) (via : Option Nat) : (State.mirrorWrite s d input mid t g x m via).core = s.core := by
  simp only [State.mirrorWrite, ↓State.freeCopy_core, ↓State.completeOther_core, ↓State.putTrk_core, ↓State.setCopies_core, ↓State.pm_core, ↓State.forEach_core, ↓State.push_core, ↓State.home_core, State.core_mk, State.core_eta, ↓apply_ite State.core, ite_self, implies_true, eq_self]

theorem State.mirrorPosted_core (s : State) (d input : Nat) (mid : Option Nat) (g : Nat) (x : Trk) (m : Msg) : (State.mirrorPosted s d input mid g x m).core = s.core := by
  unfold State.mirrorPosted
  repeat' (first | with_reducible rfl | simp only [↓State.push_core, ↓State.home_core, ↓State.freeCopy_core, ↓State.lostWriteAt_core, State.core_mk, State.core_eta, ↓apply_ite State.core, ite_self, implies_true, eq_self] | split)

theorem State.decoded_core (s : State) (d input : Nat) (mid : Option Nat) (t : Nat) (x : Trk) (m : Msg) (grp : Nat) : (State.decoded s d input mid t x m grp).core = s.core := by
  simp only [State.decoded, ↓State.push_core, ↓State.home_core, ↓State.freeCopy_core, ↓State.turnedBack_core, ↓State.inc_core, ↓State.ev_core, ↓State.mirrorPosted_core, ↓State.putTrk_core, ↓State.mirrorWrite_core, ↓State.grpMiss_core, ↓State.completeOther_core, ↓State.mirrorRead_core, State.core_mk, State.core_eta, ↓apply_ite State.core, ite_self, implies_true, eq_self]

theorem State.hostRequest_core (s : State) (d input v : Nat) (mid : Option Nat) (t : Nat) (m : Msg) : (State.hostRequest s d input v mid t m).core = s.core := by
  unfold State.hostRequest
  repeat' (first | with_reducible rfl | split | simp only [↓State.pm_core, ↓State.putTrk_core, ↓State.atticSelect_core, ↓State.freeCopy_core, ↓State.turnedBack_core, ↓State.decodeMiss_core, ↓State.noteLoss_core, ↓State.decoded_core, State.core_mk, State.core_eta, ↓apply_ite State.core, ite_self, implies_true, eq_self] | (refine (State.atticSelect_core' (by assumption)).trans ?_))

theorem State.trackedTo_core (s : State) (d input v : Nat) (mid : Option Nat) (t : Nat) (m : Msg) (dst ld : Nat) (sl : Option Nat) : (State.trackedTo s d input v mid t m dst ld sl).core = s.core := by
  simp only [State.trackedTo, ↓State.atticSelect_core, ↓State.putTrk_core, ↓State.route_core, State.core_mk, State.core_eta, ↓apply_ite State.core, ite_self, implies_true, eq_self]

theorem State.broadcast_core (s : State) (d input v : Nat) (mid : Option Nat) (m : Msg) : (State.broadcast s d input v mid m).core = s.core := by
  simp only [State.broadcast, ↓State.freeCopy_core, ↓State.setCopies_core, ↓State.forEach_core, ↓State.route_core, State.core_mk, State.core_eta, ↓apply_ite State.core, ite_self, implies_true, eq_self]

theorem State.toAgent_core (s : State) (d input : Nat) (mid : Option Nat) (m : Msg) : (State.toAgent s d input mid m).core = s.core := by
  simp only [State.toAgent, ↓State.freeCopy_core, ↓State.birsp_core, ↓State.route_core, State.core_mk, State.core_eta, ↓apply_ite State.core, ite_self, implies_true, eq_self]

theorem State.hostTc5_core (s : State) (d input v : Nat) (mid : Option Nat) (m : Msg) : (State.hostTc5 s d input v mid m).core = s.core := by
  unfold State.hostTc5
  repeat' (first | with_reducible rfl | split | simp only [↓State.freeCopy_core, ↓State.route_core, ↓State.push_core, ↓State.toAgent_core, State.core_mk, State.core_eta, ↓apply_ite State.core, ite_self, implies_true, eq_self])

theorem State.deviceSnoop_core (s : State) (d input p : Nat) (mid : Option Nat) (m : Msg) : (State.deviceSnoop s d input p mid m).core = s.core := by
  simp only [State.deviceSnoop, ↓State.freeCopy_core, ↓State.inc_core, ↓State.ev_core, ↓State.route_core, State.core_mk, State.core_eta, ↓apply_ite State.core, ite_self, implies_true, eq_self]

theorem State.pbrRoute_core (s : State) (d input p : Nat) (mid : Option Nat) (t : Nat) (m : Msg) : (State.pbrRoute s d input p mid t m).core = s.core := by
  simp only [State.pbrRoute, ↓State.trackedTo_core, ↓State.putTrk_core, ↓State.freeCopy_core, ↓State.decodeMiss_core, State.core_mk, State.core_eta, ↓apply_ite State.core, ite_self, implies_true, eq_self]

theorem State.fromCasub_core (s : State) (d input : Nat) (mid : Option Nat) (m : Msg) : (State.fromCasub s d input mid m).core = s.core := by
  unfold State.fromCasub
  repeat' split
  all_goals simp only [↓State.push_core, ↓State.lostPath_core, ↓State.updTrk_core, ↓State.route_core, ↓State.response_core, ↓State.freeCopy_core, ↓State.toAgent_core, ↓State.home_core, State.core_mk, State.core_eta, ↓apply_ite State.core, ite_self, implies_true, eq_self]

theorem State.hostById_core (s : State) (d input p : Nat) (mid : Option Nat) (t : Nat) (m : Msg) : (State.hostById s d input p mid t m).core = s.core := by
  unfold State.hostById
  repeat' split
  all_goals simp only [↓State.freeCopy_core, ↓State.inc_core, ↓State.putTrk_core, ↓State.complete_core, ↓State.trackedTo_core, ↓State.completeOther_core, ↓State.dropRecord_core, State.core_mk, State.core_eta, ↓apply_ite State.core, ite_self, implies_true, eq_self]

theorem State.toSpace_core (s : State) (d input p : Nat) (mid : Option Nat) (t : Nat) (m : Msg) (o : Nat) : (State.toSpace s d input p mid t m o).core = s.core := by
  simp only [State.toSpace, ↓State.putTrk_core, ↓State.route_core, State.core_mk, State.core_eta, ↓apply_ite State.core, ite_self, implies_true, eq_self]

theorem State.hostMem_core (s : State) (d input p : Nat) (mid : Option Nat) (t : Nat) (m : Msg) : (State.hostMem s d input p mid t m).core = s.core := by
  unfold State.hostMem
  repeat' split
  all_goals simp only [↓State.toSpace_core, ↓State.push_core, ↓State.hostRequest_core, State.core_mk, State.core_eta, ↓apply_ite State.core, ite_self, implies_true, eq_self]

theorem State.hostIo_core (s : State) (d input p : Nat) (mid : Option Nat) (t : Nat) (m : Msg) : (State.hostIo s d input p mid t m).core = s.core := by
  unfold State.hostIo
  repeat' split
  all_goals simp only [↓State.hostMem_core, ↓State.hostById_core, ↓State.broadcast_core, ↓State.freeCopy_core, ↓State.dropRecord_core, State.core_mk, State.core_eta, ↓apply_ite State.core, ite_self, implies_true, eq_self]

theorem State.fromHost_core (s : State) (d input p : Nat) (mid : Option Nat) (t : Nat) (m : Msg) : (State.fromHost s d input p mid t m).core = s.core := by
  unfold State.fromHost
  repeat' split
  all_goals simp only [↓State.hostRequest_core, ↓State.hostIo_core, ↓State.hostTc5_core, ↓State.response_core, ↓State.trackedTo_core, State.core_mk, State.core_eta, ↓apply_ite State.core, ite_self, implies_true, eq_self]

theorem State.copySeen_core (s : State) (p : Nat → Bool) (d t c : Nat) : (State.copySeen s p d t c).core = s.core := by
  unfold State.copySeen
  repeat' split
  all_goals simp only [↓State.putTrk_core, ↓State.noteSlots_core, ↓State.noteLoft_core, State.core_mk, State.core_eta, ↓apply_ite State.core, ite_self, implies_true, eq_self]

theorem State.passed_core (s : State) (d : Nat) (m : Msg) : (State.passed s d m).core = s.core := by
  unfold State.passed
  repeat' split
  all_goals simp only [↓State.copySeen_core, ↓State.noteAt_core, State.core_mk, State.core_eta, ↓apply_ite State.core, ite_self, implies_true, eq_self]

theorem State.fromDevice_core (s : State) (d input p : Nat) (mid : Option Nat) (t : Nat) (m : Msg) : (State.fromDevice s d input p mid t m).core = s.core := by
  unfold State.fromDevice
  repeat' (first | with_reducible rfl | split | simp only [↓State.passed_core, ↓State.response_core, ↓State.deviceSnoop_core, ↓State.freeCopy_core, ↓State.dropRecord_core, ↓State.putTrk_core, ↓State.completeOther_core, ↓State.trackedTo_core, State.core_mk, State.core_eta, ↓apply_ite State.core, ite_self, implies_true, eq_self])

theorem State.fromPort_core (s : State) (d input : Nat) (mid : Option Nat) (t : Nat) (m : Msg) : (State.fromPort s d input mid t m).core = s.core := by
  unfold State.fromPort
  repeat' split
  all_goals simp only [↓State.pbrRoute_core, ↓State.replicate_core, ↓State.fromHost_core, ↓State.fromDevice_core, State.core_mk, State.core_eta, ↓apply_ite State.core, ite_self, implies_true, eq_self]

theorem State.arriveIn_core (s : State) (d input : Nat) (m : Msg) (part : LPart) (fl sh t : Nat) : (State.arriveIn s d input m part fl sh t).core = s.core := by
  simp only [State.arriveIn, ↓State.putIn_core, ↓State.pm_core, ↓State.fromCasub_core, ↓State.owe_core, ↓State.fromPort_core, ↓State.response_core, ↓State.putTrk_core, ↓State.push_core, ↓State.home_core, ↓State.trackedTo_core, State.core_mk, State.core_eta, ↓apply_ite State.core, ite_self, implies_true, eq_self]

theorem State.arrive_core (s : State) (d input : Nat) (m : Msg) (own : Option Nat) : (State.arrive s d input m own).core = s.core := by
  unfold State.arrive
  dsimp only
  split
  · split <;> simp only [↓State.inc_core, ↓State.ev_core, ↓State.giveCredit_core, ↓State.push_core, ↓apply_ite State.core, ite_self]
  · split
    · exact State.withhold_core _ _ _ _ _
    · rfl
    · rename_i h _
      refine (State.arriveIn_core _ _ _ _ _ _ _ _).trans ?_
      split at h
      · injection h with h
        injection h with _ h
        rw [← h]
      · exact State.useCredit_core s _ _ _ _ h

theorem State.biConflict_core (s : State) (m : Msg) : (State.biConflict s m).core = s.core := by
  unfold State.biConflict
  repeat' (first | with_reducible rfl | split | simp only [↓State.updTrk_core, ↓State.route_core, State.core_mk, State.core_eta, ↓apply_ite State.core, ite_self, implies_true, eq_self])

theorem State.releaseBirsp_core (s : State) (d : Nat) : (State.releaseBirsp s d).core = s.core := by
  simp only [State.releaseBirsp, ↓State.forEach_core, ↓State.toAgent_core, State.core_mk, State.core_eta, ↓apply_ite State.core, ite_self, implies_true, eq_self]

theorem State.atticSelect_ok (s : State) (d tc src vcs hpa : Nat) (dev : Option Nat) (dst : Nat) (hok : s.regsOk = true) : (State.atticSelect s d tc src vcs hpa dev dst).2.regsOk = true := by
  unfold State.atticSelect
  repeat' (first | assumption | split | simp only [State.inc_ok, State.useFree_ok, State.wr_ok, State.regsOk_mk, State.regsOk_eta, apply_ite State.regsOk, ite_self, implies_true, eq_self, hok])

theorem State.atticSelect_ok' {s : State} {d tc src vcs hpa : Nat} {dev : Option Nat} {dst : Nat} {xa xs}
    (hx : State.atticSelect s d tc src vcs hpa dev dst = (xa, xs)) (hok : s.regsOk = true) : xs.regsOk = true := by
  have := State.atticSelect_ok s d tc src vcs hpa dev dst hok
  rw [hx] at this
  exact this

theorem State.noteMiss_ok (s : State) (d v tc hpa : Nat) (hok : s.regsOk = true) : (State.noteMiss s d v tc hpa).regsOk = true := by
  unfold State.noteMiss
  repeat' (first | with_reducible assumption | with_reducible (apply State.inc_ok) | with_reducible (apply State.pm_ok) | with_reducible (apply State.on_ok) | with_reducible (apply State.wr_ok) | with_reducible (apply State.ev_ok) | with_reducible (apply State.ite_ok) | split | (intro _ _ hok) | (intro _ hok) | (intro _ _ _ hok) | simp only [State.regsOk_mk, State.regsOk_eta])

theorem State.turnedBack_ok (s : State) (d v t : Nat) (m : Msg) (hok : s.regsOk = true) : (State.turnedBack s d v t m).regsOk = true := by
  unfold State.turnedBack
  repeat' split
  all_goals simp only [State.dropRecord_ok, State.completeOther_ok, State.regsOk_mk, State.regsOk_eta, apply_ite State.regsOk, ite_self, implies_true, eq_self, hok]

theorem State.decodeMiss_ok (s : State) (d v t : Nat) (m : Msg) (hok : s.regsOk = true) : (State.decodeMiss s d v t m).regsOk = true := by
  unfold State.decodeMiss
  repeat' split
  all_goals simp only [State.noteMiss_ok, State.turnedBack_ok, State.regsOk_mk, State.regsOk_eta, apply_ite State.regsOk, ite_self, implies_true, eq_self, hok]

theorem State.mirrorRead_ok (s : State) (d input : Nat) (mid : Option Nat) (t g : Nat) (x : Trk) (m : Msg) (hok : s.regsOk = true) : (State.mirrorRead s d input mid t g x m).regsOk = true := by
  unfold State.mirrorRead
  repeat' (first | with_reducible assumption | with_reducible (apply State.freeCopy_ok) | with_reducible (apply State.poisonOut_ok) | with_reducible (apply State.putTrk_ok) | with_reducible (apply State.pm_ok) | with_reducible (apply State.push_ok) | with_reducible (apply State.home_ok) | with_reducible (apply State.ite_ok) | split | (intro _ _ hok) | (intro _ hok) | (intro _ _ _ hok) | simp only [State.regsOk_mk, State.regsOk_eta])

theorem State.mirrorWrite_ok (s : State) (d input : Nat) (mid : Option Nat) (t g : Nat) (x : Trk) (m : Msg) (via : Option Nat) (hok : s.regsOk = true) : (State.mirrorWrite s d input mid t g x m via).regsOk = true := by
  unfold State.mirrorWrite
  extract_lets
  repeat' (first | with_reducible assumption | with_reducible (apply State.freeCopy_ok) | with_reducible (apply State.completeOther_ok) | with_reducible (apply State.putTrk_ok) | with_reducible (apply State.setCopies_ok) | with_reducible (apply State.pm_ok) | with_reducible (apply State.forEach_ok) | with_reducible (apply State.push_ok) | with_reducible (apply State.home_ok) | with_reducible (apply State.ite_ok) | split | (intro _ _ hok) | (intro _ hok) | (intro _ _ _ hok) | simp only [State.regsOk_mk, State.regsOk_eta])

theorem State.mirrorPosted_ok (s : State) (d input : Nat) (mid : Option Nat) (g : Nat) (x : Trk) (m : Msg) (hok : s.regsOk = true) : (State.mirrorPosted s d input mid g x m).regsOk = true := by
  unfold State.mirrorPosted
  repeat' (first | assumption | simp only [State.push_ok, State.home_ok, State.freeCopy_ok, State.lostWriteAt_ok, State.regsOk_mk, State.regsOk_eta, apply_ite State.regsOk, ite_self, implies_true, eq_self, hok] | split)

theorem State.decoded_ok (s : State) (d input : Nat) (mid : Option Nat) (t : Nat) (x : Trk) (m : Msg) (grp : Nat) (hok : s.regsOk = true) : (State.decoded s d input mid t x m grp).regsOk = true := by
  unfold State.decoded
  extract_lets
  repeat' (first | with_reducible assumption | with_reducible (apply State.push_ok) | with_reducible (apply State.home_ok) | with_reducible (apply State.freeCopy_ok) | with_reducible (apply State.turnedBack_ok) | with_reducible (apply State.inc_ok) | with_reducible (apply State.ev_ok) | with_reducible (apply State.mirrorPosted_ok) | with_reducible (apply State.putTrk_ok) | with_reducible (apply State.mirrorWrite_ok) | with_reducible (apply State.grpMiss_ok) | with_reducible (apply State.completeOther_ok) | with_reducible (apply State.mirrorRead_ok) | with_reducible (apply State.ite_ok) | split | (intro _ _ hok) | (intro _ hok) | (intro _ _ _ hok) | simp only [State.regsOk_mk, State.regsOk_eta])

theorem State.hostRequest_ok (s : State) (d input v : Nat) (mid : Option Nat) (t : Nat) (m : Msg) (hok : s.regsOk = true) : (State.hostRequest s d input v mid t m).regsOk = true := by
  unfold State.hostRequest
  repeat' (first | with_reducible assumption | with_reducible (apply State.pm_ok) | with_reducible (apply State.putTrk_ok) | with_reducible (apply State.atticSelect_ok) | with_reducible (apply State.freeCopy_ok) | with_reducible (apply State.turnedBack_ok) | with_reducible (apply State.decodeMiss_ok) | with_reducible (apply State.noteLoss_ok) | with_reducible (apply State.decoded_ok) | with_reducible (exact State.atticSelect_ok' (by assumption) (by assumption)) | (refine State.atticSelect_ok' (by assumption) ?_) | with_reducible (apply State.ite_ok) | split | (intro _ _ hok) | (intro _ hok) | (intro _ _ _ hok) | simp only [State.regsOk_mk, State.regsOk_eta])

theorem State.trackedTo_ok (s : State) (d input v : Nat) (mid : Option Nat) (t : Nat) (m : Msg) (dst ld : Nat) (sl : Option Nat) (hok : s.regsOk = true) : (State.trackedTo s d input v mid t m dst ld sl).regsOk = true := by
  unfold State.trackedTo
  repeat' (first | with_reducible assumption | with_reducible (apply State.atticSelect_ok) | with_reducible (apply State.putTrk_ok) | with_reducible (apply State.route_ok) | with_reducible (exact State.atticSelect_ok' (by assumption) (by assumption)) | (refine State.atticSelect_ok' (by assumption) ?_) | with_reducible (apply State.ite_ok) | split | (intro _ _ hok) | (intro _ hok) | (intro _ _ _ hok) | simp only [State.regsOk_mk, State.regsOk_eta])

theorem State.broadcast_ok (s : State) (d input v : Nat) (mid : Option Nat) (m : Msg) (hok : s.regsOk = true) : (State.broadcast s d input v mid m).regsOk = true := by
  unfold State.broadcast
  extract_lets
  repeat' (first | with_reducible assumption | with_reducible (apply State.freeCopy_ok) | with_reducible (apply State.setCopies_ok) | with_reducible (apply State.forEach_ok) | with_reducible (apply State.route_ok) | with_reducible (apply State.ite_ok) | split | (intro _ _ hok) | (intro _ hok) | (intro _ _ _ hok) | simp only [State.regsOk_mk, State.regsOk_eta])

theorem State.toAgent_ok (s : State) (d input : Nat) (mid : Option Nat) (m : Msg) (hok : s.regsOk = true) : (State.toAgent s d input mid m).regsOk = true := by
  simp only [State.toAgent, State.freeCopy_ok, State.birsp_ok, State.route_ok, State.regsOk_mk, State.regsOk_eta, apply_ite State.regsOk, ite_self, implies_true, eq_self, hok]

theorem State.hostTc5_ok (s : State) (d input v : Nat) (mid : Option Nat) (m : Msg) (hok : s.regsOk = true) : (State.hostTc5 s d input v mid m).regsOk = true := by
  unfold State.hostTc5
  repeat' (first | assumption | split | simp only [State.freeCopy_ok, State.route_ok, State.push_ok, State.toAgent_ok, State.regsOk_mk, State.regsOk_eta, apply_ite State.regsOk, ite_self, implies_true, eq_self, hok])

theorem State.deviceSnoop_ok (s : State) (d input p : Nat) (mid : Option Nat) (m : Msg) (hok : s.regsOk = true) : (State.deviceSnoop s d input p mid m).regsOk = true := by
  unfold State.deviceSnoop
  extract_lets
  repeat' (first | with_reducible assumption | with_reducible (apply State.freeCopy_ok) | with_reducible (apply State.inc_ok) | with_reducible (apply State.ev_ok) | with_reducible (apply State.route_ok) | with_reducible (apply State.ite_ok) | split | (intro _ _ hok) | (intro _ hok) | (intro _ _ _ hok) | simp only [State.regsOk_mk, State.regsOk_eta])

theorem State.pbrRoute_ok (s : State) (d input p : Nat) (mid : Option Nat) (t : Nat) (m : Msg) (hok : s.regsOk = true) : (State.pbrRoute s d input p mid t m).regsOk = true := by
  unfold State.pbrRoute
  repeat' (first | with_reducible assumption | with_reducible (apply State.trackedTo_ok) | with_reducible (apply State.putTrk_ok) | with_reducible (apply State.freeCopy_ok) | with_reducible (apply State.decodeMiss_ok) | with_reducible (apply State.ite_ok) | split | (intro _ _ hok) | (intro _ hok) | (intro _ _ _ hok) | simp only [State.regsOk_mk, State.regsOk_eta])

theorem State.fromCasub_ok (s : State) (d input : Nat) (mid : Option Nat) (m : Msg) (hok : s.regsOk = true) : (State.fromCasub s d input mid m).regsOk = true := by
  unfold State.fromCasub
  repeat' split
  all_goals simp only [State.push_ok, State.lostPath_ok, State.updTrk_ok, State.route_ok, State.response_ok, State.freeCopy_ok, State.toAgent_ok, State.home_ok, State.regsOk_mk, State.regsOk_eta, apply_ite State.regsOk, ite_self, implies_true, eq_self, hok]

theorem State.hostById_ok (s : State) (d input p : Nat) (mid : Option Nat) (t : Nat) (m : Msg) (hok : s.regsOk = true) : (State.hostById s d input p mid t m).regsOk = true := by
  unfold State.hostById
  extract_lets
  repeat' (first | with_reducible assumption | with_reducible (apply State.freeCopy_ok) | with_reducible (apply State.inc_ok) | with_reducible (apply State.putTrk_ok) | with_reducible (apply State.complete_ok) | with_reducible (apply State.trackedTo_ok) | with_reducible (apply State.completeOther_ok) | with_reducible (apply State.dropRecord_ok) | with_reducible (apply State.ite_ok) | split | (intro _ _ hok) | (intro _ hok) | (intro _ _ _ hok) | simp only [State.regsOk_mk, State.regsOk_eta])

theorem State.toSpace_ok (s : State) (d input p : Nat) (mid : Option Nat) (t : Nat) (m : Msg) (o : Nat) (hok : s.regsOk = true) : (State.toSpace s d input p mid t m o).regsOk = true := by
  simp only [State.toSpace, State.putTrk_ok, State.route_ok, State.regsOk_mk, State.regsOk_eta, apply_ite State.regsOk, ite_self, implies_true, eq_self, hok]

theorem State.hostMem_ok (s : State) (d input p : Nat) (mid : Option Nat) (t : Nat) (m : Msg) (hok : s.regsOk = true) : (State.hostMem s d input p mid t m).regsOk = true := by
  unfold State.hostMem
  repeat' split
  all_goals simp only [State.toSpace_ok, State.push_ok, State.hostRequest_ok, State.regsOk_mk, State.regsOk_eta, apply_ite State.regsOk, ite_self, implies_true, eq_self, hok]

theorem State.hostIo_ok (s : State) (d input p : Nat) (mid : Option Nat) (t : Nat) (m : Msg) (hok : s.regsOk = true) : (State.hostIo s d input p mid t m).regsOk = true := by
  unfold State.hostIo
  repeat' split
  all_goals simp only [State.hostMem_ok, State.hostById_ok, State.broadcast_ok, State.freeCopy_ok, State.dropRecord_ok, State.regsOk_mk, State.regsOk_eta, apply_ite State.regsOk, ite_self, implies_true, eq_self, hok]

theorem State.fromHost_ok (s : State) (d input p : Nat) (mid : Option Nat) (t : Nat) (m : Msg) (hok : s.regsOk = true) : (State.fromHost s d input p mid t m).regsOk = true := by
  unfold State.fromHost
  repeat' (first | with_reducible assumption | with_reducible (apply State.hostRequest_ok) | with_reducible (apply State.hostIo_ok) | with_reducible (apply State.hostTc5_ok) | with_reducible (apply State.response_ok) | with_reducible (apply State.trackedTo_ok) | with_reducible (apply State.ite_ok) | split | (intro _ _ hok) | (intro _ hok) | (intro _ _ _ hok) | simp only [State.regsOk_mk, State.regsOk_eta])

theorem State.copySeen_ok (s : State) (p : Nat → Bool) (d t c : Nat) (hok : s.regsOk = true) : (State.copySeen s p d t c).regsOk = true := by
  unfold State.copySeen
  repeat' (first | with_reducible assumption | with_reducible (apply State.putTrk_ok) | with_reducible (apply State.noteSlots_ok) | with_reducible (apply State.noteLoft_ok) | with_reducible (apply State.ite_ok) | split | (intro _ _ hok) | (intro _ hok) | (intro _ _ _ hok) | simp only [State.regsOk_mk, State.regsOk_eta])

theorem State.passed_ok (s : State) (d : Nat) (m : Msg) (hok : s.regsOk = true) : (State.passed s d m).regsOk = true := by
  unfold State.passed
  repeat' split
  all_goals simp only [State.copySeen_ok, State.noteAt_ok, State.regsOk_mk, State.regsOk_eta, apply_ite State.regsOk, ite_self, implies_true, eq_self, hok]

theorem State.fromDevice_ok (s : State) (d input p : Nat) (mid : Option Nat) (t : Nat) (m : Msg) (hok : s.regsOk = true) : (State.fromDevice s d input p mid t m).regsOk = true := by
  unfold State.fromDevice
  repeat' (first | with_reducible assumption | with_reducible (apply State.passed_ok) | with_reducible (apply State.response_ok) | with_reducible (apply State.deviceSnoop_ok) | with_reducible (apply State.freeCopy_ok) | with_reducible (apply State.dropRecord_ok) | with_reducible (apply State.putTrk_ok) | with_reducible (apply State.completeOther_ok) | with_reducible (apply State.trackedTo_ok) | with_reducible (apply State.ite_ok) | split | (intro _ _ hok) | (intro _ hok) | (intro _ _ _ hok) | simp only [State.regsOk_mk, State.regsOk_eta])

theorem State.fromPort_ok (s : State) (d input : Nat) (mid : Option Nat) (t : Nat) (m : Msg) (hok : s.regsOk = true) : (State.fromPort s d input mid t m).regsOk = true := by
  unfold State.fromPort
  repeat' split
  all_goals simp only [State.pbrRoute_ok, State.replicate_ok, State.fromHost_ok, State.fromDevice_ok, State.regsOk_mk, State.regsOk_eta, apply_ite State.regsOk, ite_self, implies_true, eq_self, hok]

theorem State.arriveIn_ok (s : State) (d input : Nat) (m : Msg) (part : LPart) (fl sh t : Nat) (hok : s.regsOk = true) : (State.arriveIn s d input m part fl sh t).regsOk = true := by
  unfold State.arriveIn
  extract_lets
  repeat' (first | with_reducible assumption | with_reducible (apply State.putIn_ok) | with_reducible (apply State.pm_ok) | with_reducible (apply State.fromCasub_ok) | with_reducible (apply State.owe_ok) | with_reducible (apply State.fromPort_ok) | with_reducible (apply State.response_ok) | with_reducible (apply State.putTrk_ok) | with_reducible (apply State.push_ok) | with_reducible (apply State.home_ok) | with_reducible (apply State.trackedTo_ok) | with_reducible (exact State.putIn_ok' (by assumption) (by assumption)) | (refine State.putIn_ok' (by assumption) ?_) | with_reducible (apply State.ite_ok) | split | (intro _ _ hok) | (intro _ hok) | (intro _ _ _ hok) | simp only [State.regsOk_mk, State.regsOk_eta])

theorem State.arrive_ok (s : State) (d input : Nat) (m : Msg) (own : Option Nat) (hok : s.regsOk = true) :
    (State.arrive s d input m own).regsOk = true := by
  unfold State.arrive
  dsimp only
  split
  · repeat' (first | with_reducible assumption | with_reducible (apply State.inc_ok) | with_reducible (apply State.ev_ok) | with_reducible (apply State.giveCredit_ok) | with_reducible (apply State.push_ok) | with_reducible (apply State.ite_ok) | split)
  · split
    · exact State.withhold_ok _ _ _ _ _ hok
    · exact hok
    · rename_i h _
      refine State.arriveIn_ok _ _ _ _ _ _ _ _ ?_
      split at h
      · injection h with h
        injection h with _ h
        rw [← h]
        exact hok
      · exact State.useCredit_ok s _ _ _ _ h hok

theorem State.biConflict_ok (s : State) (m : Msg) (hok : s.regsOk = true) : (State.biConflict s m).regsOk = true := by
  unfold State.biConflict
  repeat' (first | assumption | split | simp only [State.updTrk_ok, State.route_ok, State.regsOk_mk, State.regsOk_eta, apply_ite State.regsOk, ite_self, implies_true, eq_self, hok])

theorem State.releaseBirsp_ok (s : State) (d : Nat) (hok : s.regsOk = true) : (State.releaseBirsp s d).regsOk = true := by
  unfold State.releaseBirsp
  repeat' (first | with_reducible assumption | with_reducible (apply State.forEach_ok) | with_reducible (apply State.toAgent_ok) | with_reducible (apply State.ite_ok) | split | (intro _ _ hok) | (intro _ hok) | (intro _ _ _ hok) | simp only [State.regsOk_mk, State.regsOk_eta])

end Sys2Proof.Machine
end

