-- ==== Sys2Proof/Laws/CasubOps.lean ====
section
/-! SUPPORT. What the operations of Machine/CasubOps.lean leave alone: the part, the waiting commands, the blown life-cycle fuses, and the
canonical form of the register file. -/

namespace Sys2Proof.Machine
set_option linter.unusedSimpArgs false
set_option linter.unusedVariables false
set_option linter.unreachableTactic false
set_option linter.unusedTactic false
set_option linter.style.nameCheck false

theorem State.showSpares_core (s : State) (d t : Nat) : (State.showSpares s d t).core = s.core := by
  simp only [State.showSpares, ↓State.wr_core, State.core_mk, State.core_eta, ↓apply_ite State.core, ite_self, implies_true, eq_self]

theorem State.useMap_core (s : State) (d t : Nat) (m : LaneMap) (calib : Bool) : (State.useMap s d t m calib).core = s.core := by
  unfold State.useMap
  repeat' (first | with_reducible rfl | simp only [↓State.forEach_core, ↓State.wr_core, ↓State.off_core, ↓State.updSite_core, ↓State.showSpares_core, ↓State.add_core, ↓State.evC_core, ↓State.inc_core, State.core_mk, State.core_eta, ↓apply_ite State.core, ite_self, implies_true, eq_self] | split | (refine (State.forEach_core _ _ _ (fun s a => ?_)).trans ?_))

theorem State.askMap_core (s : State) (d t : Nat) (m : LaneMap) : (State.askMap s d t m).core = s.core := by
  simp only [State.askMap, ↓State.on_core, ↓State.updSite_core, State.core_mk, State.core_eta, ↓apply_ite State.core, ite_self, implies_true, eq_self]

theorem State.showReplay_core (s : State) (d t : Nat) : (State.showReplay s d t).core = s.core := by
  simp only [State.showReplay, ↓State.wr_core, State.core_mk, State.core_eta, ↓apply_ite State.core, ite_self, implies_true, eq_self]

theorem State.toSite_core (s : State) (d t st : Nat) : (State.toSite s d t st).core = s.core := by
  simp only [State.toSite, ↓State.wr_core, ↓State.updSite_core, State.core_mk, State.core_eta, ↓apply_ite State.core, ite_self, implies_true, eq_self]

theorem State.siteCalibrate_core (s : State) (d t : Nat) : (State.siteCalibrate s d t).core = s.core := by
  simp only [State.siteCalibrate, ↓State.forEach_core, ↓State.updSite_core, ↓State.off_core, ↓State.toSite_core, State.core_mk, State.core_eta, ↓apply_ite State.core, ite_self, implies_true, eq_self]

theorem State.siteFresh_core (s : State) (d t : Nat) : (State.siteFresh s d t).core = s.core := by
  simp only [State.siteFresh, ↓State.forEach_core, ↓State.updSite_core, ↓State.off_core, ↓State.wr_core, ↓State.showReplay_core, State.core_mk, State.core_eta, ↓apply_ite State.core, ite_self, implies_true, eq_self]

theorem State.siteStart_core (s : State) (d t : Nat) : (State.siteStart s d t).core = s.core := by
  simp only [State.siteStart, ↓State.siteFresh_core, ↓State.siteCalibrate_core, State.core_mk, State.core_eta, ↓apply_ite State.core, ite_self, implies_true, eq_self]

theorem State.siteRetrain_core (s : State) (d t cls : Nat) : (State.siteRetrain s d t cls).core = s.core := by
  unfold State.siteRetrain
  repeat' (first | with_reducible rfl | split | simp only [↓State.forEach_core, ↓State.inc_core, ↓State.evC_core, ↓State.off_core, ↓State.updSite_core, ↓State.siteCalibrate_core, ↓State.useMap_core, ↓State.toSite_core, State.core_mk, State.core_eta, ↓apply_ite State.core, ite_self, implies_true, eq_self] | (refine (State.forEach_core _ _ _ (fun s a => ?_)).trans ?_))

theorem State.reeval_core (s : State) (d t : Nat) (by_ : ReevalBy) : (State.reeval s d t by_).core = s.core := by
  unfold State.reeval
  repeat' (first | with_reducible rfl | split | simp only [↓State.updSite_core, ↓State.askMap_core, ↓State.siteRetrain_core, State.core_mk, State.core_eta, ↓apply_ite State.core, ite_self, implies_true, eq_self])

theorem State.mapTaken_core (s : State) (d t : Nat) (m : LaneMap) : (State.mapTaken s d t m).core = s.core := by
  unfold State.mapTaken
  repeat' (first | with_reducible rfl | simp only [↓State.useMap_core, ↓State.updSite_core, ↓State.reeval_core, State.core_mk, State.core_eta, ↓apply_ite State.core, ite_self, implies_true, eq_self] | split)

theorem State.newTxMap_core (s : State) (d t : Nat) (m : LaneMap) : (State.newTxMap s d t m).core = s.core := by
  unfold State.newTxMap
  repeat' split
  all_goals simp only [↓State.updSite_core, ↓State.emit_core, State.core_mk, State.core_eta, ↓apply_ite State.core, ite_self, implies_true, eq_self]

theorem State.setRoute_core (s : State) (d t route via : Nat) : (State.setRoute s d t route via).core = s.core := by
  simp only [State.setRoute, ↓State.wr_core, State.core_mk, State.core_eta, ↓apply_ite State.core, ite_self, implies_true, eq_self]

theorem State.showRoute_core (s : State) (d t : Nat) : (State.showRoute s d t).core = s.core := by
  unfold State.showRoute
  repeat' (first | with_reducible rfl | simp only [↓State.setRoute_core, State.core_mk, State.core_eta, ↓apply_ite State.core, ite_self, implies_true, eq_self] | split)

theorem State.showRoutes_core (s : State) : (State.showRoutes s).core = s.core := by
  simp only [State.showRoutes, ↓State.forEach_core, ↓State.showRoute_core, State.core_mk, State.core_eta, ↓apply_ite State.core, ite_self, implies_true, eq_self]

theorem State.startHandOver_core (s : State) (d t : Nat) : (State.startHandOver s d t).core = s.core := by
  unfold State.startHandOver
  repeat' (first | with_reducible rfl | split | simp only [↓State.setRoute_core, ↓State.inc_core, ↓State.evC_core, ↓State.updSite_core, ↓State.showReplay_core, ↓State.emit_core, State.core_mk, State.core_eta, ↓apply_ite State.core, ite_self, implies_true, eq_self])

theorem State.repin_core (s : State) (k : Nat) (x : Stream) : (State.repin s k x).core = s.core := by
  unfold State.repin
  repeat' (first | with_reducible rfl | split | simp only [↓State.siteFor_core, ↓State.home_core, State.core_mk, State.core_eta, ↓apply_ite State.core, ite_self, implies_true, eq_self] | (refine (State.siteFor_core' (by assumption)).trans ?_))

theorem State.requeue_core (s : State) (d t : Nat) : (State.requeue s d t).core = s.core := by
  unfold State.requeue
  repeat' (first | with_reducible rfl | split | simp only [↓State.updXb_core, ↓State.forEach_core, ↓State.siteFor_core, ↓State.push_core, ↓State.lostPath_core, State.core_mk, State.core_eta, ↓apply_ite State.core, ite_self, implies_true, eq_self] | (refine (State.forEach_core _ _ _ (fun s a => ?_)).trans ?_) | (refine (State.siteFor_core' (by assumption)).trans ?_))

theorem State.resendMsg_core (s : State) (d : Nat) (m : Msg) : (State.resendMsg s d m).core = s.core := by
  unfold State.resendMsg
  repeat' (first | with_reducible rfl | split | simp only [↓State.siteFor_core, ↓State.updSite_core, ↓State.push_core, ↓State.lostPath_core, State.core_mk, State.core_eta, ↓apply_ite State.core, ite_self, implies_true, eq_self] | (refine (State.siteFor_core' (by assumption)).trans ?_))

theorem State.finishHandOver_core (s : State) (d t rxExp : Nat) : (State.finishHandOver s d t rxExp).core = s.core := by
  simp only [State.finishHandOver, ↓State.updSite_core, ↓State.showReplay_core, ↓State.wr_core, ↓State.forEach_core, ↓State.repin_core, ↓State.resendMsg_core, ↓State.requeue_core, ↓State.showRoute_core, State.core_mk, State.core_eta, ↓apply_ite State.core, ite_self, implies_true, eq_self]

theorem State.pathsLost_core (s : State) (a b : Nat) : (State.pathsLost s a b).core = s.core := by
  simp only [State.pathsLost, ↓State.showRoutes_core, ↓State.forEach_core, ↓State.setRoute_core, ↓State.log_core, ↓State.push_core, ↓State.reissue_core, State.core_mk, State.core_eta, ↓apply_ite State.core, ite_self, implies_true, eq_self]

theorem State.disposeSite_core (s : State) (d t : Nat) : (State.disposeSite s d t).core = s.core := by
  simp only [State.disposeSite, ↓State.updSite_core, ↓State.showReplay_core, ↓State.updXb_core, ↓State.log_core, ↓State.forEach_core, ↓State.push_core, ↓State.lostPath_core, State.core_mk, State.core_eta, ↓apply_ite State.core, ite_self, implies_true, eq_self]

theorem State.holdExpired_core (s : State) (d t : Nat) : (State.holdExpired s d t).core = s.core := by
  simp only [State.holdExpired, ↓State.startHandOver_core, ↓State.showRoutes_core, ↓State.disposeSite_core, ↓State.pathsLost_core, ↓State.forEach_core, State.core_mk, State.core_eta, ↓apply_ite State.core, ite_self, implies_true, eq_self]

theorem State.lanesOut_core (s : State) (d t : Nat) : (State.lanesOut s d t).core = s.core := by
  simp only [State.lanesOut, ↓State.wr_core, ↓State.off_core, ↓State.updSite_core, ↓State.forEach_core, State.core_mk, State.core_eta, ↓apply_ite State.core, ite_self, implies_true, eq_self]

theorem State.spareSite_core (s : State) (d t : Nat) : (State.spareSite s d t).core = s.core := by
  simp only [State.spareSite, ↓State.forEach_core, ↓State.on_core, ↓State.wr_core, State.core_mk, State.core_eta, ↓apply_ite State.core, ite_self, implies_true, eq_self]

theorem State.siteDown_core (s : State) (d t st cls : Nat) : (State.siteDown s d t st cls).core = s.core := by
  simp only [State.siteDown, ↓State.forEach_core, ↓State.updSite_core, ↓State.lanesOut_core, ↓State.toSite_core, ↓State.startHandOver_core, ↓State.showRoutes_core, ↓State.evC_core, ↓State.spareSite_core, State.core_mk, State.core_eta, ↓apply_ite State.core, ite_self, implies_true, eq_self]

theorem State.siteFault_core (s : State) (d t : Nat) : (State.siteFault s d t).core = s.core := by
  simp only [State.siteFault, ↓State.reeval_core, State.core_mk, State.core_eta, ↓apply_ite State.core, ite_self, implies_true, eq_self]

theorem State.calibFailed_core (s : State) (d t : Nat) : (State.calibFailed s d t).core = s.core := by
  simp only [State.calibFailed, ↓State.forEach_core, ↓State.evC_core, ↓State.siteDown_core, State.core_mk, State.core_eta, ↓apply_ite State.core, ite_self, implies_true, eq_self]

theorem State.siteUp_core (s : State) (d t : Nat) : (State.siteUp s d t).core = s.core := by
  simp only [State.siteUp, ↓State.log_core, ↓State.updSite_core, ↓State.toSite_core, ↓State.showRoutes_core, State.core_mk, State.core_eta, ↓apply_ite State.core, ite_self, implies_true, eq_self]

theorem State.returnStreams_core (s : State) (d t : Nat) : (State.returnStreams s d t).core = s.core := by
  unfold State.returnStreams
  repeat' (first | with_reducible rfl | simp only [↓State.updSite_core, ↓State.forEach_core, State.core_mk, State.core_eta, ↓apply_ite State.core, ite_self, implies_true, eq_self] | split | (refine (State.forEach_core _ _ _ (fun s a => ?_)).trans ?_))

theorem State.showAvail_core (s : State) (d t : Nat) : (State.showAvail s d t).core = s.core := by
  simp only [State.showAvail, ↓State.forEach_core, ↓State.wr_core, State.core_mk, State.core_eta, ↓apply_ite State.core, ite_self, implies_true, eq_self]

theorem State.enterInit_core (s : State) (d t : Nat) : (State.enterInit s d t).core = s.core := by
  simp only [State.enterInit, ↓State.updSite_core, ↓State.toSite_core, ↓State.emit_core, State.core_mk, State.core_eta, ↓apply_ite State.core, ite_self, implies_true, eq_self]

theorem State.initSite_core (s : State) (d t : Nat) (adv : List Nat) (rxExp : Nat) : (State.initSite s d t adv rxExp).core = s.core := by
  simp only [State.initSite, ↓State.commitReg_core, ↓State.updSite_core, ↓State.wr_core, ↓State.showReplay_core, ↓State.showAvail_core, ↓State.siteUp_core, ↓State.forEach_core, ↓State.xoffUpdate_core, State.core_mk, State.core_eta, ↓apply_ite State.core, ite_self, implies_true, eq_self]

theorem State.putFlit_core (s : State) (d t : Nat) (f : Flit) : (State.putFlit s d t f).core = s.core := by
  simp only [State.putFlit, ↓State.updSite_core, ↓State.pm_core, ↓State.emit_core, State.core_mk, State.core_eta, ↓apply_ite State.core, ite_self, implies_true, eq_self]

theorem State.newFlit_core (s : State) (d t : Nat) (f : Flit) : (State.newFlit s d t f).core = s.core := by
  simp only [State.newFlit, ↓State.wr_core, ↓State.updSite_core, ↓State.showReplay_core, ↓State.pm_core, ↓State.putFlit_core, State.core_mk, State.core_eta, ↓apply_ite State.core, ite_self, implies_true, eq_self]

theorem State.sendFlit_core (s : State) (d t : Nat) : (State.sendFlit s d t).core = s.core := by
  unfold State.sendFlit
  repeat' (first | with_reducible rfl | split | simp only [↓State.updSite_core, ↓State.putFlit_core, ↓State.newFlit_core, ↓State.showAvail_core, State.core_mk, State.core_eta, ↓apply_ite State.core, ite_self, implies_true, eq_self])

theorem State.replayFrom_core (s : State) (d t ack : Nat) : (State.replayFrom s d t ack).core = s.core := by
  simp only [State.replayFrom, ↓State.updSite_core, State.core_mk, State.core_eta, ↓apply_ite State.core, ite_self, implies_true, eq_self]

theorem State.takeAck_core (s : State) (d t ack : Nat) : (State.takeAck s d t ack).core = s.core := by
  simp only [State.takeAck, ↓State.updSite_core, ↓State.wr_core, ↓State.showReplay_core, State.core_mk, State.core_eta, ↓apply_ite State.core, ite_self, implies_true, eq_self]

theorem State.takeCredit_core (s : State) (d t : Nat) (f : Flit) : (State.takeCredit s d t f).core = s.core := by
  simp only [State.takeCredit, ↓State.forEach_core, ↓State.wrB_core, ↓State.updSite_core, ↓State.showAvail_core, State.core_mk, State.core_eta, ↓apply_ite State.core, ite_self, implies_true, eq_self]

theorem State.overflow_core (s : State) (d t : Nat) : (State.overflow s d t).core = s.core := by
  simp only [State.overflow, ↓State.evC_core, ↓State.siteRetrain_core, State.core_mk, State.core_eta, ↓apply_ite State.core, ite_self, implies_true, eq_self]

theorem State.flitFailed_core (s : State) (d t : Nat) : (State.flitFailed s d t).core = s.core := by
  simp only [State.flitFailed, ↓State.inc_core, ↓State.pm_core, ↓State.updSite_core, ↓State.evC_core, ↓State.reeval_core, ↓State.log_core, ↓State.siteRetrain_core, State.core_mk, State.core_eta, ↓apply_ite State.core, ite_self, implies_true, eq_self]

theorem State.auditCmd_core (s : State) (d t c : Nat) : (State.auditCmd s d t c).core = s.core := by
  simp only [State.auditCmd, ↓State.updSite_core, State.core_mk, State.core_eta, ↓apply_ite State.core, ite_self, implies_true, eq_self]

theorem State.auditRep_core (s : State) (d t c freeH retH freeD retD : Nat) : (State.auditRep s d t c freeH retH freeD retD).core = s.core := by
  unfold State.auditRep
  repeat' split
  all_goals simp only [↓State.updSite_core, ↓State.showAvail_core, ↓State.evC_core, ↓State.siteRetrain_core, State.core_mk, State.core_eta, ↓apply_ite State.core, ite_self, implies_true, eq_self]

theorem State.flitCmd_core (s : State) (d t : Nat) (c : FlitCmd) : (State.flitCmd s d t c).core = s.core := by
  unfold State.flitCmd
  repeat' split
  all_goals simp only [↓State.newTxMap_core, ↓State.auditCmd_core, ↓State.auditRep_core, State.core_mk, State.core_eta, ↓apply_ite State.core, ite_self, implies_true, eq_self]

theorem State.acceptFlit_core (s : State) (d t : Nat) (f : Flit) : (State.acceptFlit s d t f).core = s.core := by
  unfold State.acceptFlit
  repeat' split
  all_goals simp only [↓State.wr_core, ↓State.pm_core, ↓State.log_core, ↓State.updSite_core, ↓State.forEach_core, ↓State.arrive_core, ↓State.xoffUpdate_core, ↓State.flitCmd_core, State.core_mk, State.core_eta, ↓apply_ite State.core, ite_self, implies_true, eq_self]

theorem State.takeFlit_core (s : State) (d t : Nat) (f : Flit) (e0 e1 : Nat) : (State.takeFlit s d t f e0 e1).core = s.core := by
  unfold State.takeFlit
  repeat' split
  all_goals simp only [↓State.inc_core, ↓State.flitFailed_core, ↓State.updSite_core, ↓State.takeAck_core, ↓State.takeCredit_core, ↓State.replayFrom_core, ↓State.acceptFlit_core, ↓State.overflow_core, State.core_mk, State.core_eta, ↓apply_ite State.core, ite_self, implies_true, eq_self]

theorem State.showSpares_ok (s : State) (d t : Nat) (hok : s.regsOk = true) : (State.showSpares s d t).regsOk = true := by
  simp only [State.showSpares, State.wr_ok, State.regsOk_mk, State.regsOk_eta, apply_ite State.regsOk, ite_self, implies_true, eq_self, hok]

theorem State.useMap_ok (s : State) (d t : Nat) (m : LaneMap) (calib : Bool) (hok : s.regsOk = true) : (State.useMap s d t m calib).regsOk = true := by
  unfold State.useMap
  repeat' (first | with_reducible assumption | with_reducible (apply State.forEach_ok) | with_reducible (apply State.wr_ok) | with_reducible (apply State.off_ok) | with_reducible (apply State.updSite_ok) | with_reducible (apply State.showSpares_ok) | with_reducible (apply State.add_ok) | with_reducible (apply State.evC_ok) | with_reducible (apply State.inc_ok) | with_reducible (apply State.ite_ok) | split | (intro _ _ hok) | (intro _ hok) | (intro _ _ _ hok) | simp only [State.regsOk_mk, State.regsOk_eta])

theorem State.askMap_ok (s : State) (d t : Nat) (m : LaneMap) (hok : s.regsOk = true) : (State.askMap s d t m).regsOk = true := by
  simp only [State.askMap, State.on_ok, State.updSite_ok, State.regsOk_mk, State.regsOk_eta, apply_ite State.regsOk, ite_self, implies_true, eq_self, hok]

theorem State.showReplay_ok (s : State) (d t : Nat) (hok : s.regsOk = true) : (State.showReplay s d t).regsOk = true := by
  simp only [State.showReplay, State.wr_ok, State.regsOk_mk, State.regsOk_eta, apply_ite State.regsOk, ite_self, implies_true, eq_self, hok]

theorem State.toSite_ok (s : State) (d t st : Nat) (hok : s.regsOk = true) : (State.toSite s d t st).regsOk = true := by
  simp only [State.toSite, State.wr_ok, State.updSite_ok, State.regsOk_mk, State.regsOk_eta, apply_ite State.regsOk, ite_self, implies_true, eq_self, hok]

theorem State.siteCalibrate_ok (s : State) (d t : Nat) (hok : s.regsOk = true) : (State.siteCalibrate s d t).regsOk = true := by
  unfold State.siteCalibrate
  repeat' (first | with_reducible assumption | with_reducible (apply State.forEach_ok) | with_reducible (apply State.updSite_ok) | with_reducible (apply State.off_ok) | with_reducible (apply State.toSite_ok) | with_reducible (apply State.ite_ok) | split | (intro _ _ hok) | (intro _ hok) | (intro _ _ _ hok) | simp only [State.regsOk_mk, State.regsOk_eta])

theorem State.siteFresh_ok (s : State) (d t : Nat) (hok : s.regsOk = true) : (State.siteFresh s d t).regsOk = true := by
  unfold State.siteFresh
  repeat' (first | with_reducible assumption | with_reducible (apply State.forEach_ok) | with_reducible (apply State.updSite_ok) | with_reducible (apply State.off_ok) | with_reducible (apply State.wr_ok) | with_reducible (apply State.showReplay_ok) | with_reducible (apply State.ite_ok) | split | (intro _ _ hok) | (intro _ hok) | (intro _ _ _ hok) | simp only [State.regsOk_mk, State.regsOk_eta])

theorem State.siteStart_ok (s : State) (d t : Nat) (hok : s.regsOk = true) : (State.siteStart s d t).regsOk = true := by
  simp only [State.siteStart, State.siteFresh_ok, State.siteCalibrate_ok, State.regsOk_mk, State.regsOk_eta, apply_ite State.regsOk, ite_self, implies_true, eq_self, hok]

theorem State.siteRetrain_ok (s : State) (d t cls : Nat) (hok : s.regsOk = true) : (State.siteRetrain s d t cls).regsOk = true := by
  unfold State.siteRetrain
  extract_lets
  repeat' (first | with_reducible assumption | with_reducible (apply State.forEach_ok) | with_reducible (apply State.inc_ok) | with_reducible (apply State.evC_ok) | with_reducible (apply State.off_ok) | with_reducible (apply State.updSite_ok) | with_reducible (apply State.siteCalibrate_ok) | with_reducible (apply State.useMap_ok) | with_reducible (apply State.toSite_ok) | with_reducible (apply State.ite_ok) | split | (intro _ _ hok) | (intro _ hok) | (intro _ _ _ hok) | simp only [State.regsOk_mk, State.regsOk_eta])

theorem State.reeval_ok (s : State) (d t : Nat) (by_ : ReevalBy) (hok : s.regsOk = true) : (State.reeval s d t by_).regsOk = true := by
  unfold State.reeval
  repeat' (first | assumption | split | simp only [State.updSite_ok, State.askMap_ok, State.siteRetrain_ok, State.regsOk_mk, State.regsOk_eta, apply_ite State.regsOk, ite_self, implies_true, eq_self, hok])

theorem State.mapTaken_ok (s : State) (d t : Nat) (m : LaneMap) (hok : s.regsOk = true) : (State.mapTaken s d t m).regsOk = true := by
  unfold State.mapTaken
  repeat' (first | with_reducible assumption | with_reducible (apply State.useMap_ok) | with_reducible (apply State.updSite_ok) | with_reducible (apply State.reeval_ok) | with_reducible (apply State.ite_ok) | split | (intro _ _ hok) | (intro _ hok) | (intro _ _ _ hok) | simp only [State.regsOk_mk, State.regsOk_eta])

theorem State.newTxMap_ok (s : State) (d t : Nat) (m : LaneMap) (hok : s.regsOk = true) : (State.newTxMap s d t m).regsOk = true := by
  unfold State.newTxMap
  repeat' (first | with_reducible assumption | with_reducible (apply State.updSite_ok) | with_reducible (apply State.emit_ok) | with_reducible (apply State.ite_ok) | split | (intro _ _ hok) | (intro _ hok) | (intro _ _ _ hok) | simp only [State.regsOk_mk, State.regsOk_eta])

theorem State.setRoute_ok (s : State) (d t route via : Nat) (hok : s.regsOk = true) : (State.setRoute s d t route via).regsOk = true := by
  simp only [State.setRoute, State.wr_ok, State.regsOk_mk, State.regsOk_eta, apply_ite State.regsOk, ite_self, implies_true, eq_self, hok]

theorem State.showRoute_ok (s : State) (d t : Nat) (hok : s.regsOk = true) : (State.showRoute s d t).regsOk = true := by
  unfold State.showRoute
  repeat' (first | assumption | simp only [State.setRoute_ok, State.regsOk_mk, State.regsOk_eta, apply_ite State.regsOk, ite_self, implies_true, eq_self, hok] | split)

theorem State.showRoutes_ok (s : State) (hok : s.regsOk = true) : (State.showRoutes s).regsOk = true := by
  unfold State.showRoutes
  repeat' (first | with_reducible assumption | with_reducible (apply State.forEach_ok) | with_reducible (apply State.showRoute_ok) | with_reducible (apply State.ite_ok) | split | (intro _ _ hok) | (intro _ hok) | (intro _ _ _ hok) | simp only [State.regsOk_mk, State.regsOk_eta])

theorem State.startHandOver_ok (s : State) (d t : Nat) (hok : s.regsOk = true) : (State.startHandOver s d t).regsOk = true := by
  unfold State.startHandOver
  extract_lets
  repeat' (first | with_reducible assumption | with_reducible (apply State.setRoute_ok) | with_reducible (apply State.inc_ok) | with_reducible (apply State.evC_ok) | with_reducible (apply State.updSite_ok) | with_reducible (apply State.showReplay_ok) | with_reducible (apply State.emit_ok) | with_reducible (apply State.ite_ok) | split | (intro _ _ hok) | (intro _ hok) | (intro _ _ _ hok) | simp only [State.regsOk_mk, State.regsOk_eta])

theorem State.repin_ok (s : State) (k : Nat) (x : Stream) (hok : s.regsOk = true) : (State.repin s k x).regsOk = true := by
  unfold State.repin
  repeat' (first | assumption | split | simp only [State.siteFor_ok, State.home_ok, State.regsOk_mk, State.regsOk_eta, apply_ite State.regsOk, ite_self, implies_true, eq_self, hok] | (refine State.siteFor_ok' (by assumption) ?_))

theorem State.requeue_ok (s : State) (d t : Nat) (hok : s.regsOk = true) : (State.requeue s d t).regsOk = true := by
  unfold State.requeue
  extract_lets
  repeat' (first | with_reducible assumption | with_reducible (apply State.updXb_ok) | with_reducible (apply State.forEach_ok) | with_reducible (apply State.siteFor_ok) | with_reducible (apply State.push_ok) | with_reducible (apply State.lostPath_ok) | with_reducible (exact State.siteFor_ok' (by assumption) (by assumption)) | (refine State.siteFor_ok' (by assumption) ?_) | with_reducible (apply State.ite_ok) | split | (intro _ _ hok) | (intro _ hok) | (intro _ _ _ hok) | simp only [State.regsOk_mk, State.regsOk_eta])

theorem State.resendMsg_ok (s : State) (d : Nat) (m : Msg) (hok : s.regsOk = true) : (State.resendMsg s d m).regsOk = true := by
  unfold State.resendMsg
  repeat' (first | with_reducible assumption | with_reducible (apply State.siteFor_ok) | with_reducible (apply State.updSite_ok) | with_reducible (apply State.push_ok) | with_reducible (apply State.lostPath_ok) | with_reducible (exact State.siteFor_ok' (by assumption) (by assumption)) | (refine State.siteFor_ok' (by assumption) ?_) | with_reducible (apply State.ite_ok) | split | (intro _ _ hok) | (intro _ hok) | (intro _ _ _ hok) | simp only [State.regsOk_mk, State.regsOk_eta])

theorem State.finishHandOver_ok (s : State) (d t rxExp : Nat) (hok : s.regsOk = true) : (State.finishHandOver s d t rxExp).regsOk = true := by
  unfold State.finishHandOver
  extract_lets
  repeat' (first | with_reducible assumption | with_reducible (apply State.updSite_ok) | with_reducible (apply State.showReplay_ok) | with_reducible (apply State.wr_ok) | with_reducible (apply State.forEach_ok) | with_reducible (apply State.repin_ok) | with_reducible (apply State.resendMsg_ok) | with_reducible (apply State.requeue_ok) | with_reducible (apply State.showRoute_ok) | with_reducible (apply State.ite_ok) | split | (intro _ _ hok) | (intro _ hok) | (intro _ _ _ hok) | simp only [State.regsOk_mk, State.regsOk_eta])

theorem State.pathsLost_ok (s : State) (a b : Nat) (hok : s.regsOk = true) : (State.pathsLost s a b).regsOk = true := by
  unfold State.pathsLost
  extract_lets
  repeat' (first | with_reducible assumption | with_reducible (apply State.showRoutes_ok) | with_reducible (apply State.forEach_ok) | with_reducible (apply State.setRoute_ok) | with_reducible (apply State.log_ok) | with_reducible (apply State.push_ok) | with_reducible (apply State.reissue_ok) | with_reducible (apply State.ite_ok) | split | (intro _ _ hok) | (intro _ hok) | (intro _ _ _ hok) | simp only [State.regsOk_mk, State.regsOk_eta])

theorem State.disposeSite_ok (s : State) (d t : Nat) (hok : s.regsOk = true) : (State.disposeSite s d t).regsOk = true := by
  unfold State.disposeSite
  repeat' (first | with_reducible assumption | with_reducible (apply State.updSite_ok) | with_reducible (apply State.showReplay_ok) | with_reducible (apply State.updXb_ok) | with_reducible (apply State.log_ok) | with_reducible (apply State.forEach_ok) | with_reducible (apply State.push_ok) | with_reducible (apply State.lostPath_ok) | with_reducible (apply State.ite_ok) | split | (intro _ _ hok) | (intro _ hok) | (intro _ _ _ hok) | simp only [State.regsOk_mk, State.regsOk_eta])

theorem State.holdExpired_ok (s : State) (d t : Nat) (hok : s.regsOk = true) : (State.holdExpired s d t).regsOk = true := by
  unfold State.holdExpired
  extract_lets
  repeat' (first | with_reducible assumption | with_reducible (apply State.startHandOver_ok) | with_reducible (apply State.showRoutes_ok) | with_reducible (apply State.disposeSite_ok) | with_reducible (apply State.pathsLost_ok) | with_reducible (apply State.forEach_ok) | with_reducible (apply State.ite_ok) | split | (intro _ _ hok) | (intro _ hok) | (intro _ _ _ hok) | simp only [State.regsOk_mk, State.regsOk_eta])

theorem State.lanesOut_ok (s : State) (d t : Nat) (hok : s.regsOk = true) : (State.lanesOut s d t).regsOk = true := by
  unfold State.lanesOut
  extract_lets
  repeat' (first | with_reducible assumption | with_reducible (apply State.wr_ok) | with_reducible (apply State.off_ok) | with_reducible (apply State.updSite_ok) | with_reducible (apply State.forEach_ok) | with_reducible (apply State.ite_ok) | split | (intro _ _ hok) | (intro _ hok) | (intro _ _ _ hok) | simp only [State.regsOk_mk, State.regsOk_eta])

theorem State.spareSite_ok (s : State) (d t : Nat) (hok : s.regsOk = true) : (State.spareSite s d t).regsOk = true := by
  unfold State.spareSite
  repeat' (first | with_reducible assumption | with_reducible (apply State.forEach_ok) | with_reducible (apply State.on_ok) | with_reducible (apply State.wr_ok) | with_reducible (apply State.ite_ok) | split | (intro _ _ hok) | (intro _ hok) | (intro _ _ _ hok) | simp only [State.regsOk_mk, State.regsOk_eta])

theorem State.siteDown_ok (s : State) (d t st cls : Nat) (hok : s.regsOk = true) : (State.siteDown s d t st cls).regsOk = true := by
  unfold State.siteDown
  extract_lets
  repeat' (first | with_reducible assumption | with_reducible (apply State.forEach_ok) | with_reducible (apply State.updSite_ok) | with_reducible (apply State.lanesOut_ok) | with_reducible (apply State.toSite_ok) | with_reducible (apply State.startHandOver_ok) | with_reducible (apply State.showRoutes_ok) | with_reducible (apply State.evC_ok) | with_reducible (apply State.spareSite_ok) | with_reducible (apply State.ite_ok) | split | (intro _ _ hok) | (intro _ hok) | (intro _ _ _ hok) | simp only [State.regsOk_mk, State.regsOk_eta])

theorem State.siteFault_ok (s : State) (d t : Nat) (hok : s.regsOk = true) : (State.siteFault s d t).regsOk = true := by
  simp only [State.siteFault, State.reeval_ok, State.regsOk_mk, State.regsOk_eta, apply_ite State.regsOk, ite_self, implies_true, eq_self, hok]

theorem State.calibFailed_ok (s : State) (d t : Nat) (hok : s.regsOk = true) : (State.calibFailed s d t).regsOk = true := by
  unfold State.calibFailed
  repeat' (first | with_reducible assumption | with_reducible (apply State.forEach_ok) | with_reducible (apply State.evC_ok) | with_reducible (apply State.siteDown_ok) | with_reducible (apply State.ite_ok) | split | (intro _ _ hok) | (intro _ hok) | (intro _ _ _ hok) | simp only [State.regsOk_mk, State.regsOk_eta])

theorem State.siteUp_ok (s : State) (d t : Nat) (hok : s.regsOk = true) : (State.siteUp s d t).regsOk = true := by
  unfold State.siteUp
  repeat' (first | with_reducible assumption | with_reducible (apply State.log_ok) | with_reducible (apply State.updSite_ok) | with_reducible (apply State.toSite_ok) | with_reducible (apply State.showRoutes_ok) | with_reducible (apply State.ite_ok) | split | (intro _ _ hok) | (intro _ hok) | (intro _ _ _ hok) | simp only [State.regsOk_mk, State.regsOk_eta])

theorem State.returnStreams_ok (s : State) (d t : Nat) (hok : s.regsOk = true) : (State.returnStreams s d t).regsOk = true := by
  unfold State.returnStreams
  extract_lets
  repeat' (first | with_reducible assumption | with_reducible (apply State.updSite_ok) | with_reducible (apply State.forEach_ok) | with_reducible (apply State.ite_ok) | split | (intro _ _ hok) | (intro _ hok) | (intro _ _ _ hok) | simp only [State.regsOk_mk, State.regsOk_eta])

theorem State.showAvail_ok (s : State) (d t : Nat) (hok : s.regsOk = true) : (State.showAvail s d t).regsOk = true := by
  unfold State.showAvail
  repeat' (first | with_reducible assumption | with_reducible (apply State.forEach_ok) | with_reducible (apply State.wr_ok) | with_reducible (apply State.ite_ok) | split | (intro _ _ hok) | (intro _ hok) | (intro _ _ _ hok) | simp only [State.regsOk_mk, State.regsOk_eta])

theorem State.enterInit_ok (s : State) (d t : Nat) (hok : s.regsOk = true) : (State.enterInit s d t).regsOk = true := by
  unfold State.enterInit
  extract_lets
  repeat' (first | with_reducible assumption | with_reducible (apply State.updSite_ok) | with_reducible (apply State.toSite_ok) | with_reducible (apply State.emit_ok) | with_reducible (apply State.ite_ok) | split | (intro _ _ hok) | (intro _ hok) | (intro _ _ _ hok) | simp only [State.regsOk_mk, State.regsOk_eta])

theorem State.initSite_ok (s : State) (d t : Nat) (adv : List Nat) (rxExp : Nat) (hok : s.regsOk = true) : (State.initSite s d t adv rxExp).regsOk = true := by
  unfold State.initSite
  extract_lets
  repeat' (first | with_reducible assumption | with_reducible (apply State.commitReg_ok) | with_reducible (apply State.updSite_ok) | with_reducible (apply State.wr_ok) | with_reducible (apply State.showReplay_ok) | with_reducible (apply State.showAvail_ok) | with_reducible (apply State.siteUp_ok) | with_reducible (apply State.forEach_ok) | with_reducible (apply State.xoffUpdate_ok) | with_reducible (apply State.ite_ok) | split | (intro _ _ hok) | (intro _ hok) | (intro _ _ _ hok) | simp only [State.regsOk_mk, State.regsOk_eta])

theorem State.putFlit_ok (s : State) (d t : Nat) (f : Flit) (hok : s.regsOk = true) : (State.putFlit s d t f).regsOk = true := by
  unfold State.putFlit
  repeat' (first | with_reducible assumption | with_reducible (apply State.updSite_ok) | with_reducible (apply State.pm_ok) | with_reducible (apply State.emit_ok) | with_reducible (apply State.ite_ok) | split | (intro _ _ hok) | (intro _ hok) | (intro _ _ _ hok) | simp only [State.regsOk_mk, State.regsOk_eta])

theorem State.newFlit_ok (s : State) (d t : Nat) (f : Flit) (hok : s.regsOk = true) : (State.newFlit s d t f).regsOk = true := by
  unfold State.newFlit
  extract_lets
  repeat' (first | with_reducible assumption | with_reducible (apply State.wr_ok) | with_reducible (apply State.updSite_ok) | with_reducible (apply State.showReplay_ok) | with_reducible (apply State.pm_ok) | with_reducible (apply State.putFlit_ok) | with_reducible (apply State.ite_ok) | split | (intro _ _ hok) | (intro _ hok) | (intro _ _ _ hok) | simp only [State.regsOk_mk, State.regsOk_eta])

theorem State.sendFlit_ok (s : State) (d t : Nat) (hok : s.regsOk = true) : (State.sendFlit s d t).regsOk = true := by
  unfold State.sendFlit
  extract_lets
  repeat' (first | with_reducible assumption | with_reducible (apply State.updSite_ok) | with_reducible (apply State.putFlit_ok) | with_reducible (apply State.newFlit_ok) | with_reducible (apply State.showAvail_ok) | with_reducible (apply State.ite_ok) | split | (intro _ _ hok) | (intro _ hok) | (intro _ _ _ hok) | simp only [State.regsOk_mk, State.regsOk_eta])

theorem State.replayFrom_ok (s : State) (d t ack : Nat) (hok : s.regsOk = true) : (State.replayFrom s d t ack).regsOk = true := by
  simp only [State.replayFrom, State.updSite_ok, State.regsOk_mk, State.regsOk_eta, apply_ite State.regsOk, ite_self, implies_true, eq_self, hok]

theorem State.takeAck_ok (s : State) (d t ack : Nat) (hok : s.regsOk = true) : (State.takeAck s d t ack).regsOk = true := by
  unfold State.takeAck
  extract_lets
  repeat' (first | with_reducible assumption | with_reducible (apply State.updSite_ok) | with_reducible (apply State.wr_ok) | with_reducible (apply State.showReplay_ok) | with_reducible (apply State.ite_ok) | split | (intro _ _ hok) | (intro _ hok) | (intro _ _ _ hok) | simp only [State.regsOk_mk, State.regsOk_eta])

theorem State.takeCredit_ok (s : State) (d t : Nat) (f : Flit) (hok : s.regsOk = true) : (State.takeCredit s d t f).regsOk = true := by
  unfold State.takeCredit
  repeat' (first | with_reducible assumption | with_reducible (apply State.forEach_ok) | with_reducible (apply State.wrB_ok) | with_reducible (apply State.updSite_ok) | with_reducible (apply State.showAvail_ok) | with_reducible (apply State.ite_ok) | split | (intro _ _ hok) | (intro _ hok) | (intro _ _ _ hok) | simp only [State.regsOk_mk, State.regsOk_eta])

theorem State.overflow_ok (s : State) (d t : Nat) (hok : s.regsOk = true) : (State.overflow s d t).regsOk = true := by
  simp only [State.overflow, State.evC_ok, State.siteRetrain_ok, State.regsOk_mk, State.regsOk_eta, apply_ite State.regsOk, ite_self, implies_true, eq_self, hok]

theorem State.flitFailed_ok (s : State) (d t : Nat) (hok : s.regsOk = true) : (State.flitFailed s d t).regsOk = true := by
  unfold State.flitFailed
  extract_lets
  repeat' (first | with_reducible assumption | with_reducible (apply State.inc_ok) | with_reducible (apply State.pm_ok) | with_reducible (apply State.updSite_ok) | with_reducible (apply State.evC_ok) | with_reducible (apply State.reeval_ok) | with_reducible (apply State.log_ok) | with_reducible (apply State.siteRetrain_ok) | with_reducible (apply State.ite_ok) | split | (intro _ _ hok) | (intro _ hok) | (intro _ _ _ hok) | simp only [State.regsOk_mk, State.regsOk_eta])

theorem State.auditCmd_ok (s : State) (d t c : Nat) (hok : s.regsOk = true) : (State.auditCmd s d t c).regsOk = true := by
  simp only [State.auditCmd, State.updSite_ok, State.regsOk_mk, State.regsOk_eta, apply_ite State.regsOk, ite_self, implies_true, eq_self, hok]

theorem State.auditRep_ok (s : State) (d t c freeH retH freeD retD : Nat) (hok : s.regsOk = true) : (State.auditRep s d t c freeH retH freeD retD).regsOk = true := by
  unfold State.auditRep
  repeat' (first | with_reducible assumption | with_reducible (apply State.updSite_ok) | with_reducible (apply State.showAvail_ok) | with_reducible (apply State.evC_ok) | with_reducible (apply State.siteRetrain_ok) | with_reducible (apply State.ite_ok) | split | (intro _ _ hok) | (intro _ hok) | (intro _ _ _ hok) | simp only [State.regsOk_mk, State.regsOk_eta])

theorem State.flitCmd_ok (s : State) (d t : Nat) (c : FlitCmd) (hok : s.regsOk = true) : (State.flitCmd s d t c).regsOk = true := by
  unfold State.flitCmd
  repeat' split
  all_goals simp only [State.newTxMap_ok, State.auditCmd_ok, State.auditRep_ok, State.regsOk_mk, State.regsOk_eta, apply_ite State.regsOk, ite_self, implies_true, eq_self, hok]

theorem State.acceptFlit_ok (s : State) (d t : Nat) (f : Flit) (hok : s.regsOk = true) : (State.acceptFlit s d t f).regsOk = true := by
  unfold State.acceptFlit
  repeat' (first | with_reducible assumption | with_reducible (apply State.wr_ok) | with_reducible (apply State.pm_ok) | with_reducible (apply State.log_ok) | with_reducible (apply State.updSite_ok) | with_reducible (apply State.forEach_ok) | with_reducible (apply State.arrive_ok) | with_reducible (apply State.xoffUpdate_ok) | with_reducible (apply State.flitCmd_ok) | with_reducible (apply State.ite_ok) | split | (intro _ _ hok) | (intro _ hok) | (intro _ _ _ hok) | simp only [State.regsOk_mk, State.regsOk_eta])

theorem State.takeFlit_ok (s : State) (d t : Nat) (f : Flit) (e0 e1 : Nat) (hok : s.regsOk = true) : (State.takeFlit s d t f e0 e1).regsOk = true := by
  unfold State.takeFlit
  repeat' (first | with_reducible assumption | with_reducible (apply State.inc_ok) | with_reducible (apply State.flitFailed_ok) | with_reducible (apply State.updSite_ok) | with_reducible (apply State.takeAck_ok) | with_reducible (apply State.takeCredit_ok) | with_reducible (apply State.replayFrom_ok) | with_reducible (apply State.acceptFlit_ok) | with_reducible (apply State.overflow_ok) | with_reducible (apply State.ite_ok) | split | (intro _ _ hok) | (intro _ hok) | (intro _ _ _ hok) | simp only [State.regsOk_mk, State.regsOk_eta])

end Sys2Proof.Machine
end

