-- ==== Sys2Proof/Laws/DmOps.lean ====
section
/-! SUPPORT. What the operations of Machine/DmOps.lean leave alone: the part, the waiting commands, the blown life-cycle fuses, and the
canonical form of the register file. -/

namespace Sys2Proof.Machine
set_option linter.unusedSimpArgs false
set_option linter.unusedVariables false
set_option linter.unreachableTactic false
set_option linter.unusedTactic false
set_option linter.style.nameCheck false

theorem State.updDq_core (s : State) (d q : Nat) (f : DmQ → DmQ) : (State.updDq s d q f).core = s.core := by
  simp only [State.updDq, State.core_mk, State.core_eta, ↓apply_ite State.core, ite_self, implies_true, eq_self]

theorem State.updInst_core (s : State) (d i : Nat) (f : Inst → Inst) : (State.updInst s d i f).core = s.core := by
  simp only [State.updInst, State.core_mk, State.core_eta, ↓apply_ite State.core, ite_self, implies_true, eq_self]

theorem State.showQ_core (s : State) (d q : Nat) : (State.showQ s d q).core = s.core := by
  simp only [State.showQ, ↓State.wr_core, State.core_mk, State.core_eta, ↓apply_ite State.core, ite_self, implies_true, eq_self]

theorem State.toQst_core (s : State) (d q v : Nat) : (State.toQst s d q v).core = s.core := by
  simp only [State.toQst, ↓State.wr_core, State.core_mk, State.core_eta, ↓apply_ite State.core, ite_self, implies_true, eq_self]

theorem State.chargeQ_core (s : State) (d q : Nat) (m : Msg) : (State.chargeQ s d q m).core = s.core := by
  unfold State.chargeQ
  repeat' split
  all_goals simp only [↓State.charge_core, State.core_mk, State.core_eta, ↓apply_ite State.core, ite_self, implies_true, eq_self]

theorem State.dmSend_core (s : State) (d q : Nat) (use : DmUse) (tc : Nat) (kind : MKind) (a : Nat) (data : List Nat) (poison : Bool) : (State.dmSend s d q use tc kind a data poison).2.core = s.core := by
  unfold State.dmSend
  repeat' (first | with_reducible rfl | simp only [↓State.lineSent_core, ↓State.chargeQ_core, ↓State.store_core, ↓State.pm_core, ↓State.putTrk_core, ↓State.push_core, ↓State.home_core, ↓State.noteMiss_core, ↓State.atticSelect_core, ↓State.decoded_core, State.core_mk, State.core_eta, ↓apply_ite State.core, ite_self, implies_true, eq_self] | split | (refine (State.store_core' (by assumption)).trans ?_) | (refine (State.atticSelect_core' (by assumption)).trans ?_))

theorem State.dmSend_core' {s : State} {d q : Nat} {use : DmUse} {tc : Nat} {kind : MKind} {a : Nat} {data : List Nat} {poison : Bool} {xa xs}
    (hx : (State.dmSend s d q use tc kind a data poison) = (xa, xs)) : xs.core = s.core := by
  have := State.dmSend_core s d q use tc kind a data poison
  rw [hx] at this
  exact this

theorem State.dmTake_core (s : State) (d tag : Nat) : (State.dmTake s d tag).2.core = s.core := by
  unfold State.dmTake
  repeat' (first | with_reducible rfl | simp only [↓State.linesBack_core, ↓State.updInst_core, ↓State.inc_core, ↓State.ev_core, State.core_mk, State.core_eta, ↓apply_ite State.core, ite_self, implies_true, eq_self] | split)

theorem State.dmTake_core' {s : State} {d tag : Nat} {xa xs}
    (hx : (State.dmTake s d tag) = (xa, xs)) : xs.core = s.core := by
  have := State.dmTake_core s d tag
  rw [hx] at this
  exact this

theorem State.updHeld_core (s : State) (d q idx : Nat) (f : DmHeld → DmHeld) : (State.updHeld s d q idx f).core = s.core := by
  simp only [State.updHeld, ↓State.updDq_core, State.core_mk, State.core_eta, ↓apply_ite State.core, ite_self, implies_true, eq_self]

theorem State.haltWith_core (s : State) (d q st : Nat) : (State.haltWith s d q st).core = s.core := by
  simp only [State.haltWith, ↓State.updDq_core, State.core_mk, State.core_eta, ↓apply_ite State.core, ite_self, implies_true, eq_self]

theorem State.enterHalted_core (s : State) (d q st : Nat) : (State.enterHalted s d q st).core = s.core := by
  simp only [State.enterHalted, ↓State.wr_core, ↓State.toQst_core, ↓State.updDq_core, ↓State.on_core, ↓State.ev_core, State.core_mk, State.core_eta, ↓apply_ite State.core, ite_self, implies_true, eq_self]

theorem State.haltNow_core (s : State) (d q st : Nat) : (State.haltNow s d q st).core = s.core := by
  unfold State.haltNow
  repeat' (first | with_reducible rfl | simp only [↓State.haltWith_core, ↓State.enterHalted_core, State.core_mk, State.core_eta, ↓apply_ite State.core, ite_self, implies_true, eq_self] | split)

theorem State.sendOwn_core (s : State) (d q : Nat) : (State.sendOwn s d q).core = s.core := by
  unfold State.sendOwn
  repeat' (first | with_reducible rfl | simp only [↓State.dmSend_core, ↓State.updDq_core, ↓State.haltNow_core, State.core_mk, State.core_eta, ↓apply_ite State.core, ite_self, implies_true, eq_self] | split | (refine (State.dmSend_core' (by assumption)).trans ?_))

theorem State.dmMigrate_core (s : State) (d q : Nat) (h : DmHeld) : (State.dmMigrate s d q h).core = s.core := by
  simp only [State.dmMigrate, ↓State.chargeQ_core, ↓State.updHeld_core, ↓State.ev_core, ↓State.ovBegin_core, State.core_mk, State.core_eta, ↓apply_ite State.core, ite_self, implies_true, eq_self]

theorem State.dmStart_core (s : State) (d q : Nat) (h : DmHeld) : (State.dmStart s d q h).core = s.core := by
  simp only [State.dmStart, ↓State.updHeld_core, ↓State.haltWith_core, ↓State.wr_core, State.core_mk, State.core_eta, ↓apply_ite State.core, ite_self, implies_true, eq_self]

theorem State.sendMigs_core (s : State) (d q : Nat) : (State.sendMigs s d q).core = s.core := by
  simp only [State.sendMigs, ↓State.forEach_core, ↓State.dmMigrate_core, State.core_mk, State.core_eta, ↓apply_ite State.core, ite_self, implies_true, eq_self]

theorem State.startHeld_core (s : State) (d q : Nat) : (State.startHeld s d q).core = s.core := by
  simp only [State.startHeld, ↓State.forEach_core, ↓State.dmStart_core, ↓State.sendMigs_core, ↓State.showQ_core, State.core_mk, State.core_eta, ↓apply_ite State.core, ite_self, implies_true, eq_self]

theorem State.dmRead_core (s : State) (d q : Nat) : (State.dmRead s d q).core = s.core := by
  unfold State.dmRead
  repeat' (first | with_reducible rfl | simp only [↓State.updDq_core, ↓State.toQst_core, ↓State.startHeld_core, ↓State.sendOwn_core, ↓State.dmSend_core, State.core_mk, State.core_eta, ↓apply_ite State.core, ite_self, implies_true, eq_self] | split | (refine (State.dmSend_core' (by assumption)).trans ?_))

theorem State.scan_core (s : State) (d q : Nat) : (State.scan s d q).core = s.core := by
  simp only [State.scan, ↓State.on_core, ↓State.off_core, ↓State.updDq_core, ↓State.dmRead_core, State.core_mk, State.core_eta, ↓apply_ite State.core, ite_self, implies_true, eq_self]

theorem State.relink_core (s : State) (d q : Nat) : (State.relink s d q).core = s.core := by
  simp only [State.relink, ↓State.off_core, ↓State.updDq_core, ↓State.dmRead_core, State.core_mk, State.core_eta, ↓apply_ite State.core, ite_self, implies_true, eq_self]

theorem State.descReturn_core (s : State) (d q idx addr line : Nat) (poison : Bool) : (State.descReturn s d q idx addr line poison).core = s.core := by
  simp only [State.descReturn, ↓State.updDq_core, ↓State.dmRead_core, ↓State.startHeld_core, ↓State.scan_core, ↓State.toQst_core, State.core_mk, State.core_eta, ↓apply_ite State.core, ite_self, implies_true, eq_self]

theorem State.lineMiss_core (s : State) (d q idx st off : Nat) : (State.lineMiss s d q idx st off).core = s.core := by
  simp only [State.lineMiss, ↓State.updHeld_core, ↓State.haltWith_core, State.core_mk, State.core_eta, ↓apply_ite State.core, ite_self, implies_true, eq_self]

theorem State.updPiece_core (s : State) (d q idx k : Nat) (f : DmPiece → DmPiece) : (State.updPiece s d q idx k f).core = s.core := by
  simp only [State.updPiece, ↓State.updHeld_core, State.core_mk, State.core_eta, ↓apply_ite State.core, ite_self, implies_true, eq_self]

theorem State.workWrite_core (s : State) (d q idx k : Nat) : (State.workWrite s d q idx k).2.core = s.core := by
  unfold State.workWrite
  repeat' (first | with_reducible rfl | simp only [↓State.dmSend_core, ↓State.lineMiss_core, ↓State.updPiece_core, State.core_mk, State.core_eta, ↓apply_ite State.core, ite_self, implies_true, eq_self] | split | (refine (State.dmSend_core' (by assumption)).trans ?_))

theorem State.workWrite_core' {s : State} {d q idx k : Nat} {xa xs}
    (hx : (State.workWrite s d q idx k) = (xa, xs)) : xs.core = s.core := by
  have := State.workWrite_core s d q idx k
  rw [hx] at this
  exact this

theorem State.workRead_core (s : State) (d q idx k : Nat) : (State.workRead s d q idx k).2.core = s.core := by
  unfold State.workRead
  repeat' (first | with_reducible rfl | simp only [↓State.dmSend_core, ↓State.lineMiss_core, ↓State.updPiece_core, State.core_mk, State.core_eta, ↓apply_ite State.core, ite_self, implies_true, eq_self] | split | (refine (State.dmSend_core' (by assumption)).trans ?_))

theorem State.workRead_core' {s : State} {d q idx k : Nat} {xa xs}
    (hx : (State.workRead s d q idx k) = (xa, xs)) : xs.core = s.core := by
  have := State.workRead_core s d q idx k
  rw [hx] at this
  exact this

theorem State.workDesc_core (s : State) (d q idx : Nat) : (State.workDesc s d q idx).2.core = s.core := by
  unfold State.workDesc
  split
  · rfl
  · split
    · rfl
    · dsimp only
      split
      · rename_i h
        exact (State.firstSent_core' h fun s k => State.workWrite_core _ _ _ _ _).trans (State.updHeld_core _ _ _ _ _)
      · rename_i h
        exact (State.firstSent_core _ _ _ fun s k => State.workRead_core _ _ _ _ _).trans
          ((State.firstSent_core' h fun s k => State.workWrite_core _ _ _ _ _).trans (State.updHeld_core _ _ _ _ _))

theorem State.workDesc_core' {s : State} {d q idx : Nat} {xa xs}
    (hx : State.workDesc s d q idx = (xa, xs)) : xs.core = s.core := by
  have := State.workDesc_core s d q idx
  rw [hx] at this
  exact this

theorem State.workQueue_core (s : State) (d q : Nat) : (State.workQueue s d q).2.core = s.core := by
  unfold State.workQueue
  exact State.firstSent_core _ _ _ fun s i => State.workDesc_core _ _ _ _

theorem State.workQueue_core' {s : State} {d q : Nat} {xa xs}
    (hx : (State.workQueue s d q) = (xa, xs)) : xs.core = s.core := by
  have := State.workQueue_core s d q
  rw [hx] at this
  exact this

theorem State.countBytes_core (s : State) (d q n : Nat) : (State.countBytes s d q n).core = s.core := by
  simp only [State.countBytes, ↓State.wr64_core, ↓State.pmI_core, ↓State.pm_core, State.core_mk, State.core_eta, ↓apply_ite State.core, ite_self, implies_true, eq_self]

theorem State.pieceRead_core (s : State) (d q idx k : Nat) : (State.pieceRead s d q idx k).core = s.core := by
  unfold State.pieceRead
  repeat' split
  all_goals simp only [↓State.updHeld_core, ↓State.countBytes_core, State.core_mk, State.core_eta, ↓apply_ite State.core, ite_self, implies_true, eq_self]

theorem State.lineRead__core (s : State) (d q idx k : Nat) (side : Bool) (off a line : Nat) (poison : Bool) : (State.lineRead_ s d q idx k side off a line poison).core = s.core := by
  simp only [State.lineRead_, ↓State.updHeld_core, ↓State.pieceRead_core, State.core_mk, State.core_eta, ↓apply_ite State.core, ite_self, implies_true, eq_self]

theorem State.lineWritten_core (s : State) (d q idx k : Nat) : (State.lineWritten s d q idx k).core = s.core := by
  unfold State.lineWritten
  repeat' split
  all_goals simp only [↓State.updHeld_core, ↓State.countBytes_core, State.core_mk, State.core_eta, ↓apply_ite State.core, ite_self, implies_true, eq_self]

theorem State.settleQueue_core (s : State) (d q : Nat) : (State.settleQueue s d q).core = s.core := by
  unfold State.settleQueue
  repeat' (first | with_reducible rfl | simp only [↓State.toQst_core, ↓State.scan_core, ↓State.enterHalted_core, ↓State.relink_core, State.core_mk, State.core_eta, ↓apply_ite State.core, ite_self, implies_true, eq_self] | split)

theorem State.dmInt_core (s : State) (d q : Nat) : (State.dmInt s d q).core = s.core := by
  simp only [State.dmInt, ↓State.on_core, ↓State.irqWarden_core, ↓State.forEach_core, ↓State.emit_core, State.core_mk, State.core_eta, ↓apply_ite State.core, ite_self, implies_true, eq_self]

theorem State.dmInterrupt_core (s : State) (d q : Nat) : (State.dmInterrupt s d q).2.core = s.core := by
  unfold State.dmInterrupt
  repeat' (first | with_reducible rfl | simp only [↓State.dmInt_core, ↓State.chargeQ_core, ↓State.route_core, State.core_mk, State.core_eta, ↓apply_ite State.core, ite_self, implies_true, eq_self] | split)

theorem State.dmInterrupt_core' {s : State} {d q : Nat} {xa xs}
    (hx : (State.dmInterrupt s d q) = (xa, xs)) : xs.core = s.core := by
  have := State.dmInterrupt_core s d q
  rw [hx] at this
  exact this

theorem State.retTo_core (s : State) (d q : Nat) (st : RetStage) (h : DmHeld) : (State.retTo s d q st h).core = s.core := by
  simp only [State.retTo, ↓State.updDq_core, State.core_mk, State.core_eta, ↓apply_ite State.core, ite_self, implies_true, eq_self]

theorem State.retOwn_core (s : State) (d q : Nat) (h : DmHeld) : (State.retOwn s d q h).2.core = s.core := by
  unfold State.retOwn
  repeat' (first | with_reducible rfl | simp only [↓State.retTo_core, ↓State.dmSend_core, ↓State.haltWith_core, State.core_mk, State.core_eta, ↓apply_ite State.core, ite_self, implies_true, eq_self] | split | (refine (State.dmSend_core' (by assumption)).trans ?_))

theorem State.retOwn_core' {s : State} {d q : Nat} {h : DmHeld} {xa xs}
    (hx : (State.retOwn s d q h) = (xa, xs)) : xs.core = s.core := by
  have := State.retOwn_core s d q h
  rw [hx] at this
  exact this

theorem State.retCq_core (s : State) (d q : Nat) (h : DmHeld) : (State.retCq s d q h).2.core = s.core := by
  unfold State.retCq
  repeat' (first | with_reducible rfl | simp only [↓State.retTo_core, ↓State.updDq_core, ↓State.inc_core, ↓State.ev_core, ↓State.dmSend_core, ↓State.haltWith_core, State.core_mk, State.core_eta, ↓apply_ite State.core, ite_self, implies_true, eq_self] | split | (refine (State.dmSend_core' (by assumption)).trans ?_))

theorem State.retCq_core' {s : State} {d q : Nat} {h : DmHeld} {xa xs}
    (hx : (State.retCq s d q h) = (xa, xs)) : xs.core = s.core := by
  have := State.retCq_core s d q h
  rw [hx] at this
  exact this

theorem State.retStep_core (s : State) (d q : Nat) : (State.retStep s d q).2.core = s.core := by
  unfold State.retStep
  repeat' (first | with_reducible rfl | simp only [↓State.stage_core, ↓State.retOwn_core, ↓State.retCq_core, ↓State.retTo_core, ↓State.updDq_core, ↓State.dmInterrupt_core, ↓State.haltWith_core, ↓State.settleQueue_core, ↓State.startHeld_core, ↓State.dmRead_core, State.core_mk, State.core_eta, ↓apply_ite State.core, ite_self, implies_true, eq_self] | split | (refine (State.retOwn_core' (by assumption)).trans ?_) | (refine (State.retCq_core' (by assumption)).trans ?_) | (refine (State.dmInterrupt_core' (by assumption)).trans ?_))

theorem State.retStep_core' {s : State} {d q : Nat} {xa xs}
    (hx : (State.retStep s d q) = (xa, xs)) : xs.core = s.core := by
  have := State.retStep_core s d q
  rw [hx] at this
  exact this

theorem State.retGo_core (s : State) (d q : Nat) : (State.retGo s d q).core = s.core := by
  unfold State.retGo
  refine State.foldPair_core _ _ (fun r a => ?_) _
  split
  · exact State.retStep_core _ _ _
  · rfl

theorem State.retire_core (s : State) (d q : Nat) : (State.retire s d q).core = s.core := by
  unfold State.retire
  repeat' (first | with_reducible rfl | simp only [↓State.updDq_core, ↓State.wr_core, ↓State.inc_core, ↓State.pmI_core, ↓State.haltWith_core, ↓State.showQ_core, ↓State.retGo_core, State.core_mk, State.core_eta, ↓apply_ite State.core, ite_self, implies_true, eq_self] | split)

theorem State.dmResponse_core (s : State) (d tag line : Nat) (poison : Bool) : (State.dmResponse s d tag line poison).core = s.core := by
  unfold State.dmResponse
  repeat' (first | with_reducible rfl | simp only [↓State.dmTake_core, ↓State.updDq_core, ↓State.descReturn_core, ↓State.lineRead__core, ↓State.lineWritten_core, ↓State.retGo_core, ↓State.wr_core, ↓State.pmI_core, State.core_mk, State.core_eta, ↓apply_ite State.core, ite_self, implies_true, eq_self] | split | (refine (State.dmTake_core' (by assumption)).trans ?_))

theorem State.linkReturn_core (s : State) (d tag line : Nat) (poison : Bool) : (State.linkReturn s d tag line poison).core = s.core := by
  unfold State.linkReturn
  repeat' (first | with_reducible rfl | simp only [↓State.dmTake_core, ↓State.updDq_core, ↓State.toQst_core, ↓State.startHeld_core, ↓State.relink_core, ↓State.scan_core, State.core_mk, State.core_eta, ↓apply_ite State.core, ite_self, implies_true, eq_self] | split | (refine (State.dmTake_core' (by assumption)).trans ?_))

theorem State.doorbell_core (s : State) (d q : Nat) : (State.doorbell s d q).core = s.core := by
  unfold State.doorbell
  repeat' (first | with_reducible rfl | simp only [↓State.wake_core, ↓State.toQst_core, ↓State.relink_core, ↓State.scan_core, ↓State.on_core, ↓State.inc_core, State.core_mk, State.core_eta, ↓apply_ite State.core, ite_self, implies_true, eq_self] | split)

theorem State.enableRefused_core (s : State) (d q reason : Nat) : (State.enableRefused s d q reason).core = s.core := by
  simp only [State.enableRefused, ↓State.on_core, ↓State.wr_core, ↓State.ev_core, State.core_mk, State.core_eta, ↓apply_ite State.core, ite_self, implies_true, eq_self]

theorem State.queueEnable_core (s : State) (d q : Nat) : (State.queueEnable s d q).core = s.core := by
  simp only [State.queueEnable, ↓State.enableRefused_core, ↓State.on_core, ↓State.off_core, ↓State.updDq_core, ↓State.toQst_core, ↓State.showQ_core, State.core_mk, State.core_eta, ↓apply_ite State.core, ite_self, implies_true, eq_self]

theorem State.dropUnstarted_core (s : State) (d q : Nat) : (State.dropUnstarted s d q).core = s.core := by
  simp only [State.dropUnstarted, ↓State.updDq_core, ↓State.showQ_core, State.core_mk, State.core_eta, ↓apply_ite State.core, ite_self, implies_true, eq_self]

theorem State.queueDisable_core (s : State) (d q : Nat) : (State.queueDisable s d q).core = s.core := by
  simp only [State.queueDisable, ↓State.off_core, ↓State.dropUnstarted_core, ↓State.updDq_core, ↓State.toQst_core, ↓State.settleQueue_core, State.core_mk, State.core_eta, ↓apply_ite State.core, ite_self, implies_true, eq_self]

theorem State.queuePause_core (s : State) (d q : Nat) : (State.queuePause s d q).core = s.core := by
  simp only [State.queuePause, ↓State.on_core, ↓State.settleQueue_core, State.core_mk, State.core_eta, ↓apply_ite State.core, ite_self, implies_true, eq_self]

theorem State.queueGo_core (s : State) (d q : Nat) : (State.queueGo s d q).core = s.core := by
  simp only [State.queueGo, ↓State.toQst_core, ↓State.relink_core, ↓State.scan_core, ↓State.startHeld_core, State.core_mk, State.core_eta, ↓apply_ite State.core, ite_self, implies_true, eq_self]

theorem State.queueUnpause_core (s : State) (d q : Nat) : (State.queueUnpause s d q).core = s.core := by
  simp only [State.queueUnpause, ↓State.off_core, ↓State.queueGo_core, ↓State.startHeld_core, State.core_mk, State.core_eta, ↓apply_ite State.core, ite_self, implies_true, eq_self]

theorem State.queueResume_core (s : State) (d q : Nat) : (State.queueResume s d q).core = s.core := by
  simp only [State.queueResume, ↓State.off_core, ↓State.toQst_core, ↓State.queueGo_core, State.core_mk, State.core_eta, ↓apply_ite State.core, ite_self, implies_true, eq_self]

theorem State.queueInvalidate_core (s : State) (d q : Nat) : (State.queueInvalidate s d q).core = s.core := by
  simp only [State.queueInvalidate, ↓State.dropUnstarted_core, ↓State.scan_core, State.core_mk, State.core_eta, ↓apply_ite State.core, ite_self, implies_true, eq_self]

theorem State.cqHead_core (s : State) (d q v : Nat) : (State.cqHead s d q v).core = s.core := by
  simp only [State.cqHead, ↓State.wr_core, ↓State.retGo_core, ↓State.ev_core, State.core_mk, State.core_eta, ↓apply_ite State.core, ite_self, implies_true, eq_self]

theorem turnLoop_core (f : State → Bool × State) (hf : ∀ s, (f s).2.core = s.core) (n : Nat) (v : Int) (s : State) :
    (turnLoop f n v s).2.core = s.core := by
  induction n generalizing v s with
  | zero => rfl
  | succ n ih =>
    unfold turnLoop
    split
    · rfl
    · have h1 := hf s
      split <;> rename_i h <;> rw [h] at h1
      · exact (ih _ _).trans h1
      · exact h1

theorem turnLoop_core' {f : State → Bool × State} {n : Nat} {v : Int} {s : State} {xa xs} (hx : turnLoop f n v s = (xa, xs))
    (hf : ∀ s, (f s).2.core = s.core) : xs.core = s.core := by
  have := turnLoop_core f hf n v s
  rw [hx] at this
  exact this

theorem State.ownLine_core (s : State) (d e : Nat) : (State.ownLine s d e).2.core = s.core := by
  unfold State.ownLine
  split
  · rfl
  · split
    · rename_i h
      exact State.firstSent_core' h fun s k => State.writeLine_core _ _ _
    · rename_i h
      have h1 := State.firstSent_core' h fun s k => State.writeLine_core _ _ _
      split
      · rename_i h
        exact (State.firstSent_core' h fun s k => State.readLine_core _ _ _ _).trans h1
      · rename_i h
        exact (State.firstSent_core _ _ _ fun s k => State.startLine_core _ _ _).trans
          ((State.firstSent_core' h fun s k => State.readLine_core _ _ _ _).trans h1)

theorem State.ownLine_core' {s : State} {d e : Nat} {xa xs} (hx : State.ownLine s d e = (xa, xs)) : xs.core = s.core := by
  have := State.ownLine_core s d e
  rw [hx] at this
  exact this

theorem State.ownWork_core (s : State) (d e n : Nat) (v : Int) : (State.ownWork s d e n v).2.core = s.core := by
  unfold State.ownWork
  refine (turnLoop_core _ (fun s => State.ownLine_core _ _ _) _ _ _).trans ?_
  split
  · exact State.startBlocks_core _ _
  · rfl

theorem State.ownWork_core' {s : State} {d e n : Nat} {v : Int} {xa xs} (hx : State.ownWork s d e n v = (xa, xs)) :
    xs.core = s.core := by
  have := State.ownWork_core s d e n v
  rw [hx] at this
  exact this

theorem State.engineTurn_core (s : State) (d e : Nat) : (State.engineTurn s d e).core = s.core := by
  unfold State.engineTurn
  dsimp only
  split
  · rfl
  · split
    · exact State.ownWork_core _ _ _ _ _
    · refine (turnLoop_core _ (fun s => State.workQueue_core _ _ _) _ _ _).trans ?_
      exact (State.retGo_core _ _ _).trans ((State.dmRead_core _ _ _).trans (State.sendMigs_core _ _ _))

theorem State.updDq_ok (s : State) (d q : Nat) (f : DmQ → DmQ) (hok : s.regsOk = true) : (State.updDq s d q f).regsOk = true := by
  simp only [State.updDq, State.regsOk_mk, State.regsOk_eta, apply_ite State.regsOk, ite_self, implies_true, eq_self, hok]

theorem State.updInst_ok (s : State) (d i : Nat) (f : Inst → Inst) (hok : s.regsOk = true) : (State.updInst s d i f).regsOk = true := by
  simp only [State.updInst, State.regsOk_mk, State.regsOk_eta, apply_ite State.regsOk, ite_self, implies_true, eq_self, hok]

theorem State.showQ_ok (s : State) (d q : Nat) (hok : s.regsOk = true) : (State.showQ s d q).regsOk = true := by
  simp only [State.showQ, State.wr_ok, State.regsOk_mk, State.regsOk_eta, apply_ite State.regsOk, ite_self, implies_true, eq_self, hok]

theorem State.toQst_ok (s : State) (d q v : Nat) (hok : s.regsOk = true) : (State.toQst s d q v).regsOk = true := by
  simp only [State.toQst, State.wr_ok, State.regsOk_mk, State.regsOk_eta, apply_ite State.regsOk, ite_self, implies_true, eq_self, hok]

theorem State.chargeQ_ok (s : State) (d q : Nat) (m : Msg) (hok : s.regsOk = true) : (State.chargeQ s d q m).regsOk = true := by
  unfold State.chargeQ
  repeat' split
  all_goals simp only [State.charge_ok, State.regsOk_mk, State.regsOk_eta, apply_ite State.regsOk, ite_self, implies_true, eq_self, hok]

theorem State.dmSend_ok (s : State) (d q : Nat) (use : DmUse) (tc : Nat) (kind : MKind) (a : Nat) (data : List Nat) (poison : Bool) (hok : s.regsOk = true) : (State.dmSend s d q use tc kind a data poison).2.regsOk = true := by
  unfold State.dmSend
  extract_lets
  repeat' (first | with_reducible assumption | with_reducible (apply State.lineSent_ok) | with_reducible (apply State.chargeQ_ok) | with_reducible (apply State.store_ok) | with_reducible (apply State.pm_ok) | with_reducible (apply State.putTrk_ok) | with_reducible (apply State.push_ok) | with_reducible (apply State.home_ok) | with_reducible (apply State.noteMiss_ok) | with_reducible (apply State.atticSelect_ok) | with_reducible (apply State.decoded_ok) | with_reducible (exact State.store_ok' (by assumption) (by assumption)) | (refine State.store_ok' (by assumption) ?_) | with_reducible (exact State.atticSelect_ok' (by assumption) (by assumption)) | (refine State.atticSelect_ok' (by assumption) ?_) | with_reducible (apply State.ite_ok) | split | (intro _ _ hok) | (intro _ hok) | (intro _ _ _ hok) | simp only [State.regsOk_mk, State.regsOk_eta])

theorem State.dmSend_ok' {s : State} {d q : Nat} {use : DmUse} {tc : Nat} {kind : MKind} {a : Nat} {data : List Nat} {poison : Bool} {xa xs}
    (hx : State.dmSend s d q use tc kind a data poison = (xa, xs)) (hok : s.regsOk = true) : xs.regsOk = true := by
  have := State.dmSend_ok s d q use tc kind a data poison hok
  rw [hx] at this
  exact this

theorem State.dmTake_ok (s : State) (d tag : Nat) (hok : s.regsOk = true) : (State.dmTake s d tag).2.regsOk = true := by
  unfold State.dmTake
  repeat' (first | with_reducible assumption | with_reducible (apply State.linesBack_ok) | with_reducible (apply State.updInst_ok) | with_reducible (apply State.inc_ok) | with_reducible (apply State.ev_ok) | with_reducible (apply State.ite_ok) | split | (intro _ _ hok) | (intro _ hok) | (intro _ _ _ hok) | simp only [State.regsOk_mk, State.regsOk_eta])

theorem State.dmTake_ok' {s : State} {d tag : Nat} {xa xs}
    (hx : State.dmTake s d tag = (xa, xs)) (hok : s.regsOk = true) : xs.regsOk = true := by
  have := State.dmTake_ok s d tag hok
  rw [hx] at this
  exact this

theorem State.updHeld_ok (s : State) (d q idx : Nat) (f : DmHeld → DmHeld) (hok : s.regsOk = true) : (State.updHeld s d q idx f).regsOk = true := by
  simp only [State.updHeld, State.updDq_ok, State.regsOk_mk, State.regsOk_eta, apply_ite State.regsOk, ite_self, implies_true, eq_self, hok]

theorem State.haltWith_ok (s : State) (d q st : Nat) (hok : s.regsOk = true) : (State.haltWith s d q st).regsOk = true := by
  simp only [State.haltWith, State.updDq_ok, State.regsOk_mk, State.regsOk_eta, apply_ite State.regsOk, ite_self, implies_true, eq_self, hok]

theorem State.enterHalted_ok (s : State) (d q st : Nat) (hok : s.regsOk = true) : (State.enterHalted s d q st).regsOk = true := by
  unfold State.enterHalted
  extract_lets
  repeat' (first | with_reducible assumption | with_reducible (apply State.wr_ok) | with_reducible (apply State.toQst_ok) | with_reducible (apply State.updDq_ok) | with_reducible (apply State.on_ok) | with_reducible (apply State.ev_ok) | with_reducible (apply State.ite_ok) | split | (intro _ _ hok) | (intro _ hok) | (intro _ _ _ hok) | simp only [State.regsOk_mk, State.regsOk_eta])

theorem State.haltNow_ok (s : State) (d q st : Nat) (hok : s.regsOk = true) : (State.haltNow s d q st).regsOk = true := by
  unfold State.haltNow
  repeat' (first | assumption | simp only [State.haltWith_ok, State.enterHalted_ok, State.regsOk_mk, State.regsOk_eta, apply_ite State.regsOk, ite_self, implies_true, eq_self, hok] | split)

theorem State.sendOwn_ok (s : State) (d q : Nat) (hok : s.regsOk = true) : (State.sendOwn s d q).regsOk = true := by
  unfold State.sendOwn
  repeat' (first | with_reducible assumption | with_reducible (apply State.dmSend_ok) | with_reducible (apply State.updDq_ok) | with_reducible (apply State.haltNow_ok) | with_reducible (exact State.dmSend_ok' (by assumption) (by assumption)) | (refine State.dmSend_ok' (by assumption) ?_) | with_reducible (apply State.ite_ok) | split | (intro _ _ hok) | (intro _ hok) | (intro _ _ _ hok) | simp only [State.regsOk_mk, State.regsOk_eta])

theorem State.dmMigrate_ok (s : State) (d q : Nat) (h : DmHeld) (hok : s.regsOk = true) : (State.dmMigrate s d q h).regsOk = true := by
  unfold State.dmMigrate
  repeat' (first | with_reducible assumption | with_reducible (apply State.chargeQ_ok) | with_reducible (apply State.updHeld_ok) | with_reducible (apply State.ev_ok) | with_reducible (apply State.ovBegin_ok) | with_reducible (apply State.ite_ok) | split | (intro _ _ hok) | (intro _ hok) | (intro _ _ _ hok) | simp only [State.regsOk_mk, State.regsOk_eta])

theorem State.dmStart_ok (s : State) (d q : Nat) (h : DmHeld) (hok : s.regsOk = true) : (State.dmStart s d q h).regsOk = true := by
  unfold State.dmStart
  extract_lets
  repeat' (first | with_reducible assumption | with_reducible (apply State.updHeld_ok) | with_reducible (apply State.haltWith_ok) | with_reducible (apply State.wr_ok) | with_reducible (apply State.ite_ok) | split | (intro _ _ hok) | (intro _ hok) | (intro _ _ _ hok) | simp only [State.regsOk_mk, State.regsOk_eta])

theorem State.sendMigs_ok (s : State) (d q : Nat) (hok : s.regsOk = true) : (State.sendMigs s d q).regsOk = true := by
  unfold State.sendMigs
  repeat' (first | with_reducible assumption | with_reducible (apply State.forEach_ok) | with_reducible (apply State.dmMigrate_ok) | with_reducible (apply State.ite_ok) | split | (intro _ _ hok) | (intro _ hok) | (intro _ _ _ hok) | simp only [State.regsOk_mk, State.regsOk_eta])

theorem State.startHeld_ok (s : State) (d q : Nat) (hok : s.regsOk = true) : (State.startHeld s d q).regsOk = true := by
  unfold State.startHeld
  repeat' (first | with_reducible assumption | with_reducible (apply State.forEach_ok) | with_reducible (apply State.dmStart_ok) | with_reducible (apply State.sendMigs_ok) | with_reducible (apply State.showQ_ok) | with_reducible (apply State.ite_ok) | split | (intro _ _ hok) | (intro _ hok) | (intro _ _ _ hok) | simp only [State.regsOk_mk, State.regsOk_eta])

theorem State.dmRead_ok (s : State) (d q : Nat) (hok : s.regsOk = true) : (State.dmRead s d q).regsOk = true := by
  unfold State.dmRead
  extract_lets
  repeat' (first | with_reducible assumption | with_reducible (apply State.updDq_ok) | with_reducible (apply State.toQst_ok) | with_reducible (apply State.startHeld_ok) | with_reducible (apply State.sendOwn_ok) | with_reducible (apply State.dmSend_ok) | with_reducible (exact State.dmSend_ok' (by assumption) (by assumption)) | (refine State.dmSend_ok' (by assumption) ?_) | with_reducible (apply State.ite_ok) | split | (intro _ _ hok) | (intro _ hok) | (intro _ _ _ hok) | simp only [State.regsOk_mk, State.regsOk_eta])

theorem State.scan_ok (s : State) (d q : Nat) (hok : s.regsOk = true) : (State.scan s d q).regsOk = true := by
  unfold State.scan
  repeat' (first | with_reducible assumption | with_reducible (apply State.on_ok) | with_reducible (apply State.off_ok) | with_reducible (apply State.updDq_ok) | with_reducible (apply State.dmRead_ok) | with_reducible (apply State.ite_ok) | split | (intro _ _ hok) | (intro _ hok) | (intro _ _ _ hok) | simp only [State.regsOk_mk, State.regsOk_eta])

theorem State.relink_ok (s : State) (d q : Nat) (hok : s.regsOk = true) : (State.relink s d q).regsOk = true := by
  unfold State.relink
  repeat' (first | with_reducible assumption | with_reducible (apply State.off_ok) | with_reducible (apply State.updDq_ok) | with_reducible (apply State.dmRead_ok) | with_reducible (apply State.ite_ok) | split | (intro _ _ hok) | (intro _ hok) | (intro _ _ _ hok) | simp only [State.regsOk_mk, State.regsOk_eta])

theorem State.descReturn_ok (s : State) (d q idx addr line : Nat) (poison : Bool) (hok : s.regsOk = true) : (State.descReturn s d q idx addr line poison).regsOk = true := by
  unfold State.descReturn
  extract_lets
  repeat' (first | with_reducible assumption | with_reducible (apply State.updDq_ok) | with_reducible (apply State.dmRead_ok) | with_reducible (apply State.startHeld_ok) | with_reducible (apply State.scan_ok) | with_reducible (apply State.toQst_ok) | with_reducible (apply State.ite_ok) | split | (intro _ _ hok) | (intro _ hok) | (intro _ _ _ hok) | simp only [State.regsOk_mk, State.regsOk_eta])

theorem State.lineMiss_ok (s : State) (d q idx st off : Nat) (hok : s.regsOk = true) : (State.lineMiss s d q idx st off).regsOk = true := by
  simp only [State.lineMiss, State.updHeld_ok, State.haltWith_ok, State.regsOk_mk, State.regsOk_eta, apply_ite State.regsOk, ite_self, implies_true, eq_self, hok]

theorem State.updPiece_ok (s : State) (d q idx k : Nat) (f : DmPiece → DmPiece) (hok : s.regsOk = true) : (State.updPiece s d q idx k f).regsOk = true := by
  simp only [State.updPiece, State.updHeld_ok, State.regsOk_mk, State.regsOk_eta, apply_ite State.regsOk, ite_self, implies_true, eq_self, hok]

theorem State.workWrite_ok (s : State) (d q idx k : Nat) (hok : s.regsOk = true) : (State.workWrite s d q idx k).2.regsOk = true := by
  unfold State.workWrite
  repeat' (first | with_reducible assumption | with_reducible (apply State.dmSend_ok) | with_reducible (apply State.lineMiss_ok) | with_reducible (apply State.updPiece_ok) | with_reducible (exact State.dmSend_ok' (by assumption) (by assumption)) | (refine State.dmSend_ok' (by assumption) ?_) | with_reducible (apply State.ite_ok) | split | (intro _ _ hok) | (intro _ hok) | (intro _ _ _ hok) | simp only [State.regsOk_mk, State.regsOk_eta])

theorem State.workWrite_ok' {s : State} {d q idx k : Nat} {xa xs}
    (hx : State.workWrite s d q idx k = (xa, xs)) (hok : s.regsOk = true) : xs.regsOk = true := by
  have := State.workWrite_ok s d q idx k hok
  rw [hx] at this
  exact this

theorem State.workRead_ok (s : State) (d q idx k : Nat) (hok : s.regsOk = true) : (State.workRead s d q idx k).2.regsOk = true := by
  unfold State.workRead
  repeat' (first | with_reducible assumption | with_reducible (apply State.dmSend_ok) | with_reducible (apply State.lineMiss_ok) | with_reducible (apply State.updPiece_ok) | with_reducible (exact State.dmSend_ok' (by assumption) (by assumption)) | (refine State.dmSend_ok' (by assumption) ?_) | with_reducible (apply State.ite_ok) | split | (intro _ _ hok) | (intro _ hok) | (intro _ _ _ hok) | simp only [State.regsOk_mk, State.regsOk_eta])

theorem State.workRead_ok' {s : State} {d q idx k : Nat} {xa xs}
    (hx : State.workRead s d q idx k = (xa, xs)) (hok : s.regsOk = true) : xs.regsOk = true := by
  have := State.workRead_ok s d q idx k hok
  rw [hx] at this
  exact this

theorem State.workDesc_ok (s : State) (d q idx : Nat) (hok : s.regsOk = true) : (State.workDesc s d q idx).2.regsOk = true := by
  unfold State.workDesc
  split
  · exact hok
  · split
    · exact hok
    · dsimp only
      split
      · rename_i h
        exact State.firstSent_ok' h (fun s k hok => State.workWrite_ok _ _ _ _ _ hok) (State.updHeld_ok _ _ _ _ _ hok)
      · rename_i h
        exact State.firstSent_ok _ _ _ (fun s k hok => State.workRead_ok _ _ _ _ _ hok)
          (State.firstSent_ok' h (fun s k hok => State.workWrite_ok _ _ _ _ _ hok) (State.updHeld_ok _ _ _ _ _ hok))

theorem State.workDesc_ok' {s : State} {d q idx : Nat} {xa xs}
    (hx : State.workDesc s d q idx = (xa, xs)) (hok : s.regsOk = true) : xs.regsOk = true := by
  have := State.workDesc_ok s d q idx hok
  rw [hx] at this
  exact this

theorem State.workQueue_ok (s : State) (d q : Nat) (hok : s.regsOk = true) : (State.workQueue s d q).2.regsOk = true := by
  unfold State.workQueue
  exact State.firstSent_ok _ _ _ (fun s i hok => State.workDesc_ok _ _ _ _ hok) hok

theorem State.workQueue_ok' {s : State} {d q : Nat} {xa xs}
    (hx : State.workQueue s d q = (xa, xs)) (hok : s.regsOk = true) : xs.regsOk = true := by
  have := State.workQueue_ok s d q hok
  rw [hx] at this
  exact this

theorem State.countBytes_ok (s : State) (d q n : Nat) (hok : s.regsOk = true) : (State.countBytes s d q n).regsOk = true := by
  unfold State.countBytes
  extract_lets
  repeat' (first | with_reducible assumption | with_reducible (apply State.wr64_ok) | with_reducible (apply State.pmI_ok) | with_reducible (apply State.pm_ok) | with_reducible (apply State.ite_ok) | split | (intro _ _ hok) | (intro _ hok) | (intro _ _ _ hok) | simp only [State.regsOk_mk, State.regsOk_eta])

theorem State.pieceRead_ok (s : State) (d q idx k : Nat) (hok : s.regsOk = true) : (State.pieceRead s d q idx k).regsOk = true := by
  unfold State.pieceRead
  repeat' split
  all_goals simp only [State.updHeld_ok, State.countBytes_ok, State.regsOk_mk, State.regsOk_eta, apply_ite State.regsOk, ite_self, implies_true, eq_self, hok]

theorem State.lineRead__ok (s : State) (d q idx k : Nat) (side : Bool) (off a line : Nat) (poison : Bool) (hok : s.regsOk = true) : (State.lineRead_ s d q idx k side off a line poison).regsOk = true := by
  simp only [State.lineRead_, State.updHeld_ok, State.pieceRead_ok, State.regsOk_mk, State.regsOk_eta, apply_ite State.regsOk, ite_self, implies_true, eq_self, hok]

theorem State.lineWritten_ok (s : State) (d q idx k : Nat) (hok : s.regsOk = true) : (State.lineWritten s d q idx k).regsOk = true := by
  unfold State.lineWritten
  repeat' split
  all_goals simp only [State.updHeld_ok, State.countBytes_ok, State.regsOk_mk, State.regsOk_eta, apply_ite State.regsOk, ite_self, implies_true, eq_self, hok]

theorem State.settleQueue_ok (s : State) (d q : Nat) (hok : s.regsOk = true) : (State.settleQueue s d q).regsOk = true := by
  unfold State.settleQueue
  repeat' (first | assumption | simp only [State.toQst_ok, State.scan_ok, State.enterHalted_ok, State.relink_ok, State.regsOk_mk, State.regsOk_eta, apply_ite State.regsOk, ite_self, implies_true, eq_self, hok] | split)

theorem State.dmInt_ok (s : State) (d q : Nat) (hok : s.regsOk = true) : (State.dmInt s d q).regsOk = true := by
  unfold State.dmInt
  extract_lets
  repeat' (first | with_reducible assumption | with_reducible (apply State.on_ok) | with_reducible (apply State.irqWarden_ok) | with_reducible (apply State.forEach_ok) | with_reducible (apply State.emit_ok) | with_reducible (apply State.ite_ok) | split | (intro _ _ hok) | (intro _ hok) | (intro _ _ _ hok) | simp only [State.regsOk_mk, State.regsOk_eta])

theorem State.dmInterrupt_ok (s : State) (d q : Nat) (hok : s.regsOk = true) : (State.dmInterrupt s d q).2.regsOk = true := by
  unfold State.dmInterrupt
  extract_lets
  repeat' (first | with_reducible assumption | with_reducible (apply State.dmInt_ok) | with_reducible (apply State.chargeQ_ok) | with_reducible (apply State.route_ok) | with_reducible (apply State.ite_ok) | split | (intro _ _ hok) | (intro _ hok) | (intro _ _ _ hok) | simp only [State.regsOk_mk, State.regsOk_eta])

theorem State.dmInterrupt_ok' {s : State} {d q : Nat} {xa xs}
    (hx : State.dmInterrupt s d q = (xa, xs)) (hok : s.regsOk = true) : xs.regsOk = true := by
  have := State.dmInterrupt_ok s d q hok
  rw [hx] at this
  exact this

theorem State.retTo_ok (s : State) (d q : Nat) (st : RetStage) (h : DmHeld) (hok : s.regsOk = true) : (State.retTo s d q st h).regsOk = true := by
  simp only [State.retTo, State.updDq_ok, State.regsOk_mk, State.regsOk_eta, apply_ite State.regsOk, ite_self, implies_true, eq_self, hok]

theorem State.retOwn_ok (s : State) (d q : Nat) (h : DmHeld) (hok : s.regsOk = true) : (State.retOwn s d q h).2.regsOk = true := by
  unfold State.retOwn
  repeat' (first | with_reducible assumption | with_reducible (apply State.retTo_ok) | with_reducible (apply State.dmSend_ok) | with_reducible (apply State.haltWith_ok) | with_reducible (exact State.dmSend_ok' (by assumption) (by assumption)) | (refine State.dmSend_ok' (by assumption) ?_) | with_reducible (apply State.ite_ok) | split | (intro _ _ hok) | (intro _ hok) | (intro _ _ _ hok) | simp only [State.regsOk_mk, State.regsOk_eta])

theorem State.retOwn_ok' {s : State} {d q : Nat} {h : DmHeld} {xa xs}
    (hx : State.retOwn s d q h = (xa, xs)) (hok : s.regsOk = true) : xs.regsOk = true := by
  have := State.retOwn_ok s d q h hok
  rw [hx] at this
  exact this

theorem State.retCq_ok (s : State) (d q : Nat) (h : DmHeld) (hok : s.regsOk = true) : (State.retCq s d q h).2.regsOk = true := by
  unfold State.retCq
  extract_lets
  repeat' (first | with_reducible assumption | with_reducible (apply State.retTo_ok) | with_reducible (apply State.updDq_ok) | with_reducible (apply State.inc_ok) | with_reducible (apply State.ev_ok) | with_reducible (apply State.dmSend_ok) | with_reducible (apply State.haltWith_ok) | with_reducible (exact State.dmSend_ok' (by assumption) (by assumption)) | (refine State.dmSend_ok' (by assumption) ?_) | with_reducible (apply State.ite_ok) | split | (intro _ _ hok) | (intro _ hok) | (intro _ _ _ hok) | simp only [State.regsOk_mk, State.regsOk_eta])

theorem State.retCq_ok' {s : State} {d q : Nat} {h : DmHeld} {xa xs}
    (hx : State.retCq s d q h = (xa, xs)) (hok : s.regsOk = true) : xs.regsOk = true := by
  have := State.retCq_ok s d q h hok
  rw [hx] at this
  exact this

theorem State.retStep_ok (s : State) (d q : Nat) (hok : s.regsOk = true) : (State.retStep s d q).2.regsOk = true := by
  unfold State.retStep
  extract_lets
  repeat' (first | with_reducible assumption | with_reducible (apply State.stage_ok) | with_reducible (apply State.retOwn_ok) | with_reducible (apply State.retCq_ok) | with_reducible (apply State.retTo_ok) | with_reducible (apply State.updDq_ok) | with_reducible (apply State.dmInterrupt_ok) | with_reducible (apply State.haltWith_ok) | with_reducible (apply State.settleQueue_ok) | with_reducible (apply State.startHeld_ok) | with_reducible (apply State.dmRead_ok) | with_reducible (exact State.retOwn_ok' (by assumption) (by assumption)) | (refine State.retOwn_ok' (by assumption) ?_) | with_reducible (exact State.retCq_ok' (by assumption) (by assumption)) | (refine State.retCq_ok' (by assumption) ?_) | with_reducible (exact State.dmInterrupt_ok' (by assumption) (by assumption)) | (refine State.dmInterrupt_ok' (by assumption) ?_) | with_reducible (apply State.ite_ok) | split | (intro _ _ hok) | (intro _ hok) | (intro _ _ _ hok) | simp only [State.regsOk_mk, State.regsOk_eta])

theorem State.retStep_ok' {s : State} {d q : Nat} {xa xs}
    (hx : State.retStep s d q = (xa, xs)) (hok : s.regsOk = true) : xs.regsOk = true := by
  have := State.retStep_ok s d q hok
  rw [hx] at this
  exact this

theorem State.retGo_ok (s : State) (d q : Nat) (hok : s.regsOk = true) : (State.retGo s d q).regsOk = true := by
  unfold State.retGo
  refine State.foldPair_ok _ _ (fun r a hok => ?_) _ hok
  split
  · exact State.retStep_ok _ _ _ hok
  · exact hok

theorem State.retire_ok (s : State) (d q : Nat) (hok : s.regsOk = true) : (State.retire s d q).regsOk = true := by
  unfold State.retire
  extract_lets
  repeat' (first | with_reducible assumption | with_reducible (apply State.updDq_ok) | with_reducible (apply State.wr_ok) | with_reducible (apply State.inc_ok) | with_reducible (apply State.pmI_ok) | with_reducible (apply State.haltWith_ok) | with_reducible (apply State.showQ_ok) | with_reducible (apply State.retGo_ok) | with_reducible (apply State.ite_ok) | split | (intro _ _ hok) | (intro _ hok) | (intro _ _ _ hok) | simp only [State.regsOk_mk, State.regsOk_eta])

theorem State.dmResponse_ok (s : State) (d tag line : Nat) (poison : Bool) (hok : s.regsOk = true) : (State.dmResponse s d tag line poison).regsOk = true := by
  unfold State.dmResponse
  repeat' (first | with_reducible assumption | with_reducible (apply State.dmTake_ok) | with_reducible (apply State.updDq_ok) | with_reducible (apply State.descReturn_ok) | with_reducible (apply State.lineRead__ok) | with_reducible (apply State.lineWritten_ok) | with_reducible (apply State.retGo_ok) | with_reducible (apply State.wr_ok) | with_reducible (apply State.pmI_ok) | with_reducible (exact State.dmTake_ok' (by assumption) (by assumption)) | (refine State.dmTake_ok' (by assumption) ?_) | with_reducible (apply State.ite_ok) | split | (intro _ _ hok) | (intro _ hok) | (intro _ _ _ hok) | simp only [State.regsOk_mk, State.regsOk_eta])

theorem State.linkReturn_ok (s : State) (d tag line : Nat) (poison : Bool) (hok : s.regsOk = true) : (State.linkReturn s d tag line poison).regsOk = true := by
  unfold State.linkReturn
  repeat' (first | with_reducible assumption | with_reducible (apply State.dmTake_ok) | with_reducible (apply State.updDq_ok) | with_reducible (apply State.toQst_ok) | with_reducible (apply State.startHeld_ok) | with_reducible (apply State.relink_ok) | with_reducible (apply State.scan_ok) | with_reducible (exact State.dmTake_ok' (by assumption) (by assumption)) | (refine State.dmTake_ok' (by assumption) ?_) | with_reducible (apply State.ite_ok) | split | (intro _ _ hok) | (intro _ hok) | (intro _ _ _ hok) | simp only [State.regsOk_mk, State.regsOk_eta])

theorem State.doorbell_ok (s : State) (d q : Nat) (hok : s.regsOk = true) : (State.doorbell s d q).regsOk = true := by
  unfold State.doorbell
  extract_lets
  repeat' (first | with_reducible assumption | with_reducible (apply State.wake_ok) | with_reducible (apply State.toQst_ok) | with_reducible (apply State.relink_ok) | with_reducible (apply State.scan_ok) | with_reducible (apply State.on_ok) | with_reducible (apply State.inc_ok) | with_reducible (apply State.ite_ok) | split | (intro _ _ hok) | (intro _ hok) | (intro _ _ _ hok) | simp only [State.regsOk_mk, State.regsOk_eta])

theorem State.enableRefused_ok (s : State) (d q reason : Nat) (hok : s.regsOk = true) : (State.enableRefused s d q reason).regsOk = true := by
  unfold State.enableRefused
  extract_lets
  repeat' (first | with_reducible assumption | with_reducible (apply State.on_ok) | with_reducible (apply State.wr_ok) | with_reducible (apply State.ev_ok) | with_reducible (apply State.ite_ok) | split | (intro _ _ hok) | (intro _ hok) | (intro _ _ _ hok) | simp only [State.regsOk_mk, State.regsOk_eta])

theorem State.queueEnable_ok (s : State) (d q : Nat) (hok : s.regsOk = true) : (State.queueEnable s d q).regsOk = true := by
  unfold State.queueEnable
  extract_lets
  repeat' (first | with_reducible assumption | with_reducible (apply State.enableRefused_ok) | with_reducible (apply State.on_ok) | with_reducible (apply State.off_ok) | with_reducible (apply State.updDq_ok) | with_reducible (apply State.toQst_ok) | with_reducible (apply State.showQ_ok) | with_reducible (apply State.ite_ok) | split | (intro _ _ hok) | (intro _ hok) | (intro _ _ _ hok) | simp only [State.regsOk_mk, State.regsOk_eta])

theorem State.dropUnstarted_ok (s : State) (d q : Nat) (hok : s.regsOk = true) : (State.dropUnstarted s d q).regsOk = true := by
  simp only [State.dropUnstarted, State.updDq_ok, State.showQ_ok, State.regsOk_mk, State.regsOk_eta, apply_ite State.regsOk, ite_self, implies_true, eq_self, hok]

theorem State.queueDisable_ok (s : State) (d q : Nat) (hok : s.regsOk = true) : (State.queueDisable s d q).regsOk = true := by
  unfold State.queueDisable
  extract_lets
  repeat' (first | with_reducible assumption | with_reducible (apply State.off_ok) | with_reducible (apply State.dropUnstarted_ok) | with_reducible (apply State.updDq_ok) | with_reducible (apply State.toQst_ok) | with_reducible (apply State.settleQueue_ok) | with_reducible (apply State.ite_ok) | split | (intro _ _ hok) | (intro _ hok) | (intro _ _ _ hok) | simp only [State.regsOk_mk, State.regsOk_eta])

theorem State.queuePause_ok (s : State) (d q : Nat) (hok : s.regsOk = true) : (State.queuePause s d q).regsOk = true := by
  simp only [State.queuePause, State.on_ok, State.settleQueue_ok, State.regsOk_mk, State.regsOk_eta, apply_ite State.regsOk, ite_self, implies_true, eq_self, hok]

theorem State.queueGo_ok (s : State) (d q : Nat) (hok : s.regsOk = true) : (State.queueGo s d q).regsOk = true := by
  unfold State.queueGo
  extract_lets
  repeat' (first | with_reducible assumption | with_reducible (apply State.toQst_ok) | with_reducible (apply State.relink_ok) | with_reducible (apply State.scan_ok) | with_reducible (apply State.startHeld_ok) | with_reducible (apply State.ite_ok) | split | (intro _ _ hok) | (intro _ hok) | (intro _ _ _ hok) | simp only [State.regsOk_mk, State.regsOk_eta])

theorem State.queueUnpause_ok (s : State) (d q : Nat) (hok : s.regsOk = true) : (State.queueUnpause s d q).regsOk = true := by
  simp only [State.queueUnpause, State.off_ok, State.queueGo_ok, State.startHeld_ok, State.regsOk_mk, State.regsOk_eta, apply_ite State.regsOk, ite_self, implies_true, eq_self, hok]

theorem State.queueResume_ok (s : State) (d q : Nat) (hok : s.regsOk = true) : (State.queueResume s d q).regsOk = true := by
  simp only [State.queueResume, State.off_ok, State.toQst_ok, State.queueGo_ok, State.regsOk_mk, State.regsOk_eta, apply_ite State.regsOk, ite_self, implies_true, eq_self, hok]

theorem State.queueInvalidate_ok (s : State) (d q : Nat) (hok : s.regsOk = true) : (State.queueInvalidate s d q).regsOk = true := by
  simp only [State.queueInvalidate, State.dropUnstarted_ok, State.scan_ok, State.regsOk_mk, State.regsOk_eta, apply_ite State.regsOk, ite_self, implies_true, eq_self, hok]

theorem State.cqHead_ok (s : State) (d q v : Nat) (hok : s.regsOk = true) : (State.cqHead s d q v).regsOk = true := by
  simp only [State.cqHead, State.wr_ok, State.retGo_ok, State.ev_ok, State.regsOk_mk, State.regsOk_eta, apply_ite State.regsOk, ite_self, implies_true, eq_self, hok]

theorem turnLoop_ok (f : State → Bool × State) (hf : ∀ s, State.regsOk s = true → (f s).2.regsOk = true) (n : Nat) (v : Int) (s : State)
    (hok : s.regsOk = true) : (turnLoop f n v s).2.regsOk = true := by
  induction n generalizing v s with
  | zero => exact hok
  | succ n ih =>
    unfold turnLoop
    split
    · exact hok
    · have h1 := hf s hok
      split <;> rename_i h <;> rw [h] at h1
      · exact ih _ _ h1
      · exact h1

theorem turnLoop_ok' {f : State → Bool × State} {n : Nat} {v : Int} {s : State} {xa xs} (hx : turnLoop f n v s = (xa, xs))
    (hf : ∀ s, State.regsOk s = true → (f s).2.regsOk = true) (hok : s.regsOk = true) : xs.regsOk = true := by
  have := turnLoop_ok f hf n v s hok
  rw [hx] at this
  exact this

theorem State.ownLine_ok (s : State) (d e : Nat) (hok : s.regsOk = true) : (State.ownLine s d e).2.regsOk = true := by
  unfold State.ownLine
  split
  · exact hok
  · split
    · rename_i h
      exact State.firstSent_ok' h (fun s k hok => State.writeLine_ok _ _ _ hok) hok
    · rename_i h
      have h1 := State.firstSent_ok' h (fun s k hok => State.writeLine_ok _ _ _ hok) hok
      split
      · rename_i h
        exact State.firstSent_ok' h (fun s k hok => State.readLine_ok _ _ _ _ hok) h1
      · rename_i h
        exact State.firstSent_ok _ _ _ (fun s k hok => State.startLine_ok _ _ _ hok)
          (State.firstSent_ok' h (fun s k hok => State.readLine_ok _ _ _ _ hok) h1)

theorem State.ownLine_ok' {s : State} {d e : Nat} {xa xs} (hx : State.ownLine s d e = (xa, xs)) (hok : s.regsOk = true) :
    xs.regsOk = true := by
  have := State.ownLine_ok s d e hok
  rw [hx] at this
  exact this

theorem State.ownWork_ok (s : State) (d e n : Nat) (v : Int) (hok : s.regsOk = true) : (State.ownWork s d e n v).2.regsOk = true := by
  unfold State.ownWork
  refine turnLoop_ok _ (fun s hok => State.ownLine_ok _ _ _ hok) _ _ _ ?_
  split
  · exact State.startBlocks_ok _ _ hok
  · exact hok

theorem State.ownWork_ok' {s : State} {d e n : Nat} {v : Int} {xa xs} (hx : State.ownWork s d e n v = (xa, xs))
    (hok : s.regsOk = true) : xs.regsOk = true := by
  have := State.ownWork_ok s d e n v hok
  rw [hx] at this
  exact this

theorem State.engineTurn_ok (s : State) (d e : Nat) (hok : s.regsOk = true) : (State.engineTurn s d e).regsOk = true := by
  unfold State.engineTurn
  dsimp only
  split
  · exact hok
  · split
    · exact State.ownWork_ok _ _ _ _ _ hok
    · refine turnLoop_ok _ (fun s hok => State.workQueue_ok _ _ _ hok) _ _ _ ?_
      exact State.retGo_ok _ _ _ (State.dmRead_ok _ _ _ (State.sendMigs_ok _ _ _ hok))

end Sys2Proof.Machine
end

