-- ==== Sys2Proof/Laws/PantryOps.lean ====
section
/-! SUPPORT. What the operations of Machine/PantryOps.lean leave alone: the part, the waiting commands, the blown life-cycle fuses, and the
canonical form of the register file. -/

namespace Sys2Proof.Machine
set_option linter.unusedSimpArgs false
set_option linter.unusedVariables false
set_option linter.unreachableTactic false
set_option linter.unusedTactic false
set_option linter.style.nameCheck false

theorem State.pnDone_core (s : State) (d chan res : Nat) : (State.pnDone s d chan res).core = s.core := by
  simp only [State.pnDone, ↓State.wr_core, ↓State.off_core, ↓State.ev_core, State.core_mk, State.core_eta, ↓apply_ite State.core, ite_self, implies_true, eq_self]

theorem State.pnGo_core (s : State) (d chan op inst obj tok : Nat) (f : State → State) (hf : ∀ s, (f s).core = s.core) : (State.pnGo s d chan op inst obj tok f).core = s.core := by
  simp only [State.pnGo, ↓State.ev_core, ↓State.wr_core, ↓State.on_core, hf, State.core_mk, State.core_eta, ↓apply_ite State.core, ite_self, implies_true, eq_self]

theorem State.toInst_core (s : State) (d i v : Nat) : (State.toInst s d i v).core = s.core := by
  simp only [State.toInst, ↓State.updInst_core, ↓State.wr_core, State.core_mk, State.core_eta, ↓apply_ite State.core, ite_self, implies_true, eq_self]

theorem State.pools_core (s : State) (d : Nat) (q sh c : Nat) (back : Bool) : (State.pools s d q sh c back).core = s.core := by
  simp only [State.pools, ↓State.wr_core, State.core_mk, State.core_eta, ↓apply_ite State.core, ite_self, implies_true, eq_self]

theorem State.carve_core (s : State) (d i vq nq : Nat) (shaped : Bool) (nc mask : Nat) : (State.carve s d i vq nq shaped nc mask).core = s.core := by
  simp only [State.carve, ↓State.pools_core, ↓State.forEach_core, ↓State.on_core, ↓State.wr_core, ↓State.off_core, ↓State.mend_core, ↓State.putShp_core, ↓State.updInst_core, ↓State.toInst_core, State.core_mk, State.core_eta, ↓apply_ite State.core, ite_self, implies_true, eq_self]

theorem State.cntSet_core (s : State) (d k : Nat) (en : Bool) : (State.cntSet s d k en).core = s.core := by
  simp only [State.cntSet, ↓State.wrB_core, State.core_mk, State.core_eta, ↓apply_ite State.core, ite_self, implies_true, eq_self]

theorem State.raiseGen_core (s : State) (d i : Nat) : (State.raiseGen s d i).core = s.core := by
  simp only [State.raiseGen, ↓State.forEach_core, ↓State.toQst_core, ↓State.updDq_core, ↓State.rstFld_core, ↓State.putShp_core, ↓State.showShps_core, ↓State.cntSet_core, ↓State.updInst_core, State.core_mk, State.core_eta, ↓apply_ite State.core, ite_self, implies_true, eq_self]

theorem State.release__core (s : State) (d i : Nat) : (State.release_ s d i).core = s.core := by
  simp only [State.release_, ↓State.pools_core, ↓State.forEach_core, ↓State.off_core, ↓State.putShp_core, ↓State.toInst_core, ↓State.updInst_core, State.core_mk, State.core_eta, ↓apply_ite State.core, ite_self, implies_true, eq_self]

theorem State.resetEnd_core (s : State) (d i : Nat) : (State.resetEnd s d i).core = s.core := by
  unfold State.resetEnd
  repeat' (first | with_reducible rfl | simp only [↓State.pnDone_core, ↓State.toInst_core, ↓State.updInst_core, ↓State.release__core, State.core_mk, State.core_eta, ↓apply_ite State.core, ite_self, implies_true, eq_self] | split)

theorem State.resetGo_core (s : State) (d i : Nat) (run : Option PnRun) (remove : Bool) : (State.resetGo s d i run remove).core = s.core := by
  simp only [State.resetGo, ↓State.raiseGen_core, ↓State.toInst_core, ↓State.updInst_core, ↓State.resetEnd_core, State.core_mk, State.core_eta, ↓apply_ite State.core, ite_self, implies_true, eq_self]

theorem State.resetNext_core (s : State) (d i : Nat) : (State.resetNext s d i).core = s.core := by
  unfold State.resetNext
  repeat' (first | with_reducible rfl | simp only [↓State.updInst_core, ↓State.resetGo_core, State.core_mk, State.core_eta, ↓apply_ite State.core, ite_self, implies_true, eq_self] | split)

theorem State.staleZero_core (s : State) (d i : Nat) : (State.staleZero s d i).core = s.core := by
  simp only [State.staleZero, ↓State.resetEnd_core, ↓State.resetNext_core, State.core_mk, State.core_eta, ↓apply_ite State.core, ite_self, implies_true, eq_self]

theorem State.resetAsk_core (s : State) (d i : Nat) (r : PnRun) : (State.resetAsk s d i r).core = s.core := by
  simp only [State.resetAsk, ↓State.updInst_core, ↓State.resetGo_core, State.core_mk, State.core_eta, ↓apply_ite State.core, ite_self, implies_true, eq_self]

theorem State.instReset_core (s : State) (p : Nat) : (State.instReset s p).core = s.core := by
  unfold State.instReset
  repeat' (first | with_reducible rfl | simp only [↓State.forEach_core, ↓State.pnDone_core, ↓State.useFree_core, ↓State.updInst_core, ↓State.resetGo_core, ↓State.resetNext_core, State.core_mk, State.core_eta, ↓apply_ite State.core, ite_self, implies_true, eq_self] | split | (refine (State.forEach_core _ _ _ (fun s a => ?_)).trans ?_))

theorem State.freeze_core (s : State) (d i chan : Nat) : (State.freeze s d i chan).core = s.core := by
  simp only [State.freeze, ↓State.forEach_core, ↓State.dropUnstarted_core, ↓State.toInst_core, ↓State.updInst_core, State.core_mk, State.core_eta, ↓apply_ite State.core, ite_self, implies_true, eq_self]

theorem State.frozen_core (s : State) (d i : Nat) : (State.frozen s d i).core = s.core := by
  unfold State.frozen
  repeat' (first | with_reducible rfl | simp only [↓State.forEach_core, ↓State.toQst_core, ↓State.updDq_core, ↓State.putShp_core, ↓State.toInst_core, ↓State.pnDone_core, ↓State.updInst_core, ↓State.resetNext_core, State.core_mk, State.core_eta, ↓apply_ite State.core, ite_self, implies_true, eq_self] | split | (refine (State.forEach_core _ _ _ (fun s a => ?_)).trans ?_))

theorem State.ringAll_core (s : State) (d i : Nat) (paused : Bool) : (State.ringAll s d i paused).core = s.core := by
  unfold State.ringAll
  repeat' (first | with_reducible rfl | simp only [↓State.forEach_core, ↓State.doorbell_core, ↓State.settleQueue_core, ↓State.dmRead_core, ↓State.startHeld_core, State.core_mk, State.core_eta, ↓apply_ite State.core, ite_self, implies_true, eq_self] | split | (refine (State.forEach_core _ _ _ (fun s a => ?_)).trans ?_))

theorem State.freezeFail_core (s : State) (d i : Nat) : (State.freezeFail s d i).core = s.core := by
  unfold State.freezeFail
  repeat' (first | with_reducible rfl | simp only [↓State.toInst_core, ↓State.ringAll_core, ↓State.inc_core, ↓State.ev_core, ↓State.pnDone_core, ↓State.updInst_core, ↓State.resetNext_core, State.core_mk, State.core_eta, ↓apply_ite State.core, ite_self, implies_true, eq_self] | split)

theorem State.thaw_core (s : State) (d i : Nat) : (State.thaw s d i).core = s.core := by
  simp only [State.thaw, ↓State.forEach_core, ↓State.putShp_core, ↓State.toInst_core, ↓State.ringAll_core, State.core_mk, State.core_eta, ↓apply_ite State.core, ite_self, implies_true, eq_self]

theorem State.save_core (s : State) (d i chan : Nat) : (State.save s d i chan).core = s.core := by
  simp only [State.save, ↓State.wake_core, ↓State.replicate_core, ↓State.forEach_core, ↓State.wr_core, ↓State.updInst_core, State.core_mk, State.core_eta, ↓apply_ite State.core, ite_self, implies_true, eq_self]

theorem State.saveNext_core (s : State) (d i : Nat) : (State.saveNext s d i).core = s.core := by
  unfold State.saveNext
  repeat' split
  all_goals simp only [↓State.save_core, ↓State.updInst_core, ↓State.pnDone_core, ↓State.resetNext_core, State.core_mk, State.core_eta, ↓apply_ite State.core, ite_self, implies_true, eq_self]

theorem State.shpEffect_core (s : State) (d : Nat) : (State.shpEffect s d).core = s.core := by
  simp only [State.shpEffect, ↓State.forEach_core, ↓State.shpWrite_core, ↓State.off_core, ↓State.saveNext_core, State.core_mk, State.core_eta, ↓apply_ite State.core, ite_self, implies_true, eq_self]

theorem State.restoreQueue_core (s : State) (d i q : Nat) (r : List Nat) : (State.restoreQueue s d i q r).core = s.core := by
  simp only [State.restoreQueue, ↓State.toQst_core, ↓State.off_core, ↓State.wr_core, ↓State.wrB_core, ↓State.updDq_core, ↓State.showQ_core, State.core_mk, State.core_eta, ↓apply_ite State.core, ite_self, implies_true, eq_self]

theorem State.restoreShaper_core (s : State) (d j : Nat) (r : List Nat) : (State.restoreShaper s d j r).core = s.core := by
  simp only [State.restoreShaper, ↓State.putShp_core, ↓State.showShps_core, State.core_mk, State.core_eta, ↓apply_ite State.core, ite_self, implies_true, eq_self]

theorem State.restoreCounter_core (s : State) (d k : Nat) (r : List Nat) : (State.restoreCounter s d k r).core = s.core := by
  rfl

theorem State.restore_core (s : State) (d i chan : Nat) : (State.restore s d i chan).core = s.core := by
  simp only [State.restore, ↓State.forEach_core, ↓State.restoreQueue_core, ↓State.restoreShaper_core, ↓State.restoreCounter_core, ↓State.toInst_core, State.core_mk, State.core_eta, ↓apply_ite State.core, ite_self, implies_true, eq_self]

theorem State.wrAll_core (s : State) (l : Loc) (vs : List (Fld × Nat)) : (State.wrAll s l vs).core = s.core := by
  simp only [State.wrAll, ↓State.forEach_core, ↓State.wr_core, State.core_mk, State.core_eta, ↓apply_ite State.core, ite_self, implies_true, eq_self]

theorem State.setQueue_core (s : State) (d i j chan : Nat) : (State.setQueue s d i j chan).2.core = s.core := by
  unfold State.setQueue
  repeat' (first | with_reducible rfl | split | simp only [↓State.wrAll_core, ↓State.updDq_core, ↓State.off_core, ↓State.wr_core, ↓State.queueDisable_core, ↓State.enableRefused_core, ↓State.queueEnable_core, State.core_mk, State.core_eta, ↓apply_ite State.core, ite_self, implies_true, eq_self])

theorem State.setQueue_core' {s : State} {d i j chan : Nat} {xa xs}
    (hx : (State.setQueue s d i j chan) = (xa, xs)) : xs.core = s.core := by
  have := State.setQueue_core s d i j chan
  rw [hx] at this
  exact this

theorem State.setShaper_core (s : State) (d i j chan tok : Nat) : (State.setShaper s d i j chan tok).2.core = s.core := by
  unfold State.setShaper
  repeat' (first | with_reducible rfl | simp only [State.core_mk, State.core_eta, ↓apply_ite State.core, ite_self, implies_true, eq_self] | split)

theorem State.setShaper_core' {s : State} {d i j chan tok : Nat} {xa xs}
    (hx : (State.setShaper s d i j chan tok) = (xa, xs)) : xs.core = s.core := by
  have := State.setShaper_core s d i j chan tok
  rw [hx] at this
  exact this

theorem State.setCounter_core (s : State) (d i k chan : Nat) : (State.setCounter s d i k chan).2.core = s.core := by
  unfold State.setCounter
  repeat' (first | with_reducible rfl | simp only [↓State.wr_core, ↓State.cntSet_core, State.core_mk, State.core_eta, ↓apply_ite State.core, ite_self, implies_true, eq_self] | split)

theorem State.setCounter_core' {s : State} {d i k chan : Nat} {xa xs}
    (hx : (State.setCounter s d i k chan) = (xa, xs)) : xs.core = s.core := by
  have := State.setCounter_core s d i k chan
  rw [hx] at this
  exact this

theorem State.pnCmd_core (s : State) (d chan : Nat) (c : PnCmd) (states : List Nat) (f : State → State) (hf : ∀ s, (f s).core = s.core) : (State.pnCmd s d chan c states f).core = s.core := by
  simp only [State.pnCmd, ↓State.pnGo_core, ↓State.pnDone_core, hf, State.core_mk, State.core_eta, ↓apply_ite State.core, ite_self, implies_true, eq_self]

theorem State.pnRead_core (s : State) (d chan : Nat) (c : PnCmd) : (State.pnRead s d chan c).core = s.core := by
  simp only [State.pnRead, ↓State.pnCmd_core, ↓State.forEach_core, ↓State.wr_core, ↓State.pnDone_core, State.core_mk, State.core_eta, ↓apply_ite State.core, ite_self, implies_true, eq_self]

theorem State.pnCreate_core (s : State) (d chan : Nat) (c : PnCmd) : (State.pnCreate s d chan c).core = s.core := by
  simp only [State.pnCreate, ↓State.pnGo_core, ↓State.pnDone_core, ↓State.carve_core, State.core_mk, State.core_eta, ↓apply_ite State.core, ite_self, implies_true, eq_self]

theorem State.pnRemove_core (s : State) (d chan : Nat) (c : PnCmd) : (State.pnRemove s d chan c).core = s.core := by
  simp only [State.pnRemove, ↓State.pnGo_core, ↓State.pnDone_core, ↓State.resetAsk_core, State.core_mk, State.core_eta, ↓apply_ite State.core, ite_self, implies_true, eq_self]

theorem State.pnEnd_core (chan d : Nat) (r : Nat × State) : (State.pnEnd chan d r).core = r.2.core := by
  simp only [State.pnEnd, ↓State.pnDone_core, State.core_mk, State.core_eta, ↓apply_ite State.core, ite_self, implies_true, eq_self]

theorem State.pnSave_core (s : State) (d chan i : Nat) : (State.pnSave s d chan i).core = s.core := by
  simp only [State.pnSave, ↓State.pnDone_core, ↓State.updInst_core, ↓State.saveNext_core, State.core_mk, State.core_eta, ↓apply_ite State.core, ite_self, implies_true, eq_self]

theorem State.pnRestore_core (s : State) (d chan i : Nat) : (State.pnRestore s d chan i).core = s.core := by
  simp only [State.pnRestore, ↓State.pnDone_core, ↓State.restore_core, State.core_mk, State.core_eta, ↓apply_ite State.core, ite_self, implies_true, eq_self]

theorem State.pnDo_core (s : State) (d chan : Nat) (c : PnCmd) : (State.pnDo s d chan c).core = s.core := by
  unfold State.pnDo
  repeat' split
  all_goals simp only [↓State.pnRead_core, ↓State.pnCreate_core, ↓State.pnRemove_core, ↓State.pnCmd_core, ↓State.resetAsk_core, ↓State.pnEnd_core, ↓State.setQueue_core, ↓State.setShaper_core, ↓State.setCounter_core, ↓State.freeze_core, ↓State.pnSave_core, ↓State.pnRestore_core, ↓State.thaw_core, ↓State.pnDone_core, ↓State.pnGo_core, State.core_mk, State.core_eta, ↓apply_ite State.core, ite_self, implies_true, eq_self]

theorem State.pnDone_ok (s : State) (d chan res : Nat) (hok : s.regsOk = true) : (State.pnDone s d chan res).regsOk = true := by
  simp only [State.pnDone, State.wr_ok, State.off_ok, State.ev_ok, State.regsOk_mk, State.regsOk_eta, apply_ite State.regsOk, ite_self, implies_true, eq_self, hok]

theorem State.pnGo_ok (s : State) (d chan op inst obj tok : Nat) (f : State → State) (hf : ∀ s, State.regsOk s = true → (f s).regsOk = true) (hok : s.regsOk = true) : (State.pnGo s d chan op inst obj tok f).regsOk = true := by
  unfold State.pnGo
  extract_lets
  repeat' (first | with_reducible assumption | with_reducible (apply State.ev_ok) | with_reducible (apply State.wr_ok) | with_reducible (apply State.on_ok) | (with_reducible apply hf) | with_reducible (apply State.ite_ok) | split | (intro _ _ hok) | (intro _ hok) | (intro _ _ _ hok) | simp only [State.regsOk_mk, State.regsOk_eta])

theorem State.toInst_ok (s : State) (d i v : Nat) (hok : s.regsOk = true) : (State.toInst s d i v).regsOk = true := by
  simp only [State.toInst, State.updInst_ok, State.wr_ok, State.regsOk_mk, State.regsOk_eta, apply_ite State.regsOk, ite_self, implies_true, eq_self, hok]

theorem State.pools_ok (s : State) (d : Nat) (q sh c : Nat) (back : Bool) (hok : s.regsOk = true) : (State.pools s d q sh c back).regsOk = true := by
  unfold State.pools
  extract_lets
  repeat' (first | with_reducible assumption | with_reducible (apply State.wr_ok) | with_reducible (apply State.ite_ok) | split | (intro _ _ hok) | (intro _ hok) | (intro _ _ _ hok) | simp only [State.regsOk_mk, State.regsOk_eta])

theorem State.carve_ok (s : State) (d i vq nq : Nat) (shaped : Bool) (nc mask : Nat) (hok : s.regsOk = true) : (State.carve s d i vq nq shaped nc mask).regsOk = true := by
  unfold State.carve
  extract_lets
  repeat' (first | with_reducible assumption | with_reducible (apply State.pools_ok) | with_reducible (apply State.forEach_ok) | with_reducible (apply State.on_ok) | with_reducible (apply State.wr_ok) | with_reducible (apply State.off_ok) | with_reducible (apply State.mend_ok) | with_reducible (apply State.putShp_ok) | with_reducible (apply State.updInst_ok) | with_reducible (apply State.toInst_ok) | with_reducible (apply State.ite_ok) | split | (intro _ _ hok) | (intro _ hok) | (intro _ _ _ hok) | simp only [State.regsOk_mk, State.regsOk_eta])

theorem State.cntSet_ok (s : State) (d k : Nat) (en : Bool) (hok : s.regsOk = true) : (State.cntSet s d k en).regsOk = true := by
  simp only [State.cntSet, State.wrB_ok, State.regsOk_mk, State.regsOk_eta, apply_ite State.regsOk, ite_self, implies_true, eq_self, hok]

theorem State.raiseGen_ok (s : State) (d i : Nat) (hok : s.regsOk = true) : (State.raiseGen s d i).regsOk = true := by
  unfold State.raiseGen
  extract_lets
  repeat' (first | with_reducible assumption | with_reducible (apply State.forEach_ok) | with_reducible (apply State.toQst_ok) | with_reducible (apply State.updDq_ok) | with_reducible (apply State.rstFld_ok) | with_reducible (apply State.putShp_ok) | with_reducible (apply State.showShps_ok) | with_reducible (apply State.cntSet_ok) | with_reducible (apply State.updInst_ok) | with_reducible (apply State.ite_ok) | split | (intro _ _ hok) | (intro _ hok) | (intro _ _ _ hok) | simp only [State.regsOk_mk, State.regsOk_eta])

theorem State.release__ok (s : State) (d i : Nat) (hok : s.regsOk = true) : (State.release_ s d i).regsOk = true := by
  unfold State.release_
  extract_lets
  repeat' (first | with_reducible assumption | with_reducible (apply State.pools_ok) | with_reducible (apply State.forEach_ok) | with_reducible (apply State.off_ok) | with_reducible (apply State.putShp_ok) | with_reducible (apply State.toInst_ok) | with_reducible (apply State.updInst_ok) | with_reducible (apply State.ite_ok) | split | (intro _ _ hok) | (intro _ hok) | (intro _ _ _ hok) | simp only [State.regsOk_mk, State.regsOk_eta])

theorem State.resetEnd_ok (s : State) (d i : Nat) (hok : s.regsOk = true) : (State.resetEnd s d i).regsOk = true := by
  unfold State.resetEnd
  repeat' (first | with_reducible assumption | with_reducible (apply State.pnDone_ok) | with_reducible (apply State.toInst_ok) | with_reducible (apply State.updInst_ok) | with_reducible (apply State.release__ok) | with_reducible (apply State.ite_ok) | split | (intro _ _ hok) | (intro _ hok) | (intro _ _ _ hok) | simp only [State.regsOk_mk, State.regsOk_eta])

theorem State.resetGo_ok (s : State) (d i : Nat) (run : Option PnRun) (remove : Bool) (hok : s.regsOk = true) : (State.resetGo s d i run remove).regsOk = true := by
  unfold State.resetGo
  extract_lets
  repeat' (first | with_reducible assumption | with_reducible (apply State.raiseGen_ok) | with_reducible (apply State.toInst_ok) | with_reducible (apply State.updInst_ok) | with_reducible (apply State.resetEnd_ok) | with_reducible (apply State.ite_ok) | split | (intro _ _ hok) | (intro _ hok) | (intro _ _ _ hok) | simp only [State.regsOk_mk, State.regsOk_eta])

theorem State.resetNext_ok (s : State) (d i : Nat) (hok : s.regsOk = true) : (State.resetNext s d i).regsOk = true := by
  unfold State.resetNext
  repeat' (first | assumption | simp only [State.updInst_ok, State.resetGo_ok, State.regsOk_mk, State.regsOk_eta, apply_ite State.regsOk, ite_self, implies_true, eq_self, hok] | split)

theorem State.staleZero_ok (s : State) (d i : Nat) (hok : s.regsOk = true) : (State.staleZero s d i).regsOk = true := by
  simp only [State.staleZero, State.resetEnd_ok, State.resetNext_ok, State.regsOk_mk, State.regsOk_eta, apply_ite State.regsOk, ite_self, implies_true, eq_self, hok]

theorem State.resetAsk_ok (s : State) (d i : Nat) (r : PnRun) (hok : s.regsOk = true) : (State.resetAsk s d i r).regsOk = true := by
  simp only [State.resetAsk, State.updInst_ok, State.resetGo_ok, State.regsOk_mk, State.regsOk_eta, apply_ite State.regsOk, ite_self, implies_true, eq_self, hok]

theorem State.instReset_ok (s : State) (p : Nat) (hok : s.regsOk = true) : (State.instReset s p).regsOk = true := by
  unfold State.instReset
  extract_lets
  repeat' (first | with_reducible assumption | with_reducible (apply State.forEach_ok) | with_reducible (apply State.pnDone_ok) | with_reducible (apply State.useFree_ok) | with_reducible (apply State.updInst_ok) | with_reducible (apply State.resetGo_ok) | with_reducible (apply State.resetNext_ok) | with_reducible (apply State.ite_ok) | split | (intro _ _ hok) | (intro _ hok) | (intro _ _ _ hok) | simp only [State.regsOk_mk, State.regsOk_eta])

theorem State.freeze_ok (s : State) (d i chan : Nat) (hok : s.regsOk = true) : (State.freeze s d i chan).regsOk = true := by
  unfold State.freeze
  extract_lets
  repeat' (first | with_reducible assumption | with_reducible (apply State.forEach_ok) | with_reducible (apply State.dropUnstarted_ok) | with_reducible (apply State.toInst_ok) | with_reducible (apply State.updInst_ok) | with_reducible (apply State.ite_ok) | split | (intro _ _ hok) | (intro _ hok) | (intro _ _ _ hok) | simp only [State.regsOk_mk, State.regsOk_eta])

theorem State.frozen_ok (s : State) (d i : Nat) (hok : s.regsOk = true) : (State.frozen s d i).regsOk = true := by
  unfold State.frozen
  repeat' (first | with_reducible assumption | with_reducible (apply State.forEach_ok) | with_reducible (apply State.toQst_ok) | with_reducible (apply State.updDq_ok) | with_reducible (apply State.putShp_ok) | with_reducible (apply State.toInst_ok) | with_reducible (apply State.pnDone_ok) | with_reducible (apply State.updInst_ok) | with_reducible (apply State.resetNext_ok) | with_reducible (apply State.ite_ok) | split | (intro _ _ hok) | (intro _ hok) | (intro _ _ _ hok) | simp only [State.regsOk_mk, State.regsOk_eta])

theorem State.ringAll_ok (s : State) (d i : Nat) (paused : Bool) (hok : s.regsOk = true) : (State.ringAll s d i paused).regsOk = true := by
  unfold State.ringAll
  repeat' (first | with_reducible assumption | with_reducible (apply State.forEach_ok) | with_reducible (apply State.doorbell_ok) | with_reducible (apply State.settleQueue_ok) | with_reducible (apply State.dmRead_ok) | with_reducible (apply State.startHeld_ok) | with_reducible (apply State.ite_ok) | split | (intro _ _ hok) | (intro _ hok) | (intro _ _ _ hok) | simp only [State.regsOk_mk, State.regsOk_eta])

theorem State.freezeFail_ok (s : State) (d i : Nat) (hok : s.regsOk = true) : (State.freezeFail s d i).regsOk = true := by
  unfold State.freezeFail
  dsimp only
  repeat' (first | with_reducible assumption | with_reducible (apply State.toInst_ok) | with_reducible (apply State.ringAll_ok) | with_reducible (apply State.inc_ok) | with_reducible (apply State.ev_ok) | with_reducible (apply State.pnDone_ok) | with_reducible (apply State.updInst_ok) | with_reducible (apply State.resetNext_ok) | with_reducible (apply State.ite_ok) | split | (intro _ _ hok) | (intro _ hok) | (intro _ _ _ hok) | simp only [State.regsOk_mk, State.regsOk_eta])

theorem State.thaw_ok (s : State) (d i : Nat) (hok : s.regsOk = true) : (State.thaw s d i).regsOk = true := by
  unfold State.thaw
  repeat' (first | with_reducible assumption | with_reducible (apply State.forEach_ok) | with_reducible (apply State.putShp_ok) | with_reducible (apply State.toInst_ok) | with_reducible (apply State.ringAll_ok) | with_reducible (apply State.ite_ok) | split | (intro _ _ hok) | (intro _ hok) | (intro _ _ _ hok) | simp only [State.regsOk_mk, State.regsOk_eta])

theorem State.save_ok (s : State) (d i chan : Nat) (hok : s.regsOk = true) : (State.save s d i chan).regsOk = true := by
  unfold State.save
  extract_lets
  repeat' (first | with_reducible assumption | with_reducible (apply State.wake_ok) | with_reducible (apply State.replicate_ok) | with_reducible (apply State.forEach_ok) | with_reducible (apply State.wr_ok) | with_reducible (apply State.updInst_ok) | with_reducible (apply State.ite_ok) | split | (intro _ _ hok) | (intro _ hok) | (intro _ _ _ hok) | simp only [State.regsOk_mk, State.regsOk_eta])

theorem State.saveNext_ok (s : State) (d i : Nat) (hok : s.regsOk = true) : (State.saveNext s d i).regsOk = true := by
  unfold State.saveNext
  repeat' (first | with_reducible assumption | with_reducible (apply State.save_ok) | with_reducible (apply State.updInst_ok) | with_reducible (apply State.pnDone_ok) | with_reducible (apply State.resetNext_ok) | with_reducible (apply State.ite_ok) | split | (intro _ _ hok) | (intro _ hok) | (intro _ _ _ hok) | simp only [State.regsOk_mk, State.regsOk_eta])

theorem State.shpEffect_ok (s : State) (d : Nat) (hok : s.regsOk = true) : (State.shpEffect s d).regsOk = true := by
  unfold State.shpEffect
  extract_lets
  repeat' (first | with_reducible assumption | with_reducible (apply State.forEach_ok) | with_reducible (apply State.shpWrite_ok) | with_reducible (apply State.off_ok) | with_reducible (apply State.saveNext_ok) | with_reducible (apply State.ite_ok) | split | (intro _ _ hok) | (intro _ hok) | (intro _ _ _ hok) | simp only [State.regsOk_mk, State.regsOk_eta])

theorem State.restoreQueue_ok (s : State) (d i q : Nat) (r : List Nat) (hok : s.regsOk = true) : (State.restoreQueue s d i q r).regsOk = true := by
  unfold State.restoreQueue
  extract_lets
  repeat' (first | with_reducible assumption | with_reducible (apply State.toQst_ok) | with_reducible (apply State.off_ok) | with_reducible (apply State.wr_ok) | with_reducible (apply State.wrB_ok) | with_reducible (apply State.updDq_ok) | with_reducible (apply State.showQ_ok) | with_reducible (apply State.ite_ok) | split | (intro _ _ hok) | (intro _ hok) | (intro _ _ _ hok) | simp only [State.regsOk_mk, State.regsOk_eta])

theorem State.restoreShaper_ok (s : State) (d j : Nat) (r : List Nat) (hok : s.regsOk = true) : (State.restoreShaper s d j r).regsOk = true := by
  simp only [State.restoreShaper, State.putShp_ok, State.showShps_ok, State.regsOk_mk, State.regsOk_eta, apply_ite State.regsOk, ite_self, implies_true, eq_self, hok]

theorem State.restoreCounter_ok (s : State) (d k : Nat) (r : List Nat) (hok : s.regsOk = true) : (State.restoreCounter s d k r).regsOk = true := by
  simp only [State.restoreCounter, State.wr_ok, State.cntSet_ok, State.regsOk_mk, State.regsOk_eta, apply_ite State.regsOk, ite_self, implies_true, eq_self, hok]

theorem State.restore_ok (s : State) (d i chan : Nat) (hok : s.regsOk = true) : (State.restore s d i chan).regsOk = true := by
  unfold State.restore
  extract_lets
  repeat' (first | with_reducible assumption | with_reducible (apply State.forEach_ok) | with_reducible (apply State.restoreQueue_ok) | with_reducible (apply State.restoreShaper_ok) | with_reducible (apply State.restoreCounter_ok) | with_reducible (apply State.toInst_ok) | with_reducible (apply State.ite_ok) | split | (intro _ _ hok) | (intro _ hok) | (intro _ _ _ hok) | simp only [State.regsOk_mk, State.regsOk_eta])

theorem State.wrAll_ok (s : State) (l : Loc) (vs : List (Fld × Nat)) (hok : s.regsOk = true) : (State.wrAll s l vs).regsOk = true := by
  unfold State.wrAll
  repeat' (first | with_reducible assumption | with_reducible (apply State.forEach_ok) | with_reducible (apply State.wr_ok) | with_reducible (apply State.ite_ok) | split | (intro _ _ hok) | (intro _ hok) | (intro _ _ _ hok) | simp only [State.regsOk_mk, State.regsOk_eta])

theorem State.setQueue_ok (s : State) (d i j chan : Nat) (hok : s.regsOk = true) : (State.setQueue s d i j chan).2.regsOk = true := by
  unfold State.setQueue
  extract_lets
  repeat' (first | with_reducible assumption | with_reducible (apply State.wrAll_ok) | with_reducible (apply State.updDq_ok) | with_reducible (apply State.off_ok) | with_reducible (apply State.wr_ok) | with_reducible (apply State.queueDisable_ok) | with_reducible (apply State.enableRefused_ok) | with_reducible (apply State.queueEnable_ok) | with_reducible (apply State.ite_ok) | split | (intro _ _ hok) | (intro _ hok) | (intro _ _ _ hok) | simp only [State.regsOk_mk, State.regsOk_eta])

theorem State.setQueue_ok' {s : State} {d i j chan : Nat} {xa xs}
    (hx : State.setQueue s d i j chan = (xa, xs)) (hok : s.regsOk = true) : xs.regsOk = true := by
  have := State.setQueue_ok s d i j chan hok
  rw [hx] at this
  exact this

theorem State.setShaper_ok (s : State) (d i j chan tok : Nat) (hok : s.regsOk = true) : (State.setShaper s d i j chan tok).2.regsOk = true := by
  unfold State.setShaper
  repeat' (first | assumption | simp only [State.regsOk_mk, State.regsOk_eta, apply_ite State.regsOk, ite_self, implies_true, eq_self, hok] | split)

theorem State.setShaper_ok' {s : State} {d i j chan tok : Nat} {xa xs}
    (hx : State.setShaper s d i j chan tok = (xa, xs)) (hok : s.regsOk = true) : xs.regsOk = true := by
  have := State.setShaper_ok s d i j chan tok hok
  rw [hx] at this
  exact this

theorem State.setCounter_ok (s : State) (d i k chan : Nat) (hok : s.regsOk = true) : (State.setCounter s d i k chan).2.regsOk = true := by
  unfold State.setCounter
  extract_lets
  repeat' (first | with_reducible assumption | with_reducible (apply State.wr_ok) | with_reducible (apply State.cntSet_ok) | with_reducible (apply State.ite_ok) | split | (intro _ _ hok) | (intro _ hok) | (intro _ _ _ hok) | simp only [State.regsOk_mk, State.regsOk_eta])

theorem State.setCounter_ok' {s : State} {d i k chan : Nat} {xa xs}
    (hx : State.setCounter s d i k chan = (xa, xs)) (hok : s.regsOk = true) : xs.regsOk = true := by
  have := State.setCounter_ok s d i k chan hok
  rw [hx] at this
  exact this

theorem State.pnCmd_ok (s : State) (d chan : Nat) (c : PnCmd) (states : List Nat) (f : State → State) (hf : ∀ s, State.regsOk s = true → (f s).regsOk = true) (hok : s.regsOk = true) : (State.pnCmd s d chan c states f).regsOk = true := by
  unfold State.pnCmd
  repeat' (first | with_reducible assumption | with_reducible (apply State.pnGo_ok) | with_reducible (apply State.pnDone_ok) | (with_reducible apply hf) | with_reducible (apply State.ite_ok) | split | (intro _ _ hok) | (intro _ hok) | (intro _ _ _ hok) | simp only [State.regsOk_mk, State.regsOk_eta])

theorem State.pnRead_ok (s : State) (d chan : Nat) (c : PnCmd) (hok : s.regsOk = true) : (State.pnRead s d chan c).regsOk = true := by
  unfold State.pnRead
  repeat' (first | with_reducible assumption | with_reducible (apply State.pnCmd_ok) | with_reducible (apply State.forEach_ok) | with_reducible (apply State.wr_ok) | with_reducible (apply State.pnDone_ok) | with_reducible (apply State.ite_ok) | split | (intro _ _ hok) | (intro _ hok) | (intro _ _ _ hok) | simp only [State.regsOk_mk, State.regsOk_eta])

theorem State.pnCreate_ok (s : State) (d chan : Nat) (c : PnCmd) (hok : s.regsOk = true) : (State.pnCreate s d chan c).regsOk = true := by
  unfold State.pnCreate
  repeat' (first | with_reducible assumption | with_reducible (apply State.pnGo_ok) | with_reducible (apply State.pnDone_ok) | with_reducible (apply State.carve_ok) | with_reducible (apply State.ite_ok) | split | (intro _ _ hok) | (intro _ hok) | (intro _ _ _ hok) | simp only [State.regsOk_mk, State.regsOk_eta])

theorem State.pnRemove_ok (s : State) (d chan : Nat) (c : PnCmd) (hok : s.regsOk = true) : (State.pnRemove s d chan c).regsOk = true := by
  unfold State.pnRemove
  repeat' (first | with_reducible assumption | with_reducible (apply State.pnGo_ok) | with_reducible (apply State.pnDone_ok) | with_reducible (apply State.resetAsk_ok) | with_reducible (apply State.ite_ok) | split | (intro _ _ hok) | (intro _ hok) | (intro _ _ _ hok) | simp only [State.regsOk_mk, State.regsOk_eta])

theorem State.pnEnd_ok (chan d : Nat) (r : Nat × State) (hok : r.2.regsOk = true) : (State.pnEnd chan d r).regsOk = true :=
  State.pnDone_ok _ _ _ _ hok

theorem State.pnSave_ok (s : State) (d chan i : Nat) (hok : s.regsOk = true) : (State.pnSave s d chan i).regsOk = true := by
  simp only [State.pnSave, State.pnDone_ok, State.updInst_ok, State.saveNext_ok, State.regsOk_mk, State.regsOk_eta, apply_ite State.regsOk, ite_self, implies_true, eq_self, hok]

theorem State.pnRestore_ok (s : State) (d chan i : Nat) (hok : s.regsOk = true) : (State.pnRestore s d chan i).regsOk = true := by
  simp only [State.pnRestore, State.pnDone_ok, State.restore_ok, State.regsOk_mk, State.regsOk_eta, apply_ite State.regsOk, ite_self, implies_true, eq_self, hok]

theorem State.pnDo_ok (s : State) (d chan : Nat) (c : PnCmd) (hok : s.regsOk = true) : (State.pnDo s d chan c).regsOk = true := by
  unfold State.pnDo
  extract_lets
  repeat' (first | with_reducible assumption | with_reducible (apply State.pnRead_ok) | with_reducible (apply State.pnCreate_ok) | with_reducible (apply State.pnRemove_ok) | with_reducible (apply State.pnCmd_ok) | with_reducible (apply State.resetAsk_ok) | with_reducible (apply State.pnEnd_ok) | with_reducible (apply State.setQueue_ok) | with_reducible (apply State.setShaper_ok) | with_reducible (apply State.setCounter_ok) | with_reducible (apply State.freeze_ok) | with_reducible (apply State.pnSave_ok) | with_reducible (apply State.pnRestore_ok) | with_reducible (apply State.thaw_ok) | with_reducible (apply State.pnDone_ok) | with_reducible (apply State.pnGo_ok) | with_reducible (exact State.setQueue_ok' (by assumption) (by assumption)) | (refine State.setQueue_ok' (by assumption) ?_) | with_reducible (exact State.setShaper_ok' (by assumption) (by assumption)) | (refine State.setShaper_ok' (by assumption) ?_) | with_reducible (exact State.setCounter_ok' (by assumption) (by assumption)) | (refine State.setCounter_ok' (by assumption) ?_) | with_reducible (apply State.ite_ok) | split | (intro _ _ hok) | (intro _ hok) | (intro _ _ _ hok) | simp only [State.regsOk_mk, State.regsOk_eta])

end Sys2Proof.Machine
end

