-- ==== Sys2Proof/Laws/Channels.lean ====
section
/-! SUPPORT. What the operations of Machine/Channels.lean leave alone: the part, the waiting commands, the blown life-cycle fuses, and the
canonical form of the register file. -/

namespace Sys2Proof.Machine
set_option linter.unusedSimpArgs false
set_option linter.unusedVariables false
set_option linter.unreachableTactic false
set_option linter.unusedTactic false
set_option linter.style.nameCheck false

theorem State.updChan_core (s : State) (d c : Nat) (f : Chan → Chan) : (State.updChan s d c f).core = s.core := by
  simp only [State.updChan, ↓State.wr_core, ↓State.wrB_core, State.core_mk, State.core_eta, ↓apply_ite State.core, ite_self, implies_true, eq_self]

theorem State.updWarden_core (s : State) (d : Nat) (f : WardenSt → WardenSt) : (State.updWarden s d f).core = s.core := by
  simp only [State.updWarden, State.core_mk, State.core_eta, ↓apply_ite State.core, ite_self, implies_true, eq_self]

theorem State.respond_core (s : State) (d c : Nat) (rc : Rc) (r : Reply) : (State.respond s d c rc r).core = s.core := by
  unfold State.respond
  repeat' split
  all_goals simp only [↓State.updChan_core, ↓State.emit_core, State.core_mk, State.core_eta, ↓apply_ite State.core, ite_self, implies_true, eq_self]

theorem State.bgDone_core (s : State) (d c : Nat) (rc : Rc) : (State.bgDone s d c rc).core = s.core := by
  unfold State.bgDone
  repeat' split
  all_goals simp only [↓State.updChan_core, ↓State.emit_core, State.core_mk, State.core_eta, ↓apply_ite State.core, ite_self, implies_true, eq_self]

theorem State.bgReportAll_core (s : State) (d : Nat) : (State.bgReportAll s d).core = s.core := by
  unfold State.bgReportAll
  repeat' (first | with_reducible rfl | simp only [↓State.forEach_core, ↓State.bgDone_core, State.core_mk, State.core_eta, ↓apply_ite State.core, ite_self, implies_true, eq_self] | split | (refine (State.forEach_core _ _ _ (fun s a => ?_)).trans ?_))

theorem State.turnAway_core (s : State) (d c : Nat) (cmd : Cmd) (rc : Rc) : (State.turnAway s d c cmd rc).core = s.core := by
  unfold State.turnAway
  repeat' split
  all_goals simp only [↓State.updChan_core, ↓State.emit_core, State.core_mk, State.core_eta, ↓apply_ite State.core, ite_self, implies_true, eq_self]

theorem State.rejectBusy_core (s : State) (d c : Nat) (cmd : Cmd) : (State.rejectBusy s d c cmd).core = s.core := by
  simp only [State.rejectBusy, ↓State.inc_core, ↓State.ev_core, ↓State.pm_core, ↓State.updWarden_core, ↓State.turnAway_core, State.core_mk, State.core_eta, ↓apply_ite State.core, ite_self, implies_true, eq_self]

theorem State.acceptCmd_core (s : State) (d c : Nat) (cmd : Cmd) : (State.acceptCmd s d c cmd).core = s.core := by
  simp only [State.acceptCmd, ↓State.when_core, ↓State.wake_core, ↓State.turnAway_core, ↓State.rejectBusy_core, ↓State.updChan_core, ↓State.pm_core, State.core_mk, State.core_eta, ↓apply_ite State.core, ite_self, implies_true, eq_self]

theorem State.hostSlot_core (s : State) (k n opcode : Nat) (b : List Nat) : (State.hostSlot s k n opcode b).core = s.core := by
  simp only [State.hostSlot, ↓State.updChan_core, State.core_mk, State.core_eta, ↓apply_ite State.core, ite_self, implies_true, eq_self]

theorem State.slotBell_core (s : State) (k n : Nat) : (State.slotBell s k n).core = s.core := by
  simp only [State.slotBell, ↓State.inc_core, ↓State.acceptCmd_core, State.core_mk, State.core_eta, ↓apply_ite State.core, ite_self, implies_true, eq_self]

theorem State.updChan_ok (s : State) (d c : Nat) (f : Chan → Chan) (hok : s.regsOk = true) : (State.updChan s d c f).regsOk = true := by
  simp only [State.updChan, State.wr_ok, State.wrB_ok, State.regsOk_mk, State.regsOk_eta, apply_ite State.regsOk, ite_self, implies_true, eq_self, hok]

theorem State.updWarden_ok (s : State) (d : Nat) (f : WardenSt → WardenSt) (hok : s.regsOk = true) : (State.updWarden s d f).regsOk = true := by
  simp only [State.updWarden, State.regsOk_mk, State.regsOk_eta, apply_ite State.regsOk, ite_self, implies_true, eq_self, hok]

theorem State.respond_ok (s : State) (d c : Nat) (rc : Rc) (r : Reply) (hok : s.regsOk = true) : (State.respond s d c rc r).regsOk = true := by
  unfold State.respond
  repeat' (first | with_reducible assumption | with_reducible (apply State.updChan_ok) | with_reducible (apply State.emit_ok) | with_reducible (apply State.ite_ok) | split | (intro _ _ hok) | (intro _ hok) | (intro _ _ _ hok) | simp only [State.regsOk_mk, State.regsOk_eta])

theorem State.bgDone_ok (s : State) (d c : Nat) (rc : Rc) (hok : s.regsOk = true) : (State.bgDone s d c rc).regsOk = true := by
  unfold State.bgDone
  repeat' split
  all_goals simp only [State.updChan_ok, State.emit_ok, State.regsOk_mk, State.regsOk_eta, apply_ite State.regsOk, ite_self, implies_true, eq_self, hok]

theorem State.bgReportAll_ok (s : State) (d : Nat) (hok : s.regsOk = true) : (State.bgReportAll s d).regsOk = true := by
  unfold State.bgReportAll
  repeat' (first | assumption | simp only [State.forEach_ok, State.bgDone_ok, State.regsOk_mk, State.regsOk_eta, apply_ite State.regsOk, ite_self, implies_true, eq_self, hok] | split | (refine State.forEach_ok _ _ _ (fun s a hok => ?_) ?_))

theorem State.turnAway_ok (s : State) (d c : Nat) (cmd : Cmd) (rc : Rc) (hok : s.regsOk = true) : (State.turnAway s d c cmd rc).regsOk = true := by
  unfold State.turnAway
  extract_lets
  repeat' (first | with_reducible assumption | with_reducible (apply State.updChan_ok) | with_reducible (apply State.emit_ok) | with_reducible (apply State.ite_ok) | split | (intro _ _ hok) | (intro _ hok) | (intro _ _ _ hok) | simp only [State.regsOk_mk, State.regsOk_eta])

theorem State.rejectBusy_ok (s : State) (d c : Nat) (cmd : Cmd) (hok : s.regsOk = true) : (State.rejectBusy s d c cmd).regsOk = true := by
  unfold State.rejectBusy
  extract_lets
  repeat' (first | with_reducible assumption | with_reducible (apply State.inc_ok) | with_reducible (apply State.ev_ok) | with_reducible (apply State.pm_ok) | with_reducible (apply State.updWarden_ok) | with_reducible (apply State.turnAway_ok) | with_reducible (apply State.ite_ok) | split | (intro _ _ hok) | (intro _ hok) | (intro _ _ _ hok) | simp only [State.regsOk_mk, State.regsOk_eta])

theorem State.acceptCmd_ok (s : State) (d c : Nat) (cmd : Cmd) (hok : s.regsOk = true) : (State.acceptCmd s d c cmd).regsOk = true := by
  unfold State.acceptCmd
  extract_lets
  repeat' (first | with_reducible assumption | with_reducible (apply State.when_ok) | with_reducible (apply State.wake_ok) | with_reducible (apply State.turnAway_ok) | with_reducible (apply State.rejectBusy_ok) | with_reducible (apply State.updChan_ok) | with_reducible (apply State.pm_ok) | with_reducible (apply State.ite_ok) | split | (intro _ _ hok) | (intro _ hok) | (intro _ _ _ hok) | simp only [State.regsOk_mk, State.regsOk_eta])

theorem State.hostSlot_ok (s : State) (k n opcode : Nat) (b : List Nat) (hok : s.regsOk = true) : (State.hostSlot s k n opcode b).regsOk = true := by
  simp only [State.hostSlot, State.updChan_ok, State.regsOk_mk, State.regsOk_eta, apply_ite State.regsOk, ite_self, implies_true, eq_self, hok]

theorem State.slotBell_ok (s : State) (k n : Nat) (hok : s.regsOk = true) : (State.slotBell s k n).regsOk = true := by
  simp only [State.slotBell, State.inc_ok, State.acceptCmd_ok, State.regsOk_mk, State.regsOk_eta, apply_ite State.regsOk, ite_self, implies_true, eq_self, hok]

end Sys2Proof.Machine
end

