-- ==== Sys2Proof/Laws/Pages.lean ====
section
/-! SUPPORT. What the operations of Machine/Pages.lean leave alone: the part, the waiting commands, the blown life-cycle fuses, and the
canonical form of the register file. -/

namespace Sys2Proof.Machine
set_option linter.unusedSimpArgs false
set_option linter.unusedVariables false
set_option linter.unreachableTactic false
set_option linter.unusedTactic false
set_option linter.style.nameCheck false

theorem State.onPage_core (s : State) (src : Src) (d i j : Nat) (db : Bool) (f : Nat → State → State) (hf : ∀ n s, (f n s).core = s.core) : (State.onPage s src d i j db f).core = s.core := by
  unfold State.onPage
  repeat' (first | with_reducible rfl | simp only [↓State.inc_core, hf, State.core_mk, State.core_eta, ↓apply_ite State.core, ite_self, implies_true, eq_self] | split)

theorem State.cntCapture_core (s : State) (d k : Nat) : (State.cntCapture s d k).core = s.core := by
  simp only [State.cntCapture, ↓State.wr_core, ↓State.wr64_core, State.core_mk, State.core_eta, ↓apply_ite State.core, ite_self, implies_true, eq_self]

theorem State.pageCtrl_core (s : State) (d q v : Nat) : (State.pageCtrl s d q v).core = s.core := by
  simp only [State.pageCtrl, ↓State.queuePause_core, ↓State.queueUnpause_core, ↓State.queueResume_core, ↓State.queueInvalidate_core, State.core_mk, State.core_eta, ↓apply_ite State.core, ite_self, implies_true, eq_self]

theorem State.pageWrite_core (s : State) (src : Src) (d i o v : Nat) : (State.pageWrite s src d i o v).core = s.core := by
  unfold State.pageWrite
  repeat' split
  all_goals simp only [↓State.onPage_core, ↓State.doorbell_core, ↓State.cqHead_core, ↓State.pageCtrl_core, State.core_mk, State.core_eta, ↓apply_ite State.core, ite_self, implies_true, eq_self]

theorem State.pageRead_core (s : State) (d i o : Nat) : (State.pageRead s d i o).2.core = s.core := by
  unfold State.pageRead
  repeat' (first | with_reducible rfl | simp only [↓State.cntCapture_core, State.core_mk, State.core_eta, ↓apply_ite State.core, ite_self, implies_true, eq_self] | split)

theorem State.pageRead_core' {s : State} {d i o : Nat} {xa xs}
    (hx : (State.pageRead s d i o) = (xa, xs)) : xs.core = s.core := by
  have := State.pageRead_core s d i o
  rw [hx] at this
  exact this

theorem State.pnWrite_core (s : State) (l : Loc) (v : Nat) : (State.pnWrite s l v).core = s.core := by
  simp only [State.pnWrite, ↓State.pnDo_core, ↓State.gated_core, ↓State.wr_core, State.core_mk, State.core_eta, ↓apply_ite State.core, ite_self, implies_true, eq_self]

theorem State.winWrite_core (s : State) (d chan o v : Nat) : (State.winWrite s d chan o v).core = s.core := by
  unfold State.winWrite
  repeat' split
  all_goals simp only [↓State.pnWrite_core, ↓State.gated_core, ↓State.wr_core, State.core_mk, State.core_eta, ↓apply_ite State.core, ite_self, implies_true, eq_self]

theorem State.barWrite_core (s : State) (v : Fin 128) (o x : Nat) : (State.barWrite s v o x).core = s.core := by
  simp only [State.barWrite, ↓State.pageWrite_core, ↓State.winWrite_core, State.core_mk, State.core_eta, ↓apply_ite State.core, ite_self, implies_true, eq_self]

theorem State.barRead_core (s : State) (v : Fin 128) (o : Nat) : (State.barRead s v o).2.core = s.core := by
  unfold State.barRead
  repeat' (first | with_reducible rfl | simp only [↓State.pageRead_core, State.core_mk, State.core_eta, ↓apply_ite State.core, ite_self, implies_true, eq_self] | split | (refine (State.pageRead_core' (by assumption)).trans ?_))

theorem State.barRead_core' {s : State} {v : Fin 128} {o : Nat} {xa xs}
    (hx : (State.barRead s v o) = (xa, xs)) : xs.core = s.core := by
  have := State.barRead_core s v o
  rw [hx] at this
  exact this

theorem State.barData_core (s : State) (rd : State → Nat → Nat × State) (o len : Nat) (hr : ∀ s a, (rd s a).2.core = s.core) :
    (State.barData s rd o len).2.core = s.core := by
  unfold State.barData
  refine State.foldPair_core _ _ (fun r a => ?_) _
  exact hr r.2 a

theorem State.barServe_core (s : State) (d t : Nat) (m : Msg) (o : Nat) (rd : State → Nat → Nat × State) (wr : State → Nat → Nat → State)
    (hr : ∀ s a, (rd s a).2.core = s.core) (hw : ∀ s a x, (wr s a x).core = s.core) : (State.barServe s d t m o rd wr).core = s.core := by
  unfold State.barServe
  dsimp only
  split
  · simp only [State.complete_core, State.barData_core _ _ _ _ hr, State.putTrk_core]
  · split
    · simp only [State.complete_core, State.putTrk_core, State.forEach_core _ _ _ fun s a => hw s a _]
    · exact State.forEach_core _ _ _ fun s a => hw s a _

theorem State.barAccess_core (s : State) (d : Nat) (mid : Option Nat) (t : Nat) (m : Msg) : (State.barAccess s d mid t m).core = s.core := by
  unfold State.barAccess
  dsimp only
  split
  · simp only [State.wake_core, State.freeCopy_core]
  · rw [State.barServe_core]
    · simp only [State.wake_core, State.freeCopy_core]
    · exact fun s a => State.barRead_core s _ a
    · intro s a x
      split
      · rfl
      · exact State.barWrite_core s _ a x

theorem State.slotRead_core (s : State) (k n o : Nat) : (State.slotRead s k n o).2.core = s.core := by
  unfold State.slotRead
  repeat' (first | with_reducible rfl | simp only [↓State.useFree_core, State.core_mk, State.core_eta, ↓apply_ite State.core, ite_self, implies_true, eq_self] | split)

theorem State.slotRead_core' {s : State} {k n o : Nat} {xa xs}
    (hx : (State.slotRead s k n o) = (xa, xs)) : xs.core = s.core := by
  have := State.slotRead_core s k n o
  rw [hx] at this
  exact this

theorem State.slotWrite_core (s : State) (k n o v : Nat) : (State.slotWrite s k n o v).core = s.core := by
  simp only [State.slotWrite, ↓State.updChan_core, State.core_mk, State.core_eta, ↓apply_ite State.core, ite_self, implies_true, eq_self]

theorem State.mboxRead_core (s : State) (k o : Nat) : (State.mboxRead s k o).2.core = s.core := by
  unfold State.mboxRead
  repeat' split
  all_goals simp only [↓State.useFree_core, ↓State.slotRead_core, State.core_mk, State.core_eta, ↓apply_ite State.core, ite_self, implies_true, eq_self]

theorem State.mboxRead_core' {s : State} {k o : Nat} {xa xs}
    (hx : (State.mboxRead s k o) = (xa, xs)) : xs.core = s.core := by
  have := State.mboxRead_core s k o
  rw [hx] at this
  exact this

theorem State.mboxWrite_core (s : State) (k o v : Nat) : (State.mboxWrite s k o v).core = s.core := by
  simp only [State.mboxWrite, ↓State.slotBell_core, ↓State.slotWrite_core, State.core_mk, State.core_eta, ↓apply_ite State.core, ite_self, implies_true, eq_self]

theorem State.mboxAccess_core (s : State) (d : Nat) (mid : Option Nat) (t : Nat) (m : Msg) : (State.mboxAccess s d mid t m).core = s.core := by
  unfold State.mboxAccess
  dsimp only
  split
  · rw [State.barServe_core]
    · simp only [State.wake_core, State.freeCopy_core]
    · exact fun s a => State.mboxRead_core s _ a
    · exact fun s a x => State.mboxWrite_core s _ a x
  · simp only [State.wake_core, State.freeCopy_core]

theorem State.onPage_ok (s : State) (src : Src) (d i j : Nat) (db : Bool) (f : Nat → State → State) (hf : ∀ n s, State.regsOk s = true → (f n s).regsOk = true) (hok : s.regsOk = true) : (State.onPage s src d i j db f).regsOk = true := by
  unfold State.onPage
  repeat' (first | assumption | simp only [State.inc_ok, hf, State.regsOk_mk, State.regsOk_eta, apply_ite State.regsOk, ite_self, implies_true, eq_self, hok] | split)

theorem State.cntCapture_ok (s : State) (d k : Nat) (hok : s.regsOk = true) : (State.cntCapture s d k).regsOk = true := by
  unfold State.cntCapture
  repeat' (first | with_reducible assumption | with_reducible (apply State.wr_ok) | with_reducible (apply State.wr64_ok) | with_reducible (apply State.ite_ok) | split | (intro _ _ hok) | (intro _ hok) | (intro _ _ _ hok) | simp only [State.regsOk_mk, State.regsOk_eta])

theorem State.pageCtrl_ok (s : State) (d q v : Nat) (hok : s.regsOk = true) : (State.pageCtrl s d q v).regsOk = true := by
  unfold State.pageCtrl
  extract_lets
  repeat' (first | with_reducible assumption | with_reducible (apply State.queuePause_ok) | with_reducible (apply State.queueUnpause_ok) | with_reducible (apply State.queueResume_ok) | with_reducible (apply State.queueInvalidate_ok) | with_reducible (apply State.ite_ok) | split | (intro _ _ hok) | (intro _ hok) | (intro _ _ _ hok) | simp only [State.regsOk_mk, State.regsOk_eta])

theorem State.pageWrite_ok (s : State) (src : Src) (d i o v : Nat) (hok : s.regsOk = true) : (State.pageWrite s src d i o v).regsOk = true := by
  unfold State.pageWrite
  repeat' (first | with_reducible assumption | with_reducible (apply State.onPage_ok) | with_reducible (apply State.doorbell_ok) | with_reducible (apply State.cqHead_ok) | with_reducible (apply State.pageCtrl_ok) | with_reducible (apply State.ite_ok) | split | (intro _ _ hok) | (intro _ hok) | (intro _ _ _ hok) | simp only [State.regsOk_mk, State.regsOk_eta])

theorem State.pageRead_ok (s : State) (d i o : Nat) (hok : s.regsOk = true) : (State.pageRead s d i o).2.regsOk = true := by
  unfold State.pageRead
  repeat' (first | assumption | simp only [State.cntCapture_ok, State.regsOk_mk, State.regsOk_eta, apply_ite State.regsOk, ite_self, implies_true, eq_self, hok] | split)

theorem State.pageRead_ok' {s : State} {d i o : Nat} {xa xs}
    (hx : State.pageRead s d i o = (xa, xs)) (hok : s.regsOk = true) : xs.regsOk = true := by
  have := State.pageRead_ok s d i o hok
  rw [hx] at this
  exact this

theorem State.pnWrite_ok (s : State) (l : Loc) (v : Nat) (hok : s.regsOk = true) : (State.pnWrite s l v).regsOk = true := by
  unfold State.pnWrite
  repeat' (first | with_reducible assumption | with_reducible (apply State.pnDo_ok) | with_reducible (apply State.gated_ok) | with_reducible (apply State.wr_ok) | with_reducible (apply State.ite_ok) | split | (intro _ _ hok) | (intro _ hok) | (intro _ _ _ hok) | simp only [State.regsOk_mk, State.regsOk_eta])

theorem State.winWrite_ok (s : State) (d chan o v : Nat) (hok : s.regsOk = true) : (State.winWrite s d chan o v).regsOk = true := by
  unfold State.winWrite
  repeat' (first | with_reducible assumption | with_reducible (apply State.pnWrite_ok) | with_reducible (apply State.gated_ok) | with_reducible (apply State.wr_ok) | with_reducible (apply State.ite_ok) | split | (intro _ _ hok) | (intro _ hok) | (intro _ _ _ hok) | simp only [State.regsOk_mk, State.regsOk_eta])

theorem State.barWrite_ok (s : State) (v : Fin 128) (o x : Nat) (hok : s.regsOk = true) : (State.barWrite s v o x).regsOk = true := by
  simp only [State.barWrite, State.pageWrite_ok, State.winWrite_ok, State.regsOk_mk, State.regsOk_eta, apply_ite State.regsOk, ite_self, implies_true, eq_self, hok]

theorem State.barRead_ok (s : State) (v : Fin 128) (o : Nat) (hok : s.regsOk = true) : (State.barRead s v o).2.regsOk = true := by
  unfold State.barRead
  repeat' (first | assumption | simp only [State.pageRead_ok, State.regsOk_mk, State.regsOk_eta, apply_ite State.regsOk, ite_self, implies_true, eq_self, hok] | split | (refine State.pageRead_ok' (by assumption) ?_))

theorem State.barRead_ok' {s : State} {v : Fin 128} {o : Nat} {xa xs}
    (hx : State.barRead s v o = (xa, xs)) (hok : s.regsOk = true) : xs.regsOk = true := by
  have := State.barRead_ok s v o hok
  rw [hx] at this
  exact this

theorem State.barData_ok (s : State) (rd : State → Nat → Nat × State) (o len : Nat) (hr : ∀ s a, State.regsOk s = true → (rd s a).2.regsOk = true)
    (hok : s.regsOk = true) : (State.barData s rd o len).2.regsOk = true := by
  unfold State.barData
  refine State.foldPair_ok _ _ (fun r a h => ?_) _ hok
  exact hr r.2 a h

theorem State.barServe_ok (s : State) (d t : Nat) (m : Msg) (o : Nat) (rd : State → Nat → Nat × State) (wr : State → Nat → Nat → State)
    (hr : ∀ s a, State.regsOk s = true → (rd s a).2.regsOk = true) (hw : ∀ s a x, State.regsOk s = true → (wr s a x).regsOk = true)
    (hok : s.regsOk = true) : (State.barServe s d t m o rd wr).regsOk = true := by
  have hf : ∀ t : State, t.regsOk = true → (t.forEach (barWords o m.len) fun s a => wr s a (barWord m o a)).regsOk = true :=
    fun t ht => State.forEach_ok _ _ _ (fun s a => hw s a _) ht
  unfold State.barServe
  dsimp only
  split
  · exact State.complete_ok _ _ _ _ _ _ _ _ _ (State.barData_ok _ _ _ _ hr (State.putTrk_ok _ _ _ _ hok))
  · split
    · exact State.complete_ok _ _ _ _ _ _ _ _ _ (State.putTrk_ok _ _ _ _ (hf _ hok))
    · exact hf _ hok

theorem State.barAccess_ok (s : State) (d : Nat) (mid : Option Nat) (t : Nat) (m : Msg) (hok : s.regsOk = true) :
    (State.barAccess s d mid t m).regsOk = true := by
  have hs := State.wake_ok _ d 19 (State.freeCopy_ok s d mid hok)
  unfold State.barAccess
  dsimp only
  split
  · exact hs
  · refine State.barServe_ok _ _ _ _ _ _ _ (fun s a h => State.barRead_ok s _ a h) (fun s a x h => ?_) hs
    split
    · exact h
    · exact State.barWrite_ok s _ a x h

theorem State.slotRead_ok (s : State) (k n o : Nat) (hok : s.regsOk = true) : (State.slotRead s k n o).2.regsOk = true := by
  unfold State.slotRead
  repeat' (first | assumption | simp only [State.useFree_ok, State.regsOk_mk, State.regsOk_eta, apply_ite State.regsOk, ite_self, implies_true, eq_self, hok] | split)

theorem State.slotRead_ok' {s : State} {k n o : Nat} {xa xs}
    (hx : State.slotRead s k n o = (xa, xs)) (hok : s.regsOk = true) : xs.regsOk = true := by
  have := State.slotRead_ok s k n o hok
  rw [hx] at this
  exact this

theorem State.slotWrite_ok (s : State) (k n o v : Nat) (hok : s.regsOk = true) : (State.slotWrite s k n o v).regsOk = true := by
  simp only [State.slotWrite, State.updChan_ok, State.regsOk_mk, State.regsOk_eta, apply_ite State.regsOk, ite_self, implies_true, eq_self, hok]

theorem State.mboxRead_ok (s : State) (k o : Nat) (hok : s.regsOk = true) : (State.mboxRead s k o).2.regsOk = true := by
  unfold State.mboxRead
  repeat' split
  all_goals simp only [State.useFree_ok, State.slotRead_ok, State.regsOk_mk, State.regsOk_eta, apply_ite State.regsOk, ite_self, implies_true, eq_self, hok]

theorem State.mboxRead_ok' {s : State} {k o : Nat} {xa xs}
    (hx : State.mboxRead s k o = (xa, xs)) (hok : s.regsOk = true) : xs.regsOk = true := by
  have := State.mboxRead_ok s k o hok
  rw [hx] at this
  exact this

theorem State.mboxWrite_ok (s : State) (k o v : Nat) (hok : s.regsOk = true) : (State.mboxWrite s k o v).regsOk = true := by
  simp only [State.mboxWrite, State.slotBell_ok, State.slotWrite_ok, State.regsOk_mk, State.regsOk_eta, apply_ite State.regsOk, ite_self, implies_true, eq_self, hok]

theorem State.mboxAccess_ok (s : State) (d : Nat) (mid : Option Nat) (t : Nat) (m : Msg) (hok : s.regsOk = true) :
    (State.mboxAccess s d mid t m).regsOk = true := by
  have hs := State.freeCopy_ok s d mid hok
  unfold State.mboxAccess
  dsimp only
  split
  · exact State.barServe_ok _ _ _ _ _ _ _ (fun s a h => State.mboxRead_ok s _ a h) (fun s a x h => State.mboxWrite_ok s _ a x h) hs
  · exact hs

end Sys2Proof.Machine
end

