-- ==== Sys2Proof/Laws/Work.lean ====
section
/-! SUPPORT. What the operations of Machine/Work.lean leave alone: the part, the waiting commands, the blown life-cycle fuses, and the
canonical form of the register file. -/

namespace Sys2Proof.Machine
set_option linter.unusedSimpArgs false
set_option linter.unusedVariables false
set_option linter.unreachableTactic false
set_option linter.unusedTactic false
set_option linter.style.nameCheck false

theorem State.doWork_core (s : State) (w : Work) : (State.doWork s w).core = s.core := by
  unfold State.doWork
  repeat' split
  all_goals simp only [↓State.dispose_core, ↓State.notUp_core, ↓State.lostPath_core, ↓State.completeOther_core, ↓State.fence_core, ↓State.lastingFault_core, ↓State.sendCopyMsg_core, ↓State.copyResolved_core, ↓State.giveUpCopy_core, ↓State.agentLook_core, ↓State.pairServe_core, ↓State.serveLine_core, ↓State.biConflict_core, ↓State.snoopFlushed_core, ↓State.snoopLost_core, ↓State.route_core, ↓State.home_core, ↓State.vcsReset_core, ↓State.forEach_core, ↓State.askWalk_core, ↓State.migPortAbort_core, ↓State.reissue_core, ↓State.migServe_core, ↓State.tagServe_core, ↓State.response_core, ↓State.dualEnd_core, ↓State.barAccess_core, ↓State.mboxAccess_core, ↓State.siteFault_core, ↓State.instReset_core, State.core_mk, State.core_eta, ↓apply_ite State.core, ite_self, implies_true, eq_self]

theorem State.settleN_core (n : Nat) (s : State) : (State.settleN n s).core = s.core := by
  induction n generalizing s with
  | zero => rfl
  | succ n ih =>
    unfold State.settleN
    split
    · rfl
    · rw [ih, State.doWork_core]
      rfl

theorem State.settle_core (s : State) : (State.settle s).core = s.core := by
  simp only [State.settle, ↓State.settleN_core, State.core_mk, State.core_eta, ↓apply_ite State.core, ite_self, implies_true, eq_self]

theorem State.updHatch_core (s : State) (d : Nat) (f : HatchSt → HatchSt) : (State.updHatch s d f).core = s.core := by
  simp only [State.updHatch, State.core_mk, State.core_eta, ↓apply_ite State.core, ite_self, implies_true, eq_self]

theorem State.drFree_core (s : State) (d k : Nat) : (State.drFree s d k).core = s.core := by
  simp only [State.drFree, ↓State.off_core, ↓State.wr_core, State.core_mk, State.core_eta, ↓apply_ite State.core, ite_self, implies_true, eq_self]

theorem State.drMemory_core (s : State) (d k : Nat) : (State.drMemory s d k).core = s.core := by
  unfold State.drMemory
  repeat' split
  all_goals simp only [↓State.drFree_core, ↓State.updHatch_core, ↓State.putTrk_core, ↓State.push_core, ↓State.home_core, State.core_mk, State.core_eta, ↓apply_ite State.core, ite_self, implies_true, eq_self]

theorem State.drAgain_core (s : State) (d : Nat) : (State.drAgain s d).core = s.core := by
  simp only [State.drAgain, ↓State.updHatch_core, ↓State.forEach_core, ↓State.drMemory_core, State.core_mk, State.core_eta, ↓apply_ite State.core, ite_self, implies_true, eq_self]

theorem State.finish_core (s : State) : (State.finish s).core = s.core := by
  simp only [State.finish, ↓State.settle_core, ↓State.forEach_core, ↓State.returnCredit_core, ↓State.makeAgain_core, ↓State.releaseBirsp_core, ↓State.answerPairs_core, ↓State.poisonAgain_core, ↓State.rewritesAgain_core, ↓State.drAgain_core, State.core_mk, State.core_eta, ↓apply_ite State.core, ite_self, implies_true, eq_self]

theorem State.sramFixed_core (s : State) (d a : Nat) : (State.sramFixed s d a).core = s.core := by
  simp only [State.sramFixed, ↓State.inc_core, ↓State.evD_core, State.core_mk, State.core_eta, ↓apply_ite State.core, ite_self, implies_true, eq_self]

theorem State.sramBad_core (s : State) (d : Nat) : (State.sramBad s d).core = s.core := by
  simp only [State.sramBad, ↓State.inc_core, State.core_mk, State.core_eta, ↓apply_ite State.core, ite_self, implies_true, eq_self]

theorem State.deny_core (s : State) : (State.deny s).core = s.core := by
  simp only [State.deny, ↓State.inc_core, ↓State.ev_core, State.core_mk, State.core_eta, ↓apply_ite State.core, ite_self, implies_true, eq_self]

theorem State.doWork_ok (s : State) (w : Work) (hok : s.regsOk = true) : (State.doWork s w).regsOk = true := by
  unfold State.doWork
  repeat' (first | with_reducible assumption | with_reducible (apply State.dispose_ok) | with_reducible (apply State.notUp_ok) | with_reducible (apply State.lostPath_ok) | with_reducible (apply State.completeOther_ok) | with_reducible (apply State.fence_ok) | with_reducible (apply State.lastingFault_ok) | with_reducible (apply State.sendCopyMsg_ok) | with_reducible (apply State.copyResolved_ok) | with_reducible (apply State.giveUpCopy_ok) | with_reducible (apply State.agentLook_ok) | with_reducible (apply State.pairServe_ok) | with_reducible (apply State.serveLine_ok) | with_reducible (apply State.biConflict_ok) | with_reducible (apply State.snoopFlushed_ok) | with_reducible (apply State.snoopLost_ok) | with_reducible (apply State.route_ok) | with_reducible (apply State.home_ok) | with_reducible (apply State.vcsReset_ok) | with_reducible (apply State.forEach_ok) | with_reducible (apply State.askWalk_ok) | with_reducible (apply State.migPortAbort_ok) | with_reducible (apply State.reissue_ok) | with_reducible (apply State.migServe_ok) | with_reducible (apply State.tagServe_ok) | with_reducible (apply State.response_ok) | with_reducible (apply State.dualEnd_ok) | with_reducible (apply State.barAccess_ok) | with_reducible (apply State.mboxAccess_ok) | with_reducible (apply State.siteFault_ok) | with_reducible (apply State.instReset_ok) | with_reducible (apply State.ite_ok) | split | (intro _ _ hok) | (intro _ hok) | (intro _ _ _ hok) | simp only [State.regsOk_mk, State.regsOk_eta])

theorem State.settleN_ok (n : Nat) (s : State) (hok : s.regsOk = true) : (State.settleN n s).regsOk = true := by
  induction n generalizing s with
  | zero => exact hok
  | succ n ih =>
    unfold State.settleN
    split
    · exact hok
    · exact ih _ (State.doWork_ok _ _ hok)

theorem State.settle_ok (s : State) (hok : s.regsOk = true) : (State.settle s).regsOk = true := by
  simp only [State.settle, State.settleN_ok, State.regsOk_mk, State.regsOk_eta, apply_ite State.regsOk, ite_self, implies_true, eq_self, hok]

theorem State.updHatch_ok (s : State) (d : Nat) (f : HatchSt → HatchSt) (hok : s.regsOk = true) : (State.updHatch s d f).regsOk = true := by
  simp only [State.updHatch, State.regsOk_mk, State.regsOk_eta, apply_ite State.regsOk, ite_self, implies_true, eq_self, hok]

theorem State.drFree_ok (s : State) (d k : Nat) (hok : s.regsOk = true) : (State.drFree s d k).regsOk = true := by
  unfold State.drFree
  extract_lets
  repeat' (first | with_reducible assumption | with_reducible (apply State.off_ok) | with_reducible (apply State.wr_ok) | with_reducible (apply State.ite_ok) | split | (intro _ _ hok) | (intro _ hok) | (intro _ _ _ hok) | simp only [State.regsOk_mk, State.regsOk_eta])

theorem State.drMemory_ok (s : State) (d k : Nat) (hok : s.regsOk = true) : (State.drMemory s d k).regsOk = true := by
  unfold State.drMemory
  extract_lets
  repeat' (first | with_reducible assumption | with_reducible (apply State.drFree_ok) | with_reducible (apply State.updHatch_ok) | with_reducible (apply State.putTrk_ok) | with_reducible (apply State.push_ok) | with_reducible (apply State.home_ok) | with_reducible (apply State.ite_ok) | split | (intro _ _ hok) | (intro _ hok) | (intro _ _ _ hok) | simp only [State.regsOk_mk, State.regsOk_eta])

theorem State.drAgain_ok (s : State) (d : Nat) (hok : s.regsOk = true) : (State.drAgain s d).regsOk = true := by
  unfold State.drAgain
  repeat' (first | with_reducible assumption | with_reducible (apply State.updHatch_ok) | with_reducible (apply State.forEach_ok) | with_reducible (apply State.drMemory_ok) | with_reducible (apply State.ite_ok) | split | (intro _ _ hok) | (intro _ hok) | (intro _ _ _ hok) | simp only [State.regsOk_mk, State.regsOk_eta])

theorem State.finish_ok (s : State) (hok : s.regsOk = true) : (State.finish s).regsOk = true := by
  unfold State.finish
  extract_lets
  repeat' (first | with_reducible assumption | with_reducible (apply State.settle_ok) | with_reducible (apply State.forEach_ok) | with_reducible (apply State.returnCredit_ok) | with_reducible (apply State.makeAgain_ok) | with_reducible (apply State.releaseBirsp_ok) | with_reducible (apply State.answerPairs_ok) | with_reducible (apply State.poisonAgain_ok) | with_reducible (apply State.rewritesAgain_ok) | with_reducible (apply State.drAgain_ok) | with_reducible (apply State.ite_ok) | split | (intro _ _ hok) | (intro _ hok) | (intro _ _ _ hok) | simp only [State.regsOk_mk, State.regsOk_eta])

theorem State.sramFixed_ok (s : State) (d a : Nat) (hok : s.regsOk = true) : (State.sramFixed s d a).regsOk = true := by
  simp only [State.sramFixed, State.inc_ok, State.evD_ok, State.regsOk_mk, State.regsOk_eta, apply_ite State.regsOk, ite_self, implies_true, eq_self, hok]

theorem State.sramBad_ok (s : State) (d : Nat) (hok : s.regsOk = true) : (State.sramBad s d).regsOk = true := by
  simp only [State.sramBad, State.inc_ok, State.regsOk_mk, State.regsOk_eta, apply_ite State.regsOk, ite_self, implies_true, eq_self, hok]

theorem State.deny_ok (s : State) (hok : s.regsOk = true) : (State.deny s).regsOk = true := by
  simp only [State.deny, State.inc_ok, State.ev_ok, State.regsOk_mk, State.regsOk_eta, apply_ite State.regsOk, ite_self, implies_true, eq_self, hok]

end Sys2Proof.Machine
end

