-- ==== Sys2Proof/Laws/Lanes.lean ====
section
/-! SUPPORT. What the operations of Machine/Lanes.lean leave alone: the part, the waiting commands, the blown life-cycle fuses, and the
canonical form of the register file. -/

namespace Sys2Proof.Machine
set_option linter.unusedSimpArgs false
set_option linter.unusedVariables false
set_option linter.unreachableTactic false
set_option linter.unusedTactic false
set_option linter.style.nameCheck false

theorem State.recover_core (s : State) (p : Nat) : (State.recover s p).core = s.core := by
  unfold State.recover
  repeat' (first | with_reducible rfl | simp only [↓State.commitLanes_core, ↓State.forEach_core, ↓State.trainLane_core, ↓State.rateDown_core, State.core_mk, State.core_eta, ↓apply_ite State.core, ite_self, implies_true, eq_self] | split | (refine (State.forEach_core _ _ _ (fun s a => ?_)).trans ?_))

theorem State.setQuadEn_core (s : State) (d q : Nat) (en : Bool) : (State.setQuadEn s d q en).core = s.core := by
  simp only [State.setQuadEn, ↓State.wrB_core, ↓State.linkDown_core, ↓State.portEnable_core, ↓State.quadToOff_core, State.core_mk, State.core_eta, ↓apply_ite State.core, ite_self, implies_true, eq_self]

theorem State.eqEnded_core (s : State) (d q l : Nat) : (State.eqEnded s d q l).core = s.core := by
  simp only [State.eqEnded, ↓State.laneEnded_core, ↓State.laneLost_core, State.core_mk, State.core_eta, ↓apply_ite State.core, ite_self, implies_true, eq_self]

theorem State.refreshLane_core (s : State) (d q l b : Nat) : (State.refreshLane s d q l b).core = s.core := by
  simp only [State.refreshLane, ↓State.setBaro_core, ↓State.ev_core, ↓State.updLane_core, ↓State.recover_core, State.core_mk, State.core_eta, ↓apply_ite State.core, ite_self, implies_true, eq_self]

theorem State.setLoopGo_core (s : State) (d q : Nat) (go : Bool) : (State.setLoopGo s d q go).core = s.core := by
  simp only [State.setLoopGo, ↓State.on_core, ↓State.off_core, ↓State.setRate_core, ↓State.forEach_core, ↓State.updLane_core, ↓State.toStage_core, State.core_mk, State.core_eta, ↓apply_ite State.core, ite_self, implies_true, eq_self]

theorem State.coefRequest_core (s : State) (d q l : Nat) (ask : TxAsk) : (State.coefRequest s d q l ask).core = s.core := by
  unfold State.coefRequest
  repeat' (first | with_reducible rfl | simp only [↓State.wr_core, ↓State.emit_core, State.core_mk, State.core_eta, ↓apply_ite State.core, ite_self, implies_true, eq_self] | split)

theorem State.setCheckEn_core (s : State) (d q : Nat) (en : Bool) : (State.setCheckEn s d q en).core = s.core := by
  simp only [State.setCheckEn, ↓State.wrB_core, ↓State.forEach_core, ↓State.off_core, State.core_mk, State.core_eta, ↓apply_ite State.core, ite_self, implies_true, eq_self]

theorem State.showMargin_core (s : State) (d q : Nat) : (State.showMargin s d q).core = s.core := by
  simp only [State.showMargin, ↓State.wrB_core, State.core_mk, State.core_eta, ↓apply_ite State.core, ite_self, implies_true, eq_self]

theorem State.marginBegin_core (s : State) (d q : Nat) (a : MarginAsk) (proto : Bool) : (State.marginBegin s d q a proto).core = s.core := by
  simp only [State.marginBegin, ↓State.updLane_core, ↓State.off_core, ↓State.showMargin_core, State.core_mk, State.core_eta, ↓apply_ite State.core, ite_self, implies_true, eq_self]

theorem State.setMarginCtrl_core (s : State) (d q : Nat) (a : MarginAsk) : (State.setMarginCtrl s d q a).core = s.core := by
  simp only [State.setMarginCtrl, ↓State.wr_core, ↓State.wrB_core, ↓State.showMargin_core, State.core_mk, State.core_eta, ↓apply_ite State.core, ite_self, implies_true, eq_self]

theorem State.marginStart_core (s : State) (d q : Nat) (a : MarginAsk) : (State.marginStart s d q a).core = s.core := by
  simp only [State.marginStart, ↓State.setMarginCtrl_core, ↓State.marginBegin_core, State.core_mk, State.core_eta, ↓apply_ite State.core, ite_self, implies_true, eq_self]

theorem State.marginYield_core (s : State) (d q l : Nat) : (State.marginYield s d q l).core = s.core := by
  unfold State.marginYield
  repeat' split
  all_goals simp only [↓State.abortMargin_core, State.core_mk, State.core_eta, ↓apply_ite State.core, ite_self, implies_true, eq_self]

theorem State.marginStep_core (s : State) (d q l errors : Nat) : (State.marginStep s d q l errors).core = s.core := by
  unfold State.marginStep
  repeat' split
  all_goals simp only [↓State.updLane_core, ↓State.wr_core, ↓State.on_core, ↓State.showMargin_core, State.core_mk, State.core_eta, ↓apply_ite State.core, ite_self, implies_true, eq_self]

theorem State.clearBaroMin_core (s : State) (d q l : Nat) : (State.clearBaroMin s d q l).core = s.core := by
  simp only [State.clearBaroMin, ↓State.wr_core, State.core_mk, State.core_eta, ↓apply_ite State.core, ite_self, implies_true, eq_self]

theorem State.setBaroThr_core (s : State) (d q : Nat) (pam4 : Bool) (acc tgt deg fl : Nat) : (State.setBaroThr s d q pam4 acc tgt deg fl).core = s.core := by
  simp only [State.setBaroThr, ↓State.stage_core, ↓State.wr_core, ↓State.ev_core, State.core_mk, State.core_eta, ↓apply_ite State.core, ite_self, implies_true, eq_self]

theorem State.recover_ok (s : State) (p : Nat) (hok : s.regsOk = true) : (State.recover s p).regsOk = true := by
  unfold State.recover
  extract_lets
  repeat' (first | with_reducible assumption | with_reducible (apply State.commitLanes_ok) | with_reducible (apply State.forEach_ok) | with_reducible (apply State.trainLane_ok) | with_reducible (apply State.rateDown_ok) | with_reducible (apply State.ite_ok) | split | (intro _ _ hok) | (intro _ hok) | (intro _ _ _ hok) | simp only [State.regsOk_mk, State.regsOk_eta])

theorem State.setQuadEn_ok (s : State) (d q : Nat) (en : Bool) (hok : s.regsOk = true) : (State.setQuadEn s d q en).regsOk = true := by
  unfold State.setQuadEn
  extract_lets
  repeat' (first | with_reducible assumption | with_reducible (apply State.wrB_ok) | with_reducible (apply State.linkDown_ok) | with_reducible (apply State.portEnable_ok) | with_reducible (apply State.quadToOff_ok) | with_reducible (apply State.ite_ok) | split | (intro _ _ hok) | (intro _ hok) | (intro _ _ _ hok) | simp only [State.regsOk_mk, State.regsOk_eta])

theorem State.eqEnded_ok (s : State) (d q l : Nat) (hok : s.regsOk = true) : (State.eqEnded s d q l).regsOk = true := by
  simp only [State.eqEnded, State.laneEnded_ok, State.laneLost_ok, State.regsOk_mk, State.regsOk_eta, apply_ite State.regsOk, ite_self, implies_true, eq_self, hok]

theorem State.refreshLane_ok (s : State) (d q l b : Nat) (hok : s.regsOk = true) : (State.refreshLane s d q l b).regsOk = true := by
  unfold State.refreshLane
  extract_lets
  repeat' (first | with_reducible assumption | with_reducible (apply State.setBaro_ok) | with_reducible (apply State.ev_ok) | with_reducible (apply State.updLane_ok) | with_reducible (apply State.recover_ok) | with_reducible (apply State.ite_ok) | split | (intro _ _ hok) | (intro _ hok) | (intro _ _ _ hok) | simp only [State.regsOk_mk, State.regsOk_eta])

theorem State.setLoopGo_ok (s : State) (d q : Nat) (go : Bool) (hok : s.regsOk = true) : (State.setLoopGo s d q go).regsOk = true := by
  unfold State.setLoopGo
  extract_lets
  repeat' (first | with_reducible assumption | with_reducible (apply State.on_ok) | with_reducible (apply State.off_ok) | with_reducible (apply State.setRate_ok) | with_reducible (apply State.forEach_ok) | with_reducible (apply State.updLane_ok) | with_reducible (apply State.toStage_ok) | with_reducible (apply State.ite_ok) | split | (intro _ _ hok) | (intro _ hok) | (intro _ _ _ hok) | simp only [State.regsOk_mk, State.regsOk_eta])

theorem State.coefRequest_ok (s : State) (d q l : Nat) (ask : TxAsk) (hok : s.regsOk = true) : (State.coefRequest s d q l ask).regsOk = true := by
  unfold State.coefRequest
  repeat' (first | with_reducible assumption | with_reducible (apply State.wr_ok) | with_reducible (apply State.emit_ok) | with_reducible (apply State.ite_ok) | split | (intro _ _ hok) | (intro _ hok) | (intro _ _ _ hok) | simp only [State.regsOk_mk, State.regsOk_eta])

theorem State.setCheckEn_ok (s : State) (d q : Nat) (en : Bool) (hok : s.regsOk = true) : (State.setCheckEn s d q en).regsOk = true := by
  unfold State.setCheckEn
  extract_lets
  repeat' (first | with_reducible assumption | with_reducible (apply State.wrB_ok) | with_reducible (apply State.forEach_ok) | with_reducible (apply State.off_ok) | with_reducible (apply State.ite_ok) | split | (intro _ _ hok) | (intro _ hok) | (intro _ _ _ hok) | simp only [State.regsOk_mk, State.regsOk_eta])

theorem State.showMargin_ok (s : State) (d q : Nat) (hok : s.regsOk = true) : (State.showMargin s d q).regsOk = true := by
  simp only [State.showMargin, State.wrB_ok, State.regsOk_mk, State.regsOk_eta, apply_ite State.regsOk, ite_self, implies_true, eq_self, hok]

theorem State.marginBegin_ok (s : State) (d q : Nat) (a : MarginAsk) (proto : Bool) (hok : s.regsOk = true) : (State.marginBegin s d q a proto).regsOk = true := by
  unfold State.marginBegin
  extract_lets
  repeat' (first | with_reducible assumption | with_reducible (apply State.updLane_ok) | with_reducible (apply State.off_ok) | with_reducible (apply State.showMargin_ok) | with_reducible (apply State.ite_ok) | split | (intro _ _ hok) | (intro _ hok) | (intro _ _ _ hok) | simp only [State.regsOk_mk, State.regsOk_eta])

theorem State.setMarginCtrl_ok (s : State) (d q : Nat) (a : MarginAsk) (hok : s.regsOk = true) : (State.setMarginCtrl s d q a).regsOk = true := by
  unfold State.setMarginCtrl
  extract_lets
  repeat' (first | with_reducible assumption | with_reducible (apply State.wr_ok) | with_reducible (apply State.wrB_ok) | with_reducible (apply State.showMargin_ok) | with_reducible (apply State.ite_ok) | split | (intro _ _ hok) | (intro _ hok) | (intro _ _ _ hok) | simp only [State.regsOk_mk, State.regsOk_eta])

theorem State.marginStart_ok (s : State) (d q : Nat) (a : MarginAsk) (hok : s.regsOk = true) : (State.marginStart s d q a).regsOk = true := by
  simp only [State.marginStart, State.setMarginCtrl_ok, State.marginBegin_ok, State.regsOk_mk, State.regsOk_eta, apply_ite State.regsOk, ite_self, implies_true, eq_self, hok]

theorem State.marginYield_ok (s : State) (d q l : Nat) (hok : s.regsOk = true) : (State.marginYield s d q l).regsOk = true := by
  unfold State.marginYield
  repeat' split
  all_goals simp only [State.abortMargin_ok, State.regsOk_mk, State.regsOk_eta, apply_ite State.regsOk, ite_self, implies_true, eq_self, hok]

theorem State.marginStep_ok (s : State) (d q l errors : Nat) (hok : s.regsOk = true) : (State.marginStep s d q l errors).regsOk = true := by
  unfold State.marginStep
  extract_lets
  repeat' (first | with_reducible assumption | with_reducible (apply State.updLane_ok) | with_reducible (apply State.wr_ok) | with_reducible (apply State.on_ok) | with_reducible (apply State.showMargin_ok) | with_reducible (apply State.ite_ok) | split | (intro _ _ hok) | (intro _ hok) | (intro _ _ _ hok) | simp only [State.regsOk_mk, State.regsOk_eta])

theorem State.clearBaroMin_ok (s : State) (d q l : Nat) (hok : s.regsOk = true) : (State.clearBaroMin s d q l).regsOk = true := by
  simp only [State.clearBaroMin, State.wr_ok, State.regsOk_mk, State.regsOk_eta, apply_ite State.regsOk, ite_self, implies_true, eq_self, hok]

theorem State.setBaroThr_ok (s : State) (d q : Nat) (pam4 : Bool) (acc tgt deg fl : Nat) (hok : s.regsOk = true) : (State.setBaroThr s d q pam4 acc tgt deg fl).regsOk = true := by
  unfold State.setBaroThr
  extract_lets
  repeat' (first | with_reducible assumption | with_reducible (apply State.stage_ok) | with_reducible (apply State.wr_ok) | with_reducible (apply State.ev_ok) | with_reducible (apply State.ite_ok) | split | (intro _ _ hok) | (intro _ hok) | (intro _ _ _ hok) | simp only [State.regsOk_mk, State.regsOk_eta])

end Sys2Proof.Machine
end

