-- ==== Sys2Proof/Laws/Ports.lean ====
section
/-! SUPPORT. What the operations of Machine/Ports.lean leave alone: the part, the waiting commands, the blown life-cycle fuses, and the
canonical form of the register file. -/

namespace Sys2Proof.Machine
set_option linter.unusedSimpArgs false
set_option linter.unusedVariables false
set_option linter.unreachableTactic false
set_option linter.unusedTactic false
set_option linter.style.nameCheck false

theorem State.trainingStart_core (s : State) (p : Nat) : (State.trainingStart s p).core = s.core := by
  simp only [State.trainingStart, ↓State.commitReg_core, ↓State.wr_core, ↓State.updPort_core, ↓State.lanesDetect_core, State.core_mk, State.core_eta, ↓apply_ite State.core, ite_self, implies_true, eq_self]

theorem State.showOffer_core (s : State) (p : Nat) (o : Offer) : (State.showOffer s p o).core = s.core := by
  simp only [State.showOffer, ↓State.wr_core, ↓State.wrB_core, State.core_mk, State.core_eta, ↓apply_ite State.core, ite_self, implies_true, eq_self]

theorem State.negotiate_core (s : State) (p : Nat) (o : Offer) : (State.negotiate s p o).core = s.core := by
  simp only [State.negotiate, ↓State.showOffer_core, ↓State.wr_core, ↓State.updPort_core, ↓State.ev_core, ↓State.forEach_core, ↓State.leaveOut_core, ↓State.searchFrom_core, State.core_mk, State.core_eta, ↓apply_ite State.core, ite_self, implies_true, eq_self]

theorem State.putCaps_core (s : State) (p : Nat) (caps : List Nat) : (State.putCaps s p caps).core = s.core := by
  unfold State.putCaps
  repeat' (first | with_reducible rfl | simp only [↓State.forEach_core, State.core_mk, State.core_eta, ↓apply_ite State.core, ite_self, implies_true, eq_self] | split | (refine (State.forEach_core _ _ _ (fun s a => ?_)).trans ?_))

theorem State.flushNow_core (s : State) (p : Nat) : (State.flushNow s p).core = s.core := by
  simp only [State.flushNow, ↓State.flush_core, State.core_mk, State.core_eta, ↓apply_ite State.core, ite_self, implies_true, eq_self]

theorem State.retrainPort_core (s : State) (p : Nat) (unacked : List QEnt) : (State.retrainPort s p unacked).core = s.core := by
  simp only [State.retrainPort, ↓State.commitReg_core, ↓State.linkDown_core, ↓State.updPort_core, State.core_mk, State.core_eta, ↓apply_ite State.core, ite_self, implies_true, eq_self]

theorem State.setPortEn_core (s : State) (p : Nat) (en : Bool) : (State.setPortEn s p en).core = s.core := by
  simp only [State.setPortEn, ↓State.wrB_core, ↓State.portEnable_core, ↓State.portDisable_core, State.core_mk, State.core_eta, ↓apply_ite State.core, ite_self, implies_true, eq_self]

theorem State.hostPerst_core (s : State) (p : Nat) (hotReset : Bool) : (State.hostPerst s p hotReset).core = s.core := by
  simp only [State.hostPerst, ↓State.linkDown_core, ↓State.updPort_core, ↓State.push_core, ↓State.vcsReset_core, ↓State.instReset_core, State.core_mk, State.core_eta, ↓apply_ite State.core, ite_self, implies_true, eq_self]

theorem State.trainingStart_ok (s : State) (p : Nat) (hok : s.regsOk = true) : (State.trainingStart s p).regsOk = true := by
  unfold State.trainingStart
  extract_lets
  repeat' (first | with_reducible assumption | with_reducible (apply State.commitReg_ok) | with_reducible (apply State.wr_ok) | with_reducible (apply State.updPort_ok) | with_reducible (apply State.lanesDetect_ok) | with_reducible (apply State.ite_ok) | split | (intro _ _ hok) | (intro _ hok) | (intro _ _ _ hok) | simp only [State.regsOk_mk, State.regsOk_eta])

theorem State.showOffer_ok (s : State) (p : Nat) (o : Offer) (hok : s.regsOk = true) : (State.showOffer s p o).regsOk = true := by
  unfold State.showOffer
  extract_lets
  repeat' (first | with_reducible assumption | with_reducible (apply State.wr_ok) | with_reducible (apply State.wrB_ok) | with_reducible (apply State.ite_ok) | split | (intro _ _ hok) | (intro _ hok) | (intro _ _ _ hok) | simp only [State.regsOk_mk, State.regsOk_eta])

theorem State.negotiate_ok (s : State) (p : Nat) (o : Offer) (hok : s.regsOk = true) : (State.negotiate s p o).regsOk = true := by
  unfold State.negotiate
  extract_lets
  repeat' (first | with_reducible assumption | with_reducible (apply State.showOffer_ok) | with_reducible (apply State.wr_ok) | with_reducible (apply State.updPort_ok) | with_reducible (apply State.ev_ok) | with_reducible (apply State.forEach_ok) | with_reducible (apply State.leaveOut_ok) | with_reducible (apply State.searchFrom_ok) | with_reducible (apply State.ite_ok) | split | (intro _ _ hok) | (intro _ hok) | (intro _ _ _ hok) | simp only [State.regsOk_mk, State.regsOk_eta])

theorem State.putCaps_ok (s : State) (p : Nat) (caps : List Nat) (hok : s.regsOk = true) : (State.putCaps s p caps).regsOk = true := by
  unfold State.putCaps
  repeat' (first | assumption | simp only [State.forEach_ok, State.regsOk_mk, State.regsOk_eta, apply_ite State.regsOk, ite_self, implies_true, eq_self, hok] | split | (refine State.forEach_ok _ _ _ (fun s a hok => ?_) ?_))

theorem State.flushNow_ok (s : State) (p : Nat) (hok : s.regsOk = true) : (State.flushNow s p).regsOk = true := by
  simp only [State.flushNow, State.flush_ok, State.regsOk_mk, State.regsOk_eta, apply_ite State.regsOk, ite_self, implies_true, eq_self, hok]

theorem State.retrainPort_ok (s : State) (p : Nat) (unacked : List QEnt) (hok : s.regsOk = true) : (State.retrainPort s p unacked).regsOk = true := by
  unfold State.retrainPort
  extract_lets
  repeat' (first | with_reducible assumption | with_reducible (apply State.commitReg_ok) | with_reducible (apply State.linkDown_ok) | with_reducible (apply State.updPort_ok) | with_reducible (apply State.ite_ok) | split | (intro _ _ hok) | (intro _ hok) | (intro _ _ _ hok) | simp only [State.regsOk_mk, State.regsOk_eta])

theorem State.setPortEn_ok (s : State) (p : Nat) (en : Bool) (hok : s.regsOk = true) : (State.setPortEn s p en).regsOk = true := by
  simp only [State.setPortEn, State.wrB_ok, State.portEnable_ok, State.portDisable_ok, State.regsOk_mk, State.regsOk_eta, apply_ite State.regsOk, ite_self, implies_true, eq_self, hok]

theorem State.hostPerst_ok (s : State) (p : Nat) (hotReset : Bool) (hok : s.regsOk = true) : (State.hostPerst s p hotReset).regsOk = true := by
  simp only [State.hostPerst, State.linkDown_ok, State.updPort_ok, State.push_ok, State.vcsReset_ok, State.instReset_ok, State.regsOk_mk, State.regsOk_eta, apply_ite State.regsOk, ite_self, implies_true, eq_self, hok]

end Sys2Proof.Machine
end

