-- ==== Sys2Proof/Laws/Casub.lean ====
section
/-! SUPPORT. What the operations of Machine/Casub.lean leave alone: the part, the waiting commands, the blown life-cycle fuses, and the
canonical form of the register file. -/

namespace Sys2Proof.Machine
set_option linter.unusedSimpArgs false
set_option linter.unusedVariables false
set_option linter.unreachableTactic false
set_option linter.unusedTactic false
set_option linter.style.nameCheck false

theorem State.atActive_core (s : State) (d t : Nat) (f : State → State) (hf : ∀ s, (f s).core = s.core) : (State.atActive s d t f).core = s.core := by
  simp only [State.atActive, hf, State.core_mk, State.core_eta, ↓apply_ite State.core, ite_self, implies_true, eq_self]

theorem State.setCbaro_core (s : State) (d t n b : Nat) : (State.setCbaro s d t n b).core = s.core := by
  simp only [State.setCbaro, ↓State.wr_core, State.core_mk, State.core_eta, ↓apply_ite State.core, ite_self, implies_true, eq_self]

theorem State.takeThr_core (s : State) (d t : Nat) : (State.takeThr s d t).core = s.core := by
  simp only [State.takeThr, ↓State.updSite_core, State.core_mk, State.core_eta, ↓apply_ite State.core, ite_self, implies_true, eq_self]

theorem State.measured_core (s : State) (d t : Nat) (got : List (Option Meas)) (windowUs : Nat) : (State.measured s d t got windowUs).core = s.core := by
  simp only [State.measured, ↓State.takeThr_core, ↓State.forEach_core, ↓State.setCbaro_core, State.core_mk, State.core_eta, ↓apply_ite State.core, ite_self, implies_true, eq_self]

theorem State.markerCame_core (s : State) (d t : Nat) (words : List (BitVec 64)) : (State.markerCame s d t words).core = s.core := by
  unfold State.markerCame
  repeat' (first | with_reducible rfl | simp only [↓State.updSite_core, ↓State.mapTaken_core, ↓State.log_core, ↓State.siteRetrain_core, State.core_mk, State.core_eta, ↓apply_ite State.core, ite_self, implies_true, eq_self] | split)

theorem State.setSiteEn_core (s : State) (d t : Nat) (en : Bool) : (State.setSiteEn s d t en).core = s.core := by
  simp only [State.setSiteEn, ↓State.wrB_core, ↓State.siteStart_core, ↓State.siteDown_core, State.core_mk, State.core_eta, ↓apply_ite State.core, ite_self, implies_true, eq_self]

theorem State.retireSite_core (s : State) (d t : Nat) : (State.retireSite s d t).core = s.core := by
  simp only [State.retireSite, ↓State.siteDown_core, State.core_mk, State.core_eta, ↓apply_ite State.core, ite_self, implies_true, eq_self]

theorem State.reviveSite_core (s : State) (d t : Nat) : (State.reviveSite s d t).core = s.core := by
  simp only [State.reviveSite, ↓State.siteFresh_core, ↓State.siteCalibrate_core, State.core_mk, State.core_eta, ↓apply_ite State.core, ite_self, implies_true, eq_self]

theorem State.atActive_ok (s : State) (d t : Nat) (f : State → State) (hf : ∀ s, State.regsOk s = true → (f s).regsOk = true) (hok : s.regsOk = true) : (State.atActive s d t f).regsOk = true := by
  simp only [State.atActive, hf, State.regsOk_mk, State.regsOk_eta, apply_ite State.regsOk, ite_self, implies_true, eq_self, hok]

theorem State.setCbaro_ok (s : State) (d t n b : Nat) (hok : s.regsOk = true) : (State.setCbaro s d t n b).regsOk = true := by
  unfold State.setCbaro
  extract_lets
  repeat' (first | with_reducible assumption | with_reducible (apply State.wr_ok) | with_reducible (apply State.ite_ok) | split | (intro _ _ hok) | (intro _ hok) | (intro _ _ _ hok) | simp only [State.regsOk_mk, State.regsOk_eta])

theorem State.takeThr_ok (s : State) (d t : Nat) (hok : s.regsOk = true) : (State.takeThr s d t).regsOk = true := by
  simp only [State.takeThr, State.updSite_ok, State.regsOk_mk, State.regsOk_eta, apply_ite State.regsOk, ite_self, implies_true, eq_self, hok]

theorem State.measured_ok (s : State) (d t : Nat) (got : List (Option Meas)) (windowUs : Nat) (hok : s.regsOk = true) : (State.measured s d t got windowUs).regsOk = true := by
  unfold State.measured
  extract_lets
  repeat' (first | with_reducible assumption | with_reducible (apply State.takeThr_ok) | with_reducible (apply State.forEach_ok) | with_reducible (apply State.setCbaro_ok) | with_reducible (apply State.ite_ok) | split | (intro _ _ hok) | (intro _ hok) | (intro _ _ _ hok) | simp only [State.regsOk_mk, State.regsOk_eta])

theorem State.markerCame_ok (s : State) (d t : Nat) (words : List (BitVec 64)) (hok : s.regsOk = true) : (State.markerCame s d t words).regsOk = true := by
  unfold State.markerCame
  extract_lets
  repeat' (first | with_reducible assumption | with_reducible (apply State.updSite_ok) | with_reducible (apply State.mapTaken_ok) | with_reducible (apply State.log_ok) | with_reducible (apply State.siteRetrain_ok) | with_reducible (apply State.ite_ok) | split | (intro _ _ hok) | (intro _ hok) | (intro _ _ _ hok) | simp only [State.regsOk_mk, State.regsOk_eta])

theorem State.setSiteEn_ok (s : State) (d t : Nat) (en : Bool) (hok : s.regsOk = true) : (State.setSiteEn s d t en).regsOk = true := by
  simp only [State.setSiteEn, State.wrB_ok, State.siteStart_ok, State.siteDown_ok, State.regsOk_mk, State.regsOk_eta, apply_ite State.regsOk, ite_self, implies_true, eq_self, hok]

theorem State.retireSite_ok (s : State) (d t : Nat) (hok : s.regsOk = true) : (State.retireSite s d t).regsOk = true := by
  simp only [State.retireSite, State.siteDown_ok, State.regsOk_mk, State.regsOk_eta, apply_ite State.regsOk, ite_self, implies_true, eq_self, hok]

theorem State.reviveSite_ok (s : State) (d t : Nat) (hok : s.regsOk = true) : (State.reviveSite s d t).regsOk = true := by
  simp only [State.reviveSite, State.siteFresh_ok, State.siteCalibrate_ok, State.regsOk_mk, State.regsOk_eta, apply_ite State.regsOk, ite_self, implies_true, eq_self, hok]

end Sys2Proof.Machine
end

