-- ==== Sys2Proof/Laws/Switch.lean ====
section
/-! SUPPORT. What the operations of Machine/Switch.lean leave alone: the part, the waiting commands, the blown life-cycle fuses, and the
canonical form of the register file. -/

namespace Sys2Proof.Machine
set_option linter.unusedSimpArgs false
set_option linter.unusedVariables false
set_option linter.unreachableTactic false
set_option linter.unusedTactic false
set_option linter.style.nameCheck false

theorem State.grantOf_core (s : State) (d o : Nat) (free : List Nat) (full : List NoRoom) : (State.grantOf s d o free full).2.core = s.core := by
  unfold State.grantOf
  repeat' (first | with_reducible rfl | simp only [↓State.chooseEntry_core, State.core_mk, State.core_eta, ↓apply_ite State.core, ite_self, implies_true, eq_self] | split | (refine (State.chooseEntry_core' (by assumption)).trans ?_))

theorem State.grantOf_core' {s : State} {d o : Nat} {free : List Nat} {full : List NoRoom} {xa xs}
    (hx : (State.grantOf s d o free full) = (xa, xs)) : xs.core = s.core := by
  have := State.grantOf_core s d o free full
  rw [hx] at this
  exact this

theorem State.dropQueued_core (s : State) (d : Nat) (mine : QEnt → Bool) : (State.dropQueued s d mine).2.core = s.core := by
  simp only [State.dropQueued, ↓State.updXb_core, ↓State.forEach_core, ↓State.updPort_core, ↓State.showCellar_core, State.core_mk, State.core_eta, ↓apply_ite State.core, ite_self, implies_true, eq_self]

theorem State.dropQueued_core' {s : State} {d : Nat} {mine : QEnt → Bool} {xa xs}
    (hx : (State.dropQueued s d mine) = (xa, xs)) : xs.core = s.core := by
  have := State.dropQueued_core s d mine
  rw [hx] at this
  exact this

theorem State.dropAtAgent_core (s : State) (d : Nat) (mine : QEnt → Bool) : (State.dropAtAgent s d mine).2.core = s.core := by
  simp only [State.dropAtAgent, ↓State.updCa_core, ↓State.forEach_core, ↓State.putLoft_core, ↓State.push_core, State.core_mk, State.core_eta, ↓apply_ite State.core, ite_self, implies_true, eq_self]

theorem State.dropAtAgent_core' {s : State} {d : Nat} {mine : QEnt → Bool} {xa xs}
    (hx : (State.dropAtAgent s d mine) = (xa, xs)) : xs.core = s.core := by
  have := State.dropAtAgent_core s d mine
  rw [hx] at this
  exact this

theorem State.dropAtOverlay_core (s : State) (d : Nat) (mine : QEnt → Bool) : (State.dropAtOverlay s d mine).2.core = s.core := by
  simp only [State.dropAtOverlay, ↓State.updOv_core, ↓State.forEach_core, ↓State.putMig_core, State.core_mk, State.core_eta, ↓apply_ite State.core, ite_self, implies_true, eq_self]

theorem State.dropAtOverlay_core' {s : State} {d : Nat} {mine : QEnt → Bool} {xa xs}
    (hx : (State.dropAtOverlay s d mine) = (xa, xs)) : xs.core = s.core := by
  have := State.dropAtOverlay_core s d mine
  rw [hx] at this
  exact this

theorem State.dropCopies_core (s : State) (d : Nat) (mid : Option Nat) : (State.dropCopies s d mid).2.core = s.core := by
  simp only [State.dropCopies, ↓State.dropQueued_core, ↓State.dropAtAgent_core, ↓State.dropAtOverlay_core, State.core_mk, State.core_eta, ↓apply_ite State.core, ite_self, implies_true, eq_self]

theorem State.dropCopies_core' {s : State} {d : Nat} {mid : Option Nat} {xa xs}
    (hx : (State.dropCopies s d mid) = (xa, xs)) : xs.core = s.core := by
  have := State.dropCopies_core s d mid
  rw [hx] at this
  exact this

theorem State.mirrorAgain_core (s : State) (d : Nat) (e : QEnt) : (State.mirrorAgain s d e).2.core = s.core := by
  unfold State.mirrorAgain
  repeat' split
  all_goals simp only [↓State.freeCopy_core, ↓State.putTrk_core, ↓State.poisonedRead_core, State.core_mk, State.core_eta, ↓apply_ite State.core, ite_self, implies_true, eq_self]

theorem State.mirrorAgain_core' {s : State} {d : Nat} {e : QEnt} {xa xs}
    (hx : (State.mirrorAgain s d e) = (xa, xs)) : xs.core = s.core := by
  have := State.mirrorAgain_core s d e
  rw [hx] at this
  exact this

theorem State.cellError_core (s : State) (d : Nat) (r : CellRead) (e : QEnt) : (State.cellError s d r e).2.2.core = s.core := by
  unfold State.cellError
  repeat' (first | with_reducible rfl | simp only [↓State.inc_core, ↓State.sramBad_core, ↓State.on_core, ↓State.wrB_core, ↓State.wr_core, ↓State.evC_core, ↓State.sramFixed_core, ↓State.mirrorAgain_core, ↓State.dropCopies_core, ↓State.forEach_core, ↓State.freeCopy_core, ↓State.push_core, ↓State.dualEnd_core, ↓State.dropRecord_core, State.core_mk, State.core_eta, ↓apply_ite State.core, ite_self, implies_true, eq_self] | split | (refine (State.forEach_core _ _ _ (fun s a => ?_)).trans ?_) | (refine (State.mirrorAgain_core' (by assumption)).trans ?_) | (refine (State.dropCopies_core' (by assumption)).trans ?_))

theorem State.cellError_core' {s : State} {d : Nat} {r : CellRead} {e : QEnt} {xa xb xs}
    (hx : (State.cellError s d r e) = (xa, xb, xs)) : xs.core = s.core := by
  have := State.cellError_core s d r e
  rw [hx] at this
  exact this

theorem State.hatchTake_core (s : State) (d : Nat) (m : Msg) : (State.hatchTake s d m).core = s.core := by
  simp only [State.hatchTake, ↓State.off_core, ↓State.updHatch_core, State.core_mk, State.core_eta, ↓apply_ite State.core, ite_self, implies_true, eq_self]

theorem State.cross_core (s : State) (d : Nat) (e : QEnt) : (State.cross s d e).core = s.core := by
  simp only [State.cross, ↓State.pm_core, ↓State.sendBack_core, ↓State.hold_core, ↓State.freeCopy_core, ↓State.emit_core, ↓State.updSite_core, ↓State.hatchTake_core, State.core_mk, State.core_eta, ↓apply_ite State.core, ite_self, implies_true, eq_self]

theorem State.pair_core (s : State) (d : Nat) (g : Grant) (round : Nat) (full : List NoRoom) (errs : List CellRead) : (State.pair s d g round full errs).core = s.core := by
  unfold State.pair
  repeat' (first | with_reducible rfl | simp only [↓State.updXb_core, ↓State.served_core, ↓State.chargeOut_core, ↓State.cross_core, ↓State.cellError_core, State.core_mk, State.core_eta, ↓apply_ite State.core, ite_self, implies_true, eq_self] | split | (refine (State.cellError_core' (by assumption)).trans ?_))

theorem State.grants_core (s : State) (d : Nat) (freeIn freeOut : List Nat) (full : List NoRoom) : (State.grants s d freeIn freeOut full).2.core = s.core := by
  unfold State.grants
  refine State.foldPair_core _ _ (fun r a => ?_) _
  split <;> rename_i h <;> exact State.grantOf_core' h

theorem State.grants_core' {s : State} {d : Nat} {freeIn freeOut : List Nat} {full : List NoRoom} {xa xs}
    (hx : (State.grants s d freeIn freeOut full) = (xa, xs)) : xs.core = s.core := by
  have := State.grants_core s d freeIn freeOut full
  rw [hx] at this
  exact this

theorem State.round_core (s : State) (d k : Nat) (full : List NoRoom) (errs : List CellRead) : (State.round s d k full errs).core = s.core := by
  simp only [State.round, ↓State.grants_core, ↓State.forEach_core, ↓State.pair_core, State.core_mk, State.core_eta, ↓apply_ite State.core, ite_self, implies_true, eq_self]

theorem State.cellTime_core (s : State) (d : Nat) (full : List NoRoom) (errs : List CellRead) : (State.cellTime s d full errs).core = s.core := by
  simp only [State.cellTime, ↓State.updXb_core, ↓State.forEach_core, ↓State.round_core, State.core_mk, State.core_eta, ↓apply_ite State.core, ite_self, implies_true, eq_self]

theorem State.putGrp_core (s : State) (d i : Nat) (w : List Nat) : (State.putGrp s d i w).core = s.core := by
  simp only [State.putGrp, State.core_mk, State.core_eta, ↓apply_ite State.core, ite_self, implies_true, eq_self]

theorem State.grpOp_core (s : State) (d op i : Nat) : (State.grpOp s d op i).core = s.core := by
  unfold State.grpOp
  repeat' split
  all_goals simp only [↓State.ev_core, ↓State.wr_core, ↓State.forEach_core, ↓State.putGrp_core, State.core_mk, State.core_eta, ↓apply_ite State.core, ite_self, implies_true, eq_self]

theorem State.xbCommit_core (s : State) (d : Nat) : (State.xbCommit s d).core = s.core := by
  simp only [State.xbCommit, ↓State.forEach_core, ↓State.commitReg_core, State.core_mk, State.core_eta, ↓apply_ite State.core, ite_self, implies_true, eq_self]

theorem State.larderMinClear_core (s : State) (d : Nat) : (State.larderMinClear s d).core = s.core := by
  simp only [State.larderMinClear, ↓State.wr_core, State.core_mk, State.core_eta, ↓apply_ite State.core, ite_self, implies_true, eq_self]

theorem State.grantOf_ok (s : State) (d o : Nat) (free : List Nat) (full : List NoRoom) (hok : s.regsOk = true) : (State.grantOf s d o free full).2.regsOk = true := by
  unfold State.grantOf
  repeat' (first | assumption | simp only [State.chooseEntry_ok, State.regsOk_mk, State.regsOk_eta, apply_ite State.regsOk, ite_self, implies_true, eq_self, hok] | split | (refine State.chooseEntry_ok' (by assumption) ?_))

theorem State.grantOf_ok' {s : State} {d o : Nat} {free : List Nat} {full : List NoRoom} {xa xs}
    (hx : State.grantOf s d o free full = (xa, xs)) (hok : s.regsOk = true) : xs.regsOk = true := by
  have := State.grantOf_ok s d o free full hok
  rw [hx] at this
  exact this

theorem State.dropQueued_ok (s : State) (d : Nat) (mine : QEnt → Bool) (hok : s.regsOk = true) : (State.dropQueued s d mine).2.regsOk = true := by
  unfold State.dropQueued
  extract_lets
  repeat' (first | with_reducible assumption | with_reducible (apply State.updXb_ok) | with_reducible (apply State.forEach_ok) | with_reducible (apply State.updPort_ok) | with_reducible (apply State.showCellar_ok) | with_reducible (apply State.ite_ok) | split | (intro _ _ hok) | (intro _ hok) | (intro _ _ _ hok) | simp only [State.regsOk_mk, State.regsOk_eta])

theorem State.dropQueued_ok' {s : State} {d : Nat} {mine : QEnt → Bool} {xa xs}
    (hx : State.dropQueued s d mine = (xa, xs)) (hok : s.regsOk = true) : xs.regsOk = true := by
  have := State.dropQueued_ok s d mine hok
  rw [hx] at this
  exact this

theorem State.dropAtAgent_ok (s : State) (d : Nat) (mine : QEnt → Bool) (hok : s.regsOk = true) : (State.dropAtAgent s d mine).2.regsOk = true := by
  unfold State.dropAtAgent
  extract_lets
  repeat' (first | with_reducible assumption | with_reducible (apply State.updCa_ok) | with_reducible (apply State.forEach_ok) | with_reducible (apply State.putLoft_ok) | with_reducible (apply State.push_ok) | with_reducible (apply State.ite_ok) | split | (intro _ _ hok) | (intro _ hok) | (intro _ _ _ hok) | simp only [State.regsOk_mk, State.regsOk_eta])

theorem State.dropAtAgent_ok' {s : State} {d : Nat} {mine : QEnt → Bool} {xa xs}
    (hx : State.dropAtAgent s d mine = (xa, xs)) (hok : s.regsOk = true) : xs.regsOk = true := by
  have := State.dropAtAgent_ok s d mine hok
  rw [hx] at this
  exact this

theorem State.dropAtOverlay_ok (s : State) (d : Nat) (mine : QEnt → Bool) (hok : s.regsOk = true) : (State.dropAtOverlay s d mine).2.regsOk = true := by
  unfold State.dropAtOverlay
  extract_lets
  repeat' (first | with_reducible assumption | with_reducible (apply State.updOv_ok) | with_reducible (apply State.forEach_ok) | with_reducible (apply State.putMig_ok) | with_reducible (apply State.ite_ok) | split | (intro _ _ hok) | (intro _ hok) | (intro _ _ _ hok) | simp only [State.regsOk_mk, State.regsOk_eta])

theorem State.dropAtOverlay_ok' {s : State} {d : Nat} {mine : QEnt → Bool} {xa xs}
    (hx : State.dropAtOverlay s d mine = (xa, xs)) (hok : s.regsOk = true) : xs.regsOk = true := by
  have := State.dropAtOverlay_ok s d mine hok
  rw [hx] at this
  exact this

theorem State.dropCopies_ok (s : State) (d : Nat) (mid : Option Nat) (hok : s.regsOk = true) : (State.dropCopies s d mid).2.regsOk = true := by
  unfold State.dropCopies
  extract_lets
  repeat' (first | with_reducible assumption | with_reducible (apply State.dropQueued_ok) | with_reducible (apply State.dropAtAgent_ok) | with_reducible (apply State.dropAtOverlay_ok) | with_reducible (exact State.dropQueued_ok' (by assumption) (by assumption)) | (refine State.dropQueued_ok' (by assumption) ?_) | with_reducible (exact State.dropAtAgent_ok' (by assumption) (by assumption)) | (refine State.dropAtAgent_ok' (by assumption) ?_) | with_reducible (exact State.dropAtOverlay_ok' (by assumption) (by assumption)) | (refine State.dropAtOverlay_ok' (by assumption) ?_) | with_reducible (apply State.ite_ok) | split | (intro _ _ hok) | (intro _ hok) | (intro _ _ _ hok) | simp only [State.regsOk_mk, State.regsOk_eta])

theorem State.dropCopies_ok' {s : State} {d : Nat} {mid : Option Nat} {xa xs}
    (hx : State.dropCopies s d mid = (xa, xs)) (hok : s.regsOk = true) : xs.regsOk = true := by
  have := State.dropCopies_ok s d mid hok
  rw [hx] at this
  exact this

theorem State.mirrorAgain_ok (s : State) (d : Nat) (e : QEnt) (hok : s.regsOk = true) : (State.mirrorAgain s d e).2.regsOk = true := by
  unfold State.mirrorAgain
  repeat' (first | with_reducible assumption | with_reducible (apply State.freeCopy_ok) | with_reducible (apply State.putTrk_ok) | with_reducible (apply State.poisonedRead_ok) | with_reducible (apply State.ite_ok) | split | (intro _ _ hok) | (intro _ hok) | (intro _ _ _ hok) | simp only [State.regsOk_mk, State.regsOk_eta])

theorem State.mirrorAgain_ok' {s : State} {d : Nat} {e : QEnt} {xa xs}
    (hx : State.mirrorAgain s d e = (xa, xs)) (hok : s.regsOk = true) : xs.regsOk = true := by
  have := State.mirrorAgain_ok s d e hok
  rw [hx] at this
  exact this

theorem State.cellError_ok (s : State) (d : Nat) (r : CellRead) (e : QEnt) (hok : s.regsOk = true) : (State.cellError s d r e).2.2.regsOk = true := by
  unfold State.cellError
  extract_lets
  repeat' (first | with_reducible assumption | with_reducible (apply State.inc_ok) | with_reducible (apply State.sramBad_ok) | with_reducible (apply State.on_ok) | with_reducible (apply State.wrB_ok) | with_reducible (apply State.wr_ok) | with_reducible (apply State.evC_ok) | with_reducible (apply State.sramFixed_ok) | with_reducible (apply State.mirrorAgain_ok) | with_reducible (apply State.dropCopies_ok) | with_reducible (apply State.forEach_ok) | with_reducible (apply State.freeCopy_ok) | with_reducible (apply State.push_ok) | with_reducible (apply State.dualEnd_ok) | with_reducible (apply State.dropRecord_ok) | with_reducible (exact State.mirrorAgain_ok' (by assumption) (by assumption)) | (refine State.mirrorAgain_ok' (by assumption) ?_) | with_reducible (exact State.dropCopies_ok' (by assumption) (by assumption)) | (refine State.dropCopies_ok' (by assumption) ?_) | with_reducible (apply State.ite_ok) | split | (intro _ _ hok) | (intro _ hok) | (intro _ _ _ hok) | simp only [State.regsOk_mk, State.regsOk_eta])

theorem State.cellError_ok' {s : State} {d : Nat} {r : CellRead} {e : QEnt} {xa xb xs}
    (hx : State.cellError s d r e = (xa, xb, xs)) (hok : s.regsOk = true) : xs.regsOk = true := by
  have := State.cellError_ok s d r e hok
  rw [hx] at this
  exact this

theorem State.hatchTake_ok (s : State) (d : Nat) (m : Msg) (hok : s.regsOk = true) : (State.hatchTake s d m).regsOk = true := by
  simp only [State.hatchTake, State.off_ok, State.updHatch_ok, State.regsOk_mk, State.regsOk_eta, apply_ite State.regsOk, ite_self, implies_true, eq_self, hok]

theorem State.cross_ok (s : State) (d : Nat) (e : QEnt) (hok : s.regsOk = true) : (State.cross s d e).regsOk = true := by
  unfold State.cross
  extract_lets
  repeat' (first | with_reducible assumption | with_reducible (apply State.pm_ok) | with_reducible (apply State.sendBack_ok) | with_reducible (apply State.hold_ok) | with_reducible (apply State.freeCopy_ok) | with_reducible (apply State.emit_ok) | with_reducible (apply State.updSite_ok) | with_reducible (apply State.hatchTake_ok) | with_reducible (apply State.ite_ok) | split | (intro _ _ hok) | (intro _ hok) | (intro _ _ _ hok) | simp only [State.regsOk_mk, State.regsOk_eta])

theorem State.pair_ok (s : State) (d : Nat) (g : Grant) (round : Nat) (full : List NoRoom) (errs : List CellRead) (hok : s.regsOk = true) : (State.pair s d g round full errs).regsOk = true := by
  unfold State.pair
  repeat' (first | with_reducible assumption | with_reducible (apply State.updXb_ok) | with_reducible (apply State.served_ok) | with_reducible (apply State.chargeOut_ok) | with_reducible (apply State.cross_ok) | with_reducible (apply State.cellError_ok) | with_reducible (exact State.cellError_ok' (by assumption) (by assumption)) | (refine State.cellError_ok' (by assumption) ?_) | with_reducible (apply State.ite_ok) | split | (intro _ _ hok) | (intro _ hok) | (intro _ _ _ hok) | simp only [State.regsOk_mk, State.regsOk_eta])

theorem State.grants_ok (s : State) (d : Nat) (freeIn freeOut : List Nat) (full : List NoRoom) (hok : s.regsOk = true) : (State.grants s d freeIn freeOut full).2.regsOk = true := by
  unfold State.grants
  refine State.foldPair_ok _ _ (fun r a hok => ?_) _ hok
  split <;> rename_i k <;> exact State.grantOf_ok' k hok

theorem State.grants_ok' {s : State} {d : Nat} {freeIn freeOut : List Nat} {full : List NoRoom} {xa xs}
    (hx : State.grants s d freeIn freeOut full = (xa, xs)) (hok : s.regsOk = true) : xs.regsOk = true := by
  have := State.grants_ok s d freeIn freeOut full hok
  rw [hx] at this
  exact this

theorem State.round_ok (s : State) (d k : Nat) (full : List NoRoom) (errs : List CellRead) (hok : s.regsOk = true) : (State.round s d k full errs).regsOk = true := by
  unfold State.round
  extract_lets
  repeat' (first | with_reducible assumption | with_reducible (apply State.grants_ok) | with_reducible (apply State.forEach_ok) | with_reducible (apply State.pair_ok) | with_reducible (exact State.grants_ok' (by assumption) (by assumption)) | (refine State.grants_ok' (by assumption) ?_) | with_reducible (apply State.ite_ok) | split | (intro _ _ hok) | (intro _ hok) | (intro _ _ _ hok) | simp only [State.regsOk_mk, State.regsOk_eta])

theorem State.cellTime_ok (s : State) (d : Nat) (full : List NoRoom) (errs : List CellRead) (hok : s.regsOk = true) : (State.cellTime s d full errs).regsOk = true := by
  unfold State.cellTime
  extract_lets
  repeat' (first | with_reducible assumption | with_reducible (apply State.updXb_ok) | with_reducible (apply State.forEach_ok) | with_reducible (apply State.round_ok) | with_reducible (apply State.ite_ok) | split | (intro _ _ hok) | (intro _ hok) | (intro _ _ _ hok) | simp only [State.regsOk_mk, State.regsOk_eta])

theorem State.putGrp_ok (s : State) (d i : Nat) (w : List Nat) (hok : s.regsOk = true) : (State.putGrp s d i w).regsOk = true := by
  simp only [State.putGrp, State.regsOk_mk, State.regsOk_eta, apply_ite State.regsOk, ite_self, implies_true, eq_self, hok]

theorem State.grpOp_ok (s : State) (d op i : Nat) (hok : s.regsOk = true) : (State.grpOp s d op i).regsOk = true := by
  unfold State.grpOp
  extract_lets
  repeat' (first | with_reducible assumption | with_reducible (apply State.ev_ok) | with_reducible (apply State.wr_ok) | with_reducible (apply State.forEach_ok) | with_reducible (apply State.putGrp_ok) | with_reducible (apply State.ite_ok) | split | (intro _ _ hok) | (intro _ hok) | (intro _ _ _ hok) | simp only [State.regsOk_mk, State.regsOk_eta])

theorem State.xbCommit_ok (s : State) (d : Nat) (hok : s.regsOk = true) : (State.xbCommit s d).regsOk = true := by
  unfold State.xbCommit
  repeat' (first | with_reducible assumption | with_reducible (apply State.forEach_ok) | with_reducible (apply State.commitReg_ok) | with_reducible (apply State.ite_ok) | split | (intro _ _ hok) | (intro _ hok) | (intro _ _ _ hok) | simp only [State.regsOk_mk, State.regsOk_eta])

theorem State.larderMinClear_ok (s : State) (d : Nat) (hok : s.regsOk = true) : (State.larderMinClear s d).regsOk = true := by
  simp only [State.larderMinClear, State.wr_ok, State.regsOk_mk, State.regsOk_eta, apply_ite State.regsOk, ite_self, implies_true, eq_self, hok]

end Sys2Proof.Machine
end

