-- ==== Sys2Proof/Laws/ChanOps.lean ====
section
/-! SUPPORT. What the operations of Machine/ChanOps.lean leave alone: the part, the waiting commands, the blown life-cycle fuses, and the
canonical form of the register file. -/

namespace Sys2Proof.Machine
set_option linter.unusedSimpArgs false
set_option linter.unusedVariables false
set_option linter.unreachableTactic false
set_option linter.unusedTactic false
set_option linter.style.nameCheck false

theorem State.orphans_core (s : State) : (State.orphans s).core = s.core := by
  simp only [State.orphans, State.core_mk, State.core_eta, ↓apply_ite State.core, ite_self, implies_true, eq_self]

theorem State.abortCmds_core (s : State) (d : Nat) : (State.abortCmds s d).core = s.core := by
  unfold State.abortCmds
  repeat' (first | with_reducible rfl | simp only [↓State.orphans_core, ↓State.forEach_core, ↓State.respond_core, ↓State.updChan_core, State.core_mk, State.core_eta, ↓apply_ite State.core, ite_self, implies_true, eq_self] | split | (refine (State.forEach_core _ _ _ (fun s a => ?_)).trans ?_))

theorem State.orphans_ok (s : State) (hok : s.regsOk = true) : (State.orphans s).regsOk = true := by
  simp only [State.orphans, State.regsOk_mk, State.regsOk_eta, apply_ite State.regsOk, ite_self, implies_true, eq_self, hok]

theorem State.abortCmds_ok (s : State) (d : Nat) (hok : s.regsOk = true) : (State.abortCmds s d).regsOk = true := by
  unfold State.abortCmds
  extract_lets
  repeat' (first | with_reducible assumption | with_reducible (apply State.orphans_ok) | with_reducible (apply State.forEach_ok) | with_reducible (apply State.respond_ok) | with_reducible (apply State.updChan_ok) | with_reducible (apply State.ite_ok) | split | (intro _ _ hok) | (intro _ hok) | (intro _ _ _ hok) | simp only [State.regsOk_mk, State.regsOk_eta])

end Sys2Proof.Machine
end

