-- ==== Sys2Proof/Laws/Binding.lean ====
section
/-! SUPPORT. What the operations of Machine/Binding.lean leave alone: the part, the waiting commands, the blown life-cycle fuses, and the
canonical form of the register file. -/

namespace Sys2Proof.Machine
set_option linter.unusedSimpArgs false
set_option linter.unusedVariables false
set_option linter.unreachableTactic false
set_option linter.unusedTactic false
set_option linter.style.nameCheck false

theorem State.hdmAccess_core (s : State) (v n k : Nat) (acc : HdmAcc) : (State.hdmAccess s v n k acc).core = s.core := by
  unfold State.hdmAccess
  repeat' (first | with_reducible rfl | simp only [↓State.updVppb_core, ↓State.emit_core, State.core_mk, State.core_eta, ↓apply_ite State.core, ite_self, implies_true, eq_self] | split)

theorem State.uspAccess_core (s : State) (v : Nat) (acc : CfgAcc) : (State.uspAccess s v acc).core = s.core := by
  unfold State.uspAccess
  repeat' split
  all_goals simp only [↓State.emit_core, State.core_mk, State.core_eta, ↓apply_ite State.core, ite_self, implies_true, eq_self]

theorem State.vppbAccess_core (s : State) (v n : Nat) (acc : CfgAcc) : (State.vppbAccess s v n acc).core = s.core := by
  unfold State.vppbAccess
  repeat' split
  all_goals simp only [↓State.emit_core, ↓State.updVppb_core, ↓State.dlActive_core, ↓State.beginUnbinding_core, State.core_mk, State.core_eta, ↓apply_ite State.core, ite_self, implies_true, eq_self]

theorem State.fn1Access_core (s : State) (v : Nat) (acc : CfgAcc) : (State.fn1Access s v acc).core = s.core := by
  unfold State.fn1Access
  repeat' split
  all_goals simp only [↓State.emit_core, ↓State.fn1Write_core, State.core_mk, State.core_eta, ↓apply_ite State.core, ite_self, implies_true, eq_self]

theorem State.fn2Access_core (s : State) (v : Nat) (acc : CfgAcc) : (State.fn2Access s v acc).core = s.core := by
  unfold State.fn2Access
  repeat' split
  all_goals simp only [↓State.emit_core, ↓State.fn2Write_core, State.core_mk, State.core_eta, ↓apply_ite State.core, ite_self, implies_true, eq_self]

theorem State.deviceAccess_core (s : State) (v bus : Nat) (acc : CfgAcc) : (State.deviceAccess s v bus acc).core = s.core := by
  unfold State.deviceAccess
  repeat' split
  all_goals simp only [↓State.hdmAccess_core, ↓State.inc_core, ↓State.emit_core, ↓State.arrive_core, State.core_mk, State.core_eta, ↓apply_ite State.core, ite_self, implies_true, eq_self]

theorem State.hostConfig_core (s : State) (v : Nat) (goal : CfgTo) (acc : CfgAcc) : (State.hostConfig s v goal acc).core = s.core := by
  unfold State.hostConfig
  repeat' split
  all_goals simp only [↓State.uspAccess_core, ↓State.fn1Access_core, ↓State.fn2Access_core, ↓State.vppbAccess_core, ↓State.deviceAccess_core, State.core_mk, State.core_eta, ↓apply_ite State.core, ite_self, implies_true, eq_self]

theorem State.decoderCommit_core (s : State) (v n : Nat) (h : HostDec) : (State.decoderCommit s v n h).core = s.core := by
  unfold State.decoderCommit
  repeat' (first | with_reducible rfl | simp only [↓State.emit_core, ↓State.putDec_core, ↓State.putHostDec_core, State.core_mk, State.core_eta, ↓apply_ite State.core, ite_self, implies_true, eq_self] | split)

theorem State.decoderClear_core (s : State) (v n : Nat) : (State.decoderClear s v n).core = s.core := by
  simp only [State.decoderClear, ↓State.emit_core, ↓State.putDec_core, ↓State.putHostDec_core, State.core_mk, State.core_eta, ↓apply_ite State.core, ite_self, implies_true, eq_self]

theorem State.decOp_core (s : State) (d op i : Nat) (w : List Nat) : (State.decOp s d op i w).core = s.core := by
  simp only [State.decOp, ↓State.ev_core, ↓State.putDec_core, State.core_mk, State.core_eta, ↓apply_ite State.core, ite_self, implies_true, eq_self]

theorem State.pidOp_core (s : State) (d op i v : Nat) : (State.pidOp s d op i v).core = s.core := by
  simp only [State.pidOp, State.core_mk, State.core_eta, ↓apply_ite State.core, ite_self, implies_true, eq_self]

theorem State.bdOp_core (s : State) (d op table i : Nat) : (State.bdOp s d op table i).core = s.core := by
  unfold State.bdOp
  repeat' split
  all_goals simp only [↓State.ev_core, ↓State.wr_core, ↓State.forEach_core, ↓State.decOp_core, ↓State.pidOp_core, State.core_mk, State.core_eta, ↓apply_ite State.core, ite_self, implies_true, eq_self]

theorem State.bind_core (s : State) (c v n p ld : Nat) : (State.bind s c v n p ld).core = s.core := by
  simp only [State.bind, ↓State.respond_core, ↓State.updVppb_core, ↓State.emit_core, State.core_mk, State.core_eta, ↓apply_ite State.core, ite_self, implies_true, eq_self]

theorem State.bindEnds_core (s : State) (d i : Nat) : (State.bindEnds s d i).core = s.core := by
  simp only [State.bindEnds, ↓State.updVppb_core, ↓State.forEach_core, ↓State.bgDone_core, State.core_mk, State.core_eta, ↓apply_ite State.core, ite_self, implies_true, eq_self]

theorem State.bindingDone_core (s : State) (d i : Nat) : (State.bindingDone s d i).core = s.core := by
  simp only [State.bindingDone, ↓State.updVppb_core, ↓State.emit_core, ↓State.bindEnds_core, State.core_mk, State.core_eta, ↓apply_ite State.core, ite_self, implies_true, eq_self]

theorem State.unbind_core (s : State) (c v n opt : Nat) : (State.unbind s c v n opt).core = s.core := by
  unfold State.unbind
  repeat' split
  all_goals simp only [↓State.respond_core, ↓State.updVppb_core, ↓State.beginUnbinding_core, ↓State.emit_core, ↓State.dlActive_core, State.core_mk, State.core_eta, ↓apply_ite State.core, ite_self, implies_true, eq_self]

theorem State.unbound_core (s : State) (d i : Nat) : (State.unbound s d i).core = s.core := by
  unfold State.unbound
  repeat' (first | with_reducible rfl | simp only [↓State.forEach_core, ↓State.putDec_core, ↓State.putHostDec_core, ↓State.updVppb_core, ↓State.bindEnds_core, State.core_mk, State.core_eta, ↓apply_ite State.core, ite_self, implies_true, eq_self] | split | (refine (State.forEach_core _ _ _ (fun s a => ?_)).trans ?_))

theorem State.drained_core (s : State) (d i : Nat) : (State.drained s d i).core = s.core := by
  simp only [State.drained, ↓State.unbound_core, State.core_mk, State.core_eta, ↓apply_ite State.core, ite_self, implies_true, eq_self]

theorem State.unbindExpiry_core (s : State) (d i : Nat) : (State.unbindExpiry s d i).core = s.core := by
  simp only [State.unbindExpiry, ↓State.beginUnbinding_core, ↓State.updPort_core, ↓State.showCellar_core, ↓State.forEach_core, ↓State.freeCopy_core, ↓State.dropRecord_core, ↓State.completeOther_core, ↓State.ev_core, ↓State.unbound_core, State.core_mk, State.core_eta, ↓apply_ite State.core, ite_self, implies_true, eq_self]

theorem State.setShare_core (s : State) (c p ld : Nat) (on : Bool) : (State.setShare s c p ld on).core = s.core := by
  unfold State.setShare
  repeat' split
  all_goals simp only [↓State.respond_core, ↓State.wrB_core, State.core_mk, State.core_eta, ↓apply_ite State.core, ite_self, implies_true, eq_self]

theorem State.askDevice_core (s : State) (c p : Nat) (ok : Bool) (o : Out) (got : DevAnswer) : (State.askDevice s c p ok o got).core = s.core := by
  simp only [State.askDevice, ↓State.respond_core, ↓State.useFree_core, ↓State.emit_core, State.core_mk, State.core_eta, ↓apply_ite State.core, ite_self, implies_true, eq_self]

theorem State.hdmAccess_ok (s : State) (v n k : Nat) (acc : HdmAcc) (hok : s.regsOk = true) : (State.hdmAccess s v n k acc).regsOk = true := by
  unfold State.hdmAccess
  extract_lets
  repeat' (first | with_reducible assumption | with_reducible (apply State.updVppb_ok) | with_reducible (apply State.emit_ok) | with_reducible (apply State.ite_ok) | split | (intro _ _ hok) | (intro _ hok) | (intro _ _ _ hok) | simp only [State.regsOk_mk, State.regsOk_eta])

theorem State.uspAccess_ok (s : State) (v : Nat) (acc : CfgAcc) (hok : s.regsOk = true) : (State.uspAccess s v acc).regsOk = true := by
  unfold State.uspAccess
  repeat' split
  all_goals simp only [State.emit_ok, State.regsOk_mk, State.regsOk_eta, apply_ite State.regsOk, ite_self, implies_true, eq_self, hok]

theorem State.vppbAccess_ok (s : State) (v n : Nat) (acc : CfgAcc) (hok : s.regsOk = true) : (State.vppbAccess s v n acc).regsOk = true := by
  unfold State.vppbAccess
  repeat' split
  all_goals simp only [State.emit_ok, State.updVppb_ok, State.dlActive_ok, State.beginUnbinding_ok, State.regsOk_mk, State.regsOk_eta, apply_ite State.regsOk, ite_self, implies_true, eq_self, hok]

theorem State.fn1Access_ok (s : State) (v : Nat) (acc : CfgAcc) (hok : s.regsOk = true) : (State.fn1Access s v acc).regsOk = true := by
  unfold State.fn1Access
  repeat' split
  all_goals simp only [State.emit_ok, State.fn1Write_ok, State.regsOk_mk, State.regsOk_eta, apply_ite State.regsOk, ite_self, implies_true, eq_self, hok]

theorem State.fn2Access_ok (s : State) (v : Nat) (acc : CfgAcc) (hok : s.regsOk = true) : (State.fn2Access s v acc).regsOk = true := by
  unfold State.fn2Access
  repeat' split
  all_goals simp only [State.emit_ok, State.fn2Write_ok, State.regsOk_mk, State.regsOk_eta, apply_ite State.regsOk, ite_self, implies_true, eq_self, hok]

theorem State.deviceAccess_ok (s : State) (v bus : Nat) (acc : CfgAcc) (hok : s.regsOk = true) : (State.deviceAccess s v bus acc).regsOk = true := by
  unfold State.deviceAccess
  repeat' split
  all_goals simp only [State.hdmAccess_ok, State.inc_ok, State.emit_ok, State.arrive_ok, State.regsOk_mk, State.regsOk_eta, apply_ite State.regsOk, ite_self, implies_true, eq_self, hok]

theorem State.hostConfig_ok (s : State) (v : Nat) (goal : CfgTo) (acc : CfgAcc) (hok : s.regsOk = true) : (State.hostConfig s v goal acc).regsOk = true := by
  unfold State.hostConfig
  repeat' split
  all_goals simp only [State.uspAccess_ok, State.fn1Access_ok, State.fn2Access_ok, State.vppbAccess_ok, State.deviceAccess_ok, State.regsOk_mk, State.regsOk_eta, apply_ite State.regsOk, ite_self, implies_true, eq_self, hok]

theorem State.decoderCommit_ok (s : State) (v n : Nat) (h : HostDec) (hok : s.regsOk = true) : (State.decoderCommit s v n h).regsOk = true := by
  unfold State.decoderCommit
  repeat' (first | with_reducible assumption | with_reducible (apply State.emit_ok) | with_reducible (apply State.putDec_ok) | with_reducible (apply State.putHostDec_ok) | with_reducible (apply State.ite_ok) | split | (intro _ _ hok) | (intro _ hok) | (intro _ _ _ hok) | simp only [State.regsOk_mk, State.regsOk_eta])

theorem State.decoderClear_ok (s : State) (v n : Nat) (hok : s.regsOk = true) : (State.decoderClear s v n).regsOk = true := by
  unfold State.decoderClear
  extract_lets
  repeat' (first | with_reducible assumption | with_reducible (apply State.emit_ok) | with_reducible (apply State.putDec_ok) | with_reducible (apply State.putHostDec_ok) | with_reducible (apply State.ite_ok) | split | (intro _ _ hok) | (intro _ hok) | (intro _ _ _ hok) | simp only [State.regsOk_mk, State.regsOk_eta])

theorem State.decOp_ok (s : State) (d op i : Nat) (w : List Nat) (hok : s.regsOk = true) : (State.decOp s d op i w).regsOk = true := by
  simp only [State.decOp, State.ev_ok, State.putDec_ok, State.regsOk_mk, State.regsOk_eta, apply_ite State.regsOk, ite_self, implies_true, eq_self, hok]

theorem State.pidOp_ok (s : State) (d op i v : Nat) (hok : s.regsOk = true) : (State.pidOp s d op i v).regsOk = true := by
  simp only [State.pidOp, State.regsOk_mk, State.regsOk_eta, apply_ite State.regsOk, ite_self, implies_true, eq_self, hok]

theorem State.bdOp_ok (s : State) (d op table i : Nat) (hok : s.regsOk = true) : (State.bdOp s d op table i).regsOk = true := by
  unfold State.bdOp
  extract_lets
  repeat' (first | with_reducible assumption | with_reducible (apply State.ev_ok) | with_reducible (apply State.wr_ok) | with_reducible (apply State.forEach_ok) | with_reducible (apply State.decOp_ok) | with_reducible (apply State.pidOp_ok) | with_reducible (apply State.ite_ok) | split | (intro _ _ hok) | (intro _ hok) | (intro _ _ _ hok) | simp only [State.regsOk_mk, State.regsOk_eta])

theorem State.bind_ok (s : State) (c v n p ld : Nat) (hok : s.regsOk = true) : (State.bind s c v n p ld).regsOk = true := by
  unfold State.bind
  repeat' (first | with_reducible assumption | with_reducible (apply State.respond_ok) | with_reducible (apply State.updVppb_ok) | with_reducible (apply State.emit_ok) | with_reducible (apply State.ite_ok) | split | (intro _ _ hok) | (intro _ hok) | (intro _ _ _ hok) | simp only [State.regsOk_mk, State.regsOk_eta])

theorem State.bindEnds_ok (s : State) (d i : Nat) (hok : s.regsOk = true) : (State.bindEnds s d i).regsOk = true := by
  unfold State.bindEnds
  extract_lets
  repeat' (first | with_reducible assumption | with_reducible (apply State.updVppb_ok) | with_reducible (apply State.forEach_ok) | with_reducible (apply State.bgDone_ok) | with_reducible (apply State.ite_ok) | split | (intro _ _ hok) | (intro _ hok) | (intro _ _ _ hok) | simp only [State.regsOk_mk, State.regsOk_eta])

theorem State.bindingDone_ok (s : State) (d i : Nat) (hok : s.regsOk = true) : (State.bindingDone s d i).regsOk = true := by
  unfold State.bindingDone
  extract_lets
  repeat' (first | with_reducible assumption | with_reducible (apply State.updVppb_ok) | with_reducible (apply State.emit_ok) | with_reducible (apply State.bindEnds_ok) | with_reducible (apply State.ite_ok) | split | (intro _ _ hok) | (intro _ hok) | (intro _ _ _ hok) | simp only [State.regsOk_mk, State.regsOk_eta])

theorem State.unbind_ok (s : State) (c v n opt : Nat) (hok : s.regsOk = true) : (State.unbind s c v n opt).regsOk = true := by
  unfold State.unbind
  repeat' (first | with_reducible assumption | with_reducible (apply State.respond_ok) | with_reducible (apply State.updVppb_ok) | with_reducible (apply State.beginUnbinding_ok) | with_reducible (apply State.emit_ok) | with_reducible (apply State.dlActive_ok) | with_reducible (apply State.ite_ok) | split | (intro _ _ hok) | (intro _ hok) | (intro _ _ _ hok) | simp only [State.regsOk_mk, State.regsOk_eta])

theorem State.unbound_ok (s : State) (d i : Nat) (hok : s.regsOk = true) : (State.unbound s d i).regsOk = true := by
  unfold State.unbound
  repeat' (first | with_reducible assumption | with_reducible (apply State.forEach_ok) | with_reducible (apply State.putDec_ok) | with_reducible (apply State.putHostDec_ok) | with_reducible (apply State.updVppb_ok) | with_reducible (apply State.bindEnds_ok) | with_reducible (apply State.ite_ok) | split | (intro _ _ hok) | (intro _ hok) | (intro _ _ _ hok) | simp only [State.regsOk_mk, State.regsOk_eta])

theorem State.drained_ok (s : State) (d i : Nat) (hok : s.regsOk = true) : (State.drained s d i).regsOk = true := by
  simp only [State.drained, State.unbound_ok, State.regsOk_mk, State.regsOk_eta, apply_ite State.regsOk, ite_self, implies_true, eq_self, hok]

theorem State.unbindExpiry_ok (s : State) (d i : Nat) (hok : s.regsOk = true) : (State.unbindExpiry s d i).regsOk = true := by
  unfold State.unbindExpiry
  extract_lets
  repeat' (first | with_reducible assumption | with_reducible (apply State.beginUnbinding_ok) | with_reducible (apply State.updPort_ok) | with_reducible (apply State.showCellar_ok) | with_reducible (apply State.forEach_ok) | with_reducible (apply State.freeCopy_ok) | with_reducible (apply State.dropRecord_ok) | with_reducible (apply State.completeOther_ok) | with_reducible (apply State.ev_ok) | with_reducible (apply State.unbound_ok) | with_reducible (apply State.ite_ok) | split | (intro _ _ hok) | (intro _ hok) | (intro _ _ _ hok) | simp only [State.regsOk_mk, State.regsOk_eta])

theorem State.setShare_ok (s : State) (c p ld : Nat) (on : Bool) (hok : s.regsOk = true) : (State.setShare s c p ld on).regsOk = true := by
  unfold State.setShare
  repeat' split
  all_goals simp only [State.respond_ok, State.wrB_ok, State.regsOk_mk, State.regsOk_eta, apply_ite State.regsOk, ite_self, implies_true, eq_self, hok]

theorem State.askDevice_ok (s : State) (c p : Nat) (ok : Bool) (o : Out) (got : DevAnswer) (hok : s.regsOk = true) : (State.askDevice s c p ok o got).regsOk = true := by
  simp only [State.askDevice, State.respond_ok, State.useFree_ok, State.emit_ok, State.regsOk_mk, State.regsOk_eta, apply_ite State.regsOk, ite_self, implies_true, eq_self, hok]

end Sys2Proof.Machine
end

