-- ==== Sys2Proof/Laws/Agent.lean ====
section
/-! SUPPORT. What the operations of Machine/Agent.lean leave alone: the part, the waiting commands, the blown life-cycle fuses, and the
canonical form of the register file. -/

namespace Sys2Proof.Machine
set_option linter.unusedSimpArgs false
set_option linter.unusedVariables false
set_option linter.unreachableTactic false
set_option linter.unusedTactic false
set_option linter.style.nameCheck false

theorem State.loftError_core (s : State) (d i : Nat) (double : Bool) : (State.loftError s d i double).core = s.core := by
  unfold State.loftError
  repeat' split
  all_goals simp only [↓State.sramFixed_core, ↓State.updCa_core, ↓State.delLoft_core, ↓State.sramBad_core, ↓State.evC_core, ↓State.forEach_core, ↓State.push_core, State.core_mk, State.core_eta, ↓apply_ite State.core, ite_self, implies_true, eq_self]

theorem State.agentNext_core (s : State) (d : Nat) (bad : Option (Nat × Bool)) : (State.agentNext s d bad).core = s.core := by
  unfold State.agentNext
  repeat' split
  all_goals simp only [↓State.updCa_core, ↓State.countLook_core, ↓State.loftError_core, ↓State.push_core, ↓State.agentLook_core, State.core_mk, State.core_eta, ↓apply_ite State.core, ite_self, implies_true, eq_self]

theorem State.passOne_core (s : State) (d t : Nat) : (State.passOne s d t).core = s.core := by
  unfold State.passOne
  repeat' split
  all_goals simp only [↓State.noteDone_core, ↓State.copySeen_core, State.core_mk, State.core_eta, ↓apply_ite State.core, ite_self, implies_true, eq_self]

theorem State.unmark_core (s : State) (d i : Nat) : (State.unmark s d i).core = s.core := by
  unfold State.unmark
  repeat' split
  all_goals simp only [↓State.updCa_core, ↓State.askWalk_core, State.core_mk, State.core_eta, ↓apply_ite State.core, ite_self, implies_true, eq_self]

theorem State.regionWrite_core (s : State) (d i : Nat) (new : Option Region) : (State.regionWrite s d i new).core = s.core := by
  unfold State.regionWrite
  repeat' split
  all_goals simp only [↓State.mend_core, ↓State.unmark_core, ↓State.updCa_core, ↓State.ev_core, State.core_mk, State.core_eta, ↓apply_ite State.core, ite_self, implies_true, eq_self]

theorem State.caData_core (s : State) (d : Nat) (w : List Nat) : (State.caData s d w).core = s.core := by
  simp only [State.caData, ↓State.forEach_core, ↓State.wr_core, State.core_mk, State.core_eta, ↓apply_ite State.core, ite_self, implies_true, eq_self]

theorem State.caRead_core (s : State) (d table i : Nat) : (State.caRead s d table i).core = s.core := by
  unfold State.caRead
  repeat' split
  all_goals simp only [↓State.caData_core, State.core_mk, State.core_eta, ↓apply_ite State.core, ite_self, implies_true, eq_self]

theorem State.caLookup_core (s : State) (d : Nat) : (State.caLookup s d).core = s.core := by
  unfold State.caLookup
  repeat' (first | with_reducible rfl | simp only [↓State.on_core, ↓State.wr_core, ↓State.off_core, State.core_mk, State.core_eta, ↓apply_ite State.core, ite_self, implies_true, eq_self] | split)

theorem State.caOp_core (s : State) (d op table i : Nat) : (State.caOp s d op table i).core = s.core := by
  unfold State.caOp
  repeat' split
  all_goals simp only [↓State.ev_core, ↓State.wr_core, ↓State.caData_core, ↓State.caRead_core, ↓State.regionWrite_core, ↓State.caLookup_core, State.core_mk, State.core_eta, ↓apply_ite State.core, ite_self, implies_true, eq_self]

theorem State.loftError_ok (s : State) (d i : Nat) (double : Bool) (hok : s.regsOk = true) : (State.loftError s d i double).regsOk = true := by
  unfold State.loftError
  repeat' (first | with_reducible assumption | with_reducible (apply State.sramFixed_ok) | with_reducible (apply State.updCa_ok) | with_reducible (apply State.delLoft_ok) | with_reducible (apply State.sramBad_ok) | with_reducible (apply State.evC_ok) | with_reducible (apply State.forEach_ok) | with_reducible (apply State.push_ok) | with_reducible (apply State.ite_ok) | split | (intro _ _ hok) | (intro _ hok) | (intro _ _ _ hok) | simp only [State.regsOk_mk, State.regsOk_eta])

theorem State.agentNext_ok (s : State) (d : Nat) (bad : Option (Nat × Bool)) (hok : s.regsOk = true) : (State.agentNext s d bad).regsOk = true := by
  unfold State.agentNext
  repeat' (first | with_reducible assumption | with_reducible (apply State.updCa_ok) | with_reducible (apply State.countLook_ok) | with_reducible (apply State.loftError_ok) | with_reducible (apply State.push_ok) | with_reducible (apply State.agentLook_ok) | with_reducible (apply State.ite_ok) | split | (intro _ _ hok) | (intro _ hok) | (intro _ _ _ hok) | simp only [State.regsOk_mk, State.regsOk_eta])

theorem State.passOne_ok (s : State) (d t : Nat) (hok : s.regsOk = true) : (State.passOne s d t).regsOk = true := by
  unfold State.passOne
  repeat' split
  all_goals simp only [State.noteDone_ok, State.copySeen_ok, State.regsOk_mk, State.regsOk_eta, apply_ite State.regsOk, ite_self, implies_true, eq_self, hok]

theorem State.unmark_ok (s : State) (d i : Nat) (hok : s.regsOk = true) : (State.unmark s d i).regsOk = true := by
  unfold State.unmark
  repeat' split
  all_goals simp only [State.updCa_ok, State.askWalk_ok, State.regsOk_mk, State.regsOk_eta, apply_ite State.regsOk, ite_self, implies_true, eq_self, hok]

theorem State.regionWrite_ok (s : State) (d i : Nat) (new : Option Region) (hok : s.regsOk = true) : (State.regionWrite s d i new).regsOk = true := by
  unfold State.regionWrite
  extract_lets
  repeat' (first | with_reducible assumption | with_reducible (apply State.mend_ok) | with_reducible (apply State.unmark_ok) | with_reducible (apply State.updCa_ok) | with_reducible (apply State.ev_ok) | with_reducible (apply State.ite_ok) | split | (intro _ _ hok) | (intro _ hok) | (intro _ _ _ hok) | simp only [State.regsOk_mk, State.regsOk_eta])

theorem State.caData_ok (s : State) (d : Nat) (w : List Nat) (hok : s.regsOk = true) : (State.caData s d w).regsOk = true := by
  unfold State.caData
  repeat' (first | with_reducible assumption | with_reducible (apply State.forEach_ok) | with_reducible (apply State.wr_ok) | with_reducible (apply State.ite_ok) | split | (intro _ _ hok) | (intro _ hok) | (intro _ _ _ hok) | simp only [State.regsOk_mk, State.regsOk_eta])

theorem State.caRead_ok (s : State) (d table i : Nat) (hok : s.regsOk = true) : (State.caRead s d table i).regsOk = true := by
  unfold State.caRead
  repeat' (first | with_reducible assumption | with_reducible (apply State.caData_ok) | with_reducible (apply State.ite_ok) | split | (intro _ _ hok) | (intro _ hok) | (intro _ _ _ hok) | simp only [State.regsOk_mk, State.regsOk_eta])

theorem State.caLookup_ok (s : State) (d : Nat) (hok : s.regsOk = true) : (State.caLookup s d).regsOk = true := by
  unfold State.caLookup
  repeat' (first | assumption | simp only [State.on_ok, State.wr_ok, State.off_ok, State.regsOk_mk, State.regsOk_eta, apply_ite State.regsOk, ite_self, implies_true, eq_self, hok] | split)

theorem State.caOp_ok (s : State) (d op table i : Nat) (hok : s.regsOk = true) : (State.caOp s d op table i).regsOk = true := by
  unfold State.caOp
  extract_lets
  repeat' (first | with_reducible assumption | with_reducible (apply State.ev_ok) | with_reducible (apply State.wr_ok) | with_reducible (apply State.caData_ok) | with_reducible (apply State.caRead_ok) | with_reducible (apply State.regionWrite_ok) | with_reducible (apply State.caLookup_ok) | with_reducible (apply State.ite_ok) | split | (intro _ _ hok) | (intro _ hok) | (intro _ _ _ hok) | simp only [State.regsOk_mk, State.regsOk_eta])

end Sys2Proof.Machine
end

