-- ==== Sys2Proof/Laws/Mirror.lean ====
section
/-! SUPPORT. What the operations of Machine/Mirror.lean leave alone: the part, the waiting commands, the blown life-cycle fuses, and the
canonical form of the register file. -/

namespace Sys2Proof.Machine
set_option linter.unusedSimpArgs false
set_option linter.unusedVariables false
set_option linter.unreachableTactic false
set_option linter.unusedTactic false
set_option linter.style.nameCheck false

theorem State.copyNdr_core (s : State) (d t c : Nat) : (State.copyNdr s d t c).core = s.core := by
  unfold State.copyNdr
  repeat' split
  all_goals simp only [↓State.noLate_core, ↓State.copyResolved_core, State.core_mk, State.core_eta, ↓apply_ite State.core, ite_self, implies_true, eq_self]

theorem State.copyTmo_core (s : State) (d t c : Nat) : (State.copyTmo s d t c).core = s.core := by
  unfold State.copyTmo
  repeat' split
  all_goals simp only [↓State.inc_core, ↓State.push_core, State.core_mk, State.core_eta, ↓apply_ite State.core, ite_self, implies_true, eq_self]

theorem State.guardAck_core (s : State) (d grp copy : Nat) (lines : List Nat) : (State.guardAck s d grp copy lines).core = s.core := by
  unfold State.guardAck
  repeat' split
  all_goals simp only [↓State.updMr_core, ↓State.forEach_core, ↓State.emit_core, State.core_mk, State.core_eta, ↓apply_ite State.core, ite_self, implies_true, eq_self]

theorem State.pairQuery_core (s : State) (d ch grp copy : Nat) (lines : List Nat) : (State.pairQuery s d ch grp copy lines).core = s.core := by
  simp only [State.pairQuery, ↓State.updMr_core, State.core_mk, State.core_eta, ↓apply_ite State.core, ite_self, implies_true, eq_self]

theorem State.pairsDone_core (s : State) (d grp copy line : Nat) : (State.pairsDone s d grp copy line).core = s.core := by
  unfold State.pairsDone
  repeat' split
  all_goals simp only [↓State.updMr_core, ↓State.emit_core, ↓State.mirrorRead_core, State.core_mk, State.core_eta, ↓apply_ite State.core, ite_self, implies_true, eq_self]

theorem State.copyMsgCame_core (s : State) (d src : Nat) (m : CopyMsg) : (State.copyMsgCame s d src m).core = s.core := by
  unfold State.copyMsgCame
  repeat' (first | with_reducible rfl | simp only [↓State.applyCopyMsg_core, ↓State.updMr_core, ↓State.emit_core, State.core_mk, State.core_eta, ↓apply_ite State.core, ite_self, implies_true, eq_self] | split)

theorem State.mrTblOp_core (s : State) (d op i : Nat) : (State.mrTblOp s d op i).core = s.core := by
  unfold State.mrTblOp
  repeat' (first | with_reducible rfl | simp only [↓State.ev_core, ↓State.wr_core, ↓State.forEach_core, ↓State.putMir_core, ↓State.autoResilver_core, ↓State.endResilver_core, ↓State.dropRepairs_core, State.core_mk, State.core_eta, ↓apply_ite State.core, ite_self, implies_true, eq_self] | split | (refine (State.forEach_core _ _ _ (fun s a => ?_)).trans ?_))

theorem State.mrCopyOp_core (s : State) (d op i c : Nat) : (State.mrCopyOp s d op i c).core = s.core := by
  unfold State.mrCopyOp
  repeat' (first | with_reducible rfl | simp only [↓State.ev_core, ↓State.wr_core, ↓State.sendCopyMsg_core, ↓State.startResilver_core, ↓State.endResilver_core, State.core_mk, State.core_eta, ↓apply_ite State.core, ite_self, implies_true, eq_self] | split)

theorem State.resilverAcked_core (s : State) (d : Nat) : (State.resilverAcked s d).core = s.core := by
  unfold State.resilverAcked
  repeat' split
  all_goals simp only [↓State.updMr_core, State.core_mk, State.core_eta, ↓apply_ite State.core, ite_self, implies_true, eq_self]

theorem State.blockDone_core (s : State) (d line : Nat) : (State.blockDone s d line).core = s.core := by
  unfold State.blockDone
  repeat' split
  all_goals simp only [↓State.updMr_core, ↓State.wr_core, ↓State.endResilver_core, ↓State.sendCopyMsg_core, ↓State.inc_core, ↓State.ev_core, State.core_mk, State.core_eta, ↓apply_ite State.core, ite_self, implies_true, eq_self]

theorem State.ovOp_core (s : State) (d op : Nat) : (State.ovOp s d op).core = s.core := by
  unfold State.ovOp
  repeat' (first | with_reducible rfl | simp only [↓State.ev_core, ↓State.wr_core, ↓State.bind_core, ↓State.wrB_core, ↓State.updOv_core, ↓State.forEach_core, ↓State.ovBegin_core, ↓State.migAbort_core, ↓State.showOv_core, State.core_mk, State.core_eta, ↓apply_ite State.core, ite_self, implies_true, eq_self] | split | (refine (State.forEach_core _ _ _ (fun s a => ?_)).trans ?_))

theorem State.dualNdr_core (s : State) (d tag : Nat) (newCopy : Bool) : (State.dualNdr s d tag newCopy).core = s.core := by
  unfold State.dualNdr
  repeat' split
  all_goals simp only [↓State.dualEnd_core, State.core_mk, State.core_eta, ↓apply_ite State.core, ite_self, implies_true, eq_self]

theorem State.copyNdr_ok (s : State) (d t c : Nat) (hok : s.regsOk = true) : (State.copyNdr s d t c).regsOk = true := by
  unfold State.copyNdr
  repeat' split
  all_goals simp only [State.noLate_ok, State.copyResolved_ok, State.regsOk_mk, State.regsOk_eta, apply_ite State.regsOk, ite_self, implies_true, eq_self, hok]

theorem State.copyTmo_ok (s : State) (d t c : Nat) (hok : s.regsOk = true) : (State.copyTmo s d t c).regsOk = true := by
  unfold State.copyTmo
  extract_lets
  repeat' (first | with_reducible assumption | with_reducible (apply State.inc_ok) | with_reducible (apply State.push_ok) | with_reducible (apply State.ite_ok) | split | (intro _ _ hok) | (intro _ hok) | (intro _ _ _ hok) | simp only [State.regsOk_mk, State.regsOk_eta])

theorem State.guardAck_ok (s : State) (d grp copy : Nat) (lines : List Nat) (hok : s.regsOk = true) : (State.guardAck s d grp copy lines).regsOk = true := by
  unfold State.guardAck
  repeat' (first | with_reducible assumption | with_reducible (apply State.updMr_ok) | with_reducible (apply State.forEach_ok) | with_reducible (apply State.emit_ok) | with_reducible (apply State.ite_ok) | split | (intro _ _ hok) | (intro _ hok) | (intro _ _ _ hok) | simp only [State.regsOk_mk, State.regsOk_eta])

theorem State.pairQuery_ok (s : State) (d ch grp copy : Nat) (lines : List Nat) (hok : s.regsOk = true) : (State.pairQuery s d ch grp copy lines).regsOk = true := by
  simp only [State.pairQuery, State.updMr_ok, State.regsOk_mk, State.regsOk_eta, apply_ite State.regsOk, ite_self, implies_true, eq_self, hok]

theorem State.pairsDone_ok (s : State) (d grp copy line : Nat) (hok : s.regsOk = true) : (State.pairsDone s d grp copy line).regsOk = true := by
  unfold State.pairsDone
  repeat' split
  all_goals simp only [State.updMr_ok, State.emit_ok, State.mirrorRead_ok, State.regsOk_mk, State.regsOk_eta, apply_ite State.regsOk, ite_self, implies_true, eq_self, hok]

theorem State.copyMsgCame_ok (s : State) (d src : Nat) (m : CopyMsg) (hok : s.regsOk = true) : (State.copyMsgCame s d src m).regsOk = true := by
  unfold State.copyMsgCame
  extract_lets
  repeat' (first | with_reducible assumption | with_reducible (apply State.applyCopyMsg_ok) | with_reducible (apply State.updMr_ok) | with_reducible (apply State.emit_ok) | with_reducible (apply State.ite_ok) | split | (intro _ _ hok) | (intro _ hok) | (intro _ _ _ hok) | simp only [State.regsOk_mk, State.regsOk_eta])

theorem State.mrTblOp_ok (s : State) (d op i : Nat) (hok : s.regsOk = true) : (State.mrTblOp s d op i).regsOk = true := by
  unfold State.mrTblOp
  repeat' (first | with_reducible assumption | with_reducible (apply State.ev_ok) | with_reducible (apply State.wr_ok) | with_reducible (apply State.forEach_ok) | with_reducible (apply State.putMir_ok) | with_reducible (apply State.autoResilver_ok) | with_reducible (apply State.endResilver_ok) | with_reducible (apply State.dropRepairs_ok) | with_reducible (apply State.ite_ok) | split | (intro _ _ hok) | (intro _ hok) | (intro _ _ _ hok) | simp only [State.regsOk_mk, State.regsOk_eta])

theorem State.mrCopyOp_ok (s : State) (d op i c : Nat) (hok : s.regsOk = true) : (State.mrCopyOp s d op i c).regsOk = true := by
  unfold State.mrCopyOp
  extract_lets
  repeat' (first | with_reducible assumption | with_reducible (apply State.ev_ok) | with_reducible (apply State.wr_ok) | with_reducible (apply State.sendCopyMsg_ok) | with_reducible (apply State.startResilver_ok) | with_reducible (apply State.endResilver_ok) | with_reducible (apply State.ite_ok) | split | (intro _ _ hok) | (intro _ hok) | (intro _ _ _ hok) | simp only [State.regsOk_mk, State.regsOk_eta])

theorem State.resilverAcked_ok (s : State) (d : Nat) (hok : s.regsOk = true) : (State.resilverAcked s d).regsOk = true := by
  unfold State.resilverAcked
  repeat' split
  all_goals simp only [State.updMr_ok, State.regsOk_mk, State.regsOk_eta, apply_ite State.regsOk, ite_self, implies_true, eq_self, hok]

theorem State.blockDone_ok (s : State) (d line : Nat) (hok : s.regsOk = true) : (State.blockDone s d line).regsOk = true := by
  unfold State.blockDone
  extract_lets
  repeat' (first | with_reducible assumption | with_reducible (apply State.updMr_ok) | with_reducible (apply State.wr_ok) | with_reducible (apply State.endResilver_ok) | with_reducible (apply State.sendCopyMsg_ok) | with_reducible (apply State.inc_ok) | with_reducible (apply State.ev_ok) | with_reducible (apply State.ite_ok) | split | (intro _ _ hok) | (intro _ hok) | (intro _ _ _ hok) | simp only [State.regsOk_mk, State.regsOk_eta])

theorem State.ovOp_ok (s : State) (d op : Nat) (hok : s.regsOk = true) : (State.ovOp s d op).regsOk = true := by
  unfold State.ovOp
  repeat' (first | with_reducible assumption | with_reducible (apply State.ev_ok) | with_reducible (apply State.wr_ok) | with_reducible (apply State.bind_ok) | with_reducible (apply State.wrB_ok) | with_reducible (apply State.updOv_ok) | with_reducible (apply State.forEach_ok) | with_reducible (apply State.ovBegin_ok) | with_reducible (apply State.migAbort_ok) | with_reducible (apply State.showOv_ok) | with_reducible (apply State.ite_ok) | split | (intro _ _ hok) | (intro _ hok) | (intro _ _ _ hok) | simp only [State.regsOk_mk, State.regsOk_eta])

theorem State.dualNdr_ok (s : State) (d tag : Nat) (newCopy : Bool) (hok : s.regsOk = true) : (State.dualNdr s d tag newCopy).regsOk = true := by
  unfold State.dualNdr
  repeat' split
  all_goals simp only [State.dualEnd_ok, State.regsOk_mk, State.regsOk_eta, apply_ite State.regsOk, ite_self, implies_true, eq_self, hok]

end Sys2Proof.Machine
end

