-- ==== Sys2Proof/Laws/Shapers.lean ====
section
/-! SUPPORT. What the operations of Machine/Shapers.lean leave alone: the part, the waiting commands, the blown life-cycle fuses, and the
canonical form of the register file. -/

namespace Sys2Proof.Machine
set_option linter.unusedSimpArgs false
set_option linter.unusedVariables false
set_option linter.unreachableTactic false
set_option linter.unusedTactic false
set_option linter.style.nameCheck false

theorem State.starved_core (s : State) (d o e : Nat) : (State.starved s d o e).core = s.core := by
  simp only [State.starved, ↓State.updXb_core, ↓State.inc_core, ↓State.ev_core, State.core_mk, State.core_eta, ↓apply_ite State.core, ite_self, implies_true, eq_self]

theorem State.scCommit_core (s : State) (d : Nat) : (State.scCommit s d).core = s.core := by
  simp only [State.scCommit, ↓State.ev_core, ↓State.forEach_core, ↓State.commitReg_core, State.core_mk, State.core_eta, ↓apply_ite State.core, ite_self, implies_true, eq_self]

theorem State.shpOp_core (s : State) (d op i tokReset : Nat) : (State.shpOp s d op i tokReset).core = s.core := by
  unfold State.shpOp
  repeat' split
  all_goals simp only [↓State.ev_core, ↓State.wr_core, ↓State.on_core, ↓State.inc_core, ↓State.putShp_core, ↓State.showShps_core, State.core_mk, State.core_eta, ↓apply_ite State.core, ite_self, implies_true, eq_self]

theorem State.starved_ok (s : State) (d o e : Nat) (hok : s.regsOk = true) : (State.starved s d o e).regsOk = true := by
  unfold State.starved
  repeat' (first | with_reducible assumption | with_reducible (apply State.updXb_ok) | with_reducible (apply State.inc_ok) | with_reducible (apply State.ev_ok) | with_reducible (apply State.ite_ok) | split | (intro _ _ hok) | (intro _ hok) | (intro _ _ _ hok) | simp only [State.regsOk_mk, State.regsOk_eta])

theorem State.scCommit_ok (s : State) (d : Nat) (hok : s.regsOk = true) : (State.scCommit s d).regsOk = true := by
  unfold State.scCommit
  repeat' (first | with_reducible assumption | with_reducible (apply State.ev_ok) | with_reducible (apply State.forEach_ok) | with_reducible (apply State.commitReg_ok) | with_reducible (apply State.ite_ok) | split | (intro _ _ hok) | (intro _ hok) | (intro _ _ _ hok) | simp only [State.regsOk_mk, State.regsOk_eta])

theorem State.shpOp_ok (s : State) (d op i tokReset : Nat) (hok : s.regsOk = true) : (State.shpOp s d op i tokReset).regsOk = true := by
  unfold State.shpOp
  extract_lets
  repeat' (first | with_reducible assumption | with_reducible (apply State.ev_ok) | with_reducible (apply State.wr_ok) | with_reducible (apply State.on_ok) | with_reducible (apply State.inc_ok) | with_reducible (apply State.putShp_ok) | with_reducible (apply State.showShps_ok) | with_reducible (apply State.ite_ok) | split | (intro _ _ hok) | (intro _ hok) | (intro _ _ _ hok) | simp only [State.regsOk_mk, State.regsOk_eta])

end Sys2Proof.Machine
end

