-- ==== Sys2Proof/Laws/Dm.lean ====
section
/-! SUPPORT. What the operations of Machine/Dm.lean leave alone: the part, the waiting commands, the blown life-cycle fuses, and the
canonical form of the register file. -/

namespace Sys2Proof.Machine
set_option linter.unusedSimpArgs false
set_option linter.unusedVariables false
set_option linter.unreachableTactic false
set_option linter.unusedTactic false
set_option linter.style.nameCheck false

theorem State.responseFor_core (s : State) (d tag : Nat) (p : DmUse → Bool) (f : State → State) (hf : ∀ s, (f s).core = s.core) : (State.responseFor s d tag p f).core = s.core := by
  unfold State.responseFor
  repeat' split
  all_goals simp only [hf, State.core_mk, State.core_eta, ↓apply_ite State.core, ite_self, implies_true, eq_self]

theorem State.migrateReply_core (s : State) (d tag : Nat) (a : MigAnswer) : (State.migrateReply s d tag a).core = s.core := by
  unfold State.migrateReply
  repeat' (first | with_reducible rfl | simp only [↓State.dmTake_core, ↓State.updHeld_core, State.core_mk, State.core_eta, ↓apply_ite State.core, ite_self, implies_true, eq_self] | split | (refine (State.dmTake_core' (by assumption)).trans ?_))

theorem State.responseFor_ok (s : State) (d tag : Nat) (p : DmUse → Bool) (f : State → State) (hf : ∀ s, State.regsOk s = true → (f s).regsOk = true) (hok : s.regsOk = true) : (State.responseFor s d tag p f).regsOk = true := by
  unfold State.responseFor
  repeat' split
  all_goals simp only [hf, State.regsOk_mk, State.regsOk_eta, apply_ite State.regsOk, ite_self, implies_true, eq_self, hok]

theorem State.migrateReply_ok (s : State) (d tag : Nat) (a : MigAnswer) (hok : s.regsOk = true) : (State.migrateReply s d tag a).regsOk = true := by
  unfold State.migrateReply
  repeat' (first | with_reducible assumption | with_reducible (apply State.dmTake_ok) | with_reducible (apply State.updHeld_ok) | with_reducible (exact State.dmTake_ok' (by assumption) (by assumption)) | (refine State.dmTake_ok' (by assumption) ?_) | with_reducible (apply State.ite_ok) | split | (intro _ _ hok) | (intro _ hok) | (intro _ _ _ hok) | simp only [State.regsOk_mk, State.regsOk_eta])

end Sys2Proof.Machine
end

