-- ==== Sys2Proof/Laws/Ras.lean ====
section
/-! SUPPORT. What the operations of Machine/Ras.lean leave alone: the part, the waiting commands, the blown life-cycle fuses, and the
canonical form of the register file. -/

namespace Sys2Proof.Machine
set_option linter.unusedSimpArgs false
set_option linter.unusedVariables false
set_option linter.unreachableTactic false
set_option linter.unusedTactic false
set_option linter.style.nameCheck false

theorem State.perstDone_core (s : State) (p : Nat) : (State.perstDone s p).core = s.core := by
  unfold State.perstDone
  repeat' (first | with_reducible rfl | simp only [↓State.updSlot_core, ↓State.respond_core, State.core_mk, State.core_eta, ↓apply_ite State.core, ite_self, implies_true, eq_self] | split)

theorem State.unfenceSlot_core (s : State) (p : Nat) : (State.unfenceSlot s p).core = s.core := by
  simp only [State.unfenceSlot, ↓State.unfence_core, ↓State.perstDone_core, State.core_mk, State.core_eta, ↓apply_ite State.core, ite_self, implies_true, eq_self]

theorem State.fenceOp_core (s : State) (d op q : Nat) : (State.fenceOp s d op q).core = s.core := by
  unfold State.fenceOp
  repeat' split
  all_goals simp only [↓State.wr_core, ↓State.ev_core, ↓State.fence_core, ↓State.unfenceSlot_core, State.core_mk, State.core_eta, ↓apply_ite State.core, ite_self, implies_true, eq_self]

theorem State.viralFrom_core (s : State) (p : Nat) : (State.viralFrom s p).core = s.core := by
  simp only [State.viralFrom, ↓State.log_core, ↓State.fence_core, ↓State.forEach_core, ↓State.emit_core, State.core_mk, State.core_eta, ↓apply_ite State.core, ite_self, implies_true, eq_self]

theorem State.scrubSingle_core (s : State) (d a : Nat) (larder : Bool) : (State.scrubSingle s d a larder).core = s.core := by
  simp only [State.scrubSingle, ↓State.inc_core, ↓State.sramFixed_core, State.core_mk, State.core_eta, ↓apply_ite State.core, ite_self, implies_true, eq_self]

theorem State.scrubJudge_core (s : State) (d : Nat) : (State.scrubJudge s d).core = s.core := by
  simp only [State.scrubJudge, ↓State.forEach_core, ↓State.log_core, State.core_mk, State.core_eta, ↓apply_ite State.core, ite_self, implies_true, eq_self]

theorem State.replayLost_core (s : State) (d t seq : Nat) : (State.replayLost s d t seq).core = s.core := by
  simp only [State.replayLost, ↓State.updSite_core, ↓State.forEach_core, ↓State.push_core, State.core_mk, State.core_eta, ↓apply_ite State.core, ite_self, implies_true, eq_self]

theorem State.shaperLost_core (s : State) (d i : Nat) : (State.shaperLost s d i).core = s.core := by
  simp only [State.shaperLost, ↓State.inc_core, ↓State.putShp_core, ↓State.showShps_core, ↓State.spoil_core, State.core_mk, State.core_eta, ↓apply_ite State.core, ite_self, implies_true, eq_self]

theorem State.overlayLost_core (s : State) (d i : Nat) : (State.overlayLost s d i).core = s.core := by
  unfold State.overlayLost
  repeat' split
  all_goals simp only [↓State.migAbort_core, ↓State.updOv_core, ↓State.showOv_core, ↓State.spoil_core, State.core_mk, State.core_eta, ↓apply_ite State.core, ite_self, implies_true, eq_self]

theorem State.regionLost_core (s : State) (d i : Nat) : (State.regionLost s d i).core = s.core := by
  unfold State.regionLost
  repeat' split
  all_goals simp only [↓State.updCa_core, ↓State.spoil_core, State.core_mk, State.core_eta, ↓apply_ite State.core, ite_self, implies_true, eq_self]

theorem State.mirrorLost_core (s : State) (d i : Nat) : (State.mirrorLost s d i).core = s.core := by
  unfold State.mirrorLost
  repeat' split
  all_goals simp only [↓State.endResilver_core, ↓State.dropRepairs_core, ↓State.putMir_core, ↓State.spoil_core, State.core_mk, State.core_eta, ↓apply_ite State.core, ite_self, implies_true, eq_self]

theorem State.sramLost_core (s : State) (d : Nat) (what : SramHolds) : (State.sramLost s d what).core = s.core := by
  unfold State.sramLost
  repeat' split
  all_goals simp only [↓State.putDec_core, ↓State.spoil_core, ↓State.updVppb_core, ↓State.putGrp_core, ↓State.mirrorLost_core, ↓State.overlayLost_core, ↓State.regionLost_core, ↓State.shaperLost_core, ↓State.push_core, ↓State.replayLost_core, ↓State.haltWith_core, ↓State.settleQueue_core, ↓State.loftError_core, State.core_mk, State.core_eta, ↓apply_ite State.core, ite_self, implies_true, eq_self]

theorem State.scrubDouble_core (s : State) (d a : Nat) (what : SramHolds) : (State.scrubDouble s d a what).core = s.core := by
  unfold State.scrubDouble
  repeat' split
  all_goals simp only [↓State.loftError_core, ↓State.sramLost_core, ↓State.sramBad_core, ↓State.evD_core, State.core_mk, State.core_eta, ↓apply_ite State.core, ite_self, implies_true, eq_self]

theorem State.dropWardenSide_core (s : State) (d : Nat) : (State.dropWardenSide s d).core = s.core := by
  simp only [State.dropWardenSide, ↓State.forEach_core, ↓State.inc_core, ↓State.drFree_core, ↓State.updHatch_core, State.core_mk, State.core_eta, ↓apply_ite State.core, ite_self, implies_true, eq_self]

theorem State.p1On_core (s : State) : (State.p1On s).core = s.core := by
  simp only [State.p1On, ↓State.on_core, ↓State.setDom_core, State.core_mk, State.core_eta, ↓apply_ite State.core, ite_self, implies_true, eq_self]

theorem State.restartWarden_core (s : State) (d : Nat) (counted : Bool) : (State.restartWarden s d counted).core = s.core := by
  simp only [State.restartWarden, ↓State.p1On_core, ↓State.updWarden_core, ↓State.inc_core, ↓State.off_core, ↓State.wrB_core, ↓State.abortCmds_core, ↓State.dropWardenSide_core, ↓State.evD_core, ↓State.on_core, ↓State.evC_core, State.core_mk, State.core_eta, ↓apply_ite State.core, ite_self, implies_true, eq_self]

theorem State.holdWarden_core (s : State) (d : Nat) : (State.holdWarden s d).core = s.core := by
  simp only [State.holdWarden, ↓State.off_core, ↓State.on_core, ↓State.evC_core, State.core_mk, State.core_eta, ↓apply_ite State.core, ite_self, implies_true, eq_self]

theorem State.releaseWarden_core (s : State) (d : Nat) : (State.releaseWarden s d).core = s.core := by
  simp only [State.releaseWarden, ↓State.off_core, ↓State.on_core, ↓State.bgReportAll_core, State.core_mk, State.core_eta, ↓apply_ite State.core, ite_self, implies_true, eq_self]

theorem State.wdogKick_core (s : State) (d v : Nat) : (State.wdogKick s d v).core = s.core := by
  simp only [State.wdogKick, ↓State.ev_core, ↓State.restartWarden_core, State.core_mk, State.core_eta, ↓apply_ite State.core, ite_self, implies_true, eq_self]

theorem State.perstDone_ok (s : State) (p : Nat) (hok : s.regsOk = true) : (State.perstDone s p).regsOk = true := by
  unfold State.perstDone
  repeat' (first | assumption | simp only [State.updSlot_ok, State.respond_ok, State.regsOk_mk, State.regsOk_eta, apply_ite State.regsOk, ite_self, implies_true, eq_self, hok] | split)

theorem State.unfenceSlot_ok (s : State) (p : Nat) (hok : s.regsOk = true) : (State.unfenceSlot s p).regsOk = true := by
  simp only [State.unfenceSlot, State.unfence_ok, State.perstDone_ok, State.regsOk_mk, State.regsOk_eta, apply_ite State.regsOk, ite_self, implies_true, eq_self, hok]

theorem State.fenceOp_ok (s : State) (d op q : Nat) (hok : s.regsOk = true) : (State.fenceOp s d op q).regsOk = true := by
  unfold State.fenceOp
  extract_lets
  repeat' (first | with_reducible assumption | with_reducible (apply State.wr_ok) | with_reducible (apply State.ev_ok) | with_reducible (apply State.fence_ok) | with_reducible (apply State.unfenceSlot_ok) | with_reducible (apply State.ite_ok) | split | (intro _ _ hok) | (intro _ hok) | (intro _ _ _ hok) | simp only [State.regsOk_mk, State.regsOk_eta])

theorem State.viralFrom_ok (s : State) (p : Nat) (hok : s.regsOk = true) : (State.viralFrom s p).regsOk = true := by
  unfold State.viralFrom
  extract_lets
  repeat' (first | with_reducible assumption | with_reducible (apply State.log_ok) | with_reducible (apply State.fence_ok) | with_reducible (apply State.forEach_ok) | with_reducible (apply State.emit_ok) | with_reducible (apply State.ite_ok) | split | (intro _ _ hok) | (intro _ hok) | (intro _ _ _ hok) | simp only [State.regsOk_mk, State.regsOk_eta])

theorem State.scrubSingle_ok (s : State) (d a : Nat) (larder : Bool) (hok : s.regsOk = true) : (State.scrubSingle s d a larder).regsOk = true := by
  unfold State.scrubSingle
  repeat' (first | with_reducible assumption | with_reducible (apply State.inc_ok) | with_reducible (apply State.sramFixed_ok) | with_reducible (apply State.ite_ok) | split | (intro _ _ hok) | (intro _ hok) | (intro _ _ _ hok) | simp only [State.regsOk_mk, State.regsOk_eta])

theorem State.scrubJudge_ok (s : State) (d : Nat) (hok : s.regsOk = true) : (State.scrubJudge s d).regsOk = true := by
  unfold State.scrubJudge
  extract_lets
  repeat' (first | with_reducible assumption | with_reducible (apply State.forEach_ok) | with_reducible (apply State.log_ok) | with_reducible (apply State.ite_ok) | split | (intro _ _ hok) | (intro _ hok) | (intro _ _ _ hok) | simp only [State.regsOk_mk, State.regsOk_eta])

theorem State.replayLost_ok (s : State) (d t seq : Nat) (hok : s.regsOk = true) : (State.replayLost s d t seq).regsOk = true := by
  unfold State.replayLost
  extract_lets
  repeat' (first | with_reducible assumption | with_reducible (apply State.updSite_ok) | with_reducible (apply State.forEach_ok) | with_reducible (apply State.push_ok) | with_reducible (apply State.ite_ok) | split | (intro _ _ hok) | (intro _ hok) | (intro _ _ _ hok) | simp only [State.regsOk_mk, State.regsOk_eta])

theorem State.shaperLost_ok (s : State) (d i : Nat) (hok : s.regsOk = true) : (State.shaperLost s d i).regsOk = true := by
  unfold State.shaperLost
  extract_lets
  repeat' (first | with_reducible assumption | with_reducible (apply State.inc_ok) | with_reducible (apply State.putShp_ok) | with_reducible (apply State.showShps_ok) | with_reducible (apply State.spoil_ok) | with_reducible (apply State.ite_ok) | split | (intro _ _ hok) | (intro _ hok) | (intro _ _ _ hok) | simp only [State.regsOk_mk, State.regsOk_eta])

theorem State.overlayLost_ok (s : State) (d i : Nat) (hok : s.regsOk = true) : (State.overlayLost s d i).regsOk = true := by
  unfold State.overlayLost
  repeat' (first | with_reducible assumption | with_reducible (apply State.migAbort_ok) | with_reducible (apply State.updOv_ok) | with_reducible (apply State.showOv_ok) | with_reducible (apply State.spoil_ok) | with_reducible (apply State.ite_ok) | split | (intro _ _ hok) | (intro _ hok) | (intro _ _ _ hok) | simp only [State.regsOk_mk, State.regsOk_eta])

theorem State.regionLost_ok (s : State) (d i : Nat) (hok : s.regsOk = true) : (State.regionLost s d i).regsOk = true := by
  unfold State.regionLost
  repeat' split
  all_goals simp only [State.updCa_ok, State.spoil_ok, State.regsOk_mk, State.regsOk_eta, apply_ite State.regsOk, ite_self, implies_true, eq_self, hok]

theorem State.mirrorLost_ok (s : State) (d i : Nat) (hok : s.regsOk = true) : (State.mirrorLost s d i).regsOk = true := by
  unfold State.mirrorLost
  repeat' (first | with_reducible assumption | with_reducible (apply State.endResilver_ok) | with_reducible (apply State.dropRepairs_ok) | with_reducible (apply State.putMir_ok) | with_reducible (apply State.spoil_ok) | with_reducible (apply State.ite_ok) | split | (intro _ _ hok) | (intro _ hok) | (intro _ _ _ hok) | simp only [State.regsOk_mk, State.regsOk_eta])

theorem State.sramLost_ok (s : State) (d : Nat) (what : SramHolds) (hok : s.regsOk = true) : (State.sramLost s d what).regsOk = true := by
  unfold State.sramLost
  repeat' split
  all_goals simp only [State.putDec_ok, State.spoil_ok, State.updVppb_ok, State.putGrp_ok, State.mirrorLost_ok, State.overlayLost_ok, State.regionLost_ok, State.shaperLost_ok, State.push_ok, State.replayLost_ok, State.haltWith_ok, State.settleQueue_ok, State.loftError_ok, State.regsOk_mk, State.regsOk_eta, apply_ite State.regsOk, ite_self, implies_true, eq_self, hok]

theorem State.scrubDouble_ok (s : State) (d a : Nat) (what : SramHolds) (hok : s.regsOk = true) : (State.scrubDouble s d a what).regsOk = true := by
  unfold State.scrubDouble
  repeat' (first | with_reducible assumption | with_reducible (apply State.loftError_ok) | with_reducible (apply State.sramLost_ok) | with_reducible (apply State.sramBad_ok) | with_reducible (apply State.evD_ok) | with_reducible (apply State.ite_ok) | split | (intro _ _ hok) | (intro _ hok) | (intro _ _ _ hok) | simp only [State.regsOk_mk, State.regsOk_eta])

theorem State.dropWardenSide_ok (s : State) (d : Nat) (hok : s.regsOk = true) : (State.dropWardenSide s d).regsOk = true := by
  unfold State.dropWardenSide
  extract_lets
  repeat' (first | with_reducible assumption | with_reducible (apply State.forEach_ok) | with_reducible (apply State.inc_ok) | with_reducible (apply State.drFree_ok) | with_reducible (apply State.updHatch_ok) | with_reducible (apply State.ite_ok) | split | (intro _ _ hok) | (intro _ hok) | (intro _ _ _ hok) | simp only [State.regsOk_mk, State.regsOk_eta])

theorem State.p1On_ok (s : State) (hok : s.regsOk = true) : (State.p1On s).regsOk = true := by
  simp only [State.p1On, State.on_ok, State.setDom_ok, State.regsOk_mk, State.regsOk_eta, apply_ite State.regsOk, ite_self, implies_true, eq_self, hok]

theorem State.restartWarden_ok (s : State) (d : Nat) (counted : Bool) (hok : s.regsOk = true) : (State.restartWarden s d counted).regsOk = true := by
  unfold State.restartWarden
  extract_lets
  repeat' (first | with_reducible assumption | with_reducible (apply State.p1On_ok) | with_reducible (apply State.updWarden_ok) | with_reducible (apply State.inc_ok) | with_reducible (apply State.off_ok) | with_reducible (apply State.wrB_ok) | with_reducible (apply State.abortCmds_ok) | with_reducible (apply State.dropWardenSide_ok) | with_reducible (apply State.evD_ok) | with_reducible (apply State.on_ok) | with_reducible (apply State.evC_ok) | with_reducible (apply State.ite_ok) | split | (intro _ _ hok) | (intro _ hok) | (intro _ _ _ hok) | simp only [State.regsOk_mk, State.regsOk_eta])

theorem State.holdWarden_ok (s : State) (d : Nat) (hok : s.regsOk = true) : (State.holdWarden s d).regsOk = true := by
  unfold State.holdWarden
  extract_lets
  repeat' (first | with_reducible assumption | with_reducible (apply State.off_ok) | with_reducible (apply State.on_ok) | with_reducible (apply State.evC_ok) | with_reducible (apply State.ite_ok) | split | (intro _ _ hok) | (intro _ hok) | (intro _ _ _ hok) | simp only [State.regsOk_mk, State.regsOk_eta])

theorem State.releaseWarden_ok (s : State) (d : Nat) (hok : s.regsOk = true) : (State.releaseWarden s d).regsOk = true := by
  unfold State.releaseWarden
  extract_lets
  repeat' (first | with_reducible assumption | with_reducible (apply State.off_ok) | with_reducible (apply State.on_ok) | with_reducible (apply State.bgReportAll_ok) | with_reducible (apply State.ite_ok) | split | (intro _ _ hok) | (intro _ hok) | (intro _ _ _ hok) | simp only [State.regsOk_mk, State.regsOk_eta])

theorem State.wdogKick_ok (s : State) (d v : Nat) (hok : s.regsOk = true) : (State.wdogKick s d v).regsOk = true := by
  simp only [State.wdogKick, State.ev_ok, State.restartWarden_ok, State.regsOk_mk, State.regsOk_eta, apply_ite State.regsOk, ite_self, implies_true, eq_self, hok]

end Sys2Proof.Machine
end

