-- ==== Sys2Proof/Laws/Slots.lean ====
section
/-! SUPPORT. What the operations of Machine/Slots.lean leave alone: the part, the waiting commands, the blown life-cycle fuses, and the
canonical form of the register file. -/

namespace Sys2Proof.Machine
set_option linter.unusedSimpArgs false
set_option linter.unusedVariables false
set_option linter.unreachableTactic false
set_option linter.unusedTactic false
set_option linter.style.nameCheck false

theorem State.spEv_core (s : State) (f : Fld) (p cls : Nat) : (State.spEv s f p cls).core = s.core := by
  simp only [State.spEv, ↓State.evC_core, State.core_mk, State.core_eta, ↓apply_ite State.core, ite_self, implies_true, eq_self]

theorem State.portTold_core (s : State) (p cause : Nat) : (State.portTold s p cause).core = s.core := by
  simp only [State.portTold, ↓State.linkDown_core, ↓State.flush_core, State.core_mk, State.core_eta, ↓apply_ite State.core, ite_self, implies_true, eq_self]

theorem State.setOring_core (s : State) (p : Nat) : (State.setOring s p).core = s.core := by
  simp only [State.setOring, ↓State.forEach_core, ↓State.wrB_core, State.core_mk, State.core_eta, ↓apply_ite State.core, ite_self, implies_true, eq_self]

theorem State.slotTo_core (s : State) (p st : Nat) : (State.slotTo s p st).core = s.core := by
  simp only [State.slotTo, ↓State.wr_core, ↓State.on_core, ↓State.off_core, ↓State.updSlot_core, ↓State.setOring_core, ↓State.setPerst_core, State.core_mk, State.core_eta, ↓apply_ite State.core, ite_self, implies_true, eq_self]

theorem State.presenceGone_core (s : State) (p : Nat) : (State.presenceGone s p).core = s.core := by
  simp only [State.presenceGone, ↓State.off_core, ↓State.updSlot_core, State.core_mk, State.core_eta, ↓apply_ite State.core, ite_self, implies_true, eq_self]

theorem State.gateOff_core (s : State) (p : Nat) : (State.gateOff s p).core = s.core := by
  simp only [State.gateOff, ↓State.updSlot_core, ↓State.off_core, State.core_mk, State.core_eta, ↓apply_ite State.core, ite_self, implies_true, eq_self]

theorem State.rampStart_core (s : State) (p : Nat) (fromPresent : Bool) : (State.rampStart s p fromPresent).core = s.core := by
  simp only [State.rampStart, ↓State.commitReg_core, ↓State.updSlot_core, ↓State.slotTo_core, State.core_mk, State.core_eta, ↓apply_ite State.core, ite_self, implies_true, eq_self]

theorem State.slotPresent_core (s : State) (p : Nat) : (State.slotPresent s p).core = s.core := by
  simp only [State.slotPresent, ↓State.slotTo_core, ↓State.rampStart_core, State.core_mk, State.core_eta, ↓apply_ite State.core, ite_self, implies_true, eq_self]

theorem State.slotByRaw_core (s : State) (p : Nat) : (State.slotByRaw s p).core = s.core := by
  simp only [State.slotByRaw, ↓State.slotTo_core, State.core_mk, State.core_eta, ↓apply_ite State.core, ite_self, implies_true, eq_self]

theorem State.slotDisable_core (s : State) (p : Nat) : (State.slotDisable s p).core = s.core := by
  simp only [State.slotDisable, ↓State.gateOff_core, ↓State.presenceGone_core, ↓State.slotTo_core, ↓State.updSlot_core, ↓State.portTold_core, ↓State.boardGone_core, State.core_mk, State.core_eta, ↓apply_ite State.core, ite_self, implies_true, eq_self]

theorem State.slotEnable_core (s : State) (p : Nat) : (State.slotEnable s p).core = s.core := by
  simp only [State.slotEnable, ↓State.slotByRaw_core, State.core_mk, State.core_eta, ↓apply_ite State.core, ite_self, implies_true, eq_self]

theorem State.slotEn_core (s : State) (p : Nat) (en : Bool) : (State.slotEn s p en).core = s.core := by
  simp only [State.slotEn, ↓State.wrB_core, ↓State.slotEnable_core, ↓State.slotDisable_core, State.core_mk, State.core_eta, ↓apply_ite State.core, ite_self, implies_true, eq_self]

theorem State.untrip_core (s : State) (p : Nat) (y : TripMark) : (State.untrip s p y).core = s.core := by
  simp only [State.untrip, ↓State.wr_core, ↓State.wrB_core, ↓State.off_core, ↓State.updSlot_core, State.core_mk, State.core_eta, ↓apply_ite State.core, ite_self, implies_true, eq_self]

theorem State.markTrip_core (s : State) (p cause : Nat) : (State.markTrip s p cause).core = s.core := by
  simp only [State.markTrip, ↓State.updSlot_core, State.core_mk, State.core_eta, ↓apply_ite State.core, ite_self, implies_true, eq_self]

theorem State.prsntPin_core (s : State) (p : Nat) (low : Bool) : (State.prsntPin s p low).core = s.core := by
  simp only [State.prsntPin, ↓State.wrB_core, State.core_mk, State.core_eta, ↓apply_ite State.core, ite_self, implies_true, eq_self]

theorem State.inserted_core (s : State) (p : Nat) : (State.inserted s p).core = s.core := by
  simp only [State.inserted, ↓State.updSlot_core, ↓State.on_core, ↓State.wr_core, ↓State.off_core, ↓State.spEv_core, ↓State.unfenceSlot_core, ↓State.slotPresent_core, State.core_mk, State.core_eta, ↓apply_ite State.core, ite_self, implies_true, eq_self]

theorem State.faultLog_core (s : State) (p cause st : Nat) : (State.faultLog s p cause st).core = s.core := by
  simp only [State.faultLog, ↓State.on_core, ↓State.wr_core, State.core_mk, State.core_eta, ↓apply_ite State.core, ite_self, implies_true, eq_self]

theorem State.removed_core (s : State) (p : Nat) : (State.removed s p).core = s.core := by
  unfold State.removed
  repeat' (first | with_reducible rfl | simp only [↓State.presenceGone_core, ↓State.untrip_core, ↓State.markTrip_core, ↓State.gateOff_core, ↓State.updSlot_core, ↓State.slotTo_core, ↓State.off_core, ↓State.spEv_core, ↓State.faultLog_core, ↓State.portTold_core, ↓State.boardGone_core, State.core_mk, State.core_eta, ↓apply_ite State.core, ite_self, implies_true, eq_self] | split)

theorem State.forecastNow_core (s : State) (p : Nat) : (State.forecastNow s p).core = s.core := by
  simp only [State.forecastNow, ↓State.on_core, ↓State.spEv_core, ↓State.push_core, State.core_mk, State.core_eta, ↓apply_ite State.core, ite_self, implies_true, eq_self]

theorem State.managedOff_core (s : State) (p : Nat) : (State.managedOff s p).core = s.core := by
  simp only [State.managedOff, ↓State.forecastNow_core, ↓State.updSlot_core, ↓State.slotTo_core, ↓State.portTold_core, State.core_mk, State.core_eta, ↓apply_ite State.core, ite_self, implies_true, eq_self]

theorem State.slotPower_core (s : State) (p : Nat) (on : Bool) : (State.slotPower s p on).core = s.core := by
  unfold State.slotPower
  repeat' (first | with_reducible rfl | simp only [↓State.wrB_core, ↓State.rampStart_core, ↓State.gateOff_core, ↓State.slotTo_core, ↓State.managedOff_core, State.core_mk, State.core_eta, ↓apply_ite State.core, ite_self, implies_true, eq_self] | split)

theorem State.tripEvents_core (s : State) (p cause : Nat) : (State.tripEvents s p cause).core = s.core := by
  simp only [State.tripEvents, ↓State.spEv_core, State.core_mk, State.core_eta, ↓apply_ite State.core, ite_self, implies_true, eq_self]

theorem State.tripBy_core (s : State) (p cause : Nat) (counted : Bool) : (State.tripBy s p cause counted).core = s.core := by
  simp only [State.tripBy, ↓State.markTrip_core, ↓State.tripEvents_core, ↓State.faultLog_core, ↓State.inc_core, ↓State.pm_core, ↓State.gateOff_core, ↓State.off_core, ↓State.spEv_core, ↓State.slotTo_core, ↓State.updSlot_core, ↓State.wr_core, ↓State.portTold_core, State.core_mk, State.core_eta, ↓apply_ite State.core, ite_self, implies_true, eq_self]

theorem State.trip_core (s : State) (p cause : Nat) : (State.trip s p cause).core = s.core := by
  unfold State.trip
  repeat' split
  all_goals simp only [↓State.tripBy_core, ↓State.untrip_core, ↓State.tripEvents_core, State.core_mk, State.core_eta, ↓apply_ite State.core, ite_self, implies_true, eq_self]

theorem State.rampDone_core (s : State) (p gate vout : Nat) (feedsHigh : Bool) : (State.rampDone s p gate vout feedsHigh).core = s.core := by
  simp only [State.rampDone, ↓State.updSlot_core, ↓State.slotTo_core, ↓State.on_core, ↓State.off_core, ↓State.spEv_core, State.core_mk, State.core_eta, ↓apply_ite State.core, ite_self, implies_true, eq_self]

theorem State.cooldownEnd_core (s : State) (p : Nat) : (State.cooldownEnd s p).core = s.core := by
  simp only [State.cooldownEnd, ↓State.updSlot_core, ↓State.rampStart_core, ↓State.slotTo_core, ↓State.slotByRaw_core, State.core_mk, State.core_eta, ↓apply_ite State.core, ite_self, implies_true, eq_self]

theorem State.slotUnlock_core (s : State) (p : Nat) : (State.slotUnlock s p).core = s.core := by
  simp only [State.slotUnlock, ↓State.off_core, ↓State.updSlot_core, ↓State.slotTo_core, ↓State.slotByRaw_core, State.core_mk, State.core_eta, ↓apply_ite State.core, ite_self, implies_true, eq_self]

theorem State.feedLost_core (s : State) (p k : Nat) (high : Bool) : (State.feedLost s p k high).core = s.core := by
  simp only [State.feedLost, ↓State.spEv_core, ↓State.off_core, ↓State.setOring_core, State.core_mk, State.core_eta, ↓apply_ite State.core, ite_self, implies_true, eq_self]

theorem State.reverse__core (s : State) (p k : Nat) : (State.reverse_ s p k).core = s.core := by
  simp only [State.reverse_, ↓State.updSlot_core, ↓State.setOring_core, ↓State.spEv_core, State.core_mk, State.core_eta, ↓apply_ite State.core, ite_self, implies_true, eq_self]

theorem State.fetJudge_core (s : State) (p : Nat) : (State.fetJudge s p).core = s.core := by
  simp only [State.fetJudge, ↓State.spEv_core, ↓State.updSlot_core, ↓State.trip_core, ↓State.cooldownEnd_core, State.core_mk, State.core_eta, ↓apply_ite State.core, ite_self, implies_true, eq_self]

theorem State.slotSample_core (s : State) (p : Nat) (g : SlotSample) : (State.slotSample s p g).core = s.core := by
  simp only [State.slotSample, ↓State.updSlot_core, ↓State.wrB_core, ↓State.wr_core, ↓State.fetJudge_core, State.core_mk, State.core_eta, ↓apply_ite State.core, ite_self, implies_true, eq_self]

theorem State.fetTemp_core (s : State) (p : Nat) (got : Int) : (State.fetTemp s p got).core = s.core := by
  simp only [State.fetTemp, ↓State.updSlot_core, ↓State.fetJudge_core, State.core_mk, State.core_eta, ↓apply_ite State.core, ite_self, implies_true, eq_self]

theorem State.slotMeasure_core (s : State) (p : Nat) : (State.slotMeasure s p).core = s.core := by
  simp only [State.slotMeasure, ↓State.wr_core, ↓State.updSlot_core, State.core_mk, State.core_eta, ↓apply_ite State.core, ite_self, implies_true, eq_self]

theorem State.perstHold_core (s : State) (p : Nat) (hold : Bool) : (State.perstHold s p hold).core = s.core := by
  simp only [State.perstHold, ↓State.wrB_core, ↓State.updSlot_core, ↓State.setPerst_core, ↓State.portTold_core, ↓State.perstDone_core, State.core_mk, State.core_eta, ↓apply_ite State.core, ite_self, implies_true, eq_self]

theorem State.spEv_ok (s : State) (f : Fld) (p cls : Nat) (hok : s.regsOk = true) : (State.spEv s f p cls).regsOk = true := by
  simp only [State.spEv, State.evC_ok, State.regsOk_mk, State.regsOk_eta, apply_ite State.regsOk, ite_self, implies_true, eq_self, hok]

theorem State.portTold_ok (s : State) (p cause : Nat) (hok : s.regsOk = true) : (State.portTold s p cause).regsOk = true := by
  simp only [State.portTold, State.linkDown_ok, State.flush_ok, State.regsOk_mk, State.regsOk_eta, apply_ite State.regsOk, ite_self, implies_true, eq_self, hok]

theorem State.setOring_ok (s : State) (p : Nat) (hok : s.regsOk = true) : (State.setOring s p).regsOk = true := by
  unfold State.setOring
  extract_lets
  repeat' (first | with_reducible assumption | with_reducible (apply State.forEach_ok) | with_reducible (apply State.wrB_ok) | with_reducible (apply State.ite_ok) | split | (intro _ _ hok) | (intro _ hok) | (intro _ _ _ hok) | simp only [State.regsOk_mk, State.regsOk_eta])

theorem State.slotTo_ok (s : State) (p st : Nat) (hok : s.regsOk = true) : (State.slotTo s p st).regsOk = true := by
  unfold State.slotTo
  extract_lets
  repeat' (first | with_reducible assumption | with_reducible (apply State.wr_ok) | with_reducible (apply State.on_ok) | with_reducible (apply State.off_ok) | with_reducible (apply State.updSlot_ok) | with_reducible (apply State.setOring_ok) | with_reducible (apply State.setPerst_ok) | with_reducible (apply State.ite_ok) | split | (intro _ _ hok) | (intro _ hok) | (intro _ _ _ hok) | simp only [State.regsOk_mk, State.regsOk_eta])

theorem State.presenceGone_ok (s : State) (p : Nat) (hok : s.regsOk = true) : (State.presenceGone s p).regsOk = true := by
  simp only [State.presenceGone, State.off_ok, State.updSlot_ok, State.regsOk_mk, State.regsOk_eta, apply_ite State.regsOk, ite_self, implies_true, eq_self, hok]

theorem State.gateOff_ok (s : State) (p : Nat) (hok : s.regsOk = true) : (State.gateOff s p).regsOk = true := by
  simp only [State.gateOff, State.updSlot_ok, State.off_ok, State.regsOk_mk, State.regsOk_eta, apply_ite State.regsOk, ite_self, implies_true, eq_self, hok]

theorem State.rampStart_ok (s : State) (p : Nat) (fromPresent : Bool) (hok : s.regsOk = true) : (State.rampStart s p fromPresent).regsOk = true := by
  unfold State.rampStart
  extract_lets
  repeat' (first | with_reducible assumption | with_reducible (apply State.commitReg_ok) | with_reducible (apply State.updSlot_ok) | with_reducible (apply State.slotTo_ok) | with_reducible (apply State.ite_ok) | split | (intro _ _ hok) | (intro _ hok) | (intro _ _ _ hok) | simp only [State.regsOk_mk, State.regsOk_eta])

theorem State.slotPresent_ok (s : State) (p : Nat) (hok : s.regsOk = true) : (State.slotPresent s p).regsOk = true := by
  simp only [State.slotPresent, State.slotTo_ok, State.rampStart_ok, State.regsOk_mk, State.regsOk_eta, apply_ite State.regsOk, ite_self, implies_true, eq_self, hok]

theorem State.slotByRaw_ok (s : State) (p : Nat) (hok : s.regsOk = true) : (State.slotByRaw s p).regsOk = true := by
  simp only [State.slotByRaw, State.slotTo_ok, State.regsOk_mk, State.regsOk_eta, apply_ite State.regsOk, ite_self, implies_true, eq_self, hok]

theorem State.slotDisable_ok (s : State) (p : Nat) (hok : s.regsOk = true) : (State.slotDisable s p).regsOk = true := by
  unfold State.slotDisable
  extract_lets
  repeat' (first | with_reducible assumption | with_reducible (apply State.gateOff_ok) | with_reducible (apply State.presenceGone_ok) | with_reducible (apply State.slotTo_ok) | with_reducible (apply State.updSlot_ok) | with_reducible (apply State.portTold_ok) | with_reducible (apply State.boardGone_ok) | with_reducible (apply State.ite_ok) | split | (intro _ _ hok) | (intro _ hok) | (intro _ _ _ hok) | simp only [State.regsOk_mk, State.regsOk_eta])

theorem State.slotEnable_ok (s : State) (p : Nat) (hok : s.regsOk = true) : (State.slotEnable s p).regsOk = true := by
  simp only [State.slotEnable, State.slotByRaw_ok, State.regsOk_mk, State.regsOk_eta, apply_ite State.regsOk, ite_self, implies_true, eq_self, hok]

theorem State.slotEn_ok (s : State) (p : Nat) (en : Bool) (hok : s.regsOk = true) : (State.slotEn s p en).regsOk = true := by
  simp only [State.slotEn, State.wrB_ok, State.slotEnable_ok, State.slotDisable_ok, State.regsOk_mk, State.regsOk_eta, apply_ite State.regsOk, ite_self, implies_true, eq_self, hok]

theorem State.untrip_ok (s : State) (p : Nat) (y : TripMark) (hok : s.regsOk = true) : (State.untrip s p y).regsOk = true := by
  unfold State.untrip
  extract_lets
  repeat' (first | with_reducible assumption | with_reducible (apply State.wr_ok) | with_reducible (apply State.wrB_ok) | with_reducible (apply State.off_ok) | with_reducible (apply State.updSlot_ok) | with_reducible (apply State.ite_ok) | split | (intro _ _ hok) | (intro _ hok) | (intro _ _ _ hok) | simp only [State.regsOk_mk, State.regsOk_eta])

theorem State.markTrip_ok (s : State) (p cause : Nat) (hok : s.regsOk = true) : (State.markTrip s p cause).regsOk = true := by
  simp only [State.markTrip, State.updSlot_ok, State.regsOk_mk, State.regsOk_eta, apply_ite State.regsOk, ite_self, implies_true, eq_self, hok]

theorem State.prsntPin_ok (s : State) (p : Nat) (low : Bool) (hok : s.regsOk = true) : (State.prsntPin s p low).regsOk = true := by
  simp only [State.prsntPin, State.wrB_ok, State.regsOk_mk, State.regsOk_eta, apply_ite State.regsOk, ite_self, implies_true, eq_self, hok]

theorem State.inserted_ok (s : State) (p : Nat) (hok : s.regsOk = true) : (State.inserted s p).regsOk = true := by
  unfold State.inserted
  extract_lets
  repeat' (first | with_reducible assumption | with_reducible (apply State.updSlot_ok) | with_reducible (apply State.on_ok) | with_reducible (apply State.wr_ok) | with_reducible (apply State.off_ok) | with_reducible (apply State.spEv_ok) | with_reducible (apply State.unfenceSlot_ok) | with_reducible (apply State.slotPresent_ok) | with_reducible (apply State.ite_ok) | split | (intro _ _ hok) | (intro _ hok) | (intro _ _ _ hok) | simp only [State.regsOk_mk, State.regsOk_eta])

theorem State.faultLog_ok (s : State) (p cause st : Nat) (hok : s.regsOk = true) : (State.faultLog s p cause st).regsOk = true := by
  unfold State.faultLog
  extract_lets
  repeat' (first | with_reducible assumption | with_reducible (apply State.on_ok) | with_reducible (apply State.wr_ok) | with_reducible (apply State.ite_ok) | split | (intro _ _ hok) | (intro _ hok) | (intro _ _ _ hok) | simp only [State.regsOk_mk, State.regsOk_eta])

theorem State.removed_ok (s : State) (p : Nat) (hok : s.regsOk = true) : (State.removed s p).regsOk = true := by
  unfold State.removed
  repeat' (first | with_reducible assumption | with_reducible (apply State.presenceGone_ok) | with_reducible (apply State.untrip_ok) | with_reducible (apply State.markTrip_ok) | with_reducible (apply State.gateOff_ok) | with_reducible (apply State.updSlot_ok) | with_reducible (apply State.slotTo_ok) | with_reducible (apply State.off_ok) | with_reducible (apply State.spEv_ok) | with_reducible (apply State.faultLog_ok) | with_reducible (apply State.portTold_ok) | with_reducible (apply State.boardGone_ok) | with_reducible (apply State.ite_ok) | split | (intro _ _ hok) | (intro _ hok) | (intro _ _ _ hok) | simp only [State.regsOk_mk, State.regsOk_eta])

theorem State.forecastNow_ok (s : State) (p : Nat) (hok : s.regsOk = true) : (State.forecastNow s p).regsOk = true := by
  unfold State.forecastNow
  repeat' (first | with_reducible assumption | with_reducible (apply State.on_ok) | with_reducible (apply State.spEv_ok) | with_reducible (apply State.push_ok) | with_reducible (apply State.ite_ok) | split | (intro _ _ hok) | (intro _ hok) | (intro _ _ _ hok) | simp only [State.regsOk_mk, State.regsOk_eta])

theorem State.managedOff_ok (s : State) (p : Nat) (hok : s.regsOk = true) : (State.managedOff s p).regsOk = true := by
  unfold State.managedOff
  extract_lets
  repeat' (first | with_reducible assumption | with_reducible (apply State.forecastNow_ok) | with_reducible (apply State.updSlot_ok) | with_reducible (apply State.slotTo_ok) | with_reducible (apply State.portTold_ok) | with_reducible (apply State.ite_ok) | split | (intro _ _ hok) | (intro _ hok) | (intro _ _ _ hok) | simp only [State.regsOk_mk, State.regsOk_eta])

theorem State.slotPower_ok (s : State) (p : Nat) (on : Bool) (hok : s.regsOk = true) : (State.slotPower s p on).regsOk = true := by
  unfold State.slotPower
  repeat' (first | assumption | simp only [State.wrB_ok, State.rampStart_ok, State.gateOff_ok, State.slotTo_ok, State.managedOff_ok, State.regsOk_mk, State.regsOk_eta, apply_ite State.regsOk, ite_self, implies_true, eq_self, hok] | split)

theorem State.tripEvents_ok (s : State) (p cause : Nat) (hok : s.regsOk = true) : (State.tripEvents s p cause).regsOk = true := by
  unfold State.tripEvents
  extract_lets
  repeat' (first | with_reducible assumption | with_reducible (apply State.spEv_ok) | with_reducible (apply State.ite_ok) | split | (intro _ _ hok) | (intro _ hok) | (intro _ _ _ hok) | simp only [State.regsOk_mk, State.regsOk_eta])

theorem State.tripBy_ok (s : State) (p cause : Nat) (counted : Bool) (hok : s.regsOk = true) : (State.tripBy s p cause counted).regsOk = true := by
  unfold State.tripBy
  extract_lets
  repeat' (first | with_reducible assumption | with_reducible (apply State.markTrip_ok) | with_reducible (apply State.tripEvents_ok) | with_reducible (apply State.faultLog_ok) | with_reducible (apply State.inc_ok) | with_reducible (apply State.pm_ok) | with_reducible (apply State.gateOff_ok) | with_reducible (apply State.off_ok) | with_reducible (apply State.spEv_ok) | with_reducible (apply State.slotTo_ok) | with_reducible (apply State.updSlot_ok) | with_reducible (apply State.wr_ok) | with_reducible (apply State.portTold_ok) | with_reducible (apply State.ite_ok) | split | (intro _ _ hok) | (intro _ hok) | (intro _ _ _ hok) | simp only [State.regsOk_mk, State.regsOk_eta])

theorem State.trip_ok (s : State) (p cause : Nat) (hok : s.regsOk = true) : (State.trip s p cause).regsOk = true := by
  unfold State.trip
  extract_lets
  repeat' (first | with_reducible assumption | with_reducible (apply State.tripBy_ok) | with_reducible (apply State.untrip_ok) | with_reducible (apply State.tripEvents_ok) | with_reducible (apply State.ite_ok) | split | (intro _ _ hok) | (intro _ hok) | (intro _ _ _ hok) | simp only [State.regsOk_mk, State.regsOk_eta])

theorem State.rampDone_ok (s : State) (p gate vout : Nat) (feedsHigh : Bool) (hok : s.regsOk = true) : (State.rampDone s p gate vout feedsHigh).regsOk = true := by
  unfold State.rampDone
  extract_lets
  repeat' (first | with_reducible assumption | with_reducible (apply State.updSlot_ok) | with_reducible (apply State.slotTo_ok) | with_reducible (apply State.on_ok) | with_reducible (apply State.off_ok) | with_reducible (apply State.spEv_ok) | with_reducible (apply State.ite_ok) | split | (intro _ _ hok) | (intro _ hok) | (intro _ _ _ hok) | simp only [State.regsOk_mk, State.regsOk_eta])

theorem State.cooldownEnd_ok (s : State) (p : Nat) (hok : s.regsOk = true) : (State.cooldownEnd s p).regsOk = true := by
  simp only [State.cooldownEnd, State.updSlot_ok, State.rampStart_ok, State.slotTo_ok, State.slotByRaw_ok, State.regsOk_mk, State.regsOk_eta, apply_ite State.regsOk, ite_self, implies_true, eq_self, hok]

theorem State.slotUnlock_ok (s : State) (p : Nat) (hok : s.regsOk = true) : (State.slotUnlock s p).regsOk = true := by
  unfold State.slotUnlock
  extract_lets
  repeat' (first | with_reducible assumption | with_reducible (apply State.off_ok) | with_reducible (apply State.updSlot_ok) | with_reducible (apply State.slotTo_ok) | with_reducible (apply State.slotByRaw_ok) | with_reducible (apply State.ite_ok) | split | (intro _ _ hok) | (intro _ hok) | (intro _ _ _ hok) | simp only [State.regsOk_mk, State.regsOk_eta])

theorem State.feedLost_ok (s : State) (p k : Nat) (high : Bool) (hok : s.regsOk = true) : (State.feedLost s p k high).regsOk = true := by
  unfold State.feedLost
  extract_lets
  repeat' (first | with_reducible assumption | with_reducible (apply State.spEv_ok) | with_reducible (apply State.off_ok) | with_reducible (apply State.setOring_ok) | with_reducible (apply State.ite_ok) | split | (intro _ _ hok) | (intro _ hok) | (intro _ _ _ hok) | simp only [State.regsOk_mk, State.regsOk_eta])

theorem State.reverse__ok (s : State) (p k : Nat) (hok : s.regsOk = true) : (State.reverse_ s p k).regsOk = true := by
  unfold State.reverse_
  extract_lets
  repeat' (first | with_reducible assumption | with_reducible (apply State.updSlot_ok) | with_reducible (apply State.setOring_ok) | with_reducible (apply State.spEv_ok) | with_reducible (apply State.ite_ok) | split | (intro _ _ hok) | (intro _ hok) | (intro _ _ _ hok) | simp only [State.regsOk_mk, State.regsOk_eta])

theorem State.fetJudge_ok (s : State) (p : Nat) (hok : s.regsOk = true) : (State.fetJudge s p).regsOk = true := by
  unfold State.fetJudge
  extract_lets
  repeat' (first | with_reducible assumption | with_reducible (apply State.spEv_ok) | with_reducible (apply State.updSlot_ok) | with_reducible (apply State.trip_ok) | with_reducible (apply State.cooldownEnd_ok) | with_reducible (apply State.ite_ok) | split | (intro _ _ hok) | (intro _ hok) | (intro _ _ _ hok) | simp only [State.regsOk_mk, State.regsOk_eta])

theorem State.slotSample_ok (s : State) (p : Nat) (g : SlotSample) (hok : s.regsOk = true) : (State.slotSample s p g).regsOk = true := by
  unfold State.slotSample
  extract_lets
  repeat' (first | with_reducible assumption | with_reducible (apply State.updSlot_ok) | with_reducible (apply State.wrB_ok) | with_reducible (apply State.wr_ok) | with_reducible (apply State.fetJudge_ok) | with_reducible (apply State.ite_ok) | split | (intro _ _ hok) | (intro _ hok) | (intro _ _ _ hok) | simp only [State.regsOk_mk, State.regsOk_eta])

theorem State.fetTemp_ok (s : State) (p : Nat) (got : Int) (hok : s.regsOk = true) : (State.fetTemp s p got).regsOk = true := by
  simp only [State.fetTemp, State.updSlot_ok, State.fetJudge_ok, State.regsOk_mk, State.regsOk_eta, apply_ite State.regsOk, ite_self, implies_true, eq_self, hok]

theorem State.slotMeasure_ok (s : State) (p : Nat) (hok : s.regsOk = true) : (State.slotMeasure s p).regsOk = true := by
  unfold State.slotMeasure
  extract_lets
  repeat' (first | with_reducible assumption | with_reducible (apply State.wr_ok) | with_reducible (apply State.updSlot_ok) | with_reducible (apply State.ite_ok) | split | (intro _ _ hok) | (intro _ hok) | (intro _ _ _ hok) | simp only [State.regsOk_mk, State.regsOk_eta])

theorem State.perstHold_ok (s : State) (p : Nat) (hold : Bool) (hok : s.regsOk = true) : (State.perstHold s p hold).regsOk = true := by
  unfold State.perstHold
  extract_lets
  repeat' (first | with_reducible assumption | with_reducible (apply State.wrB_ok) | with_reducible (apply State.updSlot_ok) | with_reducible (apply State.setPerst_ok) | with_reducible (apply State.portTold_ok) | with_reducible (apply State.perstDone_ok) | with_reducible (apply State.ite_ok) | split | (intro _ _ hok) | (intro _ hok) | (intro _ _ _ hok) | simp only [State.regsOk_mk, State.regsOk_eta])

end Sys2Proof.Machine
end

