-- ==== Sys2Proof/Laws/StrongOps.lean ====
section
/-! SUPPORT. What the operations of Machine/StrongOps.lean leave alone: the part, the waiting commands, the blown life-cycle fuses, and the
canonical form of the register file. -/

namespace Sys2Proof.Machine
set_option linter.unusedSimpArgs false
set_option linter.unusedVariables false
set_option linter.unreachableTactic false
set_option linter.unusedTactic false
set_option linter.style.nameCheck false

theorem State.updStrong_core (s : State) (f : Strong → Strong) (hf : ∀ g, (f g).lc = g.lc) : (s.updStrong f).core = s.core := by
  simp only [State.updStrong, State.core, hf]

theorem State.showStore_core (s : State) : (State.showStore s).core = s.core := by
  simp only [State.showStore, ↓State.wr_core, ↓State.wrB_core, ↓State.forEach_core, State.core_mk, State.core_eta, ↓apply_ite State.core, ite_self, implies_true, eq_self]

theorem State.showFuses_core (s : State) : (State.showFuses s).core = s.core := by
  simp only [State.showFuses, ↓State.wr_core, ↓State.wr64_core, State.core_mk, State.core_eta, ↓apply_ite State.core, ite_self, implies_true, eq_self]

theorem State.putRec_core (s : State) (c : RecSet) : (State.putRec s c).core = s.core := by
  simp only [State.putRec, ↓State.updStrong_core, ↓State.showStore_core, State.core_mk, State.core_eta, ↓apply_ite State.core, ite_self, implies_true, eq_self]

theorem State.holdCmd_core (s : State) (c : Nat) : (State.holdCmd s c).core = s.core := by
  simp only [State.holdCmd, ↓State.updChan_core, State.core_mk, State.core_eta, ↓apply_ite State.core, ite_self, implies_true, eq_self]

theorem State.record_core (s : State) (c : RecSet) (n : StoreNext) : (State.record s c n).core = s.core := by
  unfold State.record
  repeat' split
  all_goals simp only [↓State.updStrong_core, ↓State.holdCmd_core, State.core_mk, State.core_eta, ↓apply_ite State.core, ite_self, implies_true, eq_self]

theorem State.tearRec_core (s : State) : (State.tearRec s).core = s.core := by
  unfold State.tearRec
  repeat' split
  all_goals simp only [↓State.updStrong_core, State.core_mk, State.core_eta, ↓apply_ite State.core, ite_self, implies_true, eq_self]

theorem State.selectRec_core (s : State) : (State.selectRec s).core = s.core := by
  unfold State.selectRec
  repeat' (first | with_reducible rfl | simp only [↓State.updStrong_core, State.core_mk, State.core_eta, ↓apply_ite State.core, ite_self, implies_true, eq_self] | split)

theorem State.extend_core (s : State) (m : Nat) (d : List Nat) : (State.extend s m d).core = s.core := by
  simp only [State.extend, ↓State.wake_core, ↓State.forEach_core, ↓State.wr_core, State.core_mk, State.core_eta, ↓apply_ite State.core, ite_self, implies_true, eq_self]

theorem State.firstMeas_core (s : State) : (State.firstMeas s).core = s.core := by
  simp only [State.firstMeas, ↓State.extend_core, State.core_mk, State.core_eta, ↓apply_ite State.core, ite_self, implies_true, eq_self]

theorem State.setLast_core (s : State) (c v : Nat) : (State.setLast s c v).core = s.core := by
  simp only [State.setLast, ↓State.updChan_core, ↓State.wr64_core, State.core_mk, State.core_eta, ↓apply_ite State.core, ite_self, implies_true, eq_self]

theorem State.refuseTag_core (s : State) (c : Nat) : (State.refuseTag s c).core = s.core := by
  simp only [State.refuseTag, ↓State.respond_core, State.core_mk, State.core_eta, ↓apply_ite State.core, ite_self, implies_true, eq_self]

theorem State.tagFail_core (s : State) (c : Nat) : (State.tagFail s c).core = s.core := by
  simp only [State.tagFail, ↓State.inc_core, ↓State.ev_core, ↓State.updChan_core, ↓State.refuseTag_core, State.core_mk, State.core_eta, ↓apply_ite State.core, ite_self, implies_true, eq_self]

theorem State.ctrFail_core (s : State) (c : Nat) : (State.ctrFail s c).core = s.core := by
  simp only [State.ctrFail, ↓State.inc_core, ↓State.ev_core, ↓State.refuseTag_core, State.core_mk, State.core_eta, ↓apply_ite State.core, ite_self, implies_true, eq_self]

theorem State.takeCounter_core (s : State) (c : Nat) (cmd : Cmd) (ctr : Nat) (body : List Nat) : (State.takeCounter s c cmd ctr body).core = s.core := by
  simp only [State.takeCounter, ↓State.updChan_core, ↓State.record_core, ↓State.setLast_core, State.core_mk, State.core_eta, ↓apply_ite State.core, ite_self, implies_true, eq_self]

theorem State.checkCritical_core (s : State) (c : Nat) : (State.checkCritical s c).core = s.core := by
  unfold State.checkCritical
  repeat' split
  all_goals simp only [↓State.refuseTag_core, ↓State.tagFail_core, ↓State.wake_core, ↓State.ctrFail_core, ↓State.takeCounter_core, State.core_mk, State.core_eta, ↓apply_ite State.core, ite_self, implies_true, eq_self]

theorem State.exhausted_core (s : State) (c : Nat) : (State.exhausted s c).core = s.core := by
  simp only [State.exhausted, ↓State.on_core, ↓State.ev_core, ↓State.respond_core, State.core_mk, State.core_eta, ↓apply_ite State.core, ite_self, implies_true, eq_self]

theorem State.signReport_core (s : State) (c : Nat) (nonce : List Nat) : (State.signReport s c nonce).core = s.core := by
  simp only [State.signReport, ↓State.updStrong_core, ↓State.showStore_core, ↓State.respond_core, State.core_mk, State.core_eta, ↓apply_ite State.core, ite_self, implies_true, eq_self]

theorem State.signOne_core (s : State) (q : XReq) : (State.signOne s q).2.core = s.core := by
  unfold State.signOne
  repeat' (first | with_reducible rfl | simp only [↓State.respond_core, ↓State.exhausted_core, ↓State.record_core, ↓State.signReport_core, ↓State.release_core, State.core_mk, State.core_eta, ↓apply_ite State.core, ite_self, implies_true, eq_self] | split)

theorem State.signOne_core' {s : State} {q : XReq} {xa xs}
    (hx : (State.signOne s q) = (xa, xs)) : xs.core = s.core := by
  have := State.signOne_core s q
  rw [hx] at this
  exact this

theorem State.signAll_core (n : Nat) (s : State) : (State.signAll n s).core = s.core := by
  induction n generalizing s with
  | zero => rfl
  | succ n ih =>
    unfold State.signAll
    split
    · rfl
    · split <;> rename_i h
      · exact (ih _).trans ((State.updStrong_core _ _ fun _ => rfl).trans (State.signOne_core' h))
      · exact State.signOne_core' h

theorem State.signGo_core (s : State) : (State.signGo s).core = s.core := by
  simp only [State.signGo, ↓State.signAll_core, State.core_mk, State.core_eta, ↓apply_ite State.core, ite_self, implies_true, eq_self]

theorem State.signAsk_core (s : State) (q : XReq) : (State.signAsk s q).core = s.core := by
  simp only [State.signAsk, ↓State.wake_core, ↓State.holdCmd_core, ↓State.updStrong_core, ↓State.signGo_core, State.core_mk, State.core_eta, ↓apply_ite State.core, ite_self, implies_true, eq_self]

theorem State.transition_core (s : State) (t : Nat) (c : Option Nat) : (State.transition s t c).core = s.core := by
  simp only [State.transition, ↓State.record_core, State.core_mk, State.core_eta, ↓apply_ite State.core, ite_self, implies_true, eq_self]

theorem State.enterState_core (s : State) (t : Nat) : (s.enterState t).core = (s.part, s.pending, max s.strong.lc t) := by
  unfold State.enterState
  simp only [↓State.wr_core]
  split <;> rfl

theorem State.transitionGo_core (s : State) (t : Nat) (c : Option Nat) :
    (s.transitionGo t c).core = (s.part, s.pending, max s.strong.lc t) := by
  simp only [State.transitionGo, ↓State.record_core, ↓State.enterState_core]

theorem State.transitionEnd_core (s : State) (t : Nat) (c : Option Nat) : (State.transitionEnd s t c).core = s.core := by
  unfold State.transitionEnd
  repeat' split
  all_goals simp only [↓State.forEach_core, ↓State.setLast_core, ↓State.respond_core, State.core_mk, State.core_eta, ↓apply_ite State.core, ite_self, implies_true, eq_self]

theorem State.tokenRefused_core (s : State) (c : Nat) (badMove : Bool) : (State.tokenRefused s c badMove).core = s.core := by
  simp only [State.tokenRefused, ↓State.ev_core, ↓State.respond_core, ↓State.useFree_core, State.core_mk, State.core_eta, ↓apply_ite State.core, ite_self, implies_true, eq_self]

theorem State.tokenUse_core (s : State) (c : Nat) (h : TokenHdr) : (State.tokenUse s c h).core = s.core := by
  unfold State.tokenUse
  repeat' split
  all_goals simp only [↓State.updStrong_core, ↓State.transition_core, ↓State.when_core, ↓State.on_core, ↓State.respond_core, ↓State.record_core, ↓State.showStore_core, State.core_mk, State.core_eta, ↓apply_ite State.core, ite_self, implies_true, eq_self]

theorem State.submitToken_core (s : State) (c : Nat) (b : List Nat) : (State.submitToken s c b).core = s.core := by
  unfold State.submitToken
  repeat' split
  all_goals simp only [↓State.tokenRefused_core, ↓State.tokenUse_core, State.core_mk, State.core_eta, ↓apply_ite State.core, ite_self, implies_true, eq_self]

theorem State.updStrong_ok (s : State) (f : Strong → Strong) (hok : s.regsOk = true) : (s.updStrong f).regsOk = true := hok

theorem State.showStore_ok (s : State) (hok : s.regsOk = true) : (State.showStore s).regsOk = true := by
  unfold State.showStore
  extract_lets
  repeat' (first | with_reducible assumption | with_reducible (apply State.wr_ok) | with_reducible (apply State.wrB_ok) | with_reducible (apply State.forEach_ok) | with_reducible (apply State.ite_ok) | split | (intro _ _ hok) | (intro _ hok) | (intro _ _ _ hok) | simp only [State.regsOk_mk, State.regsOk_eta])

theorem State.showFuses_ok (s : State) (hok : s.regsOk = true) : (State.showFuses s).regsOk = true := by
  simp only [State.showFuses, State.wr_ok, State.wr64_ok, State.regsOk_mk, State.regsOk_eta, apply_ite State.regsOk, ite_self, implies_true, eq_self, hok]

theorem State.putRec_ok (s : State) (c : RecSet) (hok : s.regsOk = true) : (State.putRec s c).regsOk = true := by
  simp only [State.putRec, State.updStrong_ok, State.showStore_ok, State.regsOk_mk, State.regsOk_eta, apply_ite State.regsOk, ite_self, implies_true, eq_self, hok]

theorem State.holdCmd_ok (s : State) (c : Nat) (hok : s.regsOk = true) : (State.holdCmd s c).regsOk = true := by
  simp only [State.holdCmd, State.updChan_ok, State.regsOk_mk, State.regsOk_eta, apply_ite State.regsOk, ite_self, implies_true, eq_self, hok]

theorem State.record_ok (s : State) (c : RecSet) (n : StoreNext) (hok : s.regsOk = true) : (State.record s c n).regsOk = true := by
  unfold State.record
  repeat' split
  all_goals simp only [State.updStrong_ok, State.holdCmd_ok, State.regsOk_mk, State.regsOk_eta, apply_ite State.regsOk, ite_self, implies_true, eq_self, hok]

theorem State.tearRec_ok (s : State) (hok : s.regsOk = true) : (State.tearRec s).regsOk = true := by
  unfold State.tearRec
  repeat' split
  all_goals simp only [State.updStrong_ok, State.regsOk_mk, State.regsOk_eta, apply_ite State.regsOk, ite_self, implies_true, eq_self, hok]

theorem State.selectRec_ok (s : State) (hok : s.regsOk = true) : (State.selectRec s).regsOk = true := by
  unfold State.selectRec
  repeat' (first | assumption | simp only [State.updStrong_ok, State.regsOk_mk, State.regsOk_eta, apply_ite State.regsOk, ite_self, implies_true, eq_self, hok] | split)

theorem State.extend_ok (s : State) (m : Nat) (d : List Nat) (hok : s.regsOk = true) : (State.extend s m d).regsOk = true := by
  unfold State.extend
  extract_lets
  repeat' (first | with_reducible assumption | with_reducible (apply State.wake_ok) | with_reducible (apply State.forEach_ok) | with_reducible (apply State.wr_ok) | with_reducible (apply State.ite_ok) | split | (intro _ _ hok) | (intro _ hok) | (intro _ _ _ hok) | simp only [State.regsOk_mk, State.regsOk_eta])

theorem State.firstMeas_ok (s : State) (hok : s.regsOk = true) : (State.firstMeas s).regsOk = true := by
  simp only [State.firstMeas, State.extend_ok, State.regsOk_mk, State.regsOk_eta, apply_ite State.regsOk, ite_self, implies_true, eq_self, hok]

theorem State.setLast_ok (s : State) (c v : Nat) (hok : s.regsOk = true) : (State.setLast s c v).regsOk = true := by
  simp only [State.setLast, State.updChan_ok, State.wr64_ok, State.regsOk_mk, State.regsOk_eta, apply_ite State.regsOk, ite_self, implies_true, eq_self, hok]

theorem State.refuseTag_ok (s : State) (c : Nat) (hok : s.regsOk = true) : (State.refuseTag s c).regsOk = true := by
  simp only [State.refuseTag, State.respond_ok, State.regsOk_mk, State.regsOk_eta, apply_ite State.regsOk, ite_self, implies_true, eq_self, hok]

theorem State.tagFail_ok (s : State) (c : Nat) (hok : s.regsOk = true) : (State.tagFail s c).regsOk = true := by
  unfold State.tagFail
  extract_lets
  repeat' (first | with_reducible assumption | with_reducible (apply State.inc_ok) | with_reducible (apply State.ev_ok) | with_reducible (apply State.updChan_ok) | with_reducible (apply State.refuseTag_ok) | with_reducible (apply State.ite_ok) | split | (intro _ _ hok) | (intro _ hok) | (intro _ _ _ hok) | simp only [State.regsOk_mk, State.regsOk_eta])

theorem State.ctrFail_ok (s : State) (c : Nat) (hok : s.regsOk = true) : (State.ctrFail s c).regsOk = true := by
  unfold State.ctrFail
  repeat' (first | with_reducible assumption | with_reducible (apply State.inc_ok) | with_reducible (apply State.ev_ok) | with_reducible (apply State.refuseTag_ok) | with_reducible (apply State.ite_ok) | split | (intro _ _ hok) | (intro _ hok) | (intro _ _ _ hok) | simp only [State.regsOk_mk, State.regsOk_eta])

theorem State.takeCounter_ok (s : State) (c : Nat) (cmd : Cmd) (ctr : Nat) (body : List Nat) (hok : s.regsOk = true) : (State.takeCounter s c cmd ctr body).regsOk = true := by
  simp only [State.takeCounter, State.updChan_ok, State.record_ok, State.setLast_ok, State.regsOk_mk, State.regsOk_eta, apply_ite State.regsOk, ite_self, implies_true, eq_self, hok]

theorem State.checkCritical_ok (s : State) (c : Nat) (hok : s.regsOk = true) : (State.checkCritical s c).regsOk = true := by
  unfold State.checkCritical
  repeat' split
  all_goals simp only [State.refuseTag_ok, State.tagFail_ok, State.wake_ok, State.ctrFail_ok, State.takeCounter_ok, State.regsOk_mk, State.regsOk_eta, apply_ite State.regsOk, ite_self, implies_true, eq_self, hok]

theorem State.exhausted_ok (s : State) (c : Nat) (hok : s.regsOk = true) : (State.exhausted s c).regsOk = true := by
  unfold State.exhausted
  repeat' (first | with_reducible assumption | with_reducible (apply State.on_ok) | with_reducible (apply State.ev_ok) | with_reducible (apply State.respond_ok) | with_reducible (apply State.ite_ok) | split | (intro _ _ hok) | (intro _ hok) | (intro _ _ _ hok) | simp only [State.regsOk_mk, State.regsOk_eta])

theorem State.signReport_ok (s : State) (c : Nat) (nonce : List Nat) (hok : s.regsOk = true) : (State.signReport s c nonce).regsOk = true := by
  unfold State.signReport
  extract_lets
  repeat' (first | with_reducible assumption | with_reducible (apply State.updStrong_ok) | with_reducible (apply State.showStore_ok) | with_reducible (apply State.respond_ok) | with_reducible (apply State.ite_ok) | split | (intro _ _ hok) | (intro _ hok) | (intro _ _ _ hok) | simp only [State.regsOk_mk, State.regsOk_eta])

theorem State.signOne_ok (s : State) (q : XReq) (hok : s.regsOk = true) : (State.signOne s q).2.regsOk = true := by
  unfold State.signOne
  repeat' (first | assumption | simp only [State.respond_ok, State.exhausted_ok, State.record_ok, State.signReport_ok, State.release_ok, State.regsOk_mk, State.regsOk_eta, apply_ite State.regsOk, ite_self, implies_true, eq_self, hok] | split)

theorem State.signOne_ok' {s : State} {q : XReq} {xa xs}
    (hx : State.signOne s q = (xa, xs)) (hok : s.regsOk = true) : xs.regsOk = true := by
  have := State.signOne_ok s q hok
  rw [hx] at this
  exact this

theorem State.signAll_ok (n : Nat) (s : State) (hok : s.regsOk = true) : (State.signAll n s).regsOk = true := by
  induction n generalizing s with
  | zero => exact hok
  | succ n ih =>
    unfold State.signAll
    split
    · exact hok
    · split <;> rename_i k
      · exact ih _ (State.updStrong_ok _ _ (State.signOne_ok' k hok))
      · exact State.signOne_ok' k hok

theorem State.signGo_ok (s : State) (hok : s.regsOk = true) : (State.signGo s).regsOk = true := by
  simp only [State.signGo, State.signAll_ok, State.regsOk_mk, State.regsOk_eta, apply_ite State.regsOk, ite_self, implies_true, eq_self, hok]

theorem State.signAsk_ok (s : State) (q : XReq) (hok : s.regsOk = true) : (State.signAsk s q).regsOk = true := by
  unfold State.signAsk
  extract_lets
  repeat' (first | with_reducible assumption | with_reducible (apply State.wake_ok) | with_reducible (apply State.holdCmd_ok) | with_reducible (apply State.updStrong_ok) | with_reducible (apply State.signGo_ok) | with_reducible (apply State.ite_ok) | split | (intro _ _ hok) | (intro _ hok) | (intro _ _ _ hok) | simp only [State.regsOk_mk, State.regsOk_eta])

theorem State.transition_ok (s : State) (t : Nat) (c : Option Nat) (hok : s.regsOk = true) : (State.transition s t c).regsOk = true := by
  simp only [State.transition, State.record_ok, State.regsOk_mk, State.regsOk_eta, apply_ite State.regsOk, ite_self, implies_true, eq_self, hok]

theorem State.enterState_ok (s : State) (t : Nat) (hok : s.regsOk = true) : (State.enterState s t).regsOk = true := by
  unfold State.enterState
  extract_lets
  repeat' (first | with_reducible assumption | with_reducible (apply State.updStrong_ok) | with_reducible (apply State.wr_ok) | with_reducible (apply State.ite_ok) | split | (intro _ _ hok) | (intro _ hok) | (intro _ _ _ hok) | simp only [State.regsOk_mk, State.regsOk_eta])

theorem State.transitionGo_ok (s : State) (t : Nat) (c : Option Nat) (hok : s.regsOk = true) : (State.transitionGo s t c).regsOk = true := by
  simp only [State.transitionGo, State.enterState_ok, State.record_ok, State.regsOk_mk, State.regsOk_eta, apply_ite State.regsOk, ite_self, implies_true, eq_self, hok]

theorem State.transitionEnd_ok (s : State) (t : Nat) (c : Option Nat) (hok : s.regsOk = true) : (State.transitionEnd s t c).regsOk = true := by
  unfold State.transitionEnd
  repeat' (first | with_reducible assumption | with_reducible (apply State.forEach_ok) | with_reducible (apply State.setLast_ok) | with_reducible (apply State.respond_ok) | with_reducible (apply State.ite_ok) | split | (intro _ _ hok) | (intro _ hok) | (intro _ _ _ hok) | simp only [State.regsOk_mk, State.regsOk_eta])

theorem State.tokenRefused_ok (s : State) (c : Nat) (badMove : Bool) (hok : s.regsOk = true) : (State.tokenRefused s c badMove).regsOk = true := by
  unfold State.tokenRefused
  extract_lets
  repeat' (first | with_reducible assumption | with_reducible (apply State.ev_ok) | with_reducible (apply State.respond_ok) | with_reducible (apply State.useFree_ok) | with_reducible (apply State.ite_ok) | split | (intro _ _ hok) | (intro _ hok) | (intro _ _ _ hok) | simp only [State.regsOk_mk, State.regsOk_eta])

theorem State.tokenUse_ok (s : State) (c : Nat) (h : TokenHdr) (hok : s.regsOk = true) : (State.tokenUse s c h).regsOk = true := by
  unfold State.tokenUse
  extract_lets
  repeat' (first | with_reducible assumption | with_reducible (apply State.updStrong_ok) | with_reducible (apply State.transition_ok) | with_reducible (apply State.when_ok) | with_reducible (apply State.on_ok) | with_reducible (apply State.respond_ok) | with_reducible (apply State.record_ok) | with_reducible (apply State.showStore_ok) | with_reducible (apply State.ite_ok) | split | (intro _ _ hok) | (intro _ hok) | (intro _ _ _ hok) | simp only [State.regsOk_mk, State.regsOk_eta])

theorem State.submitToken_ok (s : State) (c : Nat) (b : List Nat) (hok : s.regsOk = true) : (State.submitToken s c b).regsOk = true := by
  unfold State.submitToken
  repeat' split
  all_goals simp only [State.tokenRefused_ok, State.tokenUse_ok, State.regsOk_mk, State.regsOk_eta, apply_ite State.regsOk, ite_self, implies_true, eq_self, hok]

end Sys2Proof.Machine
end

