-- ==== Sys2Proof/Laws/Warden.lean ====
section
/-! SUPPORT. What the operations of Machine/Warden.lean leave alone: the part, the waiting commands, the blown life-cycle fuses, and the
canonical form of the register file. -/

namespace Sys2Proof.Machine
set_option linter.unusedSimpArgs false
set_option linter.unusedVariables false
set_option linter.unreachableTactic false
set_option linter.unusedTactic false
set_option linter.style.nameCheck false

theorem State.takeCmd_core (s : State) (d c : Nat) : (State.takeCmd s d c).core = s.core := by
  unfold State.takeCmd
  repeat' split
  all_goals simp only [↓State.updChan_core, ↓State.updWarden_core, State.core_mk, State.core_eta, ↓apply_ite State.core, ite_self, implies_true, eq_self]

theorem State.startCmd_core (s : State) (d : Nat) : (State.startCmd s d).core = s.core := by
  unfold State.startCmd
  repeat' split
  all_goals simp only [↓State.takeCmd_core, ↓State.checkCritical_core, ↓State.respond_core, ↓State.useFree_core, State.core_mk, State.core_eta, ↓apply_ite State.core, ite_self, implies_true, eq_self]

theorem State.overcastUpdate_core (s : State) (d load0 load1 : Nat) : (State.overcastUpdate s d load0 load1).core = s.core := by
  simp only [State.overcastUpdate, ↓State.wr_core, ↓State.updWarden_core, ↓State.ev_core, State.core_mk, State.core_eta, ↓apply_ite State.core, ite_self, implies_true, eq_self]

theorem State.takeCmd_ok (s : State) (d c : Nat) (hok : s.regsOk = true) : (State.takeCmd s d c).regsOk = true := by
  unfold State.takeCmd
  repeat' split
  all_goals simp only [State.updChan_ok, State.updWarden_ok, State.regsOk_mk, State.regsOk_eta, apply_ite State.regsOk, ite_self, implies_true, eq_self, hok]

theorem State.startCmd_ok (s : State) (d : Nat) (hok : s.regsOk = true) : (State.startCmd s d).regsOk = true := by
  unfold State.startCmd
  repeat' (first | with_reducible assumption | with_reducible (apply State.takeCmd_ok) | with_reducible (apply State.checkCritical_ok) | with_reducible (apply State.respond_ok) | with_reducible (apply State.useFree_ok) | with_reducible (apply State.ite_ok) | split | (intro _ _ hok) | (intro _ hok) | (intro _ _ _ hok) | simp only [State.regsOk_mk, State.regsOk_eta])

theorem State.overcastUpdate_ok (s : State) (d load0 load1 : Nat) (hok : s.regsOk = true) : (State.overcastUpdate s d load0 load1).regsOk = true := by
  unfold State.overcastUpdate
  extract_lets
  repeat' (first | with_reducible assumption | with_reducible (apply State.wr_ok) | with_reducible (apply State.updWarden_ok) | with_reducible (apply State.ev_ok) | with_reducible (apply State.ite_ok) | split | (intro _ _ hok) | (intro _ hok) | (intro _ _ _ hok) | simp only [State.regsOk_mk, State.regsOk_eta])

end Sys2Proof.Machine
end

