-- ==== Sys2Proof/Laws/Strongroom.lean ====
section
/-! SUPPORT. What the operations of Machine/Strongroom.lean leave alone: the part, the waiting commands, the blown life-cycle fuses, and the
canonical form of the register file. -/

namespace Sys2Proof.Machine
set_option linter.unusedSimpArgs false
set_option linter.unusedVariables false
set_option linter.unreachableTactic false
set_option linter.unusedTactic false
set_option linter.style.nameCheck false

theorem State.openSession_core (s : State) (c ms : Nat) : (State.openSession s c ms).core = s.core := by
  simp only [State.openSession, ↓State.on_core, ↓State.wr_core, ↓State.updStrong_core, State.core_mk, State.core_eta, ↓apply_ite State.core, ite_self, implies_true, eq_self]

theorem State.closeSession_core (s : State) (c : Nat) : (State.closeSession s c).core = s.core := by
  simp only [State.closeSession, ↓State.off_core, ↓State.updStrong_core, State.core_mk, State.core_eta, ↓apply_ite State.core, ite_self, implies_true, eq_self]

theorem State.takeOwnership_core (s : State) (c : Nat) (b : List Nat) : (State.takeOwnership s c b).core = s.core := by
  simp only [State.takeOwnership, ↓State.respond_core, ↓State.updStrong_core, ↓State.showStore_core, ↓State.transition_core, State.core_mk, State.core_eta, ↓apply_ite State.core, ite_self, implies_true, eq_self]

theorem State.rotateRoot_core (s : State) (c : Nat) (cmd : Cmd) : (State.rotateRoot s c cmd).core = s.core := by
  unfold State.rotateRoot
  repeat' split
  all_goals simp only [↓State.respond_core, ↓State.useFree_core, ↓State.wake_core, ↓State.updStrong_core, State.core_mk, State.core_eta, ↓apply_ite State.core, ite_self, implies_true, eq_self]

theorem State.provision_core (s : State) (secret : List Nat) (id : Nat) (keys : List (List Nat)) (cert : List Nat) : (State.provision s secret id keys cert).core = s.core := by
  simp only [State.provision, ↓State.updStrong_core, ↓State.wr64_core, ↓State.showStore_core, ↓State.transition_core, State.core_mk, State.core_eta, ↓apply_ite State.core, ite_self, implies_true, eq_self]

theorem State.openSession_ok (s : State) (c ms : Nat) (hok : s.regsOk = true) : (State.openSession s c ms).regsOk = true := by
  unfold State.openSession
  extract_lets
  repeat' (first | with_reducible assumption | with_reducible (apply State.on_ok) | with_reducible (apply State.wr_ok) | with_reducible (apply State.updStrong_ok) | with_reducible (apply State.ite_ok) | split | (intro _ _ hok) | (intro _ hok) | (intro _ _ _ hok) | simp only [State.regsOk_mk, State.regsOk_eta])

theorem State.closeSession_ok (s : State) (c : Nat) (hok : s.regsOk = true) : (State.closeSession s c).regsOk = true := by
  unfold State.closeSession
  extract_lets
  repeat' (first | with_reducible assumption | with_reducible (apply State.off_ok) | with_reducible (apply State.updStrong_ok) | with_reducible (apply State.ite_ok) | split | (intro _ _ hok) | (intro _ hok) | (intro _ _ _ hok) | simp only [State.regsOk_mk, State.regsOk_eta])

theorem State.takeOwnership_ok (s : State) (c : Nat) (b : List Nat) (hok : s.regsOk = true) : (State.takeOwnership s c b).regsOk = true := by
  unfold State.takeOwnership
  extract_lets
  repeat' (first | with_reducible assumption | with_reducible (apply State.respond_ok) | with_reducible (apply State.updStrong_ok) | with_reducible (apply State.showStore_ok) | with_reducible (apply State.transition_ok) | with_reducible (apply State.ite_ok) | split | (intro _ _ hok) | (intro _ hok) | (intro _ _ _ hok) | simp only [State.regsOk_mk, State.regsOk_eta])

theorem State.rotateRoot_ok (s : State) (c : Nat) (cmd : Cmd) (hok : s.regsOk = true) : (State.rotateRoot s c cmd).regsOk = true := by
  unfold State.rotateRoot
  extract_lets
  repeat' (first | with_reducible assumption | with_reducible (apply State.respond_ok) | with_reducible (apply State.useFree_ok) | with_reducible (apply State.wake_ok) | with_reducible (apply State.updStrong_ok) | with_reducible (apply State.ite_ok) | split | (intro _ _ hok) | (intro _ hok) | (intro _ _ _ hok) | simp only [State.regsOk_mk, State.regsOk_eta])

theorem State.provision_ok (s : State) (secret : List Nat) (id : Nat) (keys : List (List Nat)) (cert : List Nat) (hok : s.regsOk = true) : (State.provision s secret id keys cert).regsOk = true := by
  unfold State.provision
  extract_lets
  repeat' (first | with_reducible assumption | with_reducible (apply State.updStrong_ok) | with_reducible (apply State.wr64_ok) | with_reducible (apply State.showStore_ok) | with_reducible (apply State.transition_ok) | with_reducible (apply State.ite_ok) | split | (intro _ _ hok) | (intro _ hok) | (intro _ _ _ hok) | simp only [State.regsOk_mk, State.regsOk_eta])

end Sys2Proof.Machine
end

