-- ==== Sys2Proof/Laws/ResetOps.lean ====
section
/-! SUPPORT. What the operations of Machine/ResetOps.lean leave alone: the part, the waiting commands, the blown life-cycle fuses, and the
canonical form of the register file. -/

namespace Sys2Proof.Machine
set_option linter.unusedSimpArgs false
set_option linter.unusedVariables false
set_option linter.unreachableTactic false
set_option linter.unusedTactic false
set_option linter.style.nameCheck false

theorem State.srcMarks_core (s : State) (x : ResetSrc) : (State.srcMarks s x).core = s.core := by
  unfold State.srcMarks
  repeat' split
  all_goals simp only [↓State.on_core, State.core_mk, State.core_eta, ↓apply_ite State.core, ite_self, implies_true, eq_self]

theorem State.cleared_core (s : State) : (State.cleared s).core = s.core := by
  simp only [State.cleared, ↓State.tearRec_core, ↓State.forEach_core, ↓State.wr_core, ↓State.showFuses_core, State.fresh, Strong.kept, State.core_mk, State.core_eta, ↓apply_ite State.core, ite_self, implies_true, eq_self]

theorem State.enterReset_core (s : State) (srcs : List ResetSrc) : (State.enterReset s srcs).core = s.core := by
  unfold State.enterReset
  repeat' split
  all_goals simp only [↓State.forEach_core, ↓State.srcMarks_core, ↓State.cleared_core, ↓State.inc_core, ↓State.wr_core, State.core_mk, State.core_eta, ↓apply_ite State.core, ite_self, implies_true, eq_self]

theorem State.rstCmd_core (s : State) (op key die : Nat) : (State.rstCmd s op key die).core = s.core := by
  unfold State.rstCmd
  repeat' split
  all_goals simp only [↓State.wr_core, ↓State.off_core, ↓State.on_core, ↓State.restartWarden_core, State.core_mk, State.core_eta, ↓apply_ite State.core, ite_self, implies_true, eq_self]

theorem State.srcMarks_ok (s : State) (x : ResetSrc) (hok : s.regsOk = true) : (State.srcMarks s x).regsOk = true := by
  unfold State.srcMarks
  repeat' split
  all_goals simp only [State.on_ok, State.regsOk_mk, State.regsOk_eta, apply_ite State.regsOk, ite_self, implies_true, eq_self, hok]

theorem State.cleared_ok (s : State) (hok : s.regsOk = true) : (State.cleared s).regsOk = true := by
  unfold State.cleared
  extract_lets
  apply State.showFuses_ok
  apply State.forEach_ok
  · intro t p hok
    dsimp only
    split
    · exact State.wr_ok _ _ _ _ hok
    · exact State.wr_ok _ _ _ _ hok
  · apply State.forEach_ok
    · intro t f hok
      exact State.wr_ok _ _ _ _ hok
    · rfl

theorem State.enterReset_ok (s : State) (srcs : List ResetSrc) (hok : s.regsOk = true) : (State.enterReset s srcs).regsOk = true := by
  unfold State.enterReset
  extract_lets
  repeat' (first | with_reducible assumption | with_reducible (apply State.forEach_ok) | with_reducible (apply State.srcMarks_ok) | with_reducible (apply State.cleared_ok) | with_reducible (apply State.inc_ok) | with_reducible (apply State.wr_ok) | with_reducible (apply State.ite_ok) | split | (intro _ _ hok) | (intro _ hok) | (intro _ _ _ hok) | simp only [State.regsOk_mk, State.regsOk_eta])

theorem State.rstCmd_ok (s : State) (op key die : Nat) (hok : s.regsOk = true) : (State.rstCmd s op key die).regsOk = true := by
  unfold State.rstCmd
  extract_lets
  repeat' (first | with_reducible assumption | with_reducible (apply State.wr_ok) | with_reducible (apply State.off_ok) | with_reducible (apply State.on_ok) | with_reducible (apply State.restartWarden_ok) | with_reducible (apply State.ite_ok) | split | (intro _ _ hok) | (intro _ hok) | (intro _ _ _ hok) | simp only [State.regsOk_mk, State.regsOk_eta])

end Sys2Proof.Machine
end

