-- ==== Sys2Proof/Laws/Power.lean ====
section
/-! SUPPORT. What the operations of Machine/Power.lean leave alone: the part, the waiting commands, the blown life-cycle fuses, and the
canonical form of the register file. -/

namespace Sys2Proof.Machine
set_option linter.unusedSimpArgs false
set_option linter.unusedVariables false
set_option linter.unreachableTactic false
set_option linter.unusedTactic false
set_option linter.style.nameCheck false

theorem State.sendCount_core (s : State) (d : Nat) : (State.sendCount s d).core = s.core := by
  unfold State.sendCount
  repeat' split
  all_goals simp only [↓State.emit_core, State.core_mk, State.core_eta, ↓apply_ite State.core, ite_self, implies_true, eq_self]

theorem State.correct_core (s : State) (d count path : Nat) : (State.correct s d count path).core = s.core := by
  simp only [State.correct, ↓State.aligned_core, ↓State.inc_core, ↓State.off_core, State.core_mk, State.core_eta, ↓apply_ite State.core, ite_self, implies_true, eq_self]

theorem State.thermtrip_core (s : State) : (State.thermtrip s).core = s.core := by
  simp only [State.thermtrip, ↓State.enterReset_core, State.core_mk, State.core_eta, ↓apply_ite State.core, ite_self, implies_true, eq_self]

theorem State.halfRate_core (s : State) (d : Nat) (on : Bool) : (State.halfRate s d on).core = s.core := by
  simp only [State.halfRate, ↓State.forEach_core, ↓State.wrB_core, State.core_mk, State.core_eta, ↓apply_ite State.core, ite_self, implies_true, eq_self]

theorem State.thermal_core (s : State) (d : Nat) (ts : List Int) : (State.thermal s d ts).core = s.core := by
  simp only [State.thermal, ↓State.forEach_core, ↓State.wr_core, ↓State.thermtrip_core, ↓State.ev_core, ↓State.off_core, ↓State.halfRate_core, ↓State.on_core, State.core_mk, State.core_eta, ↓apply_ite State.core, ite_self, implies_true, eq_self]

theorem State.domForget_core (s : State) (d k : Nat) : (State.domForget s d k).core = s.core := by
  unfold State.domForget
  repeat' (first | with_reducible rfl | simp only [↓State.forEach_core, ↓State.updPort_core, State.core_mk, State.core_eta, ↓apply_ite State.core, ite_self, implies_true, eq_self] | split | (refine (State.forEach_core _ _ _ (fun s a => ?_)).trans ?_))

theorem State.domErase_core (s : State) (d k : Nat) : (State.domErase s d k).core = s.core := by
  unfold State.domErase
  repeat' (first | with_reducible rfl | simp only [↓State.domForget_core, ↓State.forEach_core, ↓State.wr_core, ↓State.toSite_core, State.core_mk, State.core_eta, ↓apply_ite State.core, ite_self, implies_true, eq_self] | split | (refine (State.forEach_core _ _ _ (fun s a => ?_)).trans ?_))

theorem State.domRefuse_core (s : State) (d k : Nat) : (State.domRefuse s d k).core = s.core := by
  simp only [State.domRefuse, ↓State.evD_core, State.core_mk, State.core_eta, ↓apply_ite State.core, ite_self, implies_true, eq_self]

theorem State.domAsk_core (s : State) (d k : Nat) (on : Bool) : (State.domAsk s d k on).core = s.core := by
  simp only [State.domAsk, ↓State.on_core, ↓State.setDom_core, ↓State.off_core, ↓State.domRefuse_core, ↓State.domErase_core, State.core_mk, State.core_eta, ↓apply_ite State.core, ite_self, implies_true, eq_self]

theorem State.domReq_core (s : State) (d v : Nat) : (State.domReq s d v).core = s.core := by
  simp only [State.domReq, ↓State.forEach_core, ↓State.domAsk_core, State.core_mk, State.core_eta, ↓apply_ite State.core, ite_self, implies_true, eq_self]

theorem State.p1Ask_core (s : State) (on : Bool) : (State.p1Ask s on).core = s.core := by
  simp only [State.p1Ask, ↓State.p1On_core, ↓State.off_core, ↓State.setDom_core, ↓State.ev_core, State.core_mk, State.core_eta, ↓apply_ite State.core, ite_self, implies_true, eq_self]

theorem State.islandStart_core (s : State) (vaux : Bool) : (State.islandStart s vaux).core = s.core := by
  simp only [State.islandStart, ↓State.tearRec_core, ↓State.forEach_core, ↓State.on_core, ↓State.wrB_core, ↓State.wr_core, ↓State.showFuses_core, State.fresh, Strong.kept, State.core_mk, State.core_eta, ↓apply_ite State.core, ite_self, implies_true, eq_self]

theorem State.sendCount_ok (s : State) (d : Nat) (hok : s.regsOk = true) : (State.sendCount s d).regsOk = true := by
  unfold State.sendCount
  repeat' split
  all_goals simp only [State.emit_ok, State.regsOk_mk, State.regsOk_eta, apply_ite State.regsOk, ite_self, implies_true, eq_self, hok]

theorem State.correct_ok (s : State) (d count path : Nat) (hok : s.regsOk = true) : (State.correct s d count path).regsOk = true := by
  simp only [State.correct, State.aligned_ok, State.inc_ok, State.off_ok, State.regsOk_mk, State.regsOk_eta, apply_ite State.regsOk, ite_self, implies_true, eq_self, hok]

theorem State.thermtrip_ok (s : State) (hok : s.regsOk = true) : (State.thermtrip s).regsOk = true := by
  simp only [State.thermtrip, State.enterReset_ok, State.regsOk_mk, State.regsOk_eta, apply_ite State.regsOk, ite_self, implies_true, eq_self, hok]

theorem State.halfRate_ok (s : State) (d : Nat) (on : Bool) (hok : s.regsOk = true) : (State.halfRate s d on).regsOk = true := by
  unfold State.halfRate
  repeat' (first | with_reducible assumption | with_reducible (apply State.forEach_ok) | with_reducible (apply State.wrB_ok) | with_reducible (apply State.ite_ok) | split | (intro _ _ hok) | (intro _ hok) | (intro _ _ _ hok) | simp only [State.regsOk_mk, State.regsOk_eta])

theorem State.thermal_ok (s : State) (d : Nat) (ts : List Int) (hok : s.regsOk = true) : (State.thermal s d ts).regsOk = true := by
  unfold State.thermal
  repeat' (first | with_reducible assumption | with_reducible (apply State.forEach_ok) | with_reducible (apply State.wr_ok) | with_reducible (apply State.thermtrip_ok) | with_reducible (apply State.ev_ok) | with_reducible (apply State.off_ok) | with_reducible (apply State.halfRate_ok) | with_reducible (apply State.on_ok) | with_reducible (apply State.ite_ok) | split | (intro _ _ hok) | (intro _ hok) | (intro _ _ _ hok) | simp only [State.regsOk_mk, State.regsOk_eta])

theorem State.domForget_ok (s : State) (d k : Nat) (hok : s.regsOk = true) : (State.domForget s d k).regsOk = true := by
  unfold State.domForget
  have he : Tbl.wf (Tbl.drop s.regs fun x _ => keyIn d k 32 x) = true := Tbl.wf_drop _ hok
  dsimp only
  split
  · exact he
  · split
    · exact State.forEach_ok _ _ _ (fun s p hok => State.updPort_ok _ _ _ hok) he
    · split
      · exact he
      · split
        · exact he
        · exact he
        · exact State.forEach_ok _ _ _ (fun s p hok => hok) he
        · exact State.forEach_ok _ _ _ (fun s p hok => hok) he
        · exact he
        · exact he
        · exact he

theorem State.domErase_ok (s : State) (d k : Nat) (hok : s.regsOk = true) : (State.domErase s d k).regsOk = true := by
  unfold State.domErase
  extract_lets
  repeat' (first | with_reducible assumption | with_reducible (apply State.domForget_ok) | with_reducible (apply State.forEach_ok) | with_reducible (apply State.wr_ok) | with_reducible (apply State.toSite_ok) | with_reducible (apply State.ite_ok) | split | (intro _ _ hok) | (intro _ hok) | (intro _ _ _ hok) | simp only [State.regsOk_mk, State.regsOk_eta])

theorem State.domRefuse_ok (s : State) (d k : Nat) (hok : s.regsOk = true) : (State.domRefuse s d k).regsOk = true := by
  simp only [State.domRefuse, State.evD_ok, State.regsOk_mk, State.regsOk_eta, apply_ite State.regsOk, ite_self, implies_true, eq_self, hok]

theorem State.domAsk_ok (s : State) (d k : Nat) (on : Bool) (hok : s.regsOk = true) : (State.domAsk s d k on).regsOk = true := by
  unfold State.domAsk
  repeat' (first | with_reducible assumption | with_reducible (apply State.on_ok) | with_reducible (apply State.setDom_ok) | with_reducible (apply State.off_ok) | with_reducible (apply State.domRefuse_ok) | with_reducible (apply State.domErase_ok) | with_reducible (apply State.ite_ok) | split | (intro _ _ hok) | (intro _ hok) | (intro _ _ _ hok) | simp only [State.regsOk_mk, State.regsOk_eta])

theorem State.domReq_ok (s : State) (d v : Nat) (hok : s.regsOk = true) : (State.domReq s d v).regsOk = true := by
  unfold State.domReq
  repeat' (first | with_reducible assumption | with_reducible (apply State.forEach_ok) | with_reducible (apply State.domAsk_ok) | with_reducible (apply State.ite_ok) | split | (intro _ _ hok) | (intro _ hok) | (intro _ _ _ hok) | simp only [State.regsOk_mk, State.regsOk_eta])

theorem State.p1Ask_ok (s : State) (on : Bool) (hok : s.regsOk = true) : (State.p1Ask s on).regsOk = true := by
  simp only [State.p1Ask, State.p1On_ok, State.off_ok, State.setDom_ok, State.ev_ok, State.regsOk_mk, State.regsOk_eta, apply_ite State.regsOk, ite_self, implies_true, eq_self, hok]

theorem State.islandStart_ok (s : State) (vaux : Bool) (hok : s.regsOk = true) : (State.islandStart s vaux).regsOk = true := by
  unfold State.islandStart
  extract_lets s1 v p t0 t1 t2
  have h0 : t0.regsOk = true := rfl
  have h1 : t1.regsOk = true := State.forEach_ok _ _ _ (fun s a h => State.on_ok _ _ _ h) h0
  exact State.showFuses_ok _ (State.wr_ok _ _ _ _ (State.wrB_ok _ _ _ _ h1))

end Sys2Proof.Machine
end

