-- ==== Sys2Proof/Laws/Space.lean ====
section
/-! SUPPORT. What the operations of Machine/Space.lean leave alone: the part, the waiting commands, the blown life-cycle fuses, and the
canonical form of the register file. -/

namespace Sys2Proof.Machine
set_option linter.unusedSimpArgs false
set_option linter.unusedVariables false
set_option linter.unreachableTactic false
set_option linter.unusedTactic false
set_option linter.style.nameCheck false

theorem State.ignoredWrite_core (s : State) (src : Src) (r : Reg) (l : Loc) : (State.ignoredWrite s src r l).core = s.core := by
  unfold State.ignoredWrite
  repeat' (first | with_reducible rfl | simp only [↓State.ev_core, ↓State.inc_core, ↓State.on_core, ↓State.wrB_core, ↓State.wr_core, State.core_mk, State.core_eta, ↓apply_ite State.core, ite_self, implies_true, eq_self] | split)

theorem State.ignoredWrite_ok (s : State) (src : Src) (r : Reg) (l : Loc) (hok : s.regsOk = true) : (State.ignoredWrite s src r l).regsOk = true := by
  unfold State.ignoredWrite
  repeat' (first | with_reducible assumption | with_reducible (apply State.ev_ok) | with_reducible (apply State.inc_ok) | with_reducible (apply State.on_ok) | with_reducible (apply State.wrB_ok) | with_reducible (apply State.wr_ok) | with_reducible (apply State.ite_ok) | split | (intro _ _ hok) | (intro _ hok) | (intro _ _ _ hok) | simp only [State.regsOk_mk, State.regsOk_eta])

end Sys2Proof.Machine
end

