-- ==== Sys2Proof/Laws/BusOps.lean ====
section
/-! SUPPORT. What the operations of Machine/BusOps.lean leave alone: the part, the waiting commands, the blown life-cycle fuses, and the
canonical form of the register file. -/

namespace Sys2Proof.Machine
set_option linter.unusedSimpArgs false
set_option linter.unusedVariables false
set_option linter.unreachableTactic false
set_option linter.unusedTactic false
set_option linter.style.nameCheck false

theorem State.quietLost_core (s : State) (src : Src) (r : Reg) (l : Loc) : (State.quietLost s src r l).core = s.core := by
  unfold State.quietLost
  repeat' split
  all_goals simp only [↓State.ignoredWrite_core, ↓State.ev_core, State.core_mk, State.core_eta, ↓apply_ite State.core, ite_self, implies_true, eq_self]

theorem State.writeFld_core (s : State) (f : Fld) (l : Loc) (open_ : Bool) (v : Nat) : (State.writeFld s f l open_ v).core = s.core := by
  unfold State.writeFld
  repeat' split
  all_goals simp only [↓State.wr_core, ↓State.stage_core, State.core_mk, State.core_eta, ↓apply_ite State.core, ite_self, implies_true, eq_self]

theorem State.writeFlds_core (s : State) (src : Src) (r : Reg) (l : Loc) (fs : List Fld) (v : Nat) : (State.writeFlds s src r l fs v).core = s.core := by
  simp only [State.writeFlds, ↓State.gated_core, ↓State.forEach_core, ↓State.writeFld_core, ↓State.quietLost_core, State.core_mk, State.core_eta, ↓apply_ite State.core, ite_self, implies_true, eq_self]

theorem State.plainWrite_core (s : State) (src : Src) (r : Reg) (l : Loc) (v : Nat) (except : List Nat) : (State.plainWrite s src r l v except).core = s.core := by
  simp only [State.plainWrite, ↓State.writeFlds_core, State.core_mk, State.core_eta, ↓apply_ite State.core, ite_self, implies_true, eq_self]

theorem State.holdLow_core (s : State) (r : Reg) (l : Loc) (v : Nat) : (State.holdLow s r l v).core = s.core := by
  exact State.gated_core _ _ _ _ fun _ => rfl

theorem State.commitPair_core (s : State) (src : Src) (lo hi : Reg) (l : Loc) (v : Nat) : (State.commitPair s src lo hi l v).core = s.core := by
  simp only [State.commitPair, ↓State.gated_core, ↓State.forEach_core, ↓State.writeFld_core, ↓State.quietLost_core, State.core_mk, State.core_eta, ↓apply_ite State.core, ite_self, implies_true, eq_self]

theorem State.quietLost_ok (s : State) (src : Src) (r : Reg) (l : Loc) (hok : s.regsOk = true) : (State.quietLost s src r l).regsOk = true := by
  unfold State.quietLost
  repeat' split
  all_goals simp only [State.ignoredWrite_ok, State.ev_ok, State.regsOk_mk, State.regsOk_eta, apply_ite State.regsOk, ite_self, implies_true, eq_self, hok]

theorem State.writeFld_ok (s : State) (f : Fld) (l : Loc) (open_ : Bool) (v : Nat) (hok : s.regsOk = true) : (State.writeFld s f l open_ v).regsOk = true := by
  unfold State.writeFld
  repeat' split
  all_goals simp only [State.wr_ok, State.stage_ok, State.regsOk_mk, State.regsOk_eta, apply_ite State.regsOk, ite_self, implies_true, eq_self, hok]

theorem State.writeFlds_ok (s : State) (src : Src) (r : Reg) (l : Loc) (fs : List Fld) (v : Nat) (hok : s.regsOk = true) : (State.writeFlds s src r l fs v).regsOk = true := by
  unfold State.writeFlds
  repeat' (first | with_reducible assumption | with_reducible (apply State.gated_ok) | with_reducible (apply State.forEach_ok) | with_reducible (apply State.writeFld_ok) | with_reducible (apply State.quietLost_ok) | with_reducible (apply State.ite_ok) | split | (intro _ _ hok) | (intro _ hok) | (intro _ _ _ hok) | simp only [State.regsOk_mk, State.regsOk_eta])

theorem State.plainWrite_ok (s : State) (src : Src) (r : Reg) (l : Loc) (v : Nat) (except : List Nat) (hok : s.regsOk = true) : (State.plainWrite s src r l v except).regsOk = true := by
  simp only [State.plainWrite, State.writeFlds_ok, State.regsOk_mk, State.regsOk_eta, apply_ite State.regsOk, ite_self, implies_true, eq_self, hok]

theorem State.holdLow_ok (s : State) (r : Reg) (l : Loc) (v : Nat) (hok : s.regsOk = true) : (State.holdLow s r l v).regsOk = true := by
  unfold State.holdLow
  repeat' (first | with_reducible assumption | with_reducible (apply State.gated_ok) | with_reducible (apply State.ite_ok) | split | (intro _ _ hok) | (intro _ hok) | (intro _ _ _ hok) | simp only [State.regsOk_mk, State.regsOk_eta])

theorem State.commitPair_ok (s : State) (src : Src) (lo hi : Reg) (l : Loc) (v : Nat) (hok : s.regsOk = true) : (State.commitPair s src lo hi l v).regsOk = true := by
  unfold State.commitPair
  repeat' (first | with_reducible assumption | with_reducible (apply State.gated_ok) | with_reducible (apply State.forEach_ok) | with_reducible (apply State.writeFld_ok) | with_reducible (apply State.quietLost_ok) | with_reducible (apply State.ite_ok) | split | (intro _ _ hok) | (intro _ hok) | (intro _ _ _ hok) | simp only [State.regsOk_mk, State.regsOk_eta])

end Sys2Proof.Machine
end

