-- ==== Sys2Proof/Laws/Monitor.lean ====
section
/-! SUPPORT. What the operations of Machine/Monitor.lean leave alone: the part, the waiting commands, the blown life-cycle fuses, and the
canonical form of the register file. -/

namespace Sys2Proof.Machine
set_option linter.unusedSimpArgs false
set_option linter.unusedVariables false
set_option linter.unreachableTactic false
set_option linter.unusedTactic false
set_option linter.style.nameCheck false

theorem State.showFreeCnt_core (s : State) (d : Nat) : (State.showFreeCnt s d).core = s.core := by
  simp only [State.showFreeCnt, ↓State.wr_core, State.core_mk, State.core_eta, ↓apply_ite State.core, ite_self, implies_true, eq_self]

theorem State.evtWrite_core (s : State) (src : Src) (d k v : Nat) : (State.evtWrite s src d k v).core = s.core := by
  simp only [State.evtWrite, ↓State.plainWrite_core, ↓State.cntSet_core, ↓State.ev_core, ↓State.showFreeCnt_core, State.core_mk, State.core_eta, ↓apply_ite State.core, ite_self, implies_true, eq_self]

theorem State.cntWrite_core (s : State) (src : Src) (d k v : Nat) : (State.cntWrite s src d k v).core = s.core := by
  simp only [State.cntWrite, ↓State.quietLost_core, State.core_mk, State.core_eta, ↓apply_ite State.core, ite_self, implies_true, eq_self]

theorem State.showFrost_core (s : State) (d : Nat) : (State.showFrost s d).core = s.core := by
  simp only [State.showFrost, ↓State.wr_core, State.core_mk, State.core_eta, ↓apply_ite State.core, ite_self, implies_true, eq_self]

theorem State.frostArmDie_core (s : State) (d t : Nat) (all : Bool) : (State.frostArmDie s d t all).core = s.core := by
  simp only [State.frostArmDie, ↓State.showFrost_core, State.core_mk, State.core_eta, ↓apply_ite State.core, ite_self, implies_true, eq_self]

theorem State.frostDrop_core (s : State) (d : Nat) : (State.frostDrop s d).core = s.core := by
  simp only [State.frostDrop, ↓State.showFrost_core, State.core_mk, State.core_eta, ↓apply_ite State.core, ite_self, implies_true, eq_self]

theorem State.frostRefuse_core (s : State) (d : Nat) : (State.frostRefuse s d).core = s.core := by
  simp only [State.frostRefuse, ↓State.ev_core, State.core_mk, State.core_eta, ↓apply_ite State.core, ite_self, implies_true, eq_self]

theorem State.frostSnap_core (s : State) (d t : Nat) : (State.frostSnap s d t).core = s.core := by
  simp only [State.frostSnap, ↓State.forEach_core, ↓State.wr_core, ↓State.wrB_core, ↓State.wr64_core, ↓State.frostDrop_core, ↓State.ev_core, State.core_mk, State.core_eta, ↓apply_ite State.core, ite_self, implies_true, eq_self]

theorem State.frostCancelDie_core (s : State) (d : Nat) : (State.frostCancelDie s d).core = s.core := by
  unfold State.frostCancelDie
  repeat' split
  all_goals simp only [↓State.frostSnap_core, ↓State.frostDrop_core, State.core_mk, State.core_eta, ↓apply_ite State.core, ite_self, implies_true, eq_self]

theorem State.frostGo_core (s : State) (d op : Nat) : (State.frostGo s d op).core = s.core := by
  unfold State.frostGo
  repeat' split
  all_goals simp only [↓State.wr_core, ↓State.frostRefuse_core, ↓State.forEach_core, ↓State.wrB_core, ↓State.frostArmDie_core, ↓State.emit_core, ↓State.frostCancelDie_core, State.core_mk, State.core_eta, ↓apply_ite State.core, ite_self, implies_true, eq_self]

theorem State.atticCtrl_core (s : State) (src : Src) (d v : Nat) : (State.atticCtrl s src d v).core = s.core := by
  simp only [State.atticCtrl, ↓State.plainWrite_core, ↓State.off_core, State.core_mk, State.core_eta, ↓apply_ite State.core, ite_self, implies_true, eq_self]

theorem State.atticTail_core (s : State) (d v : Nat) : (State.atticTail s d v).core = s.core := by
  simp only [State.atticTail, ↓State.wr_core, ↓State.wrB_core, State.core_mk, State.core_eta, ↓apply_ite State.core, ite_self, implies_true, eq_self]

theorem State.showFreeCnt_ok (s : State) (d : Nat) (hok : s.regsOk = true) : (State.showFreeCnt s d).regsOk = true := by
  simp only [State.showFreeCnt, State.wr_ok, State.regsOk_mk, State.regsOk_eta, apply_ite State.regsOk, ite_self, implies_true, eq_self, hok]

theorem State.evtWrite_ok (s : State) (src : Src) (d k v : Nat) (hok : s.regsOk = true) : (State.evtWrite s src d k v).regsOk = true := by
  unfold State.evtWrite
  extract_lets
  repeat' (first | with_reducible assumption | with_reducible (apply State.plainWrite_ok) | with_reducible (apply State.cntSet_ok) | with_reducible (apply State.ev_ok) | with_reducible (apply State.showFreeCnt_ok) | with_reducible (apply State.ite_ok) | split | (intro _ _ hok) | (intro _ hok) | (intro _ _ _ hok) | simp only [State.regsOk_mk, State.regsOk_eta])

theorem State.cntWrite_ok (s : State) (src : Src) (d k v : Nat) (hok : s.regsOk = true) : (State.cntWrite s src d k v).regsOk = true := by
  simp only [State.cntWrite, State.quietLost_ok, State.regsOk_mk, State.regsOk_eta, apply_ite State.regsOk, ite_self, implies_true, eq_self, hok]

theorem State.showFrost_ok (s : State) (d : Nat) (hok : s.regsOk = true) : (State.showFrost s d).regsOk = true := by
  simp only [State.showFrost, State.wr_ok, State.regsOk_mk, State.regsOk_eta, apply_ite State.regsOk, ite_self, implies_true, eq_self, hok]

theorem State.frostArmDie_ok (s : State) (d t : Nat) (all : Bool) (hok : s.regsOk = true) : (State.frostArmDie s d t all).regsOk = true := by
  simp only [State.frostArmDie, State.showFrost_ok, State.regsOk_mk, State.regsOk_eta, apply_ite State.regsOk, ite_self, implies_true, eq_self, hok]

theorem State.frostDrop_ok (s : State) (d : Nat) (hok : s.regsOk = true) : (State.frostDrop s d).regsOk = true := by
  simp only [State.frostDrop, State.showFrost_ok, State.regsOk_mk, State.regsOk_eta, apply_ite State.regsOk, ite_self, implies_true, eq_self, hok]

theorem State.frostRefuse_ok (s : State) (d : Nat) (hok : s.regsOk = true) : (State.frostRefuse s d).regsOk = true := by
  simp only [State.frostRefuse, State.ev_ok, State.regsOk_mk, State.regsOk_eta, apply_ite State.regsOk, ite_self, implies_true, eq_self, hok]

theorem State.frostSnap_ok (s : State) (d t : Nat) (hok : s.regsOk = true) : (State.frostSnap s d t).regsOk = true := by
  unfold State.frostSnap
  extract_lets
  repeat' (first | with_reducible assumption | with_reducible (apply State.forEach_ok) | with_reducible (apply State.wr_ok) | with_reducible (apply State.wrB_ok) | with_reducible (apply State.wr64_ok) | with_reducible (apply State.frostDrop_ok) | with_reducible (apply State.ev_ok) | with_reducible (apply State.ite_ok) | split | (intro _ _ hok) | (intro _ hok) | (intro _ _ _ hok) | simp only [State.regsOk_mk, State.regsOk_eta])

theorem State.frostCancelDie_ok (s : State) (d : Nat) (hok : s.regsOk = true) : (State.frostCancelDie s d).regsOk = true := by
  unfold State.frostCancelDie
  repeat' split
  all_goals simp only [State.frostSnap_ok, State.frostDrop_ok, State.regsOk_mk, State.regsOk_eta, apply_ite State.regsOk, ite_self, implies_true, eq_self, hok]

theorem State.frostGo_ok (s : State) (d op : Nat) (hok : s.regsOk = true) : (State.frostGo s d op).regsOk = true := by
  unfold State.frostGo
  extract_lets
  repeat' (first | with_reducible assumption | with_reducible (apply State.wr_ok) | with_reducible (apply State.frostRefuse_ok) | with_reducible (apply State.forEach_ok) | with_reducible (apply State.wrB_ok) | with_reducible (apply State.frostArmDie_ok) | with_reducible (apply State.emit_ok) | with_reducible (apply State.frostCancelDie_ok) | with_reducible (apply State.ite_ok) | split | (intro _ _ hok) | (intro _ hok) | (intro _ _ _ hok) | simp only [State.regsOk_mk, State.regsOk_eta])

theorem State.atticCtrl_ok (s : State) (src : Src) (d v : Nat) (hok : s.regsOk = true) : (State.atticCtrl s src d v).regsOk = true := by
  unfold State.atticCtrl
  repeat' (first | with_reducible assumption | with_reducible (apply State.plainWrite_ok) | with_reducible (apply State.off_ok) | with_reducible (apply State.ite_ok) | split | (intro _ _ hok) | (intro _ hok) | (intro _ _ _ hok) | simp only [State.regsOk_mk, State.regsOk_eta])

theorem State.atticTail_ok (s : State) (d v : Nat) (hok : s.regsOk = true) : (State.atticTail s d v).regsOk = true := by
  simp only [State.atticTail, State.wr_ok, State.wrB_ok, State.regsOk_mk, State.regsOk_eta, apply_ite State.regsOk, ite_self, implies_true, eq_self, hok]

end Sys2Proof.Machine
end

