-- ==== Sys2Proof/Laws/HatchOps.lean ====
section
/-! SUPPORT. What the operations of Machine/HatchOps.lean leave alone: the part, the waiting commands, the blown life-cycle fuses, and the
canonical form of the register file. -/

namespace Sys2Proof.Machine
set_option linter.unusedSimpArgs false
set_option linter.unusedVariables false
set_option linter.unreachableTactic false
set_option linter.unusedTactic false
set_option linter.style.nameCheck false

theorem State.pfDrop_core (s : State) (d : Nat) : (State.pfDrop s d).core = s.core := by
  unfold State.pfDrop
  repeat' split
  all_goals simp only [↓State.updHatch_core, ↓State.add_core, ↓State.ev_core, State.core_mk, State.core_eta, ↓apply_ite State.core, ite_self, implies_true, eq_self]

theorem State.pfTake_core (s : State) (d src a : Nat) : (State.pfTake s d src a).2.core = s.core := by
  unfold State.pfTake
  repeat' split
  all_goals simp only [↓State.pfDrop_core, ↓State.updHatch_core, State.core_mk, State.core_eta, ↓apply_ite State.core, ite_self, implies_true, eq_self]

theorem State.pfTake_core' {s : State} {d src a : Nat} {xa xs}
    (hx : (State.pfTake s d src a) = (xa, xs)) : xs.core = s.core := by
  have := State.pfTake_core s d src a
  rw [hx] at this
  exact this

theorem State.pfFill_core (s : State) (d src a : Nat) (rest : List Nat) : (State.pfFill s d src a rest).core = s.core := by
  simp only [State.pfFill, ↓State.pfDrop_core, ↓State.updHatch_core, State.core_mk, State.core_eta, ↓apply_ite State.core, ite_self, implies_true, eq_self]

theorem State.pfWritten_core (s : State) (a : Nat) : (State.pfWritten s a).core = s.core := by
  unfold State.pfWritten
  repeat' (first | with_reducible rfl | simp only [↓State.forEach_core, ↓State.pfDrop_core, State.core_mk, State.core_eta, ↓apply_ite State.core, ite_self, implies_true, eq_self] | split | (refine (State.forEach_core _ _ _ (fun s a => ?_)).trans ?_))

theorem State.drDone_core (s : State) (d k a w : Nat) (rest : List Nat) : (State.drDone s d k a w rest).core = s.core := by
  simp only [State.drDone, ↓State.off_core, ↓State.on_core, ↓State.wr_core, ↓State.updHatch_core, ↓State.pfFill_core, State.core_mk, State.core_eta, ↓apply_ite State.core, ite_self, implies_true, eq_self]

theorem State.showBus_core (s : State) (d g : Nat) : (State.showBus s d g).core = s.core := by
  simp only [State.showBus, ↓State.wrB_core, State.core_mk, State.core_eta, ↓apply_ite State.core, ite_self, implies_true, eq_self]

theorem State.inboundWord_core (s : State) (d a : Nat) (isRead : Bool) (w : Nat) (rest : List Nat) : (State.inboundWord s d a isRead w rest).core = s.core := by
  unfold State.inboundWord
  repeat' split
  all_goals simp only [↓State.updHatch_core, ↓State.pfFill_core, State.core_mk, State.core_eta, ↓apply_ite State.core, ite_self, implies_true, eq_self]

theorem State.xDone_core (s : State) (d g w : Nat) (rest : List Nat) : (State.xDone s d g w rest).core = s.core := by
  unfold State.xDone
  repeat' split
  all_goals simp only [↓State.updHatch_core, ↓State.inboundWord_core, ↓State.drDone_core, State.core_mk, State.core_eta, ↓apply_ite State.core, ite_self, implies_true, eq_self]

theorem State.xFail_core (s : State) (d g : Nat) (nack : Bool) : (State.xFail s d g nack).core = s.core := by
  simp only [State.xFail, ↓State.inc_core, ↓State.ev_core, ↓State.xDone_core, State.core_mk, State.core_eta, ↓apply_ite State.core, ite_self, implies_true, eq_self]

theorem State.busGo_core (n : Nat) (s : State) (d g : Nat) : (State.busGo n s d g).core = s.core := by
  induction n generalizing s with
  | zero => rfl
  | succ n ih =>
    unfold State.busGo
    split
    · rfl
    · split
      · rw [ih, State.xFail_core]
      · split
        · rfl
        · exact State.emit_core _ _

theorem State.busNext_core (s : State) (d g : Nat) : (State.busNext s d g).core = s.core := by
  simp only [State.busNext, ↓State.busGo_core, ↓State.showBus_core, State.core_mk, State.core_eta, ↓apply_ite State.core, ite_self, implies_true, eq_self]

theorem State.busAdd_core (s : State) (d g : Nat) (t : XTx) : (State.busAdd s d g t).core = s.core := by
  simp only [State.busAdd, ↓State.updHatch_core, ↓State.busNext_core, State.core_mk, State.core_eta, ↓apply_ite State.core, ite_self, implies_true, eq_self]

theorem State.drRegister_core (s : State) (d k a : Nat) : (State.drRegister s d k a).core = s.core := by
  unfold State.drRegister
  repeat' (first | with_reducible rfl | simp only [↓State.pfTake_core, ↓State.drDone_core, ↓State.busAdd_core, ↓State.emit_core, State.core_mk, State.core_eta, ↓apply_ite State.core, ite_self, implies_true, eq_self] | split | (refine (State.pfTake_core' (by assumption)).trans ?_))

theorem State.drStart_core (s : State) (d k : Nat) (space : Bool) (addr : Nat) : (State.drStart s d k space addr).core = s.core := by
  simp only [State.drStart, ↓State.wrB_core, ↓State.wr_core, ↓State.drFree_core, ↓State.on_core, ↓State.drMemory_core, ↓State.drRegister_core, State.core_mk, State.core_eta, ↓apply_ite State.core, ite_self, implies_true, eq_self]

theorem State.drCollect_core (s : State) (d k : Nat) : (State.drCollect s d k).2.core = s.core := by
  simp only [State.drCollect, ↓State.drFree_core, State.core_mk, State.core_eta, ↓apply_ite State.core, ite_self, implies_true, eq_self]

theorem State.drCollect_core' {s : State} {d k : Nat} {xa xs}
    (hx : (State.drCollect s d k) = (xa, xs)) : xs.core = s.core := by
  have := State.drCollect_core s d k
  rw [hx] at this
  exact this

theorem State.pfDrop_ok (s : State) (d : Nat) (hok : s.regsOk = true) : (State.pfDrop s d).regsOk = true := by
  unfold State.pfDrop
  extract_lets
  repeat' (first | with_reducible assumption | with_reducible (apply State.updHatch_ok) | with_reducible (apply State.add_ok) | with_reducible (apply State.ev_ok) | with_reducible (apply State.ite_ok) | split | (intro _ _ hok) | (intro _ hok) | (intro _ _ _ hok) | simp only [State.regsOk_mk, State.regsOk_eta])

theorem State.pfTake_ok (s : State) (d src a : Nat) (hok : s.regsOk = true) : (State.pfTake s d src a).2.regsOk = true := by
  unfold State.pfTake
  repeat' split
  all_goals simp only [State.pfDrop_ok, State.updHatch_ok, State.regsOk_mk, State.regsOk_eta, apply_ite State.regsOk, ite_self, implies_true, eq_self, hok]

theorem State.pfTake_ok' {s : State} {d src a : Nat} {xa xs}
    (hx : State.pfTake s d src a = (xa, xs)) (hok : s.regsOk = true) : xs.regsOk = true := by
  have := State.pfTake_ok s d src a hok
  rw [hx] at this
  exact this

theorem State.pfFill_ok (s : State) (d src a : Nat) (rest : List Nat) (hok : s.regsOk = true) : (State.pfFill s d src a rest).regsOk = true := by
  simp only [State.pfFill, State.pfDrop_ok, State.updHatch_ok, State.regsOk_mk, State.regsOk_eta, apply_ite State.regsOk, ite_self, implies_true, eq_self, hok]

theorem State.pfWritten_ok (s : State) (a : Nat) (hok : s.regsOk = true) : (State.pfWritten s a).regsOk = true := by
  unfold State.pfWritten
  repeat' (first | with_reducible assumption | with_reducible (apply State.forEach_ok) | with_reducible (apply State.pfDrop_ok) | with_reducible (apply State.ite_ok) | split | (intro _ _ hok) | (intro _ hok) | (intro _ _ _ hok) | simp only [State.regsOk_mk, State.regsOk_eta])

theorem State.drDone_ok (s : State) (d k a w : Nat) (rest : List Nat) (hok : s.regsOk = true) : (State.drDone s d k a w rest).regsOk = true := by
  unfold State.drDone
  extract_lets
  repeat' (first | with_reducible assumption | with_reducible (apply State.off_ok) | with_reducible (apply State.on_ok) | with_reducible (apply State.wr_ok) | with_reducible (apply State.updHatch_ok) | with_reducible (apply State.pfFill_ok) | with_reducible (apply State.ite_ok) | split | (intro _ _ hok) | (intro _ hok) | (intro _ _ _ hok) | simp only [State.regsOk_mk, State.regsOk_eta])

theorem State.showBus_ok (s : State) (d g : Nat) (hok : s.regsOk = true) : (State.showBus s d g).regsOk = true := by
  simp only [State.showBus, State.wrB_ok, State.regsOk_mk, State.regsOk_eta, apply_ite State.regsOk, ite_self, implies_true, eq_self, hok]

theorem State.inboundWord_ok (s : State) (d a : Nat) (isRead : Bool) (w : Nat) (rest : List Nat) (hok : s.regsOk = true) : (State.inboundWord s d a isRead w rest).regsOk = true := by
  unfold State.inboundWord
  repeat' split
  all_goals simp only [State.updHatch_ok, State.pfFill_ok, State.regsOk_mk, State.regsOk_eta, apply_ite State.regsOk, ite_self, implies_true, eq_self, hok]

theorem State.xDone_ok (s : State) (d g w : Nat) (rest : List Nat) (hok : s.regsOk = true) : (State.xDone s d g w rest).regsOk = true := by
  unfold State.xDone
  repeat' split
  all_goals simp only [State.updHatch_ok, State.inboundWord_ok, State.drDone_ok, State.regsOk_mk, State.regsOk_eta, apply_ite State.regsOk, ite_self, implies_true, eq_self, hok]

theorem State.xFail_ok (s : State) (d g : Nat) (nack : Bool) (hok : s.regsOk = true) : (State.xFail s d g nack).regsOk = true := by
  unfold State.xFail
  extract_lets
  repeat' (first | with_reducible assumption | with_reducible (apply State.inc_ok) | with_reducible (apply State.ev_ok) | with_reducible (apply State.xDone_ok) | with_reducible (apply State.ite_ok) | split | (intro _ _ hok) | (intro _ hok) | (intro _ _ _ hok) | simp only [State.regsOk_mk, State.regsOk_eta])

theorem State.busGo_ok (n : Nat) (s : State) (d g : Nat) (hok : s.regsOk = true) : (State.busGo n s d g).regsOk = true := by
  induction n generalizing s with
  | zero => exact hok
  | succ n ih =>
    unfold State.busGo
    split
    · exact hok
    · split
      · exact ih _ (State.xFail_ok _ _ _ _ hok)
      · split
        · exact hok
        · exact State.emit_ok _ _ hok

theorem State.busNext_ok (s : State) (d g : Nat) (hok : s.regsOk = true) : (State.busNext s d g).regsOk = true := by
  simp only [State.busNext, State.busGo_ok, State.showBus_ok, State.regsOk_mk, State.regsOk_eta, apply_ite State.regsOk, ite_self, implies_true, eq_self, hok]

theorem State.busAdd_ok (s : State) (d g : Nat) (t : XTx) (hok : s.regsOk = true) : (State.busAdd s d g t).regsOk = true := by
  simp only [State.busAdd, State.updHatch_ok, State.busNext_ok, State.regsOk_mk, State.regsOk_eta, apply_ite State.regsOk, ite_self, implies_true, eq_self, hok]

theorem State.drRegister_ok (s : State) (d k a : Nat) (hok : s.regsOk = true) : (State.drRegister s d k a).regsOk = true := by
  unfold State.drRegister
  repeat' (first | with_reducible assumption | with_reducible (apply State.pfTake_ok) | with_reducible (apply State.drDone_ok) | with_reducible (apply State.busAdd_ok) | with_reducible (apply State.emit_ok) | with_reducible (exact State.pfTake_ok' (by assumption) (by assumption)) | (refine State.pfTake_ok' (by assumption) ?_) | with_reducible (apply State.ite_ok) | split | (intro _ _ hok) | (intro _ hok) | (intro _ _ _ hok) | simp only [State.regsOk_mk, State.regsOk_eta])

theorem State.drStart_ok (s : State) (d k : Nat) (space : Bool) (addr : Nat) (hok : s.regsOk = true) : (State.drStart s d k space addr).regsOk = true := by
  unfold State.drStart
  extract_lets
  repeat' (first | with_reducible assumption | with_reducible (apply State.wrB_ok) | with_reducible (apply State.wr_ok) | with_reducible (apply State.drFree_ok) | with_reducible (apply State.on_ok) | with_reducible (apply State.drMemory_ok) | with_reducible (apply State.drRegister_ok) | with_reducible (apply State.ite_ok) | split | (intro _ _ hok) | (intro _ hok) | (intro _ _ _ hok) | simp only [State.regsOk_mk, State.regsOk_eta])

theorem State.drCollect_ok (s : State) (d k : Nat) (hok : s.regsOk = true) : (State.drCollect s d k).2.regsOk = true := by
  simp only [State.drCollect, State.drFree_ok, State.regsOk_mk, State.regsOk_eta, apply_ite State.regsOk, ite_self, implies_true, eq_self, hok]

theorem State.drCollect_ok' {s : State} {d k : Nat} {xa xs}
    (hx : State.drCollect s d k = (xa, xs)) (hok : s.regsOk = true) : xs.regsOk = true := by
  have := State.drCollect_ok s d k hok
  rw [hx] at this
  exact this

end Sys2Proof.Machine
end

