-- ==== Sys2Proof/Laws/Bus.lean ====
section
/-! SUPPORT. What the operations of Machine/Bus.lean leave alone: the part, the waiting commands, the blown life-cycle fuses, and the
canonical form of the register file. -/

namespace Sys2Proof.Machine
set_option linter.unusedSimpArgs false
set_option linter.unusedVariables false
set_option linter.unreachableTactic false
set_option linter.unusedTactic false
set_option linter.style.nameCheck false

theorem State.pairRead_core (s : State) (lo hi : Reg) (l : Loc) : (State.pairRead s lo hi l).2.core = s.core := by
  simp only [State.pairRead, State.core_mk, State.core_eta, ↓apply_ite State.core, ite_self, implies_true, eq_self]

theorem State.pairRead_core' {s : State} {lo hi : Reg} {l : Loc} {xa xs}
    (hx : (State.pairRead s lo hi l) = (xa, xs)) : xs.core = s.core := by
  have := State.pairRead_core s lo hi l
  rw [hx] at this
  exact this

theorem State.readAt_core (s : State) (r : Reg) (l : Loc) : (State.readAt s r l).2.core = s.core := by
  unfold State.readAt
  repeat' split
  all_goals simp only [↓State.cntCapture_core, ↓State.drCollect_core, ↓State.pairRead_core, State.core_mk, State.core_eta, ↓apply_ite State.core, ite_self, implies_true, eq_self]

theorem State.readAt_core' {s : State} {r : Reg} {l : Loc} {xa xs}
    (hx : (State.readAt s r l) = (xa, xs)) : xs.core = s.core := by
  have := State.readAt_core s r l
  rw [hx] at this
  exact this

theorem State.wakeD19_core (s : State) (a : Nat) : (State.wakeD19 s a).core = s.core := by
  simp only [State.wakeD19, ↓State.wake_core, State.core_mk, State.core_eta, ↓apply_ite State.core, ite_self, implies_true, eq_self]

theorem State.readReg_core (s : State) (a : Nat) : (State.readReg s a).2.core = s.core := by
  unfold State.readReg
  repeat' split
  all_goals simp only [↓State.wakeD19_core, ↓State.pageRead_core, ↓State.readAt_core, State.core_mk, State.core_eta, ↓apply_ite State.core, ite_self, implies_true, eq_self]

theorem State.readReg_core' {s : State} {a : Nat} {xa xs}
    (hx : (State.readReg s a) = (xa, xs)) : xs.core = s.core := by
  have := State.readReg_core s a
  rw [hx] at this
  exact this

theorem State.invGo_core (s : State) (op slot : Nat) (chan : Option Nat) : (State.invGo s op slot chan).core = s.core := by
  simp only [State.invGo, ↓State.ev_core, ↓State.wr_core, ↓State.on_core, State.core_mk, State.core_eta, ↓apply_ite State.core, ite_self, implies_true, eq_self]

theorem State.lqCtrl_core (s : State) (src : Src) (l : Loc) (v : Nat) : (State.lqCtrl s src l v).core = s.core := by
  simp only [State.lqCtrl, ↓State.plainWrite_core, ↓State.updPort_core, ↓State.setQuadEn_core, State.core_mk, State.core_eta, ↓apply_ite State.core, ite_self, implies_true, eq_self]

theorem State.clCtrl_core (s : State) (src : Src) (l : Loc) (v : Nat) : (State.clCtrl s src l v).core = s.core := by
  simp only [State.clCtrl, ↓State.plainWrite_core, ↓State.setSiteEn_core, ↓State.siteRetrain_core, ↓State.retireSite_core, ↓State.reviveSite_core, State.core_mk, State.core_eta, ↓apply_ite State.core, ite_self, implies_true, eq_self]

theorem State.clThr_core (s : State) (src : Src) (l : Loc) (v : Nat) : (State.clThr s src l v).core = s.core := by
  simp only [State.clThr, ↓State.plainWrite_core, ↓State.ev_core, State.core_mk, State.core_eta, ↓apply_ite State.core, ite_self, implies_true, eq_self]

theorem State.ptCtrl_core (s : State) (src : Src) (l : Loc) (v : Nat) : (State.ptCtrl s src l v).core = s.core := by
  simp only [State.ptCtrl, ↓State.plainWrite_core, ↓State.setPortEn_core, ↓State.retrainPort_core, State.core_mk, State.core_eta, ↓apply_ite State.core, ite_self, implies_true, eq_self]

theorem State.spCtrl_core (s : State) (src : Src) (l : Loc) (v : Nat) : (State.spCtrl s src l v).core = s.core := by
  simp only [State.spCtrl, ↓State.plainWrite_core, ↓State.slotEn_core, ↓State.perstHold_core, ↓State.slotPower_core, ↓State.slotUnlock_core, State.core_mk, State.core_eta, ↓apply_ite State.core, ite_self, implies_true, eq_self]

theorem State.dmCtrl_core (s : State) (l : Loc) (v : Nat) : (State.dmCtrl s l v).core = s.core := by
  simp only [State.dmCtrl, ↓State.queuePause_core, ↓State.queueUnpause_core, ↓State.queueEnable_core, ↓State.queueDisable_core, ↓State.queueResume_core, State.core_mk, State.core_eta, ↓apply_ite State.core, ite_self, implies_true, eq_self]

theorem State.lqTx_core (s : State) (src : Src) (l : Loc) (v : Nat) : (State.lqTx s src l v).core = s.core := by
  simp only [State.lqTx, ↓State.plainWrite_core, ↓State.ignoredWrite_core, State.core_mk, State.core_eta, ↓apply_ite State.core, ite_self, implies_true, eq_self]

theorem State.lqLoop_core (s : State) (src : Src) (l : Loc) (v : Nat) : (State.lqLoop s src l v).core = s.core := by
  simp only [State.lqLoop, ↓State.plainWrite_core, ↓State.setLoopGo_core, State.core_mk, State.core_eta, ↓apply_ite State.core, ite_self, implies_true, eq_self]

theorem State.lqPattern_core (s : State) (src : Src) (l : Loc) (v : Nat) : (State.lqPattern s src l v).core = s.core := by
  simp only [State.lqPattern, ↓State.plainWrite_core, ↓State.setCheckEn_core, State.core_mk, State.core_eta, ↓apply_ite State.core, ite_self, implies_true, eq_self]

theorem State.goWrite_core (s : State) (src : Src) (r : Reg) (l : Loc) (v : Nat) (f : State → State) (hf : ∀ s, (f s).core = s.core) : (State.goWrite s src r l v f).core = s.core := by
  simp only [State.goWrite, ↓State.plainWrite_core, hf, State.core_mk, State.core_eta, ↓apply_ite State.core, ite_self, implies_true, eq_self]

theorem State.ckRst_core (s : State) (src : Src) (v : Nat) : (State.ckRst s src v).core = s.core := by
  simp only [State.ckRst, ↓State.writeFld_core, ↓State.goWrite_core, ↓State.rstCmd_core, State.core_mk, State.core_eta, ↓apply_ite State.core, ite_self, implies_true, eq_self]

theorem State.invCmdWrite_core (s : State) (src : Src) (v : Nat) : (State.invCmdWrite s src v).core = s.core := by
  unfold State.invCmdWrite
  repeat' split
  all_goals simp only [↓State.goWrite_core, ↓State.invGo_core, State.core_mk, State.core_eta, ↓apply_ite State.core, ite_self, implies_true, eq_self]

theorem State.drCmd_core (s : State) (src : Src) (l : Loc) (v : Nat) : (State.drCmd s src l v).core = s.core := by
  simp only [State.drCmd, ↓State.goWrite_core, ↓State.drStart_core, State.core_mk, State.core_eta, ↓apply_ite State.core, ite_self, implies_true, eq_self]

theorem State.writeIo_core (s : State) (src : Src) (r : Reg) (l : Loc) (v : Nat) : (State.writeIo s src r l v).core = s.core := by
  unfold State.writeIo
  repeat' split
  all_goals simp only [↓State.gated_core, ↓State.lqCtrl_core, ↓State.setBaroThr_core, ↓State.clearBaroMin_core, ↓State.lqLoop_core, ↓State.lqTx_core, ↓State.lqPattern_core, ↓State.marginStart_core, ↓State.setMarginCtrl_core, ↓State.ptCtrl_core, ↓State.plainWrite_core, ↓State.when_core, ↓State.flushNow_core, ↓State.clCtrl_core, ↓State.clThr_core, ↓State.forEach_core, ↓State.xoffUpdate_core, ↓State.wr_core, ↓State.spCtrl_core, State.core_mk, State.core_eta, ↓apply_ite State.core, ite_self, implies_true, eq_self]

theorem State.writeDie_core (s : State) (src : Src) (r : Reg) (l : Loc) (v : Nat) : (State.writeDie s src r l v).core = s.core := by
  unfold State.writeDie
  repeat' split
  all_goals simp only [↓State.goWrite_core, ↓State.domReq_core, ↓State.plainWrite_core, ↓State.when_core, ↓State.xbCommit_core, ↓State.larderMinClear_core, ↓State.grpOp_core, ↓State.bdOp_core, ↓State.caOp_core, ↓State.mrTblOp_core, ↓State.mrCopyOp_core, ↓State.ovOp_core, ↓State.updOv_core, ↓State.scCommit_core, ↓State.shpOp_core, ↓State.dmCtrl_core, ↓State.doorbell_core, ↓State.queueInvalidate_core, ↓State.cqHead_core, ↓State.pnWrite_core, ↓State.fenceOp_core, ↓State.wdogKick_core, ↓State.evtWrite_core, ↓State.cntWrite_core, ↓State.frostGo_core, ↓State.atticCtrl_core, ↓State.atticTail_core, ↓State.drCmd_core, ↓State.p1Ask_core, ↓State.invCmdWrite_core, ↓State.ckRst_core, ↓State.writeIo_core, State.core_mk, State.core_eta, ↓apply_ite State.core, ite_self, implies_true, eq_self]

theorem State.writeAt_core (s : State) (src : Src) (r : Reg) (l : Loc) (v : Nat) : (State.writeAt s src r l v).core = s.core := by
  unfold State.writeAt
  repeat' split
  all_goals simp only [↓State.holdLow_core, ↓State.commitPair_core, ↓State.writeDie_core, State.core_mk, State.core_eta, ↓apply_ite State.core, ite_self, implies_true, eq_self]

theorem State.writeReg_core (s : State) (src : Src) (a v : Nat) : (State.writeReg s src a v).core = s.core := by
  unfold State.writeReg
  repeat' split
  all_goals simp only [↓State.wakeD19_core, ↓State.pfWritten_core, ↓State.pageWrite_core, ↓State.busAdd_core, ↓State.writeAt_core, State.core_mk, State.core_eta, ↓apply_ite State.core, ite_self, implies_true, eq_self]

theorem State.outerWrite_core (s : State) (src : Src) (a v : Nat) : (State.outerWrite s src a v).core = s.core := by
  simp only [State.outerWrite, ↓State.deny_core, ↓State.writeReg_core, State.core_mk, State.core_eta, ↓apply_ite State.core, ite_self, implies_true, eq_self]

theorem State.outerDone_core (s : State) (src : Src) (a v : Nat) : (State.outerDone s src a v).core = s.core := by
  simp only [State.outerDone, ↓State.deny_core, ↓State.writeReg_core, ↓State.finish_core, State.core_mk, State.core_eta, ↓apply_ite State.core, ite_self, implies_true, eq_self]

theorem State.outerRead_core (s : State) (a : Nat) : (State.outerRead s a).2.core = s.core := by
  unfold State.outerRead
  repeat' split
  all_goals simp only [↓State.readReg_core, State.core_mk, State.core_eta, ↓apply_ite State.core, ite_self, implies_true, eq_self]

theorem State.outerRead_core' {s : State} {a : Nat} {xa xs}
    (hx : (State.outerRead s a) = (xa, xs)) : xs.core = s.core := by
  have := State.outerRead_core s a
  rw [hx] at this
  exact this

theorem State.pairRead_ok (s : State) (lo hi : Reg) (l : Loc) (hok : s.regsOk = true) : (State.pairRead s lo hi l).2.regsOk = true := by
  simp only [State.pairRead, State.regsOk_mk, State.regsOk_eta, apply_ite State.regsOk, ite_self, implies_true, eq_self, hok]

theorem State.pairRead_ok' {s : State} {lo hi : Reg} {l : Loc} {xa xs}
    (hx : State.pairRead s lo hi l = (xa, xs)) (hok : s.regsOk = true) : xs.regsOk = true := by
  have := State.pairRead_ok s lo hi l hok
  rw [hx] at this
  exact this

theorem State.readAt_ok (s : State) (r : Reg) (l : Loc) (hok : s.regsOk = true) : (State.readAt s r l).2.regsOk = true := by
  unfold State.readAt
  repeat' split
  all_goals simp only [State.cntCapture_ok, State.drCollect_ok, State.pairRead_ok, State.regsOk_mk, State.regsOk_eta, apply_ite State.regsOk, ite_self, implies_true, eq_self, hok]

theorem State.readAt_ok' {s : State} {r : Reg} {l : Loc} {xa xs}
    (hx : State.readAt s r l = (xa, xs)) (hok : s.regsOk = true) : xs.regsOk = true := by
  have := State.readAt_ok s r l hok
  rw [hx] at this
  exact this

theorem State.wakeD19_ok (s : State) (a : Nat) (hok : s.regsOk = true) : (State.wakeD19 s a).regsOk = true := by
  simp only [State.wakeD19, State.wake_ok, State.regsOk_mk, State.regsOk_eta, apply_ite State.regsOk, ite_self, implies_true, eq_self, hok]

theorem State.readReg_ok (s : State) (a : Nat) (hok : s.regsOk = true) : (State.readReg s a).2.regsOk = true := by
  unfold State.readReg
  repeat' split
  all_goals simp only [State.wakeD19_ok, State.pageRead_ok, State.readAt_ok, State.regsOk_mk, State.regsOk_eta, apply_ite State.regsOk, ite_self, implies_true, eq_self, hok]

theorem State.readReg_ok' {s : State} {a : Nat} {xa xs}
    (hx : State.readReg s a = (xa, xs)) (hok : s.regsOk = true) : xs.regsOk = true := by
  have := State.readReg_ok s a hok
  rw [hx] at this
  exact this

theorem State.invGo_ok (s : State) (op slot : Nat) (chan : Option Nat) (hok : s.regsOk = true) : (State.invGo s op slot chan).regsOk = true := by
  simp only [State.invGo, State.ev_ok, State.wr_ok, State.on_ok, State.regsOk_mk, State.regsOk_eta, apply_ite State.regsOk, ite_self, implies_true, eq_self, hok]

theorem State.lqCtrl_ok (s : State) (src : Src) (l : Loc) (v : Nat) (hok : s.regsOk = true) : (State.lqCtrl s src l v).regsOk = true := by
  simp only [State.lqCtrl, State.plainWrite_ok, State.updPort_ok, State.setQuadEn_ok, State.regsOk_mk, State.regsOk_eta, apply_ite State.regsOk, ite_self, implies_true, eq_self, hok]

theorem State.clCtrl_ok (s : State) (src : Src) (l : Loc) (v : Nat) (hok : s.regsOk = true) : (State.clCtrl s src l v).regsOk = true := by
  unfold State.clCtrl
  extract_lets
  repeat' (first | with_reducible assumption | with_reducible (apply State.plainWrite_ok) | with_reducible (apply State.setSiteEn_ok) | with_reducible (apply State.siteRetrain_ok) | with_reducible (apply State.retireSite_ok) | with_reducible (apply State.reviveSite_ok) | with_reducible (apply State.ite_ok) | split | (intro _ _ hok) | (intro _ hok) | (intro _ _ _ hok) | simp only [State.regsOk_mk, State.regsOk_eta])

theorem State.clThr_ok (s : State) (src : Src) (l : Loc) (v : Nat) (hok : s.regsOk = true) : (State.clThr s src l v).regsOk = true := by
  simp only [State.clThr, State.plainWrite_ok, State.ev_ok, State.regsOk_mk, State.regsOk_eta, apply_ite State.regsOk, ite_self, implies_true, eq_self, hok]

theorem State.ptCtrl_ok (s : State) (src : Src) (l : Loc) (v : Nat) (hok : s.regsOk = true) : (State.ptCtrl s src l v).regsOk = true := by
  simp only [State.ptCtrl, State.plainWrite_ok, State.setPortEn_ok, State.retrainPort_ok, State.regsOk_mk, State.regsOk_eta, apply_ite State.regsOk, ite_self, implies_true, eq_self, hok]

theorem State.spCtrl_ok (s : State) (src : Src) (l : Loc) (v : Nat) (hok : s.regsOk = true) : (State.spCtrl s src l v).regsOk = true := by
  unfold State.spCtrl
  extract_lets
  repeat' (first | with_reducible assumption | with_reducible (apply State.plainWrite_ok) | with_reducible (apply State.slotEn_ok) | with_reducible (apply State.perstHold_ok) | with_reducible (apply State.slotPower_ok) | with_reducible (apply State.slotUnlock_ok) | with_reducible (apply State.ite_ok) | split | (intro _ _ hok) | (intro _ hok) | (intro _ _ _ hok) | simp only [State.regsOk_mk, State.regsOk_eta])

theorem State.dmCtrl_ok (s : State) (l : Loc) (v : Nat) (hok : s.regsOk = true) : (State.dmCtrl s l v).regsOk = true := by
  unfold State.dmCtrl
  extract_lets
  repeat' (first | with_reducible assumption | with_reducible (apply State.queuePause_ok) | with_reducible (apply State.queueUnpause_ok) | with_reducible (apply State.queueEnable_ok) | with_reducible (apply State.queueDisable_ok) | with_reducible (apply State.queueResume_ok) | with_reducible (apply State.ite_ok) | split | (intro _ _ hok) | (intro _ hok) | (intro _ _ _ hok) | simp only [State.regsOk_mk, State.regsOk_eta])

theorem State.lqTx_ok (s : State) (src : Src) (l : Loc) (v : Nat) (hok : s.regsOk = true) : (State.lqTx s src l v).regsOk = true := by
  simp only [State.lqTx, State.plainWrite_ok, State.ignoredWrite_ok, State.regsOk_mk, State.regsOk_eta, apply_ite State.regsOk, ite_self, implies_true, eq_self, hok]

theorem State.lqLoop_ok (s : State) (src : Src) (l : Loc) (v : Nat) (hok : s.regsOk = true) : (State.lqLoop s src l v).regsOk = true := by
  simp only [State.lqLoop, State.plainWrite_ok, State.setLoopGo_ok, State.regsOk_mk, State.regsOk_eta, apply_ite State.regsOk, ite_self, implies_true, eq_self, hok]

theorem State.lqPattern_ok (s : State) (src : Src) (l : Loc) (v : Nat) (hok : s.regsOk = true) : (State.lqPattern s src l v).regsOk = true := by
  simp only [State.lqPattern, State.plainWrite_ok, State.setCheckEn_ok, State.regsOk_mk, State.regsOk_eta, apply_ite State.regsOk, ite_self, implies_true, eq_self, hok]

theorem State.goWrite_ok (s : State) (src : Src) (r : Reg) (l : Loc) (v : Nat) (f : State → State) (hf : ∀ s, State.regsOk s = true → (f s).regsOk = true) (hok : s.regsOk = true) : (State.goWrite s src r l v f).regsOk = true := by
  simp only [State.goWrite, State.plainWrite_ok, hf, State.regsOk_mk, State.regsOk_eta, apply_ite State.regsOk, ite_self, implies_true, eq_self, hok]

theorem State.ckRst_ok (s : State) (src : Src) (v : Nat) (hok : s.regsOk = true) : (State.ckRst s src v).regsOk = true := by
  unfold State.ckRst
  extract_lets
  repeat' (first | with_reducible assumption | with_reducible (apply State.writeFld_ok) | with_reducible (apply State.goWrite_ok) | with_reducible (apply State.rstCmd_ok) | with_reducible (apply State.ite_ok) | split | (intro _ _ hok) | (intro _ hok) | (intro _ _ _ hok) | simp only [State.regsOk_mk, State.regsOk_eta])

theorem State.invCmdWrite_ok (s : State) (src : Src) (v : Nat) (hok : s.regsOk = true) : (State.invCmdWrite s src v).regsOk = true := by
  unfold State.invCmdWrite
  repeat' (first | with_reducible assumption | with_reducible (apply State.goWrite_ok) | with_reducible (apply State.invGo_ok) | with_reducible (apply State.ite_ok) | split | (intro _ _ hok) | (intro _ hok) | (intro _ _ _ hok) | simp only [State.regsOk_mk, State.regsOk_eta])

theorem State.drCmd_ok (s : State) (src : Src) (l : Loc) (v : Nat) (hok : s.regsOk = true) : (State.drCmd s src l v).regsOk = true := by
  unfold State.drCmd
  repeat' (first | with_reducible assumption | with_reducible (apply State.goWrite_ok) | with_reducible (apply State.drStart_ok) | with_reducible (apply State.ite_ok) | split | (intro _ _ hok) | (intro _ hok) | (intro _ _ _ hok) | simp only [State.regsOk_mk, State.regsOk_eta])

theorem State.writeIo_ok (s : State) (src : Src) (r : Reg) (l : Loc) (v : Nat) (hok : s.regsOk = true) : (State.writeIo s src r l v).regsOk = true := by
  unfold State.writeIo
  extract_lets
  repeat' (first | with_reducible assumption | with_reducible (apply State.gated_ok) | with_reducible (apply State.lqCtrl_ok) | with_reducible (apply State.setBaroThr_ok) | with_reducible (apply State.clearBaroMin_ok) | with_reducible (apply State.lqLoop_ok) | with_reducible (apply State.lqTx_ok) | with_reducible (apply State.lqPattern_ok) | with_reducible (apply State.marginStart_ok) | with_reducible (apply State.setMarginCtrl_ok) | with_reducible (apply State.ptCtrl_ok) | with_reducible (apply State.plainWrite_ok) | with_reducible (apply State.when_ok) | with_reducible (apply State.flushNow_ok) | with_reducible (apply State.clCtrl_ok) | with_reducible (apply State.clThr_ok) | with_reducible (apply State.forEach_ok) | with_reducible (apply State.xoffUpdate_ok) | with_reducible (apply State.wr_ok) | with_reducible (apply State.spCtrl_ok) | with_reducible (apply State.ite_ok) | split | (intro _ _ hok) | (intro _ hok) | (intro _ _ _ hok) | simp only [State.regsOk_mk, State.regsOk_eta])

theorem State.writeDie_ok (s : State) (src : Src) (r : Reg) (l : Loc) (v : Nat) (hok : s.regsOk = true) : (State.writeDie s src r l v).regsOk = true := by
  unfold State.writeDie
  extract_lets
  repeat' (first | with_reducible assumption | with_reducible (apply State.goWrite_ok) | with_reducible (apply State.domReq_ok) | with_reducible (apply State.plainWrite_ok) | with_reducible (apply State.when_ok) | with_reducible (apply State.xbCommit_ok) | with_reducible (apply State.larderMinClear_ok) | with_reducible (apply State.grpOp_ok) | with_reducible (apply State.bdOp_ok) | with_reducible (apply State.caOp_ok) | with_reducible (apply State.mrTblOp_ok) | with_reducible (apply State.mrCopyOp_ok) | with_reducible (apply State.ovOp_ok) | with_reducible (apply State.updOv_ok) | with_reducible (apply State.scCommit_ok) | with_reducible (apply State.shpOp_ok) | with_reducible (apply State.dmCtrl_ok) | with_reducible (apply State.doorbell_ok) | with_reducible (apply State.queueInvalidate_ok) | with_reducible (apply State.cqHead_ok) | with_reducible (apply State.pnWrite_ok) | with_reducible (apply State.fenceOp_ok) | with_reducible (apply State.wdogKick_ok) | with_reducible (apply State.evtWrite_ok) | with_reducible (apply State.cntWrite_ok) | with_reducible (apply State.frostGo_ok) | with_reducible (apply State.atticCtrl_ok) | with_reducible (apply State.atticTail_ok) | with_reducible (apply State.drCmd_ok) | with_reducible (apply State.p1Ask_ok) | with_reducible (apply State.invCmdWrite_ok) | with_reducible (apply State.ckRst_ok) | with_reducible (apply State.writeIo_ok) | with_reducible (apply State.ite_ok) | split | (intro _ _ hok) | (intro _ hok) | (intro _ _ _ hok) | simp only [State.regsOk_mk, State.regsOk_eta])

theorem State.writeAt_ok (s : State) (src : Src) (r : Reg) (l : Loc) (v : Nat) (hok : s.regsOk = true) : (State.writeAt s src r l v).regsOk = true := by
  unfold State.writeAt
  repeat' split
  all_goals simp only [State.holdLow_ok, State.commitPair_ok, State.writeDie_ok, State.regsOk_mk, State.regsOk_eta, apply_ite State.regsOk, ite_self, implies_true, eq_self, hok]

theorem State.writeReg_ok (s : State) (src : Src) (a v : Nat) (hok : s.regsOk = true) : (State.writeReg s src a v).regsOk = true := by
  unfold State.writeReg
  extract_lets
  repeat' (first | with_reducible assumption | with_reducible (apply State.wakeD19_ok) | with_reducible (apply State.pfWritten_ok) | with_reducible (apply State.pageWrite_ok) | with_reducible (apply State.busAdd_ok) | with_reducible (apply State.writeAt_ok) | with_reducible (apply State.ite_ok) | split | (intro _ _ hok) | (intro _ hok) | (intro _ _ _ hok) | simp only [State.regsOk_mk, State.regsOk_eta])

theorem State.outerWrite_ok (s : State) (src : Src) (a v : Nat) (hok : s.regsOk = true) : (State.outerWrite s src a v).regsOk = true := by
  simp only [State.outerWrite, State.deny_ok, State.writeReg_ok, State.regsOk_mk, State.regsOk_eta, apply_ite State.regsOk, ite_self, implies_true, eq_self, hok]

theorem State.outerDone_ok (s : State) (src : Src) (a v : Nat) (hok : s.regsOk = true) : (State.outerDone s src a v).regsOk = true := by
  simp only [State.outerDone, State.deny_ok, State.writeReg_ok, State.finish_ok, State.regsOk_mk, State.regsOk_eta, apply_ite State.regsOk, ite_self, implies_true, eq_self, hok]

theorem State.outerRead_ok (s : State) (a : Nat) (hok : s.regsOk = true) : (State.outerRead s a).2.regsOk = true := by
  unfold State.outerRead
  repeat' split
  all_goals simp only [State.readReg_ok, State.regsOk_mk, State.regsOk_eta, apply_ite State.regsOk, ite_self, implies_true, eq_self, hok]

theorem State.outerRead_ok' {s : State} {a : Nat} {xa xs}
    (hx : State.outerRead s a = (xa, xs)) (hok : s.regsOk = true) : xs.regsOk = true := by
  have := State.outerRead_ok s a hok
  rw [hx] at this
  exact this

end Sys2Proof.Machine
end

