-- ==== Sys2Proof/Laws/Inventory.lean ====
section
/-! SUPPORT. What the operations of Machine/Inventory.lean leave alone: the part, the waiting commands, the blown life-cycle fuses, and the
canonical form of the register file. -/

namespace Sys2Proof.Machine
set_option linter.unusedSimpArgs false
set_option linter.unusedVariables false
set_option linter.unreachableTactic false
set_option linter.unusedTactic false
set_option linter.style.nameCheck false

theorem State.invResult_core (s : State) (res sec die quad : Nat) : (State.invResult s res sec die quad).core = s.core := by
  simp only [State.invResult, ↓State.wr_core, State.core_mk, State.core_eta, ↓apply_ite State.core, ite_self, implies_true, eq_self]

theorem State.updInv_core (s : State) (f : InvSt → InvSt) : (State.updInv s f).core = s.core := by
  simp only [State.updInv, State.core_mk, State.core_eta, ↓apply_ite State.core, ite_self, implies_true, eq_self]

theorem State.setBits_core (s : State) (a mask v : Nat) : (State.setBits s a mask v).core = s.core := by
  unfold State.setBits
  repeat' split
  all_goals simp only [↓State.forEach_core, ↓State.wr_core, State.core_mk, State.core_eta, ↓apply_ite State.core, ite_self, implies_true, eq_self]

theorem State.loadVal_core (s : State) (x : InvVal) : (s.loadVal x).core = s.core := by
  cases x <;> simp only [State.loadVal, ↓State.setBits_core, ↓State.updInv_core, ↓State.wr_core, ↓State.putGrp_core, ↓State.putMir_core, ↓State.pidOp_core, ↓State.mend_core, ↓State.updCa_core, ↓State.forEach_core, ↓State.wrB_core, State.core_mk, State.core_eta, ↓apply_ite State.core, ite_self, implies_true, eq_self]

theorem State.cutGroup_core (s : State) (d g : Nat) : (State.cutGroup s d g).core = s.core := by
  simp only [State.cutGroup, ↓State.forEach_core, ↓State.wr_core, State.core_mk, State.core_eta, ↓apply_ite State.core, ite_self, implies_true, eq_self]

theorem State.cutHyst_core (s : State) (d t : Nat) : (State.cutHyst s d t).core = s.core := by
  simp only [State.cutHyst, ↓State.wr_core, State.core_mk, State.core_eta, ↓apply_ite State.core, ite_self, implies_true, eq_self]

theorem State.cutLarder_core (s : State) (d : Nat) : (State.cutLarder s d).core = s.core := by
  simp only [State.cutLarder, ↓State.wr_core, ↓State.forEach_core, ↓State.cutHyst_core, State.core_mk, State.core_eta, ↓apply_ite State.core, ite_self, implies_true, eq_self]

theorem State.showFm_core (s : State) : (State.showFm s).core = s.core := by
  simp only [State.showFm, ↓State.forEach_core, ↓State.wrB_core, State.core_mk, State.core_eta, ↓apply_ite State.core, ite_self, implies_true, eq_self]

theorem State.loadRecord_core (s : State) (a mask v : Nat) : (State.loadRecord s a mask v).core = s.core := by
  unfold State.loadRecord
  repeat' (first | with_reducible rfl | simp only [↓State.evtWrite_core, ↓State.holdLow_core, ↓State.cntWrite_core, ↓State.atticCtrl_core, ↓State.dmCtrl_core, ↓State.setBits_core, ↓State.when_core, ↓State.setLoopGo_core, ↓State.ev_core, State.core_mk, State.core_eta, ↓apply_ite State.core, ite_self, implies_true, eq_self] | split)

theorem State.loadSections_core (s : State) (i : Image) : (State.loadSections s i).core = s.core := by
  unfold State.loadSections
  repeat' (first | with_reducible rfl | simp only [↓State.forEach_core, ↓State.loadVal_core, ↓State.cutGroup_core, ↓State.loadRecord_core, ↓State.cutLarder_core, ↓State.showFm_core, State.core_mk, State.core_eta, ↓apply_ite State.core, ite_self, implies_true, eq_self] | split | (refine (State.forEach_core _ _ _ (fun s a => ?_)).trans ?_))

theorem State.bootStage_core (s : State) (n : Nat) : (State.bootStage s n).core = s.core := by
  simp only [State.bootStage, ↓State.wr_core, State.core_mk, State.core_eta, ↓apply_ite State.core, ite_self, implies_true, eq_self]

theorem State.bootFail_core (s : State) (e : Nat) : (State.bootFail s e).core = s.core := by
  simp only [State.bootFail, ↓State.wr_core, State.core_mk, State.core_eta, ↓apply_ite State.core, ite_self, implies_true, eq_self]

theorem State.invFailed_core (s : State) : (State.invFailed s).core = s.core := by
  simp only [State.invFailed, ↓State.wr_core, ↓State.updInv_core, ↓State.bootFail_core, State.core_mk, State.core_eta, ↓apply_ite State.core, ite_self, implies_true, eq_self]

theorem State.loadChecked_core (s : State) (got : Option Image) : (State.loadChecked s got).core = s.core := by
  simp only [State.loadChecked, ↓State.updInv_core, ↓State.invResult_core, ↓State.on_core, ↓State.ev_core, ↓State.invFailed_core, State.core_mk, State.core_eta, ↓apply_ite State.core, ite_self, implies_true, eq_self]

theorem State.domsApplied_core (s : State) : (State.domsApplied s).core = s.core := by
  simp only [State.domsApplied, ↓State.forEach_core, ↓State.siteDown_core, ↓State.domErase_core, ↓State.setDom_core, State.core_mk, State.core_eta, ↓apply_ite State.core, ite_self, implies_true, eq_self]

theorem State.sitesApplied_core (s : State) : (State.sitesApplied s).core = s.core := by
  simp only [State.sitesApplied, ↓State.forEach_core, ↓State.siteDown_core, ↓State.siteRetrain_core, ↓State.siteStart_core, State.core_mk, State.core_eta, ↓apply_ite State.core, ite_self, implies_true, eq_self]

theorem State.sparesApplied_core (s : State) : (State.sparesApplied s).core = s.core := by
  simp only [State.sparesApplied, ↓State.forEach_core, ↓State.spareSite_core, State.core_mk, State.core_eta, ↓apply_ite State.core, ite_self, implies_true, eq_self]

theorem State.invInForce_core (s : State) (i : Image) (slot : Nat) : (State.invInForce s i slot).core = s.core := by
  simp only [State.invInForce, ↓State.updInv_core, ↓State.wr_core, ↓State.forEach_core, ↓State.extend_core, State.core_mk, State.core_eta, ↓apply_ite State.core, ite_self, implies_true, eq_self]

theorem State.goLive_core (s : State) (i : Image) : (State.goLive s i).core = s.core := by
  simp only [State.goLive, ↓State.forEach_core, ↓State.on_core, ↓State.wr_core, ↓State.invInForce_core, ↓State.domsApplied_core, ↓State.sitesApplied_core, ↓State.sparesApplied_core, ↓State.bootStage_core, ↓State.updInv_core, ↓State.slotEnable_core, ↓State.portEnable_core, State.core_mk, State.core_eta, ↓apply_ite State.core, ite_self, implies_true, eq_self]

theorem State.applySections_core (s : State) (i : Image) : (State.applySections s i).core = s.core := by
  simp only [State.applySections, ↓State.loadSections_core, ↓State.updInv_core, ↓State.record_core, ↓State.goLive_core, State.core_mk, State.core_eta, ↓apply_ite State.core, ite_self, implies_true, eq_self]

theorem State.invResult_ok (s : State) (res sec die quad : Nat) (hok : s.regsOk = true) : (State.invResult s res sec die quad).regsOk = true := by
  unfold State.invResult
  repeat' (first | with_reducible assumption | with_reducible (apply State.wr_ok) | with_reducible (apply State.ite_ok) | split | (intro _ _ hok) | (intro _ hok) | (intro _ _ _ hok) | simp only [State.regsOk_mk, State.regsOk_eta])

theorem State.updInv_ok (s : State) (f : InvSt → InvSt) (hok : s.regsOk = true) : (State.updInv s f).regsOk = true := by
  simp only [State.updInv, State.regsOk_mk, State.regsOk_eta, apply_ite State.regsOk, ite_self, implies_true, eq_self, hok]

theorem State.setBits_ok (s : State) (a mask v : Nat) (hok : s.regsOk = true) : (State.setBits s a mask v).regsOk = true := by
  unfold State.setBits
  repeat' (first | with_reducible assumption | with_reducible (apply State.forEach_ok) | with_reducible (apply State.wr_ok) | with_reducible (apply State.ite_ok) | split | (intro _ _ hok) | (intro _ hok) | (intro _ _ _ hok) | simp only [State.regsOk_mk, State.regsOk_eta])

theorem State.loadVal_ok (s : State) (x : InvVal) (hok : s.regsOk = true) : (s.loadVal x).regsOk = true := by
  cases x <;> unfold State.loadVal <;> dsimp only
  all_goals repeat' (first | with_reducible assumption | with_reducible (apply State.setBits_ok) | with_reducible (apply State.updInv_ok) | with_reducible (apply State.wr_ok) | with_reducible (apply State.putGrp_ok) | with_reducible (apply State.putMir_ok) | with_reducible (apply State.pidOp_ok) | with_reducible (apply State.mend_ok) | with_reducible (apply State.updCa_ok) | with_reducible (apply State.forEach_ok) | with_reducible (apply State.wrB_ok) | with_reducible (apply State.ite_ok) | split | (intro _ _ hok) | simp only [State.regsOk_mk, State.regsOk_eta])

theorem State.cutGroup_ok (s : State) (d g : Nat) (hok : s.regsOk = true) : (State.cutGroup s d g).regsOk = true := by
  unfold State.cutGroup
  extract_lets
  repeat' (first | with_reducible assumption | with_reducible (apply State.forEach_ok) | with_reducible (apply State.wr_ok) | with_reducible (apply State.ite_ok) | split | (intro _ _ hok) | (intro _ hok) | (intro _ _ _ hok) | simp only [State.regsOk_mk, State.regsOk_eta])

theorem State.cutHyst_ok (s : State) (d t : Nat) (hok : s.regsOk = true) : (State.cutHyst s d t).regsOk = true := by
  simp only [State.cutHyst, State.wr_ok, State.regsOk_mk, State.regsOk_eta, apply_ite State.regsOk, ite_self, implies_true, eq_self, hok]

theorem State.cutLarder_ok (s : State) (d : Nat) (hok : s.regsOk = true) : (State.cutLarder s d).regsOk = true := by
  unfold State.cutLarder
  extract_lets
  repeat' (first | with_reducible assumption | with_reducible (apply State.wr_ok) | with_reducible (apply State.forEach_ok) | with_reducible (apply State.cutHyst_ok) | with_reducible (apply State.ite_ok) | split | (intro _ _ hok) | (intro _ hok) | (intro _ _ _ hok) | simp only [State.regsOk_mk, State.regsOk_eta])

theorem State.showFm_ok (s : State) (hok : s.regsOk = true) : (State.showFm s).regsOk = true := by
  unfold State.showFm
  repeat' (first | with_reducible assumption | with_reducible (apply State.forEach_ok) | with_reducible (apply State.wrB_ok) | with_reducible (apply State.ite_ok) | split | (intro _ _ hok) | (intro _ hok) | (intro _ _ _ hok) | simp only [State.regsOk_mk, State.regsOk_eta])

theorem State.loadRecord_ok (s : State) (a mask v : Nat) (hok : s.regsOk = true) : (State.loadRecord s a mask v).regsOk = true := by
  unfold State.loadRecord
  repeat' (first | with_reducible assumption | with_reducible (apply State.evtWrite_ok) | with_reducible (apply State.holdLow_ok) | with_reducible (apply State.cntWrite_ok) | with_reducible (apply State.atticCtrl_ok) | with_reducible (apply State.dmCtrl_ok) | with_reducible (apply State.setBits_ok) | with_reducible (apply State.when_ok) | with_reducible (apply State.setLoopGo_ok) | with_reducible (apply State.ev_ok) | with_reducible (apply State.ite_ok) | split | (intro _ _ hok) | (intro _ hok) | (intro _ _ _ hok) | simp only [State.regsOk_mk, State.regsOk_eta])

theorem State.loadSections_ok (s : State) (i : Image) (hok : s.regsOk = true) : (State.loadSections s i).regsOk = true := by
  unfold State.loadSections
  extract_lets
  apply State.showFm_ok
  refine State.forEach_ok _ _ _ (fun s d hok => State.cutLarder_ok _ _ hok) ?_
  refine State.forEach_ok _ _ _ (fun s x hok => State.forEach_ok _ _ _ (fun s r hok => State.loadRecord_ok _ _ _ _ hok) hok) ?_
  refine State.forEach_ok _ _ _ (fun s d hok => State.forEach_ok _ _ _ (fun s g hok => State.cutGroup_ok _ _ _ hok) hok) ?_
  exact State.forEach_ok _ _ _ (fun s k hok => State.forEach_ok _ _ _ (fun s x hok => State.forEach_ok _ _ _
    (fun s v hok => State.loadVal_ok _ _ hok) hok) hok) hok

theorem State.bootStage_ok (s : State) (n : Nat) (hok : s.regsOk = true) : (State.bootStage s n).regsOk = true := by
  simp only [State.bootStage, State.wr_ok, State.regsOk_mk, State.regsOk_eta, apply_ite State.regsOk, ite_self, implies_true, eq_self, hok]

theorem State.bootFail_ok (s : State) (e : Nat) (hok : s.regsOk = true) : (State.bootFail s e).regsOk = true := by
  simp only [State.bootFail, State.wr_ok, State.regsOk_mk, State.regsOk_eta, apply_ite State.regsOk, ite_self, implies_true, eq_self, hok]

theorem State.invFailed_ok (s : State) (hok : s.regsOk = true) : (State.invFailed s).regsOk = true := by
  unfold State.invFailed
  repeat' (first | with_reducible assumption | with_reducible (apply State.wr_ok) | with_reducible (apply State.updInv_ok) | with_reducible (apply State.bootFail_ok) | with_reducible (apply State.ite_ok) | split | (intro _ _ hok) | (intro _ hok) | (intro _ _ _ hok) | simp only [State.regsOk_mk, State.regsOk_eta])

theorem State.loadChecked_ok (s : State) (got : Option Image) (hok : s.regsOk = true) : (State.loadChecked s got).regsOk = true := by
  unfold State.loadChecked
  extract_lets
  repeat' (first | with_reducible assumption | with_reducible (apply State.updInv_ok) | with_reducible (apply State.invResult_ok) | with_reducible (apply State.on_ok) | with_reducible (apply State.ev_ok) | with_reducible (apply State.invFailed_ok) | with_reducible (apply State.ite_ok) | split | (intro _ _ hok) | (intro _ hok) | (intro _ _ _ hok) | simp only [State.regsOk_mk, State.regsOk_eta])

theorem State.domsApplied_ok (s : State) (hok : s.regsOk = true) : (State.domsApplied s).regsOk = true := by
  unfold State.domsApplied
  repeat' (first | with_reducible assumption | with_reducible (apply State.forEach_ok) | with_reducible (apply State.siteDown_ok) | with_reducible (apply State.domErase_ok) | with_reducible (apply State.setDom_ok) | with_reducible (apply State.ite_ok) | split | (intro _ _ hok) | (intro _ hok) | (intro _ _ _ hok) | simp only [State.regsOk_mk, State.regsOk_eta])

theorem State.sitesApplied_ok (s : State) (hok : s.regsOk = true) : (State.sitesApplied s).regsOk = true := by
  unfold State.sitesApplied
  repeat' (first | with_reducible assumption | with_reducible (apply State.forEach_ok) | with_reducible (apply State.siteDown_ok) | with_reducible (apply State.siteRetrain_ok) | with_reducible (apply State.siteStart_ok) | with_reducible (apply State.ite_ok) | split | (intro _ _ hok) | (intro _ hok) | (intro _ _ _ hok) | simp only [State.regsOk_mk, State.regsOk_eta])

theorem State.sparesApplied_ok (s : State) (hok : s.regsOk = true) : (State.sparesApplied s).regsOk = true := by
  unfold State.sparesApplied
  repeat' (first | with_reducible assumption | with_reducible (apply State.forEach_ok) | with_reducible (apply State.spareSite_ok) | with_reducible (apply State.ite_ok) | split | (intro _ _ hok) | (intro _ hok) | (intro _ _ _ hok) | simp only [State.regsOk_mk, State.regsOk_eta])

theorem State.invInForce_ok (s : State) (i : Image) (slot : Nat) (hok : s.regsOk = true) : (State.invInForce s i slot).regsOk = true := by
  unfold State.invInForce
  extract_lets
  repeat' (first | with_reducible assumption | with_reducible (apply State.updInv_ok) | with_reducible (apply State.wr_ok) | with_reducible (apply State.forEach_ok) | with_reducible (apply State.extend_ok) | with_reducible (apply State.ite_ok) | split | (intro _ _ hok) | (intro _ hok) | (intro _ _ _ hok) | simp only [State.regsOk_mk, State.regsOk_eta])

theorem State.goLive_ok (s : State) (i : Image) (hok : s.regsOk = true) : (State.goLive s i).regsOk = true := by
  unfold State.goLive
  extract_lets
  repeat' (first | with_reducible assumption | with_reducible (apply State.forEach_ok) | with_reducible (apply State.on_ok) | with_reducible (apply State.wr_ok) | with_reducible (apply State.invInForce_ok) | with_reducible (apply State.domsApplied_ok) | with_reducible (apply State.sitesApplied_ok) | with_reducible (apply State.sparesApplied_ok) | with_reducible (apply State.bootStage_ok) | with_reducible (apply State.updInv_ok) | with_reducible (apply State.slotEnable_ok) | with_reducible (apply State.portEnable_ok) | with_reducible (apply State.ite_ok) | split | (intro _ _ hok) | (intro _ hok) | (intro _ _ _ hok) | simp only [State.regsOk_mk, State.regsOk_eta])

theorem State.applySections_ok (s : State) (i : Image) (hok : s.regsOk = true) : (State.applySections s i).regsOk = true := by
  unfold State.applySections
  extract_lets
  repeat' (first | with_reducible assumption | with_reducible (apply State.loadSections_ok) | with_reducible (apply State.updInv_ok) | with_reducible (apply State.record_ok) | with_reducible (apply State.goLive_ok) | with_reducible (apply State.ite_ok) | split | (intro _ _ hok) | (intro _ hok) | (intro _ _ _ hok) | simp only [State.regsOk_mk, State.regsOk_eta])

end Sys2Proof.Machine
end

