-- ==== Sys2Proof/Laws/Loader.lean ====
section
/-! SUPPORT. What the operations of Machine/Loader.lean leave alone: the part, the waiting commands, the blown life-cycle fuses, and the
canonical form of the register file. -/

namespace Sys2Proof.Machine
set_option linter.unusedSimpArgs false
set_option linter.unusedVariables false
set_option linter.unreachableTactic false
set_option linter.unusedTactic false
set_option linter.style.nameCheck false

theorem State.showChanges_core (s : State) (i : Image) : (State.showChanges s i).core = s.core := by
  simp only [State.showChanges, ↓State.wr_core, State.core_mk, State.core_eta, ↓apply_ite State.core, ite_self, implies_true, eq_self]

theorem State.applyReg_core (s : State) (a mask v : Nat) : (State.applyReg s a mask v).core = s.core := by
  unfold State.applyReg
  repeat' split
  all_goals simp only [↓State.writeAt_core, State.core_mk, State.core_eta, ↓apply_ite State.core, ite_self, implies_true, eq_self]

theorem State.applyVal_core (s : State) (v : InvVal) : (State.applyVal s v).core = s.core := by
  unfold State.applyVal
  repeat' split
  all_goals simp only [↓State.applyReg_core, ↓State.loadVal_core, State.core_mk, State.core_eta, ↓apply_ite State.core, ite_self, implies_true, eq_self]

theorem State.applyDiffs_core (s : State) (i : Image) : (State.applyDiffs s i).core = s.core := by
  unfold State.applyDiffs
  repeat' (first | with_reducible rfl | simp only [↓State.forEach_core, ↓State.applyVal_core, ↓State.cutGroup_core, ↓State.applyReg_core, State.core_mk, State.core_eta, ↓apply_ite State.core, ite_self, implies_true, eq_self] | split | (refine (State.forEach_core _ _ _ (fun s a => ?_)).trans ?_))

theorem State.applyImage_core (s : State) (slot : Nat) (i : Image) : (State.applyImage s slot i).2.core = s.core := by
  unfold State.applyImage
  repeat' split
  all_goals simp only [↓State.applyDiffs_core, ↓State.putRec_core, ↓State.invInForce_core, ↓State.off_core, State.core_mk, State.core_eta, ↓apply_ite State.core, ite_self, implies_true, eq_self]

theorem State.applyImage_core' {s : State} {slot : Nat} {i : Image} {xa xs}
    (hx : (State.applyImage s slot i) = (xa, xs)) : xs.core = s.core := by
  have := State.applyImage_core s slot i
  rw [hx] at this
  exact this

theorem State.invAnswer_core (s : State) (chan : Option Nat) (res : Nat) : (State.invAnswer s chan res).core = s.core := by
  unfold State.invAnswer
  repeat' split
  all_goals simp only [↓State.respond_core, ↓State.useFree_core, State.core_mk, State.core_eta, ↓apply_ite State.core, ite_self, implies_true, eq_self]

theorem State.invDone_core (s : State) (o : InvOp) (r : Nat × Nat × Nat × Nat) : (State.invDone s o r).core = s.core := by
  simp only [State.invDone, ↓State.invResult_core, ↓State.ev_core, ↓State.off_core, ↓State.invAnswer_core, State.core_mk, State.core_eta, ↓apply_ite State.core, ite_self, implies_true, eq_self]

theorem State.invRun_core (s : State) (op : Nat) (got : Option Image)
    (f : State → InvOp → Image → (Nat × Nat × Nat × Nat) × State) (hf : ∀ s o i, (f s o i).2.core = s.core) :
    (s.invRun op got f).core = s.core := by
  unfold State.invRun
  repeat' (first | with_reducible rfl | simp only [↓State.invDone_core, hf, State.core_mk, State.core_eta, ↓apply_ite State.core, ite_self, implies_true, eq_self] | split)

theorem State.showChanges_ok (s : State) (i : Image) (hok : s.regsOk = true) : (State.showChanges s i).regsOk = true := by
  simp only [State.showChanges, State.wr_ok, State.regsOk_mk, State.regsOk_eta, apply_ite State.regsOk, ite_self, implies_true, eq_self, hok]

theorem State.applyReg_ok (s : State) (a mask v : Nat) (hok : s.regsOk = true) : (State.applyReg s a mask v).regsOk = true := by
  unfold State.applyReg
  repeat' split
  all_goals simp only [State.writeAt_ok, State.regsOk_mk, State.regsOk_eta, apply_ite State.regsOk, ite_self, implies_true, eq_self, hok]

theorem State.applyVal_ok (s : State) (v : InvVal) (hok : s.regsOk = true) : (State.applyVal s v).regsOk = true := by
  unfold State.applyVal
  repeat' split
  all_goals simp only [State.applyReg_ok, State.loadVal_ok, State.regsOk_mk, State.regsOk_eta, apply_ite State.regsOk, ite_self, implies_true, eq_self, hok]

theorem State.applyDiffs_ok (s : State) (i : Image) (hok : s.regsOk = true) : (State.applyDiffs s i).regsOk = true := by
  unfold State.applyDiffs
  extract_lets
  repeat' (first | with_reducible assumption | with_reducible (apply State.forEach_ok) | with_reducible (apply State.applyVal_ok) | with_reducible (apply State.cutGroup_ok) | with_reducible (apply State.applyReg_ok) | with_reducible (apply State.ite_ok) | split | (intro _ _ hok) | (intro _ hok) | (intro _ _ _ hok) | simp only [State.regsOk_mk, State.regsOk_eta])

theorem State.applyImage_ok (s : State) (slot : Nat) (i : Image) (hok : s.regsOk = true) : (State.applyImage s slot i).2.regsOk = true := by
  unfold State.applyImage
  extract_lets
  repeat' (first | with_reducible assumption | with_reducible (apply State.applyDiffs_ok) | with_reducible (apply State.putRec_ok) | with_reducible (apply State.invInForce_ok) | with_reducible (apply State.off_ok) | with_reducible (apply State.ite_ok) | split | (intro _ _ hok) | (intro _ hok) | (intro _ _ _ hok) | simp only [State.regsOk_mk, State.regsOk_eta])

theorem State.applyImage_ok' {s : State} {slot : Nat} {i : Image} {xa xs}
    (hx : State.applyImage s slot i = (xa, xs)) (hok : s.regsOk = true) : xs.regsOk = true := by
  have := State.applyImage_ok s slot i hok
  rw [hx] at this
  exact this

theorem State.invAnswer_ok (s : State) (chan : Option Nat) (res : Nat) (hok : s.regsOk = true) : (State.invAnswer s chan res).regsOk = true := by
  unfold State.invAnswer
  repeat' split
  all_goals simp only [State.respond_ok, State.useFree_ok, State.regsOk_mk, State.regsOk_eta, apply_ite State.regsOk, ite_self, implies_true, eq_self, hok]

theorem State.invDone_ok (s : State) (o : InvOp) (r : Nat × Nat × Nat × Nat) (hok : s.regsOk = true) : (State.invDone s o r).regsOk = true := by
  unfold State.invDone
  repeat' (first | with_reducible assumption | with_reducible (apply State.invResult_ok) | with_reducible (apply State.ev_ok) | with_reducible (apply State.off_ok) | with_reducible (apply State.invAnswer_ok) | with_reducible (apply State.ite_ok) | split | (intro _ _ hok) | (intro _ hok) | (intro _ _ _ hok) | simp only [State.regsOk_mk, State.regsOk_eta])

theorem State.invRun_ok (s : State) (op : Nat) (got : Option Image)
    (f : State → InvOp → Image → (Nat × Nat × Nat × Nat) × State) (hf : ∀ s o i, State.regsOk s = true → (f s o i).2.regsOk = true)
    (hok : s.regsOk = true) : (s.invRun op got f).regsOk = true := by
  unfold State.invRun
  repeat' (first | assumption | simp only [State.invDone_ok, hf, State.regsOk_mk, State.regsOk_eta, apply_ite State.regsOk, ite_self, implies_true, eq_self, hok] | split)

end Sys2Proof.Machine
end

