-- ==== Sys2Proof/Laws/Startup.lean ====
section
/-! SUPPORT. What the operations of Machine/Startup.lean leave alone: the part, the waiting commands, the blown life-cycle fuses, and the
canonical form of the register file. -/

namespace Sys2Proof.Machine
set_option linter.unusedSimpArgs false
set_option linter.unusedVariables false
set_option linter.unreachableTactic false
set_option linter.unusedTactic false
set_option linter.style.nameCheck false

theorem State.fuseError_core (s : State) : (State.fuseError s).core = s.core := by
  simp only [State.fuseError, ↓State.on_core, ↓State.wr_core, ↓State.bootFail_core, State.core_mk, State.core_eta, ↓apply_ite State.core, ite_self, implies_true, eq_self]

theorem State.leaveReset_core (s : State) (fuseBad : Bool) : (State.leaveReset s fuseBad).core = s.core := by
  simp only [State.leaveReset, ↓State.wr_core, ↓State.off_core, ↓State.fuseError_core, State.core_mk, State.core_eta, ↓apply_ite State.core, ite_self, implies_true, eq_self]

theorem State.pllFailed_core (s : State) : (State.pllFailed s).core = s.core := by
  simp only [State.pllFailed, ↓State.srcMarks_core, ↓State.cleared_core, ↓State.wr_core, State.core_mk, State.core_eta, ↓apply_ite State.core, ite_self, implies_true, eq_self]

theorem State.chainFailed_core (s : State) (mask : Nat) : (State.chainFailed s mask).core = s.core := by
  simp only [State.chainFailed, ↓State.wr_core, ↓State.on_core, ↓State.ev_core, ↓State.bootFail_core, State.core_mk, State.core_eta, ↓apply_ite State.core, ite_self, implies_true, eq_self]

theorem State.chainGood_core (s : State) : (State.chainGood s).core = s.core := by
  simp only [State.chainGood, ↓State.wr_core, ↓State.on_core, ↓State.bootStage_core, ↓State.forEach_core, ↓State.siteStart_core, State.core_mk, State.core_eta, ↓apply_ite State.core, ite_self, implies_true, eq_self]

theorem State.bootRecord_core (s : State) : (State.bootRecord s).core = s.core := by
  simp only [State.bootRecord, ↓State.record_core, State.core_mk, State.core_eta, ↓apply_ite State.core, ite_self, implies_true, eq_self]

theorem State.lastFromFloors_core (s : State) : (State.lastFromFloors s).core = s.core := by
  simp only [State.lastFromFloors, ↓State.forEach_core, ↓State.setLast_core, State.core_mk, State.core_eta, ↓apply_ite State.core, ite_self, implies_true, eq_self]

theorem State.storeReport_core (s : State) : (State.storeReport s).core = s.core := by
  simp only [State.storeReport, ↓State.on_core, ↓State.ev_core, State.core_mk, State.core_eta, ↓apply_ite State.core, ite_self, implies_true, eq_self]

theorem State.storeResume_follows (s : State) : s.Follows s.storeResume := by
  unfold State.storeResume
  split
  · rename_i t _
    refine State.Follows.of_max (n := t) ?_
    rw [State.record_core, State.enterState_core]
  · exact State.Follows.of_core (State.bootRecord_core _)

theorem State.storeStart_follows (s : State) : s.Follows s.storeStart := by
  refine State.Follows.trans (.of_core ?_) (State.storeResume_follows _)
  simp only [↓State.storeReport_core, ↓State.lastFromFloors_core, ↓State.showStore_core, ↓State.selectRec_core]

theorem State.bootGo_core (s : State) : (State.bootGo s).core = s.core := by
  simp only [State.bootGo, ↓State.firstMeas_core, ↓State.wr_core, ↓State.bootStage_core, State.core_mk, State.core_eta, ↓apply_ite State.core, ite_self, implies_true, eq_self]

theorem State.fwAdvance_core (s : State) (d : Nat) : (State.fwAdvance s d).core = s.core := by
  simp only [State.fwAdvance, ↓State.updInv_core, ↓State.bootStage_core, ↓State.wr_core, State.core_mk, State.core_eta, ↓apply_ite State.core, ite_self, implies_true, eq_self]

theorem State.fwRelease_core (s : State) (d : Nat) : (State.fwRelease s d).core = s.core := by
  simp only [State.fwRelease, ↓State.releaseWarden_core, ↓State.fwAdvance_core, State.core_mk, State.core_eta, ↓apply_ite State.core, ite_self, implies_true, eq_self]

theorem State.fwTake_core (s : State) (d k : Nat) (i : Image) : (State.fwTake s d k i).core = s.core := by
  simp only [State.fwTake, ↓State.extend_core, ↓State.updInv_core, ↓State.record_core, ↓State.release_core, ↓State.fwRelease_core, State.core_mk, State.core_eta, ↓apply_ite State.core, ite_self, implies_true, eq_self]

theorem State.fwFailed_core (s : State) (d : Nat) : (State.fwFailed s d).core = s.core := by
  simp only [State.fwFailed, ↓State.holdWarden_core, ↓State.ev_core, ↓State.wr_core, ↓State.fwAdvance_core, State.core_mk, State.core_eta, ↓apply_ite State.core, ite_self, implies_true, eq_self]

theorem State.counterGo_core (s : State) (c v : Nat) : (State.counterGo s c v).core = s.core := by
  unfold State.counterGo
  repeat' split
  all_goals simp only [↓State.updChan_core, ↓State.setLast_core, State.core_mk, State.core_eta, ↓apply_ite State.core, ite_self, implies_true, eq_self]

theorem State.storeNext_follows (s : State) (n : StoreNext) : s.Follows (s.storeNext n) := by
  cases n with
  | nothing => exact .rfl _
  | boot => exact .of_core (State.bootGo_core _)
  | counter c v => exact .of_core (State.counterGo_core _ _ _)
  | counted c v => exact .of_core (State.setLast_core _ _ _)
  | xmss => exact .of_core (State.signGo_core _)
  | reply c => exact .of_core (State.respond_core _ _ _ _ _)
  | enter t c => exact .of_max (State.transitionGo_core _ _ _)
  | ended t c => exact .of_core (State.transitionEnd_core _ _ _)
  | resumed => exact .of_core (State.bootRecord_core _)
  | applied =>
    unfold State.storeNext
    dsimp only
    split
    · exact .of_core (State.goLive_core _ _)
    · exact .rfl _
  | release d => exact .of_core (State.fwRelease_core _ _)

theorem State.recordDone_follows (s : State) : s.Follows s.recordDone := by
  unfold State.recordDone
  split
  · exact .rfl _
  · refine State.Follows.trans (.of_core ?_) (State.storeNext_follows _ _)
    rw [State.putRec_core]
    exact State.updStrong_core _ _ fun _ => rfl

theorem State.domLoad_core (s : State) (d k : Nat) : (State.domLoad s d k).core = s.core := by
  unfold State.domLoad
  repeat' split
  all_goals simp only [↓State.forEach_core, ↓State.loadVal_core, ↓State.cutGroup_core, ↓State.loadRecord_core, ↓State.cutHyst_core, ↓State.on_core, State.core_mk, State.core_eta, ↓apply_ite State.core, ite_self, implies_true, eq_self]

theorem State.domStart_core (s : State) (d k : Nat) : (State.domStart s d k).core = s.core := by
  simp only [State.domStart, ↓State.forEach_core, ↓State.portEnable_core, ↓State.siteStart_core, ↓State.halfRate_core, State.core_mk, State.core_eta, ↓apply_ite State.core, ite_self, implies_true, eq_self]

theorem State.domPowered_core (s : State) (d k : Nat) : (State.domPowered s d k).core = s.core := by
  simp only [State.domPowered, ↓State.domErase_core, ↓State.setDom_core, ↓State.domLoad_core, ↓State.domStart_core, ↓State.on_core, ↓State.domAsk_core, State.core_mk, State.core_eta, ↓apply_ite State.core, ite_self, implies_true, eq_self]

theorem State.p1Powered_core (s : State) : (State.p1Powered s).core = s.core := by
  simp only [State.p1Powered, ↓State.setDom_core, ↓State.on_core, ↓State.p1Ask_core, State.core_mk, State.core_eta, ↓apply_ite State.core, ite_self, implies_true, eq_self]

theorem State.fuseError_ok (s : State) (hok : s.regsOk = true) : (State.fuseError s).regsOk = true := by
  unfold State.fuseError
  repeat' (first | with_reducible assumption | with_reducible (apply State.on_ok) | with_reducible (apply State.wr_ok) | with_reducible (apply State.bootFail_ok) | with_reducible (apply State.ite_ok) | split | (intro _ _ hok) | (intro _ hok) | (intro _ _ _ hok) | simp only [State.regsOk_mk, State.regsOk_eta])

theorem State.leaveReset_ok (s : State) (fuseBad : Bool) (hok : s.regsOk = true) : (State.leaveReset s fuseBad).regsOk = true := by
  unfold State.leaveReset
  repeat' (first | with_reducible assumption | with_reducible (apply State.wr_ok) | with_reducible (apply State.off_ok) | with_reducible (apply State.fuseError_ok) | with_reducible (apply State.ite_ok) | split | (intro _ _ hok) | (intro _ hok) | (intro _ _ _ hok) | simp only [State.regsOk_mk, State.regsOk_eta])

theorem State.pllFailed_ok (s : State) (hok : s.regsOk = true) : (State.pllFailed s).regsOk = true := by
  unfold State.pllFailed
  extract_lets
  repeat' (first | with_reducible assumption | with_reducible (apply State.srcMarks_ok) | with_reducible (apply State.cleared_ok) | with_reducible (apply State.wr_ok) | with_reducible (apply State.ite_ok) | split | (intro _ _ hok) | (intro _ hok) | (intro _ _ _ hok) | simp only [State.regsOk_mk, State.regsOk_eta])

theorem State.chainFailed_ok (s : State) (mask : Nat) (hok : s.regsOk = true) : (State.chainFailed s mask).regsOk = true := by
  unfold State.chainFailed
  extract_lets
  repeat' (first | with_reducible assumption | with_reducible (apply State.wr_ok) | with_reducible (apply State.on_ok) | with_reducible (apply State.ev_ok) | with_reducible (apply State.bootFail_ok) | with_reducible (apply State.ite_ok) | split | (intro _ _ hok) | (intro _ hok) | (intro _ _ _ hok) | simp only [State.regsOk_mk, State.regsOk_eta])

theorem State.chainGood_ok (s : State) (hok : s.regsOk = true) : (State.chainGood s).regsOk = true := by
  unfold State.chainGood
  extract_lets
  repeat' (first | with_reducible assumption | with_reducible (apply State.wr_ok) | with_reducible (apply State.on_ok) | with_reducible (apply State.bootStage_ok) | with_reducible (apply State.forEach_ok) | with_reducible (apply State.siteStart_ok) | with_reducible (apply State.ite_ok) | split | (intro _ _ hok) | (intro _ hok) | (intro _ _ _ hok) | simp only [State.regsOk_mk, State.regsOk_eta])

theorem State.bootRecord_ok (s : State) (hok : s.regsOk = true) : (State.bootRecord s).regsOk = true := by
  simp only [State.bootRecord, State.record_ok, State.regsOk_mk, State.regsOk_eta, apply_ite State.regsOk, ite_self, implies_true, eq_self, hok]

theorem State.lastFromFloors_ok (s : State) (hok : s.regsOk = true) : (State.lastFromFloors s).regsOk = true := by
  unfold State.lastFromFloors
  repeat' (first | with_reducible assumption | with_reducible (apply State.forEach_ok) | with_reducible (apply State.setLast_ok) | with_reducible (apply State.ite_ok) | split | (intro _ _ hok) | (intro _ hok) | (intro _ _ _ hok) | simp only [State.regsOk_mk, State.regsOk_eta])

theorem State.storeReport_ok (s : State) (hok : s.regsOk = true) : (State.storeReport s).regsOk = true := by
  unfold State.storeReport
  extract_lets
  repeat' (first | with_reducible assumption | with_reducible (apply State.on_ok) | with_reducible (apply State.ev_ok) | with_reducible (apply State.ite_ok) | split | (intro _ _ hok) | (intro _ hok) | (intro _ _ _ hok) | simp only [State.regsOk_mk, State.regsOk_eta])

theorem State.storeResume_ok (s : State) (hok : s.regsOk = true) : (State.storeResume s).regsOk = true := by
  unfold State.storeResume
  repeat' (first | with_reducible assumption | with_reducible (apply State.enterState_ok) | with_reducible (apply State.record_ok) | with_reducible (apply State.bootRecord_ok) | with_reducible (apply State.ite_ok) | split | (intro _ _ hok) | (intro _ hok) | (intro _ _ _ hok) | simp only [State.regsOk_mk, State.regsOk_eta])

theorem State.storeStart_ok (s : State) (hok : s.regsOk = true) : s.storeStart.regsOk = true :=
  State.storeResume_ok _ (State.storeReport_ok _ (State.lastFromFloors_ok _ (State.showStore_ok _ (State.selectRec_ok _ hok))))

theorem State.bootGo_ok (s : State) (hok : s.regsOk = true) : (State.bootGo s).regsOk = true := by
  unfold State.bootGo
  extract_lets
  repeat' (first | with_reducible assumption | with_reducible (apply State.firstMeas_ok) | with_reducible (apply State.wr_ok) | with_reducible (apply State.bootStage_ok) | with_reducible (apply State.ite_ok) | split | (intro _ _ hok) | (intro _ hok) | (intro _ _ _ hok) | simp only [State.regsOk_mk, State.regsOk_eta])

theorem State.fwAdvance_ok (s : State) (d : Nat) (hok : s.regsOk = true) : (State.fwAdvance s d).regsOk = true := by
  unfold State.fwAdvance
  extract_lets
  repeat' (first | with_reducible assumption | with_reducible (apply State.updInv_ok) | with_reducible (apply State.bootStage_ok) | with_reducible (apply State.wr_ok) | with_reducible (apply State.ite_ok) | split | (intro _ _ hok) | (intro _ hok) | (intro _ _ _ hok) | simp only [State.regsOk_mk, State.regsOk_eta])

theorem State.fwRelease_ok (s : State) (d : Nat) (hok : s.regsOk = true) : (State.fwRelease s d).regsOk = true := by
  simp only [State.fwRelease, State.releaseWarden_ok, State.fwAdvance_ok, State.regsOk_mk, State.regsOk_eta, apply_ite State.regsOk, ite_self, implies_true, eq_self, hok]

theorem State.fwTake_ok (s : State) (d k : Nat) (i : Image) (hok : s.regsOk = true) : (State.fwTake s d k i).regsOk = true := by
  unfold State.fwTake
  extract_lets
  repeat' (first | with_reducible assumption | with_reducible (apply State.extend_ok) | with_reducible (apply State.updInv_ok) | with_reducible (apply State.record_ok) | with_reducible (apply State.release_ok) | with_reducible (apply State.fwRelease_ok) | with_reducible (apply State.ite_ok) | split | (intro _ _ hok) | (intro _ hok) | (intro _ _ _ hok) | simp only [State.regsOk_mk, State.regsOk_eta])

theorem State.fwFailed_ok (s : State) (d : Nat) (hok : s.regsOk = true) : (State.fwFailed s d).regsOk = true := by
  unfold State.fwFailed
  extract_lets
  repeat' (first | with_reducible assumption | with_reducible (apply State.holdWarden_ok) | with_reducible (apply State.ev_ok) | with_reducible (apply State.wr_ok) | with_reducible (apply State.fwAdvance_ok) | with_reducible (apply State.ite_ok) | split | (intro _ _ hok) | (intro _ hok) | (intro _ _ _ hok) | simp only [State.regsOk_mk, State.regsOk_eta])

theorem State.counterGo_ok (s : State) (c v : Nat) (hok : s.regsOk = true) : (State.counterGo s c v).regsOk = true := by
  unfold State.counterGo
  repeat' split
  all_goals simp only [State.updChan_ok, State.setLast_ok, State.regsOk_mk, State.regsOk_eta, apply_ite State.regsOk, ite_self, implies_true, eq_self, hok]

theorem State.storeNext_ok (s : State) (n : StoreNext) (hok : s.regsOk = true) : (s.storeNext n).regsOk = true := by
  cases n with
  | nothing => exact hok
  | boot => exact State.bootGo_ok _ hok
  | counter c v => exact State.counterGo_ok _ _ _ hok
  | counted c v => exact State.setLast_ok _ _ _ hok
  | xmss => exact State.signGo_ok _ hok
  | reply c => exact State.respond_ok _ _ _ _ _ hok
  | enter t c => exact State.transitionGo_ok _ _ _ hok
  | ended t c => exact State.transitionEnd_ok _ _ _ hok
  | resumed => exact State.bootRecord_ok _ hok
  | applied =>
    unfold State.storeNext
    dsimp only
    split
    · exact State.goLive_ok _ _ hok
    · exact hok
  | release d => exact State.fwRelease_ok _ _ hok

theorem State.recordDone_ok (s : State) (hok : s.regsOk = true) : s.recordDone.regsOk = true := by
  unfold State.recordDone
  split
  · exact hok
  · exact State.storeNext_ok _ _ (State.putRec_ok _ _ (State.updStrong_ok _ _ hok))

theorem State.domLoad_ok (s : State) (d k : Nat) (hok : s.regsOk = true) : (State.domLoad s d k).regsOk = true := by
  unfold State.domLoad
  extract_lets
  repeat' (first | with_reducible assumption | with_reducible (apply State.forEach_ok) | with_reducible (apply State.loadVal_ok) | with_reducible (apply State.cutGroup_ok) | with_reducible (apply State.loadRecord_ok) | with_reducible (apply State.cutHyst_ok) | with_reducible (apply State.on_ok) | with_reducible (apply State.ite_ok) | split | (intro _ _ hok) | (intro _ hok) | (intro _ _ _ hok) | simp only [State.regsOk_mk, State.regsOk_eta])

theorem State.domStart_ok (s : State) (d k : Nat) (hok : s.regsOk = true) : (State.domStart s d k).regsOk = true := by
  unfold State.domStart
  repeat' (first | with_reducible assumption | with_reducible (apply State.forEach_ok) | with_reducible (apply State.portEnable_ok) | with_reducible (apply State.siteStart_ok) | with_reducible (apply State.halfRate_ok) | with_reducible (apply State.ite_ok) | split | (intro _ _ hok) | (intro _ hok) | (intro _ _ _ hok) | simp only [State.regsOk_mk, State.regsOk_eta])

theorem State.domPowered_ok (s : State) (d k : Nat) (hok : s.regsOk = true) : (State.domPowered s d k).regsOk = true := by
  unfold State.domPowered
  extract_lets
  repeat' (first | with_reducible assumption | with_reducible (apply State.domErase_ok) | with_reducible (apply State.setDom_ok) | with_reducible (apply State.domLoad_ok) | with_reducible (apply State.domStart_ok) | with_reducible (apply State.on_ok) | with_reducible (apply State.domAsk_ok) | with_reducible (apply State.ite_ok) | split | (intro _ _ hok) | (intro _ hok) | (intro _ _ _ hok) | simp only [State.regsOk_mk, State.regsOk_eta])

theorem State.p1Powered_ok (s : State) (hok : s.regsOk = true) : (State.p1Powered s).regsOk = true := by
  simp only [State.p1Powered, State.setDom_ok, State.on_ok, State.p1Ask_ok, State.regsOk_mk, State.regsOk_eta, apply_ite State.regsOk, ite_self, implies_true, eq_self, hok]

end Sys2Proof.Machine
end

