-- ==== Sys2Proof/Laws/Hatch.lean ====
section
/-! SUPPORT. What the operations of Machine/Hatch.lean leave alone: the part, the waiting commands, the blown life-cycle fuses, and the
canonical form of the register file. -/

namespace Sys2Proof.Machine
set_option linter.unusedSimpArgs false
set_option linter.unusedVariables false
set_option linter.unreachableTactic false
set_option linter.unusedTactic false
set_option linter.style.nameCheck false

theorem State.partialWrite_core (s : State) (d : Nat) : (State.partialWrite s d).core = s.core := by
  simp only [State.partialWrite, ↓State.inc_core, ↓State.ev_core, State.core_mk, State.core_eta, ↓apply_ite State.core, ite_self, implies_true, eq_self]

theorem State.headWaits_core (s : State) (d : Nat) : (State.headWaits s d).core = s.core := by
  simp only [State.headWaits, ↓State.updHatch_core, State.core_mk, State.core_eta, ↓apply_ite State.core, ite_self, implies_true, eq_self]

theorem State.inWrite_core (s : State) (d fm a be v : Nat) : (State.inWrite s d fm a be v).core = s.core := by
  unfold State.inWrite
  repeat' split
  all_goals simp only [↓State.inboundWord_core, ↓State.outerWrite_core, ↓State.partialWrite_core, ↓State.deny_core, ↓State.pfWritten_core, ↓State.headWaits_core, ↓State.busAdd_core, State.core_mk, State.core_eta, ↓apply_ite State.core, ite_self, implies_true, eq_self]

theorem State.readRun_core (n : Nat) (s : State) (a : Nat) : (State.readRun n s a).2.core = s.core := by
  induction n generalizing s a with
  | zero => rfl
  | succ n ih => exact (ih _ _).trans (State.outerRead_core _ _)

theorem State.inRead_core (s : State) (d fm a : Nat) : (State.inRead s d fm a).core = s.core := by
  unfold State.inRead
  repeat' (first | with_reducible rfl | simp only [↓State.pfTake_core, ↓State.inboundWord_core, ↓State.headWaits_core, ↓State.busAdd_core, ↓State.readRun_core, State.core_mk, State.core_eta, ↓apply_ite State.core, ite_self, implies_true, eq_self] | split | (refine (State.pfTake_core' (by assumption)).trans ?_))

theorem State.serveN_core (n : Nat) (s : State) (d : Nat) : (State.serveN n s d).core = s.core := by
  induction n generalizing s with
  | zero => rfl
  | succ n ih =>
    unfold State.serveN
    repeat' (first | with_reducible rfl | simp only [ih, ↓State.inWrite_core, ↓State.inRead_core, ↓State.updHatch_core, ↓apply_ite State.core, ite_self] | split)

theorem State.serve_core (s : State) (d : Nat) : (State.serve s d).core = s.core := by
  unfold State.serve
  repeat' split
  all_goals simp only [↓State.serveN_core, State.core_mk, State.core_eta, ↓apply_ite State.core, ite_self, implies_true, eq_self]

theorem State.backOff_core (s : State) (d k : Nat) : (State.backOff s d k).core = s.core := by
  simp only [State.backOff, ↓State.inc_core, ↓State.updHatch_core, State.core_mk, State.core_eta, ↓apply_ite State.core, ite_self, implies_true, eq_self]

theorem State.inbound_core (s : State) (ingress fm tag addr : Nat) (words : List HWord) (conflict : Option Nat) : (State.inbound s ingress fm tag addr words conflict).core = s.core := by
  unfold State.inbound
  repeat' split
  all_goals simp only [↓State.updHatch_core, ↓State.backOff_core, ↓State.serve_core, State.core_mk, State.core_eta, ↓apply_ite State.core, ite_self, implies_true, eq_self]

theorem State.hatchReply_core (s : State) (d : Nat) (e : HEnt) : (State.hatchReply s d e).core = s.core := by
  unfold State.hatchReply
  repeat' split
  all_goals simp only [↓State.off_core, ↓State.replicate_core, ↓State.push_core, State.core_mk, State.core_eta, ↓apply_ite State.core, ite_self, implies_true, eq_self]

theorem State.accessDone_core (s : State) (d : Nat) : (State.accessDone s d).core = s.core := by
  unfold State.accessDone
  repeat' split
  all_goals simp only [↓State.inbound_core, ↓State.updHatch_core, ↓State.hatchReply_core, ↓State.emit_core, ↓State.serve_core, State.core_mk, State.core_eta, ↓apply_ite State.core, ite_self, implies_true, eq_self]

theorem State.drData_core (s : State) (d k : Nat) (words : List Nat) : (State.drData s d k words).core = s.core := by
  unfold State.drData
  repeat' split
  all_goals simp only [↓State.readRun_core, ↓State.drDone_core, ↓State.serve_core, State.core_mk, State.core_eta, ↓apply_ite State.core, ite_self, implies_true, eq_self]

theorem State.busError_core (s : State) (d g : Nat) : (State.busError s d g).core = s.core := by
  simp only [State.busError, ↓State.xFail_core, ↓State.updHatch_core, ↓State.emit_core, State.core_mk, State.core_eta, ↓apply_ite State.core, ite_self, implies_true, eq_self]

theorem State.busEnd_core (s : State) (d g : Nat) (how : XEnd) : (State.busEnd s d g how).core = s.core := by
  unfold State.busEnd
  repeat' split
  all_goals simp only [↓State.xDone_core, ↓State.xFail_core, ↓State.busError_core, ↓State.busNext_core, ↓State.serve_core, State.core_mk, State.core_eta, ↓apply_ite State.core, ite_self, implies_true, eq_self]

theorem State.busFree_core (s : State) (d g : Nat) : (State.busFree s d g).core = s.core := by
  simp only [State.busFree, ↓State.updHatch_core, ↓State.off_core, ↓State.ev_core, ↓State.busNext_core, State.core_mk, State.core_eta, ↓apply_ite State.core, ite_self, implies_true, eq_self]

theorem State.busStuck_core (s : State) (d g : Nat) : (State.busStuck s d g).core = s.core := by
  simp only [State.busStuck, ↓State.on_core, ↓State.ev_core, ↓State.busNext_core, ↓State.emit_core, State.core_mk, State.core_eta, ↓apply_ite State.core, ite_self, implies_true, eq_self]

theorem State.partialWrite_ok (s : State) (d : Nat) (hok : s.regsOk = true) : (State.partialWrite s d).regsOk = true := by
  simp only [State.partialWrite, State.inc_ok, State.ev_ok, State.regsOk_mk, State.regsOk_eta, apply_ite State.regsOk, ite_self, implies_true, eq_self, hok]

theorem State.headWaits_ok (s : State) (d : Nat) (hok : s.regsOk = true) : (State.headWaits s d).regsOk = true := by
  simp only [State.headWaits, State.updHatch_ok, State.regsOk_mk, State.regsOk_eta, apply_ite State.regsOk, ite_self, implies_true, eq_self, hok]

theorem State.inWrite_ok (s : State) (d fm a be v : Nat) (hok : s.regsOk = true) : (State.inWrite s d fm a be v).regsOk = true := by
  unfold State.inWrite
  extract_lets
  repeat' (first | with_reducible assumption | with_reducible (apply State.inboundWord_ok) | with_reducible (apply State.outerWrite_ok) | with_reducible (apply State.partialWrite_ok) | with_reducible (apply State.deny_ok) | with_reducible (apply State.pfWritten_ok) | with_reducible (apply State.headWaits_ok) | with_reducible (apply State.busAdd_ok) | with_reducible (apply State.ite_ok) | split | (intro _ _ hok) | (intro _ hok) | (intro _ _ _ hok) | simp only [State.regsOk_mk, State.regsOk_eta])

theorem State.readRun_ok (n : Nat) (s : State) (a : Nat) (hok : s.regsOk = true) : (State.readRun n s a).2.regsOk = true := by
  induction n generalizing s a with
  | zero => exact hok
  | succ n ih => exact ih _ _ (State.outerRead_ok _ _ hok)

theorem State.inRead_ok (s : State) (d fm a : Nat) (hok : s.regsOk = true) : (State.inRead s d fm a).regsOk = true := by
  unfold State.inRead
  repeat' (first | with_reducible assumption | with_reducible (apply State.pfTake_ok) | with_reducible (apply State.inboundWord_ok) | with_reducible (apply State.headWaits_ok) | with_reducible (apply State.busAdd_ok) | with_reducible (apply State.readRun_ok) | with_reducible (exact State.pfTake_ok' (by assumption) (by assumption)) | (refine State.pfTake_ok' (by assumption) ?_) | with_reducible (apply State.ite_ok) | split | (intro _ _ hok) | (intro _ hok) | (intro _ _ _ hok) | simp only [State.regsOk_mk, State.regsOk_eta])

theorem State.serveN_ok (n : Nat) (s : State) (d : Nat) (hok : s.regsOk = true) : (State.serveN n s d).regsOk = true := by
  induction n generalizing s with
  | zero => exact hok
  | succ n ih =>
    unfold State.serveN
    repeat' (first | with_reducible assumption | with_reducible (apply ih) | with_reducible (apply State.inWrite_ok) | with_reducible (apply State.inRead_ok) | with_reducible (apply State.updHatch_ok) | with_reducible (apply State.ite_ok) | split)

theorem State.serve_ok (s : State) (d : Nat) (hok : s.regsOk = true) : (State.serve s d).regsOk = true := by
  unfold State.serve
  repeat' split
  all_goals simp only [State.serveN_ok, State.regsOk_mk, State.regsOk_eta, apply_ite State.regsOk, ite_self, implies_true, eq_self, hok]

theorem State.backOff_ok (s : State) (d k : Nat) (hok : s.regsOk = true) : (State.backOff s d k).regsOk = true := by
  simp only [State.backOff, State.inc_ok, State.updHatch_ok, State.regsOk_mk, State.regsOk_eta, apply_ite State.regsOk, ite_self, implies_true, eq_self, hok]

theorem State.inbound_ok (s : State) (ingress fm tag addr : Nat) (words : List HWord) (conflict : Option Nat) (hok : s.regsOk = true) : (State.inbound s ingress fm tag addr words conflict).regsOk = true := by
  unfold State.inbound
  repeat' (first | with_reducible assumption | with_reducible (apply State.updHatch_ok) | with_reducible (apply State.backOff_ok) | with_reducible (apply State.serve_ok) | with_reducible (apply State.ite_ok) | split | (intro _ _ hok) | (intro _ hok) | (intro _ _ _ hok) | simp only [State.regsOk_mk, State.regsOk_eta])

theorem State.hatchReply_ok (s : State) (d : Nat) (e : HEnt) (hok : s.regsOk = true) : (State.hatchReply s d e).regsOk = true := by
  unfold State.hatchReply
  repeat' split
  all_goals simp only [State.off_ok, State.replicate_ok, State.push_ok, State.regsOk_mk, State.regsOk_eta, apply_ite State.regsOk, ite_self, implies_true, eq_self, hok]

theorem State.accessDone_ok (s : State) (d : Nat) (hok : s.regsOk = true) : (State.accessDone s d).regsOk = true := by
  unfold State.accessDone
  repeat' (first | with_reducible assumption | with_reducible (apply State.inbound_ok) | with_reducible (apply State.updHatch_ok) | with_reducible (apply State.hatchReply_ok) | with_reducible (apply State.emit_ok) | with_reducible (apply State.serve_ok) | with_reducible (apply State.ite_ok) | split | (intro _ _ hok) | (intro _ hok) | (intro _ _ _ hok) | simp only [State.regsOk_mk, State.regsOk_eta])

theorem State.drData_ok (s : State) (d k : Nat) (words : List Nat) (hok : s.regsOk = true) : (State.drData s d k words).regsOk = true := by
  unfold State.drData
  extract_lets
  repeat' (first | with_reducible assumption | with_reducible (apply State.readRun_ok) | with_reducible (apply State.drDone_ok) | with_reducible (apply State.serve_ok) | with_reducible (apply State.ite_ok) | split | (intro _ _ hok) | (intro _ hok) | (intro _ _ _ hok) | simp only [State.regsOk_mk, State.regsOk_eta])

theorem State.busError_ok (s : State) (d g : Nat) (hok : s.regsOk = true) : (State.busError s d g).regsOk = true := by
  unfold State.busError
  extract_lets
  repeat' (first | with_reducible assumption | with_reducible (apply State.xFail_ok) | with_reducible (apply State.updHatch_ok) | with_reducible (apply State.emit_ok) | with_reducible (apply State.ite_ok) | split | (intro _ _ hok) | (intro _ hok) | (intro _ _ _ hok) | simp only [State.regsOk_mk, State.regsOk_eta])

theorem State.busEnd_ok (s : State) (d g : Nat) (how : XEnd) (hok : s.regsOk = true) : (State.busEnd s d g how).regsOk = true := by
  unfold State.busEnd
  repeat' (first | with_reducible assumption | with_reducible (apply State.xDone_ok) | with_reducible (apply State.xFail_ok) | with_reducible (apply State.busError_ok) | with_reducible (apply State.busNext_ok) | with_reducible (apply State.serve_ok) | with_reducible (apply State.ite_ok) | split | (intro _ _ hok) | (intro _ hok) | (intro _ _ _ hok) | simp only [State.regsOk_mk, State.regsOk_eta])

theorem State.busFree_ok (s : State) (d g : Nat) (hok : s.regsOk = true) : (State.busFree s d g).regsOk = true := by
  unfold State.busFree
  extract_lets
  repeat' (first | with_reducible assumption | with_reducible (apply State.updHatch_ok) | with_reducible (apply State.off_ok) | with_reducible (apply State.ev_ok) | with_reducible (apply State.busNext_ok) | with_reducible (apply State.ite_ok) | split | (intro _ _ hok) | (intro _ hok) | (intro _ _ _ hok) | simp only [State.regsOk_mk, State.regsOk_eta])

theorem State.busStuck_ok (s : State) (d g : Nat) (hok : s.regsOk = true) : (State.busStuck s d g).regsOk = true := by
  unfold State.busStuck
  extract_lets
  repeat' (first | with_reducible assumption | with_reducible (apply State.on_ok) | with_reducible (apply State.ev_ok) | with_reducible (apply State.busNext_ok) | with_reducible (apply State.emit_ok) | with_reducible (apply State.ite_ok) | split | (intro _ _ hok) | (intro _ hok) | (intro _ _ _ hok) | simp only [State.regsOk_mk, State.regsOk_eta])

end Sys2Proof.Machine
end

