-- ==== Sys2Proof/Laws/Chain.lean ====
section
/-! SUPPORT. What the operations of Machine/Chain.lean leave alone: the part, the waiting commands, the blown life-cycle fuses, and the
canonical form of the register file. -/

namespace Sys2Proof.Machine
set_option linter.unusedSimpArgs false
set_option linter.unusedVariables false
set_option linter.unreachableTactic false
set_option linter.unusedTactic false
set_option linter.style.nameCheck false

theorem State.updIsland_core (s : State) (f : Island → Island) : (State.updIsland s f).core = s.core := by
  simp only [State.updIsland, State.core_mk, State.core_eta, ↓apply_ite State.core, ite_self, implies_true, eq_self]

theorem State.chEv_core (s : State) (f : Fld) : (State.chEv s f).core = s.core := by
  simp only [State.chEv, ↓State.on_core, ↓State.ev_core, State.core_mk, State.core_eta, ↓apply_ite State.core, ite_self, implies_true, eq_self]

theorem State.forward_core (s : State) (b : List Nat) : (State.forward s b).core = s.core := by
  simp only [State.forward, ↓State.updIsland_core, ↓State.inc_core, ↓State.chEv_core, State.core_mk, State.core_eta, ↓apply_ite State.core, ite_self, implies_true, eq_self]

theorem State.takeFrame_core (s : State) (b : List Nat) : (State.takeFrame s b).core = s.core := by
  simp only [State.takeFrame, ↓State.updIsland_core, State.core_mk, State.core_eta, ↓apply_ite State.core, ite_self, implies_true, eq_self]

theorem State.routeFrame_core (s : State) (b : List Nat) : (State.routeFrame s b).core = s.core := by
  simp only [State.routeFrame, ↓State.takeFrame_core, ↓State.forward_core, State.core_mk, State.core_eta, ↓apply_ite State.core, ite_self, implies_true, eq_self]

theorem State.frameIn_core (s : State) (b : List Nat) : (State.frameIn s b).core = s.core := by
  simp only [State.frameIn, ↓State.updIsland_core, ↓State.on_core, ↓State.inc_core, ↓State.chEv_core, ↓State.routeFrame_core, State.core_mk, State.core_eta, ↓apply_ite State.core, ite_self, implies_true, eq_self]

theorem State.frameOut_core (s : State) : (State.frameOut s).core = s.core := by
  unfold State.frameOut
  repeat' split
  all_goals simp only [↓State.updIsland_core, ↓State.inc_core, ↓State.emit_core, State.core_mk, State.core_eta, ↓apply_ite State.core, ite_self, implies_true, eq_self]

theorem State.stocktake_core (s : State) (b : List Nat) : (State.stocktake s b).core = s.core := by
  simp only [State.stocktake, ↓State.forward_core, ↓State.wr_core, ↓State.chEv_core, State.core_mk, State.core_eta, ↓apply_ite State.core, ite_self, implies_true, eq_self]

theorem State.sendFrame_core (s : State) (b : List Nat) : (State.sendFrame s b).core = s.core := by
  simp only [State.sendFrame, ↓State.updIsland_core, State.core_mk, State.core_eta, ↓apply_ite State.core, ite_self, implies_true, eq_self]

theorem State.reply_core (s : State) (m : Mctp) (body : List Nat) : (State.reply s m body).core = s.core := by
  simp only [State.reply, ↓State.forEach_core, ↓State.sendFrame_core, State.core_mk, State.core_eta, ↓apply_ite State.core, ite_self, implies_true, eq_self]

theorem State.cciMsg_core (s : State) (m : Mctp) (cci : Bool) : (State.cciMsg s m cci).core = s.core := by
  simp only [State.cciMsg, ↓State.emit_core, ↓State.acceptCmd_core, State.core_mk, State.core_eta, ↓apply_ite State.core, ite_self, implies_true, eq_self]

theorem State.control_core (s : State) (m : Mctp) (data : List Nat) : (State.control s m data).core = s.core := by
  simp only [State.control, ↓State.reply_core, State.core_mk, State.core_eta, ↓apply_ite State.core, ite_self, implies_true, eq_self]

theorem State.wholeMsg_core (s : State) (m : Mctp) : (State.wholeMsg s m).core = s.core := by
  unfold State.wholeMsg
  repeat' split
  all_goals simp only [↓State.updIsland_core, ↓State.control_core, ↓State.cciMsg_core, State.core_mk, State.core_eta, ↓apply_ite State.core, ite_self, implies_true, eq_self]

theorem State.packet_core (s : State) (b : List Nat) : (State.packet s b).core = s.core := by
  unfold State.packet
  repeat' (first | with_reducible rfl | simp only [↓State.updIsland_core, ↓State.wholeMsg_core, State.core_mk, State.core_eta, ↓apply_ite State.core, ite_self, implies_true, eq_self] | split)

theorem State.setEid_core (s : State) (m : Mctp) : (State.setEid s m).core = s.core := by
  simp only [State.setEid, ↓State.wr_core, ↓State.control_core, State.core_mk, State.core_eta, ↓apply_ite State.core, ite_self, implies_true, eq_self]

theorem State.chainRead_core (s : State) (a : Nat) : (State.chainRead s a).2.core = s.core := by
  unfold State.chainRead
  repeat' split
  all_goals simp only [↓State.readReg_core, State.core_mk, State.core_eta, ↓apply_ite State.core, ite_self, implies_true, eq_self]

theorem State.chainRead_core' {s : State} {a : Nat} {xa xs}
    (hx : (State.chainRead s a) = (xa, xs)) : xs.core = s.core := by
  have := State.chainRead_core s a
  rw [hx] at this
  exact this

theorem State.chainWrite_core (s : State) (a v : Nat) : (State.chainWrite s a v).2.core = s.core := by
  unfold State.chainWrite
  repeat' split
  all_goals simp only [↓State.deny_core, ↓State.writeReg_core, State.core_mk, State.core_eta, ↓apply_ite State.core, ite_self, implies_true, eq_self]

theorem State.chainWrite_core' {s : State} {a v : Nat} {xa xs}
    (hx : (State.chainWrite s a v) = (xa, xs)) : xs.core = s.core := by
  have := State.chainWrite_core s a v
  rw [hx] at this
  exact this

theorem State.chainReads_core (n : Nat) (s : State) (a : Nat) : (State.chainReads n s a).2.core = s.core := by
  induction n generalizing s a with
  | zero => rfl
  | succ n ih => exact (ih _ _).trans (State.chainRead_core _ _)

theorem State.chainWrites_core (s : State) (a : Nat) (ws : List Nat) : (s.chainWrites a ws).2.core = s.core := by
  induction ws generalizing s a with
  | nil => rfl
  | cons v r ih => exact (ih _ _).trans (State.chainWrite_core _ _ _)

theorem State.regReply_core (s : State) (m : Mctp) (code : Nat) (words : List Nat) : (State.regReply s m code words).core = s.core := by
  simp only [State.regReply, ↓State.reply_core, State.core_mk, State.core_eta, ↓apply_ite State.core, ite_self, implies_true, eq_self]

theorem State.regRead_core (s : State) (m : Mctp) : (State.regRead s m).core = s.core := by
  unfold State.regRead
  repeat' split
  all_goals simp only [↓State.regReply_core, ↓State.chainReads_core, State.core_mk, State.core_eta, ↓apply_ite State.core, ite_self, implies_true, eq_self]

theorem State.regWrite_core (s : State) (m : Mctp) : (State.regWrite s m).core = s.core := by
  unfold State.regWrite
  repeat' split
  all_goals simp only [↓State.regReply_core, ↓State.chainWrites_core, ↓State.finish_core, State.core_mk, State.core_eta, ↓apply_ite State.core, ite_self, implies_true, eq_self]

theorem State.updIsland_ok (s : State) (f : Island → Island) (hok : s.regsOk = true) : (State.updIsland s f).regsOk = true := by
  simp only [State.updIsland, State.regsOk_mk, State.regsOk_eta, apply_ite State.regsOk, ite_self, implies_true, eq_self, hok]

theorem State.chEv_ok (s : State) (f : Fld) (hok : s.regsOk = true) : (State.chEv s f).regsOk = true := by
  simp only [State.chEv, State.on_ok, State.ev_ok, State.regsOk_mk, State.regsOk_eta, apply_ite State.regsOk, ite_self, implies_true, eq_self, hok]

theorem State.forward_ok (s : State) (b : List Nat) (hok : s.regsOk = true) : (State.forward s b).regsOk = true := by
  simp only [State.forward, State.updIsland_ok, State.inc_ok, State.chEv_ok, State.regsOk_mk, State.regsOk_eta, apply_ite State.regsOk, ite_self, implies_true, eq_self, hok]

theorem State.takeFrame_ok (s : State) (b : List Nat) (hok : s.regsOk = true) : (State.takeFrame s b).regsOk = true := by
  simp only [State.takeFrame, State.updIsland_ok, State.regsOk_mk, State.regsOk_eta, apply_ite State.regsOk, ite_self, implies_true, eq_self, hok]

theorem State.routeFrame_ok (s : State) (b : List Nat) (hok : s.regsOk = true) : (State.routeFrame s b).regsOk = true := by
  simp only [State.routeFrame, State.takeFrame_ok, State.forward_ok, State.regsOk_mk, State.regsOk_eta, apply_ite State.regsOk, ite_self, implies_true, eq_self, hok]

theorem State.frameIn_ok (s : State) (b : List Nat) (hok : s.regsOk = true) : (State.frameIn s b).regsOk = true := by
  unfold State.frameIn
  extract_lets
  repeat' (first | with_reducible assumption | with_reducible (apply State.updIsland_ok) | with_reducible (apply State.on_ok) | with_reducible (apply State.inc_ok) | with_reducible (apply State.chEv_ok) | with_reducible (apply State.routeFrame_ok) | with_reducible (apply State.ite_ok) | split | (intro _ _ hok) | (intro _ hok) | (intro _ _ _ hok) | simp only [State.regsOk_mk, State.regsOk_eta])

theorem State.frameOut_ok (s : State) (hok : s.regsOk = true) : (State.frameOut s).regsOk = true := by
  unfold State.frameOut
  repeat' (first | with_reducible assumption | with_reducible (apply State.updIsland_ok) | with_reducible (apply State.inc_ok) | with_reducible (apply State.emit_ok) | with_reducible (apply State.ite_ok) | split | (intro _ _ hok) | (intro _ hok) | (intro _ _ _ hok) | simp only [State.regsOk_mk, State.regsOk_eta])

theorem State.stocktake_ok (s : State) (b : List Nat) (hok : s.regsOk = true) : (State.stocktake s b).regsOk = true := by
  unfold State.stocktake
  extract_lets
  repeat' (first | with_reducible assumption | with_reducible (apply State.forward_ok) | with_reducible (apply State.wr_ok) | with_reducible (apply State.chEv_ok) | with_reducible (apply State.ite_ok) | split | (intro _ _ hok) | (intro _ hok) | (intro _ _ _ hok) | simp only [State.regsOk_mk, State.regsOk_eta])

theorem State.sendFrame_ok (s : State) (b : List Nat) (hok : s.regsOk = true) : (State.sendFrame s b).regsOk = true := by
  simp only [State.sendFrame, State.updIsland_ok, State.regsOk_mk, State.regsOk_eta, apply_ite State.regsOk, ite_self, implies_true, eq_self, hok]

theorem State.reply_ok (s : State) (m : Mctp) (body : List Nat) (hok : s.regsOk = true) : (State.reply s m body).regsOk = true := by
  unfold State.reply
  extract_lets
  repeat' (first | with_reducible assumption | with_reducible (apply State.forEach_ok) | with_reducible (apply State.sendFrame_ok) | with_reducible (apply State.ite_ok) | split | (intro _ _ hok) | (intro _ hok) | (intro _ _ _ hok) | simp only [State.regsOk_mk, State.regsOk_eta])

theorem State.cciMsg_ok (s : State) (m : Mctp) (cci : Bool) (hok : s.regsOk = true) : (State.cciMsg s m cci).regsOk = true := by
  simp only [State.cciMsg, State.emit_ok, State.acceptCmd_ok, State.regsOk_mk, State.regsOk_eta, apply_ite State.regsOk, ite_self, implies_true, eq_self, hok]

theorem State.control_ok (s : State) (m : Mctp) (data : List Nat) (hok : s.regsOk = true) : (State.control s m data).regsOk = true := by
  simp only [State.control, State.reply_ok, State.regsOk_mk, State.regsOk_eta, apply_ite State.regsOk, ite_self, implies_true, eq_self, hok]

theorem State.wholeMsg_ok (s : State) (m : Mctp) (hok : s.regsOk = true) : (State.wholeMsg s m).regsOk = true := by
  unfold State.wholeMsg
  repeat' split
  all_goals simp only [State.updIsland_ok, State.control_ok, State.cciMsg_ok, State.regsOk_mk, State.regsOk_eta, apply_ite State.regsOk, ite_self, implies_true, eq_self, hok]

theorem State.packet_ok (s : State) (b : List Nat) (hok : s.regsOk = true) : (State.packet s b).regsOk = true := by
  unfold State.packet
  repeat' (first | assumption | simp only [State.updIsland_ok, State.wholeMsg_ok, State.regsOk_mk, State.regsOk_eta, apply_ite State.regsOk, ite_self, implies_true, eq_self, hok] | split)

theorem State.setEid_ok (s : State) (m : Mctp) (hok : s.regsOk = true) : (State.setEid s m).regsOk = true := by
  simp only [State.setEid, State.wr_ok, State.control_ok, State.regsOk_mk, State.regsOk_eta, apply_ite State.regsOk, ite_self, implies_true, eq_self, hok]

theorem State.chainRead_ok (s : State) (a : Nat) (hok : s.regsOk = true) : (State.chainRead s a).2.regsOk = true := by
  unfold State.chainRead
  repeat' split
  all_goals simp only [State.readReg_ok, State.regsOk_mk, State.regsOk_eta, apply_ite State.regsOk, ite_self, implies_true, eq_self, hok]

theorem State.chainRead_ok' {s : State} {a : Nat} {xa xs}
    (hx : State.chainRead s a = (xa, xs)) (hok : s.regsOk = true) : xs.regsOk = true := by
  have := State.chainRead_ok s a hok
  rw [hx] at this
  exact this

theorem State.chainWrite_ok (s : State) (a v : Nat) (hok : s.regsOk = true) : (State.chainWrite s a v).2.regsOk = true := by
  unfold State.chainWrite
  repeat' split
  all_goals simp only [State.deny_ok, State.writeReg_ok, State.regsOk_mk, State.regsOk_eta, apply_ite State.regsOk, ite_self, implies_true, eq_self, hok]

theorem State.chainWrite_ok' {s : State} {a v : Nat} {xa xs}
    (hx : State.chainWrite s a v = (xa, xs)) (hok : s.regsOk = true) : xs.regsOk = true := by
  have := State.chainWrite_ok s a v hok
  rw [hx] at this
  exact this

theorem State.chainReads_ok (n : Nat) (s : State) (a : Nat) (hok : s.regsOk = true) : (State.chainReads n s a).2.regsOk = true := by
  induction n generalizing s a with
  | zero => exact hok
  | succ n ih => exact ih _ _ (State.chainRead_ok _ _ hok)

theorem State.chainWrites_ok (s : State) (a : Nat) (ws : List Nat) (hok : s.regsOk = true) :
    (s.chainWrites a ws).2.regsOk = true := by
  induction ws generalizing s a with
  | nil => exact hok
  | cons v r ih => exact ih _ _ (State.chainWrite_ok _ _ _ hok)

theorem State.regReply_ok (s : State) (m : Mctp) (code : Nat) (words : List Nat) (hok : s.regsOk = true) : (State.regReply s m code words).regsOk = true := by
  simp only [State.regReply, State.reply_ok, State.regsOk_mk, State.regsOk_eta, apply_ite State.regsOk, ite_self, implies_true, eq_self, hok]

theorem State.regRead_ok (s : State) (m : Mctp) (hok : s.regsOk = true) : (State.regRead s m).regsOk = true := by
  unfold State.regRead
  repeat' split
  all_goals simp only [State.regReply_ok, State.chainReads_ok, State.regsOk_mk, State.regsOk_eta, apply_ite State.regsOk, ite_self, implies_true, eq_self, hok]

theorem State.regWrite_ok (s : State) (m : Mctp) (hok : s.regsOk = true) : (State.regWrite s m).regsOk = true := by
  unfold State.regWrite
  repeat' (first | with_reducible assumption | with_reducible (apply State.regReply_ok) | with_reducible (apply State.chainWrites_ok) | with_reducible (apply State.finish_ok) | with_reducible (apply State.ite_ok) | split | (intro _ _ hok) | (intro _ hok) | (intro _ _ _ hok) | simp only [State.regsOk_mk, State.regsOk_eta])

end Sys2Proof.Machine
end

