-- ==== Sys2Proof/Laws/Tick.lean ====
section
/-! SUPPORT. What the operations of Machine/Tick.lean leave alone: the part, the waiting commands, the blown life-cycle fuses, and the
canonical form of the register file. -/

namespace Sys2Proof.Machine
set_option linter.unusedSimpArgs false
set_option linter.unusedVariables false
set_option linter.unreachableTactic false
set_option linter.unusedTactic false
set_option linter.style.nameCheck false

theorem State.timeStep_core (s : State) (d : Nat) : (State.timeStep s d).core = s.core := by
  simp only [State.timeStep, ↓State.aligned_core, State.core_mk, State.core_eta, ↓apply_ite State.core, ite_self, implies_true, eq_self]

theorem State.countCycle_core (s : State) (d : Nat) : (State.countCycle s d).core = s.core := by
  simp only [State.countCycle, ↓State.forEach_core, ↓State.cntAdd_core, State.core_mk, State.core_eta, ↓apply_ite State.core, ite_self, implies_true, eq_self]

theorem State.genCycle_core (s : State) (d : Nat) : (State.genCycle s d).core = s.core := by
  simp only [State.genCycle, ↓State.forEach_core, ↓State.updLane_core, State.core_mk, State.core_eta, ↓apply_ite State.core, ite_self, implies_true, eq_self]

theorem State.checkCycle_core (s : State) (d : Nat) : (State.checkCycle s d).core = s.core := by
  simp only [State.checkCycle, ↓State.forEach_core, ↓State.add_core, ↓State.useFree_core, State.core_mk, State.core_eta, ↓apply_ite State.core, ite_self, implies_true, eq_self]

theorem State.tick_core (s : State) : (State.tick s).core = s.core := by
  simp only [State.tick, ↓State.forEach_core, ↓State.countCycle_core, ↓State.genCycle_core, ↓State.checkCycle_core, ↓State.timeStep_core, State.core_mk, State.core_eta, ↓apply_ite State.core, ite_self, implies_true, eq_self]

theorem State.timeStep_ok (s : State) (d : Nat) (hok : s.regsOk = true) : (State.timeStep s d).regsOk = true := by
  simp only [State.timeStep, State.aligned_ok, State.regsOk_mk, State.regsOk_eta, apply_ite State.regsOk, ite_self, implies_true, eq_self, hok]

theorem State.countCycle_ok (s : State) (d : Nat) (hok : s.regsOk = true) : (State.countCycle s d).regsOk = true := by
  unfold State.countCycle
  repeat' (first | with_reducible assumption | with_reducible (apply State.forEach_ok) | with_reducible (apply State.cntAdd_ok) | with_reducible (apply State.ite_ok) | split | (intro _ _ hok) | (intro _ hok) | (intro _ _ _ hok) | simp only [State.regsOk_mk, State.regsOk_eta])

theorem State.genCycle_ok (s : State) (d : Nat) (hok : s.regsOk = true) : (State.genCycle s d).regsOk = true := by
  unfold State.genCycle
  repeat' (first | with_reducible assumption | with_reducible (apply State.forEach_ok) | with_reducible (apply State.updLane_ok) | with_reducible (apply State.ite_ok) | split | (intro _ _ hok) | (intro _ hok) | (intro _ _ _ hok) | simp only [State.regsOk_mk, State.regsOk_eta])

theorem State.checkCycle_ok (s : State) (d : Nat) (hok : s.regsOk = true) : (State.checkCycle s d).regsOk = true := by
  unfold State.checkCycle
  repeat' (first | with_reducible assumption | with_reducible (apply State.forEach_ok) | with_reducible (apply State.add_ok) | with_reducible (apply State.useFree_ok) | with_reducible (apply State.ite_ok) | split | (intro _ _ hok) | (intro _ hok) | (intro _ _ _ hok) | simp only [State.regsOk_mk, State.regsOk_eta])

theorem State.tick_ok (s : State) (hok : s.regsOk = true) : (State.tick s).regsOk = true := by
  unfold State.tick
  repeat' (first | with_reducible assumption | with_reducible (apply State.forEach_ok) | with_reducible (apply State.countCycle_ok) | with_reducible (apply State.genCycle_ok) | with_reducible (apply State.checkCycle_ok) | with_reducible (apply State.timeStep_ok) | with_reducible (apply State.ite_ok) | split | (intro _ _ hok) | (intro _ hok) | (intro _ _ _ hok) | simp only [State.regsOk_mk, State.regsOk_eta])

end Sys2Proof.Machine
end

