-- ==== Sys2Proof/Laws/Step.lean ====
section
/-! SUPPORT. What the operations of Machine/Step.lean leave alone: the part, the waiting commands, the blown life-cycle fuses, and the
canonical form of the register file. -/

namespace Sys2Proof.Machine
set_option linter.unusedSimpArgs false
set_option linter.unusedVariables false
set_option linter.unreachableTactic false
set_option linter.unusedTactic false
set_option linter.style.nameCheck false

theorem State.withFetchWord_core (s : State) (nbits w : Nat) : (State.withFetchWord s nbits w).core = s.core := by
  rfl

theorem State.withFetchWord_ok (s : State) (nbits w : Nat) (hok : s.regsOk = true) : (State.withFetchWord s nbits w).regsOk = true := by
  exact hok

end Sys2Proof.Machine
end

