-- ==== Sys2Proof/Laws/Answers.lean ====
section
/-! SUPPORT. What the wrappers of commands answer: a next state that follows the one before. -/

namespace Sys2Proof.Machine

/-- `t` comes after `s` in one life of the part, and the register file of `t` is canonical where that of `s` is. -/
def State.Leads (s t : State) : Prop := s.Follows t ∧ (s.regsOk = true → t.regsOk = true)

theorem State.Leads.rfl (s : State) : s.Leads s := ⟨.rfl s, id⟩

theorem State.Leads.trans {s t u : State} (h : s.Leads t) (k : t.Leads u) : s.Leads u := ⟨h.1.trans k.1, k.2 ∘ h.2⟩

theorem State.Leads.of {s t : State} (h : t.core = s.core) (k : s.regsOk = true → t.regsOk = true) : s.Leads t := ⟨.of_core h, k⟩

/-- An outcome at `s` that is a next state which comes after `s`. -/
def State.Goes (s : State) (o : Outcome) : Prop := ∃ t, o = .next t ∧ s.Leads t

/-- What a command at die `x` (at no one die, for none) answers: a next state that follows, and the same state where the part has no
such die. -/
def State.Says (s : State) (x : Option Nat) (o : Outcome) : Prop :=
  match x with
  | none => s.Goes o
  | some d => s.Goes o ∧ (s.part.dies ≤ d → o = .next s)

theorem goes_next {s t : State} (h : s.Leads t) : s.Goes (.next t) := ⟨t, rfl, h⟩

theorem goes_of {s t : State} (h : t.core = s.core) (k : s.regsOk = true → t.regsOk = true) : s.Goes (.next t) :=
  ⟨t, rfl, .of h k⟩

theorem onPkg_goes (s : State) (f : State → State) (h : s.Leads (f s)) : s.Goes (onPkg s f) := by
  unfold onPkg
  split
  · exact goes_next (.rfl s)
  · exact goes_next h

theorem finish_leads {s t : State} (h : s.Leads t) : s.Leads t.finish := h.trans (.of (State.finish_core t) (State.finish_ok t))

theorem runPkg_goes (s : State) (f : State → State) (h : s.Leads (f s)) : s.Goes (runPkg s f) :=
  onPkg_goes s _ (finish_leads h)

theorem onDie_goes (d : Nat) (s : State) (f : State → State) (h : s.Leads (f s)) : s.Goes (onDie d s f) := by
  unfold onDie
  apply goes_next
  split
  · exact .rfl s
  · exact h

theorem onDie_absent {d : Nat} {s : State} (f : State → State) (h : s.part.dies ≤ d) : onDie d s f = .next s := by
  rw [onDie, if_pos (.inl h)]

theorem runOn_goes (d : Nat) (s : State) (f : State → State) (h : s.Leads (f s)) : s.Goes (runOn d s f) :=
  onDie_goes d s _ (finish_leads h)

theorem runOn_absent {d : Nat} {s : State} (f : State → State) (h : s.part.dies ≤ d) : runOn d s f = .next s :=
  onDie_absent _ h

theorem onDie_eq {d : Nat} {s : State} (f : State → State) (h : s.ready d) : onDie d s f = .next (f s) := by
  rw [onDie, if_neg]
  rintro (k | k)
  · exact absurd h.2 (Nat.not_lt.mpr k)
  · rw [h.1] at k
    cases k

theorem runOn_eq {d : Nat} {s : State} (f : State → State) (h : s.ready d) : runOn d s f = .next (f s).finish := onDie_eq _ h

theorem onPkg_eq {s : State} (f : State → State) (h : s.live) : onPkg s f = .next (f s) := by
  simp only [onPkg, show s.pkg.inReset = false from h, Bool.false_eq_true, if_false]

theorem runPkg_eq {s : State} (f : State → State) (h : s.live) : runPkg s f = .next (f s).finish := onPkg_eq _ h

/-! ## Register writes -/

theorem anyWrite_eq {src : Src} {d : Nat} {s : State} (f : State → State) (h : s.writable src d) :
    anyWrite src d s f = .next (f s).finish := by
  obtain ⟨h1, h2, h3, h4⟩ := h
  simp only [anyWrite, h1, h2, h3, h4, decide_true, Bool.not_false, Bool.and_self, if_true, Bool.false_eq_true, if_false]

theorem onWrite_eq {src : Src} {d : Nat} {s : State} (f : State → State) (hs : tenantOf src = none) (h : s.writable src d) :
    onWrite src d s f = .next (f s).finish := by
  rw [onWrite, hs, Option.isSome_none, if_neg Bool.false_ne_true, anyWrite_eq f h]

theorem anyWrite_discards {src : Src} {d : Nat} {s : State} (f : State → State) (h : s.discards src d) :
    anyWrite src d s f = .next s := by
  rcases h with h | h | h
  · simp [anyWrite, h]
  · simp [anyWrite, Nat.not_lt.mpr h]
  · simp [anyWrite, h]

theorem onWrite_discards {src : Src} {d : Nat} {s : State} (f : State → State) (h : s.discards src d) :
    onWrite src d s f = .next s := by
  unfold onWrite
  split
  · rfl
  · exact anyWrite_discards f h

/-- No session is asked of a tenant. -/
theorem tenantOf_denied {src : Src} {s : State} (k : s.denied src = true) : tenantOf src = none := by
  cases src with
  | tenant v => simp [State.denied, Src.session] at k
  | _ => rfl

theorem anyWrite_denied {src : Src} {d : Nat} {s : State} (f : State → State) (h : ¬ s.discards src d) (k : s.denied src = true) :
    anyWrite src d s f = .next s.deny := by
  simp only [State.discards, not_or, Bool.not_eq_false, Nat.not_le, Bool.not_eq_true] at h
  simp [anyWrite, h.1, h.2.1, h.2.2, k]

theorem onWrite_denied {src : Src} {d : Nat} {s : State} (f : State → State) (h : ¬ s.discards src d) (k : s.denied src = true) :
    onWrite src d s f = .next s.deny := by
  rw [onWrite, tenantOf_denied k, Option.isSome_none, if_neg Bool.false_ne_true, anyWrite_denied f h k]

theorem onVoid_discards {src : Src} {d : Nat} {s : State} (h : s.discards src d) : onVoid src d s = .next s := by
  rcases h with h | h | h
  · simp [onVoid, h]
  · simp [onVoid, Nat.not_lt.mpr h]
  · simp [onVoid, h]

theorem onVoid_denied {src : Src} {d : Nat} {s : State} (h : ¬ s.discards src d) (k : s.denied src = true) :
    onVoid src d s = .next s.deny := by
  simp only [State.discards, not_or, Bool.not_eq_false, Nat.not_le, Bool.not_eq_true] at h
  simp [onVoid, h.1, h.2.1, h.2.2, k]

theorem anyWrite_goes (src : Src) (d : Nat) (s : State) (f : State → State) (h : s.Leads (f s)) : s.Goes (anyWrite src d s f) := by
  unfold anyWrite
  apply goes_next
  split
  · split
    · exact .of (State.deny_core s) (State.deny_ok s)
    · exact finish_leads h
  · exact .rfl s

theorem onWrite_goes (src : Src) (d : Nat) (s : State) (f : State → State) (h : s.Leads (f s)) : s.Goes (onWrite src d s f) := by
  unfold onWrite
  split
  · exact goes_next (.rfl s)
  · exact anyWrite_goes src d s f h

theorem onVoid_goes (src : Src) (d : Nat) (s : State) : s.Goes (onVoid src d s) := by
  unfold onVoid
  apply goes_next
  split
  · exact .of (State.deny_core s) (State.deny_ok s)
  · exact .rfl s

/-! ## Commands of the channels -/

theorem onCmd_eq {c : Fin 5} {ops : List Nat} {s : State} {cmd : Cmd} (f : State → Cmd → State) (h : s.started c ops cmd) :
    onCmd c ops s f = .next (f s cmd).finish := by
  obtain ⟨h1, h2, h3, h4, h5⟩ := h
  rw [onCmd, runPkg_eq _ h1]
  simp only [h2]
  rw [if_pos ⟨h3, by simp [h4], h5⟩]

theorem onCmd_goes (c : Fin 5) (ops : List Nat) (s : State) (f : State → Cmd → State) (h : ∀ cmd, s.Leads (f s cmd)) :
    s.Goes (onCmd c ops s f) := by
  apply runPkg_goes
  split
  · exact .rfl s
  · split
    · exact h _
    · exact .rfl s

/-! ## Events of a die -/

theorem onDie_says (d : Nat) (s : State) (f : State → State) (h : s.Leads (f s)) : s.Says (some d) (onDie d s f) :=
  ⟨onDie_goes d s f h, onDie_absent f⟩

theorem runOn_says (d : Nat) (s : State) (f : State → State) (h : s.Leads (f s)) : s.Says (some d) (runOn d s f) :=
  onDie_says d s _ (finish_leads h)

theorem State.Goes.of {s s' : State} {o : Outcome} (h : s'.core = s.core) (e : s.regsOk = true → s'.regsOk = true)
    (k : s'.Goes o) : s.Goes o := by
  obtain ⟨t, rfl, ht⟩ := k
  exact goes_next ((State.Leads.of h e).trans ht)

/-! ## Slot controllers -/

theorem onSlot_says (d q : Nat) (s : State) (f : Nat → State → State) (h : s.Leads (f (portNo d q) s)) :
    s.Says (some d) (onSlot d q s f) := by
  apply runOn_says
  split
  · exact h
  · exact .rfl s

theorem onSlot_eq {d q : Nat} {s : State} (f : Nat → State → State) (h : s.ready d) (k : s.isSlot (portNo d q) = true) :
    onSlot d q s f = .next (f (portNo d q) s).finish := by
  rw [onSlot, runOn_eq _ h, if_pos k]

theorem onSlotWrite_goes (src : Src) (d q : Nat) (s : State) (f : Nat → State → State) (h : s.Leads (f (portNo d q) s)) :
    s.Goes (onSlotWrite src d q s f) := by
  apply onWrite_goes
  split
  · exact h
  · exact .rfl s

theorem onSlotWrite_eq {src : Src} {d q : Nat} {s : State} (f : Nat → State → State) (hs : tenantOf src = none) (h : s.writable src d)
    (k : s.isSlot (portNo d q) = true) : onSlotWrite src d q s f = .next (f (portNo d q) s).finish := by
  rw [onSlotWrite, onWrite_eq _ hs h, if_pos k]

theorem onPrsnt_says (d q : Nat) (low : Bool) (s : State) (f : Nat → State → State)
    (h : ∀ s, State.Leads s (f (portNo d q) s)) : s.Says (some d) (onPrsnt d q low s f) := by
  unfold onPrsnt
  split
  · exact ⟨State.Goes.of (State.prsntPin_core _ _ _) (State.prsntPin_ok _ _ _) (onSlot_says d q _ f (h _)).1,
      fun hd => absurd hd (Nat.not_le.mpr (by assumption))⟩
  · exact onSlot_says d q _ f (h _)

theorem onPrsnt_eq {d q : Nat} {low : Bool} {s : State} (f : Nat → State → State) (h : d < s.part.dies)
    (k : (s.prsntPin (portNo d q) low).live) (i : (s.prsntPin (portNo d q) low).isSlot (portNo d q) = true) :
    onPrsnt d q low s f = .next (f (portNo d q) (s.prsntPin (portNo d q) low)).finish := by
  have hp : (s.prsntPin (portNo d q) low).part = s.part := congrArg Prod.fst (State.prsntPin_core s _ low)
  rw [onPrsnt, if_pos h, onSlot_eq f ⟨k, by rw [hp]; exact h⟩ i]

/-! ## Monitor, Pantry, queues -/

theorem onPm_goes (src : Src) (d : Nat) (s : State) (f : State → State) (h : s.Leads (f s)) : s.Goes (onPm src d s f) := by
  apply onWrite_goes
  split
  · exact h
  · exact .rfl s

theorem onPm_eq {src : Src} {d : Nat} {s : State} (f : State → State) (hs : tenantOf src = none) (h : s.writable src d)
    (k : s.domOn d 20 = true) : onPm src d s f = .next (f s).finish := by
  rw [onPm, onWrite_eq _ hs h, if_pos k]

theorem State.wake_pantryFn (s : State) (d k : Nat) : (s.wake d k).pantryFn = s.pantryFn := by
  unfold State.wake State.setDom
  dsimp only
  repeat' split
  all_goals rfl

theorem State.wake_inst (s : State) (d k e i : Nat) : (s.wake d k).inst e i = s.inst e i := by
  have h : (s.wake d k).insts = s.insts := by
    unfold State.wake State.setDom
    dsimp only
    repeat' split
    all_goals rfl
  simp only [State.inst, h]

theorem State.wake_pageFor (s : State) (d k : Nat) (src : Src) (e i : Nat) : (s.wake d k).pageFor src e i = s.pageFor src e i := by
  simp only [State.pageFor, State.wake_inst, State.wake_pantryFn]

theorem onPn_goes (src : Src) (d chan : Nat) (s : State) (f : State → State) (h : (s.wake d 19).Leads (f (s.wake d 19))) :
    s.Goes (onPn src d chan s f) := by
  have w : s.Leads (s.wake d 19) := .of (State.wake_core _ _ _) (State.wake_ok _ _ _)
  unfold onPn
  split
  · apply anyWrite_goes
    dsimp only
    split
    · exact w.trans h
    · exact w
  · exact goes_next (.rfl s)

theorem onPn_eq {src : Src} {d chan : Nat} {s : State} (f : State → State) (hs : ownChan src d chan = true) (h : s.writable src d)
    (k : (chan == 0 || s.pantryFn.contains (portNo d (chan - 1))) = true) :
    onPn src d chan s f = .next (f (s.wake d 19)).finish := by
  simp only [onPn, hs, if_true, anyWrite_eq _ h, State.wake_pantryFn, if_pos k]

theorem onPn_discards {src : Src} {d chan : Nat} {s : State} (f : State → State) (h : s.discards src d) :
    onPn src d chan s f = .next s := by
  unfold onPn
  split
  · exact anyWrite_discards _ h
  · rfl

theorem onPn_denied {src : Src} {d chan : Nat} {s : State} (f : State → State) (h : ¬ s.discards src d) (k : s.denied src = true) :
    onPn src d chan s f = .next s.deny := by
  have : ownChan src d chan = true := by
    unfold ownChan
    rw [tenantOf_denied k]
  simp only [onPn, this, if_true, anyWrite_denied _ h k]

theorem onQueue_goes (src : Src) (d : Nat) (q : QTo) (db : Bool) (s : State) (f : Nat → State → State)
    (hf : ∀ q s, (f q s).core = s.core) (ho : ∀ q s, State.regsOk s = true → (f q s).regsOk = true) : s.Goes (onQueue src d q db s f) := by
  unfold onQueue
  split
  · exact onWrite_goes _ _ _ _ (.trans (.of (State.wake_core _ _ _) (State.wake_ok _ _ _)) (.of (hf _ _) (ho _ _)))
  · split
    · exact anyWrite_goes _ _ _ _ (.trans (.of (State.wake_core _ _ _) (State.wake_ok _ _ _))
        (.of (State.onPage_core _ _ _ _ _ _ _ hf) (State.onPage_ok _ _ _ _ _ _ _ ho)))
    · exact goes_next (.rfl s)

theorem onQueue_discards {src : Src} {d : Nat} {q : QTo} {db : Bool} {s : State} (f : Nat → State → State) (h : s.discards src d) :
    onQueue src d q db s f = .next s := by
  unfold onQueue
  split
  · exact onWrite_discards _ h
  · split
    · exact anyWrite_discards _ h
    · rfl

theorem onQueue_denied {src : Src} {d : Nat} {q : QTo} {db : Bool} {s : State} (f : Nat → State → State) (h : ¬ s.discards src d)
    (k : s.denied src = true) : onQueue src d q db s f = .next s.deny := by
  unfold onQueue
  split
  · exact onWrite_denied _ h k
  · simp only [tenantOf_denied k, Option.isNone_none, Bool.true_or, if_true, anyWrite_denied _ h k]

/-- A command through a doorbell page acts on the queue of its slot (R350, R351). -/
theorem onQueue_page {src : Src} {d : Nat} {i : Fin 512} {j : Fin 16} {db : Bool} {s : State} {q : Nat} (f : Nat → State → State)
    (h : s.writable src d) (p : s.pageFor src d i = true) (hd : (db && (s.inst d i).deaf) = false)
    (hq : (s.inst d i).queues[j.val]? = some q) :
    onQueue src d (.page i j) db s f = .next (f q (s.wake d 19)).finish := by
  simp only [onQueue, p, Bool.or_true, if_true]
  rw [anyWrite_eq _ h]
  simp only [State.onPage, State.wake_pageFor, State.wake_inst, p, hq, hd, if_true, Bool.false_eq_true, if_false]

/-! ## The management chain -/

theorem onChain_goes (s : State) (f : State → State) (h : s.Leads (f s)) : s.Goes (onChain s f) := by
  apply goes_next
  split
  · exact h
  · exact .rfl s

theorem onChain_eq {s : State} (f : State → State) (h : s.pkg.islandUp = true) : onChain s f = .next (f s) := by
  rw [onChain, if_pos h]

theorem onMsg_goes (p : List Nat → Bool) (s : State) (f : State → Mctp → State) (hf : ∀ s m, State.Leads s (f s m)) :
    s.Goes (onMsg p s f) := by
  apply onChain_goes
  split
  · exact State.Leads.trans (.of (State.updIsland_core _ _) (State.updIsland_ok _ _)) (hf _ _)
  · exact .rfl s

theorem onMsg_eq {p : List Nat → Bool} {s : State} {m : Mctp} (f : State → Mctp → State) (h : s.pkg.islandUp = true)
    (k : (s.island.msgs.find? fun x => p x.bytes) = some m) :
    onMsg p s f = .next (f (s.updIsland fun i => { i with msgs := i.msgs.erase m }) m) := by
  rw [onMsg, onChain_eq _ h, k]

end Sys2Proof.Machine
end

