-- ==== Sys2Proof/Laws/Commands0.lean ====
section
/-! SUPPORT. What each command answers (part 1 of 4): a next state of the same part with the same commands waiting and no life-cycle
fuse made whole. -/

namespace Sys2Proof.Machine
set_option linter.unusedSimpArgs false
set_option linter.unusedVariables false
set_option linter.unreachableTactic false
set_option linter.unusedTactic false

theorem execRegisterWrite_says (src : Src) (addr : Fin 268435456) (val : BitVec 32) (s : State) :
    s.Says (Instr.registerWrite src addr val).die (execRegisterWrite src addr val s) := by
  refine goes_of ?_ ?_
  · simp only [↓State.outerDone_core, State.core_mk, State.core_eta, ↓apply_ite State.core, ite_self, implies_true, eq_self]
  · intro hok
    repeat' (first | with_reducible assumption | with_reducible (apply State.outerDone_ok) | with_reducible (apply State.ite_ok) | split | (intro _ _ _ hok) | (intro _ _ hok) | (intro _ hok) | simp only [State.regsOk_mk, State.regsOk_eta])

theorem execPairLowRead_says (addr : Fin 268435456) (s : State) : s.Says (Instr.pairLowRead addr).die (execPairLowRead addr s) := by
  refine goes_of ?_ ?_
  · repeat' (first | with_reducible rfl | simp only [↓State.outerRead_core, State.core_mk, State.core_eta, ↓apply_ite State.core, ite_self, implies_true, eq_self] | split | (refine (State.outerRead_core' (by assumption)).trans ?_))
  · intro hok
    repeat' (first | with_reducible assumption | with_reducible (apply State.outerRead_ok) | with_reducible (exact State.outerRead_ok' (by assumption) (by assumption)) | (refine State.outerRead_ok' (by assumption) ?_) | with_reducible (apply State.ite_ok) | split | (intro _ _ _ hok) | (intro _ _ hok) | (intro _ hok) | simp only [State.regsOk_mk, State.regsOk_eta])

theorem execPairHighWrite_says (src : Src) (addr : Fin 268435456) (val : BitVec 32) (s : State) :
    s.Says (Instr.pairHighWrite src addr val).die (execPairHighWrite src addr val s) := by
  refine goes_of ?_ ?_
  · repeat' (first | with_reducible rfl | simp only [↓State.outerDone_core, State.core_mk, State.core_eta, ↓apply_ite State.core, ite_self, implies_true, eq_self] | split)
  · intro hok
    repeat' (first | with_reducible assumption | with_reducible (apply State.outerDone_ok) | with_reducible (apply State.ite_ok) | split | (intro _ _ _ hok) | (intro _ _ hok) | (intro _ hok) | simp only [State.regsOk_mk, State.regsOk_eta])

theorem execIslandPowerOn_says (vaux : Bool) (s : State) : s.Says (Instr.islandPowerOn vaux).die (execIslandPowerOn vaux s) := by
  refine goes_of ?_ ?_
  · simp only [↓State.islandStart_core, State.core_mk, State.core_eta, ↓apply_ite State.core, ite_self, implies_true, eq_self]
  · intro hok
    repeat' (first | with_reducible assumption | with_reducible (apply State.islandStart_ok) | with_reducible (apply State.ite_ok) | split | (intro _ _ _ hok) | (intro _ _ hok) | (intro _ hok) | simp only [State.regsOk_mk, State.regsOk_eta])

theorem execIslandSourceChange_says (toVaux : Bool) (s : State) :
    s.Says (Instr.islandSourceChange toVaux).die (execIslandSourceChange toVaux s) := by
  refine goes_of ?_ ?_
  · simp only [↓State.wr_core, State.core_mk, State.core_eta, ↓apply_ite State.core, ite_self, implies_true, eq_self]
  · intro hok
    repeat' (first | with_reducible assumption | with_reducible (apply State.wr_ok) | with_reducible (apply State.ite_ok) | split | (intro _ _ _ hok) | (intro _ _ hok) | (intro _ hok) | simp only [State.regsOk_mk, State.regsOk_eta])

theorem execPwrOkFall_says (s : State) : s.Says (Instr.pwrOkFall).die (execPwrOkFall s) := by
  refine goes_of ?_ ?_
  · simp only [↓State.enterReset_core, State.core_mk, State.core_eta, ↓apply_ite State.core, ite_self, implies_true, eq_self]
  · intro hok
    repeat' (first | with_reducible assumption | with_reducible (apply State.enterReset_ok) | with_reducible (apply State.ite_ok) | split | (intro _ _ _ hok) | (intro _ _ hok) | (intro _ hok) | simp only [State.regsOk_mk, State.regsOk_eta])

theorem execSysRstAssert_says (s : State) : s.Says (Instr.sysRstAssert).die (execSysRstAssert s) := by
  refine goes_of ?_ ?_
  · simp only [↓State.enterReset_core, State.core_mk, State.core_eta, ↓apply_ite State.core, ite_self, implies_true, eq_self]
  · intro hok
    repeat' (first | with_reducible assumption | with_reducible (apply State.enterReset_ok) | with_reducible (apply State.ite_ok) | split | (intro _ _ _ hok) | (intro _ _ hok) | (intro _ hok) | simp only [State.regsOk_mk, State.regsOk_eta])

theorem execRailDip_says (d : Fin 8) (rail : Rail) (s : State) : s.Says (Instr.railDip d rail).die (execRailDip d rail s) := by
  unfold execRailDip
  split
  · exact ⟨goes_next (.rfl s), fun _ => rfl⟩
  · refine ⟨goes_of ?_ ?_, fun hd => absurd hd (by assumption)⟩
    · split
      · rfl
      · dsimp only
        split <;> simp only [↓State.enterReset_core, ↓State.on_core, State.core_mk, State.core_eta, ↓apply_ite State.core, ite_self, implies_true, eq_self]
    · intro hok
      split
      · exact hok
      · dsimp only
        refine State.ite_ok (State.enterReset_ok _ _ (State.on_ok _ _ _ ?_)) (State.on_ok _ _ _ ?_) <;> exact hok

theorem execRailRecovered_says (s : State) : s.Says (Instr.railRecovered).die (execRailRecovered s) := by
  refine goes_of ?_ ?_
  · refine (?_ : (s.forEach (upTo 7) fun s k => s.off (F.PD_PKG_STATUS_rail_low k) pkgL).core = s.core)
    exact State.forEach_core _ _ _ fun s k => State.off_core _ _ _
  · exact State.forEach_ok _ _ _ fun s k hok => State.off_ok _ _ _ hok

theorem execV12BiasLow_says (s : State) : s.Says (Instr.v12BiasLow).die (execV12BiasLow s) := by
  refine State.Goes.of (s' := { (s.on (F.PD_PKG_STATUS_rail_low 7) pkgL) with pkg := { s.pkg with v12ok := false } })
    (State.on_core s (F.PD_PKG_STATUS_rail_low 7) pkgL) (State.on_ok s (F.PD_PKG_STATUS_rail_low 7) pkgL) (runPkg_goes _ _ ?_)
  refine .trans (.of (State.forEach_core _ _ _ fun s p => ?_) (State.forEach_ok _ _ _ fun s p hok => ?_))
    (.of (State.log_core _ _ _ _ _ _ _) (State.log_ok _ _ _ _ _ _ _))
  · split
    · exact State.slotDisable_core _ _
    · rfl
  · split
    · exact State.slotDisable_ok _ _ hok
    · exact hok

theorem execRefclkLoss_says (d : Fin 8) (s : State) : s.Says (Instr.refclkLoss d).die (execRefclkLoss d s) := by
  unfold execRefclkLoss
  refine ⟨goes_next ?_, fun hd => by rw [if_pos (.inl hd)]⟩
  split
  · exact .rfl s
  · exact .of (State.enterReset_core _ _) (State.enterReset_ok _ _)

theorem execPackageReset_says (srcs : List ResetSrc) (s : State) :
    s.Says (Instr.packageReset srcs).die (execPackageReset srcs s) := by
  refine goes_of ?_ ?_
  · simp only [↓State.enterReset_core, State.core_mk, State.core_eta, ↓apply_ite State.core, ite_self, implies_true, eq_self]
  · intro hok
    repeat' (first | with_reducible assumption | with_reducible (apply State.enterReset_ok) | with_reducible (apply State.ite_ok) | split | (intro _ _ _ hok) | (intro _ _ hok) | (intro _ hok) | simp only [State.regsOk_mk, State.regsOk_eta])

theorem execPackageResetExit_says (pwrLow fuseBad : Bool) (s : State) :
    s.Says (Instr.packageResetExit pwrLow fuseBad).die (execPackageResetExit pwrLow fuseBad s) := by
  refine goes_of ?_ ?_
  · simp only [↓State.leaveReset_core, State.core_mk, State.core_eta, ↓apply_ite State.core, ite_self, implies_true, eq_self]
  · intro hok
    repeat' (first | with_reducible assumption | with_reducible (apply State.leaveReset_ok) | with_reducible (apply State.ite_ok) | split | (intro _ _ _ hok) | (intro _ _ hok) | (intro _ hok) | simp only [State.regsOk_mk, State.regsOk_eta])

theorem execResetHoldExpiry_says (s : State) : s.Says (Instr.resetHoldExpiry).die (execResetHoldExpiry s) := by
  refine goes_of ?_ ?_
  · simp only [State.core_mk, State.core_eta, ↓apply_ite State.core, ite_self, implies_true, eq_self]
  · intro hok
    repeat' (first | with_reducible assumption | with_reducible (apply State.ite_ok) | split | (intro _ _ _ hok) | (intro _ _ hok) | (intro _ hok) | simp only [State.regsOk_mk, State.regsOk_eta])

theorem execPllLock_says (s : State) : s.Says (Instr.pllLock).die (execPllLock s) := by
  refine onPkg_goes _ _ (.of ?_ ?_)
  · simp only [↓State.bootStage_core, State.core_mk, State.core_eta, ↓apply_ite State.core, ite_self, implies_true, eq_self]
  · intro hok
    repeat' (first | with_reducible assumption | with_reducible (apply State.bootStage_ok) | with_reducible (apply State.ite_ok) | split | (intro _ _ _ hok) | (intro _ _ hok) | (intro _ hok) | simp only [State.regsOk_mk, State.regsOk_eta])

theorem execPllLockTimeout_says (s : State) : s.Says (Instr.pllLockTimeout).die (execPllLockTimeout s) := by
  refine onPkg_goes _ _ (.of ?_ ?_)
  · simp only [↓State.pllFailed_core, State.core_mk, State.core_eta, ↓apply_ite State.core, ite_self, implies_true, eq_self]
  · intro hok
    repeat' (first | with_reducible assumption | with_reducible (apply State.pllFailed_ok) | with_reducible (apply State.ite_ok) | split | (intro _ _ _ hok) | (intro _ _ hok) | (intro _ hok) | simp only [State.regsOk_mk, State.regsOk_eta])

theorem execDieChainComplete_says (number : Fin 16) (mask : Fin 256) (s : State) :
    s.Says (Instr.dieChainComplete number mask).die (execDieChainComplete number mask s) := by
  refine runPkg_goes _ _ (.of ?_ ?_)
  · simp only [↓State.wr_core, ↓State.chainGood_core, ↓State.chainFailed_core, State.core_mk, State.core_eta, ↓apply_ite State.core, ite_self, implies_true, eq_self]
  · intro hok
    repeat' (first | with_reducible assumption | with_reducible (apply State.wr_ok) | with_reducible (apply State.chainGood_ok) | with_reducible (apply State.chainFailed_ok) | with_reducible (apply State.ite_ok) | split | (intro _ _ _ hok) | (intro _ _ hok) | (intro _ hok) | simp only [State.regsOk_mk, State.regsOk_eta])

theorem execDieChainTimeout_says (mask : Fin 256) (s : State) :
    s.Says (Instr.dieChainTimeout mask).die (execDieChainTimeout mask s) := by
  refine onPkg_goes _ _ (.of ?_ ?_)
  · simp only [↓State.chainFailed_core, State.core_mk, State.core_eta, ↓apply_ite State.core, ite_self, implies_true, eq_self]
  · intro hok
    repeat' (first | with_reducible assumption | with_reducible (apply State.chainFailed_ok) | with_reducible (apply State.ite_ok) | split | (intro _ _ _ hok) | (intro _ _ hok) | (intro _ hok) | simp only [State.regsOk_mk, State.regsOk_eta])

theorem execStrongroomSelftest_says (pass : Bool) (s : State) :
    s.Says (Instr.strongroomSelftest pass).die (execStrongroomSelftest pass s) := by
  refine onPkg_goes _ _ ?_
  split
  · exact .rfl s
  · split
    · exact ⟨State.Follows.trans (.of_core (State.wr_core _ _ _ _)) (State.storeStart_follows _),
        fun hok => State.storeStart_ok _ (State.wr_ok _ _ _ _ hok)⟩
    · exact .of (by simp only [↓State.bootFail_core, ↓State.wr_core, ↓State.on_core])
        fun hok => State.bootFail_ok _ _ (State.wr_ok _ _ _ _ (State.on_ok _ _ _ hok))

theorem execStoreRecordDurable_says (s : State) : s.Says (Instr.storeRecordDurable).die (execStoreRecordDurable s) := by
  exact runPkg_goes _ _ ⟨State.recordDone_follows s, State.recordDone_ok s⟩

theorem execInvFlashDirectoryRead_says (sfdp : Option Sfdp) (copy0 copy1 : List (BitVec 8)) (s : State) :
    s.Says (Instr.invFlashDirectoryRead sfdp copy0 copy1).die (execInvFlashDirectoryRead sfdp copy0 copy1 s) := by
  refine onPkg_goes _ _ (.of ?_ ?_)
  · simp only [↓State.updInv_core, State.core_mk, State.core_eta, ↓apply_ite State.core, ite_self, implies_true, eq_self]
  · intro hok
    repeat' (first | with_reducible assumption | with_reducible (apply State.updInv_ok) | with_reducible (apply State.ite_ok) | split | (intro _ _ _ hok) | (intro _ _ hok) | (intro _ hok) | simp only [State.regsOk_mk, State.regsOk_eta])

theorem execInvImageRead_says (got : Option Image) (s : State) : s.Says (Instr.invImageRead got).die (execInvImageRead got s) := by
  refine onPkg_goes _ _ (.of ?_ ?_)
  · simp only [↓State.updInv_core, State.core_mk, State.core_eta, ↓apply_ite State.core, ite_self, implies_true, eq_self]
  · intro hok
    repeat' (first | with_reducible assumption | with_reducible (apply State.updInv_ok) | with_reducible (apply State.ite_ok) | split | (intro _ _ _ hok) | (intro _ _ hok) | (intro _ hok) | simp only [State.regsOk_mk, State.regsOk_eta])

theorem execInvChecks_says (s : State) : s.Says (Instr.invChecks).die (execInvChecks s) := by
  refine onPkg_goes _ _ (.of ?_ ?_)
  · repeat' (first | with_reducible rfl | simp only [↓State.loadChecked_core, State.core_mk, State.core_eta, ↓apply_ite State.core, ite_self, implies_true, eq_self] | split)
  · intro hok
    repeat' (first | with_reducible assumption | with_reducible (apply State.loadChecked_ok) | with_reducible (apply State.ite_ok) | split | (intro _ _ _ hok) | (intro _ _ hok) | (intro _ hok) | simp only [State.regsOk_mk, State.regsOk_eta])

theorem execInvSectionsApply_says (s : State) : s.Says (Instr.invSectionsApply).die (execInvSectionsApply s) := by
  refine runPkg_goes _ _ (.of ?_ ?_)
  · repeat' (first | with_reducible rfl | simp only [↓State.applySections_core, State.core_mk, State.core_eta, ↓apply_ite State.core, ite_self, implies_true, eq_self] | split)
  · intro hok
    repeat' (first | with_reducible assumption | with_reducible (apply State.applySections_ok) | with_reducible (apply State.ite_ok) | split | (intro _ _ _ hok) | (intro _ _ hok) | (intro _ hok) | simp only [State.regsOk_mk, State.regsOk_eta])

theorem execFirmwareVerify_says (d : Fin 8) (img0 img1 : Option Image) (s : State) :
    s.Says (Instr.firmwareVerify d img0 img1).die (execFirmwareVerify d img0 img1 s) := by
  refine runOn_says _ _ _ (.of ?_ ?_)
  · dsimp only
    repeat' split
    all_goals simp only [↓State.fwTake_core, ↓State.fwFailed_core, State.core_mk, State.core_eta, ↓apply_ite State.core, ite_self, implies_true, eq_self]
  · intro hok
    repeat' (first | with_reducible assumption | with_reducible (apply State.fwTake_ok) | with_reducible (apply State.fwFailed_ok) | with_reducible (apply State.ite_ok) | split | (intro _ _ _ hok) | (intro _ _ hok) | (intro _ hok) | simp only [State.regsOk_mk, State.regsOk_eta])

theorem execMasterCountSend_says (s : State) : s.Says (Instr.masterCountSend).die (execMasterCountSend s) := by
  refine onPkg_goes _ _ (.of ?_ ?_)
  · simp only [↓State.forEach_core, ↓State.sendCount_core, State.core_mk, State.core_eta, ↓apply_ite State.core, ite_self, implies_true, eq_self]
  · intro hok
    repeat' (first | with_reducible assumption | with_reducible (apply State.forEach_ok) | with_reducible (apply State.sendCount_ok) | with_reducible (apply State.ite_ok) | split | (intro _ _ _ hok) | (intro _ _ hok) | (intro _ hok) | simp only [State.regsOk_mk, State.regsOk_eta])

theorem execMasterCountReceive_says (d : Fin 8) (count : Nat) (path : CountPath) (s : State) :
    s.Says (Instr.masterCountReceive d count path).die (execMasterCountReceive d count path s) := by
  refine onDie_says _ _ _ (.of ?_ ?_)
  · repeat' (first | with_reducible rfl | simp only [↓State.correct_core, State.core_mk, State.core_eta, ↓apply_ite State.core, ite_self, implies_true, eq_self] | split)
  · intro hok
    repeat' (first | with_reducible assumption | with_reducible (apply State.correct_ok) | with_reducible (apply State.ite_ok) | split | (intro _ _ _ hok) | (intro _ _ hok) | (intro _ hok) | simp only [State.regsOk_mk, State.regsOk_eta])

theorem execAlignmentTimeout_says (d : Fin 8) (s : State) : s.Says (Instr.alignmentTimeout d).die (execAlignmentTimeout d s) := by
  refine onDie_says _ _ _ (.of ?_ ?_)
  · simp only [↓State.off_core, State.core_mk, State.core_eta, ↓apply_ite State.core, ite_self, implies_true, eq_self]
  · intro hok
    repeat' (first | with_reducible assumption | with_reducible (apply State.off_ok) | with_reducible (apply State.ite_ok) | split | (intro _ _ _ hok) | (intro _ _ hok) | (intro _ hok) | simp only [State.regsOk_mk, State.regsOk_eta])

theorem execThermalSample_says (d : Fin 8) (temps : List Int) (s : State) :
    s.Says (Instr.thermalSample d temps).die (execThermalSample d temps s) := by
  refine onDie_says _ _ _ (.of ?_ ?_)
  · simp only [↓State.thermal_core, State.core_mk, State.core_eta, ↓apply_ite State.core, ite_self, implies_true, eq_self]
  · intro hok
    repeat' (first | with_reducible assumption | with_reducible (apply State.thermal_ok) | with_reducible (apply State.ite_ok) | split | (intro _ _ _ hok) | (intro _ _ hok) | (intro _ hok) | simp only [State.regsOk_mk, State.regsOk_eta])

theorem execPowerMonitorUpdate_says (dies : List Nat) (pkg : Nat) (s : State) :
    s.Says (Instr.powerMonitorUpdate dies pkg).die (execPowerMonitorUpdate dies pkg s) := by
  refine onPkg_goes _ _ (.of ?_ ?_)
  · simp only [↓State.forEach_core, ↓State.wr_core, State.core_mk, State.core_eta, ↓apply_ite State.core, ite_self, implies_true, eq_self]
  · intro hok
    repeat' (first | with_reducible assumption | with_reducible (apply State.forEach_ok) | with_reducible (apply State.wr_ok) | with_reducible (apply State.ite_ok) | split | (intro _ _ _ hok) | (intro _ _ hok) | (intro _ hok) | simp only [State.regsOk_mk, State.regsOk_eta])

theorem execDomReqWrite_says (src : Src) (d : Fin 8) (v : Fin 4194304) (s : State) :
    s.Says (Instr.domReqWrite src d v).die (execDomReqWrite src d v s) := by
  refine onWrite_goes _ _ _ _ (.of ?_ ?_)
  · simp only [↓State.domReq_core, State.core_mk, State.core_eta, ↓apply_ite State.core, ite_self, implies_true, eq_self]
  · intro hok
    repeat' (first | with_reducible assumption | with_reducible (apply State.domReq_ok) | with_reducible (apply State.ite_ok) | split | (intro _ _ _ hok) | (intro _ _ hok) | (intro _ hok) | simp only [State.regsOk_mk, State.regsOk_eta])

theorem execP1ReqWrite_says (src : Src) (on : Bool) (s : State) : s.Says (Instr.p1ReqWrite src on).die (execP1ReqWrite src on s) := by
  refine onWrite_goes _ _ _ _ (.of ?_ ?_)
  · simp only [↓State.p1Ask_core, State.core_mk, State.core_eta, ↓apply_ite State.core, ite_self, implies_true, eq_self]
  · intro hok
    repeat' (first | with_reducible assumption | with_reducible (apply State.p1Ask_ok) | with_reducible (apply State.ite_ok) | split | (intro _ _ _ hok) | (intro _ _ hok) | (intro _ hok) | simp only [State.regsOk_mk, State.regsOk_eta])

theorem execDomainPowered_says (d : Fin 8) (k : Fin 24) (s : State) :
    s.Says (Instr.domainPowered d k).die (execDomainPowered d k s) := by
  refine runOn_says _ _ _ (.of ?_ ?_)
  · simp only [↓State.domPowered_core, ↓State.p1Powered_core, State.core_mk, State.core_eta, ↓apply_ite State.core, ite_self, implies_true, eq_self]
  · intro hok
    repeat' (first | with_reducible assumption | with_reducible (apply State.domPowered_ok) | with_reducible (apply State.p1Powered_ok) | with_reducible (apply State.ite_ok) | split | (intro _ _ _ hok) | (intro _ _ hok) | (intro _ hok) | simp only [State.regsOk_mk, State.regsOk_eta])

theorem execLullEntry_says (d : Fin 8) (k : Fin 23) (s : State) : s.Says (Instr.lullEntry d k).die (execLullEntry d k s) := by
  refine onDie_says _ _ _ (.of ?_ ?_)
  · simp only [↓State.setDom_core, State.core_mk, State.core_eta, ↓apply_ite State.core, ite_self, implies_true, eq_self]
  · intro hok
    repeat' (first | with_reducible assumption | with_reducible (apply State.setDom_ok) | with_reducible (apply State.ite_ok) | split | (intro _ _ _ hok) | (intro _ _ hok) | (intro _ hok) | simp only [State.regsOk_mk, State.regsOk_eta])

theorem execLullWake_says (d : Fin 8) (k : Fin 23) (s : State) : s.Says (Instr.lullWake d k).die (execLullWake d k s) := by
  refine onDie_says _ _ _ (.of ?_ ?_)
  · simp only [State.core_mk, State.core_eta, ↓apply_ite State.core, ite_self, implies_true, eq_self]
  · intro hok
    repeat' (first | with_reducible assumption | with_reducible (apply State.ite_ok) | split | (intro _ _ _ hok) | (intro _ _ hok) | (intro _ hok) | simp only [State.regsOk_mk, State.regsOk_eta])

theorem execLullExitDone_says (d : Fin 8) (k : Fin 23) (s : State) :
    s.Says (Instr.lullExitDone d k).die (execLullExitDone d k s) := by
  refine onDie_says _ _ _ (.of ?_ ?_)
  · simp only [↓State.setDom_core, State.core_mk, State.core_eta, ↓apply_ite State.core, ite_self, implies_true, eq_self]
  · intro hok
    repeat' (first | with_reducible assumption | with_reducible (apply State.setDom_ok) | with_reducible (apply State.ite_ok) | split | (intro _ _ _ hok) | (intro _ _ hok) | (intro _ hok) | simp only [State.regsOk_mk, State.regsOk_eta])

theorem execQuadEnWrite_says (src : Src) (d : Fin 8) (q : Fin 16) (en : Bool) (s : State) :
    s.Says (Instr.quadEnWrite src d q en).die (execQuadEnWrite src d q en s) := by
  refine onWrite_goes _ _ _ _ (.of ?_ ?_)
  · simp only [↓State.gated_core, ↓State.setQuadEn_core, State.core_mk, State.core_eta, ↓apply_ite State.core, ite_self, implies_true, eq_self]
  · intro hok
    repeat' (first | with_reducible assumption | with_reducible (apply State.gated_ok) | with_reducible (apply State.setQuadEn_ok) | with_reducible (apply State.ite_ok) | split | (intro _ _ _ hok) | (intro _ _ hok) | (intro _ hok) | simp only [State.regsOk_mk, State.regsOk_eta])

theorem execLaneDetectPulse_says (d : Fin 8) (q : Fin 16) (l : Fin 4) (s : State) :
    s.Says (Instr.laneDetectPulse d q l).die (execLaneDetectPulse d q l s) := by
  refine onDie_says _ _ _ (.of ?_ ?_)
  · simp only [↓State.off_core, State.core_mk, State.core_eta, ↓apply_ite State.core, ite_self, implies_true, eq_self]
  · intro hok
    repeat' (first | with_reducible assumption | with_reducible (apply State.off_ok) | with_reducible (apply State.ite_ok) | split | (intro _ _ _ hok) | (intro _ _ hok) | (intro _ hok) | simp only [State.regsOk_mk, State.regsOk_eta])

theorem execPartnerTerminationSensed_says (d : Fin 8) (q : Fin 16) (l : Fin 4) (s : State) :
    s.Says (Instr.partnerTerminationSensed d q l).die (execPartnerTerminationSensed d q l s) := by
  refine onDie_says _ _ _ (.of ?_ ?_)
  · simp only [↓State.on_core, ↓State.toTrain_core, State.core_mk, State.core_eta, ↓apply_ite State.core, ite_self, implies_true, eq_self]
  · intro hok
    repeat' (first | with_reducible assumption | with_reducible (apply State.on_ok) | with_reducible (apply State.toTrain_ok) | with_reducible (apply State.ite_ok) | split | (intro _ _ _ hok) | (intro _ _ hok) | (intro _ hok) | simp only [State.regsOk_mk, State.regsOk_eta])

theorem execLaneSymbolLock_says (d : Fin 8) (q : Fin 16) (l : Fin 4) (inverted : Bool) (s : State) :
    s.Says (Instr.laneSymbolLock d q l inverted).die (execLaneSymbolLock d q l inverted s) := by
  refine onDie_says _ _ _ (.of ?_ ?_)
  · simp only [↓State.on_core, ↓State.wrB_core, ↓State.toStage_core, State.core_mk, State.core_eta, ↓apply_ite State.core, ite_self, implies_true, eq_self]
  · intro hok
    repeat' (first | with_reducible assumption | with_reducible (apply State.on_ok) | with_reducible (apply State.wrB_ok) | with_reducible (apply State.toStage_ok) | with_reducible (apply State.ite_ok) | split | (intro _ _ _ hok) | (intro _ _ hok) | (intro _ hok) | simp only [State.regsOk_mk, State.regsOk_eta])

theorem execEqEvaluationEnd_says (d : Fin 8) (q : Fin 16) (l : Fin 4) (got : Option Meas) (s : State) :
    s.Says (Instr.eqEvaluationEnd d q l got).die (execEqEvaluationEnd d q l got s) := by
  refine runOn_says _ _ _ (.of ?_ ?_)
  · simp only [↓State.on_core, ↓State.eqEval_core, ↓State.eqEnded_core, State.core_mk, State.core_eta, ↓apply_ite State.core, ite_self, implies_true, eq_self]
  · intro hok
    repeat' (first | with_reducible assumption | with_reducible (apply State.on_ok) | with_reducible (apply State.eqEval_ok) | with_reducible (apply State.eqEnded_ok) | with_reducible (exact State.eqEval_ok' (by assumption) (by assumption)) | (refine State.eqEval_ok' (by assumption) ?_) | with_reducible (apply State.ite_ok) | split | (intro _ _ _ hok) | (intro _ _ hok) | (intro _ hok) | simp only [State.regsOk_mk, State.regsOk_eta])

theorem execEqBudgetExpired_says (d : Fin 8) (q : Fin 16) (l : Fin 4) (s : State) :
    s.Says (Instr.eqBudgetExpired d q l).die (execEqBudgetExpired d q l s) := by
  refine runOn_says _ _ _ (.of ?_ ?_)
  · simp only [↓State.eqFinish_core, ↓State.eqEnded_core, State.core_mk, State.core_eta, ↓apply_ite State.core, ite_self, implies_true, eq_self]
  · intro hok
    repeat' (first | with_reducible assumption | with_reducible (apply State.eqFinish_ok) | with_reducible (apply State.eqEnded_ok) | with_reducible (apply State.ite_ok) | split | (intro _ _ _ hok) | (intro _ _ hok) | (intro _ hok) | simp only [State.regsOk_mk, State.regsOk_eta])

theorem execLaneLockTimeout_says (d : Fin 8) (q : Fin 16) (l : Fin 4) (s : State) :
    s.Says (Instr.laneLockTimeout d q l).die (execLaneLockTimeout d q l s) := by
  refine runOn_says _ _ _ (.of ?_ ?_)
  · simp only [↓State.ev_core, ↓State.laneLost_core, ↓State.laneEnded_core, ↓State.laneAgain_core, ↓State.trainAgain_core, State.core_mk, State.core_eta, ↓apply_ite State.core, ite_self, implies_true, eq_self]
  · intro hok
    repeat' (first | with_reducible assumption | with_reducible (apply State.ev_ok) | with_reducible (apply State.laneLost_ok) | with_reducible (apply State.laneEnded_ok) | with_reducible (apply State.laneAgain_ok) | with_reducible (apply State.trainAgain_ok) | with_reducible (apply State.ite_ok) | split | (intro _ _ _ hok) | (intro _ _ hok) | (intro _ hok) | simp only [State.regsOk_mk, State.regsOk_eta])

theorem execLaneAlignmentFound_says (d : Fin 8) (q : Fin 16) (l : Fin 4) (s : State) :
    s.Says (Instr.laneAlignmentFound d q l).die (execLaneAlignmentFound d q l s) := by
  refine onDie_says _ _ _ (.of ?_ ?_)
  · simp only [↓State.toStage_core, State.core_mk, State.core_eta, ↓apply_ite State.core, ite_self, implies_true, eq_self]
  · intro hok
    repeat' (first | with_reducible assumption | with_reducible (apply State.toStage_ok) | with_reducible (apply State.ite_ok) | split | (intro _ _ _ hok) | (intro _ _ hok) | (intro _ hok) | simp only [State.regsOk_mk, State.regsOk_eta])

theorem execExchangeDone_says (d : Fin 8) (q : Fin 16) (l : Fin 4) (accepted : Bool) (s : State) :
    s.Says (Instr.exchangeDone d q l accepted).die (execExchangeDone d q l accepted s) := by
  refine runOn_says _ _ _ (.of ?_ ?_)
  · simp only [↓State.toStage_core, ↓State.judgeRate_core, ↓State.useFree_core, ↓State.laneAgain_core, ↓State.trainAgain_core, ↓State.laneLost_core, ↓State.laneEnded_core, State.core_mk, State.core_eta, ↓apply_ite State.core, ite_self, implies_true, eq_self]
  · intro hok
    repeat' (first | with_reducible assumption | with_reducible (apply State.toStage_ok) | with_reducible (apply State.judgeRate_ok) | with_reducible (apply State.useFree_ok) | with_reducible (apply State.laneAgain_ok) | with_reducible (apply State.trainAgain_ok) | with_reducible (apply State.laneLost_ok) | with_reducible (apply State.laneEnded_ok) | with_reducible (apply State.ite_ok) | split | (intro _ _ _ hok) | (intro _ _ hok) | (intro _ hok) | simp only [State.regsOk_mk, State.regsOk_eta])

theorem execBarometerRefresh_says (d : Fin 8) (q : Fin 16) (l : Fin 4) (got : Meas) (s : State) :
    s.Says (Instr.barometerRefresh d q l got).die (execBarometerRefresh d q l got s) := by
  refine onDie_says _ _ _ (.of ?_ ?_)
  · simp only [↓State.refreshLane_core, State.core_mk, State.core_eta, ↓apply_ite State.core, ite_self, implies_true, eq_self]
  · intro hok
    repeat' (first | with_reducible assumption | with_reducible (apply State.refreshLane_ok) | with_reducible (apply State.ite_ok) | split | (intro _ _ _ hok) | (intro _ _ hok) | (intro _ hok) | simp only [State.regsOk_mk, State.regsOk_eta])

theorem execLossOfSignal_says (d : Fin 8) (q : Fin 16) (l : Fin 4) (s : State) :
    s.Says (Instr.lossOfSignal d q l).die (execLossOfSignal d q l s) := by
  refine onDie_says _ _ _ (.of ?_ ?_)
  · simp only [↓State.off_core, ↓State.ev_core, ↓State.recover_core, State.core_mk, State.core_eta, ↓apply_ite State.core, ite_self, implies_true, eq_self]
  · intro hok
    repeat' (first | with_reducible assumption | with_reducible (apply State.off_ok) | with_reducible (apply State.ev_ok) | with_reducible (apply State.recover_ok) | with_reducible (apply State.ite_ok) | split | (intro _ _ _ hok) | (intro _ _ hok) | (intro _ hok) | simp only [State.regsOk_mk, State.regsOk_eta])

theorem execFarEndLoopbackRequest_says (d : Fin 8) (q : Fin 16) (l : Fin 4) (s : State) :
    s.Says (Instr.farEndLoopbackRequest d q l).die (execFarEndLoopbackRequest d q l s) := by
  refine onDie_says _ _ _ (.of ?_ ?_)
  · simp only [↓State.toStage_core, ↓State.on_core, State.core_mk, State.core_eta, ↓apply_ite State.core, ite_self, implies_true, eq_self]
  · intro hok
    repeat' (first | with_reducible assumption | with_reducible (apply State.toStage_ok) | with_reducible (apply State.on_ok) | with_reducible (apply State.ite_ok) | split | (intro _ _ _ hok) | (intro _ _ hok) | (intro _ hok) | simp only [State.regsOk_mk, State.regsOk_eta])

theorem execFarEndLoopbackExit_says (d : Fin 8) (q : Fin 16) (l : Fin 4) (s : State) :
    s.Says (Instr.farEndLoopbackExit d q l).die (execFarEndLoopbackExit d q l s) := by
  refine onDie_says _ _ _ (.of ?_ ?_)
  · simp only [↓State.toStage_core, ↓State.off_core, State.core_mk, State.core_eta, ↓apply_ite State.core, ite_self, implies_true, eq_self]
  · intro hok
    repeat' (first | with_reducible assumption | with_reducible (apply State.toStage_ok) | with_reducible (apply State.off_ok) | with_reducible (apply State.ite_ok) | split | (intro _ _ _ hok) | (intro _ _ hok) | (intro _ hok) | simp only [State.regsOk_mk, State.regsOk_eta])

theorem execLoopGoWrite_says (src : Src) (d : Fin 8) (q : Fin 16) (go : Bool) (s : State) :
    s.Says (Instr.loopGoWrite src d q go).die (execLoopGoWrite src d q go s) := by
  refine onWrite_goes _ _ _ _ (.of ?_ ?_)
  · simp only [↓State.gated_core, ↓State.setLoopGo_core, State.core_mk, State.core_eta, ↓apply_ite State.core, ite_self, implies_true, eq_self]
  · intro hok
    repeat' (first | with_reducible assumption | with_reducible (apply State.gated_ok) | with_reducible (apply State.setLoopGo_ok) | with_reducible (apply State.ite_ok) | split | (intro _ _ _ hok) | (intro _ _ hok) | (intro _ hok) | simp only [State.regsOk_mk, State.regsOk_eta])

theorem execCoefficientRequest_says (d : Fin 8) (q : Fin 16) (l : Fin 4) (ask : TxAsk) (s : State) :
    s.Says (Instr.coefficientRequest d q l ask).die (execCoefficientRequest d q l ask s) := by
  refine onDie_says _ _ _ (.of ?_ ?_)
  · simp only [↓State.coefRequest_core, State.core_mk, State.core_eta, ↓apply_ite State.core, ite_self, implies_true, eq_self]
  · intro hok
    repeat' (first | with_reducible assumption | with_reducible (apply State.coefRequest_ok) | with_reducible (apply State.ite_ok) | split | (intro _ _ _ hok) | (intro _ _ hok) | (intro _ hok) | simp only [State.regsOk_mk, State.regsOk_eta])

theorem execCheckEnRise_says (src : Src) (d : Fin 8) (q : Fin 16) (s : State) :
    s.Says (Instr.checkEnRise src d q).die (execCheckEnRise src d q s) := by
  refine onWrite_goes _ _ _ _ (.of ?_ ?_)
  · simp only [↓State.gated_core, ↓State.setCheckEn_core, State.core_mk, State.core_eta, ↓apply_ite State.core, ite_self, implies_true, eq_self]
  · intro hok
    repeat' (first | with_reducible assumption | with_reducible (apply State.gated_ok) | with_reducible (apply State.setCheckEn_ok) | with_reducible (apply State.ite_ok) | split | (intro _ _ _ hok) | (intro _ _ hok) | (intro _ hok) | simp only [State.regsOk_mk, State.regsOk_eta])

theorem execLaneMarginStart_says (src : Src) (d : Fin 8) (q : Fin 16) (ask : MarginAsk) (s : State) :
    s.Says (Instr.laneMarginStart src d q ask).die (execLaneMarginStart src d q ask s) := by
  refine onWrite_goes _ _ _ _ (.of ?_ ?_)
  · simp only [↓State.gated_core, ↓State.marginStart_core, State.core_mk, State.core_eta, ↓apply_ite State.core, ite_self, implies_true, eq_self]
  · intro hok
    repeat' (first | with_reducible assumption | with_reducible (apply State.gated_ok) | with_reducible (apply State.marginStart_ok) | with_reducible (apply State.ite_ok) | split | (intro _ _ _ hok) | (intro _ _ hok) | (intro _ hok) | simp only [State.regsOk_mk, State.regsOk_eta])

theorem execProtocolMarginRequest_says (d : Fin 8) (q : Fin 16) (ask : MarginAsk) (s : State) :
    s.Says (Instr.protocolMarginRequest d q ask).die (execProtocolMarginRequest d q ask s) := by
  refine onDie_says _ _ _ (.of ?_ ?_)
  · simp only [↓State.marginYield_core, ↓State.marginBegin_core, State.core_mk, State.core_eta, ↓apply_ite State.core, ite_self, implies_true, eq_self]
  · intro hok
    repeat' (first | with_reducible assumption | with_reducible (apply State.marginYield_ok) | with_reducible (apply State.marginBegin_ok) | with_reducible (apply State.ite_ok) | split | (intro _ _ _ hok) | (intro _ _ hok) | (intro _ hok) | simp only [State.regsOk_mk, State.regsOk_eta])

theorem execMarginStepDone_says (d : Fin 8) (q : Fin 16) (l : Fin 4) (errors : Nat) (s : State) :
    s.Says (Instr.marginStepDone d q l errors).die (execMarginStepDone d q l errors s) := by
  refine onDie_says _ _ _ (.of ?_ ?_)
  · simp only [↓State.marginStep_core, State.core_mk, State.core_eta, ↓apply_ite State.core, ite_self, implies_true, eq_self]
  · intro hok
    repeat' (first | with_reducible assumption | with_reducible (apply State.marginStep_ok) | with_reducible (apply State.ite_ok) | split | (intro _ _ _ hok) | (intro _ _ hok) | (intro _ hok) | simp only [State.regsOk_mk, State.regsOk_eta])

theorem execBaroMinClear_says (src : Src) (d : Fin 8) (q : Fin 16) (l : Fin 4) (s : State) :
    s.Says (Instr.baroMinClear src d q l).die (execBaroMinClear src d q l s) := by
  refine onWrite_goes _ _ _ _ (.of ?_ ?_)
  · simp only [↓State.gated_core, ↓State.clearBaroMin_core, State.core_mk, State.core_eta, ↓apply_ite State.core, ite_self, implies_true, eq_self]
  · intro hok
    repeat' (first | with_reducible assumption | with_reducible (apply State.gated_ok) | with_reducible (apply State.clearBaroMin_ok) | with_reducible (apply State.ite_ok) | split | (intro _ _ _ hok) | (intro _ _ hok) | (intro _ hok) | simp only [State.regsOk_mk, State.regsOk_eta])

theorem execBaroThrWrite_says (src : Src) (d : Fin 8) (q : Fin 16) (pam4 : Bool) (accept target degrade fail : Fin 256) (s : State) :
    s.Says (Instr.baroThrWrite src d q pam4 accept target degrade fail).die (execBaroThrWrite src d q pam4 accept target degrade fail s) := by
  refine onWrite_goes _ _ _ _ (.of ?_ ?_)
  · simp only [↓State.gated_core, ↓State.setBaroThr_core, State.core_mk, State.core_eta, ↓apply_ite State.core, ite_self, implies_true, eq_self]
  · intro hok
    repeat' (first | with_reducible assumption | with_reducible (apply State.gated_ok) | with_reducible (apply State.setBaroThr_ok) | with_reducible (apply State.ite_ok) | split | (intro _ _ _ hok) | (intro _ _ hok) | (intro _ hok) | simp only [State.regsOk_mk, State.regsOk_eta])

theorem execPortTrainingStart_says (d : Fin 8) (q : Fin 16) (s : State) :
    s.Says (Instr.portTrainingStart d q).die (execPortTrainingStart d q s) := by
  refine onDie_says _ _ _ (.of ?_ ?_)
  · simp only [↓State.trainingStart_core, State.core_mk, State.core_eta, ↓apply_ite State.core, ite_self, implies_true, eq_self]
  · intro hok
    repeat' (first | with_reducible assumption | with_reducible (apply State.trainingStart_ok) | with_reducible (apply State.ite_ok) | split | (intro _ _ _ hok) | (intro _ _ hok) | (intro _ hok) | simp only [State.regsOk_mk, State.regsOk_eta])

theorem execProtocolNegotiationEnd_says (d : Fin 8) (q : Fin 16) (offer : Offer) (s : State) :
    s.Says (Instr.protocolNegotiationEnd d q offer).die (execProtocolNegotiationEnd d q offer s) := by
  refine runOn_says _ _ _ (.of ?_ ?_)
  · simp only [↓State.negotiate_core, State.core_mk, State.core_eta, ↓apply_ite State.core, ite_self, implies_true, eq_self]
  · intro hok
    repeat' (first | with_reducible assumption | with_reducible (apply State.negotiate_ok) | with_reducible (apply State.ite_ok) | split | (intro _ _ _ hok) | (intro _ _ hok) | (intro _ hok) | simp only [State.regsOk_mk, State.regsOk_eta])

theorem execNegFailRetry_says (d : Fin 8) (q : Fin 16) (s : State) :
    s.Says (Instr.negFailRetry d q).die (execNegFailRetry d q s) := by
  refine onDie_says _ _ _ (.of ?_ ?_)
  · simp only [↓State.updPort_core, State.core_mk, State.core_eta, ↓apply_ite State.core, ite_self, implies_true, eq_self]
  · intro hok
    repeat' (first | with_reducible assumption | with_reducible (apply State.updPort_ok) | with_reducible (apply State.ite_ok) | split | (intro _ _ _ hok) | (intro _ _ hok) | (intro _ hok) | simp only [State.regsOk_mk, State.regsOk_eta])

theorem execDlActive_says (d : Fin 8) (up : LinkUp) (s : State) : s.Says (Instr.dlActive d up).die (execDlActive d up s) := by
  refine runOn_says _ _ _ (.of ?_ ?_)
  · simp only [↓State.flush_core, ↓State.dlActive_core, State.core_mk, State.core_eta, ↓apply_ite State.core, ite_self, implies_true, eq_self]
  · intro hok
    repeat' (first | with_reducible assumption | with_reducible (apply State.flush_ok) | with_reducible (apply State.dlActive_ok) | with_reducible (apply State.ite_ok) | split | (intro _ _ _ hok) | (intro _ _ hok) | (intro _ hok) | simp only [State.regsOk_mk, State.regsOk_eta])

theorem execIdentityReadDone_says (d : Fin 8) (q : Fin 16) (walk : List (Option (BitVec 64))) (caps : List Nat) (s : State) :
    s.Says (Instr.identityReadDone d q walk caps).die (execIdentityReadDone d q walk caps s) := by
  refine runOn_says _ _ _ (.of ?_ ?_)
  · simp only [↓State.putCaps_core, ↓State.identityKnown_core, State.core_mk, State.core_eta, ↓apply_ite State.core, ite_self, implies_true, eq_self]
  · intro hok
    repeat' (first | with_reducible assumption | with_reducible (apply State.putCaps_ok) | with_reducible (apply State.identityKnown_ok) | with_reducible (apply State.ite_ok) | split | (intro _ _ _ hok) | (intro _ _ hok) | (intro _ hok) | simp only [State.regsOk_mk, State.regsOk_eta])

theorem execIdentityReadTimeout_says (d : Fin 8) (q : Fin 16) (s : State) :
    s.Says (Instr.identityReadTimeout d q).die (execIdentityReadTimeout d q s) := by
  refine runOn_says _ _ _ (.of ?_ ?_)
  · simp only [↓State.identityKnown_core, State.core_mk, State.core_eta, ↓apply_ite State.core, ite_self, implies_true, eq_self]
  · intro hok
    repeat' (first | with_reducible assumption | with_reducible (apply State.identityKnown_ok) | with_reducible (apply State.ite_ok) | split | (intro _ _ _ hok) | (intro _ _ hok) | (intro _ hok) | simp only [State.regsOk_mk, State.regsOk_eta])

theorem execLinkDown_says (d : Fin 8) (q : Fin 16) (cause : DownCause) (unacked : List Msg) (s : State) :
    s.Says (Instr.linkDown d q cause unacked).die (execLinkDown d q cause unacked s) := by
  refine runOn_says _ _ _ (.of ?_ ?_)
  · simp only [↓State.linkDown_core, State.core_mk, State.core_eta, ↓apply_ite State.core, ite_self, implies_true, eq_self]
  · intro hok
    repeat' (first | with_reducible assumption | with_reducible (apply State.linkDown_ok) | with_reducible (apply State.ite_ok) | split | (intro _ _ _ hok) | (intro _ _ hok) | (intro _ hok) | simp only [State.regsOk_mk, State.regsOk_eta])

theorem execCellarHoldExpiry_says (d : Fin 8) (q : Fin 16) (s : State) :
    s.Says (Instr.cellarHoldExpiry d q).die (execCellarHoldExpiry d q s) := by
  refine runOn_says _ _ _ (.of ?_ ?_)
  · simp only [↓State.flush_core, State.core_mk, State.core_eta, ↓apply_ite State.core, ite_self, implies_true, eq_self]
  · intro hok
    repeat' (first | with_reducible assumption | with_reducible (apply State.flush_ok) | with_reducible (apply State.ite_ok) | split | (intro _ _ _ hok) | (intro _ _ hok) | (intro _ hok) | simp only [State.regsOk_mk, State.regsOk_eta])

theorem execFlushNow_says (src : Src) (d : Fin 8) (q : Fin 16) (s : State) :
    s.Says (Instr.flushNow src d q).die (execFlushNow src d q s) := by
  unfold execFlushNow
  split
  · exact onWrite_goes _ _ _ _ (.of (State.flush_core _ _) (State.flush_ok _ _))
  · exact onVoid_goes _ _ _

theorem execPtRetrain_says (src : Src) (d : Fin 8) (q : Fin 16) (unacked : List Msg) (s : State) :
    s.Says (Instr.ptRetrain src d q unacked).die (execPtRetrain src d q unacked s) := by
  refine onWrite_goes _ _ _ _ (.of ?_ ?_)
  · simp only [↓State.gated_core, ↓State.retrainPort_core, State.core_mk, State.core_eta, ↓apply_ite State.core, ite_self, implies_true, eq_self]
  · intro hok
    repeat' (first | with_reducible assumption | with_reducible (apply State.gated_ok) | with_reducible (apply State.retrainPort_ok) | with_reducible (apply State.ite_ok) | split | (intro _ _ _ hok) | (intro _ _ hok) | (intro _ hok) | simp only [State.regsOk_mk, State.regsOk_eta])

theorem execPortEnWrite_says (src : Src) (d : Fin 8) (q : Fin 16) (en : Bool) (s : State) :
    s.Says (Instr.portEnWrite src d q en).die (execPortEnWrite src d q en s) := by
  refine onWrite_goes _ _ _ _ (.of ?_ ?_)
  · simp only [↓State.gated_core, ↓State.setPortEn_core, State.core_mk, State.core_eta, ↓apply_ite State.core, ite_self, implies_true, eq_self]
  · intro hok
    repeat' (first | with_reducible assumption | with_reducible (apply State.gated_ok) | with_reducible (apply State.setPortEn_ok) | with_reducible (apply State.ite_ok) | split | (intro _ _ _ hok) | (intro _ _ hok) | (intro _ hok) | simp only [State.regsOk_mk, State.regsOk_eta])

theorem execL0pWidthChange_says (d : Fin 8) (q : Fin 16) (width : Fin 17) (s : State) :
    s.Says (Instr.l0pWidthChange d q width).die (execL0pWidthChange d q width s) := by
  refine onDie_says _ _ _ (.of ?_ ?_)
  · simp only [↓State.wr_core, ↓State.wrB_core, ↓State.ev_core, State.core_mk, State.core_eta, ↓apply_ite State.core, ite_self, implies_true, eq_self]
  · intro hok
    repeat' (first | with_reducible assumption | with_reducible (apply State.wr_ok) | with_reducible (apply State.wrB_ok) | with_reducible (apply State.ev_ok) | with_reducible (apply State.ite_ok) | split | (intro _ _ _ hok) | (intro _ _ hok) | (intro _ hok) | simp only [State.regsOk_mk, State.regsOk_eta])

theorem execHostPerstAssert_says (d : Fin 8) (q : Fin 16) (hotReset : Bool) (s : State) :
    s.Says (Instr.hostPerstAssert d q hotReset).die (execHostPerstAssert d q hotReset s) := by
  refine runOn_says _ _ _ (.of ?_ ?_)
  · simp only [↓State.hostPerst_core, State.core_mk, State.core_eta, ↓apply_ite State.core, ite_self, implies_true, eq_self]
  · intro hok
    repeat' (first | with_reducible assumption | with_reducible (apply State.hostPerst_ok) | with_reducible (apply State.ite_ok) | split | (intro _ _ _ hok) | (intro _ _ hok) | (intro _ hok) | simp only [State.regsOk_mk, State.regsOk_eta])

theorem execFlitSend_says (d : Fin 8) (t : Fin 7) (s : State) : s.Says (Instr.flitSend d t).die (execFlitSend d t s) := by
  refine runOn_says _ _ _ (.of ?_ ?_)
  · simp only [↓State.atActive_core, ↓State.sendFlit_core, State.core_mk, State.core_eta, ↓apply_ite State.core, ite_self, implies_true, eq_self]
  · intro hok
    repeat' (first | with_reducible assumption | with_reducible (apply State.atActive_ok) | with_reducible (apply State.sendFlit_ok) | with_reducible (apply State.ite_ok) | split | (intro _ _ _ hok) | (intro _ _ hok) | (intro _ hok) | simp only [State.regsOk_mk, State.regsOk_eta])

theorem execFlitReceive_says (d : Fin 8) (t : Fin 7) (f : Flit) (e0 e1 : Nat) (s : State) :
    s.Says (Instr.flitReceive d t f e0 e1).die (execFlitReceive d t f e0 e1 s) := by
  refine runOn_says _ _ _ (.of ?_ ?_)
  · simp only [↓State.atActive_core, ↓State.takeFlit_core, State.core_mk, State.core_eta, ↓apply_ite State.core, ite_self, implies_true, eq_self]
  · intro hok
    repeat' (first | with_reducible assumption | with_reducible (apply State.atActive_ok) | with_reducible (apply State.takeFlit_ok) | with_reducible (apply State.ite_ok) | split | (intro _ _ _ hok) | (intro _ _ hok) | (intro _ hok) | simp only [State.regsOk_mk, State.regsOk_eta])

theorem execReplayReqReceive_says (d : Fin 8) (t : Fin 7) (req : ReplayReq) (s : State) :
    s.Says (Instr.replayReqReceive d t req).die (execReplayReqReceive d t req s) := by
  refine onDie_says _ _ _ (.of ?_ ?_)
  · simp only [↓State.atActive_core, ↓State.takeAck_core, ↓State.takeCredit_core, ↓State.replayFrom_core, State.core_mk, State.core_eta, ↓apply_ite State.core, ite_self, implies_true, eq_self]
  · intro hok
    repeat' (first | with_reducible assumption | with_reducible (apply State.atActive_ok) | with_reducible (apply State.takeAck_ok) | with_reducible (apply State.takeCredit_ok) | with_reducible (apply State.replayFrom_ok) | with_reducible (apply State.ite_ok) | split | (intro _ _ _ hok) | (intro _ _ hok) | (intro _ hok) | simp only [State.regsOk_mk, State.regsOk_eta])

theorem execReplayTimeout_says (d : Fin 8) (t : Fin 7) (s : State) :
    s.Says (Instr.replayTimeout d t).die (execReplayTimeout d t s) := by
  refine onDie_says _ _ _ (.of ?_ ?_)
  · simp only [↓State.atActive_core, ↓State.updSite_core, State.core_mk, State.core_eta, ↓apply_ite State.core, ite_self, implies_true, eq_self]
  · intro hok
    repeat' (first | with_reducible assumption | with_reducible (apply State.atActive_ok) | with_reducible (apply State.updSite_ok) | with_reducible (apply State.ite_ok) | split | (intro _ _ _ hok) | (intro _ _ hok) | (intro _ hok) | simp only [State.regsOk_mk, State.regsOk_eta])

theorem execAckTimer_says (d : Fin 8) (t : Fin 7) (s : State) : s.Says (Instr.ackTimer d t).die (execAckTimer d t s) := by
  refine onDie_says _ _ _ (.of ?_ ?_)
  · simp only [↓State.atActive_core, ↓State.updSite_core, State.core_mk, State.core_eta, ↓apply_ite State.core, ite_self, implies_true, eq_self]
  · intro hok
    repeat' (first | with_reducible assumption | with_reducible (apply State.atActive_ok) | with_reducible (apply State.updSite_ok) | with_reducible (apply State.ite_ok) | split | (intro _ _ _ hok) | (intro _ _ hok) | (intro _ hok) | simp only [State.regsOk_mk, State.regsOk_eta])

theorem execDroughtSuspicion_says (d : Fin 8) (t : Fin 7) (c : Fin 12) (s : State) :
    s.Says (Instr.droughtSuspicion d t c).die (execDroughtSuspicion d t c s) := by
  refine onDie_says _ _ _ (.of ?_ ?_)
  · simp only [↓State.atActive_core, ↓State.updSite_core, State.core_mk, State.core_eta, ↓apply_ite State.core, ite_self, implies_true, eq_self]
  · intro hok
    repeat' (first | with_reducible assumption | with_reducible (apply State.atActive_ok) | with_reducible (apply State.updSite_ok) | with_reducible (apply State.ite_ok) | split | (intro _ _ _ hok) | (intro _ _ hok) | (intro _ hok) | simp only [State.regsOk_mk, State.regsOk_eta])

theorem execAuditCommandReceive_says (d : Fin 8) (t : Fin 7) (c : Fin 12) (s : State) :
    s.Says (Instr.auditCommandReceive d t c).die (execAuditCommandReceive d t c s) := by
  refine onDie_says _ _ _ (.of ?_ ?_)
  · simp only [↓State.atActive_core, ↓State.auditCmd_core, State.core_mk, State.core_eta, ↓apply_ite State.core, ite_self, implies_true, eq_self]
  · intro hok
    repeat' (first | with_reducible assumption | with_reducible (apply State.atActive_ok) | with_reducible (apply State.auditCmd_ok) | with_reducible (apply State.ite_ok) | split | (intro _ _ _ hok) | (intro _ _ hok) | (intro _ hok) | simp only [State.regsOk_mk, State.regsOk_eta])

theorem execAuditReplyReceive_says (d : Fin 8) (t : Fin 7) (c : Fin 12) (freeH retH freeD retD : Fin 65536) (s : State) :
    s.Says (Instr.auditReplyReceive d t c freeH retH freeD retD).die (execAuditReplyReceive d t c freeH retH freeD retD s) := by
  refine onDie_says _ _ _ (.of ?_ ?_)
  · simp only [↓State.atActive_core, ↓State.auditRep_core, State.core_mk, State.core_eta, ↓apply_ite State.core, ite_self, implies_true, eq_self]
  · intro hok
    repeat' (first | with_reducible assumption | with_reducible (apply State.atActive_ok) | with_reducible (apply State.auditRep_ok) | with_reducible (apply State.ite_ok) | split | (intro _ _ _ hok) | (intro _ _ hok) | (intro _ hok) | simp only [State.regsOk_mk, State.regsOk_eta])

end Sys2Proof.Machine
end

