-- ==== Sys2Proof/Laws/Commands1.lean ====
section
/-! SUPPORT. What each command answers (part 2 of 4): a next state of the same part with the same commands waiting and no life-cycle
fuse made whole. -/

namespace Sys2Proof.Machine
set_option linter.unusedSimpArgs false
set_option linter.unusedVariables false
set_option linter.unreachableTactic false
set_option linter.unusedTactic false

theorem execCasubBaroRefresh_says (d : Fin 8) (t : Fin 7) (got : List (Option Meas)) (s : State) :
    s.Says (Instr.casubBaroRefresh d t got).die (execCasubBaroRefresh d t got s) := by
  refine runOn_says _ _ _ (.of ?_ ?_)
  · simp only [↓State.measured_core, ↓State.showSpares_core, ↓State.reeval_core, State.core_mk, State.core_eta, ↓apply_ite State.core, ite_self, implies_true, eq_self]
  · intro hok
    repeat' (first | with_reducible assumption | with_reducible (apply State.measured_ok) | with_reducible (apply State.showSpares_ok) | with_reducible (apply State.reeval_ok) | with_reducible (apply State.ite_ok) | split | (intro _ _ _ hok) | (intro _ _ hok) | (intro _ hok) | simp only [State.regsOk_mk, State.regsOk_eta])

theorem execMapChangeCmdReceive_says (d : Fin 8) (t : Fin 7) (map : LaneMap) (s : State) :
    s.Says (Instr.mapChangeCmdReceive d t map).die (execMapChangeCmdReceive d t map s) := by
  refine onDie_says _ _ _ (.of ?_ ?_)
  · simp only [↓State.atActive_core, ↓State.newTxMap_core, State.core_mk, State.core_eta, ↓apply_ite State.core, ite_self, implies_true, eq_self]
  · intro hok
    repeat' (first | with_reducible assumption | with_reducible (apply State.atActive_ok) | with_reducible (apply State.newTxMap_ok) | with_reducible (apply State.ite_ok) | split | (intro _ _ _ hok) | (intro _ _ hok) | (intro _ hok) | simp only [State.regsOk_mk, State.regsOk_eta])

theorem execMarkerReceive_says (d : Fin 8) (t : Fin 7) (words : List (BitVec 64)) (s : State) :
    s.Says (Instr.markerReceive d t words).die (execMarkerReceive d t words s) := by
  refine runOn_says _ _ _ (.of ?_ ?_)
  · simp only [↓State.atActive_core, ↓State.markerCame_core, State.core_mk, State.core_eta, ↓apply_ite State.core, ite_self, implies_true, eq_self]
  · intro hok
    repeat' (first | with_reducible assumption | with_reducible (apply State.atActive_ok) | with_reducible (apply State.markerCame_ok) | with_reducible (apply State.ite_ok) | split | (intro _ _ _ hok) | (intro _ _ hok) | (intro _ hok) | simp only [State.regsOk_mk, State.regsOk_eta])

theorem execPeriodicMarker_says (d : Fin 8) (t : Fin 7) (s : State) :
    s.Says (Instr.periodicMarker d t).die (execPeriodicMarker d t s) := by
  refine onDie_says _ _ _ (.of (State.atActive_core _ _ _ _ fun s => ?_) (State.atActive_ok _ _ _ _ fun s hok => ?_))
  · split
    · split
      · exact (State.emit_core _ _).trans (State.updSite_core _ _ _ _)
      · rfl
    · rfl
  · split
    · split
      · exact State.emit_ok _ _ (State.updSite_ok _ _ _ _ hok)
      · exact hok
    · exact hok

theorem execSiteEnWrite_says (src : Src) (d : Fin 8) (t : Fin 7) (en : Bool) (s : State) :
    s.Says (Instr.siteEnWrite src d t en).die (execSiteEnWrite src d t en s) := by
  refine onWrite_goes _ _ _ _ (.of ?_ ?_)
  · simp only [↓State.gated_core, ↓State.setSiteEn_core, State.core_mk, State.core_eta, ↓apply_ite State.core, ite_self, implies_true, eq_self]
  · intro hok
    repeat' (first | with_reducible assumption | with_reducible (apply State.gated_ok) | with_reducible (apply State.setSiteEn_ok) | with_reducible (apply State.ite_ok) | split | (intro _ _ _ hok) | (intro _ _ hok) | (intro _ hok) | simp only [State.regsOk_mk, State.regsOk_eta])

theorem execSiteCalibrateDone_says (d : Fin 8) (t : Fin 7) (got : List (Option Meas)) (s : State) :
    s.Says (Instr.siteCalibrateDone d t got).die (execSiteCalibrateDone d t got s) := by
  refine runOn_says _ _ _ (.of ?_ ?_)
  · dsimp only
    repeat' split
    all_goals simp only [↓State.measured_core, ↓State.useMap_core, ↓State.toSite_core, ↓State.calibFailed_core, State.core_mk, State.core_eta, ↓apply_ite State.core, ite_self, implies_true, eq_self]
  · intro hok
    repeat' (first | with_reducible assumption | with_reducible (apply State.measured_ok) | with_reducible (apply State.useMap_ok) | with_reducible (apply State.toSite_ok) | with_reducible (apply State.calibFailed_ok) | with_reducible (apply State.ite_ok) | split | (intro _ _ _ hok) | (intro _ _ hok) | (intro _ hok) | simp only [State.regsOk_mk, State.regsOk_eta])

theorem execSiteCalibrateTimeout_says (d : Fin 8) (t : Fin 7) (s : State) :
    s.Says (Instr.siteCalibrateTimeout d t).die (execSiteCalibrateTimeout d t s) := by
  refine runOn_says _ _ _ (.of ?_ ?_)
  · simp only [↓State.calibFailed_core, State.core_mk, State.core_eta, ↓apply_ite State.core, ite_self, implies_true, eq_self]
  · intro hok
    repeat' (first | with_reducible assumption | with_reducible (apply State.calibFailed_ok) | with_reducible (apply State.ite_ok) | split | (intro _ _ _ hok) | (intro _ _ hok) | (intro _ hok) | simp only [State.regsOk_mk, State.regsOk_eta])

theorem execSiteAlignFound_says (d : Fin 8) (t : Fin 7) (delay : Fin 65536) (s : State) :
    s.Says (Instr.siteAlignFound d t delay).die (execSiteAlignFound d t delay s) := by
  refine onDie_says _ _ _ (.of ?_ ?_)
  · simp only [↓State.on_core, ↓State.wr_core, ↓State.enterInit_core, State.core_mk, State.core_eta, ↓apply_ite State.core, ite_self, implies_true, eq_self]
  · intro hok
    repeat' (first | with_reducible assumption | with_reducible (apply State.on_ok) | with_reducible (apply State.wr_ok) | with_reducible (apply State.enterInit_ok) | with_reducible (apply State.ite_ok) | split | (intro _ _ _ hok) | (intro _ _ hok) | (intro _ hok) | simp only [State.regsOk_mk, State.regsOk_eta])

theorem execSiteAlignTimeout_says (d : Fin 8) (t : Fin 7) (s : State) :
    s.Says (Instr.siteAlignTimeout d t).die (execSiteAlignTimeout d t s) := by
  refine onDie_says _ _ _ (.of ?_ ?_)
  · simp only [↓State.siteCalibrate_core, State.core_mk, State.core_eta, ↓apply_ite State.core, ite_self, implies_true, eq_self]
  · intro hok
    repeat' (first | with_reducible assumption | with_reducible (apply State.siteCalibrate_ok) | with_reducible (apply State.ite_ok) | split | (intro _ _ _ hok) | (intro _ _ hok) | (intro _ hok) | simp only [State.regsOk_mk, State.regsOk_eta])

theorem execSiteInitExchange_says (d : Fin 8) (t : Fin 7) (peerDie : Fin 8) (peerSite : PeerSite) (adv : List Nat) (rxExp : Fin 1024) (s : State) :
    s.Says (Instr.siteInitExchange d t peerDie peerSite adv rxExp).die (execSiteInitExchange d t peerDie peerSite adv rxExp s) := by
  refine runOn_says _ _ _ (.of ?_ ?_)
  · dsimp only
    repeat' split
    all_goals simp only [↓State.updSite_core, ↓State.initSite_core, ↓State.evC_core, ↓State.siteDown_core, ↓State.push_core, ↓State.fence_core, State.core_mk, State.core_eta, ↓apply_ite State.core, ite_self, implies_true, eq_self]
  · intro hok
    repeat' (first | with_reducible assumption | with_reducible (apply State.updSite_ok) | with_reducible (apply State.initSite_ok) | with_reducible (apply State.evC_ok) | with_reducible (apply State.siteDown_ok) | with_reducible (apply State.push_ok) | with_reducible (apply State.fence_ok) | with_reducible (apply State.ite_ok) | split | (intro _ _ _ hok) | (intro _ _ hok) | (intro _ hok) | simp only [State.regsOk_mk, State.regsOk_eta])

theorem execSiteInitTimeout_says (d : Fin 8) (t : Fin 7) (s : State) :
    s.Says (Instr.siteInitTimeout d t).die (execSiteInitTimeout d t s) := by
  refine onDie_says _ _ _ (.of ?_ ?_)
  · simp only [↓State.siteCalibrate_core, State.core_mk, State.core_eta, ↓apply_ite State.core, ite_self, implies_true, eq_self]
  · intro hok
    repeat' (first | with_reducible assumption | with_reducible (apply State.siteCalibrate_ok) | with_reducible (apply State.ite_ok) | split | (intro _ _ _ hok) | (intro _ _ hok) | (intro _ hok) | simp only [State.regsOk_mk, State.regsOk_eta])

theorem execClRetrain_says (src : Src) (d : Fin 8) (t : Fin 7) (s : State) :
    s.Says (Instr.clRetrain src d t).die (execClRetrain src d t s) := by
  refine onWrite_goes _ _ _ _ (.of ?_ ?_)
  · simp only [↓State.gated_core, ↓State.siteRetrain_core, State.core_mk, State.core_eta, ↓apply_ite State.core, ite_self, implies_true, eq_self]
  · intro hok
    repeat' (first | with_reducible assumption | with_reducible (apply State.gated_ok) | with_reducible (apply State.siteRetrain_ok) | with_reducible (apply State.ite_ok) | split | (intro _ _ _ hok) | (intro _ _ hok) | (intro _ hok) | simp only [State.regsOk_mk, State.regsOk_eta])

theorem execClRetire_says (src : Src) (d : Fin 8) (t : Fin 7) (s : State) :
    s.Says (Instr.clRetire src d t).die (execClRetire src d t s) := by
  refine onWrite_goes _ _ _ _ (.of ?_ ?_)
  · simp only [↓State.gated_core, ↓State.retireSite_core, State.core_mk, State.core_eta, ↓apply_ite State.core, ite_self, implies_true, eq_self]
  · intro hok
    repeat' (first | with_reducible assumption | with_reducible (apply State.gated_ok) | with_reducible (apply State.retireSite_ok) | with_reducible (apply State.ite_ok) | split | (intro _ _ _ hok) | (intro _ _ hok) | (intro _ hok) | simp only [State.regsOk_mk, State.regsOk_eta])

theorem execClRevive_says (src : Src) (d : Fin 8) (t : Fin 7) (s : State) :
    s.Says (Instr.clRevive src d t).die (execClRevive src d t s) := by
  refine onWrite_goes _ _ _ _ (.of ?_ ?_)
  · simp only [↓State.gated_core, ↓State.reviveSite_core, State.core_mk, State.core_eta, ↓apply_ite State.core, ite_self, implies_true, eq_self]
  · intro hok
    repeat' (first | with_reducible assumption | with_reducible (apply State.gated_ok) | with_reducible (apply State.reviveSite_ok) | with_reducible (apply State.ite_ok) | split | (intro _ _ _ hok) | (intro _ _ hok) | (intro _ hok) | simp only [State.regsOk_mk, State.regsOk_eta])

theorem execHoldUsExpiry_says (d : Fin 8) (t : Fin 7) (s : State) : s.Says (Instr.holdUsExpiry d t).die (execHoldUsExpiry d t s) := by
  refine runOn_says _ _ _ (.of ?_ ?_)
  · simp only [↓State.holdExpired_core, State.core_mk, State.core_eta, ↓apply_ite State.core, ite_self, implies_true, eq_self]
  · intro hok
    repeat' (first | with_reducible assumption | with_reducible (apply State.holdExpired_ok) | with_reducible (apply State.ite_ok) | split | (intro _ _ _ hok) | (intro _ _ hok) | (intro _ hok) | simp only [State.regsOk_mk, State.regsOk_eta])

theorem execHandoverQueryReceive_says (d : Fin 8) (t : Fin 7) (s : State) :
    s.Says (Instr.handoverQueryReceive d t).die (execHandoverQueryReceive d t s) := by
  refine onDie_says _ _ _ (.of ?_ ?_)
  · simp only [↓State.updSite_core, ↓State.emit_core, State.core_mk, State.core_eta, ↓apply_ite State.core, ite_self, implies_true, eq_self]
  · intro hok
    repeat' (first | with_reducible assumption | with_reducible (apply State.updSite_ok) | with_reducible (apply State.emit_ok) | with_reducible (apply State.ite_ok) | split | (intro _ _ _ hok) | (intro _ _ hok) | (intro _ hok) | simp only [State.regsOk_mk, State.regsOk_eta])

theorem execHandoverReplyReceive_says (d : Fin 8) (t : Fin 7) (rxExp : Fin 1024) (s : State) :
    s.Says (Instr.handoverReplyReceive d t rxExp).die (execHandoverReplyReceive d t rxExp s) := by
  refine runOn_says _ _ _ (.of ?_ ?_)
  · simp only [↓State.finishHandOver_core, State.core_mk, State.core_eta, ↓apply_ite State.core, ite_self, implies_true, eq_self]
  · intro hok
    repeat' (first | with_reducible assumption | with_reducible (apply State.finishHandOver_ok) | with_reducible (apply State.ite_ok) | split | (intro _ _ _ hok) | (intro _ _ hok) | (intro _ hok) | simp only [State.regsOk_mk, State.regsOk_eta])

theorem execRelayReturn_says (d : Fin 8) (t : Fin 7) (s : State) : s.Says (Instr.relayReturn d t).die (execRelayReturn d t s) := by
  refine onDie_says _ _ _ (.of ?_ ?_)
  · simp only [↓State.atActive_core, ↓State.returnStreams_core, State.core_mk, State.core_eta, ↓apply_ite State.core, ite_self, implies_true, eq_self]
  · intro hok
    repeat' (first | with_reducible assumption | with_reducible (apply State.atActive_ok) | with_reducible (apply State.returnStreams_ok) | with_reducible (apply State.ite_ok) | split | (intro _ _ _ hok) | (intro _ _ hok) | (intro _ hok) | simp only [State.regsOk_mk, State.regsOk_eta])

theorem execMessageArrival_says (d : Fin 8) (input : Fin 32) (m : Msg) (own : Option (Fin 128)) (s : State) :
    s.Says (Instr.messageArrival d input m own).die (execMessageArrival d input m own s) := by
  refine runOn_says _ _ _ (.of ?_ ?_)
  · simp only [↓State.biConflict_core, ↓State.overflow_core, ↓State.arrive_core, State.core_mk, State.core_eta, ↓apply_ite State.core, ite_self, implies_true, eq_self]
  · intro hok
    repeat' (first | with_reducible assumption | with_reducible (apply State.biConflict_ok) | with_reducible (apply State.overflow_ok) | with_reducible (apply State.arrive_ok) | with_reducible (apply State.ite_ok) | split | (intro _ _ _ hok) | (intro _ _ hok) | (intro _ hok) | simp only [State.regsOk_mk, State.regsOk_eta])

theorem execCrossbarMatch_says (d : Fin 8) (full : List NoRoom) (errs : List CellRead) (s : State) :
    s.Says (Instr.crossbarMatch d full errs).die (execCrossbarMatch d full errs s) := by
  refine runOn_says _ _ _ (.of ?_ ?_)
  · simp only [↓State.cellTime_core, State.core_mk, State.core_eta, ↓apply_ite State.core, ite_self, implies_true, eq_self]
  · intro hok
    repeat' (first | with_reducible assumption | with_reducible (apply State.cellTime_ok) | with_reducible (apply State.ite_ok) | split | (intro _ _ _ hok) | (intro _ _ hok) | (intro _ hok) | simp only [State.regsOk_mk, State.regsOk_eta])

theorem execXbGrpRead_says (src : Src) (d : Fin 8) (index : Fin 4096) (s : State) :
    s.Says (Instr.xbGrpRead src d index).die (execXbGrpRead src d index s) := by
  refine onWrite_goes _ _ _ _ (.of ?_ ?_)
  · simp only [↓State.grpOp_core, State.core_mk, State.core_eta, ↓apply_ite State.core, ite_self, implies_true, eq_self]
  · intro hok
    repeat' (first | with_reducible assumption | with_reducible (apply State.grpOp_ok) | with_reducible (apply State.ite_ok) | split | (intro _ _ _ hok) | (intro _ _ hok) | (intro _ hok) | simp only [State.regsOk_mk, State.regsOk_eta])

theorem execXbGrpWrite_says (src : Src) (d : Fin 8) (index : Fin 4096) (s : State) :
    s.Says (Instr.xbGrpWrite src d index).die (execXbGrpWrite src d index s) := by
  refine onWrite_goes _ _ _ _ (.of ?_ ?_)
  · simp only [↓State.grpOp_core, State.core_mk, State.core_eta, ↓apply_ite State.core, ite_self, implies_true, eq_self]
  · intro hok
    repeat' (first | with_reducible assumption | with_reducible (apply State.grpOp_ok) | with_reducible (apply State.ite_ok) | split | (intro _ _ _ hok) | (intro _ _ hok) | (intro _ hok) | simp only [State.regsOk_mk, State.regsOk_eta])

theorem execXbGrpClear_says (src : Src) (d : Fin 8) (index : Fin 4096) (s : State) :
    s.Says (Instr.xbGrpClear src d index).die (execXbGrpClear src d index s) := by
  refine onWrite_goes _ _ _ _ (.of ?_ ?_)
  · simp only [↓State.grpOp_core, State.core_mk, State.core_eta, ↓apply_ite State.core, ite_self, implies_true, eq_self]
  · intro hok
    repeat' (first | with_reducible assumption | with_reducible (apply State.grpOp_ok) | with_reducible (apply State.ite_ok) | split | (intro _ _ _ hok) | (intro _ _ hok) | (intro _ hok) | simp only [State.regsOk_mk, State.regsOk_eta])

theorem execXbCommit_says (src : Src) (d : Fin 8) (s : State) : s.Says (Instr.xbCommit src d).die (execXbCommit src d s) := by
  refine onWrite_goes _ _ _ _ (.of ?_ ?_)
  · simp only [↓State.xbCommit_core, State.core_mk, State.core_eta, ↓apply_ite State.core, ite_self, implies_true, eq_self]
  · intro hok
    repeat' (first | with_reducible assumption | with_reducible (apply State.xbCommit_ok) | with_reducible (apply State.ite_ok) | split | (intro _ _ _ hok) | (intro _ _ hok) | (intro _ hok) | simp only [State.regsOk_mk, State.regsOk_eta])

theorem execXbLarderMinClear_says (src : Src) (d : Fin 8) (s : State) :
    s.Says (Instr.xbLarderMinClear src d).die (execXbLarderMinClear src d s) := by
  refine onWrite_goes _ _ _ _ (.of ?_ ?_)
  · simp only [↓State.larderMinClear_core, State.core_mk, State.core_eta, ↓apply_ite State.core, ite_self, implies_true, eq_self]
  · intro hok
    repeat' (first | with_reducible assumption | with_reducible (apply State.larderMinClear_ok) | with_reducible (apply State.ite_ok) | split | (intro _ _ _ hok) | (intro _ _ hok) | (intro _ hok) | simp only [State.regsOk_mk, State.regsOk_eta])

theorem execHdmConfigAccess_says (v : Fin 128) (n : Fin 256) (k : Fin 32) (acc : HdmAcc) (s : State) :
    s.Says (Instr.hdmConfigAccess v n k acc).die (execHdmConfigAccess v n k acc s) := by
  refine onDie_says _ _ _ (.of ?_ ?_)
  · simp only [↓State.hdmAccess_core, State.core_mk, State.core_eta, ↓apply_ite State.core, ite_self, implies_true, eq_self]
  · intro hok
    repeat' (first | with_reducible assumption | with_reducible (apply State.hdmAccess_ok) | with_reducible (apply State.ite_ok) | split | (intro _ _ _ hok) | (intro _ _ hok) | (intro _ hok) | simp only [State.regsOk_mk, State.regsOk_eta])

theorem execHostConfigRequest_says (v : Fin 128) (goal : CfgTo) (acc : CfgAcc) (s : State) :
    s.Says (Instr.hostConfigRequest v goal acc).die (execHostConfigRequest v goal acc s) := by
  refine runOn_says _ _ _ (.of ?_ ?_)
  · simp only [↓State.hostConfig_core, State.core_mk, State.core_eta, ↓apply_ite State.core, ite_self, implies_true, eq_self]
  · intro hok
    repeat' (first | with_reducible assumption | with_reducible (apply State.hostConfig_ok) | with_reducible (apply State.ite_ok) | split | (intro _ _ _ hok) | (intro _ _ hok) | (intro _ hok) | simp only [State.regsOk_mk, State.regsOk_eta])

theorem execHostDecoderCommit_says (v : Fin 128) (n : Fin 32) (base size : Fin 16777216) (ways gran : Fin 16) (targets : List (Fin 256)) (s : State) :
    s.Says (Instr.hostDecoderCommit v n base size ways gran targets).die (execHostDecoderCommit v n base size ways gran targets s) := by
  refine onDie_says _ _ _ (.of ?_ ?_)
  · simp only [↓State.decoderCommit_core, State.core_mk, State.core_eta, ↓apply_ite State.core, ite_self, implies_true, eq_self]
  · intro hok
    repeat' (first | with_reducible assumption | with_reducible (apply State.decoderCommit_ok) | with_reducible (apply State.ite_ok) | split | (intro _ _ _ hok) | (intro _ _ hok) | (intro _ hok) | simp only [State.regsOk_mk, State.regsOk_eta])

theorem execHostDecoderCommitClear_says (v : Fin 128) (n : Fin 32) (s : State) :
    s.Says (Instr.hostDecoderCommitClear v n).die (execHostDecoderCommitClear v n s) := by
  refine onDie_says _ _ _ (.of ?_ ?_)
  · simp only [↓State.decoderClear_core, State.core_mk, State.core_eta, ↓apply_ite State.core, ite_self, implies_true, eq_self]
  · intro hok
    repeat' (first | with_reducible assumption | with_reducible (apply State.decoderClear_ok) | with_reducible (apply State.ite_ok) | split | (intro _ _ _ hok) | (intro _ _ hok) | (intro _ hok) | simp only [State.regsOk_mk, State.regsOk_eta])

theorem execBdTblRead_says (src : Src) (d : Fin 8) (table : Fin 4) (index : Fin 4096) (s : State) :
    s.Says (Instr.bdTblRead src d table index).die (execBdTblRead src d table index s) := by
  refine onWrite_goes _ _ _ _ (.of ?_ ?_)
  · simp only [↓State.bdOp_core, State.core_mk, State.core_eta, ↓apply_ite State.core, ite_self, implies_true, eq_self]
  · intro hok
    repeat' (first | with_reducible assumption | with_reducible (apply State.bdOp_ok) | with_reducible (apply State.ite_ok) | split | (intro _ _ _ hok) | (intro _ _ hok) | (intro _ hok) | simp only [State.regsOk_mk, State.regsOk_eta])

theorem execBdTblWrite_says (src : Src) (d : Fin 8) (table : Fin 4) (index : Fin 4096) (s : State) :
    s.Says (Instr.bdTblWrite src d table index).die (execBdTblWrite src d table index s) := by
  refine onWrite_goes _ _ _ _ (.of ?_ ?_)
  · simp only [↓State.bdOp_core, State.core_mk, State.core_eta, ↓apply_ite State.core, ite_self, implies_true, eq_self]
  · intro hok
    repeat' (first | with_reducible assumption | with_reducible (apply State.bdOp_ok) | with_reducible (apply State.ite_ok) | split | (intro _ _ _ hok) | (intro _ _ hok) | (intro _ hok) | simp only [State.regsOk_mk, State.regsOk_eta])

theorem execBdTblClear_says (src : Src) (d : Fin 8) (table : Fin 4) (index : Fin 4096) (s : State) :
    s.Says (Instr.bdTblClear src d table index).die (execBdTblClear src d table index s) := by
  refine onWrite_goes _ _ _ _ (.of ?_ ?_)
  · simp only [↓State.bdOp_core, State.core_mk, State.core_eta, ↓apply_ite State.core, ite_self, implies_true, eq_self]
  · intro hok
    repeat' (first | with_reducible assumption | with_reducible (apply State.bdOp_ok) | with_reducible (apply State.ite_ok) | split | (intro _ _ _ hok) | (intro _ _ hok) | (intro _ hok) | simp only [State.regsOk_mk, State.regsOk_eta])

theorem execBdSetMirror_says (src : Src) (d : Fin 8) (table : Fin 4) (index : Fin 4096) (s : State) :
    s.Says (Instr.bdSetMirror src d table index).die (execBdSetMirror src d table index s) := by
  refine onWrite_goes _ _ _ _ (.of ?_ ?_)
  · simp only [↓State.bdOp_core, State.core_mk, State.core_eta, ↓apply_ite State.core, ite_self, implies_true, eq_self]
  · intro hok
    repeat' (first | with_reducible assumption | with_reducible (apply State.bdOp_ok) | with_reducible (apply State.ite_ok) | split | (intro _ _ _ hok) | (intro _ _ hok) | (intro _ hok) | simp only [State.regsOk_mk, State.regsOk_eta])

theorem execIdentifySwitchDevice_says (c : Fin 5) (s : State) :
    s.Says (Instr.identifySwitchDevice c).die (execIdentifySwitchDevice c s) := by
  refine onCmd_goes _ _ _ _ (fun _ => .of ?_ ?_)
  · simp only [↓State.respond_core, State.core_mk, State.core_eta, ↓apply_ite State.core, ite_self, implies_true, eq_self]
  · intro hok
    repeat' (first | with_reducible assumption | with_reducible (apply State.respond_ok) | with_reducible (apply State.ite_ok) | split | (intro _ _ _ hok) | (intro _ _ hok) | (intro _ hok) | simp only [State.regsOk_mk, State.regsOk_eta])

theorem execGetPhysicalPortState_says (c : Fin 5) (ports : List (Fin 256)) (s : State) :
    s.Says (Instr.getPhysicalPortState c ports).die (execGetPhysicalPortState c ports s) := by
  refine onCmd_goes _ _ _ _ (fun _ => .of ?_ ?_)
  · simp only [↓State.respond_core, State.core_mk, State.core_eta, ↓apply_ite State.core, ite_self, implies_true, eq_self]
  · intro hok
    repeat' (first | with_reducible assumption | with_reducible (apply State.respond_ok) | with_reducible (apply State.ite_ok) | split | (intro _ _ _ hok) | (intro _ _ hok) | (intro _ hok) | simp only [State.regsOk_mk, State.regsOk_eta])

theorem execPhysicalPortControl_says (c : Fin 5) (port act : Fin 256) (s : State) :
    s.Says (Instr.physicalPortControl c port act).die (execPhysicalPortControl c port act s) := by
  refine onCmd_goes _ _ _ _ (fun _ => .of ?_ ?_)
  · dsimp only
    repeat' split
    all_goals simp only [↓State.respond_core, ↓State.perstHold_core, ↓State.updSlot_core, State.core_mk, State.core_eta, ↓apply_ite State.core, ite_self, implies_true, eq_self]
  · intro hok
    repeat' (first | with_reducible assumption | with_reducible (apply State.respond_ok) | with_reducible (apply State.perstHold_ok) | with_reducible (apply State.updSlot_ok) | with_reducible (apply State.ite_ok) | split | (intro _ _ _ hok) | (intro _ _ hok) | (intro _ hok) | simp only [State.regsOk_mk, State.regsOk_eta])

theorem execSendPpbConfigRequest_says (c : Fin 5) (port : Fin 256) (reg : Fin 1024) (put : Option (BitVec 32)) (got : DevAnswer) (s : State) :
    s.Says (Instr.sendPpbConfigRequest c port reg put got).die (execSendPpbConfigRequest c port reg put got s) := by
  refine onCmd_goes _ _ _ _ (fun _ => .of ?_ ?_)
  · simp only [↓State.askDevice_core, State.core_mk, State.core_eta, ↓apply_ite State.core, ite_self, implies_true, eq_self]
  · intro hok
    repeat' (first | with_reducible assumption | with_reducible (apply State.askDevice_ok) | with_reducible (apply State.ite_ok) | split | (intro _ _ _ hok) | (intro _ _ hok) | (intro _ hok) | simp only [State.regsOk_mk, State.regsOk_eta])

theorem execGetVirtualCxlSwitchInfo_says (c : Fin 5) (vcss : List (Fin 256)) (start count : Fin 256) (s : State) :
    s.Says (Instr.getVirtualCxlSwitchInfo c vcss start count).die (execGetVirtualCxlSwitchInfo c vcss start count s) := by
  refine onCmd_goes _ _ _ _ (fun _ => .of ?_ ?_)
  · simp only [↓State.respond_core, State.core_mk, State.core_eta, ↓apply_ite State.core, ite_self, implies_true, eq_self]
  · intro hok
    repeat' (first | with_reducible assumption | with_reducible (apply State.respond_ok) | with_reducible (apply State.ite_ok) | split | (intro _ _ _ hok) | (intro _ _ hok) | (intro _ hok) | simp only [State.regsOk_mk, State.regsOk_eta])

theorem execBindVppb_says (c : Fin 5) (vcs n port : Fin 256) (ld : Fin 65536) (s : State) :
    s.Says (Instr.bindVppb c vcs n port ld).die (execBindVppb c vcs n port ld s) := by
  refine onCmd_goes _ _ _ _ (fun _ => .of ?_ ?_)
  · simp only [↓State.bind_core, State.core_mk, State.core_eta, ↓apply_ite State.core, ite_self, implies_true, eq_self]
  · intro hok
    repeat' (first | with_reducible assumption | with_reducible (apply State.bind_ok) | with_reducible (apply State.ite_ok) | split | (intro _ _ _ hok) | (intro _ _ hok) | (intro _ hok) | simp only [State.regsOk_mk, State.regsOk_eta])

theorem execVppbBindingDone_says (d : Fin 8) (slot : Fin 1024) (s : State) :
    s.Says (Instr.vppbBindingDone d slot).die (execVppbBindingDone d slot s) := by
  refine onDie_says _ _ _ (.of ?_ ?_)
  · simp only [↓State.bindingDone_core, State.core_mk, State.core_eta, ↓apply_ite State.core, ite_self, implies_true, eq_self]
  · intro hok
    repeat' (first | with_reducible assumption | with_reducible (apply State.bindingDone_ok) | with_reducible (apply State.ite_ok) | split | (intro _ _ _ hok) | (intro _ _ hok) | (intro _ hok) | simp only [State.regsOk_mk, State.regsOk_eta])

theorem execUnbindVppb_says (c : Fin 5) (vcs n option : Fin 256) (s : State) :
    s.Says (Instr.unbindVppb c vcs n option).die (execUnbindVppb c vcs n option s) := by
  refine onCmd_goes _ _ _ _ (fun _ => .of ?_ ?_)
  · simp only [↓State.unbind_core, State.core_mk, State.core_eta, ↓apply_ite State.core, ite_self, implies_true, eq_self]
  · intro hok
    repeat' (first | with_reducible assumption | with_reducible (apply State.unbind_ok) | with_reducible (apply State.ite_ok) | split | (intro _ _ _ hok) | (intro _ _ hok) | (intro _ hok) | simp only [State.regsOk_mk, State.regsOk_eta])

theorem execUnbindDrainDone_says (d : Fin 8) (slot : Fin 1024) (s : State) :
    s.Says (Instr.unbindDrainDone d slot).die (execUnbindDrainDone d slot s) := by
  refine runOn_says _ _ _ (.of ?_ ?_)
  · simp only [↓State.drained_core, State.core_mk, State.core_eta, ↓apply_ite State.core, ite_self, implies_true, eq_self]
  · intro hok
    repeat' (first | with_reducible assumption | with_reducible (apply State.drained_ok) | with_reducible (apply State.ite_ok) | split | (intro _ _ _ hok) | (intro _ _ hok) | (intro _ hok) | simp only [State.regsOk_mk, State.regsOk_eta])

theorem execUnbindTmoExpiry_says (d : Fin 8) (slot : Fin 1024) (s : State) :
    s.Says (Instr.unbindTmoExpiry d slot).die (execUnbindTmoExpiry d slot s) := by
  refine runOn_says _ _ _ (.of ?_ ?_)
  · simp only [↓State.unbindExpiry_core, State.core_mk, State.core_eta, ↓apply_ite State.core, ite_self, implies_true, eq_self]
  · intro hok
    repeat' (first | with_reducible assumption | with_reducible (apply State.unbindExpiry_ok) | with_reducible (apply State.ite_ok) | split | (intro _ _ _ hok) | (intro _ _ hok) | (intro _ hok) | simp only [State.regsOk_mk, State.regsOk_eta])

theorem execGenerateAerEvent_says (c : Fin 5) (vcs n : Fin 256) (bytes : List (BitVec 8)) (s : State) :
    s.Says (Instr.generateAerEvent c vcs n bytes).die (execGenerateAerEvent c vcs n bytes s) := by
  refine onCmd_goes _ _ _ _ (fun _ => .of ?_ ?_)
  · simp only [↓State.emit_core, ↓State.respond_core, State.core_mk, State.core_eta, ↓apply_ite State.core, ite_self, implies_true, eq_self]
  · intro hok
    repeat' (first | with_reducible assumption | with_reducible (apply State.emit_ok) | with_reducible (apply State.respond_ok) | with_reducible (apply State.ite_ok) | split | (intro _ _ _ hok) | (intro _ _ hok) | (intro _ hok) | simp only [State.regsOk_mk, State.regsOk_eta])

theorem execTunnelManagementCommand_says (c : Fin 5) (port : Fin 256) (ld : Option (Fin 16)) (opcode : Fin 65536) (bytes : List (BitVec 8)) (got : DevAnswer) (s : State) :
    s.Says (Instr.tunnelManagementCommand c port ld opcode bytes got).die (execTunnelManagementCommand c port ld opcode bytes got s) := by
  refine onCmd_goes _ _ _ _ (fun _ => .of ?_ ?_)
  · simp only [↓State.askDevice_core, State.core_mk, State.core_eta, ↓apply_ite State.core, ite_self, implies_true, eq_self]
  · intro hok
    repeat' (first | with_reducible assumption | with_reducible (apply State.askDevice_ok) | with_reducible (apply State.ite_ok) | split | (intro _ _ _ hok) | (intro _ _ hok) | (intro _ hok) | simp only [State.regsOk_mk, State.regsOk_eta])

theorem execSendLdConfigRequest_says (c : Fin 5) (port : Fin 256) (ld : Fin 65536) (reg : Fin 1024) (put : Option (BitVec 32)) (got : DevAnswer) (s : State) :
    s.Says (Instr.sendLdConfigRequest c port ld reg put got).die (execSendLdConfigRequest c port ld reg put got s) := by
  refine onCmd_goes _ _ _ _ (fun _ => .of ?_ ?_)
  · simp only [↓State.askDevice_core, State.core_mk, State.core_eta, ↓apply_ite State.core, ite_self, implies_true, eq_self]
  · intro hok
    repeat' (first | with_reducible assumption | with_reducible (apply State.askDevice_ok) | with_reducible (apply State.ite_ok) | split | (intro _ _ _ hok) | (intro _ _ hok) | (intro _ hok) | simp only [State.regsOk_mk, State.regsOk_eta])

theorem execSendLdMemoryRequest_says (c : Fin 5) (port : Fin 256) (ld : Fin 65536) (addr : BitVec 64) (len : Fin 4096) (put : Option (List (BitVec 8))) (got : DevAnswer) (s : State) :
    s.Says (Instr.sendLdMemoryRequest c port ld addr len put got).die (execSendLdMemoryRequest c port ld addr len put got s) := by
  refine onCmd_goes _ _ _ _ (fun _ => .of ?_ ?_)
  · simp only [↓State.askDevice_core, State.core_mk, State.core_eta, ↓apply_ite State.core, ite_self, implies_true, eq_self]
  · intro hok
    repeat' (first | with_reducible assumption | with_reducible (apply State.askDevice_ok) | with_reducible (apply State.ite_ok) | split | (intro _ _ _ hok) | (intro _ _ hok) | (intro _ hok) | simp only [State.regsOk_mk, State.regsOk_eta])

theorem execMldComponentCommand_says (c : Fin 5) (port : Fin 256) (bytes : List (BitVec 8)) (got : DevAnswer) (s : State) :
    s.Says (Instr.mldComponentCommand c port bytes got).die (execMldComponentCommand c port bytes got s) := by
  refine onCmd_goes _ _ _ _ (fun _ => .of ?_ ?_)
  · simp only [↓State.askDevice_core, State.core_mk, State.core_eta, ↓apply_ite State.core, ite_self, implies_true, eq_self]
  · intro hok
    repeat' (first | with_reducible assumption | with_reducible (apply State.askDevice_ok) | with_reducible (apply State.ite_ok) | split | (intro _ _ _ hok) | (intro _ _ hok) | (intro _ hok) | simp only [State.regsOk_mk, State.regsOk_eta])

theorem execDcdManagementCommand_says (c : Fin 5) (port : Fin 256) (ld : Option (Fin 16)) (bytes : List (BitVec 8)) (got : DevAnswer) (s : State) :
    s.Says (Instr.dcdManagementCommand c port ld bytes got).die (execDcdManagementCommand c port ld bytes got s) := by
  refine onCmd_goes _ _ _ _ (fun _ => .of ?_ ?_)
  · simp only [↓State.askDevice_core, State.core_mk, State.core_eta, ↓apply_ite State.core, ite_self, implies_true, eq_self]
  · intro hok
    repeat' (first | with_reducible assumption | with_reducible (apply State.askDevice_ok) | with_reducible (apply State.ite_ok) | split | (intro _ _ _ hok) | (intro _ _ hok) | (intro _ hok) | simp only [State.regsOk_mk, State.regsOk_eta])

theorem execSetLdShare_says (c : Fin 5) (port : Fin 256) (ld : Fin 65536) (share : Bool) (s : State) :
    s.Says (Instr.setLdShare c port ld share).die (execSetLdShare c port ld share s) := by
  refine onCmd_goes _ _ _ _ (fun _ => .of ?_ ?_)
  · simp only [↓State.setShare_core, State.core_mk, State.core_eta, ↓apply_ite State.core, ite_self, implies_true, eq_self]
  · intro hok
    repeat' (first | with_reducible assumption | with_reducible (apply State.setShare_ok) | with_reducible (apply State.ite_ok) | split | (intro _ _ _ hok) | (intro _ _ hok) | (intro _ hok) | simp only [State.regsOk_mk, State.regsOk_eta])

theorem execGetBindingTable_says (c : Fin 5) (vcs : Fin 256) (s : State) :
    s.Says (Instr.getBindingTable c vcs).die (execGetBindingTable c vcs s) := by
  refine onCmd_goes _ _ _ _ (fun _ => .of ?_ ?_)
  · simp only [↓State.respond_core, State.core_mk, State.core_eta, ↓apply_ite State.core, ite_self, implies_true, eq_self]
  · intro hok
    repeat' (first | with_reducible assumption | with_reducible (apply State.respond_ok) | with_reducible (apply State.ite_ok) | split | (intro _ _ _ hok) | (intro _ _ hok) | (intro _ hok) | simp only [State.regsOk_mk, State.regsOk_eta])

theorem execUnsupportedOpcode_says (c : Fin 5) (s : State) : s.Says (Instr.unsupportedOpcode c).die (execUnsupportedOpcode c s) := by
  refine runPkg_goes _ _ (.of ?_ ?_)
  · repeat' (first | with_reducible rfl | simp only [↓State.respond_core, State.core_mk, State.core_eta, ↓apply_ite State.core, ite_self, implies_true, eq_self] | split)
  · intro hok
    repeat' (first | with_reducible assumption | with_reducible (apply State.respond_ok) | with_reducible (apply State.ite_ok) | split | (intro _ _ _ hok) | (intro _ _ hok) | (intro _ hok) | simp only [State.regsOk_mk, State.regsOk_eta])

theorem execIdentify_says (c : Fin 5) (s : State) : s.Says (Instr.identify c).die (execIdentify c s) := by
  refine onCmd_goes _ _ _ _ (fun _ => .of ?_ ?_)
  · simp only [↓State.respond_core, State.core_mk, State.core_eta, ↓apply_ite State.core, ite_self, implies_true, eq_self]
  · intro hok
    repeat' (first | with_reducible assumption | with_reducible (apply State.respond_ok) | with_reducible (apply State.ite_ok) | split | (intro _ _ _ hok) | (intro _ _ hok) | (intro _ hok) | simp only [State.regsOk_mk, State.regsOk_eta])

theorem execBackgroundOperationStatus_says (c : Fin 5) (s : State) :
    s.Says (Instr.backgroundOperationStatus c).die (execBackgroundOperationStatus c s) := by
  refine onCmd_goes _ _ _ _ (fun _ => .of ?_ ?_)
  · dsimp only
    repeat' split
    all_goals simp only [↓State.respond_core, State.core_mk, State.core_eta, ↓apply_ite State.core, ite_self, implies_true, eq_self]
  · intro hok
    repeat' (first | with_reducible assumption | with_reducible (apply State.respond_ok) | with_reducible (apply State.ite_ok) | split | (intro _ _ _ hok) | (intro _ _ hok) | (intro _ hok) | simp only [State.regsOk_mk, State.regsOk_eta])

theorem execGetResponseMessageLimit_says (c : Fin 5) (s : State) :
    s.Says (Instr.getResponseMessageLimit c).die (execGetResponseMessageLimit c s) := by
  refine onCmd_goes _ _ _ _ (fun _ => .of ?_ ?_)
  · simp only [↓State.respond_core, State.core_mk, State.core_eta, ↓apply_ite State.core, ite_self, implies_true, eq_self]
  · intro hok
    repeat' (first | with_reducible assumption | with_reducible (apply State.respond_ok) | with_reducible (apply State.ite_ok) | split | (intro _ _ _ hok) | (intro _ _ hok) | (intro _ hok) | simp only [State.regsOk_mk, State.regsOk_eta])

theorem execSetResponseMessageLimit_says (c : Fin 5) (n : Fin 256) (s : State) :
    s.Says (Instr.setResponseMessageLimit c n).die (execSetResponseMessageLimit c n s) := by
  refine onCmd_goes _ _ _ _ (fun _ => .of ?_ ?_)
  · simp only [↓State.updChan_core, ↓State.respond_core, State.core_mk, State.core_eta, ↓apply_ite State.core, ite_self, implies_true, eq_self]
  · intro hok
    repeat' (first | with_reducible assumption | with_reducible (apply State.updChan_ok) | with_reducible (apply State.respond_ok) | with_reducible (apply State.ite_ok) | split | (intro _ _ _ hok) | (intro _ _ hok) | (intro _ hok) | simp only [State.regsOk_mk, State.regsOk_eta])

theorem execGetFwInfo_says (c : Fin 5) (versions : List (Option Nat)) (s : State) :
    s.Says (Instr.getFwInfo c versions).die (execGetFwInfo c versions s) := by
  refine onCmd_goes _ _ _ _ (fun _ => .of ?_ ?_)
  · simp only [↓State.respond_core, State.core_mk, State.core_eta, ↓apply_ite State.core, ite_self, implies_true, eq_self]
  · intro hok
    repeat' (first | with_reducible assumption | with_reducible (apply State.respond_ok) | with_reducible (apply State.ite_ok) | split | (intro _ _ _ hok) | (intro _ _ hok) | (intro _ hok) | simp only [State.regsOk_mk, State.regsOk_eta])

theorem execTransferFw_says (c : Fin 5) (slot : Fin 256) (bytes : List (BitVec 8)) (s : State) :
    s.Says (Instr.transferFw c slot bytes).die (execTransferFw c slot bytes s) := by
  refine onCmd_goes _ _ _ _ (fun _ => .of ?_ ?_)
  · dsimp only
    repeat' split
    all_goals simp only [↓State.respond_core, ↓State.emit_core, State.core_mk, State.core_eta, ↓apply_ite State.core, ite_self, implies_true, eq_self]
  · intro hok
    repeat' (first | with_reducible assumption | with_reducible (apply State.respond_ok) | with_reducible (apply State.emit_ok) | with_reducible (apply State.ite_ok) | split | (intro _ _ _ hok) | (intro _ _ hok) | (intro _ hok) | simp only [State.regsOk_mk, State.regsOk_eta])

theorem execActivateFw_says (c : Fin 5) (slot : Fin 256) (s : State) :
    s.Says (Instr.activateFw c slot).die (execActivateFw c slot s) := by
  refine onCmd_goes _ _ _ _ (fun _ => .of ?_ ?_)
  · dsimp only
    repeat' split
    all_goals simp only [↓State.respond_core, ↓State.updInv_core, ↓State.emit_core, State.core_mk, State.core_eta, ↓apply_ite State.core, ite_self, implies_true, eq_self]
  · intro hok
    repeat' (first | with_reducible assumption | with_reducible (apply State.respond_ok) | with_reducible (apply State.updInv_ok) | with_reducible (apply State.emit_ok) | with_reducible (apply State.ite_ok) | split | (intro _ _ _ hok) | (intro _ _ hok) | (intro _ hok) | simp only [State.regsOk_mk, State.regsOk_eta])

theorem execAgentMessage_says (d : Fin 8) (bad : Option (Fin 16 × Bool)) (s : State) :
    s.Says (Instr.agentMessage d bad).die (execAgentMessage d bad s) := by
  refine runOn_says _ _ _ (.of ?_ ?_)
  · simp only [↓State.agentNext_core, State.core_mk, State.core_eta, ↓apply_ite State.core, ite_self, implies_true, eq_self]
  · intro hok
    repeat' (first | with_reducible assumption | with_reducible (apply State.agentNext_ok) | with_reducible (apply State.ite_ok) | split | (intro _ _ _ hok) | (intro _ _ hok) | (intro _ hok) | simp only [State.regsOk_mk, State.regsOk_eta])

theorem execDeviceResponsePass_says (d trkDie : Fin 8) (trk : Fin 16384) (s : State) :
    s.Says (Instr.deviceResponsePass d trkDie trk).die (execDeviceResponsePass d trkDie trk s) := by
  refine runOn_says _ _ _ (.of ?_ ?_)
  · simp only [↓State.passOne_core, State.core_mk, State.core_eta, ↓apply_ite State.core, ite_self, implies_true, eq_self]
  · intro hok
    repeat' (first | with_reducible assumption | with_reducible (apply State.passOne_ok) | with_reducible (apply State.ite_ok) | split | (intro _ _ _ hok) | (intro _ _ hok) | (intro _ hok) | simp only [State.regsOk_mk, State.regsOk_eta])

theorem execSnoopIssue_says (d : Fin 8) (s : State) : s.Says (Instr.snoopIssue d).die (execSnoopIssue d s) := by
  refine runOn_says _ _ _ (.of ?_ ?_)
  · simp only [↓State.issueSnoop_core, State.core_mk, State.core_eta, ↓apply_ite State.core, ite_self, implies_true, eq_self]
  · intro hok
    repeat' (first | with_reducible assumption | with_reducible (apply State.issueSnoop_ok) | with_reducible (apply State.ite_ok) | split | (intro _ _ _ hok) | (intro _ _ hok) | (intro _ hok) | simp only [State.regsOk_mk, State.regsOk_eta])

theorem execBirspReceive_says (d : Fin 8) (tag : Fin 4096) (v : Fin 128) (kind : MKind) (s : State) :
    s.Says (Instr.birspReceive d tag v kind).die (execBirspReceive d tag v kind s) := by
  refine runOn_says _ _ _ (.of ?_ ?_)
  · simp only [↓State.birsp_core, State.core_mk, State.core_eta, ↓apply_ite State.core, ite_self, implies_true, eq_self]
  · intro hok
    repeat' (first | with_reducible assumption | with_reducible (apply State.birsp_ok) | with_reducible (apply State.ite_ok) | split | (intro _ _ _ hok) | (intro _ _ hok) | (intro _ hok) | simp only [State.regsOk_mk, State.regsOk_eta])

theorem execBirspHoldRelease_says (d : Fin 8) (s : State) : s.Says (Instr.birspHoldRelease d).die (execBirspHoldRelease d s) := by
  refine runOn_says _ _ _ (.of ?_ ?_)
  · simp only [↓State.releaseBirsp_core, State.core_mk, State.core_eta, ↓apply_ite State.core, ite_self, implies_true, eq_self]
  · intro hok
    repeat' (first | with_reducible assumption | with_reducible (apply State.releaseBirsp_ok) | with_reducible (apply State.ite_ok) | split | (intro _ _ _ hok) | (intro _ _ hok) | (intro _ hok) | simp only [State.regsOk_mk, State.regsOk_eta])

theorem execBiconflict_says (d : Fin 8) (v : Fin 128) (quad ld : Fin 16) (line : Fin 70368744177664) (tag : Fin 65536) (s : State) :
    s.Says (Instr.biconflict d v quad ld line tag).die (execBiconflict d v quad ld line tag s) := by
  refine runOn_says _ _ _ (.of ?_ ?_)
  · simp only [↓State.biConflict_core, State.core_mk, State.core_eta, ↓apply_ite State.core, ite_self, implies_true, eq_self]
  · intro hok
    repeat' (first | with_reducible assumption | with_reducible (apply State.biConflict_ok) | with_reducible (apply State.ite_ok) | split | (intro _ _ _ hok) | (intro _ _ hok) | (intro _ hok) | simp only [State.regsOk_mk, State.regsOk_eta])

theorem execSnoopTimeout_says (d : Fin 8) (tag : Fin 4096) (s : State) :
    s.Says (Instr.snoopTimeout d tag).die (execSnoopTimeout d tag s) := by
  refine runOn_says _ _ _ (.of ?_ ?_)
  · simp only [↓State.snoopTimeout_core, State.core_mk, State.core_eta, ↓apply_ite State.core, ite_self, implies_true, eq_self]
  · intro hok
    repeat' (first | with_reducible assumption | with_reducible (apply State.snoopTimeout_ok) | with_reducible (apply State.ite_ok) | split | (intro _ _ _ hok) | (intro _ _ hok) | (intro _ hok) | simp only [State.regsOk_mk, State.regsOk_eta])

theorem execCaTblRead_says (src : Src) (d : Fin 8) (table : Fin 4) (index : Fin 1048576) (s : State) :
    s.Says (Instr.caTblRead src d table index).die (execCaTblRead src d table index s) := by
  refine onWrite_goes _ _ _ _ (.of ?_ ?_)
  · simp only [↓State.caOp_core, State.core_mk, State.core_eta, ↓apply_ite State.core, ite_self, implies_true, eq_self]
  · intro hok
    repeat' (first | with_reducible assumption | with_reducible (apply State.caOp_ok) | with_reducible (apply State.ite_ok) | split | (intro _ _ _ hok) | (intro _ _ hok) | (intro _ hok) | simp only [State.regsOk_mk, State.regsOk_eta])

theorem execCaRegionWrite_says (src : Src) (d : Fin 8) (table : Fin 4) (index : Fin 1048576) (s : State) :
    s.Says (Instr.caRegionWrite src d table index).die (execCaRegionWrite src d table index s) := by
  refine onWrite_goes _ _ _ _ (.of ?_ ?_)
  · simp only [↓State.caOp_core, State.core_mk, State.core_eta, ↓apply_ite State.core, ite_self, implies_true, eq_self]
  · intro hok
    repeat' (first | with_reducible assumption | with_reducible (apply State.caOp_ok) | with_reducible (apply State.ite_ok) | split | (intro _ _ _ hok) | (intro _ _ hok) | (intro _ hok) | simp only [State.regsOk_mk, State.regsOk_eta])

theorem execCaRegionClear_says (src : Src) (d : Fin 8) (table : Fin 4) (index : Fin 1048576) (s : State) :
    s.Says (Instr.caRegionClear src d table index).die (execCaRegionClear src d table index s) := by
  refine onWrite_goes _ _ _ _ (.of ?_ ?_)
  · simp only [↓State.caOp_core, State.core_mk, State.core_eta, ↓apply_ite State.core, ite_self, implies_true, eq_self]
  · intro hok
    repeat' (first | with_reducible assumption | with_reducible (apply State.caOp_ok) | with_reducible (apply State.ite_ok) | split | (intro _ _ _ hok) | (intro _ _ hok) | (intro _ hok) | simp only [State.regsOk_mk, State.regsOk_eta])

theorem execCaLoftLookup_says (src : Src) (d : Fin 8) (table : Fin 4) (index : Fin 1048576) (s : State) :
    s.Says (Instr.caLoftLookup src d table index).die (execCaLoftLookup src d table index s) := by
  refine onWrite_goes _ _ _ _ (.of ?_ ?_)
  · simp only [↓State.caOp_core, State.core_mk, State.core_eta, ↓apply_ite State.core, ite_self, implies_true, eq_self]
  · intro hok
    repeat' (first | with_reducible assumption | with_reducible (apply State.caOp_ok) | with_reducible (apply State.ite_ok) | split | (intro _ _ _ hok) | (intro _ _ hok) | (intro _ hok) | simp only [State.regsOk_mk, State.regsOk_eta])

theorem execLoftWalkStart_says (d : Fin 8) (s : State) : s.Says (Instr.loftWalkStart d).die (execLoftWalkStart d s) := by
  refine runOn_says _ _ _ (.of ?_ ?_)
  · simp only [↓State.walkStart_core, State.core_mk, State.core_eta, ↓apply_ite State.core, ite_self, implies_true, eq_self]
  · intro hok
    repeat' (first | with_reducible assumption | with_reducible (apply State.walkStart_ok) | with_reducible (apply State.ite_ok) | split | (intro _ _ _ hok) | (intro _ _ hok) | (intro _ hok) | simp only [State.regsOk_mk, State.regsOk_eta])

theorem execLoftWalkEnd_says (d : Fin 8) (s : State) : s.Says (Instr.loftWalkEnd d).die (execLoftWalkEnd d s) := by
  refine runOn_says _ _ _ (.of ?_ ?_)
  · simp only [↓State.walkEnd_core, State.core_mk, State.core_eta, ↓apply_ite State.core, ite_self, implies_true, eq_self]
  · intro hok
    repeat' (first | with_reducible assumption | with_reducible (apply State.walkEnd_ok) | with_reducible (apply State.ite_ok) | split | (intro _ _ _ hok) | (intro _ _ hok) | (intro _ hok) | simp only [State.regsOk_mk, State.regsOk_eta])

theorem execWriteCopyNdr_says (d : Fin 8) (trk : Fin 16384) (copy : Fin 2) (s : State) :
    s.Says (Instr.writeCopyNdr d trk copy).die (execWriteCopyNdr d trk copy s) := by
  refine runOn_says _ _ _ (.of ?_ ?_)
  · repeat' (first | with_reducible rfl | simp only [↓State.copyNdr_core, State.core_mk, State.core_eta, ↓apply_ite State.core, ite_self, implies_true, eq_self] | split)
  · intro hok
    repeat' (first | with_reducible assumption | with_reducible (apply State.copyNdr_ok) | with_reducible (apply State.ite_ok) | split | (intro _ _ _ hok) | (intro _ _ hok) | (intro _ hok) | simp only [State.regsOk_mk, State.regsOk_eta])

theorem execCopyTmoExpiry_says (d : Fin 8) (trk : Fin 16384) (copy : Fin 2) (s : State) :
    s.Says (Instr.copyTmoExpiry d trk copy).die (execCopyTmoExpiry d trk copy s) := by
  refine runOn_says _ _ _ (.of ?_ ?_)
  · simp only [↓State.copyTmo_core, State.core_mk, State.core_eta, ↓apply_ite State.core, ite_self, implies_true, eq_self]
  · intro hok
    repeat' (first | with_reducible assumption | with_reducible (apply State.copyTmo_ok) | with_reducible (apply State.ite_ok) | split | (intro _ _ _ hok) | (intro _ _ hok) | (intro _ hok) | simp only [State.regsOk_mk, State.regsOk_eta])

theorem execMirrorReadReturn_says (d trkDie : Fin 8) (trk : Fin 16384) (s : State) :
    s.Says (Instr.mirrorReadReturn d trkDie trk).die (execMirrorReadReturn d trkDie trk s) := by
  refine runOn_says _ _ _ (.of ?_ ?_)
  · repeat' (first | with_reducible rfl | simp only [↓State.reissue_core, State.core_mk, State.core_eta, ↓apply_ite State.core, ite_self, implies_true, eq_self] | split)
  · intro hok
    repeat' (first | with_reducible assumption | with_reducible (apply State.reissue_ok) | with_reducible (apply State.ite_ok) | split | (intro _ _ _ hok) | (intro _ _ hok) | (intro _ hok) | simp only [State.regsOk_mk, State.regsOk_eta])

theorem execPoisonedReadRepair_says (d : Fin 8) (trk : Fin 16384) (data : Nat) (s : State) :
    s.Says (Instr.poisonedReadRepair d trk data).die (execPoisonedReadRepair d trk data s) := by
  refine runOn_says _ _ _ (.of ?_ ?_)
  · repeat' (first | with_reducible rfl | simp only [↓State.poisonedRead_core, State.core_mk, State.core_eta, ↓apply_ite State.core, ite_self, implies_true, eq_self] | split)
  · intro hok
    repeat' (first | with_reducible assumption | with_reducible (apply State.poisonedRead_ok) | with_reducible (apply State.ite_ok) | split | (intro _ _ _ hok) | (intro _ _ hok) | (intro _ hok) | simp only [State.regsOk_mk, State.regsOk_eta])

theorem execGuardArmRequest_says (d chooser : Fin 8) (grp : Fin 4096) (copy : Fin 2) (port : Fin 128) (ld : Fin 16) (lines : List Nat) (s : State) :
    s.Says (Instr.guardArmRequest d chooser grp copy port ld lines).die (execGuardArmRequest d chooser grp copy port ld lines s) := by
  refine runOn_says _ _ _ (.of ?_ ?_)
  · simp only [↓State.armGuard_core, State.core_mk, State.core_eta, ↓apply_ite State.core, ite_self, implies_true, eq_self]
  · intro hok
    repeat' (first | with_reducible assumption | with_reducible (apply State.armGuard_ok) | with_reducible (apply State.ite_ok) | split | (intro _ _ _ hok) | (intro _ _ hok) | (intro _ hok) | simp only [State.regsOk_mk, State.regsOk_eta])

theorem execGuardAck_says (d : Fin 8) (grp : Fin 4096) (copy : Fin 2) (lines : List Nat) (s : State) :
    s.Says (Instr.guardAck d grp copy lines).die (execGuardAck d grp copy lines s) := by
  refine runOn_says _ _ _ (.of ?_ ?_)
  · simp only [↓State.guardAck_core, State.core_mk, State.core_eta, ↓apply_ite State.core, ite_self, implies_true, eq_self]
  · intro hok
    repeat' (first | with_reducible assumption | with_reducible (apply State.guardAck_ok) | with_reducible (apply State.ite_ok) | split | (intro _ _ _ hok) | (intro _ _ hok) | (intro _ hok) | simp only [State.regsOk_mk, State.regsOk_eta])

end Sys2Proof.Machine
end

