-- ==== Sys2Proof/Laws/Commands2.lean ====
section
/-! SUPPORT. What each command answers (part 3 of 4): a next state of the same part with the same commands waiting and no life-cycle
fuse made whole. -/

namespace Sys2Proof.Machine
set_option linter.unusedSimpArgs false
set_option linter.unusedVariables false
set_option linter.unreachableTactic false
set_option linter.unusedTactic false

theorem execPairQuery_says (d chooser : Fin 8) (grp : Fin 4096) (copy : Fin 2) (lines : List Nat) (s : State) :
    s.Says (Instr.pairQuery d chooser grp copy lines).die (execPairQuery d chooser grp copy lines s) := by
  refine runOn_says _ _ _ (.of ?_ ?_)
  · simp only [↓State.pairQuery_core, State.core_mk, State.core_eta, ↓apply_ite State.core, ite_self, implies_true, eq_self]
  · intro hok
    repeat' (first | with_reducible assumption | with_reducible (apply State.pairQuery_ok) | with_reducible (apply State.ite_ok) | split | (intro _ _ _ hok) | (intro _ _ hok) | (intro _ hok) | simp only [State.regsOk_mk, State.regsOk_eta])

theorem execPairQueryAnswered_says (d : Fin 8) (grp : Fin 4096) (copy : Fin 2) (line : Nat) (s : State) :
    s.Says (Instr.pairQueryAnswered d grp copy line).die (execPairQueryAnswered d grp copy line s) := by
  refine runOn_says _ _ _ (.of ?_ ?_)
  · simp only [↓State.pairsDone_core, State.core_mk, State.core_eta, ↓apply_ite State.core, ite_self, implies_true, eq_self]
  · intro hok
    repeat' (first | with_reducible assumption | with_reducible (apply State.pairsDone_ok) | with_reducible (apply State.ite_ok) | split | (intro _ _ _ hok) | (intro _ _ hok) | (intro _ hok) | simp only [State.regsOk_mk, State.regsOk_eta])

theorem execGuardedRewrite_says (d chooser : Fin 8) (grp : Fin 4096) (copy : Fin 2) (line : Nat) (poison : Bool) (data : Nat) (s : State) :
    s.Says (Instr.guardedRewrite d chooser grp copy line poison data).die (execGuardedRewrite d chooser grp copy line poison data s) := by
  refine runOn_says _ _ _ (.of ?_ ?_)
  · simp only [↓State.rewriteLine_core, State.core_mk, State.core_eta, ↓apply_ite State.core, ite_self, implies_true, eq_self]
  · intro hok
    repeat' (first | with_reducible assumption | with_reducible (apply State.rewriteLine_ok) | with_reducible (apply State.ite_ok) | split | (intro _ _ _ hok) | (intro _ _ hok) | (intro _ hok) | simp only [State.regsOk_mk, State.regsOk_eta])

theorem execCopyStateMessage_says (d from_ : Fin 8) (m : CopyMsg) (s : State) :
    s.Says (Instr.copyStateMessage d from_ m).die (execCopyStateMessage d from_ m s) := by
  refine runOn_says _ _ _ (.of ?_ ?_)
  · simp only [↓State.copyMsgCame_core, State.core_mk, State.core_eta, ↓apply_ite State.core, ite_self, implies_true, eq_self]
  · intro hok
    repeat' (first | with_reducible assumption | with_reducible (apply State.copyMsgCame_ok) | with_reducible (apply State.ite_ok) | split | (intro _ _ _ hok) | (intro _ _ hok) | (intro _ hok) | simp only [State.regsOk_mk, State.regsOk_eta])

theorem execMrTblRead_says (src : Src) (d : Fin 8) (index : Fin 4096) (s : State) :
    s.Says (Instr.mrTblRead src d index).die (execMrTblRead src d index s) := by
  refine onWrite_goes _ _ _ _ (.of ?_ ?_)
  · simp only [↓State.mrTblOp_core, State.core_mk, State.core_eta, ↓apply_ite State.core, ite_self, implies_true, eq_self]
  · intro hok
    repeat' (first | with_reducible assumption | with_reducible (apply State.mrTblOp_ok) | with_reducible (apply State.ite_ok) | split | (intro _ _ _ hok) | (intro _ _ hok) | (intro _ hok) | simp only [State.regsOk_mk, State.regsOk_eta])

theorem execMrTblWrite_says (src : Src) (d : Fin 8) (index : Fin 4096) (s : State) :
    s.Says (Instr.mrTblWrite src d index).die (execMrTblWrite src d index s) := by
  refine onWrite_goes _ _ _ _ (.of ?_ ?_)
  · simp only [↓State.mrTblOp_core, State.core_mk, State.core_eta, ↓apply_ite State.core, ite_self, implies_true, eq_self]
  · intro hok
    repeat' (first | with_reducible assumption | with_reducible (apply State.mrTblOp_ok) | with_reducible (apply State.ite_ok) | split | (intro _ _ _ hok) | (intro _ _ hok) | (intro _ hok) | simp only [State.regsOk_mk, State.regsOk_eta])

theorem execMrTblClear_says (src : Src) (d : Fin 8) (index : Fin 4096) (s : State) :
    s.Says (Instr.mrTblClear src d index).die (execMrTblClear src d index s) := by
  refine onWrite_goes _ _ _ _ (.of ?_ ?_)
  · simp only [↓State.mrTblOp_core, State.core_mk, State.core_eta, ↓apply_ite State.core, ite_self, implies_true, eq_self]
  · intro hok
    repeat' (first | with_reducible assumption | with_reducible (apply State.mrTblOp_ok) | with_reducible (apply State.ite_ok) | split | (intro _ _ _ hok) | (intro _ _ hok) | (intro _ hok) | simp only [State.regsOk_mk, State.regsOk_eta])

theorem execMrCopyFail_says (src : Src) (d : Fin 8) (index : Fin 4096) (copy : Fin 2) (s : State) :
    s.Says (Instr.mrCopyFail src d index copy).die (execMrCopyFail src d index copy s) := by
  refine onWrite_goes _ _ _ _ (.of ?_ ?_)
  · simp only [↓State.mrCopyOp_core, State.core_mk, State.core_eta, ↓apply_ite State.core, ite_self, implies_true, eq_self]
  · intro hok
    repeat' (first | with_reducible assumption | with_reducible (apply State.mrCopyOp_ok) | with_reducible (apply State.ite_ok) | split | (intro _ _ _ hok) | (intro _ _ hok) | (intro _ hok) | simp only [State.regsOk_mk, State.regsOk_eta])

theorem execMrCopyResilver_says (src : Src) (d : Fin 8) (index : Fin 4096) (copy : Fin 2) (s : State) :
    s.Says (Instr.mrCopyResilver src d index copy).die (execMrCopyResilver src d index copy s) := by
  refine onWrite_goes _ _ _ _ (.of ?_ ?_)
  · simp only [↓State.mrCopyOp_core, State.core_mk, State.core_eta, ↓apply_ite State.core, ite_self, implies_true, eq_self]
  · intro hok
    repeat' (first | with_reducible assumption | with_reducible (apply State.mrCopyOp_ok) | with_reducible (apply State.ite_ok) | split | (intro _ _ _ hok) | (intro _ _ hok) | (intro _ hok) | simp only [State.regsOk_mk, State.regsOk_eta])

theorem execMrCopyForceHealthy_says (src : Src) (d : Fin 8) (index : Fin 4096) (copy : Fin 2) (s : State) :
    s.Says (Instr.mrCopyForceHealthy src d index copy).die (execMrCopyForceHealthy src d index copy s) := by
  refine onWrite_goes _ _ _ _ (.of ?_ ?_)
  · simp only [↓State.mrCopyOp_core, State.core_mk, State.core_eta, ↓apply_ite State.core, ite_self, implies_true, eq_self]
  · intro hok
    repeat' (first | with_reducible assumption | with_reducible (apply State.mrCopyOp_ok) | with_reducible (apply State.ite_ok) | split | (intro _ _ _ hok) | (intro _ _ hok) | (intro _ hok) | simp only [State.regsOk_mk, State.regsOk_eta])

theorem execMrCopyStopResilver_says (src : Src) (d : Fin 8) (index : Fin 4096) (copy : Fin 2) (s : State) :
    s.Says (Instr.mrCopyStopResilver src d index copy).die (execMrCopyStopResilver src d index copy s) := by
  refine onWrite_goes _ _ _ _ (.of ?_ ?_)
  · simp only [↓State.mrCopyOp_core, State.core_mk, State.core_eta, ↓apply_ite State.core, ite_self, implies_true, eq_self]
  · intro hok
    repeat' (first | with_reducible assumption | with_reducible (apply State.mrCopyOp_ok) | with_reducible (apply State.ite_ok) | split | (intro _ _ _ hok) | (intro _ _ hok) | (intro _ hok) | simp only [State.regsOk_mk, State.regsOk_eta])

theorem execResilverStateAck_says (d : Fin 8) (s : State) : s.Says (Instr.resilverStateAck d).die (execResilverStateAck d s) := by
  refine runOn_says _ _ _ (.of ?_ ?_)
  · simp only [↓State.resilverAcked_core, State.core_mk, State.core_eta, ↓apply_ite State.core, ite_self, implies_true, eq_self]
  · intro hok
    repeat' (first | with_reducible assumption | with_reducible (apply State.resilverAcked_ok) | with_reducible (apply State.ite_ok) | split | (intro _ _ _ hok) | (intro _ _ hok) | (intro _ hok) | simp only [State.regsOk_mk, State.regsOk_eta])

theorem execResilverBlockDone_says (d : Fin 8) (line : Nat) (s : State) :
    s.Says (Instr.resilverBlockDone d line).die (execResilverBlockDone d line s) := by
  refine runOn_says _ _ _ (.of ?_ ?_)
  · simp only [↓State.blockDone_core, State.core_mk, State.core_eta, ↓apply_ite State.core, ite_self, implies_true, eq_self]
  · intro hok
    repeat' (first | with_reducible assumption | with_reducible (apply State.blockDone_ok) | with_reducible (apply State.ite_ok) | split | (intro _ _ _ hok) | (intro _ _ hok) | (intro _ hok) | simp only [State.regsOk_mk, State.regsOk_eta])

theorem execBlkGapExpiry_says (d : Fin 8) (s : State) : s.Says (Instr.blkGapExpiry d).die (execBlkGapExpiry d s) := by
  refine runOn_says _ _ _ (.of ?_ ?_)
  · repeat' (first | with_reducible rfl | simp only [↓State.updMr_core, State.core_mk, State.core_eta, ↓apply_ite State.core, ite_self, implies_true, eq_self] | split)
  · intro hok
    repeat' (first | with_reducible assumption | with_reducible (apply State.updMr_ok) | with_reducible (apply State.ite_ok) | split | (intro _ _ _ hok) | (intro _ _ hok) | (intro _ hok) | simp only [State.regsOk_mk, State.regsOk_eta])

theorem execOvLookup_says (src : Src) (d : Fin 8) (s : State) : s.Says (Instr.ovLookup src d).die (execOvLookup src d s) := by
  refine onWrite_goes _ _ _ _ (.of ?_ ?_)
  · simp only [↓State.ovOp_core, State.core_mk, State.core_eta, ↓apply_ite State.core, ite_self, implies_true, eq_self]
  · intro hok
    repeat' (first | with_reducible assumption | with_reducible (apply State.ovOp_ok) | with_reducible (apply State.ite_ok) | split | (intro _ _ _ hok) | (intro _ _ hok) | (intro _ hok) | simp only [State.regsOk_mk, State.regsOk_eta])

theorem execOvStart_says (src : Src) (d : Fin 8) (s : State) : s.Says (Instr.ovStart src d).die (execOvStart src d s) := by
  refine onWrite_goes _ _ _ _ (.of ?_ ?_)
  · simp only [↓State.ovOp_core, State.core_mk, State.core_eta, ↓apply_ite State.core, ite_self, implies_true, eq_self]
  · intro hok
    repeat' (first | with_reducible assumption | with_reducible (apply State.ovOp_ok) | with_reducible (apply State.ite_ok) | split | (intro _ _ _ hok) | (intro _ _ hok) | (intro _ hok) | simp only [State.regsOk_mk, State.regsOk_eta])

theorem execOvAbort_says (src : Src) (d : Fin 8) (s : State) : s.Says (Instr.ovAbort src d).die (execOvAbort src d s) := by
  refine onWrite_goes _ _ _ _ (.of ?_ ?_)
  · simp only [↓State.ovOp_core, State.core_mk, State.core_eta, ↓apply_ite State.core, ite_self, implies_true, eq_self]
  · intro hok
    repeat' (first | with_reducible assumption | with_reducible (apply State.ovOp_ok) | with_reducible (apply State.ite_ok) | split | (intro _ _ _ hok) | (intro _ _ hok) | (intro _ hok) | simp only [State.regsOk_mk, State.regsOk_eta])

theorem execOvClear_says (src : Src) (d : Fin 8) (s : State) : s.Says (Instr.ovClear src d).die (execOvClear src d s) := by
  refine onWrite_goes _ _ _ _ (.of ?_ ?_)
  · simp only [↓State.ovOp_core, State.core_mk, State.core_eta, ↓apply_ite State.core, ite_self, implies_true, eq_self]
  · intro hok
    repeat' (first | with_reducible assumption | with_reducible (apply State.ovOp_ok) | with_reducible (apply State.ite_ok) | split | (intro _ _ _ hok) | (intro _ _ hok) | (intro _ hok) | simp only [State.regsOk_mk, State.regsOk_eta])

theorem execLineCopyReadReturn_says (d : Fin 8) (slot line : Fin 64) (poison : Bool) (data : Nat) (s : State) :
    s.Says (Instr.lineCopyReadReturn d slot line poison data).die (execLineCopyReadReturn d slot line poison data s) := by
  refine runOn_says _ _ _ (.of ?_ ?_)
  · simp only [↓State.lineRead_core, State.core_mk, State.core_eta, ↓apply_ite State.core, ite_self, implies_true, eq_self]
  · intro hok
    repeat' (first | with_reducible assumption | with_reducible (apply State.lineRead_ok) | with_reducible (apply State.ite_ok) | split | (intro _ _ _ hok) | (intro _ _ hok) | (intro _ hok) | simp only [State.regsOk_mk, State.regsOk_eta])

theorem execLineCopyDone_says (d : Fin 8) (slot line : Fin 64) (s : State) :
    s.Says (Instr.lineCopyDone d slot line).die (execLineCopyDone d slot line s) := by
  refine runOn_says _ _ _ (.of ?_ ?_)
  · simp only [↓State.lineDone_core, State.core_mk, State.core_eta, ↓apply_ite State.core, ite_self, implies_true, eq_self]
  · intro hok
    repeat' (first | with_reducible assumption | with_reducible (apply State.lineDone_ok) | with_reducible (apply State.ite_ok) | split | (intro _ _ _ hok) | (intro _ _ hok) | (intro _ hok) | simp only [State.regsOk_mk, State.regsOk_eta])

theorem execMigrationDrained_says (d : Fin 8) (slot : Fin 64) (s : State) :
    s.Says (Instr.migrationDrained d slot).die (execMigrationDrained d slot s) := by
  refine runOn_says _ _ _ (.of ?_ ?_)
  · simp only [↓State.migDrained_core, State.core_mk, State.core_eta, ↓apply_ite State.core, ite_self, implies_true, eq_self]
  · intro hok
    repeat' (first | with_reducible assumption | with_reducible (apply State.migDrained_ok) | with_reducible (apply State.ite_ok) | split | (intro _ _ _ hok) | (intro _ _ hok) | (intro _ hok) | simp only [State.regsOk_mk, State.regsOk_eta])

theorem execDualWriteNdr_says (d : Fin 8) (tag : Fin 1024) (newCopy : Bool) (s : State) :
    s.Says (Instr.dualWriteNdr d tag newCopy).die (execDualWriteNdr d tag newCopy s) := by
  refine runOn_says _ _ _ (.of ?_ ?_)
  · simp only [↓State.dualNdr_core, State.core_mk, State.core_eta, ↓apply_ite State.core, ite_self, implies_true, eq_self]
  · intro hok
    repeat' (first | with_reducible assumption | with_reducible (apply State.dualNdr_ok) | with_reducible (apply State.ite_ok) | split | (intro _ _ _ hok) | (intro _ _ hok) | (intro _ hok) | simp only [State.regsOk_mk, State.regsOk_eta])

theorem execStarvePromotion_says (d : Fin 8) (o : Fin 16) (e : Fin 9) (s : State) :
    s.Says (Instr.starvePromotion d o e).die (execStarvePromotion d o e s) := by
  refine runOn_says _ _ _ (.of ?_ ?_)
  · simp only [↓State.starved_core, State.core_mk, State.core_eta, ↓apply_ite State.core, ite_self, implies_true, eq_self]
  · intro hok
    repeat' (first | with_reducible assumption | with_reducible (apply State.starved_ok) | with_reducible (apply State.ite_ok) | split | (intro _ _ _ hok) | (intro _ _ hok) | (intro _ hok) | simp only [State.regsOk_mk, State.regsOk_eta])

theorem execScCommit_says (src : Src) (d : Fin 8) (s : State) : s.Says (Instr.scCommit src d).die (execScCommit src d s) := by
  refine onWrite_goes _ _ _ _ (.of ?_ ?_)
  · simp only [↓State.scCommit_core, State.core_mk, State.core_eta, ↓apply_ite State.core, ite_self, implies_true, eq_self]
  · intro hok
    repeat' (first | with_reducible assumption | with_reducible (apply State.scCommit_ok) | with_reducible (apply State.ite_ok) | split | (intro _ _ _ hok) | (intro _ _ hok) | (intro _ hok) | simp only [State.regsOk_mk, State.regsOk_eta])

theorem execWheelSlot_says (d : Fin 8) (s : State) : s.Says (Instr.wheelSlot d).die (execWheelSlot d s) := by
  refine runOn_says _ _ _ (.of ?_ ?_)
  · simp only [↓State.shpEffect_core, ↓State.wheelSlot_core, State.core_mk, State.core_eta, ↓apply_ite State.core, ite_self, implies_true, eq_self]
  · intro hok
    repeat' (first | with_reducible assumption | with_reducible (apply State.shpEffect_ok) | with_reducible (apply State.wheelSlot_ok) | with_reducible (apply State.ite_ok) | split | (intro _ _ _ hok) | (intro _ _ hok) | (intro _ hok) | simp only [State.regsOk_mk, State.regsOk_eta])

theorem execScShpRead_says (src : Src) (d : Fin 8) (index : Fin 1024) (s : State) :
    s.Says (Instr.scShpRead src d index).die (execScShpRead src d index s) := by
  refine onWrite_goes _ _ _ _ (.of ?_ ?_)
  · simp only [↓State.shpOp_core, State.core_mk, State.core_eta, ↓apply_ite State.core, ite_self, implies_true, eq_self]
  · intro hok
    repeat' (first | with_reducible assumption | with_reducible (apply State.shpOp_ok) | with_reducible (apply State.ite_ok) | split | (intro _ _ _ hok) | (intro _ _ hok) | (intro _ hok) | simp only [State.regsOk_mk, State.regsOk_eta])

theorem execScShpWrite_says (src : Src) (d : Fin 8) (index : Fin 1024) (tokReset : Fin 4) (s : State) :
    s.Says (Instr.scShpWrite src d index tokReset).die (execScShpWrite src d index tokReset s) := by
  refine onWrite_goes _ _ _ _ (.of ?_ ?_)
  · simp only [↓State.shpOp_core, State.core_mk, State.core_eta, ↓apply_ite State.core, ite_self, implies_true, eq_self]
  · intro hok
    repeat' (first | with_reducible assumption | with_reducible (apply State.shpOp_ok) | with_reducible (apply State.ite_ok) | split | (intro _ _ _ hok) | (intro _ _ hok) | (intro _ hok) | simp only [State.regsOk_mk, State.regsOk_eta])

theorem execScShpClear_says (src : Src) (d : Fin 8) (index : Fin 1024) (tokReset : Fin 4) (s : State) :
    s.Says (Instr.scShpClear src d index tokReset).die (execScShpClear src d index tokReset s) := by
  refine onWrite_goes _ _ _ _ (.of ?_ ?_)
  · simp only [↓State.shpOp_core, State.core_mk, State.core_eta, ↓apply_ite State.core, ite_self, implies_true, eq_self]
  · intro hok
    repeat' (first | with_reducible assumption | with_reducible (apply State.shpOp_ok) | with_reducible (apply State.ite_ok) | split | (intro _ _ _ hok) | (intro _ _ hok) | (intro _ hok) | simp only [State.regsOk_mk, State.regsOk_eta])

theorem execShaperWriteEffect_says (d : Fin 8) (s : State) : s.Says (Instr.shaperWriteEffect d).die (execShaperWriteEffect d s) := by
  refine runOn_says _ _ _ (.of ?_ ?_)
  · simp only [↓State.shpEffect_core, State.core_mk, State.core_eta, ↓apply_ite State.core, ite_self, implies_true, eq_self]
  · intro hok
    repeat' (first | with_reducible assumption | with_reducible (apply State.shpEffect_ok) | with_reducible (apply State.ite_ok) | split | (intro _ _ _ hok) | (intro _ _ hok) | (intro _ hok) | simp only [State.regsOk_mk, State.regsOk_eta])

theorem execPolicerCreditReturn_says (d : Fin 8) (q : Fin 16) (c : Fin 12) (s : State) :
    s.Says (Instr.policerCreditReturn d q c).die (execPolicerCreditReturn d q c s) := by
  refine runOn_says _ _ _ (.of ?_ ?_)
  · simp only [↓State.payCredit_core, State.core_mk, State.core_eta, ↓apply_ite State.core, ite_self, implies_true, eq_self]
  · intro hok
    repeat' (first | with_reducible assumption | with_reducible (apply State.payCredit_ok) | with_reducible (apply State.ite_ok) | split | (intro _ _ _ hok) | (intro _ _ hok) | (intro _ hok) | simp only [State.regsOk_mk, State.regsOk_eta])

theorem execDmDoorbell_says (src : Src) (d : Fin 8) (q : QTo) (s : State) :
    s.Says (Instr.dmDoorbell src d q).die (execDmDoorbell src d q s) := by
  refine onQueue_goes _ _ _ _ _ _ (fun q s => ?_) (fun q s => ?_)
  · simp only [↓State.doorbell_core, State.core_mk, State.core_eta, ↓apply_ite State.core, ite_self, implies_true, eq_self]
  · intro hok
    repeat' (first | with_reducible assumption | with_reducible (apply State.doorbell_ok) | with_reducible (apply State.ite_ok) | split | (intro _ _ _ hok) | (intro _ _ hok) | (intro _ hok) | simp only [State.regsOk_mk, State.regsOk_eta])

theorem execScanReadReturn_says (d : Fin 8) (tag : Fin 65536) (line : Nat) (poison : Bool) (s : State) :
    s.Says (Instr.scanReadReturn d tag line poison).die (execScanReadReturn d tag line poison s) := by
  refine runOn_says _ _ _ (.of ?_ ?_)
  · simp only [↓State.responseFor_core, ↓State.dmResponse_core, State.core_mk, State.core_eta, ↓apply_ite State.core, ite_self, implies_true, eq_self]
  · intro hok
    repeat' (first | with_reducible assumption | with_reducible (apply State.responseFor_ok) | with_reducible (apply State.dmResponse_ok) | with_reducible (apply State.ite_ok) | split | (intro _ _ _ hok) | (intro _ _ hok) | (intro _ hok) | simp only [State.regsOk_mk, State.regsOk_eta])

theorem execEngineArbitration_says (d e : Fin 8) (s : State) :
    s.Says (Instr.engineArbitration d e).die (execEngineArbitration d e s) := by
  refine runOn_says _ _ _ (.of ?_ ?_)
  · simp only [↓State.engineTurn_core, State.core_mk, State.core_eta, ↓apply_ite State.core, ite_self, implies_true, eq_self]
  · intro hok
    repeat' (first | with_reducible assumption | with_reducible (apply State.engineTurn_ok) | with_reducible (apply State.ite_ok) | split | (intro _ _ _ hok) | (intro _ _ hok) | (intro _ hok) | simp only [State.regsOk_mk, State.regsOk_eta])

theorem execDmLineResponse_says (d : Fin 8) (tag : Fin 65536) (line : Nat) (poison : Bool) (s : State) :
    s.Says (Instr.dmLineResponse d tag line poison).die (execDmLineResponse d tag line poison s) := by
  refine runOn_says _ _ _ (.of ?_ ?_)
  · simp only [↓State.responseFor_core, ↓State.dmResponse_core, State.core_mk, State.core_eta, ↓apply_ite State.core, ite_self, implies_true, eq_self]
  · intro hok
    repeat' (first | with_reducible assumption | with_reducible (apply State.responseFor_ok) | with_reducible (apply State.dmResponse_ok) | with_reducible (apply State.ite_ok) | split | (intro _ _ _ hok) | (intro _ _ hok) | (intro _ hok) | simp only [State.regsOk_mk, State.regsOk_eta])

theorem execDescriptorRetire_says (d : Fin 8) (q : Fin 2048) (s : State) :
    s.Says (Instr.descriptorRetire d q).die (execDescriptorRetire d q s) := by
  refine runOn_says _ _ _ (.of ?_ ?_)
  · simp only [↓State.retire_core, State.core_mk, State.core_eta, ↓apply_ite State.core, ite_self, implies_true, eq_self]
  · intro hok
    repeat' (first | with_reducible assumption | with_reducible (apply State.retire_ok) | with_reducible (apply State.ite_ok) | split | (intro _ _ _ hok) | (intro _ _ hok) | (intro _ hok) | simp only [State.regsOk_mk, State.regsOk_eta])

theorem execMigrateReply_says (d : Fin 8) (tag : Fin 65536) (answer : MigAnswer) (s : State) :
    s.Says (Instr.migrateReply d tag answer).die (execMigrateReply d tag answer s) := by
  refine runOn_says _ _ _ (.of ?_ ?_)
  · simp only [↓State.migrateReply_core, State.core_mk, State.core_eta, ↓apply_ite State.core, ite_self, implies_true, eq_self]
  · intro hok
    repeat' (first | with_reducible assumption | with_reducible (apply State.migrateReply_ok) | with_reducible (apply State.ite_ok) | split | (intro _ _ _ hok) | (intro _ _ hok) | (intro _ hok) | simp only [State.regsOk_mk, State.regsOk_eta])

theorem execLinkRereadReturn_says (d : Fin 8) (tag : Fin 65536) (line : Nat) (poison : Bool) (s : State) :
    s.Says (Instr.linkRereadReturn d tag line poison).die (execLinkRereadReturn d tag line poison s) := by
  refine runOn_says _ _ _ (.of ?_ ?_)
  · simp only [↓State.linkReturn_core, State.core_mk, State.core_eta, ↓apply_ite State.core, ite_self, implies_true, eq_self]
  · intro hok
    repeat' (first | with_reducible assumption | with_reducible (apply State.linkReturn_ok) | with_reducible (apply State.ite_ok) | split | (intro _ _ _ hok) | (intro _ _ hok) | (intro _ hok) | simp only [State.regsOk_mk, State.regsOk_eta])

theorem execDmQEnable_says (src : Src) (d : Fin 8) (q : Fin 2048) (s : State) :
    s.Says (Instr.dmQEnable src d q).die (execDmQEnable src d q s) := by
  refine onWrite_goes _ _ _ _ (.of ?_ ?_)
  · simp only [↓State.wake_core, ↓State.queueEnable_core, State.core_mk, State.core_eta, ↓apply_ite State.core, ite_self, implies_true, eq_self]
  · intro hok
    repeat' (first | with_reducible assumption | with_reducible (apply State.wake_ok) | with_reducible (apply State.queueEnable_ok) | with_reducible (apply State.ite_ok) | split | (intro _ _ _ hok) | (intro _ _ hok) | (intro _ hok) | simp only [State.regsOk_mk, State.regsOk_eta])

theorem execDmQDisable_says (src : Src) (d : Fin 8) (q : Fin 2048) (s : State) :
    s.Says (Instr.dmQDisable src d q).die (execDmQDisable src d q s) := by
  refine onWrite_goes _ _ _ _ (.of ?_ ?_)
  · simp only [↓State.wake_core, ↓State.queueDisable_core, State.core_mk, State.core_eta, ↓apply_ite State.core, ite_self, implies_true, eq_self]
  · intro hok
    repeat' (first | with_reducible assumption | with_reducible (apply State.wake_ok) | with_reducible (apply State.queueDisable_ok) | with_reducible (apply State.ite_ok) | split | (intro _ _ _ hok) | (intro _ _ hok) | (intro _ hok) | simp only [State.regsOk_mk, State.regsOk_eta])

theorem execDmQPause_says (src : Src) (d : Fin 8) (q : QTo) (s : State) :
    s.Says (Instr.dmQPause src d q).die (execDmQPause src d q s) := by
  refine onQueue_goes _ _ _ _ _ _ (fun q s => ?_) (fun q s => ?_)
  · simp only [↓State.queuePause_core, State.core_mk, State.core_eta, ↓apply_ite State.core, ite_self, implies_true, eq_self]
  · intro hok
    repeat' (first | with_reducible assumption | with_reducible (apply State.queuePause_ok) | with_reducible (apply State.ite_ok) | split | (intro _ _ _ hok) | (intro _ _ hok) | (intro _ hok) | simp only [State.regsOk_mk, State.regsOk_eta])

theorem execDmQUnpause_says (src : Src) (d : Fin 8) (q : QTo) (s : State) :
    s.Says (Instr.dmQUnpause src d q).die (execDmQUnpause src d q s) := by
  refine onQueue_goes _ _ _ _ _ _ (fun q s => ?_) (fun q s => ?_)
  · simp only [↓State.queueUnpause_core, State.core_mk, State.core_eta, ↓apply_ite State.core, ite_self, implies_true, eq_self]
  · intro hok
    repeat' (first | with_reducible assumption | with_reducible (apply State.queueUnpause_ok) | with_reducible (apply State.ite_ok) | split | (intro _ _ _ hok) | (intro _ _ hok) | (intro _ hok) | simp only [State.regsOk_mk, State.regsOk_eta])

theorem execDmQResume_says (src : Src) (d : Fin 8) (q : QTo) (s : State) :
    s.Says (Instr.dmQResume src d q).die (execDmQResume src d q s) := by
  refine onQueue_goes _ _ _ _ _ _ (fun q s => ?_) (fun q s => ?_)
  · simp only [↓State.queueResume_core, State.core_mk, State.core_eta, ↓apply_ite State.core, ite_self, implies_true, eq_self]
  · intro hok
    repeat' (first | with_reducible assumption | with_reducible (apply State.queueResume_ok) | with_reducible (apply State.ite_ok) | split | (intro _ _ _ hok) | (intro _ _ hok) | (intro _ hok) | simp only [State.regsOk_mk, State.regsOk_eta])

theorem execDmQInvalidate_says (src : Src) (d : Fin 8) (q : QTo) (s : State) :
    s.Says (Instr.dmQInvalidate src d q).die (execDmQInvalidate src d q s) := by
  refine onQueue_goes _ _ _ _ _ _ (fun q s => ?_) (fun q s => ?_)
  · simp only [↓State.queueInvalidate_core, State.core_mk, State.core_eta, ↓apply_ite State.core, ite_self, implies_true, eq_self]
  · intro hok
    repeat' (first | with_reducible assumption | with_reducible (apply State.queueInvalidate_ok) | with_reducible (apply State.ite_ok) | split | (intro _ _ _ hok) | (intro _ _ hok) | (intro _ hok) | simp only [State.regsOk_mk, State.regsOk_eta])

theorem execCqHeadWrite_says (src : Src) (d : Fin 8) (q : QTo) (v : BitVec 32) (s : State) :
    s.Says (Instr.cqHeadWrite src d q v).die (execCqHeadWrite src d q v s) := by
  refine onQueue_goes _ _ _ _ _ _ (fun q s => ?_) (fun q s => ?_)
  · simp only [↓State.cqHead_core, State.core_mk, State.core_eta, ↓apply_ite State.core, ite_self, implies_true, eq_self]
  · intro hok
    repeat' (first | with_reducible assumption | with_reducible (apply State.cqHead_ok) | with_reducible (apply State.ite_ok) | split | (intro _ _ _ hok) | (intro _ _ hok) | (intro _ hok) | simp only [State.regsOk_mk, State.regsOk_eta])

theorem execPnReadEntry_says (src : Src) (d : Fin 8) (chan : Fin 17) (i : Fin 512) (s : State) :
    s.Says (Instr.pnReadEntry src d chan i).die (execPnReadEntry src d chan i s) := by
  refine onPn_goes _ _ _ _ _ (.of ?_ ?_)
  · simp only [↓State.pnDo_core, State.core_mk, State.core_eta, ↓apply_ite State.core, ite_self, implies_true, eq_self]
  · intro hok
    repeat' (first | with_reducible assumption | with_reducible (apply State.pnDo_ok) | with_reducible (apply State.ite_ok) | split | (intro _ _ _ hok) | (intro _ _ hok) | (intro _ hok) | simp only [State.regsOk_mk, State.regsOk_eta])

theorem execPnCreate_says (src : Src) (d : Fin 8) (chan : Fin 17) (i : Fin 512) (s : State) :
    s.Says (Instr.pnCreate src d chan i).die (execPnCreate src d chan i s) := by
  refine onPn_goes _ _ _ _ _ (.of ?_ ?_)
  · simp only [↓State.pnDo_core, State.core_mk, State.core_eta, ↓apply_ite State.core, ite_self, implies_true, eq_self]
  · intro hok
    repeat' (first | with_reducible assumption | with_reducible (apply State.pnDo_ok) | with_reducible (apply State.ite_ok) | split | (intro _ _ _ hok) | (intro _ _ hok) | (intro _ hok) | simp only [State.regsOk_mk, State.regsOk_eta])

theorem execPnRemove_says (src : Src) (d : Fin 8) (chan : Fin 17) (i : Fin 512) (s : State) :
    s.Says (Instr.pnRemove src d chan i).die (execPnRemove src d chan i s) := by
  refine onPn_goes _ _ _ _ _ (.of ?_ ?_)
  · simp only [↓State.pnDo_core, State.core_mk, State.core_eta, ↓apply_ite State.core, ite_self, implies_true, eq_self]
  · intro hok
    repeat' (first | with_reducible assumption | with_reducible (apply State.pnDo_ok) | with_reducible (apply State.ite_ok) | split | (intro _ _ _ hok) | (intro _ _ hok) | (intro _ hok) | simp only [State.regsOk_mk, State.regsOk_eta])

theorem execPnReset_says (src : Src) (d : Fin 8) (chan : Fin 17) (i : Fin 512) (s : State) :
    s.Says (Instr.pnReset src d chan i).die (execPnReset src d chan i s) := by
  refine onPn_goes _ _ _ _ _ (.of ?_ ?_)
  · simp only [↓State.pnDo_core, State.core_mk, State.core_eta, ↓apply_ite State.core, ite_self, implies_true, eq_self]
  · intro hok
    repeat' (first | with_reducible assumption | with_reducible (apply State.pnDo_ok) | with_reducible (apply State.ite_ok) | split | (intro _ _ _ hok) | (intro _ _ hok) | (intro _ hok) | simp only [State.regsOk_mk, State.regsOk_eta])

theorem execPnSetQueue_says (src : Src) (d : Fin 8) (chan : Fin 17) (i : Fin 512) (j : Fin 16) (s : State) :
    s.Says (Instr.pnSetQueue src d chan i j).die (execPnSetQueue src d chan i j s) := by
  refine onPn_goes _ _ _ _ _ (.of ?_ ?_)
  · simp only [↓State.pnDo_core, State.core_mk, State.core_eta, ↓apply_ite State.core, ite_self, implies_true, eq_self]
  · intro hok
    repeat' (first | with_reducible assumption | with_reducible (apply State.pnDo_ok) | with_reducible (apply State.ite_ok) | split | (intro _ _ _ hok) | (intro _ _ hok) | (intro _ hok) | simp only [State.regsOk_mk, State.regsOk_eta])

theorem execPnSetShaper_says (src : Src) (d : Fin 8) (chan : Fin 17) (i : Fin 512) (j : Fin 16) (tokReset : Fin 4) (s : State) :
    s.Says (Instr.pnSetShaper src d chan i j tokReset).die (execPnSetShaper src d chan i j tokReset s) := by
  refine onPn_goes _ _ _ _ _ (.of ?_ ?_)
  · simp only [↓State.pnDo_core, State.core_mk, State.core_eta, ↓apply_ite State.core, ite_self, implies_true, eq_self]
  · intro hok
    repeat' (first | with_reducible assumption | with_reducible (apply State.pnDo_ok) | with_reducible (apply State.ite_ok) | split | (intro _ _ _ hok) | (intro _ _ hok) | (intro _ hok) | simp only [State.regsOk_mk, State.regsOk_eta])

theorem execPnSetCounter_says (src : Src) (d : Fin 8) (chan : Fin 17) (i : Fin 512) (k : Fin 16) (s : State) :
    s.Says (Instr.pnSetCounter src d chan i k).die (execPnSetCounter src d chan i k s) := by
  refine onPn_goes _ _ _ _ _ (.of ?_ ?_)
  · simp only [↓State.pnDo_core, State.core_mk, State.core_eta, ↓apply_ite State.core, ite_self, implies_true, eq_self]
  · intro hok
    repeat' (first | with_reducible assumption | with_reducible (apply State.pnDo_ok) | with_reducible (apply State.ite_ok) | split | (intro _ _ _ hok) | (intro _ _ hok) | (intro _ hok) | simp only [State.regsOk_mk, State.regsOk_eta])

theorem execPnFreeze_says (src : Src) (d : Fin 8) (chan : Fin 17) (i : Fin 512) (s : State) :
    s.Says (Instr.pnFreeze src d chan i).die (execPnFreeze src d chan i s) := by
  refine onPn_goes _ _ _ _ _ (.of ?_ ?_)
  · simp only [↓State.pnDo_core, State.core_mk, State.core_eta, ↓apply_ite State.core, ite_self, implies_true, eq_self]
  · intro hok
    repeat' (first | with_reducible assumption | with_reducible (apply State.pnDo_ok) | with_reducible (apply State.ite_ok) | split | (intro _ _ _ hok) | (intro _ _ hok) | (intro _ hok) | simp only [State.regsOk_mk, State.regsOk_eta])

theorem execFreezeComplete_says (d : Fin 8) (i : Fin 512) (s : State) :
    s.Says (Instr.freezeComplete d i).die (execFreezeComplete d i s) := by
  refine runOn_says _ _ _ (.of ?_ ?_)
  · simp only [↓State.frozen_core, State.core_mk, State.core_eta, ↓apply_ite State.core, ite_self, implies_true, eq_self]
  · intro hok
    repeat' (first | with_reducible assumption | with_reducible (apply State.frozen_ok) | with_reducible (apply State.ite_ok) | split | (intro _ _ _ hok) | (intro _ _ hok) | (intro _ hok) | simp only [State.regsOk_mk, State.regsOk_eta])

theorem execFreezeTmoExpiry_says (d : Fin 8) (i : Fin 512) (s : State) :
    s.Says (Instr.freezeTmoExpiry d i).die (execFreezeTmoExpiry d i s) := by
  refine runOn_says _ _ _ (.of ?_ ?_)
  · simp only [↓State.freezeFail_core, State.core_mk, State.core_eta, ↓apply_ite State.core, ite_self, implies_true, eq_self]
  · intro hok
    repeat' (first | with_reducible assumption | with_reducible (apply State.freezeFail_ok) | with_reducible (apply State.ite_ok) | split | (intro _ _ _ hok) | (intro _ _ hok) | (intro _ hok) | simp only [State.regsOk_mk, State.regsOk_eta])

theorem execPnSave_says (src : Src) (d : Fin 8) (chan : Fin 17) (i : Fin 512) (s : State) :
    s.Says (Instr.pnSave src d chan i).die (execPnSave src d chan i s) := by
  refine onPn_goes _ _ _ _ _ (.of ?_ ?_)
  · simp only [↓State.pnDo_core, State.core_mk, State.core_eta, ↓apply_ite State.core, ite_self, implies_true, eq_self]
  · intro hok
    repeat' (first | with_reducible assumption | with_reducible (apply State.pnDo_ok) | with_reducible (apply State.ite_ok) | split | (intro _ _ _ hok) | (intro _ _ hok) | (intro _ hok) | simp only [State.regsOk_mk, State.regsOk_eta])

theorem execPnRestore_says (src : Src) (d : Fin 8) (chan : Fin 17) (i : Fin 512) (s : State) :
    s.Says (Instr.pnRestore src d chan i).die (execPnRestore src d chan i s) := by
  refine onPn_goes _ _ _ _ _ (.of ?_ ?_)
  · simp only [↓State.pnDo_core, State.core_mk, State.core_eta, ↓apply_ite State.core, ite_self, implies_true, eq_self]
  · intro hok
    repeat' (first | with_reducible assumption | with_reducible (apply State.pnDo_ok) | with_reducible (apply State.ite_ok) | split | (intro _ _ _ hok) | (intro _ _ hok) | (intro _ hok) | simp only [State.regsOk_mk, State.regsOk_eta])

theorem execPnThaw_says (src : Src) (d : Fin 8) (chan : Fin 17) (i : Fin 512) (s : State) :
    s.Says (Instr.pnThaw src d chan i).die (execPnThaw src d chan i s) := by
  refine onPn_goes _ _ _ _ _ (.of ?_ ?_)
  · simp only [↓State.pnDo_core, State.core_mk, State.core_eta, ↓apply_ite State.core, ite_self, implies_true, eq_self]
  · intro hok
    repeat' (first | with_reducible assumption | with_reducible (apply State.pnDo_ok) | with_reducible (apply State.ite_ok) | split | (intro _ _ _ hok) | (intro _ _ hok) | (intro _ hok) | simp only [State.regsOk_mk, State.regsOk_eta])

theorem execStaleOutZero_says (d : Fin 8) (i : Fin 512) (s : State) :
    s.Says (Instr.staleOutZero d i).die (execStaleOutZero d i s) := by
  refine runOn_says _ _ _ (.of ?_ ?_)
  · simp only [↓State.staleZero_core, State.core_mk, State.core_eta, ↓apply_ite State.core, ite_self, implies_true, eq_self]
  · intro hok
    repeat' (first | with_reducible assumption | with_reducible (apply State.staleZero_ok) | with_reducible (apply State.ite_ok) | split | (intro _ _ _ hok) | (intro _ _ hok) | (intro _ hok) | simp only [State.regsOk_mk, State.regsOk_eta])

theorem execFenceCmd_says (src : Src) (d : Fin 8) (q : Fin 16) (s : State) :
    s.Says (Instr.fenceCmd src d q).die (execFenceCmd src d q s) := by
  refine onWrite_goes _ _ _ _ (.of ?_ ?_)
  · simp only [↓State.fenceOp_core, State.core_mk, State.core_eta, ↓apply_ite State.core, ite_self, implies_true, eq_self]
  · intro hok
    repeat' (first | with_reducible assumption | with_reducible (apply State.fenceOp_ok) | with_reducible (apply State.ite_ok) | split | (intro _ _ _ hok) | (intro _ _ hok) | (intro _ hok) | simp only [State.regsOk_mk, State.regsOk_eta])

theorem execUnfenceCmd_says (src : Src) (d : Fin 8) (q : Fin 16) (s : State) :
    s.Says (Instr.unfenceCmd src d q).die (execUnfenceCmd src d q s) := by
  refine onWrite_goes _ _ _ _ (.of ?_ ?_)
  · simp only [↓State.fenceOp_core, State.core_mk, State.core_eta, ↓apply_ite State.core, ite_self, implies_true, eq_self]
  · intro hok
    repeat' (first | with_reducible assumption | with_reducible (apply State.fenceOp_ok) | with_reducible (apply State.ite_ok) | split | (intro _ _ _ hok) | (intro _ _ hok) | (intro _ hok) | simp only [State.regsOk_mk, State.regsOk_eta])

theorem execScrubStep_says (d : Fin 8) (hit : ScrubHit) (s : State) : s.Says (Instr.scrubStep d hit).die (execScrubStep d hit s) := by
  refine runOn_says _ _ _ (.of ?_ ?_)
  · repeat' (first | with_reducible rfl | simp only [↓State.scrubJudge_core, ↓State.scrubSingle_core, ↓State.scrubDouble_core, State.core_mk, State.core_eta, ↓apply_ite State.core, ite_self, implies_true, eq_self] | split)
  · intro hok
    repeat' (first | with_reducible assumption | with_reducible (apply State.scrubJudge_ok) | with_reducible (apply State.scrubSingle_ok) | with_reducible (apply State.scrubDouble_ok) | with_reducible (apply State.ite_ok) | split | (intro _ _ _ hok) | (intro _ _ hok) | (intro _ hok) | simp only [State.regsOk_mk, State.regsOk_eta])

theorem execWatchdogKick_says (src : Src) (d : Fin 8) (v : BitVec 32) (s : State) :
    s.Says (Instr.watchdogKick src d v).die (execWatchdogKick src d v s) := by
  refine onWrite_goes _ _ _ _ (.of ?_ ?_)
  · simp only [↓State.wdogKick_core, State.core_mk, State.core_eta, ↓apply_ite State.core, ite_self, implies_true, eq_self]
  · intro hok
    repeat' (first | with_reducible assumption | with_reducible (apply State.wdogKick_ok) | with_reducible (apply State.ite_ok) | split | (intro _ _ _ hok) | (intro _ _ hok) | (intro _ hok) | simp only [State.regsOk_mk, State.regsOk_eta])

theorem execWatchdogExpiry_says (d : Fin 8) (s : State) : s.Says (Instr.watchdogExpiry d).die (execWatchdogExpiry d s) := by
  refine runOn_says _ _ _ (.of ?_ ?_)
  · simp only [↓State.restartWarden_core, State.core_mk, State.core_eta, ↓apply_ite State.core, ite_self, implies_true, eq_self]
  · intro hok
    repeat' (first | with_reducible assumption | with_reducible (apply State.restartWarden_ok) | with_reducible (apply State.ite_ok) | split | (intro _ _ _ hok) | (intro _ _ hok) | (intro _ hok) | simp only [State.regsOk_mk, State.regsOk_eta])

theorem execSlotEnWrite_says (src : Src) (d : Fin 8) (q : Fin 16) (en : Bool) (s : State) :
    s.Says (Instr.slotEnWrite src d q en).die (execSlotEnWrite src d q en s) := by
  refine onSlotWrite_goes _ _ _ _ _ (.of ?_ ?_)
  · simp only [↓State.slotEn_core, State.core_mk, State.core_eta, ↓apply_ite State.core, ite_self, implies_true, eq_self]
  · intro hok
    repeat' (first | with_reducible assumption | with_reducible (apply State.slotEn_ok) | with_reducible (apply State.ite_ok) | split | (intro _ _ _ hok) | (intro _ _ hok) | (intro _ hok) | simp only [State.regsOk_mk, State.regsOk_eta])

theorem execPrsntFall_says (d : Fin 8) (q : Fin 16) (s : State) : s.Says (Instr.prsntFall d q).die (execPrsntFall d q s) := by
  refine onPrsnt_says _ _ _ _ _ (fun s => .of ?_ ?_)
  · simp only [↓State.slotTo_core, State.core_mk, State.core_eta, ↓apply_ite State.core, ite_self, implies_true, eq_self]
  · intro hok
    repeat' (first | with_reducible assumption | with_reducible (apply State.slotTo_ok) | with_reducible (apply State.ite_ok) | split | (intro _ _ _ hok) | (intro _ _ hok) | (intro _ hok) | simp only [State.regsOk_mk, State.regsOk_eta])

theorem execPresenceConfirmed_says (d : Fin 8) (q : Fin 16) (s : State) :
    s.Says (Instr.presenceConfirmed d q).die (execPresenceConfirmed d q s) := by
  refine onSlot_says _ _ _ _ (.of ?_ ?_)
  · simp only [↓State.inserted_core, State.core_mk, State.core_eta, ↓apply_ite State.core, ite_self, implies_true, eq_self]
  · intro hok
    repeat' (first | with_reducible assumption | with_reducible (apply State.inserted_ok) | with_reducible (apply State.ite_ok) | split | (intro _ _ _ hok) | (intro _ _ hok) | (intro _ hok) | simp only [State.regsOk_mk, State.regsOk_eta])

theorem execPrsntRise_says (d : Fin 8) (q : Fin 16) (s : State) : s.Says (Instr.prsntRise d q).die (execPrsntRise d q s) := by
  refine onPrsnt_says _ _ _ _ _ (fun s => .of ?_ ?_)
  · simp only [↓State.removed_core, State.core_mk, State.core_eta, ↓apply_ite State.core, ite_self, implies_true, eq_self]
  · intro hok
    repeat' (first | with_reducible assumption | with_reducible (apply State.removed_ok) | with_reducible (apply State.ite_ok) | split | (intro _ _ _ hok) | (intro _ _ hok) | (intro _ hok) | simp only [State.regsOk_mk, State.regsOk_eta])

theorem execSlotPowerWrite_says (src : Src) (d : Fin 8) (q : Fin 16) (on : Bool) (s : State) :
    s.Says (Instr.slotPowerWrite src d q on).die (execSlotPowerWrite src d q on s) := by
  refine onSlotWrite_goes _ _ _ _ _ (.of ?_ ?_)
  · simp only [↓State.slotPower_core, State.core_mk, State.core_eta, ↓apply_ite State.core, ite_self, implies_true, eq_self]
  · intro hok
    repeat' (first | with_reducible assumption | with_reducible (apply State.slotPower_ok) | with_reducible (apply State.ite_ok) | split | (intro _ _ _ hok) | (intro _ _ hok) | (intro _ hok) | simp only [State.regsOk_mk, State.regsOk_eta])

theorem execRampShortCheck_says (d : Fin 8) (q : Fin 16) (vout : Nat) (s : State) :
    s.Says (Instr.rampShortCheck d q vout).die (execRampShortCheck d q vout s) := by
  refine onSlot_says _ _ _ _ (.of ?_ ?_)
  · simp only [↓State.trip_core, ↓State.updSlot_core, State.core_mk, State.core_eta, ↓apply_ite State.core, ite_self, implies_true, eq_self]
  · intro hok
    repeat' (first | with_reducible assumption | with_reducible (apply State.trip_ok) | with_reducible (apply State.updSlot_ok) | with_reducible (apply State.ite_ok) | split | (intro _ _ _ hok) | (intro _ _ hok) | (intro _ hok) | simp only [State.regsOk_mk, State.regsOk_eta])

theorem execGateCheck_says (d : Fin 8) (q : Fin 16) (gate : Nat) (s : State) :
    s.Says (Instr.gateCheck d q gate).die (execGateCheck d q gate s) := by
  refine onSlot_says _ _ _ _ (.of ?_ ?_)
  · simp only [↓State.trip_core, State.core_mk, State.core_eta, ↓apply_ite State.core, ite_self, implies_true, eq_self]
  · intro hok
    repeat' (first | with_reducible assumption | with_reducible (apply State.trip_ok) | with_reducible (apply State.ite_ok) | split | (intro _ _ _ hok) | (intro _ _ hok) | (intro _ hok) | simp only [State.regsOk_mk, State.regsOk_eta])

theorem execRampComplete_says (d : Fin 8) (q : Fin 16) (gate vout : Nat) (feedsHigh : Bool) (s : State) :
    s.Says (Instr.rampComplete d q gate vout feedsHigh).die (execRampComplete d q gate vout feedsHigh s) := by
  refine onSlot_says _ _ _ _ (.of ?_ ?_)
  · simp only [↓State.rampDone_core, State.core_mk, State.core_eta, ↓apply_ite State.core, ite_self, implies_true, eq_self]
  · intro hok
    repeat' (first | with_reducible assumption | with_reducible (apply State.rampDone_ok) | with_reducible (apply State.ite_ok) | split | (intro _ _ _ hok) | (intro _ _ hok) | (intro _ hok) | simp only [State.regsOk_mk, State.regsOk_eta])

theorem execRampTimeout_says (d : Fin 8) (q : Fin 16) (s : State) : s.Says (Instr.rampTimeout d q).die (execRampTimeout d q s) := by
  refine onSlot_says _ _ _ _ (.of ?_ ?_)
  · simp only [↓State.trip_core, State.core_mk, State.core_eta, ↓apply_ite State.core, ite_self, implies_true, eq_self]
  · intro hok
    repeat' (first | with_reducible assumption | with_reducible (apply State.trip_ok) | with_reducible (apply State.ite_ok) | split | (intro _ _ _ hok) | (intro _ _ hok) | (intro _ hok) | simp only [State.regsOk_mk, State.regsOk_eta])

theorem execFaultTimerExpiry_says (d : Fin 8) (q : Fin 16) (s : State) :
    s.Says (Instr.faultTimerExpiry d q).die (execFaultTimerExpiry d q s) := by
  refine onSlot_says _ _ _ _ (.of ?_ ?_)
  · simp only [↓State.trip_core, State.core_mk, State.core_eta, ↓apply_ite State.core, ite_self, implies_true, eq_self]
  · intro hok
    repeat' (first | with_reducible assumption | with_reducible (apply State.trip_ok) | with_reducible (apply State.ite_ok) | split | (intro _ _ _ hok) | (intro _ _ hok) | (intro _ hok) | simp only [State.regsOk_mk, State.regsOk_eta])

theorem execFastTrip_says (d : Fin 8) (q : Fin 16) (sense : Nat) (s : State) :
    s.Says (Instr.fastTrip d q sense).die (execFastTrip d q sense s) := by
  refine onSlot_says _ _ _ _ (.of ?_ ?_)
  · simp only [↓State.updSlot_core, ↓State.trip_core, State.core_mk, State.core_eta, ↓apply_ite State.core, ite_self, implies_true, eq_self]
  · intro hok
    repeat' (first | with_reducible assumption | with_reducible (apply State.updSlot_ok) | with_reducible (apply State.trip_ok) | with_reducible (apply State.ite_ok) | split | (intro _ _ _ hok) | (intro _ _ hok) | (intro _ hok) | simp only [State.regsOk_mk, State.regsOk_eta])

theorem execOutputUnderVoltage_says (d : Fin 8) (q : Fin 16) (s : State) :
    s.Says (Instr.outputUnderVoltage d q).die (execOutputUnderVoltage d q s) := by
  refine onSlot_says _ _ _ _ (.of ?_ ?_)
  · simp only [↓State.trip_core, State.core_mk, State.core_eta, ↓apply_ite State.core, ite_self, implies_true, eq_self]
  · intro hok
    repeat' (first | with_reducible assumption | with_reducible (apply State.trip_ok) | with_reducible (apply State.ite_ok) | split | (intro _ _ _ hok) | (intro _ _ hok) | (intro _ hok) | simp only [State.regsOk_mk, State.regsOk_eta])

theorem execPgoodLost_says (d : Fin 8) (q : Fin 16) (s : State) : s.Says (Instr.pgoodLost d q).die (execPgoodLost d q s) := by
  refine onSlot_says _ _ _ _ (.of ?_ ?_)
  · simp only [↓State.off_core, ↓State.spEv_core, State.core_mk, State.core_eta, ↓apply_ite State.core, ite_self, implies_true, eq_self]
  · intro hok
    repeat' (first | with_reducible assumption | with_reducible (apply State.off_ok) | with_reducible (apply State.spEv_ok) | with_reducible (apply State.ite_ok) | split | (intro _ _ _ hok) | (intro _ _ hok) | (intro _ hok) | simp only [State.regsOk_mk, State.regsOk_eta])

theorem execRetryTimerEnd_says (d : Fin 8) (q : Fin 16) (s : State) :
    s.Says (Instr.retryTimerEnd d q).die (execRetryTimerEnd d q s) := by
  refine onSlot_says _ _ _ _ (.of ?_ ?_)
  · simp only [↓State.updSlot_core, ↓State.cooldownEnd_core, State.core_mk, State.core_eta, ↓apply_ite State.core, ite_self, implies_true, eq_self]
  · intro hok
    repeat' (first | with_reducible assumption | with_reducible (apply State.updSlot_ok) | with_reducible (apply State.cooldownEnd_ok) | with_reducible (apply State.ite_ok) | split | (intro _ _ _ hok) | (intro _ _ hok) | (intro _ hok) | simp only [State.regsOk_mk, State.regsOk_eta])

theorem execSlotUnlock_says (src : Src) (d : Fin 8) (q : Fin 16) (s : State) :
    s.Says (Instr.slotUnlock src d q).die (execSlotUnlock src d q s) := by
  refine onSlotWrite_goes _ _ _ _ _ (.of ?_ ?_)
  · simp only [↓State.slotUnlock_core, State.core_mk, State.core_eta, ↓apply_ite State.core, ite_self, implies_true, eq_self]
  · intro hok
    repeat' (first | with_reducible assumption | with_reducible (apply State.slotUnlock_ok) | with_reducible (apply State.ite_ok) | split | (intro _ _ _ hok) | (intro _ _ hok) | (intro _ hok) | simp only [State.regsOk_mk, State.regsOk_eta])

end Sys2Proof.Machine
end

