-- ==== Sys2Proof/Laws/Commands3.lean ====
section
/-! SUPPORT. What each command answers (part 4 of 4): a next state of the same part with the same commands waiting and no life-cycle
fuse made whole. -/

namespace Sys2Proof.Machine
set_option linter.unusedSimpArgs false
set_option linter.unusedVariables false
set_option linter.unreachableTactic false
set_option linter.unusedTactic false

theorem execFeedGood_says (d : Fin 8) (q : Fin 16) (feed : Fin 2) (s : State) :
    s.Says (Instr.feedGood d q feed).die (execFeedGood d q feed s) := by
  refine onSlot_says _ _ _ _ (.of ?_ ?_)
  · simp only [↓State.on_core, ↓State.setOring_core, State.core_mk, State.core_eta, ↓apply_ite State.core, ite_self, implies_true, eq_self]
  · intro hok
    repeat' (first | with_reducible assumption | with_reducible (apply State.on_ok) | with_reducible (apply State.setOring_ok) | with_reducible (apply State.ite_ok) | split | (intro _ _ _ hok) | (intro _ _ hok) | (intro _ hok) | simp only [State.regsOk_mk, State.regsOk_eta])

theorem execFeedLost_says (d : Fin 8) (q : Fin 16) (feed : Fin 2) (high : Bool) (s : State) :
    s.Says (Instr.feedLost d q feed high).die (execFeedLost d q feed high s) := by
  refine onSlot_says _ _ _ _ (.of ?_ ?_)
  · simp only [↓State.feedLost_core, State.core_mk, State.core_eta, ↓apply_ite State.core, ite_self, implies_true, eq_self]
  · intro hok
    repeat' (first | with_reducible assumption | with_reducible (apply State.feedLost_ok) | with_reducible (apply State.ite_ok) | split | (intro _ _ _ hok) | (intro _ _ hok) | (intro _ hok) | simp only [State.regsOk_mk, State.regsOk_eta])

theorem execReverseCurrent_says (d : Fin 8) (q : Fin 16) (feed : Fin 2) (s : State) :
    s.Says (Instr.reverseCurrent d q feed).die (execReverseCurrent d q feed s) := by
  refine onSlot_says _ _ _ _ (.of ?_ ?_)
  · simp only [↓State.reverse__core, State.core_mk, State.core_eta, ↓apply_ite State.core, ite_self, implies_true, eq_self]
  · intro hok
    repeat' (first | with_reducible assumption | with_reducible (apply State.reverse__ok) | with_reducible (apply State.ite_ok) | split | (intro _ _ _ hok) | (intro _ _ hok) | (intro _ hok) | simp only [State.regsOk_mk, State.regsOk_eta])

theorem execOringReenable_says (d : Fin 8) (q : Fin 16) (feed : Fin 2) (s : State) :
    s.Says (Instr.oringReenable d q feed).die (execOringReenable d q feed s) := by
  refine onSlot_says _ _ _ _ (.of ?_ ?_)
  · simp only [↓State.updSlot_core, ↓State.setOring_core, State.core_mk, State.core_eta, ↓apply_ite State.core, ite_self, implies_true, eq_self]
  · intro hok
    repeat' (first | with_reducible assumption | with_reducible (apply State.updSlot_ok) | with_reducible (apply State.setOring_ok) | with_reducible (apply State.ite_ok) | split | (intro _ _ _ hok) | (intro _ _ hok) | (intro _ hok) | simp only [State.regsOk_mk, State.regsOk_eta])

theorem execSlotSample_says (d : Fin 8) (q : Fin 16) (got : SlotSample) (s : State) :
    s.Says (Instr.slotSample d q got).die (execSlotSample d q got s) := by
  refine onSlot_says _ _ _ _ (.of ?_ ?_)
  · simp only [↓State.slotSample_core, State.core_mk, State.core_eta, ↓apply_ite State.core, ite_self, implies_true, eq_self]
  · intro hok
    repeat' (first | with_reducible assumption | with_reducible (apply State.slotSample_ok) | with_reducible (apply State.ite_ok) | split | (intro _ _ _ hok) | (intro _ _ hok) | (intro _ hok) | simp only [State.regsOk_mk, State.regsOk_eta])

theorem execFetTempSample_says (d : Fin 8) (q : Fin 16) (got : Int) (s : State) :
    s.Says (Instr.fetTempSample d q got).die (execFetTempSample d q got s) := by
  refine onSlot_says _ _ _ _ (.of ?_ ?_)
  · simp only [↓State.fetTemp_core, State.core_mk, State.core_eta, ↓apply_ite State.core, ite_self, implies_true, eq_self]
  · intro hok
    repeat' (first | with_reducible assumption | with_reducible (apply State.fetTemp_ok) | with_reducible (apply State.ite_ok) | split | (intro _ _ _ hok) | (intro _ _ hok) | (intro _ hok) | simp only [State.regsOk_mk, State.regsOk_eta])

theorem execSlotMeasurementUpdate_says (d : Fin 8) (q : Fin 16) (s : State) :
    s.Says (Instr.slotMeasurementUpdate d q).die (execSlotMeasurementUpdate d q s) := by
  refine onSlot_says _ _ _ _ (.of ?_ ?_)
  · simp only [↓State.slotMeasure_core, State.core_mk, State.core_eta, ↓apply_ite State.core, ite_self, implies_true, eq_self]
  · intro hok
    repeat' (first | with_reducible assumption | with_reducible (apply State.slotMeasure_ok) | with_reducible (apply State.ite_ok) | split | (intro _ _ _ hok) | (intro _ _ hok) | (intro _ hok) | simp only [State.regsOk_mk, State.regsOk_eta])

theorem execForecastAssert_says (d : Fin 8) (q : Fin 16) (s : State) :
    s.Says (Instr.forecastAssert d q).die (execForecastAssert d q s) := by
  refine onSlot_says _ _ _ _ (.of ?_ ?_)
  · simp only [↓State.forecastNow_core, State.core_mk, State.core_eta, ↓apply_ite State.core, ite_self, implies_true, eq_self]
  · intro hok
    repeat' (first | with_reducible assumption | with_reducible (apply State.forecastNow_ok) | with_reducible (apply State.ite_ok) | split | (intro _ _ _ hok) | (intro _ _ hok) | (intro _ hok) | simp only [State.regsOk_mk, State.regsOk_eta])

theorem execForecastClear_says (d : Fin 8) (q : Fin 16) (s : State) :
    s.Says (Instr.forecastClear d q).die (execForecastClear d q s) := by
  refine onSlot_says _ _ _ _ (.of ?_ ?_)
  · simp only [↓State.off_core, State.core_mk, State.core_eta, ↓apply_ite State.core, ite_self, implies_true, eq_self]
  · intro hok
    repeat' (first | with_reducible assumption | with_reducible (apply State.off_ok) | with_reducible (apply State.ite_ok) | split | (intro _ _ _ hok) | (intro _ _ hok) | (intro _ hok) | simp only [State.regsOk_mk, State.regsOk_eta])

theorem execPerstReleaseTimer_says (d : Fin 8) (q : Fin 16) (s : State) :
    s.Says (Instr.perstReleaseTimer d q).die (execPerstReleaseTimer d q s) := by
  refine onSlot_says _ _ _ _ (.of ?_ ?_)
  · simp only [↓State.updSlot_core, ↓State.setPerst_core, ↓State.perstDone_core, ↓State.perstHold_core, State.core_mk, State.core_eta, ↓apply_ite State.core, ite_self, implies_true, eq_self]
  · intro hok
    repeat' (first | with_reducible assumption | with_reducible (apply State.updSlot_ok) | with_reducible (apply State.setPerst_ok) | with_reducible (apply State.perstDone_ok) | with_reducible (apply State.perstHold_ok) | with_reducible (apply State.ite_ok) | split | (intro _ _ _ hok) | (intro _ _ hok) | (intro _ hok) | simp only [State.regsOk_mk, State.regsOk_eta])

theorem execPerstHoldWrite_says (src : Src) (d : Fin 8) (q : Fin 16) (hold : Bool) (s : State) :
    s.Says (Instr.perstHoldWrite src d q hold).die (execPerstHoldWrite src d q hold s) := by
  refine onSlotWrite_goes _ _ _ _ _ (.of ?_ ?_)
  · simp only [↓State.perstHold_core, State.core_mk, State.core_eta, ↓apply_ite State.core, ite_self, implies_true, eq_self]
  · intro hok
    repeat' (first | with_reducible assumption | with_reducible (apply State.perstHold_ok) | with_reducible (apply State.ite_ok) | split | (intro _ _ _ hok) | (intro _ _ hok) | (intro _ hok) | simp only [State.regsOk_mk, State.regsOk_eta])

theorem execFcLeadExpiry_says (d : Fin 8) (q : Fin 16) (s : State) :
    s.Says (Instr.fcLeadExpiry d q).die (execFcLeadExpiry d q s) := by
  refine onSlot_says _ _ _ _ (.of ?_ ?_)
  · simp only [↓State.updSlot_core, ↓State.setPerst_core, ↓State.portTold_core, State.core_mk, State.core_eta, ↓apply_ite State.core, ite_self, implies_true, eq_self]
  · intro hok
    repeat' (first | with_reducible assumption | with_reducible (apply State.updSlot_ok) | with_reducible (apply State.setPerst_ok) | with_reducible (apply State.portTold_ok) | with_reducible (apply State.ite_ok) | split | (intro _ _ _ hok) | (intro _ _ hok) | (intro _ hok) | simp only [State.regsOk_mk, State.regsOk_eta])

theorem execGateOffDelay_says (d : Fin 8) (q : Fin 16) (s : State) :
    s.Says (Instr.gateOffDelay d q).die (execGateOffDelay d q s) := by
  refine onSlot_says _ _ _ _ (.of ?_ ?_)
  · simp only [↓State.gateOff_core, State.core_mk, State.core_eta, ↓apply_ite State.core, ite_self, implies_true, eq_self]
  · intro hok
    repeat' (first | with_reducible assumption | with_reducible (apply State.gateOff_ok) | with_reducible (apply State.ite_ok) | split | (intro _ _ _ hok) | (intro _ _ hok) | (intro _ hok) | simp only [State.regsOk_mk, State.regsOk_eta])

theorem execStoppingEnd_says (d : Fin 8) (q : Fin 16) (s : State) : s.Says (Instr.stoppingEnd d q).die (execStoppingEnd d q s) := by
  refine onSlot_says _ _ _ _ (.of ?_ ?_)
  · simp only [↓State.portTold_core, ↓State.gateOff_core, ↓State.spEv_core, ↓State.slotPresent_core, State.core_mk, State.core_eta, ↓apply_ite State.core, ite_self, implies_true, eq_self]
  · intro hok
    repeat' (first | with_reducible assumption | with_reducible (apply State.portTold_ok) | with_reducible (apply State.gateOff_ok) | with_reducible (apply State.spEv_ok) | with_reducible (apply State.slotPresent_ok) | with_reducible (apply State.ite_ok) | split | (intro _ _ _ hok) | (intro _ _ hok) | (intro _ hok) | simp only [State.regsOk_mk, State.regsOk_eta])

theorem execCommandAccept_says (d : Fin 8) (c : Fin 6) (opcode : Fin 65536) (payload : List (BitVec 8)) (requester : Fin 256) (tag : Fin 8) (s : State) :
    s.Says (Instr.commandAccept d c opcode payload requester tag).die (execCommandAccept d c opcode payload requester tag s) := by
  refine runOn_says _ _ _ (.of ?_ ?_)
  · simp only [↓State.acceptCmd_core, State.core_mk, State.core_eta, ↓apply_ite State.core, ite_self, implies_true, eq_self]
  · intro hok
    repeat' (first | with_reducible assumption | with_reducible (apply State.acceptCmd_ok) | with_reducible (apply State.ite_ok) | split | (intro _ _ _ hok) | (intro _ _ hok) | (intro _ hok) | simp only [State.regsOk_mk, State.regsOk_eta])

theorem execCommandStart_says (d : Fin 8) (s : State) : s.Says (Instr.commandStart d).die (execCommandStart d s) := by
  refine runOn_says _ _ _ (.of ?_ ?_)
  · simp only [↓State.startCmd_core, State.core_mk, State.core_eta, ↓apply_ite State.core, ite_self, implies_true, eq_self]
  · intro hok
    repeat' (first | with_reducible assumption | with_reducible (apply State.startCmd_ok) | with_reducible (apply State.ite_ok) | split | (intro _ _ _ hok) | (intro _ _ hok) | (intro _ hok) | simp only [State.regsOk_mk, State.regsOk_eta])

theorem execMbQdoorbell_says (k : Fin 4) (n : Fin 256) (wrote : Option (Fin 65536 × List (BitVec 8))) (s : State) :
    s.Says (Instr.mbQdoorbell k n wrote).die (execMbQdoorbell k n wrote s) := by
  refine runPkg_goes _ _ (.of ?_ ?_)
  · repeat' (first | with_reducible rfl | simp only [↓State.slotBell_core, ↓State.hostSlot_core, State.core_mk, State.core_eta, ↓apply_ite State.core, ite_self, implies_true, eq_self] | split)
  · intro hok
    repeat' (first | with_reducible assumption | with_reducible (apply State.slotBell_ok) | with_reducible (apply State.hostSlot_ok) | with_reducible (apply State.ite_ok) | split | (intro _ _ _ hok) | (intro _ _ hok) | (intro _ hok) | simp only [State.regsOk_mk, State.regsOk_eta])

theorem execHatchInboundAccess_says (d : Fin 8) (fm : Fin 4) (tag : Fin 1024) (addr : Fin 268435456) (words : List HWord) (conflict : Option (Fin 8)) (s : State) :
    s.Says (Instr.hatchInboundAccess d fm tag addr words conflict).die (execHatchInboundAccess d fm tag addr words conflict s) := by
  refine runOn_says _ _ _ (.of ?_ ?_)
  · simp only [↓State.inbound_core, State.core_mk, State.core_eta, ↓apply_ite State.core, ite_self, implies_true, eq_self]
  · intro hok
    repeat' (first | with_reducible assumption | with_reducible (apply State.inbound_ok) | with_reducible (apply State.ite_ok) | split | (intro _ _ _ hok) | (intro _ _ hok) | (intro _ hok) | simp only [State.regsOk_mk, State.regsOk_eta])

theorem execHatchAccessDone_says (d : Fin 8) (s : State) : s.Says (Instr.hatchAccessDone d).die (execHatchAccessDone d s) := by
  refine runOn_says _ _ _ (.of ?_ ?_)
  · simp only [↓State.serve_core, ↓State.accessDone_core, State.core_mk, State.core_eta, ↓apply_ite State.core, ite_self, implies_true, eq_self]
  · intro hok
    repeat' (first | with_reducible assumption | with_reducible (apply State.serve_ok) | with_reducible (apply State.accessDone_ok) | with_reducible (apply State.ite_ok) | split | (intro _ _ _ hok) | (intro _ _ hok) | (intro _ hok) | simp only [State.regsOk_mk, State.regsOk_eta])

theorem execDelayedReadStart_says (src : Src) (d : Fin 8) (k : Fin 8) (space : Bool) (addr : Fin 268435456) (s : State) :
    s.Says (Instr.delayedReadStart src d k space addr).die (execDelayedReadStart src d k space addr s) := by
  refine onWrite_goes _ _ _ _ (.of ?_ ?_)
  · simp only [↓State.drStart_core, State.core_mk, State.core_eta, ↓apply_ite State.core, ite_self, implies_true, eq_self]
  · intro hok
    repeat' (first | with_reducible assumption | with_reducible (apply State.drStart_ok) | with_reducible (apply State.ite_ok) | split | (intro _ _ _ hok) | (intro _ _ hok) | (intro _ hok) | simp only [State.regsOk_mk, State.regsOk_eta])

theorem execDelayedReadData_says (d : Fin 8) (k : Fin 8) (words : List (BitVec 32)) (s : State) :
    s.Says (Instr.delayedReadData d k words).die (execDelayedReadData d k words s) := by
  refine runOn_says _ _ _ (.of ?_ ?_)
  · simp only [↓State.drData_core, State.core_mk, State.core_eta, ↓apply_ite State.core, ite_self, implies_true, eq_self]
  · intro hok
    repeat' (first | with_reducible assumption | with_reducible (apply State.drData_ok) | with_reducible (apply State.ite_ok) | split | (intro _ _ _ hok) | (intro _ _ hok) | (intro _ hok) | simp only [State.regsOk_mk, State.regsOk_eta])

theorem execDelayedReadCollect_says (d : Fin 8) (k : Fin 8) (s : State) :
    s.Says (Instr.delayedReadCollect d k).die (execDelayedReadCollect d k s) := by
  refine runOn_says _ _ _ (.of ?_ ?_)
  · simp only [↓State.drCollect_core, State.core_mk, State.core_eta, ↓apply_ite State.core, ite_self, implies_true, eq_self]
  · intro hok
    repeat' (first | with_reducible assumption | with_reducible (apply State.drCollect_ok) | with_reducible (exact State.drCollect_ok' (by assumption) (by assumption)) | (refine State.drCollect_ok' (by assumption) ?_) | with_reducible (apply State.ite_ok) | split | (intro _ _ _ hok) | (intro _ _ hok) | (intro _ hok) | simp only [State.regsOk_mk, State.regsOk_eta])

theorem execDrTmoExpiry_says (d : Fin 8) (k : Fin 8) (s : State) : s.Says (Instr.drTmoExpiry d k).die (execDrTmoExpiry d k s) := by
  refine runOn_says _ _ _ (.of ?_ ?_)
  · simp only [↓State.inc_core, ↓State.ev_core, ↓State.drFree_core, State.core_mk, State.core_eta, ↓apply_ite State.core, ite_self, implies_true, eq_self]
  · intro hok
    repeat' (first | with_reducible assumption | with_reducible (apply State.inc_ok) | with_reducible (apply State.ev_ok) | with_reducible (apply State.drFree_ok) | with_reducible (apply State.ite_ok) | split | (intro _ _ _ hok) | (intro _ _ hok) | (intro _ hok) | simp only [State.regsOk_mk, State.regsOk_eta])

theorem execPfTmoExpiry_says (d : Fin 8) (s : State) : s.Says (Instr.pfTmoExpiry d).die (execPfTmoExpiry d s) := by
  refine runOn_says _ _ _ (.of ?_ ?_)
  · simp only [↓State.pfDrop_core, State.core_mk, State.core_eta, ↓apply_ite State.core, ite_self, implies_true, eq_self]
  · intro hok
    repeat' (first | with_reducible assumption | with_reducible (apply State.pfDrop_ok) | with_reducible (apply State.ite_ok) | split | (intro _ _ _ hok) | (intro _ _ hok) | (intro _ hok) | simp only [State.regsOk_mk, State.regsOk_eta])

theorem execXbusTransactionEnd_says (d : Fin 8) (g : Fin 4) (how : XEnd) (s : State) :
    s.Says (Instr.xbusTransactionEnd d g how).die (execXbusTransactionEnd d g how s) := by
  refine runOn_says _ _ _ (.of ?_ ?_)
  · simp only [↓State.busEnd_core, State.core_mk, State.core_eta, ↓apply_ite State.core, ite_self, implies_true, eq_self]
  · intro hok
    repeat' (first | with_reducible assumption | with_reducible (apply State.busEnd_ok) | with_reducible (apply State.ite_ok) | split | (intro _ _ _ hok) | (intro _ _ hok) | (intro _ hok) | simp only [State.regsOk_mk, State.regsOk_eta])

theorem execXbusRecovery_says (d : Fin 8) (g : Fin 4) (sdaHigh : Bool) (s : State) :
    s.Says (Instr.xbusRecovery d g sdaHigh).die (execXbusRecovery d g sdaHigh s) := by
  refine runOn_says _ _ _ (.of ?_ ?_)
  · simp only [↓State.busFree_core, ↓State.busStuck_core, ↓State.serve_core, State.core_mk, State.core_eta, ↓apply_ite State.core, ite_self, implies_true, eq_self]
  · intro hok
    repeat' (first | with_reducible assumption | with_reducible (apply State.busFree_ok) | with_reducible (apply State.busStuck_ok) | with_reducible (apply State.serve_ok) | with_reducible (apply State.ite_ok) | split | (intro _ _ _ hok) | (intro _ _ hok) | (intro _ hok) | simp only [State.regsOk_mk, State.regsOk_eta])

theorem execOvercastUpdate_says (d : Fin 8) (load0 load1 : Fin 101) (s : State) :
    s.Says (Instr.overcastUpdate d load0 load1).die (execOvercastUpdate d load0 load1 s) := by
  refine runOn_says _ _ _ (.of ?_ ?_)
  · simp only [↓State.overcastUpdate_core, State.core_mk, State.core_eta, ↓apply_ite State.core, ite_self, implies_true, eq_self]
  · intro hok
    repeat' (first | with_reducible assumption | with_reducible (apply State.overcastUpdate_ok) | with_reducible (apply State.ite_ok) | split | (intro _ _ _ hok) | (intro _ _ hok) | (intro _ hok) | simp only [State.regsOk_mk, State.regsOk_eta])

theorem execInventoryControl_says (c : Fin 5) (op : Fin 4) (slot : Fin 2) (s : State) :
    s.Says (Instr.inventoryControl c op slot).die (execInventoryControl c op slot s) := by
  refine onCmd_goes _ _ _ _ (fun _ => .of ?_ ?_)
  · simp only [↓State.respond_core, ↓State.invGo_core, ↓State.useFree_core, ↓State.holdCmd_core, State.core_mk, State.core_eta, ↓apply_ite State.core, ite_self, implies_true, eq_self]
  · intro hok
    repeat' (first | with_reducible assumption | with_reducible (apply State.respond_ok) | with_reducible (apply State.invGo_ok) | with_reducible (apply State.useFree_ok) | with_reducible (apply State.holdCmd_ok) | with_reducible (apply State.ite_ok) | split | (intro _ _ _ hok) | (intro _ _ hok) | (intro _ hok) | simp only [State.regsOk_mk, State.regsOk_eta])

theorem execInvVerify_says (got : Option Image) (s : State) : s.Says (Instr.invVerify got).die (execInvVerify got s) := by
  refine runPkg_goes _ _ (.of ?_ ?_)
  · simp only [↓State.invRun_core, ↓State.showChanges_core, State.core_mk, State.core_eta, ↓apply_ite State.core, ite_self, implies_true, eq_self]
  · intro hok
    repeat' (first | with_reducible assumption | with_reducible (apply State.invRun_ok) | with_reducible (apply State.showChanges_ok) | with_reducible (apply State.ite_ok) | split | (intro _ _ _ hok) | (intro _ _ hok) | (intro _ hok) | simp only [State.regsOk_mk, State.regsOk_eta])

theorem execInvApply_says (got : Option Image) (s : State) : s.Says (Instr.invApply got).die (execInvApply got s) := by
  refine runPkg_goes _ _ (.of ?_ ?_)
  · simp only [↓State.invRun_core, ↓State.showChanges_core, ↓State.applyImage_core, State.core_mk, State.core_eta, ↓apply_ite State.core, ite_self, implies_true, eq_self]
  · intro hok
    repeat' (first | with_reducible assumption | with_reducible (apply State.invRun_ok) | with_reducible (apply State.showChanges_ok) | with_reducible (apply State.applyImage_ok) | with_reducible (exact State.applyImage_ok' (by assumption) (by assumption)) | (refine State.applyImage_ok' (by assumption) ?_) | with_reducible (apply State.ite_ok) | split | (intro _ _ _ hok) | (intro _ _ hok) | (intro _ hok) | simp only [State.regsOk_mk, State.regsOk_eta])

theorem execInvArm_says (got : Option Image) (s : State) : s.Says (Instr.invArm got).die (execInvArm got s) := by
  refine runPkg_goes _ _ (.of ?_ ?_)
  · simp only [↓State.invRun_core, ↓State.putRec_core, ↓State.on_core, State.core_mk, State.core_eta, ↓apply_ite State.core, ite_self, implies_true, eq_self]
  · intro hok
    repeat' (first | with_reducible assumption | with_reducible (apply State.invRun_ok) | with_reducible (apply State.putRec_ok) | with_reducible (apply State.on_ok) | with_reducible (apply State.ite_ok) | split | (intro _ _ _ hok) | (intro _ _ hok) | (intro _ hok) | simp only [State.regsOk_mk, State.regsOk_eta])

theorem execGetIdentity_says (c : Fin 5) (s : State) : s.Says (Instr.getIdentity c).die (execGetIdentity c s) := by
  refine onCmd_goes _ _ _ _ (fun _ => .of ?_ ?_)
  · simp only [↓State.respond_core, ↓State.useFree_core, State.core_mk, State.core_eta, ↓apply_ite State.core, ite_self, implies_true, eq_self]
  · intro hok
    repeat' (first | with_reducible assumption | with_reducible (apply State.respond_ok) | with_reducible (apply State.useFree_ok) | with_reducible (apply State.ite_ok) | split | (intro _ _ _ hok) | (intro _ _ hok) | (intro _ hok) | simp only [State.regsOk_mk, State.regsOk_eta])

theorem execGetAttestationReport_says (c : Fin 5) (s : State) :
    s.Says (Instr.getAttestationReport c).die (execGetAttestationReport c s) := by
  refine onCmd_goes _ _ _ _ (fun _ => .of ?_ ?_)
  · simp only [↓State.respond_core, ↓State.signAsk_core, State.core_mk, State.core_eta, ↓apply_ite State.core, ite_self, implies_true, eq_self]
  · intro hok
    repeat' (first | with_reducible assumption | with_reducible (apply State.respond_ok) | with_reducible (apply State.signAsk_ok) | with_reducible (apply State.ite_ok) | split | (intro _ _ _ hok) | (intro _ _ hok) | (intro _ hok) | simp only [State.regsOk_mk, State.regsOk_eta])

theorem execOpenRegisterSession_says (c : Fin 5) (s : State) :
    s.Says (Instr.openRegisterSession c).die (execOpenRegisterSession c s) := by
  refine onCmd_goes _ _ _ _ (fun _ => .of ?_ ?_)
  · simp only [↓State.respond_core, ↓State.openSession_core, State.core_mk, State.core_eta, ↓apply_ite State.core, ite_self, implies_true, eq_self]
  · intro hok
    repeat' (first | with_reducible assumption | with_reducible (apply State.respond_ok) | with_reducible (apply State.openSession_ok) | with_reducible (apply State.ite_ok) | split | (intro _ _ _ hok) | (intro _ _ hok) | (intro _ hok) | simp only [State.regsOk_mk, State.regsOk_eta])

theorem execCloseRegisterSession_says (c : Fin 5) (s : State) :
    s.Says (Instr.closeRegisterSession c).die (execCloseRegisterSession c s) := by
  refine onCmd_goes _ _ _ _ (fun _ => .of ?_ ?_)
  · simp only [↓State.closeSession_core, ↓State.respond_core, State.core_mk, State.core_eta, ↓apply_ite State.core, ite_self, implies_true, eq_self]
  · intro hok
    repeat' (first | with_reducible assumption | with_reducible (apply State.closeSession_ok) | with_reducible (apply State.respond_ok) | with_reducible (apply State.ite_ok) | split | (intro _ _ _ hok) | (intro _ _ hok) | (intro _ hok) | simp only [State.regsOk_mk, State.regsOk_eta])

theorem execSessionExpiry_says (c : Fin 5) (s : State) : s.Says (Instr.sessionExpiry c).die (execSessionExpiry c s) := by
  refine onPkg_goes _ _ (.of ?_ ?_)
  · simp only [↓State.closeSession_core, State.core_mk, State.core_eta, ↓apply_ite State.core, ite_self, implies_true, eq_self]
  · intro hok
    repeat' (first | with_reducible assumption | with_reducible (apply State.closeSession_ok) | with_reducible (apply State.ite_ok) | split | (intro _ _ _ hok) | (intro _ _ hok) | (intro _ hok) | simp only [State.regsOk_mk, State.regsOk_eta])

theorem execGetCounter_says (c : Fin 5) (s : State) : s.Says (Instr.getCounter c).die (execGetCounter c s) := by
  refine onCmd_goes _ _ _ _ (fun _ => .of ?_ ?_)
  · simp only [↓State.respond_core, State.core_mk, State.core_eta, ↓apply_ite State.core, ite_self, implies_true, eq_self]
  · intro hok
    repeat' (first | with_reducible assumption | with_reducible (apply State.respond_ok) | with_reducible (apply State.ite_ok) | split | (intro _ _ _ hok) | (intro _ _ hok) | (intro _ hok) | simp only [State.regsOk_mk, State.regsOk_eta])

theorem execGetNonce_says (c : Fin 5) (s : State) : s.Says (Instr.getNonce c).die (execGetNonce c s) := by
  refine onCmd_goes _ _ _ _ (fun _ => .of ?_ ?_)
  · simp only [↓State.wake_core, ↓State.updStrong_core, ↓State.respond_core, State.core_mk, State.core_eta, ↓apply_ite State.core, ite_self, implies_true, eq_self]
  · intro hok
    repeat' (first | with_reducible assumption | with_reducible (apply State.wake_ok) | with_reducible (apply State.updStrong_ok) | with_reducible (apply State.respond_ok) | with_reducible (apply State.ite_ok) | split | (intro _ _ _ hok) | (intro _ _ hok) | (intro _ hok) | simp only [State.regsOk_mk, State.regsOk_eta])

theorem execNonceExpiry_says (s : State) : s.Says (Instr.nonceExpiry).die (execNonceExpiry s) := by
  refine onPkg_goes _ _ (.of ?_ ?_)
  · simp only [↓State.updStrong_core, State.core_mk, State.core_eta, ↓apply_ite State.core, ite_self, implies_true, eq_self]
  · intro hok
    repeat' (first | with_reducible assumption | with_reducible (apply State.updStrong_ok) | with_reducible (apply State.ite_ok) | split | (intro _ _ _ hok) | (intro _ _ hok) | (intro _ hok) | simp only [State.regsOk_mk, State.regsOk_eta])

theorem execSubmitToken_says (c : Fin 5) (s : State) : s.Says (Instr.submitToken c).die (execSubmitToken c s) := by
  refine onCmd_goes _ _ _ _ (fun _ => .of ?_ ?_)
  · simp only [↓State.submitToken_core, State.core_mk, State.core_eta, ↓apply_ite State.core, ite_self, implies_true, eq_self]
  · intro hok
    repeat' (first | with_reducible assumption | with_reducible (apply State.submitToken_ok) | with_reducible (apply State.ite_ok) | split | (intro _ _ _ hok) | (intro _ _ hok) | (intro _ hok) | simp only [State.regsOk_mk, State.regsOk_eta])

theorem execTransitionResetTimer_says (s : State) : s.Says (Instr.transitionResetTimer).die (execTransitionResetTimer s) := by
  refine onPkg_goes _ _ (.of ?_ ?_)
  · simp only [↓State.enterReset_core, State.core_mk, State.core_eta, ↓apply_ite State.core, ite_self, implies_true, eq_self]
  · intro hok
    repeat' (first | with_reducible assumption | with_reducible (apply State.enterReset_ok) | with_reducible (apply State.ite_ok) | split | (intro _ _ _ hok) | (intro _ _ hok) | (intro _ hok) | simp only [State.regsOk_mk, State.regsOk_eta])

theorem execTakeOwnership_says (c : Fin 5) (s : State) : s.Says (Instr.takeOwnership c).die (execTakeOwnership c s) := by
  refine onCmd_goes _ _ _ _ (fun _ => .of ?_ ?_)
  · simp only [↓State.takeOwnership_core, State.core_mk, State.core_eta, ↓apply_ite State.core, ite_self, implies_true, eq_self]
  · intro hok
    repeat' (first | with_reducible assumption | with_reducible (apply State.takeOwnership_ok) | with_reducible (apply State.ite_ok) | split | (intro _ _ _ hok) | (intro _ _ hok) | (intro _ hok) | simp only [State.regsOk_mk, State.regsOk_eta])

theorem execRotateCommandRoot_says (c : Fin 5) (s : State) : s.Says (Instr.rotateCommandRoot c).die (execRotateCommandRoot c s) := by
  refine onCmd_goes _ _ _ _ (fun _ => .of ?_ ?_)
  · simp only [↓State.rotateRoot_core, State.core_mk, State.core_eta, ↓apply_ite State.core, ite_self, implies_true, eq_self]
  · intro hok
    repeat' (first | with_reducible assumption | with_reducible (apply State.rotateRoot_ok) | with_reducible (apply State.ite_ok) | split | (intro _ _ _ hok) | (intro _ _ hok) | (intro _ hok) | simp only [State.regsOk_mk, State.regsOk_eta])

theorem execReleaseReservation_says (c : Fin 5) (s : State) :
    s.Says (Instr.releaseReservation c).die (execReleaseReservation c s) := by
  refine onCmd_goes _ _ _ _ (fun _ => .of ?_ ?_)
  · simp only [↓State.signAsk_core, ↓State.release_core, State.core_mk, State.core_eta, ↓apply_ite State.core, ite_self, implies_true, eq_self]
  · intro hok
    repeat' (first | with_reducible assumption | with_reducible (apply State.signAsk_ok) | with_reducible (apply State.release_ok) | with_reducible (apply State.ite_ok) | split | (intro _ _ _ hok) | (intro _ _ hok) | (intro _ hok) | simp only [State.regsOk_mk, State.regsOk_eta])

theorem execTapProvisionMaker_says (secret : List (BitVec 8)) (id : BitVec 64) (keys : List (List (BitVec 8))) (cert : List (BitVec 8)) (s : State) :
    s.Says (Instr.tapProvisionMaker secret id keys cert).die (execTapProvisionMaker secret id keys cert s) := by
  refine onPkg_goes _ _ (.of ?_ ?_)
  · simp only [↓State.provision_core, State.core_mk, State.core_eta, ↓apply_ite State.core, ite_self, implies_true, eq_self]
  · intro hok
    repeat' (first | with_reducible assumption | with_reducible (apply State.provision_ok) | with_reducible (apply State.ite_ok) | split | (intro _ _ _ hok) | (intro _ _ hok) | (intro _ hok) | simp only [State.regsOk_mk, State.regsOk_eta])

theorem execLockoutExpiry_says (c : Fin 5) (s : State) : s.Says (Instr.lockoutExpiry c).die (execLockoutExpiry c s) := by
  refine onPkg_goes _ _ (.of ?_ ?_)
  · simp only [↓State.updChan_core, State.core_mk, State.core_eta, ↓apply_ite State.core, ite_self, implies_true, eq_self]
  · intro hok
    repeat' (first | with_reducible assumption | with_reducible (apply State.updChan_ok) | with_reducible (apply State.ite_ok) | split | (intro _ _ _ hok) | (intro _ _ hok) | (intro _ hok) | simp only [State.regsOk_mk, State.regsOk_eta])

theorem execChainFrameReceive_says (f : ChFrame) (s : State) :
    s.Says (Instr.chainFrameReceive f).die (execChainFrameReceive f s) := by
  refine onChain_goes _ _ (.of ?_ ?_)
  · simp only [↓State.frameIn_core, State.core_mk, State.core_eta, ↓apply_ite State.core, ite_self, implies_true, eq_self]
  · intro hok
    repeat' (first | with_reducible assumption | with_reducible (apply State.frameIn_ok) | with_reducible (apply State.ite_ok) | split | (intro _ _ _ hok) | (intro _ _ hok) | (intro _ hok) | simp only [State.regsOk_mk, State.regsOk_eta])

theorem execChainFrameForward_says (s : State) : s.Says (Instr.chainFrameForward).die (execChainFrameForward s) := by
  refine onChain_goes _ _ (.of ?_ ?_)
  · simp only [↓State.frameOut_core, State.core_mk, State.core_eta, ↓apply_ite State.core, ite_self, implies_true, eq_self]
  · intro hok
    repeat' (first | with_reducible assumption | with_reducible (apply State.frameOut_ok) | with_reducible (apply State.ite_ok) | split | (intro _ _ _ hok) | (intro _ _ hok) | (intro _ hok) | simp only [State.regsOk_mk, State.regsOk_eta])

theorem execStocktake_says (s : State) : s.Says (Instr.stocktake).die (execStocktake s) := by
  refine onChain_goes _ _ (.of ?_ ?_)
  · repeat' (first | with_reducible rfl | simp only [↓State.updIsland_core, ↓State.stocktake_core, State.core_mk, State.core_eta, ↓apply_ite State.core, ite_self, implies_true, eq_self] | split)
  · intro hok
    repeat' (first | with_reducible assumption | with_reducible (apply State.updIsland_ok) | with_reducible (apply State.stocktake_ok) | with_reducible (apply State.ite_ok) | split | (intro _ _ _ hok) | (intro _ _ hok) | (intro _ hok) | simp only [State.regsOk_mk, State.regsOk_eta])

theorem execChainBreak_says (s : State) : s.Says (Instr.chainBreak).die (execChainBreak s) := by
  refine onChain_goes _ _ (.of ?_ ?_)
  · simp only [↓State.updIsland_core, ↓State.off_core, ↓State.wr_core, ↓State.inc_core, ↓State.chEv_core, State.core_mk, State.core_eta, ↓apply_ite State.core, ite_self, implies_true, eq_self]
  · intro hok
    repeat' (first | with_reducible assumption | with_reducible (apply State.updIsland_ok) | with_reducible (apply State.off_ok) | with_reducible (apply State.wr_ok) | with_reducible (apply State.inc_ok) | with_reducible (apply State.chEv_ok) | with_reducible (apply State.ite_ok) | split | (intro _ _ _ hok) | (intro _ _ hok) | (intro _ hok) | simp only [State.regsOk_mk, State.regsOk_eta])

theorem execNoticeSend_says (s : State) : s.Says (Instr.noticeSend).die (execNoticeSend s) := by
  refine onChain_goes _ _ (.of ?_ ?_)
  · simp only [↓State.updIsland_core, ↓State.on_core, ↓State.sendFrame_core, State.core_mk, State.core_eta, ↓apply_ite State.core, ite_self, implies_true, eq_self]
  · intro hok
    repeat' (first | with_reducible assumption | with_reducible (apply State.updIsland_ok) | with_reducible (apply State.on_ok) | with_reducible (apply State.sendFrame_ok) | with_reducible (apply State.ite_ok) | split | (intro _ _ _ hok) | (intro _ _ hok) | (intro _ hok) | simp only [State.regsOk_mk, State.regsOk_eta])

theorem execMctpPacket_says (s : State) : s.Says (Instr.mctpPacket).die (execMctpPacket s) := by
  refine onChain_goes _ _ (.of ?_ ?_)
  · repeat' (first | with_reducible rfl | simp only [↓State.updIsland_core, ↓State.packet_core, ↓State.settle_core, State.core_mk, State.core_eta, ↓apply_ite State.core, ite_self, implies_true, eq_self] | split)
  · intro hok
    repeat' (first | with_reducible assumption | with_reducible (apply State.updIsland_ok) | with_reducible (apply State.packet_ok) | with_reducible (apply State.settle_ok) | with_reducible (apply State.ite_ok) | split | (intro _ _ _ hok) | (intro _ _ hok) | (intro _ hok) | simp only [State.regsOk_mk, State.regsOk_eta])

theorem execSetEndpointId_says (s : State) : s.Says (Instr.setEndpointId).die (execSetEndpointId s) := by
  refine onMsg_goes _ _ _ (fun s m => .of ?_ ?_)
  · simp only [↓State.setEid_core, State.core_mk, State.core_eta, ↓apply_ite State.core, ite_self, implies_true, eq_self]
  · intro hok
    repeat' (first | with_reducible assumption | with_reducible (apply State.setEid_ok) | with_reducible (apply State.ite_ok) | split | (intro _ _ _ hok) | (intro _ _ hok) | (intro _ hok) | simp only [State.regsOk_mk, State.regsOk_eta])

theorem execGetEndpointId_says (s : State) : s.Says (Instr.getEndpointId).die (execGetEndpointId s) := by
  refine onMsg_goes _ _ _ (fun s m => .of ?_ ?_)
  · simp only [↓State.control_core, State.core_mk, State.core_eta, ↓apply_ite State.core, ite_self, implies_true, eq_self]
  · intro hok
    repeat' (first | with_reducible assumption | with_reducible (apply State.control_ok) | with_reducible (apply State.ite_ok) | split | (intro _ _ _ hok) | (intro _ _ hok) | (intro _ hok) | simp only [State.regsOk_mk, State.regsOk_eta])

theorem execGetEndpointUuid_says (s : State) : s.Says (Instr.getEndpointUuid).die (execGetEndpointUuid s) := by
  refine onMsg_goes _ _ _ (fun s m => .of ?_ ?_)
  · simp only [↓State.control_core, State.core_mk, State.core_eta, ↓apply_ite State.core, ite_self, implies_true, eq_self]
  · intro hok
    repeat' (first | with_reducible assumption | with_reducible (apply State.control_ok) | with_reducible (apply State.ite_ok) | split | (intro _ _ _ hok) | (intro _ _ hok) | (intro _ hok) | simp only [State.regsOk_mk, State.regsOk_eta])

theorem execGetMctpVersionSupport_says (s : State) : s.Says (Instr.getMctpVersionSupport).die (execGetMctpVersionSupport s) := by
  refine onMsg_goes _ _ _ (fun s m => .of ?_ ?_)
  · simp only [↓State.control_core, State.core_mk, State.core_eta, ↓apply_ite State.core, ite_self, implies_true, eq_self]
  · intro hok
    repeat' (first | with_reducible assumption | with_reducible (apply State.control_ok) | with_reducible (apply State.ite_ok) | split | (intro _ _ _ hok) | (intro _ _ hok) | (intro _ hok) | simp only [State.regsOk_mk, State.regsOk_eta])

theorem execGetMessageTypeSupport_says (s : State) : s.Says (Instr.getMessageTypeSupport).die (execGetMessageTypeSupport s) := by
  refine onMsg_goes _ _ _ (fun s m => .of ?_ ?_)
  · simp only [↓State.control_core, State.core_mk, State.core_eta, ↓apply_ite State.core, ite_self, implies_true, eq_self]
  · intro hok
    repeat' (first | with_reducible assumption | with_reducible (apply State.control_ok) | with_reducible (apply State.ite_ok) | split | (intro _ _ _ hok) | (intro _ _ hok) | (intro _ hok) | simp only [State.regsOk_mk, State.regsOk_eta])

theorem execRegAccessRead_says (s : State) : s.Says (Instr.regAccessRead).die (execRegAccessRead s) := by
  refine onMsg_goes _ _ _ (fun s m => .of ?_ ?_)
  · simp only [↓State.regRead_core, State.core_mk, State.core_eta, ↓apply_ite State.core, ite_self, implies_true, eq_self]
  · intro hok
    repeat' (first | with_reducible assumption | with_reducible (apply State.regRead_ok) | with_reducible (apply State.ite_ok) | split | (intro _ _ _ hok) | (intro _ _ hok) | (intro _ hok) | simp only [State.regsOk_mk, State.regsOk_eta])

theorem execRegAccessWrite_says (s : State) : s.Says (Instr.regAccessWrite).die (execRegAccessWrite s) := by
  refine onMsg_goes _ _ _ (fun s m => .of ?_ ?_)
  · simp only [↓State.regWrite_core, State.core_mk, State.core_eta, ↓apply_ite State.core, ite_self, implies_true, eq_self]
  · intro hok
    repeat' (first | with_reducible assumption | with_reducible (apply State.regWrite_ok) | with_reducible (apply State.ite_ok) | split | (intro _ _ _ hok) | (intro _ _ hok) | (intro _ hok) | simp only [State.regsOk_mk, State.regsOk_eta])

theorem execCounterEvtWrite_says (src : Src) (d : Fin 8) (k : Fin 512) (val : BitVec 32) (s : State) :
    s.Says (Instr.counterEvtWrite src d k val).die (execCounterEvtWrite src d k val s) := by
  refine onPm_goes _ _ _ _ (.of ?_ ?_)
  · simp only [↓State.evtWrite_core, State.core_mk, State.core_eta, ↓apply_ite State.core, ite_self, implies_true, eq_self]
  · intro hok
    repeat' (first | with_reducible assumption | with_reducible (apply State.evtWrite_ok) | with_reducible (apply State.ite_ok) | split | (intro _ _ _ hok) | (intro _ _ hok) | (intro _ hok) | simp only [State.regsOk_mk, State.regsOk_eta])

theorem execCounterCaptureRead_says (d : Fin 8) (k : Fin 512) (s : State) :
    s.Says (Instr.counterCaptureRead d k).die (execCounterCaptureRead d k s) := by
  refine onDie_says _ _ _ (.of ?_ ?_)
  · simp only [↓State.cntCapture_core, State.core_mk, State.core_eta, ↓apply_ite State.core, ite_self, implies_true, eq_self]
  · intro hok
    repeat' (first | with_reducible assumption | with_reducible (apply State.cntCapture_ok) | with_reducible (apply State.ite_ok) | split | (intro _ _ _ hok) | (intro _ _ hok) | (intro _ hok) | simp only [State.regsOk_mk, State.regsOk_eta])

theorem execCounterWrap_says (d : Fin 8) (k : Fin 512) (s : State) : s.Says (Instr.counterWrap d k).die (execCounterWrap d k s) := by
  refine onDie_says _ _ _ (.of ?_ ?_)
  · simp only [↓State.cntAdd_core, State.core_mk, State.core_eta, ↓apply_ite State.core, ite_self, implies_true, eq_self]
  · intro hok
    repeat' (first | with_reducible assumption | with_reducible (apply State.cntAdd_ok) | with_reducible (apply State.ite_ok) | split | (intro _ _ _ hok) | (intro _ _ hok) | (intro _ hok) | simp only [State.regsOk_mk, State.regsOk_eta])

theorem execFrostArmAll_says (src : Src) (d : Fin 8) (s : State) :
    s.Says (Instr.frostArmAll src d).die (execFrostArmAll src d s) := by
  refine onPm_goes _ _ _ _ (.of ?_ ?_)
  · simp only [↓State.frostGo_core, State.core_mk, State.core_eta, ↓apply_ite State.core, ite_self, implies_true, eq_self]
  · intro hok
    repeat' (first | with_reducible assumption | with_reducible (apply State.frostGo_ok) | with_reducible (apply State.ite_ok) | split | (intro _ _ _ hok) | (intro _ _ hok) | (intro _ hok) | simp only [State.regsOk_mk, State.regsOk_eta])

theorem execFrostArmDie_says (src : Src) (d : Fin 8) (s : State) :
    s.Says (Instr.frostArmDie src d).die (execFrostArmDie src d s) := by
  refine onPm_goes _ _ _ _ (.of ?_ ?_)
  · simp only [↓State.frostGo_core, State.core_mk, State.core_eta, ↓apply_ite State.core, ite_self, implies_true, eq_self]
  · intro hok
    repeat' (first | with_reducible assumption | with_reducible (apply State.frostGo_ok) | with_reducible (apply State.ite_ok) | split | (intro _ _ _ hok) | (intro _ _ hok) | (intro _ hok) | simp only [State.regsOk_mk, State.regsOk_eta])

theorem execFrostCancel_says (src : Src) (d : Fin 8) (s : State) :
    s.Says (Instr.frostCancel src d).die (execFrostCancel src d s) := by
  refine onPm_goes _ _ _ _ (.of ?_ ?_)
  · simp only [↓State.frostGo_core, State.core_mk, State.core_eta, ↓apply_ite State.core, ite_self, implies_true, eq_self]
  · intro hok
    repeat' (first | with_reducible assumption | with_reducible (apply State.frostGo_ok) | with_reducible (apply State.ite_ok) | split | (intro _ _ _ hok) | (intro _ _ hok) | (intro _ hok) | simp only [State.regsOk_mk, State.regsOk_eta])

theorem execFrostArmReceive_says (d : Fin 8) (target : Nat) (s : State) :
    s.Says (Instr.frostArmReceive d target).die (execFrostArmReceive d target s) := by
  refine onDie_says _ _ _ (.of ?_ ?_)
  · simp only [↓State.frostArmDie_core, ↓State.emit_core, State.core_mk, State.core_eta, ↓apply_ite State.core, ite_self, implies_true, eq_self]
  · intro hok
    repeat' (first | with_reducible assumption | with_reducible (apply State.frostArmDie_ok) | with_reducible (apply State.emit_ok) | with_reducible (apply State.ite_ok) | split | (intro _ _ _ hok) | (intro _ _ hok) | (intro _ hok) | simp only [State.regsOk_mk, State.regsOk_eta])

theorem execFrostAckReceive_says (d : Fin 8) (s : State) : s.Says (Instr.frostAckReceive d).die (execFrostAckReceive d s) := by
  refine onDie_says _ _ _ (.of ?_ ?_)
  · simp only [↓State.on_core, State.core_mk, State.core_eta, ↓apply_ite State.core, ite_self, implies_true, eq_self]
  · intro hok
    repeat' (first | with_reducible assumption | with_reducible (apply State.on_ok) | with_reducible (apply State.ite_ok) | split | (intro _ _ _ hok) | (intro _ _ hok) | (intro _ hok) | simp only [State.regsOk_mk, State.regsOk_eta])

theorem execFrostSnap_says (d : Fin 8) (s : State) : s.Says (Instr.frostSnap d).die (execFrostSnap d s) := by
  refine onDie_says _ _ _ (.of ?_ ?_)
  · repeat' (first | with_reducible rfl | simp only [↓State.frostSnap_core, State.core_mk, State.core_eta, ↓apply_ite State.core, ite_self, implies_true, eq_self] | split)
  · intro hok
    repeat' (first | with_reducible assumption | with_reducible (apply State.frostSnap_ok) | with_reducible (apply State.ite_ok) | split | (intro _ _ _ hok) | (intro _ _ hok) | (intro _ hok) | simp only [State.regsOk_mk, State.regsOk_eta])

theorem execAtticEnWrite_says (src : Src) (d : Fin 8) (val : BitVec 32) (s : State) :
    s.Says (Instr.atticEnWrite src d val).die (execAtticEnWrite src d val s) := by
  refine onPm_goes _ _ _ _ (.of ?_ ?_)
  · simp only [↓State.atticCtrl_core, State.core_mk, State.core_eta, ↓apply_ite State.core, ite_self, implies_true, eq_self]
  · intro hok
    repeat' (first | with_reducible assumption | with_reducible (apply State.atticCtrl_ok) | with_reducible (apply State.ite_ok) | split | (intro _ _ _ hok) | (intro _ _ hok) | (intro _ hok) | simp only [State.regsOk_mk, State.regsOk_eta])

theorem execAtticTailWrite_says (src : Src) (d : Fin 8) (val : BitVec 32) (s : State) :
    s.Says (Instr.atticTailWrite src d val).die (execAtticTailWrite src d val s) := by
  refine onPm_goes _ _ _ _ (.of ?_ ?_)
  · simp only [↓State.atticTail_core, State.core_mk, State.core_eta, ↓apply_ite State.core, ite_self, implies_true, eq_self]
  · intro hok
    repeat' (first | with_reducible assumption | with_reducible (apply State.atticTail_ok) | with_reducible (apply State.ite_ok) | split | (intro _ _ _ hok) | (intro _ _ hok) | (intro _ hok) | simp only [State.regsOk_mk, State.regsOk_eta])

theorem execCkRstPackage_says (src : Src) (key : Fin 256) (s : State) :
    s.Says (Instr.ckRstPackage src key).die (execCkRstPackage src key s) := by
  refine onWrite_goes _ _ _ _ (.of ?_ ?_)
  · simp only [↓State.rstCmd_core, State.core_mk, State.core_eta, ↓apply_ite State.core, ite_self, implies_true, eq_self]
  · intro hok
    repeat' (first | with_reducible assumption | with_reducible (apply State.rstCmd_ok) | with_reducible (apply State.ite_ok) | split | (intro _ _ _ hok) | (intro _ _ hok) | (intro _ hok) | simp only [State.regsOk_mk, State.regsOk_eta])

theorem execCkRstDelayExpiry_says (s : State) : s.Says (Instr.ckRstDelayExpiry).die (execCkRstDelayExpiry s) := by
  refine onPkg_goes _ _ (.of ?_ ?_)
  · simp only [↓State.enterReset_core, State.core_mk, State.core_eta, ↓apply_ite State.core, ite_self, implies_true, eq_self]
  · intro hok
    repeat' (first | with_reducible assumption | with_reducible (apply State.enterReset_ok) | with_reducible (apply State.ite_ok) | split | (intro _ _ _ hok) | (intro _ _ hok) | (intro _ hok) | simp only [State.regsOk_mk, State.regsOk_eta])

theorem execCkRstWarden_says (src : Src) (key : Fin 256) (die : Fin 8) (s : State) :
    s.Says (Instr.ckRstWarden src key die).die (execCkRstWarden src key die s) := by
  refine onWrite_goes _ _ _ _ (.of ?_ ?_)
  · simp only [↓State.rstCmd_core, State.core_mk, State.core_eta, ↓apply_ite State.core, ite_self, implies_true, eq_self]
  · intro hok
    repeat' (first | with_reducible assumption | with_reducible (apply State.rstCmd_ok) | with_reducible (apply State.ite_ok) | split | (intro _ _ _ hok) | (intro _ _ hok) | (intro _ hok) | simp only [State.regsOk_mk, State.regsOk_eta])

theorem execV12BiasValid_says (s : State) : s.Says (Instr.v12BiasValid).die (execV12BiasValid s) := by
  refine State.Goes.of (s' := { (s.off (F.PD_PKG_STATUS_rail_low 7) pkgL) with pkg := { s.pkg with v12ok := true } })
    (State.off_core s (F.PD_PKG_STATUS_rail_low 7) pkgL) (State.off_ok s (F.PD_PKG_STATUS_rail_low 7) pkgL) (runPkg_goes _ _ ?_)
  refine .of (State.forEach_core _ _ _ fun s p => ?_) (State.forEach_ok _ _ _ fun s p hok => ?_)
  · split
    · exact State.slotEnable_core _ _
    · rfl
  · split
    · exact State.slotEnable_ok _ _ hok
    · exact hok

theorem execCasubLaneSignalLoss_says (d : Fin 8) (t : Fin 7) (n : Fin 34) (s : State) :
    s.Says (Instr.casubLaneSignalLoss d t n).die (execCasubLaneSignalLoss d t n s) := by
  refine runOn_says _ _ _ (.of ?_ ?_)
  · simp only [↓State.setCbaro_core, ↓State.showSpares_core, ↓State.reeval_core, State.core_mk, State.core_eta, ↓apply_ite State.core, ite_self, implies_true, eq_self]
  · intro hok
    repeat' (first | with_reducible assumption | with_reducible (apply State.setCbaro_ok) | with_reducible (apply State.showSpares_ok) | with_reducible (apply State.reeval_ok) | with_reducible (apply State.ite_ok) | split | (intro _ _ _ hok) | (intro _ _ hok) | (intro _ hok) | simp only [State.regsOk_mk, State.regsOk_eta])

theorem execViralIndication_says (d : Fin 8) (q : Fin 16) (s : State) :
    s.Says (Instr.viralIndication d q).die (execViralIndication d q s) := by
  refine runOn_says _ _ _ (.of ?_ ?_)
  · simp only [↓State.viralFrom_core, State.core_mk, State.core_eta, ↓apply_ite State.core, ite_self, implies_true, eq_self]
  · intro hok
    repeat' (first | with_reducible assumption | with_reducible (apply State.viralFrom_ok) | with_reducible (apply State.ite_ok) | split | (intro _ _ _ hok) | (intro _ _ hok) | (intro _ hok) | simp only [State.regsOk_mk, State.regsOk_eta])

theorem execIslandPowerLoss_says (s : State) : s.Says (Instr.islandPowerLoss).die (execIslandPowerLoss s) := by
  refine goes_of ?_ ?_
  · simp only [↓State.islandStart_core, State.core_mk, State.core_eta, ↓apply_ite State.core, ite_self, implies_true, eq_self]
  · intro hok
    repeat' (first | with_reducible assumption | with_reducible (apply State.islandStart_ok) | with_reducible (apply State.ite_ok) | split | (intro _ _ _ hok) | (intro _ _ hok) | (intro _ hok) | simp only [State.regsOk_mk, State.regsOk_eta])

end Sys2Proof.Machine
end

