-- ==== Sys2Proof/Laws/Exec.lean ====
section
/-! SUPPORT. What any command answers, put together from the lemmas of each command, and what a step answers. -/

namespace Sys2Proof.Machine

/-- Every command answers a next state that follows, and the same state when it is an event of a die that the part does not have. -/
theorem exec_says (c : Instr) (s : State) : s.Says c.die (exec c s) := by
  cases c with
  | registerWrite src addr val => exact execRegisterWrite_says src addr val s
  | pairLowRead addr => exact execPairLowRead_says addr s
  | pairHighWrite src addr val => exact execPairHighWrite_says src addr val s
  | islandPowerOn vaux => exact execIslandPowerOn_says vaux s
  | islandSourceChange toVaux => exact execIslandSourceChange_says toVaux s
  | pwrOkFall => exact execPwrOkFall_says s
  | sysRstAssert => exact execSysRstAssert_says s
  | railDip d rail => exact execRailDip_says d rail s
  | railRecovered => exact execRailRecovered_says s
  | v12BiasLow => exact execV12BiasLow_says s
  | refclkLoss d => exact execRefclkLoss_says d s
  | packageReset srcs => exact execPackageReset_says srcs s
  | packageResetExit pwrLow fuseBad => exact execPackageResetExit_says pwrLow fuseBad s
  | resetHoldExpiry => exact execResetHoldExpiry_says s
  | pllLock => exact execPllLock_says s
  | pllLockTimeout => exact execPllLockTimeout_says s
  | dieChainComplete number mask => exact execDieChainComplete_says number mask s
  | dieChainTimeout mask => exact execDieChainTimeout_says mask s
  | strongroomSelftest pass => exact execStrongroomSelftest_says pass s
  | storeRecordDurable => exact execStoreRecordDurable_says s
  | invFlashDirectoryRead sfdp copy0 copy1 => exact execInvFlashDirectoryRead_says sfdp copy0 copy1 s
  | invImageRead got => exact execInvImageRead_says got s
  | invChecks => exact execInvChecks_says s
  | invSectionsApply => exact execInvSectionsApply_says s
  | firmwareVerify d img0 img1 => exact execFirmwareVerify_says d img0 img1 s
  | masterCountSend => exact execMasterCountSend_says s
  | masterCountReceive d count path => exact execMasterCountReceive_says d count path s
  | alignmentTimeout d => exact execAlignmentTimeout_says d s
  | thermalSample d temps => exact execThermalSample_says d temps s
  | powerMonitorUpdate dies pkg => exact execPowerMonitorUpdate_says dies pkg s
  | domReqWrite src d v => exact execDomReqWrite_says src d v s
  | p1ReqWrite src on => exact execP1ReqWrite_says src on s
  | domainPowered d k => exact execDomainPowered_says d k s
  | lullEntry d k => exact execLullEntry_says d k s
  | lullWake d k => exact execLullWake_says d k s
  | lullExitDone d k => exact execLullExitDone_says d k s
  | quadEnWrite src d q en => exact execQuadEnWrite_says src d q en s
  | laneDetectPulse d q l => exact execLaneDetectPulse_says d q l s
  | partnerTerminationSensed d q l => exact execPartnerTerminationSensed_says d q l s
  | laneSymbolLock d q l inverted => exact execLaneSymbolLock_says d q l inverted s
  | eqEvaluationEnd d q l got => exact execEqEvaluationEnd_says d q l got s
  | eqBudgetExpired d q l => exact execEqBudgetExpired_says d q l s
  | laneLockTimeout d q l => exact execLaneLockTimeout_says d q l s
  | laneAlignmentFound d q l => exact execLaneAlignmentFound_says d q l s
  | exchangeDone d q l accepted => exact execExchangeDone_says d q l accepted s
  | barometerRefresh d q l got => exact execBarometerRefresh_says d q l got s
  | lossOfSignal d q l => exact execLossOfSignal_says d q l s
  | farEndLoopbackRequest d q l => exact execFarEndLoopbackRequest_says d q l s
  | farEndLoopbackExit d q l => exact execFarEndLoopbackExit_says d q l s
  | loopGoWrite src d q go => exact execLoopGoWrite_says src d q go s
  | coefficientRequest d q l ask => exact execCoefficientRequest_says d q l ask s
  | checkEnRise src d q => exact execCheckEnRise_says src d q s
  | laneMarginStart src d q ask => exact execLaneMarginStart_says src d q ask s
  | protocolMarginRequest d q ask => exact execProtocolMarginRequest_says d q ask s
  | marginStepDone d q l errors => exact execMarginStepDone_says d q l errors s
  | baroMinClear src d q l => exact execBaroMinClear_says src d q l s
  | baroThrWrite src d q pam4 accept target degrade fail => exact execBaroThrWrite_says src d q pam4 accept target degrade fail s
  | portTrainingStart d q => exact execPortTrainingStart_says d q s
  | protocolNegotiationEnd d q offer => exact execProtocolNegotiationEnd_says d q offer s
  | negFailRetry d q => exact execNegFailRetry_says d q s
  | dlActive d up => exact execDlActive_says d up s
  | identityReadDone d q serial caps => exact execIdentityReadDone_says d q serial caps s
  | identityReadTimeout d q => exact execIdentityReadTimeout_says d q s
  | linkDown d q cause unacked => exact execLinkDown_says d q cause unacked s
  | cellarHoldExpiry d q => exact execCellarHoldExpiry_says d q s
  | flushNow src d q => exact execFlushNow_says src d q s
  | ptRetrain src d q unacked => exact execPtRetrain_says src d q unacked s
  | portEnWrite src d q en => exact execPortEnWrite_says src d q en s
  | l0pWidthChange d q width => exact execL0pWidthChange_says d q width s
  | hostPerstAssert d q hotReset => exact execHostPerstAssert_says d q hotReset s
  | flitSend d t => exact execFlitSend_says d t s
  | flitReceive d t f e0 e1 => exact execFlitReceive_says d t f e0 e1 s
  | replayReqReceive d t req => exact execReplayReqReceive_says d t req s
  | replayTimeout d t => exact execReplayTimeout_says d t s
  | ackTimer d t => exact execAckTimer_says d t s
  | droughtSuspicion d t c => exact execDroughtSuspicion_says d t c s
  | auditCommandReceive d t c => exact execAuditCommandReceive_says d t c s
  | auditReplyReceive d t c freeH retH freeD retD => exact execAuditReplyReceive_says d t c freeH retH freeD retD s
  | casubBaroRefresh d t got => exact execCasubBaroRefresh_says d t got s
  | mapChangeCmdReceive d t map => exact execMapChangeCmdReceive_says d t map s
  | markerReceive d t words => exact execMarkerReceive_says d t words s
  | periodicMarker d t => exact execPeriodicMarker_says d t s
  | siteEnWrite src d t en => exact execSiteEnWrite_says src d t en s
  | siteCalibrateDone d t got => exact execSiteCalibrateDone_says d t got s
  | siteCalibrateTimeout d t => exact execSiteCalibrateTimeout_says d t s
  | siteAlignFound d t delay => exact execSiteAlignFound_says d t delay s
  | siteAlignTimeout d t => exact execSiteAlignTimeout_says d t s
  | siteInitExchange d t peerDie peerSite adv rxExp => exact execSiteInitExchange_says d t peerDie peerSite adv rxExp s
  | siteInitTimeout d t => exact execSiteInitTimeout_says d t s
  | clRetrain src d t => exact execClRetrain_says src d t s
  | clRetire src d t => exact execClRetire_says src d t s
  | clRevive src d t => exact execClRevive_says src d t s
  | holdUsExpiry d t => exact execHoldUsExpiry_says d t s
  | handoverQueryReceive d t => exact execHandoverQueryReceive_says d t s
  | handoverReplyReceive d t rxExp => exact execHandoverReplyReceive_says d t rxExp s
  | relayReturn d t => exact execRelayReturn_says d t s
  | messageArrival d input m own => exact execMessageArrival_says d input m own s
  | crossbarMatch d full errs => exact execCrossbarMatch_says d full errs s
  | xbGrpRead src d index => exact execXbGrpRead_says src d index s
  | xbGrpWrite src d index => exact execXbGrpWrite_says src d index s
  | xbGrpClear src d index => exact execXbGrpClear_says src d index s
  | xbCommit src d => exact execXbCommit_says src d s
  | xbLarderMinClear src d => exact execXbLarderMinClear_says src d s
  | hdmConfigAccess v n k acc => exact execHdmConfigAccess_says v n k acc s
  | hostConfigRequest v goal acc => exact execHostConfigRequest_says v goal acc s
  | hostDecoderCommit v n base size ways gran targets => exact execHostDecoderCommit_says v n base size ways gran targets s
  | hostDecoderCommitClear v n => exact execHostDecoderCommitClear_says v n s
  | bdTblRead src d table index => exact execBdTblRead_says src d table index s
  | bdTblWrite src d table index => exact execBdTblWrite_says src d table index s
  | bdTblClear src d table index => exact execBdTblClear_says src d table index s
  | bdSetMirror src d table index => exact execBdSetMirror_says src d table index s
  | identifySwitchDevice c => exact execIdentifySwitchDevice_says c s
  | getPhysicalPortState c ports => exact execGetPhysicalPortState_says c ports s
  | physicalPortControl c port act => exact execPhysicalPortControl_says c port act s
  | sendPpbConfigRequest c port reg put got => exact execSendPpbConfigRequest_says c port reg put got s
  | getVirtualCxlSwitchInfo c vcss start count => exact execGetVirtualCxlSwitchInfo_says c vcss start count s
  | bindVppb c vcs n port ld => exact execBindVppb_says c vcs n port ld s
  | vppbBindingDone d slot => exact execVppbBindingDone_says d slot s
  | unbindVppb c vcs n option => exact execUnbindVppb_says c vcs n option s
  | unbindDrainDone d slot => exact execUnbindDrainDone_says d slot s
  | unbindTmoExpiry d slot => exact execUnbindTmoExpiry_says d slot s
  | generateAerEvent c vcs n bytes => exact execGenerateAerEvent_says c vcs n bytes s
  | tunnelManagementCommand c port ld opcode bytes got => exact execTunnelManagementCommand_says c port ld opcode bytes got s
  | sendLdConfigRequest c port ld reg put got => exact execSendLdConfigRequest_says c port ld reg put got s
  | sendLdMemoryRequest c port ld addr len put got => exact execSendLdMemoryRequest_says c port ld addr len put got s
  | mldComponentCommand c port bytes got => exact execMldComponentCommand_says c port bytes got s
  | dcdManagementCommand c port ld bytes got => exact execDcdManagementCommand_says c port ld bytes got s
  | setLdShare c port ld share => exact execSetLdShare_says c port ld share s
  | getBindingTable c vcs => exact execGetBindingTable_says c vcs s
  | unsupportedOpcode c => exact execUnsupportedOpcode_says c s
  | identify c => exact execIdentify_says c s
  | backgroundOperationStatus c => exact execBackgroundOperationStatus_says c s
  | getResponseMessageLimit c => exact execGetResponseMessageLimit_says c s
  | setResponseMessageLimit c n => exact execSetResponseMessageLimit_says c n s
  | getFwInfo c versions => exact execGetFwInfo_says c versions s
  | transferFw c slot bytes => exact execTransferFw_says c slot bytes s
  | activateFw c slot => exact execActivateFw_says c slot s
  | agentMessage d bad => exact execAgentMessage_says d bad s
  | deviceResponsePass d trkDie trk => exact execDeviceResponsePass_says d trkDie trk s
  | snoopIssue d => exact execSnoopIssue_says d s
  | birspReceive d tag v kind => exact execBirspReceive_says d tag v kind s
  | birspHoldRelease d => exact execBirspHoldRelease_says d s
  | biconflict d v quad ld line tag => exact execBiconflict_says d v quad ld line tag s
  | snoopTimeout d tag => exact execSnoopTimeout_says d tag s
  | caTblRead src d table index => exact execCaTblRead_says src d table index s
  | caRegionWrite src d table index => exact execCaRegionWrite_says src d table index s
  | caRegionClear src d table index => exact execCaRegionClear_says src d table index s
  | caLoftLookup src d table index => exact execCaLoftLookup_says src d table index s
  | loftWalkStart d => exact execLoftWalkStart_says d s
  | loftWalkEnd d => exact execLoftWalkEnd_says d s
  | writeCopyNdr d trk copy => exact execWriteCopyNdr_says d trk copy s
  | copyTmoExpiry d trk copy => exact execCopyTmoExpiry_says d trk copy s
  | mirrorReadReturn d trkDie trk => exact execMirrorReadReturn_says d trkDie trk s
  | poisonedReadRepair d trk data => exact execPoisonedReadRepair_says d trk data s
  | guardArmRequest d chooser grp copy port ld lines => exact execGuardArmRequest_says d chooser grp copy port ld lines s
  | guardAck d grp copy lines => exact execGuardAck_says d grp copy lines s
  | pairQuery d chooser grp copy lines => exact execPairQuery_says d chooser grp copy lines s
  | pairQueryAnswered d grp copy line => exact execPairQueryAnswered_says d grp copy line s
  | guardedRewrite d chooser grp copy line poison data => exact execGuardedRewrite_says d chooser grp copy line poison data s
  | copyStateMessage d from_ m => exact execCopyStateMessage_says d from_ m s
  | mrTblRead src d index => exact execMrTblRead_says src d index s
  | mrTblWrite src d index => exact execMrTblWrite_says src d index s
  | mrTblClear src d index => exact execMrTblClear_says src d index s
  | mrCopyFail src d index copy => exact execMrCopyFail_says src d index copy s
  | mrCopyResilver src d index copy => exact execMrCopyResilver_says src d index copy s
  | mrCopyForceHealthy src d index copy => exact execMrCopyForceHealthy_says src d index copy s
  | mrCopyStopResilver src d index copy => exact execMrCopyStopResilver_says src d index copy s
  | resilverStateAck d => exact execResilverStateAck_says d s
  | resilverBlockDone d line => exact execResilverBlockDone_says d line s
  | blkGapExpiry d => exact execBlkGapExpiry_says d s
  | ovLookup src d => exact execOvLookup_says src d s
  | ovStart src d => exact execOvStart_says src d s
  | ovAbort src d => exact execOvAbort_says src d s
  | ovClear src d => exact execOvClear_says src d s
  | lineCopyReadReturn d slot line poison data => exact execLineCopyReadReturn_says d slot line poison data s
  | lineCopyDone d slot line => exact execLineCopyDone_says d slot line s
  | migrationDrained d slot => exact execMigrationDrained_says d slot s
  | dualWriteNdr d tag newCopy => exact execDualWriteNdr_says d tag newCopy s
  | starvePromotion d o e => exact execStarvePromotion_says d o e s
  | scCommit src d => exact execScCommit_says src d s
  | wheelSlot d => exact execWheelSlot_says d s
  | scShpRead src d index => exact execScShpRead_says src d index s
  | scShpWrite src d index tokReset => exact execScShpWrite_says src d index tokReset s
  | scShpClear src d index tokReset => exact execScShpClear_says src d index tokReset s
  | shaperWriteEffect d => exact execShaperWriteEffect_says d s
  | policerCreditReturn d q c => exact execPolicerCreditReturn_says d q c s
  | dmDoorbell src d q => exact execDmDoorbell_says src d q s
  | scanReadReturn d tag line poison => exact execScanReadReturn_says d tag line poison s
  | engineArbitration d e => exact execEngineArbitration_says d e s
  | dmLineResponse d tag line poison => exact execDmLineResponse_says d tag line poison s
  | descriptorRetire d q => exact execDescriptorRetire_says d q s
  | migrateReply d tag answer => exact execMigrateReply_says d tag answer s
  | linkRereadReturn d tag line poison => exact execLinkRereadReturn_says d tag line poison s
  | dmQEnable src d q => exact execDmQEnable_says src d q s
  | dmQDisable src d q => exact execDmQDisable_says src d q s
  | dmQPause src d q => exact execDmQPause_says src d q s
  | dmQUnpause src d q => exact execDmQUnpause_says src d q s
  | dmQResume src d q => exact execDmQResume_says src d q s
  | dmQInvalidate src d q => exact execDmQInvalidate_says src d q s
  | cqHeadWrite src d q v => exact execCqHeadWrite_says src d q v s
  | pnReadEntry src d chan inst => exact execPnReadEntry_says src d chan inst s
  | pnCreate src d chan inst => exact execPnCreate_says src d chan inst s
  | pnRemove src d chan inst => exact execPnRemove_says src d chan inst s
  | pnReset src d chan inst => exact execPnReset_says src d chan inst s
  | pnSetQueue src d chan inst j => exact execPnSetQueue_says src d chan inst j s
  | pnSetShaper src d chan inst j tokReset => exact execPnSetShaper_says src d chan inst j tokReset s
  | pnSetCounter src d chan inst k => exact execPnSetCounter_says src d chan inst k s
  | pnFreeze src d chan inst => exact execPnFreeze_says src d chan inst s
  | freezeComplete d inst => exact execFreezeComplete_says d inst s
  | freezeTmoExpiry d inst => exact execFreezeTmoExpiry_says d inst s
  | pnSave src d chan inst => exact execPnSave_says src d chan inst s
  | pnRestore src d chan inst => exact execPnRestore_says src d chan inst s
  | pnThaw src d chan inst => exact execPnThaw_says src d chan inst s
  | staleOutZero d inst => exact execStaleOutZero_says d inst s
  | fenceCmd src d q => exact execFenceCmd_says src d q s
  | unfenceCmd src d q => exact execUnfenceCmd_says src d q s
  | scrubStep d hit => exact execScrubStep_says d hit s
  | watchdogKick src d v => exact execWatchdogKick_says src d v s
  | watchdogExpiry d => exact execWatchdogExpiry_says d s
  | slotEnWrite src d q en => exact execSlotEnWrite_says src d q en s
  | prsntFall d q => exact execPrsntFall_says d q s
  | presenceConfirmed d q => exact execPresenceConfirmed_says d q s
  | prsntRise d q => exact execPrsntRise_says d q s
  | slotPowerWrite src d q on => exact execSlotPowerWrite_says src d q on s
  | rampShortCheck d q vout => exact execRampShortCheck_says d q vout s
  | gateCheck d q gate => exact execGateCheck_says d q gate s
  | rampComplete d q gate vout feedsHigh => exact execRampComplete_says d q gate vout feedsHigh s
  | rampTimeout d q => exact execRampTimeout_says d q s
  | faultTimerExpiry d q => exact execFaultTimerExpiry_says d q s
  | fastTrip d q sense => exact execFastTrip_says d q sense s
  | outputUnderVoltage d q => exact execOutputUnderVoltage_says d q s
  | pgoodLost d q => exact execPgoodLost_says d q s
  | retryTimerEnd d q => exact execRetryTimerEnd_says d q s
  | slotUnlock src d q => exact execSlotUnlock_says src d q s
  | feedGood d q feed => exact execFeedGood_says d q feed s
  | feedLost d q feed high => exact execFeedLost_says d q feed high s
  | reverseCurrent d q feed => exact execReverseCurrent_says d q feed s
  | oringReenable d q feed => exact execOringReenable_says d q feed s
  | slotSample d q got => exact execSlotSample_says d q got s
  | fetTempSample d q got => exact execFetTempSample_says d q got s
  | slotMeasurementUpdate d q => exact execSlotMeasurementUpdate_says d q s
  | forecastAssert d q => exact execForecastAssert_says d q s
  | forecastClear d q => exact execForecastClear_says d q s
  | perstReleaseTimer d q => exact execPerstReleaseTimer_says d q s
  | perstHoldWrite src d q hold => exact execPerstHoldWrite_says src d q hold s
  | fcLeadExpiry d q => exact execFcLeadExpiry_says d q s
  | gateOffDelay d q => exact execGateOffDelay_says d q s
  | stoppingEnd d q => exact execStoppingEnd_says d q s
  | commandAccept d c opcode payload requester tag => exact execCommandAccept_says d c opcode payload requester tag s
  | commandStart d => exact execCommandStart_says d s
  | mbQdoorbell k n wrote => exact execMbQdoorbell_says k n wrote s
  | hatchInboundAccess d fm tag addr words conflict => exact execHatchInboundAccess_says d fm tag addr words conflict s
  | hatchAccessDone d => exact execHatchAccessDone_says d s
  | delayedReadStart src d k space addr => exact execDelayedReadStart_says src d k space addr s
  | delayedReadData d k words => exact execDelayedReadData_says d k words s
  | delayedReadCollect d k => exact execDelayedReadCollect_says d k s
  | drTmoExpiry d k => exact execDrTmoExpiry_says d k s
  | pfTmoExpiry d => exact execPfTmoExpiry_says d s
  | xbusTransactionEnd d g how => exact execXbusTransactionEnd_says d g how s
  | xbusRecovery d g sdaHigh => exact execXbusRecovery_says d g sdaHigh s
  | overcastUpdate d load0 load1 => exact execOvercastUpdate_says d load0 load1 s
  | inventoryControl c op slot => exact execInventoryControl_says c op slot s
  | invVerify got => exact execInvVerify_says got s
  | invApply got => exact execInvApply_says got s
  | invArm got => exact execInvArm_says got s
  | getIdentity c => exact execGetIdentity_says c s
  | getAttestationReport c => exact execGetAttestationReport_says c s
  | openRegisterSession c => exact execOpenRegisterSession_says c s
  | closeRegisterSession c => exact execCloseRegisterSession_says c s
  | sessionExpiry c => exact execSessionExpiry_says c s
  | getCounter c => exact execGetCounter_says c s
  | getNonce c => exact execGetNonce_says c s
  | nonceExpiry => exact execNonceExpiry_says s
  | submitToken c => exact execSubmitToken_says c s
  | transitionResetTimer => exact execTransitionResetTimer_says s
  | takeOwnership c => exact execTakeOwnership_says c s
  | rotateCommandRoot c => exact execRotateCommandRoot_says c s
  | releaseReservation c => exact execReleaseReservation_says c s
  | tapProvisionMaker secret id keys cert => exact execTapProvisionMaker_says secret id keys cert s
  | lockoutExpiry c => exact execLockoutExpiry_says c s
  | chainFrameReceive f => exact execChainFrameReceive_says f s
  | chainFrameForward => exact execChainFrameForward_says s
  | stocktake => exact execStocktake_says s
  | chainBreak => exact execChainBreak_says s
  | noticeSend => exact execNoticeSend_says s
  | mctpPacket => exact execMctpPacket_says s
  | setEndpointId => exact execSetEndpointId_says s
  | getEndpointId => exact execGetEndpointId_says s
  | getEndpointUuid => exact execGetEndpointUuid_says s
  | getMctpVersionSupport => exact execGetMctpVersionSupport_says s
  | getMessageTypeSupport => exact execGetMessageTypeSupport_says s
  | regAccessRead => exact execRegAccessRead_says s
  | regAccessWrite => exact execRegAccessWrite_says s
  | counterEvtWrite src d k val => exact execCounterEvtWrite_says src d k val s
  | counterCaptureRead d k => exact execCounterCaptureRead_says d k s
  | counterWrap d k => exact execCounterWrap_says d k s
  | frostArmAll src d => exact execFrostArmAll_says src d s
  | frostArmDie src d => exact execFrostArmDie_says src d s
  | frostCancel src d => exact execFrostCancel_says src d s
  | frostArmReceive d target => exact execFrostArmReceive_says d target s
  | frostAckReceive d => exact execFrostAckReceive_says d s
  | frostSnap d => exact execFrostSnap_says d s
  | atticEnWrite src d val => exact execAtticEnWrite_says src d val s
  | atticTailWrite src d val => exact execAtticTailWrite_says src d val s
  | ckRstPackage src key => exact execCkRstPackage_says src key s
  | ckRstDelayExpiry => exact execCkRstDelayExpiry_says s
  | ckRstWarden src key die => exact execCkRstWarden_says src key die s
  | v12BiasValid => exact execV12BiasValid_says s
  | casubLaneSignalLoss d t n => exact execCasubLaneSignalLoss_says d t n s
  | viralIndication d q => exact execViralIndication_says d q s
  | islandPowerLoss => exact execIslandPowerLoss_says s

/-- A command answers a next state that follows. -/
theorem exec_goes (c : Instr) (s : State) : s.Goes (exec c s) := by
  have k := exec_says c s
  unfold State.Says at k
  split at k
  · exact k
  · exact k.1

/-- A next state of a command follows the state before. -/
theorem exec_leads {c : Instr} {s t : State} (h : exec c s = .next t) : s.Leads t := by
  obtain ⟨u, hu, hl⟩ := exec_goes c s
  rw [hu] at h
  cases h
  exact hl

end Sys2Proof.Machine
end

