-- ==== Sys2Proof/Laws/Fields.lean ====
section
/-! SUPPORT. Fields of registers: what a write of one shows at a read of it and of every other, and what an event or a log record
leaves as it was. -/

namespace Sys2Proof.Machine

theorem Reg.ctorIdx_inj {a b : Reg} (h : a.ctorIdx = b.ctorIdx) : a = b := by
  have := congrArg Reg.ofNat h
  rwa [Reg.ofNat_ctorIdx, Reg.ofNat_ctorIdx] at this

/-- Different fields, or different places, have different keys. -/
theorem fkey_inj {f g : Fld} {l m : Loc} (hf : f.lo < 32) (hg : g.lo < 32) (h : fkey f l = fkey g m) :
    f.reg = g.reg ∧ f.lo = g.lo ∧ l = m := by
  unfold fkey at h
  rw [Nat.pair_eq_pair, Nat.pair_eq_pair, Nat.pair_eq_pair] at h
  obtain ⟨h1, h2, h3, h4⟩ := h
  refine ⟨Reg.ctorIdx_inj (by omega), by omega, ?_⟩
  cases l
  cases m
  simp_all

/-- The state keeps the canonical form of its register file. -/
theorem State.regsOk_wr {s : State} (f : Fld) (l : Loc) (v : Nat) (h : s.regsOk = true) : (s.wr f l v).regsOk = true :=
  State.wr_ok s f l v h

/-- A field reads as it was written, kept to its width. -/
theorem State.rd_wr_same {s : State} (f : Fld) (l : Loc) (v : Nat) (h : s.regsOk = true) :
    (s.wr f l v).rd f l = v % 2 ^ f.width :=
  Tbl.getD_set_same _ _ _ h

/-- A write of one field leaves what is read at any other key. -/
theorem State.rd_wr_key {s : State} {f g : Fld} {l m : Loc} (v : Nat) (h : s.regsOk = true) (n : fkey g m ≠ fkey f l) :
    (s.wr f l v).rd g m = s.rd g m := by
  unfold State.rd State.wr
  rw [Tbl.getD, Tbl.get_set_other _ _ n h]
  rfl

/-- A write of one field leaves every other field. -/
theorem State.rd_wr_other {s : State} {f g : Fld} {l m : Loc} (v : Nat) (h : s.regsOk = true) (hf : f.lo < 32) (hg : g.lo < 32)
    (n : ¬(g.reg = f.reg ∧ g.lo = f.lo ∧ m = l)) : (s.wr f l v).rd g m = s.rd g m :=
  State.rd_wr_key v h fun e => n (fkey_inj hg hf e)

/-- A write of one field leaves the fields of every other register. -/
theorem State.rd_wr_reg {s : State} {f g : Fld} {l m : Loc} (v : Nat) (h : s.regsOk = true) (hf : f.lo < 32) (hg : g.lo < 32)
    (n : g.reg ≠ f.reg) : (s.wr f l v).rd g m = s.rd g m :=
  State.rd_wr_other v h hf hg fun e => n e.1

/-! ## Log records -/

/-- `t` shows every field that no log record touches as `s` shows it, and its register file is canonical. -/
def State.Shows (s t : State) : Prop :=
  t.regsOk = true ∧ ∀ (g : Fld) (m : Loc), g.lo < 32 → g.reg ∉ logRegs → t.rd g m = s.rd g m

theorem State.Shows.same {s : State} (h : s.regsOk = true) : s.Shows s := ⟨h, fun _ _ _ _ => rfl⟩

theorem State.Shows.trans {s t u : State} (h : s.Shows t) (k : t.Shows u) : s.Shows u :=
  ⟨k.1, fun g m hg hn => (k.2 g m hg hn).trans (h.2 g m hg hn)⟩

theorem State.Shows.wr {s t : State} (h : s.Shows t) (f : Fld) (l : Loc) (v : Nat) (hf : f.lo < 32) (hr : f.reg ∈ logRegs) :
    s.Shows (t.wr f l v) :=
  h.trans ⟨State.wr_ok _ _ _ _ h.1, fun _ _ hg hn => State.rd_wr_reg v h.1 hf hg fun e => hn (e ▸ hr)⟩

theorem State.Shows.regs {s t u : State} (h : s.Shows t) (hp : u.part = t.part) (hr : u.regs = t.regs) : s.Shows u := by
  refine h.trans ⟨?_, fun g m _ _ => ?_⟩
  · have := h.1
    unfold State.regsOk at this ⊢
    rw [hr]
    exact this
  · unfold State.rd State.rst
    rw [hr, hp]

theorem State.Shows.forEach {α : Type} {s t : State} (xs : List α) (g : State → α → State) (h : s.Shows t)
    (hg : ∀ u a, s.Shows u → s.Shows (g u a)) : s.Shows (t.forEach xs g) := by
  unfold State.forEach
  induction xs generalizing t with
  | nil => exact h
  | cons a r ih => exact ih (hg _ _ h)

theorem State.Shows.cntBump {s t : State} (h : s.Shows t) (d k n : Nat) : s.Shows (t.cntBump d k n) := by
  unfold State.cntBump
  dsimp only
  split
  · exact h.regs rfl rfl
  · exact State.Shows.wr (h.regs rfl rfl) _ _ _ (by simp only [F.PM_OVF_j_ovf]; omega) (by simp [logRegs, F.PM_OVF_j_ovf])

theorem State.Shows.add {s t : State} (h : s.Shows t) (f : Fld) (l : Loc) (n : Nat) (hf : f.lo < 32) (hr : f.reg ∈ logRegs) :
    s.Shows (t.add f l n) := h.wr f l _ hf hr

theorem State.Shows.countClass {s t : State} (h : s.Shows t) (d c : Nat) : s.Shows (t.countClass d c) := by
  unfold State.countClass
  split
  · exact h.add _ _ _ (by decide) (by decide)
  · exact h.add _ _ _ (by decide) (by decide)
  · exact (h.add _ _ _ (by decide) (by decide)).wr _ _ _ (by decide) (by decide)
  · exact h

theorem State.Shows.logPut {s t : State} (h : s.Shows t) (d blk bit cls unit detail : Nat) :
    s.Shows (t.logPut d blk bit cls unit detail) := by
  unfold State.logPut
  extract_lets n w u t1 t2 t3 t4 t5 t6 t7
  have h1 : s.Shows t1 := h.regs rfl rfl
  have h2 : s.Shows t2 := h1.wr _ _ _ (by decide) (by decide)
  have h3 : s.Shows t3 := h2.wr _ _ _ (by decide) (by decide)
  have h4 : s.Shows t4 := h3.wr _ _ _ (by decide) (by decide)
  have h5 : s.Shows t5 := h4.wr _ _ _ (by decide) (by decide)
  have h6 : s.Shows t6 := h5.wr _ _ _ (by decide) (by decide)
  have h7 : s.Shows t7 := h6.countClass d cls
  split
  · exact h7.wr _ _ _ (by decide) (by decide)
  · exact h7

theorem State.Shows.wake {s t : State} (h : s.Shows t) (d : Nat) : s.Shows (t.wake d 21) := by
  unfold State.wake
  extract_lets t1
  have h1 : s.Shows t1 := h.regs rfl rfl
  split
  · exact (h1.regs (u := { t1 with waking := t1.waking.filter (· != (d, 21)) }) rfl rfl).wr _ _ _ (by decide) (by decide)
  · exact h1

theorem State.Shows.cntIrq {s t : State} (h : s.Shows t) (d : Nat) : s.Shows (t.cntIrq d) := by
  unfold State.cntIrq
  extract_lets t1
  have h1 : s.Shows t1 := ((h.wr F.PM_EVENT_ovf (dieL d) 1 (by decide) (by decide)).wake d).regs rfl rfl
  split
  · exact h1.add _ _ _ (by decide) (by decide)
  · exact (h1.logPut d 13 0 0 0 0).forEach _ _ fun u a h => h.cntBump d a 1

theorem State.Shows.cntAdd {s t : State} (h : s.Shows t) (d k n : Nat) : s.Shows (t.cntAdd d k n) := by
  unfold State.cntAdd
  extract_lets t1
  have h1 : s.Shows t1 := h.cntBump d k n
  split
  · exact h1.cntIrq d
  · exact h1

theorem State.Shows.pm {s t : State} (h : s.Shows t) (d e u n : Nat) : s.Shows (t.pm d e u n) :=
  h.forEach _ _ fun _ _ h => h.cntAdd d _ n

/-- A log record shows in `logRegs` alone. -/
theorem State.Shows.log {s t : State} (h : s.Shows t) (d blk bit cls unit detail : Nat) :
    s.Shows (t.log d blk bit cls unit detail) := by
  unfold State.log
  split
  · exact h.add _ _ _ (by decide) (by decide)
  · exact (h.logPut d blk bit cls unit detail).pm d _ _ _

/-- After an event its bit is set, and every other field of a register that no log record touches is as it was. -/
theorem State.rd_evD {s : State} (f : Fld) (l : Loc) (unit cls detail : Nat) (h : s.regsOk = true) (g : Fld) (m : Loc) (hg : g.lo < 32) (hn : g.reg ∉ logRegs) :
    (s.evD f l unit cls detail).rd g m = (s.on f l).rd g m :=
  (State.Shows.log (.same (State.wr_ok s f l 1 h)) _ _ _ _ _ _).2 g m hg hn

theorem State.rd_evD_same {s : State} (f : Fld) (l : Loc) (unit cls detail : Nat) (h : s.regsOk = true) (hf : f.lo < 32)
    (hr : f.reg ∉ logRegs) : (s.evD f l unit cls detail).rd f l = 1 % 2 ^ f.width := by
  rw [State.rd_evD f l unit cls detail h f l hf hr, State.on, State.rd_wr_same f l 1 h]

theorem State.rd_evD_other {s : State} (f : Fld) (l : Loc) (unit cls detail : Nat) (h : s.regsOk = true) (hf : f.lo < 32)
    {g : Fld} {m : Loc} (hg : g.lo < 32) (hn : g.reg ∉ logRegs)
    (n : ¬(g.reg = f.reg ∧ g.lo = f.lo ∧ m = l)) : (s.evD f l unit cls detail).rd g m = s.rd g m := by
  rw [State.rd_evD f l unit cls detail h g m hg hn, State.on, State.rd_wr_other 1 h hf hg n]

/-! ## Beside the register file -/

@[simp] theorem State.wr_logless (s : State) (f : Fld) (l : Loc) (v : Nat) : (s.wr f l v).logless = s.logless := rfl
@[simp] theorem State.on_logless (s : State) (f : Fld) (l : Loc) : (s.on f l).logless = s.logless := rfl
@[simp] theorem State.off_logless (s : State) (f : Fld) (l : Loc) : (s.off f l).logless = s.logless := rfl
@[simp] theorem State.add_logless (s : State) (f : Fld) (l : Loc) (n : Nat) : (s.add f l n).logless = s.logless := rfl
@[simp] theorem State.inc_logless (s : State) (f : Fld) (l : Loc) : (s.inc f l).logless = s.logless := rfl
@[simp] theorem State.emit_logless (s : State) (o : Out) : (s.emit o).logless = s.logless := rfl

theorem State.forEach_logless {α : Type} (s : State) (xs : List α) (g : State → α → State)
    (h : ∀ s a, (g s a).logless = s.logless) : (s.forEach xs g).logless = s.logless := by
  unfold State.forEach
  induction xs generalizing s with
  | nil => rfl
  | cons a t ih => exact (ih _).trans (h _ _)

@[simp] theorem State.cntBump_logless (s : State) (d k n : Nat) : (s.cntBump d k n).logless = s.logless := by
  unfold State.cntBump
  dsimp only
  split <;> rfl

@[simp] theorem State.countClass_logless (s : State) (d c : Nat) : (s.countClass d c).logless = s.logless := by
  unfold State.countClass
  split <;> rfl

@[simp] theorem State.logPut_logless (s : State) (d blk bit cls unit detail : Nat) :
    (s.logPut d blk bit cls unit detail).logless = s.logless := by
  unfold State.logPut
  extract_lets n w u t1 t2 t3 t4 t5 t6 t7
  have h : t7.logless = s.logless := (State.countClass_logless _ _ _).trans rfl
  split
  · exact h
  · exact h

@[simp] theorem State.wake_logless (s : State) (d : Nat) : (s.wake d 21).logless = s.logless := by
  unfold State.wake
  dsimp only
  split <;> rfl

@[simp] theorem State.cntIrq_logless (s : State) (d : Nat) : (s.cntIrq d).logless = s.logless := by
  unfold State.cntIrq
  extract_lets t
  have h : t.logless = s.logless := State.wake_logless _ d
  split
  · exact h
  · exact ((State.forEach_logless _ _ _ fun s a => State.cntBump_logless s d a 1).trans (State.logPut_logless _ _ _ _ _ _ _)).trans h

@[simp] theorem State.cntAdd_logless (s : State) (d k n : Nat) : (s.cntAdd d k n).logless = s.logless := by
  unfold State.cntAdd
  extract_lets t
  split
  · exact (State.cntIrq_logless _ _).trans (State.cntBump_logless _ _ _ _)
  · exact State.cntBump_logless _ _ _ _

@[simp] theorem State.pm_logless (s : State) (d e u n : Nat) : (s.pm d e u n).logless = s.logless :=
  State.forEach_logless _ _ _ fun s a => State.cntAdd_logless s d a n

/-- A log record leaves all but the register file, the recent records, the counts and what is sent out. -/
@[simp] theorem State.log_logless (s : State) (d blk bit cls unit detail : Nat) :
    (s.log d blk bit cls unit detail).logless = s.logless := by
  unfold State.log
  split
  · rfl
  · exact (State.pm_logless _ _ _ _ _).trans (State.logPut_logless _ _ _ _ _ _ _)

/-- So does an event. -/
@[simp] theorem State.evD_logless (s : State) (f : Fld) (l : Loc) (unit cls detail : Nat) :
    (s.evD f l unit cls detail).logless = s.logless := State.log_logless _ _ _ _ _ _ _

@[simp] theorem State.ev_logless (s : State) (f : Fld) (l : Loc) (unit : Nat) : (s.ev f l unit).logless = s.logless :=
  State.evD_logless s f l unit 0 0

/-- An event changes its own register and the log. -/
theorem State.ev_onlyLogs {s t : State} {rs : List Reg} (f : Fld) (l : Loc) (unit : Nat) (h : t.regsOk = true) (hf : f.lo < 32)
    (hr : f.reg ∈ rs) (k : s.onlyLogs t rs) : s.onlyLogs (t.ev f l unit) rs := by
  refine ⟨(State.ev_logless _ _ _ _).trans k.1, fun g m hg hn hx => ?_⟩
  rw [State.ev, State.rd_evD_other f l unit 0 0 h hf hg hn fun e => hx (e.1 ▸ hr)]
  exact k.2 g m hg hn hx

theorem State.wr_onlyLogs {s t : State} {rs : List Reg} (f : Fld) (l : Loc) (v : Nat) (h : t.regsOk = true) (hf : f.lo < 32)
    (hr : f.reg ∈ rs) (k : s.onlyLogs t rs) : s.onlyLogs (t.wr f l v) rs := by
  refine ⟨k.1, fun g m hg hn hx => ?_⟩
  rw [State.rd_wr_reg v h hf hg fun e => hx (e ▸ hr)]
  exact k.2 g m hg hn hx

theorem State.onlyLogs.same (s : State) (rs : List Reg) : s.onlyLogs s rs := ⟨rfl, fun _ _ _ _ _ => rfl⟩

end Sys2Proof.Machine
end

