-- ==== Sys2Proof/Tests/Slice0.lean ====
section
/-! SUPPORT. The model's own tests: ill-formed commands that the checks refuse, small steps against the spec's words, and for every
statement with conditions a state and operands that meet them, clause by clause. -/

namespace Sys2Proof.Tests

open Sys2Proof.Machine

/-- A state with some fields of registers given values. -/
def set (s : State) (fs : List (Fld × Loc × Nat)) : State := fs.foldl (fun s f => s.wr f.1 f.2.1 f.2.2) s

/-- A part out of reset with its clocks running, its Inventory applied, and the monitors of dies 0 and 1 On. -/
def base : State :=
  set { State.reset with pkg := { inReset := false }, clocks := true }
    [(F.INV_STATUS_state, pkgL, 2), (F.PD_DOM_STATE1_state_d16_d21 4, dieL 0, 3), (F.PD_DOM_STATE1_state_d16_d21 4, dieL 1, 3)]

/-! ## Well-formedness: each check refuses a command that breaks it -/

theorem test_wf_absent_die : Instr.wf State.reset.part (.alignmentTimeout 4) = false := by decide
theorem test_wf_present_die : Instr.wf State.reset.part (.alignmentTimeout 3) = true := by decide
theorem test_wf_seven_sensors : Instr.wf State.reset.part (.thermalSample 0 [1, 2, 3, 4, 5, 6, 7]) = false := by decide
theorem test_wf_power_list : Instr.wf State.reset.part (.powerMonitorUpdate [1, 2, 3] 6) = false := by decide
theorem test_wf_no_words : Instr.wf State.reset.part (.hatchInboundAccess 0 0 0 0 [] none) = false := by decide
theorem test_wf_short_frame : Instr.wf State.reset.part (.chainFrameReceive ⟨[1, 2, 3, 4, 5]⟩) = false := by decide
theorem test_wf_data_cells : Instr.wf State.reset.part (.messageArrival 0 0 { tc := 4, kind := .memWr, cells := 2, data := [0] } none) = false := by decide

/-! ## Single steps against the spec's words -/

/-- A field of the next state of an outcome, none where it stops. -/
def seen (o : Outcome) (f : Fld) (l : Loc) : Option Nat :=
  match o with
  | .next t => some (t.rd f l)
  | _ => none

set_option maxRecDepth 8000 in
/-- R529: SYS_RST# alone is recorded as cause 3 (Table 20.7). -/
theorem test_sys_rst_cause : seen (exec .sysRstAssert base) F.CK_RESET_CAUSE_cause pkgL = some 3 := by decide
/-- R54: without VAUX the package stays in reset. -/
theorem test_no_exit_without_vaux :
    (match exec (.packageResetExit true false) { State.reset with pkg := { vaux := false } } with
      | .next t => t.pkg.inReset
      | _ => false) = true := by decide
/-- R38: a die behind by 3 cycles jumps, and step_count counts it. -/
theorem test_time_jump : seen (exec (.masterCountReceive 1 3 ⟨0, none⟩) base) F.CK_FTIME_STATUS_step_count pkgL = some 1 := by decide
/-- R38: a die behind by 2 does not jump. -/
theorem test_time_no_jump : seen (exec (.masterCountReceive 1 2 ⟨0, none⟩) base) F.CK_FTIME_STATUS_step_count pkgL = some 0 := by decide
/-- R533: before registers are served a read returns all ones. -/
theorem test_read_in_reset : (State.reset.outerRead 0).1 = 0xFFFF_FFFF := by decide
/-- R498: a break takes the chain address. -/
theorem test_break_address : seen (exec .chainBreak State.reset) F.CH_STATUS_addr pkgL = some 0xFE := by decide
/-- R510: a wrap sets the counter's bit of PM_OVF_j. -/
theorem test_wrap_bit :
    seen (exec (.counterWrap 0 33) { set base [(F.EVT_en, idxL 0 0 33, 1)] with cnt := [(cntKey 0 33, 2 ^ 48 - 1)] })
      (F.PM_OVF_j_ovf 1) (idxL 0 0 1) = some 1 := by decide


/-! ## No row of the table gives bits -/

theorem test_no_word_decodes : decodeTableWord 32 0xFFFF_FFFF = none := by decide
theorem test_fetch_word_leaves : State.reset.withFetchWord 32 0 = State.reset := by rfl

/-! ## States and operands that meet the conditions of the statements -/

theorem test_register_space_met :
    (∃ (s : State) (addr : Fin 268435456) (r : Reg) (l : Loc), regAt (addr / 4 * 4) = some (r, l) ∧
      (pairLow r).isSome) :=
  ⟨base, 20971532, .DM_Q_BASE_HI, {}, by decide⟩

theorem test_reset_and_supplies_met :
    (∃ (s : State), ¬(s.pkg.islandUp)) ∧
    (∃ (s : State), s.pkg.islandUp) ∧
    (∃ (s : State) (d : Fin 8) (rail : Rail), d < s.part.dies ∧ rail ≠ .v12Bias) ∧
    (∃ (s : State) (d : Fin 8), d < s.part.dies) ∧
    (∃ (s : State), s.live) ∧
    (∃ (s : State) (d : Fin 8), d < s.part.dies ∧ s.pkg.islandUp) ∧
    (∃ (s : State) (pwrLow : Bool), s.mayLeave pwrLow) ∧
    (∃ (s : State), s.live ∧ ¬(s.clocks)) ∧
    (∃ (s : State), s.live ∧ s.chainRuns) ∧
    (∃ (s : State), s.live ∧ s.pkg.lcReset) ∧
    (∃ (s : State) (src : Src), tenantOf src = none ∧ s.writable src 0) ∧
    (∃ (s : State), s.live ∧ s.pkg.cmdReset) :=
  ⟨⟨{ base with pkg := { inReset := false, islandUp := false } }, by decide⟩, ⟨base, by decide⟩,
    ⟨base, 0, .vddc, by decide⟩, ⟨base, 0, by decide⟩, ⟨base, by decide⟩, ⟨base, 0, by decide⟩,
    ⟨State.reset, true, by decide⟩, ⟨{ base with clocks := false }, by decide⟩, ⟨base, by decide⟩,
    ⟨{ base with pkg := { inReset := false, lcReset := true } }, by decide⟩, ⟨base, .fm 0, by decide⟩,
    ⟨{ base with pkg := { inReset := false, cmdReset := true } }, by decide⟩⟩

theorem test_boot_and_load_met :
    (∃ (s : State), s.live ∧ (¬(!s.flag F.CH_DIE_done pkgL ∨ s.rd F.SEC_STATUS_boot_stage pkgL ≠ 0))) ∧
    (∃ (s : State), s.live) ∧
    (∃ (s : State), s.live ∧ (s.loading ∧ !s.inv.dirRead)) ∧
    (∃ (s : State), s.live ∧ (s.loading ∧ s.inv.dirRead ∧ s.inv.got = none ∧ !s.inv.accepted)) ∧
    (∃ (s : State) (g : Option Image), s.live ∧ s.inv.got = some g ∧ (s.loading ∧ !s.inv.accepted)) ∧
    (∃ (s : State) (d : Fin 8), s.ready d ∧ s.fwDue d) :=
  ⟨⟨(set base [(F.CH_DIE_done, pkgL, 1)]), by decide⟩, ⟨base, by decide⟩,
    ⟨set base [(F.INV_STATUS_state, pkgL, 1)], by decide⟩,
    ⟨{ (set base [(F.INV_STATUS_state, pkgL, 1)]) with inv := { dirRead := true } }, by decide⟩,
    ⟨{ (set base [(F.INV_STATUS_state, pkgL, 1)]) with inv := { got := some none } }, none, by decide⟩,
    ⟨set base [(F.RS_WDOG_STATUS_restarting, dieL 0, 1)], 0, by decide⟩⟩

theorem test_fabric_time_power_met :
    (∃ (s : State), s.live ∧ s.clocks) ∧
    (∃ (s : State) (d : Fin 8) (path : CountPath) (delay : Nat), s.ready d ∧ (¬(d.val = 0 ∨ !s.clocks)) ∧
      s.countDelay d path.site (path.relay.map Fin.val) = some delay) ∧
    (∃ (s : State) (d : Fin 8), s.ready d ∧ ¬(d.val = 0)) ∧
    (∃ (s : State) (d : Fin 8) (temps : List Int), s.ready d ∧ temps.length = 8) ∧
    (∃ (s : State), s.live) ∧
    (∃ (s : State) (src : Src) (d : Fin 8), tenantOf src = none ∧ s.writable src d) ∧
    (∃ (s : State) (src : Src), tenantOf src = none ∧ s.writable src 0) ∧
    (∃ (s : State) (d : Fin 8), s.ready d) ∧
    (∃ (s : State) (d : Fin 8) (k : Fin 23), s.ready d ∧ (s.lullEn d k ∧ s.domAt d k = 3 ∧ s.lullDue d k)) ∧
    (∃ (s : State) (d : Fin 8), s.ready d) ∧
    (∃ (s : State) (d : Fin 8) (k : Fin 23), s.ready d ∧ (s.domAt d k = 2 ∧ s.waking.contains (d.val, k.val))) :=
  ⟨⟨base, by decide⟩, ⟨base, 1, ⟨0, none⟩, 0, by decide⟩, ⟨base, 1, by decide⟩,
    ⟨base, 0, [40, 40, 40, 40, 40, 40, 40, 40], by decide⟩, ⟨base, by decide⟩, ⟨base, .fm 0, 0, by decide⟩,
    ⟨base, .fm 0, by decide⟩, ⟨set base [(F.PD_DOM_STATE0_state_d0_d15 0, dieL 0, 1)], 0, by decide⟩,
    ⟨{ (set base [(F.PD_DOM_LULL_EN_lull_en 0, dieL 0, 1), (F.PD_DOM_STATE1_state_d16_d21 1, dieL 0, 3),
       (F.PD_LULL_IDLE_idle_us, dieL 0, 5)]) with ftime := [(0, 8000)] }, 0, 17, by decide⟩,
       ⟨set base [(F.PD_DOM_STATE0_state_d0_d15 0, dieL 0, 2)], 0, by decide⟩,
       ⟨{ (set base [(F.PD_DOM_STATE0_state_d0_d15 0, dieL 0, 2)]) with waking := [(0, 0)] }, 0, 0, by decide⟩⟩

theorem test_lanes_training_met :
    (∃ (s : State) (src : Src) (d : Fin 8), tenantOf src = none ∧ s.writable src d) ∧
    (∃ (s : State) (d : Fin 8) (q : Fin 16) (l : Fin 4), s.ready d ∧ s.awaits d q l) ∧
    (∃ (s : State) (d : Fin 8) (q : Fin 16) (l : Fin 4), s.ready d ∧ (s.stageOf d q l = 2 ∧ s.quadRate d q < 2)) ∧
    (∃ (s : State) (d : Fin 8) (q : Fin 16) (l : Fin 4), s.ready d ∧ s.equalising d q l) ∧
    (∃ (s : State) (d : Fin 8), s.ready d) ∧
    (∃ (s : State) (d : Fin 8) (q : Fin 16) (l : Fin 4), s.ready d ∧ s.stageOf d q l = 3) ∧
    (∃ (s : State) (d : Fin 8) (q : Fin 16) (l : Fin 4), s.ready d ∧ s.stageOf d q l = 4) ∧
    (∃ (s : State) (d : Fin 8) (q : Fin 16) (l : Fin 4), s.ready d ∧ s.stageOf d q l = 5) ∧
    (∃ (s : State) (d : Fin 8) (q : Fin 16) (l : Fin 4), s.ready d ∧
      (s.stageOf d q l = 6 ∧ !s.flag F.LQ_LOOP_loop_go (unitL d q))) :=
  ⟨⟨base, .fm 0, 0, by decide⟩, ⟨set base [(F.LQ_STATUS_stage 0, unitL 0 0, 1)], 0, 0, 0, by decide⟩,
    ⟨set base [(F.LQ_STATUS_stage 0, unitL 0 0, 2)], 0, 0, 0, by decide⟩,
    ⟨{ (set base [(F.LQ_STATUS_stage 0, unitL 0 0, 2), (F.LQ_STATUS_rate, unitL 0 0, 2)]) with lanes :=
       [(0, { eq := { phase := .presets [] } })] }, 0, 0, 0, by decide⟩, ⟨base, 0, by decide⟩,
       ⟨set base [(F.LQ_STATUS_stage 0, unitL 0 0, 3)], 0, 0, 0, by decide⟩,
       ⟨set base [(F.LQ_STATUS_stage 0, unitL 0 0, 4)], 0, 0, 0, by decide⟩,
       ⟨set base [(F.LQ_STATUS_stage 0, unitL 0 0, 5)], 0, 0, 0, by decide⟩,
       ⟨set base [(F.LQ_STATUS_stage 0, unitL 0 0, 6)], 0, 0, 0, by decide⟩⟩

theorem test_lanes_service_met :
    (∃ (s : State) (src : Src) (d : Fin 8), tenantOf src = none ∧ s.writable src d) ∧
    (∃ (s : State) (d : Fin 8) (q : Fin 16) (l : Fin 4), s.ready d ∧ (s.stageOf d q l = 2 ∧ 2 ≤ s.quadRate d q)) ∧
    (∃ (s : State) (d : Fin 8) (q : Fin 16) (ask : MarginAsk), s.ready d ∧ s.marginable d q ask.lane) ∧
    (∃ (s : State) (d : Fin 8), s.ready d) :=
  ⟨⟨base, .fm 0, 0, by decide⟩,
    ⟨set base [(F.LQ_STATUS_stage 0, unitL 0 0, 2), (F.LQ_STATUS_rate, unitL 0 0, 2)], 0, 0, 0, by decide⟩,
    ⟨set base [(F.LQ_STATUS_stage 0, unitL 0 0, 5), (F.LQ_STATUS_rate, unitL 0 0, 2)], 0, 0, ⟨0, false, false, 1, 1⟩,
    by decide⟩, ⟨base, 0, by decide⟩⟩

theorem test_ports_met :
    (∃ (s : State) (d : Fin 8), s.ready d) ∧
    (∃ (s : State) (d : Fin 8) (q : Fin 16), s.ready d ∧ s.pstate (portNo d q) = 2) ∧
    (∃ (s : State) (d : Fin 8), s.ready d) ∧
    (∃ (s : State) (d : Fin 8) (q : Fin 16), s.ready d ∧ s.pstate (portNo d q) = 3) ∧
    (∃ (s : State) (d : Fin 8) (q : Fin 16), s.ready d ∧ (2 ≤ s.pstate (portNo d q) ∧ s.pstate (portNo d q) ≤ 4)) ∧
    (∃ (s : State) (d : Fin 8) (q : Fin 16), s.ready d ∧
      (s.holding (portNo d q) ∧ (s.port (portNo d q)).timer.isSome)) ∧
    (∃ (s : State) (src : Src) (d : Fin 8) (q : Fin 16), tenantOf src = none ∧ s.writable src d ∧
      s.holding (portNo d q)) ∧
    (∃ (s : State) (src : Src) (d : Fin 8), tenantOf src = none ∧ s.writable src d) ∧
    (∃ (s : State) (d : Fin 8) (q : Fin 16), s.ready d ∧ s.role (portNo d q) = 0) :=
  ⟨⟨base, 0, by decide⟩, ⟨set base [(F.PT_STATUS_pstate, unitL 0 0, 2)], 0, 0, by decide⟩,
    ⟨{ (set base [(F.PT_STATUS_pstate, unitL 0 0, 2), (F.PT_NEG_LINK_width, unitL 0 0, 0)]) with ports :=
       [(0, { settled := true })] }, 0, by decide⟩, ⟨set base [(F.PT_STATUS_pstate, unitL 0 0, 3)], 0, 0, by decide⟩,
       ⟨set base [(F.PT_STATUS_pstate, unitL 0 0, 2)], 0, 0, by decide⟩,
       ⟨{ (set base [(F.PT_STATUS_cellar, unitL 0 0, 1)]) with ports := [(0, { timer := some 0 })] }, 0, 0,
       by decide⟩, ⟨set base [(F.PT_STATUS_cellar, unitL 0 0, 1)], .fm 0, 0, 0, by decide⟩,
       ⟨base, .fm 0, 0, by decide⟩, ⟨base, 0, 0, by decide⟩⟩

theorem test_casub_flits_met :
    (∃ (s : State) (d : Fin 8) (t : Fin 7), s.ready d ∧ s.siteActive d t = true ∧ ¬((s.site d t).handing)) ∧
    (∃ (s : State) (d : Fin 8) (t : Fin 7), s.ready d ∧ s.siteActive d t = true ∧ ¬((s.site d t).stopped)) ∧
    (∃ (s : State) (d : Fin 8) (t : Fin 7), s.ready d ∧ s.siteActive d t = true) ∧
    (∃ (s : State) (d : Fin 8) (t : Fin 7), s.ready d ∧ s.siteActive d t = true ∧ ¬((s.site d t).unsentAck = 0)) ∧
    (∃ (s : State) (d : Fin 8) (t : Fin 7), s.ready d ∧ (1 ≤ s.siteState d t ∧ s.siteState d t ≤ 5)) ∧
    (∃ (s : State) (d : Fin 8) (t : Fin 7) (m : LaneMap), s.ready d ∧ s.siteActive d t = true ∧
      (s.site d t).txMap = some m ∧ 4096 ≤ (s.site d t).flits) :=
  ⟨⟨(set base [(F.CL_STATUS_state, unitL 0 0, 4)]), 0, 0, by decide⟩,
    ⟨(set base [(F.CL_STATUS_state, unitL 0 0, 4)]), 0, 0, by decide⟩,
    ⟨(set base [(F.CL_STATUS_state, unitL 0 0, 4)]), 0, 0, by decide⟩,
    ⟨{ (set base [(F.CL_STATUS_state, unitL 0 0, 4)]) with sites := [(key2 0 0, { unsentAck := 1 })] }, 0, 0,
    by decide⟩, ⟨(set base [(F.CL_STATUS_state, unitL 0 0, 1)]), 0, 0, by decide⟩,
    ⟨{ (set base [(F.CL_STATUS_state, unitL 0 0, 4)]) with sites :=
       [(key2 0 0, { txMap := some ⟨[], 32, 0, 1⟩, flits := 4096 })] }, 0, 0, ⟨[], 32, 0, 1⟩, by decide⟩⟩

theorem test_casub_sites_met :
    (∃ (s : State) (src : Src) (d : Fin 8), tenantOf src = none ∧ s.writable src d) ∧
    (∃ (s : State) (d : Fin 8) (t : Fin 7), s.ready d ∧ s.siteState d t = 1) ∧
    (∃ (s : State) (d : Fin 8) (t : Fin 7), s.ready d ∧ s.siteState d t = 2) ∧
    (∃ (s : State) (d : Fin 8) (t : Fin 7), s.ready d ∧ s.siteState d t = 3) ∧
    (∃ (s : State) (d : Fin 8), s.ready d) ∧
    (∃ (s : State) (d : Fin 8) (t : Fin 7), s.ready d ∧ (s.site d t).handing) ∧
    (∃ (s : State) (d : Fin 8) (t : Fin 7), s.ready d ∧ s.siteActive d t = true) ∧
    (∃ (s : State) (d : Fin 8) (t : Fin 7), s.ready d ∧ (1 ≤ s.siteState d t ∧ s.siteState d t ≤ 5)) :=
  ⟨⟨base, .fm 0, 0, by decide⟩, ⟨(set base [(F.CL_STATUS_state, unitL 0 0, 1)]), 0, 0, by decide⟩,
    ⟨(set base [(F.CL_STATUS_state, unitL 0 0, 2)]), 0, 0, by decide⟩,
    ⟨(set base [(F.CL_STATUS_state, unitL 0 0, 3)]), 0, 0, by decide⟩, ⟨base, 0, by decide⟩,
    ⟨{ (set base [(F.CL_STATUS_state, unitL 0 0, 4)]) with sites := [(key2 0 0, { handing := true })] }, 0, 0,
    by decide⟩, ⟨(set base [(F.CL_STATUS_state, unitL 0 0, 4)]), 0, 0, by decide⟩,
    ⟨(set base [(F.CL_STATUS_state, unitL 0 0, 1)]), 0, 0, by decide⟩⟩

theorem test_switch_met :
    (∃ (s : State) (d : Fin 8), s.ready d) ∧
    (∃ (s : State) (src : Src) (d : Fin 8), tenantOf src = none ∧ s.writable src d) :=
  ⟨⟨base, 0, by decide⟩, ⟨base, .fm 0, 0, by decide⟩⟩

theorem test_host_config_tables_met :
    (∃ (s : State) (v : Fin 128), s.ready (portDie v)) ∧
    (∃ (s : State) (src : Src) (d : Fin 8), tenantOf src = none ∧ s.writable src d) :=
  ⟨⟨base, 0, by decide⟩, ⟨base, .fm 0, 0, by decide⟩⟩

theorem test_fm_information_met :
    (∃ (s : State) (c : Fin 5) (cmd : Cmd), s.started c [0x5100] cmd) ∧
    (∃ (s : State) (c : Fin 5) (cmd : Cmd), s.started c [0x5101] cmd) ∧
    (∃ (s : State) (c : Fin 5) (cmd : Cmd), s.started c [0x5102] cmd) ∧
    (∃ (s : State) (c : Fin 5) (cmd : Cmd), s.started c [0x5103] cmd) ∧
    (∃ (s : State) (c : Fin 5) (cmd : Cmd), s.started c [0x5200] cmd) ∧
    (∃ (s : State) (c : Fin 5) (cmd : Cmd), s.started c [0xC011] cmd) ∧
    (∃ (s : State) (c : Fin 5) (cmd : Cmd), s.live ∧ (s.chan 0 c).running = some cmd ∧
      (¬(knownOps.contains cmd.opcode ∧ cmd.typeOk))) ∧
    (∃ (s : State) (c : Fin 5) (cmd : Cmd), s.started c [0x0001] cmd) ∧
    (∃ (s : State) (c : Fin 5) (cmd : Cmd), s.started c [0x0002] cmd) ∧
    (∃ (s : State) (c : Fin 5) (cmd : Cmd), s.started c [0x0003] cmd) ∧
    (∃ (s : State) (c : Fin 5) (cmd : Cmd), s.started c [0x0004] cmd) ∧
    (∃ (s : State) (c : Fin 5) (cmd : Cmd), s.started c [0x0200] cmd) :=
  ⟨⟨{ base with chans := [(key2 0 0, { running := some { opcode := 0x5100 } })] }, 0, { opcode := 0x5100 },
    by decide⟩, ⟨{ base with chans := [(key2 0 0, { running := some { opcode := 0x5101 } })] }, 0,
    { opcode := 0x5101 }, by decide⟩,
    ⟨{ base with chans := [(key2 0 0, { running := some { opcode := 0x5102 } })] }, 0, { opcode := 0x5102 },
    by decide⟩, ⟨{ base with chans := [(key2 0 0, { running := some { opcode := 0x5103 } })] }, 0,
    { opcode := 0x5103 }, by decide⟩,
    ⟨{ base with chans := [(key2 0 0, { running := some { opcode := 0x5200 } })] }, 0, { opcode := 0x5200 },
    by decide⟩, ⟨{ base with chans := [(key2 0 0, { running := some { opcode := 0xC011 } })] }, 0,
    { opcode := 0xC011 }, by decide⟩,
    ⟨{ base with chans := [(key2 0 0, { running := some { opcode := 0xFFFF } })] }, 0, { opcode := 0xFFFF },
    by decide⟩, ⟨{ base with chans := [(key2 0 0, { running := some { opcode := 0x0001 } })] }, 0,
    { opcode := 0x0001 }, by decide⟩,
    ⟨{ base with chans := [(key2 0 0, { running := some { opcode := 0x0002 } })] }, 0, { opcode := 0x0002 },
    by decide⟩, ⟨{ base with chans := [(key2 0 0, { running := some { opcode := 0x0003 } })] }, 0,
    { opcode := 0x0003 }, by decide⟩,
    ⟨{ base with chans := [(key2 0 0, { running := some { opcode := 0x0004 } })] }, 0, { opcode := 0x0004 },
    by decide⟩, ⟨{ base with chans := [(key2 0 0, { running := some { opcode := 0x0200 } })] }, 0,
    { opcode := 0x0200 }, by decide⟩⟩

theorem test_fm_binding_met :
    (∃ (s : State) (c : Fin 5) (cmd : Cmd), s.started c [0x5201] cmd) ∧
    (∃ (s : State) (d : Fin 8), s.ready d) ∧
    (∃ (s : State) (c : Fin 5) (cmd : Cmd), s.started c [0x5202] cmd) ∧
    (∃ (s : State) (c : Fin 5) (cmd : Cmd), s.started c [0x5203] cmd) ∧
    (∃ (s : State) (c : Fin 5) (cmd : Cmd), s.started c [0x5300] cmd) ∧
    (∃ (s : State) (c : Fin 5) (cmd : Cmd), s.started c [0x5301] cmd) ∧
    (∃ (s : State) (c : Fin 5) (cmd : Cmd), s.started c [0x5302] cmd) ∧
    (∃ (s : State) (c : Fin 5) (cmd : Cmd), s.started c [0x5400, 0x5401, 0x5402, 0x5403, 0x5404, 0x5405, 0x5406] cmd) ∧
    (∃ (s : State) (c : Fin 5) (cmd : Cmd), s.started c [0x5600, 0x5601, 0x5602, 0x5603, 0x5604, 0x5605] cmd) ∧
    (∃ (s : State) (c : Fin 5) (cmd : Cmd), s.started c [0xC010] cmd) :=
  ⟨⟨{ base with chans := [(key2 0 0, { running := some { opcode := 0x5201 } })] }, 0, { opcode := 0x5201 },
    by decide⟩, ⟨base, 0, by decide⟩,
    ⟨{ base with chans := [(key2 0 0, { running := some { opcode := 0x5202 } })] }, 0, { opcode := 0x5202 },
    by decide⟩, ⟨{ base with chans := [(key2 0 0, { running := some { opcode := 0x5203 } })] }, 0,
    { opcode := 0x5203 }, by decide⟩,
    ⟨{ base with chans := [(key2 0 0, { running := some { opcode := 0x5300 } })] }, 0, { opcode := 0x5300 },
    by decide⟩, ⟨{ base with chans := [(key2 0 0, { running := some { opcode := 0x5301 } })] }, 0,
    { opcode := 0x5301 }, by decide⟩,
    ⟨{ base with chans := [(key2 0 0, { running := some { opcode := 0x5302 } })] }, 0, { opcode := 0x5302 },
    by decide⟩, ⟨{ base with chans := [(key2 0 0, { running := some { opcode := 0x5400 } })] }, 0,
    { opcode := 0x5400 }, by decide⟩,
    ⟨{ base with chans := [(key2 0 0, { running := some { opcode := 0x5600 } })] }, 0, { opcode := 0x5600 },
    by decide⟩, ⟨{ base with chans := [(key2 0 0, { running := some { opcode := 0xC010 } })] }, 0,
    { opcode := 0xC010 }, by decide⟩⟩

theorem test_firmware_inventory_met :
    (∃ (s : State) (c : Fin 5) (cmd : Cmd), s.started c [0x0201] cmd) ∧
    (∃ (s : State) (c : Fin 5) (cmd : Cmd), s.started c [0x0202] cmd) ∧
    (∃ (s : State) (c : Fin 5) (cmd : Cmd), s.started c [0xC020] cmd) ∧
    (∃ (s : State), s.live) :=
  ⟨⟨{ base with chans := [(key2 0 0, { running := some { opcode := 0x0201 } })] }, 0, { opcode := 0x0201 },
    by decide⟩, ⟨{ base with chans := [(key2 0 0, { running := some { opcode := 0x0202 } })] }, 0,
    { opcode := 0x0202 }, by decide⟩,
    ⟨{ base with chans := [(key2 0 0, { running := some { opcode := 0xC020 } })] }, 0, { opcode := 0xC020 },
    by decide⟩, ⟨base, by decide⟩⟩

theorem test_agent_met :
    (∃ (s : State) (d : Fin 8), s.ready d) ∧
    (∃ (s : State) (d : Fin 8) (kind : MKind), s.ready d ∧ isBirsp kind) ∧
    (∃ (s : State) (src : Src) (d : Fin 8), tenantOf src = none ∧ s.writable src d) :=
  ⟨⟨base, 0, by decide⟩, ⟨base, 0, .biRspI, by decide⟩, ⟨base, .fm 0, 0, by decide⟩⟩

theorem test_mirror_met :
    (∃ (s : State) (d : Fin 8), s.ready d) ∧
    (∃ (s : State) (d : Fin 8), s.ready d) ∧
    (∃ (s : State) (d : Fin 8) (trkDie : Fin 8) (trk : Fin 16384) (x : Trk), s.ready d ∧ s.trk trkDie trk = some x ∧
      (x.mirror.isSome ∧ readsMem x.kind ∧ s.chooser trkDie x = d)) ∧
    (∃ (s : State) (d : Fin 8) (trk : Fin 16384) (x : Trk), s.ready d ∧ s.trk d trk = some x ∧
      (x.mirror.isSome ∧ readsData x.kind)) ∧
    (∃ (s : State) (d : Fin 8) (port : Fin 128) (lines : List Nat), s.ready d ∧ (guardLines lines ∧ portDie port = d)) ∧
    (∃ (s : State) (src : Src) (d : Fin 8), tenantOf src = none ∧ s.writable src d) ∧
    (∃ (s : State) (d : Fin 8) (r : Resilver), s.ready d ∧ (s.mrd d).resilver = some r ∧ r.gap) :=
  ⟨⟨{ base with trks := [(trkKey 0 0, { src := 0, ptag := 0, tc := 3, kind := .memRd, mirror := some 0 })] }, 0,
    by decide⟩, ⟨base, 0, by decide⟩,
    ⟨{ base with trks := [(trkKey 0 0, { src := 0, ptag := 0, tc := 3, kind := .memRd, mirror := some 0 })] }, 0, 0,
    0, { src := 0, ptag := 0, tc := 3, kind := .memRd, mirror := some 0 }, by decide⟩,
    ⟨{ base with trks := [(trkKey 0 0, { src := 0, ptag := 0, tc := 3, kind := .memRd, mirror := some 0 })] }, 0, 0,
    { src := 0, ptag := 0, tc := 3, kind := .memRd, mirror := some 0 }, by decide⟩, ⟨base, 0, 0, [0], by decide⟩,
    ⟨base, .fm 0, 0, by decide⟩,
    ⟨{ base with mr := [(0, { resilver := some { grp := 1, copy := 0, gap := true } })] }, 0,
    { grp := 1, copy := 0, gap := true }, by decide⟩⟩

theorem test_overlay_met :
    (∃ (s : State) (src : Src) (d : Fin 8), tenantOf src = none ∧ s.writable src d) ∧
    (∃ (s : State) (d : Fin 8), s.ready d) :=
  ⟨⟨base, .fm 0, 0, by decide⟩, ⟨base, 0, by decide⟩⟩

theorem test_scheduler_met :
    (∃ (s : State) (d : Fin 8), s.ready d) ∧
    (∃ (s : State) (src : Src) (d : Fin 8), tenantOf src = none ∧ s.writable src d) :=
  ⟨⟨base, 0, by decide⟩, ⟨base, .fm 0, 0, by decide⟩⟩

theorem test_data_mover_met :
    (∃ (s : State) (src : Src) (d : Fin 8), tenantOf src = none ∧ s.writable src d) ∧
    (∃ (s : State) (src : Src) (d : Fin 8) (i : Fin 512) (j : Fin 16) (q : Nat), s.writable src d ∧
      s.pageFor src d i = true ∧ (s.inst d i).deaf = false ∧ (s.inst d i).queues[j.val]? = some q) ∧
    (∃ (s : State) (d : Fin 8), s.ready d) ∧
    (∃ (s : State) (src : Src) (d : Fin 8) (i : Fin 512) (j : Fin 16) (q : Nat), s.writable src d ∧
      s.pageFor src d i = true ∧ (s.inst d i).queues[j.val]? = some q) :=
  ⟨⟨base, .fm 0, 0, by decide⟩,
    ⟨{ base with insts := [(key2 0 0, { state := 1, queues := [7] })] }, .fm 0, 0, 0, 0, 7, by decide⟩,
    ⟨base, 0, by decide⟩,
    ⟨{ base with insts := [(key2 0 0, { state := 1, queues := [7] })] }, .fm 0, 0, 0, 0, 7, by decide⟩⟩

theorem test_pantry_met :
    (∃ (s : State) (src : Src) (d : Fin 8) (chan : Fin 17), ownChan src d chan = true ∧ s.writable src d ∧
      (chan.val == 0 || s.pantryFn.contains (portNo d (chan - 1))) = true) ∧
    (∃ (s : State) (d : Fin 8) (i : Fin 512), s.ready d ∧ ((s.inst d i).state = 3 ∧ s.instQuiet d i)) ∧
    (∃ (s : State) (d : Fin 8) (i : Fin 512), s.ready d ∧ (s.inst d i).state = 3) ∧
    (∃ (s : State) (d : Fin 8) (i : Fin 512), s.ready d ∧ (s.inst d i).stale = 0) :=
  ⟨⟨base, .fm 0, 0, 0, by decide⟩, ⟨{ base with insts := [(key2 0 0, { state := 3 })] }, 0, 0, by decide⟩,
    ⟨{ base with insts := [(key2 0 0, { state := 3 })] }, 0, 0, by decide⟩, ⟨base, 0, 0, by decide⟩⟩

theorem test_ras_met :
    (∃ (s : State) (src : Src) (d : Fin 8), tenantOf src = none ∧ s.writable src d) ∧
    (∃ (s : State) (d : Fin 8), s.ready d ∧ s.flag F.RS_SCRUB_scrub_en (dieL d)) ∧
    (∃ (s : State) (d : Fin 8), s.ready d ∧ s.wdogRuns d) ∧
    (∃ (s : State) (d : Fin 8) (q : Fin 16), s.ready d ∧ s.portUp (portNo d q)) :=
  ⟨⟨base, .fm 0, 0, by decide⟩, ⟨set base [(F.RS_SCRUB_scrub_en, dieL 0, 1)], 0, by decide⟩,
    ⟨set base [(F.RS_WDOG_CTRL_wdog_en, dieL 0, 1), (F.MB_STATUS_running, dieL 0, 1)], 0, by decide⟩,
    ⟨set base [(F.PT_STATUS_pstate, unitL 0 0, 4)], 0, 0, by decide⟩⟩

theorem test_slot_power_met :
    (∃ (s : State) (src : Src) (d : Fin 8) (q : Fin 16), tenantOf src = none ∧ s.writable src d ∧
      s.isSlot (portNo d q) = true) ∧
    (∃ (s : State) (d : Fin 8) (q : Fin 16), d < s.part.dies ∧ s.live ∧
      (s.prsntPin (portNo d q) true).isSlot (portNo d q) = true) ∧
    (∃ (s : State) (d : Fin 8) (q : Fin 16), s.ready d ∧ s.isSlot (portNo d q) = true) ∧
    (∃ (s : State) (d : Fin 8) (q : Fin 16), d < s.part.dies ∧ s.live ∧
      (s.prsntPin (portNo d q) false).isSlot (portNo d q) = true) ∧
    (∃ (s : State) (d : Fin 8) (q : Fin 16), s.ready d ∧ s.isSlot (portNo d q) = true ∧
      s.tripFrom (portNo d q) = (4, false)) ∧
    (∃ (s : State) (d : Fin 8) (q : Fin 16) (gate : Nat), s.ready d ∧ s.isSlot (portNo d q) = true ∧
      (s.tripFrom (portNo d q) = (4, true) ∧ gate < 2000)) ∧
    (∃ (s : State) (d : Fin 8) (q : Fin 16), s.ready d ∧ s.isSlot (portNo d q) = true ∧
      (s.tripFrom (portNo d q)).1 = 4) ∧
    (∃ (s : State) (d : Fin 8) (q : Fin 16), s.ready d ∧ s.isSlot (portNo d q) = true ∧
      s.rd F.SP_TIMERS_flt_us (portL (portNo d q)) * 8 ≤ (s.slotSt (portNo d q)).fault) ∧
    (∃ (s : State) (d : Fin 8) (q : Fin 16) (sense : Nat), s.ready d ∧ s.isSlot (portNo d q) = true ∧
      20 * s.rd F.SP_SHUNT_LIM_ilim (portL (portNo d q)) < sense) ∧
    (∃ (s : State) (d : Fin 8) (q : Fin 16), s.ready d ∧ s.isSlot (portNo d q) = true ∧
      (s.tripFrom (portNo d q)).1 = 5) ∧
    (∃ (s : State) (d : Fin 8) (q : Fin 16), s.ready d ∧ s.isSlot (portNo d q) = true ∧
      (s.slotState (portNo d q) = 5 ∧ s.flag F.SP_STATUS_pgood (portL (portNo d q)))) ∧
    (∃ (s : State) (d : Fin 8) (q : Fin 16), s.ready d ∧ s.isSlot (portNo d q) = true ∧ s.slotState (portNo d q) = 7) :=
  ⟨⟨set base [(F.PT_CTRL_role, unitL 0 0, 1)], .fm 0, 0, 0, by decide⟩,
    ⟨set base [(F.PT_CTRL_role, unitL 0 0, 1)], 0, 0, by decide⟩,
    ⟨set base [(F.PT_CTRL_role, unitL 0 0, 1)], 0, 0, by decide⟩,
    ⟨set base [(F.PT_CTRL_role, unitL 0 0, 1)], 0, 0, by decide⟩,
    ⟨(set base [(F.PT_CTRL_role, unitL 0 0, 1), (F.SP_STATUS_state, unitL 0 0, 4)]), 0, 0, by decide⟩,
    ⟨{ (set base [(F.PT_CTRL_role, unitL 0 0, 1), (F.SP_STATUS_state, unitL 0 0, 4)]) with slots :=
       [(0, { gate := true })] }, 0, 0, 100, by decide⟩,
       ⟨(set base [(F.PT_CTRL_role, unitL 0 0, 1), (F.SP_STATUS_state, unitL 0 0, 4)]), 0, 0, by decide⟩,
       ⟨{ (set base [(F.PT_CTRL_role, unitL 0 0, 1), (F.SP_STATUS_state, unitL 0 0, 5)]) with slots :=
          [(0, { fault := 1000000000 })] }, 0, 0, by decide⟩,
          ⟨(set base [(F.PT_CTRL_role, unitL 0 0, 1), (F.SP_STATUS_state, unitL 0 0, 5)]), 0, 0, 1000000000,
          by decide⟩, ⟨(set base [(F.PT_CTRL_role, unitL 0 0, 1), (F.SP_STATUS_state, unitL 0 0, 5)]), 0, 0,
          by decide⟩, ⟨(set base [(F.PT_CTRL_role, unitL 0 0, 1), (F.SP_STATUS_state, unitL 0 0, 5),
          (F.SP_STATUS_pgood, unitL 0 0, 1)]), 0, 0, by decide⟩,
          ⟨(set base [(F.PT_CTRL_role, unitL 0 0, 1), (F.SP_STATUS_state, unitL 0 0, 7)]), 0, 0, by decide⟩⟩

theorem test_slot_feeds_met :
    (∃ (s : State) (d : Fin 8) (q : Fin 16), s.ready d ∧ s.isSlot (portNo d q) = true) ∧
    (∃ (s : State) (d : Fin 8) (q : Fin 16) (feed : Fin 2), s.ready d ∧ s.isSlot (portNo d q) = true ∧
      s.flag (F.SP_STATUS_feed_good feed) (portL (portNo d q))) ∧
    (∃ (s : State) (d : Fin 8) (q : Fin 16), s.ready d ∧ s.isSlot (portNo d q) = true ∧ s.slotState (portNo d q) = 5) ∧
    (∃ (s : State) (src : Src) (d : Fin 8) (q : Fin 16), tenantOf src = none ∧ s.writable src d ∧
      s.isSlot (portNo d q) = true) ∧
    (∃ (s : State) (d : Fin 8) (q : Fin 16), s.ready d ∧ s.isSlot (portNo d q) = true ∧
      (s.slotState (portNo d q) = 6 ∧ (s.slotSt (portNo d q)).lead)) ∧
    (∃ (s : State) (d : Fin 8) (q : Fin 16), s.ready d ∧ s.isSlot (portNo d q) = true ∧
      (s.slotState (portNo d q) = 6 ∧ !(s.slotSt (portNo d q)).lead)) ∧
    (∃ (s : State) (d : Fin 8) (q : Fin 16), s.ready d ∧ s.isSlot (portNo d q) = true ∧ s.slotState (portNo d q) = 6) :=
  ⟨⟨set base [(F.PT_CTRL_role, unitL 0 0, 1)], 0, 0, by decide⟩,
    ⟨(set base [(F.PT_CTRL_role, unitL 0 0, 1), (F.SP_STATUS_state, unitL 0 0, 5),
    (F.SP_STATUS_feed_good 0, unitL 0 0, 1)]), 0, 0, 0, by decide⟩,
    ⟨(set base [(F.PT_CTRL_role, unitL 0 0, 1), (F.SP_STATUS_state, unitL 0 0, 5)]), 0, 0, by decide⟩,
    ⟨set base [(F.PT_CTRL_role, unitL 0 0, 1)], .fm 0, 0, 0, by decide⟩,
    ⟨{ (set base [(F.PT_CTRL_role, unitL 0 0, 1), (F.SP_STATUS_state, unitL 0 0, 6)]) with slots :=
       [(0, { lead := true })] }, 0, 0, by decide⟩,
       ⟨(set base [(F.PT_CTRL_role, unitL 0 0, 1), (F.SP_STATUS_state, unitL 0 0, 6)]), 0, 0, by decide⟩,
       ⟨(set base [(F.PT_CTRL_role, unitL 0 0, 1), (F.SP_STATUS_state, unitL 0 0, 6)]), 0, 0, by decide⟩⟩

theorem test_warden_hatch_met :
    (∃ (s : State) (d : Fin 8), s.ready d) ∧
    (∃ (s : State) (k : Fin 4), s.live ∧ s.flag F.MB_CHAN_c_present (idxL 0 0 k)) ∧
    (∃ (s : State) (src : Src) (d : Fin 8), tenantOf src = none ∧ s.writable src d) ∧
    (∃ (s : State) (d : Fin 8) (k : Fin 8), s.ready d ∧ s.flag F.MB_DR_CMD_s_done (idxL d 0 k)) ∧
    (∃ (s : State) (d : Fin 8) (g : Fin 4), s.ready d ∧ s.busActive d g) ∧
    (∃ (s : State) (d : Fin 8) (g : Fin 4), s.ready d ∧ (s.hatch d).clearing.contains g.val) :=
  ⟨⟨base, 0, by decide⟩, ⟨set base [(F.MB_CHAN_c_present, idxL 0 0 0, 1)], 0, by decide⟩, ⟨base, .fm 0, 0, by decide⟩,
    ⟨set base [(F.MB_DR_CMD_s_done, idxL 0 0 0, 1)], 0, 0, by decide⟩,
    ⟨{ base with hatches := [(0, { bus := [(0, [⟨.core, 0, 0, 0, []⟩])] })] }, 0, 0, by decide⟩,
    ⟨{ base with hatches := [(0, { clearing := [0] })] }, 0, 0, by decide⟩⟩

theorem test_strongroom_met :
    (∃ (s : State) (c : Fin 5) (cmd : Cmd), s.started c [0xC030] cmd) ∧
    (∃ (s : State) (c : Fin 5) (cmd : Cmd), s.started c [0xC031] cmd) ∧
    (∃ (s : State) (c : Fin 5) (cmd : Cmd), s.started c [0xC032] cmd) ∧
    (∃ (s : State) (c : Fin 5) (cmd : Cmd), s.started c [0xC033] cmd) ∧
    (∃ (s : State) (c : Fin 5), s.live ∧ s.flag F.SEC_SESSION_c_open (idxL 0 0 c)) ∧
    (∃ (s : State) (c : Fin 5) (cmd : Cmd), s.started c [0xC034] cmd) ∧
    (∃ (s : State) (c : Fin 5) (cmd : Cmd), s.started c [0xC035] cmd) ∧
    (∃ (s : State), s.live) ∧
    (∃ (s : State) (c : Fin 5) (cmd : Cmd), s.started c [0xC036] cmd) ∧
    (∃ (s : State) (c : Fin 5) (cmd : Cmd), s.started c [0xC037] cmd) ∧
    (∃ (s : State) (c : Fin 5) (cmd : Cmd), s.started c [0xC038] cmd) ∧
    (∃ (s : State) (c : Fin 5) (cmd : Cmd), s.started c [0xC039] cmd) :=
  ⟨⟨{ base with chans := [(key2 0 0, { running := some { opcode := 0xC030 } })] }, 0, { opcode := 0xC030 },
    by decide⟩, ⟨{ base with chans := [(key2 0 0, { running := some { opcode := 0xC031 } })] }, 0,
    { opcode := 0xC031 }, by decide⟩,
    ⟨{ base with chans := [(key2 0 0, { running := some { opcode := 0xC032 } })] }, 0, { opcode := 0xC032 },
    by decide⟩, ⟨{ base with chans := [(key2 0 0, { running := some { opcode := 0xC033 } })] }, 0,
    { opcode := 0xC033 }, by decide⟩, ⟨set base [(F.SEC_SESSION_c_open, idxL 0 0 0, 1)], 0, by decide⟩,
    ⟨{ base with chans := [(key2 0 0, { running := some { opcode := 0xC034 } })] }, 0, { opcode := 0xC034 },
    by decide⟩, ⟨{ base with chans := [(key2 0 0, { running := some { opcode := 0xC035 } })] }, 0,
    { opcode := 0xC035 }, by decide⟩, ⟨base, by decide⟩,
    ⟨{ base with chans := [(key2 0 0, { running := some { opcode := 0xC036 } })] }, 0, { opcode := 0xC036 },
    by decide⟩, ⟨{ base with chans := [(key2 0 0, { running := some { opcode := 0xC037 } })] }, 0,
    { opcode := 0xC037 }, by decide⟩,
    ⟨{ base with chans := [(key2 0 0, { running := some { opcode := 0xC038 } })] }, 0, { opcode := 0xC038 },
    by decide⟩, ⟨{ base with chans := [(key2 0 0, { running := some { opcode := 0xC039 } })] }, 0,
    { opcode := 0xC039 }, by decide⟩⟩

theorem test_chain_met :
    (∃ (s : State), s.pkg.islandUp = true) ∧
    (∃ (s : State) (b : List Nat) (r : List (List Nat)), s.pkg.islandUp = true ∧ s.takenOf 1 = some (b, r)) ∧
    (∃ (s : State) (b : List Nat) (r : List (List Nat)), s.pkg.islandUp = true ∧ s.takenOf 0 = some (b, r)) ∧
    (∃ (s : State) (m : Mctp), s.pkg.islandUp = true ∧ (s.island.msgs.find? fun x => isControl 1 x.bytes) = some m) ∧
    (∃ (s : State) (m : Mctp), s.pkg.islandUp = true ∧ (s.island.msgs.find? fun x => isControl 2 x.bytes) = some m) ∧
    (∃ (s : State) (m : Mctp), s.pkg.islandUp = true ∧ (s.island.msgs.find? fun x => isControl 3 x.bytes) = some m) ∧
    (∃ (s : State) (m : Mctp), s.pkg.islandUp = true ∧ (s.island.msgs.find? fun x => isControl 4 x.bytes) = some m) ∧
    (∃ (s : State) (m : Mctp), s.pkg.islandUp = true ∧ (s.island.msgs.find? fun x => isControl 5 x.bytes) = some m) ∧
    (∃ (s : State) (m : Mctp), s.pkg.islandUp = true ∧
      (s.island.msgs.find? fun x => isRegAccess false x.bytes) = some m) ∧
    (∃ (s : State) (m : Mctp), s.pkg.islandUp = true ∧
      (s.island.msgs.find? fun x => isRegAccess true x.bytes) = some m) :=
  ⟨⟨base, by decide⟩, ⟨{ base with island := { taken := [[0, 0, 1]] } }, [0, 0, 1], [], by decide⟩,
    ⟨{ base with island := { taken := [[0, 0, 0]] } }, [0, 0, 0], [], by decide⟩,
    ⟨{ base with island := { msgs := [⟨0, 0, 0, 0, [0, 0x80, 1]⟩] } }, ⟨0, 0, 0, 0, [0, 0x80, 1]⟩, by decide⟩,
    ⟨{ base with island := { msgs := [⟨0, 0, 0, 0, [0, 0x80, 2]⟩] } }, ⟨0, 0, 0, 0, [0, 0x80, 2]⟩, by decide⟩,
    ⟨{ base with island := { msgs := [⟨0, 0, 0, 0, [0, 0x80, 3]⟩] } }, ⟨0, 0, 0, 0, [0, 0x80, 3]⟩, by decide⟩,
    ⟨{ base with island := { msgs := [⟨0, 0, 0, 0, [0, 0x80, 4]⟩] } }, ⟨0, 0, 0, 0, [0, 0x80, 4]⟩, by decide⟩,
    ⟨{ base with island := { msgs := [⟨0, 0, 0, 0, [0, 0x80, 5]⟩] } }, ⟨0, 0, 0, 0, [0, 0x80, 5]⟩, by decide⟩,
    ⟨{ base with island := { msgs := [⟨0, 0, 0, 0, [0x7E, 0, 0, 0]⟩] } }, ⟨0, 0, 0, 0, [0x7E, 0, 0, 0]⟩, by decide⟩,
    ⟨{ base with island := { msgs := [⟨0, 0, 0, 0, [0x7E, 0, 0, 1]⟩] } }, ⟨0, 0, 0, 0, [0x7E, 0, 0, 1]⟩, by decide⟩⟩

theorem test_monitor_met :
    (∃ (s : State) (src : Src) (d : Fin 8), tenantOf src = none ∧ s.writable src d ∧ s.domOn d 20 = true) ∧
    (∃ (s : State) (d : Fin 8), s.ready d ∧ (s.serving ∧ s.domOn d 20)) ∧
    (∃ (s : State) (d : Fin 8) (k : Fin 512), s.ready d ∧
      (s.flag F.EVT_en (idxL d 0 k) ∧ s.domOn d 20 ∧ s.cntVal d k = 2 ^ 48 - 1)) ∧
    (∃ (s : State) (d : Fin 8), s.ready d ∧ (d.val ≠ 0 ∧ s.domOn d 20)) ∧
    (∃ (s : State) (d : Fin 8), s.ready d ∧ s.domOn 0 20) ∧
    (∃ (s : State) (d : Fin 8) (a : FrostArm), s.ready d ∧ Tbl.get s.frost d = some a ∧
      (a.at_ ≤ s.now d ∧ s.domOn d 20)) :=
  ⟨⟨base, .fm 0, 0, by decide⟩, ⟨base, 0, by decide⟩,
    ⟨{ (set base [(F.EVT_en, idxL 0 0 0, 1)]) with cnt := [(cntKey 0 0, 2 ^ 48 - 1)] }, 0, 0, by decide⟩,
    ⟨base, 1, by decide⟩, ⟨base, 0, by decide⟩, ⟨{ base with frost := [(0, ⟨0, false⟩)] }, 0, ⟨0, false⟩, by decide⟩⟩

theorem test_step_runs_front_met :
    (∃ (s : State) (c : Instr) (r : List Instr), s.pending = c :: r) :=
  ⟨{ base with pending := [.pllLock] }, .pllLock, [], rfl⟩

theorem test_empty_queue_ticks_met :
    (∃ s : State, s.pending = [] ∧ s.clocks = true) ∧
    (∃ s : State, s.pending = [] ∧ s.clocks = false) :=
  ⟨⟨base, by decide⟩, ⟨State.reset, by decide⟩⟩

theorem test_absent_die_does_nothing_met :
    (∃ (c : Instr) (s : State) (d : Nat), c.die = some d ∧ s.part.dies ≤ d) :=
  ⟨.alignmentTimeout 7, base, 7, by decide⟩

theorem test_exec_keeps_part_and_queue_met :
    (∃ (c : Instr) (s t : State), exec c s = .next t) :=
  ⟨.registerWrite (.tenant 0) 0 0, State.reset, State.reset, rfl⟩

theorem test_queue_stays_well_formed_met :
    (∃ s : State, s.pending ≠ [] ∧ s.queueOk = true) :=
  ⟨{ base with pending := [.alignmentTimeout 1] }, by decide⟩

theorem test_register_file_stays_canonical_met :
    (∃ s t : State, s.regsOk = true ∧ step s = .next t) :=
  ⟨{ State.reset with pending := [.sysRstAssert] }, _, rfl, rfl⟩

theorem test_lifecycle_only_rises_met :
    (∃ s t : State, s.regsOk = true ∧ step s = .next t) :=
  ⟨State.reset, State.reset, rfl, rfl⟩

theorem test_denied_writes_met :
    (∃ (c : Instr) (s : State) (src : Src) (d : Nat), c.write = some (src, d) ∧ ¬ s.discards src d ∧
      s.denied src = true ∧ s.regsOk = true) ∧
    (∃ (s : State) (src : Src) (addr : Fin 268435456), s.takes src (addr / 4 * 4) = true ∧ s.denied src = true) :=
  ⟨⟨.xbCommit (.fm 0) 0, set base [(F.LC_STATE_state, pkgL, 2)], .fm 0, 0, by decide⟩,
    ⟨set base [(F.LC_STATE_state, pkgL, 2)], .fm 0, 0, by decide⟩⟩

theorem test_discarded_writes_met :
    (∃ (c : Instr) (s : State) (src : Src) (d : Nat), c.write = some (src, d) ∧ s.part.dies ≤ d ∧ s.discards src d) ∧
    (∃ (c : Instr) (s : State) (v : Fin 128) (d : Nat), s.serving = true ∧ c.write = some (.tenant v, d) ∧
      forTenant s c = false) ∧
    (∃ (s : State) (src : Src) (addr : Fin 268435456), s.takes src (addr / 4 * 4) = false) :=
  ⟨⟨.xbCommit (.fm 0) 7, base, .fm 0, 7, by decide⟩, ⟨.xbCommit (.tenant 3) 0, base, 3, 0, by decide⟩,
    ⟨State.reset, .fm 0, 0, by decide⟩⟩

theorem test_small_effects_frame_met :
    (∃ (c : Instr) (s t : State) (rs : List Reg) (g : Fld), touches c = some rs ∧ exec c s = .next t ∧
      s.regsOk = true ∧ g.lo < 32 ∧ g.reg ∉ logRegs ∧ g.reg ∉ rs) :=
  ⟨.resetHoldExpiry, State.reset, State.reset, [], F.LC_STATE_state, rfl, rfl, rfl, by decide⟩

theorem test_field_writes_met :
    (∃ (s : State) (f g : Fld) (l m : Loc), s.regsOk = true ∧ f.lo < 32 ∧ g.lo < 32 ∧
      ¬(g.reg = f.reg ∧ g.lo = f.lo ∧ m = l)) :=
  ⟨base, F.LC_STATE_state, F.LC_STATE_state, pkgL, dieL 1, by decide⟩

theorem test_event_sets_its_bit_met :
    (∃ (s : State) (f : Fld), s.regsOk = true ∧ f.lo < 32 ∧ f.reg ∉ logRegs ∧ 0 < f.width) :=
  ⟨base, F.LQ_EVENT_thr_refused, by decide⟩

theorem test_log_record_layout_met :
    (∃ s : State, s.rd F.RS_LOG_HEAD_head (dieL 0) = 255 ∧ s.regsOk = true) :=
  ⟨set base [(F.RS_LOG_HEAD_head, dieL 0, 255)], by decide⟩

theorem test_absent_die_block_met :
    (∃ (s : State) (addr : Fin 268435456) (d : Nat), d < 8 ∧ s.part.dies ≤ d ∧ (d + 1) * 2 ^ 24 ≤ addr.val ∧
      addr.val < (d + 2) * 2 ^ 24) ∧
    (∃ (s : State) (addr : Fin 268435456) (d : Nat), d < 8 ∧ s.part.dies ≤ d ∧ (d + 1) * 2 ^ 24 ≤ addr.val ∧
      addr.val < (d + 2) * 2 ^ 24) :=
  ⟨⟨base, 0x500_0000, 4, by decide⟩, ⟨base, 0x8FF_FFFF, 7, by decide⟩⟩

theorem test_pair_reads_met :
    (∃ (s : State) (r hi : Reg) (l : Loc), pairHigh r = some hi ∧ r ≠ .CNT_LO ∧ s.dark r l = false ∧
      s.dark hi l = false ∧ Tbl.get s.capture (rkey hi l) = none) :=
  ⟨base, .DM_Q_BASE_LO, .DM_Q_BASE_HI, unitL 0 2047, by decide⟩

theorem test_pair_writes_met :
    (∃ (s : State) (r hi : Reg) (l : Loc), pairHigh r = some hi ∧ r ≠ .CNT_LO ∧ s.dark r l = false ∧
      s.dark hi l = false ∧ (r.fields.any fun f => f.acc = .rw) = true ∧ (hi.fields.any fun f => f.acc = .rw) = true ∧
      s.unpowered r l = true) ∧
    (∃ (s : State) (r hi : Reg) (l : Loc), pairHigh r = some hi ∧ r ≠ .CNT_LO ∧ s.dark r l = false ∧
      s.dark hi l = false ∧ (r.fields.any fun f => f.acc = .rw) = true ∧ (hi.fields.any fun f => f.acc = .rw) = true ∧
      s.unpowered r l = false) :=
  ⟨⟨set base [(F.PD_DOM_STATE1_state_d16_d21 3, dieL 0, 0)], .DM_Q_BASE_LO, .DM_Q_BASE_HI, unitL 0 2047, by decide⟩,
    ⟨base, .DM_Q_BASE_LO, .DM_Q_BASE_HI, unitL 0 2047, by decide⟩⟩

theorem test_flush_now_met :
    (∃ (s : State) (src : Src) (d : Fin 8) (q : Fin 16), tenantOf src = none ∧ s.writable src d ∧
      s.holding (portNo d q) = true) ∧
    (∃ (s : State) (src : Src) (d : Fin 8) (q : Fin 16), s.denied src = false ∧ s.holding (portNo d q) = false) ∧
    (∃ (s : State) (p : Nat), s.holding p = true) :=
  ⟨⟨set base [(F.PT_STATUS_cellar, unitL 1 15, 1)], .fm 0, 1, 15, by decide⟩, ⟨base, .fm 0, 0, 0, by decide⟩,
    ⟨set base [(F.PT_STATUS_cellar, unitL 1 15, 1)], 31, by decide⟩⟩

theorem test_reset_cause_met :
    (∃ (s : State) (srcs : List ResetSrc) (x : ResetSrc), s.regsOk = true ∧ s.pkg.islandUp = true ∧ s.live ∧
      ([ResetSrc.thermtrip, .rail, .refclk, .pwrOk, .sysRst, .lifecycle, .command].find? fun y => srcs.contains y) =
      some x ∧ .rail ∈ srcs ∧ .refclk ∈ srcs) ∧
    (∃ srcs : List ResetSrc,
      ([ResetSrc.thermtrip, .rail, .refclk, .pwrOk, .sysRst, .lifecycle, .command].find? fun y => srcs.contains y) =
      some .thermtrip ∧ .thermtrip ∈ srcs) :=
  ⟨⟨base, [.sysRst, .refclk, .rail], .rail, by decide⟩, ⟨[.command, .thermtrip], by decide⟩⟩

theorem test_reset_exit_met :
    (∃ s : State, s.pkg.vaux = false ∨ s.pkg.thermtrip = true ∨ s.pkg.wait.rails = true ∨ s.pkg.wait.hold = true ∨
      s.pkg.lowRails ≠ [] ∨ (s.pkg.wait.pwrLow = true ∧ false = false)) ∧
    (∃ (s : State) (pwrLow : Bool), s.pkg.inReset = true ∧ s.pkg.islandUp = true ∧ s.pkg.vaux = true ∧
      s.pkg.thermtrip = false ∧ s.pkg.wait.rails = false ∧ s.pkg.wait.hold = false ∧ s.pkg.lowRails = [] ∧
      (s.pkg.wait.pwrLow = true → pwrLow = true)) :=
  ⟨⟨{ State.reset with pkg := { vaux := false } }, by decide⟩,
    ⟨{ State.reset with pkg := { wait := { pwrLow := true } } }, true, by decide⟩⟩

theorem test_fabric_time_correction_met :
    (∃ (s : State) (d t : Nat), s.part.peerDie d t = 0) ∧
    (∃ (s : State) (d t u : Nat), s.part.peerDie d t ≠ 0 ∧ s.part.peerDie d t ≠ d ∧
      s.part.peerDie (s.part.peerDie d t) u = 0) ∧
    (∃ (s : State) (d : Fin 8) (count delay : Nat) (path : CountPath), s.ready d ∧ d.val ≠ 0 ∧ s.clocks = true ∧
      s.regsOk = true ∧ s.countDelay d path.site (path.relay.map Fin.val) = some delay ∧ s.now d + 2 < count + delay) ∧
    (∃ (s : State) (d : Fin 8) (count delay : Nat) (path : CountPath), s.ready d ∧ d.val ≠ 0 ∧ s.clocks = true ∧
      s.regsOk = true ∧ s.countDelay d path.site (path.relay.map Fin.val) = some delay ∧ count + delay ≤ s.now d + 2) ∧
    (∃ (s : State) (d : Fin 8) (count delay : Nat) (path : CountPath), s.ready d ∧ d.val ≠ 0 ∧ s.clocks = true ∧
      s.regsOk = true ∧ s.countDelay d path.site (path.relay.map Fin.val) = some delay ∧ count + delay + 2 < s.now d) :=
  ⟨⟨base, 1, 0, by decide⟩, ⟨base, 1, 4, 2, by decide⟩, ⟨base, 1, 3, 0, ⟨0, none⟩, by decide⟩,
    ⟨base, 1, 2, 0, ⟨0, none⟩, by decide⟩, ⟨{ base with ftime := [(1, 3)] }, 1, 0, 0, ⟨0, none⟩, by decide⟩⟩

theorem test_counter_wraps_met :
    (∃ (s : State) (d : Fin 8) (k : Fin 512), s.ready d ∧ s.flag F.EVT_en (idxL d 0 k) = true ∧ s.domOn d 20 = true ∧
      s.cntVal d k = 2 ^ 48 - 1 ∧ s.regsOk = true ∧ s.flag F.EVT_int_en (idxL d 0 k) = false) ∧
    (∃ (s : State) (d : Fin 8) (k : Fin 512), s.ready d ∧ s.flag F.EVT_en (idxL d 0 k) = true ∧ s.domOn d 20 = true ∧
      s.cntVal d k = 2 ^ 48 - 1 ∧ s.regsOk = true ∧ s.flag F.EVT_int_en (idxL d 0 k) = true ∧
      s.flag F.OWN_owned (idxL d 0 k) = false) :=
  ⟨⟨{ (set base [(F.EVT_en, idxL 0 0 511, 1)]) with cnt := [(cntKey 0 511, 2 ^ 48 - 1)] }, 0, 511, by decide⟩,
    ⟨{ (set base [(F.EVT_en, idxL 0 0 0, 1), (F.EVT_int_en, idxL 0 0 0, 1)]) with cnt := [(cntKey 0 0, 2 ^ 48 - 1)] },
    0, 0, by decide⟩⟩

set_option maxRecDepth 4000 in
theorem test_command_queue_full_met :
    (∃ (s : State) (d : Fin 8) (c : Fin 6), s.flag F.MB_CHAN_c_present (idxL d 0 c) = true ∧ s.running d = true ∧
      s.regsOk = true ∧ 256 ≤ (s.chan d c).depth) ∧
    (∃ (s : State) (d : Fin 8) (c : Fin 6) (cmd : Cmd), s.flag F.MB_CHAN_c_present (idxL d 0 c) = true ∧
      s.running d = true ∧ s.regsOk = true ∧ (s.chan d c).depth = 255 ∧ cmd.origin ≠ .mailbox) :=
  ⟨⟨{ (set base [(F.MB_CHAN_c_present, idxL 0 0 0, 1), (F.MB_STATUS_running, dieL 0, 1)]) with chans :=
      [(key2 0 0, { queue := List.replicate 256 { opcode := 1 } })] }, 0, 0, by decide⟩,
      ⟨{ (set base [(F.MB_CHAN_c_present, idxL 0 0 0, 1), (F.MB_STATUS_running, dieL 0, 1)]) with chans :=
         [(key2 0 0, { queue := List.replicate 255 { opcode := 1 } })] }, 0, 0, { opcode := 1, origin := .mctp 0 0 },
         by decide⟩⟩

theorem test_sessions_open_and_close_met :
    (∃ (s : State) (src other : Src) (c e ms : Nat), s.regsOk = true ∧ Src.session src = some c ∧
      Src.session other = some e ∧ e ≠ c ∧ 0 < ms) :=
  ⟨base, .fm 3, .chain, 3, 4, 1, by decide⟩

theorem test_threshold_order_met :
    (∃ (s : State) (accept target degrade fail : Nat), s.regsOk = true ∧
      ¬(fail < degrade ∧ degrade < accept ∧ accept ≤ target)) ∧
    (∃ (s : State) (accept target degrade fail : Nat), s.regsOk = true ∧ target < 256 ∧ fail < degrade ∧
      degrade < accept ∧ accept ≤ target) ∧
    (∃ (s : State) (src : Src) (d : Fin 8), tenantOf src = none ∧ s.writable src d) ∧
    (∃ (s : State) (l : Loc), s.unpowered .LQ_BARO_THR_NRZ l = false ∧ s.unpowered .LQ_BARO_THR_PAM4 l = false) :=
  ⟨⟨base, 30, 29, 20, 10, by decide⟩, ⟨base, 255, 255, 20, 10, by decide⟩, ⟨base, .fm 0, 1, by decide⟩,
    ⟨set base [(F.PD_DOM_STATE0_state_d0_d15 0, dieL 0, 3)], unitL 0 3, by decide⟩⟩

theorem test_arbitration_commit_met :
    (∃ (s : State) (src : Src) (d : Fin 8), tenantOf src = none ∧ s.writable src d ∧ s.regsOk = true ∧
      s.rd (F.SC_ARB_PRIO_q_level 1) (idxL d 0 15) < s.rd (F.SC_ARB_PRIO_q_level 5) (idxL d 0 15) ∧ s.staged = []) ∧
    (∃ (s : State) (src : Src) (d : Fin 8), tenantOf src = none ∧ s.writable src d ∧ s.regsOk = true ∧
      s.arbOk d = true) :=
  ⟨⟨set base [(F.SC_ARB_PRIO_q_level 1, idxL 0 0 15, 0), (F.SC_ARB_PRIO_q_level 5, idxL 0 0 15, 3)], .fm 0, 0,
    by decide⟩, ⟨base, .fm 0, 0, by decide⟩⟩

theorem test_refused_table_writes_met :
    (∃ (s : State) (src : Src) (d : Fin 8) (table : Fin 4), tenantOf src = none ∧ s.writable src d ∧ s.regsOk = true ∧
      s.flag F.BD_TBL_CMD_busy (dieL d) = false ∧ table.val < 2) ∧
    (∃ (s : State) (src : Src) (d : Fin 8), tenantOf src = none ∧ s.writable src d ∧ s.regsOk = true ∧
      s.flag F.XB_GRP_CMD_busy (dieL d) = false ∧
      (let w := (upTo 8).map fun k => s.rd F.XB_GRP_DATAw_data (idxL d 0 k); grpValid w = true ∧ grpOk w = false)) ∧
    (∃ (s : State) (src : Src) (d : Fin 8), tenantOf src = none ∧ s.writable src d ∧ s.regsOk = true ∧
      s.flag F.MR_TBL_CMD_busy (dieL d) = false) ∧
    (∃ (s : State) (src : Src) (d : Fin 8) (index : Fin 1024), tenantOf src = none ∧ s.writable src d ∧
      s.regsOk = true ∧ s.flag F.SC_SHP_CMD_busy (dieL d) = false ∧ (s.shp d index).owned = true) :=
  ⟨⟨base, .fm 0, 0, 1, by decide⟩, ⟨set base [(F.XB_GRP_DATAw_data, idxL 0 0 0, 0xC000_0000)], .fm 0, 0, by decide⟩,
    ⟨base, .fm 0, 0, by decide⟩, ⟨{ base with shps := [(1023, { w2 := 2 ^ 31 })] }, .fm 0, 0, 1023, by decide⟩⟩

theorem test_queue_writes_met :
    (∃ (s : State) (src : Src) (d : Fin 8) (q : Fin 2048), tenantOf src = none ∧ s.writable src d ∧ s.regsOk = true ∧
      (s.qst d q = 2 ∨ s.qst d q = 4)) ∧
    (∃ (s : State) (src : Src) (d : Fin 8) (q : Fin 2048), tenantOf src = none ∧ s.writable src d ∧ s.regsOk = true ∧
      5 ≤ s.qst d q) ∧
    (∃ (s : State) (src : Src) (d : Fin 8) (i : Fin 512) (j : Fin 16), s.writable src d ∧ s.pageFor src d i = true ∧
      (s.inst d i).queues.length ≤ j.val) ∧
    (∃ (s : State) (src : Src) (d : Fin 8) (i : Fin 512) (j : Fin 16), s.writable src d ∧ s.pageFor src d i = true ∧
      tenantOf src = some 0 ∧ j.val < (s.inst d i).queues.length ∧ (s.inst d i).deaf = true) ∧
    (∃ (s : State) (src : Src) (d : Fin 8) (q : Fin 2048) (v : BitVec 32), tenantOf src = none ∧ s.writable src d ∧
      s.regsOk = true ∧ (s.rd F.DM_Q_CQ_TAIL_cq_tail (unitL d q) + 2 ^ 32 - s.rd F.DM_Q_CQ_HEAD_cq_head (unitL d q)) %
      2 ^ 32 < (v.toNat + 2 ^ 32 - s.rd F.DM_Q_CQ_HEAD_cq_head (unitL d q)) % 2 ^ 32) ∧
    (∃ (s : State) (src : Src) (d : Fin 8) (q : Fin 2048) (v : BitVec 32), tenantOf src = none ∧ s.writable src d ∧
      s.regsOk = true ∧ (v.toNat + 2 ^ 32 - s.rd F.DM_Q_CQ_HEAD_cq_head (unitL d q)) % 2 ^ 32 ≤
      (s.rd F.DM_Q_CQ_TAIL_cq_tail (unitL d q) + 2 ^ 32 - s.rd F.DM_Q_CQ_HEAD_cq_head (unitL d q)) % 2 ^ 32) :=
  ⟨⟨set base [(F.DM_Q_STATUS_state, unitL 0 0, 2)], .fm 0, 0, 0, by decide⟩,
    ⟨set base [(F.DM_Q_STATUS_state, unitL 0 2047, 6)], .fm 0, 0, 2047, by decide⟩,
    ⟨{ base with insts := [(key2 0 0, { state := 2, queues := [7] })] }, .fm 0, 0, 0, 1, by decide⟩,
    ⟨{ base with insts := [(key2 0 0, { state := 4, queues := [7] })], pantryFn := [0] }, .tenant 0, 0, 0, 0,
    by decide⟩, ⟨set base [(F.DM_Q_CQ_TAIL_cq_tail, unitL 0 0, 4)], .fm 0, 0, 0, 5, by decide⟩,
    ⟨set base [(F.DM_Q_CQ_TAIL_cq_tail, unitL 0 0, 4)], .fm 0, 0, 0, 4, by decide⟩⟩

theorem test_frost_arms_met :
    (∃ (s : State) (src : Src), tenantOf src = none ∧ s.writable src 0 ∧ s.domOn 0 20 = true ∧ s.regsOk = true ∧
      s.now 0 + 4096 ≤ s.frostTarget 0) ∧
    (∃ (s : State) (src : Src) (d : Fin 8), d.val ≠ 0 ∧ tenantOf src = none ∧ s.writable src d ∧ s.domOn d 20 = true ∧
      s.regsOk = true ∧ s.now d + 4096 ≤ s.frostTarget d) ∧
    (∃ (s : State) (src : Src) (d : Fin 8), tenantOf src = none ∧ s.writable src d ∧ s.domOn d 20 = true ∧
      s.regsOk = true ∧ s.frostTarget d < s.now d + 4096) ∧
    (∃ (s : State) (d : Fin 8), s.ready d ∧ d.val ≠ 0 ∧ s.domOn d 20 = true ∧ s.domOn 0 20 = true ∧ s.regsOk = true) :=
  ⟨⟨set base [(F.PM_FROST_AT_LO_target, dieL 0, 4096)], .fm 0, by decide⟩,
    ⟨set base [(F.PM_FROST_AT_LO_target, dieL 1, 4096)], .fm 0, 1, by decide⟩,
    ⟨set base [(F.PM_FROST_AT_LO_target, dieL 0, 4095)], .fm 0, 0, by decide⟩, ⟨base, 1, by decide⟩⟩

theorem test_chain_break_and_forward_met :
    (∃ (s : State) (b : List Nat) (r : List (List Nat)), s.pkg.islandUp = true ∧ s.regsOk = true ∧
      s.island.fwd = b :: r) ∧
    (∃ (s : State) (b : List Nat) (r : List (List Nat)), s.pkg.islandUp = true ∧ s.island.fwd = [] ∧
      s.island.own = b :: r) :=
  ⟨⟨{ base with island := { fwd := [[1]], own := [[2]] } }, [1], [], by decide⟩,
    ⟨{ base with island := { own := [[2]] } }, [2], [], by decide⟩⟩

theorem test_pgood_loss_does_not_trip_met :
    (∃ (s : State) (d : Fin 8) (q : Fin 16), s.ready d ∧ s.isSlot (portNo d q) = true ∧ s.slotState (portNo d q) = 5 ∧
      s.flag F.SP_STATUS_pgood (portL (portNo d q)) = true ∧ s.regsOk = true) :=
  ⟨set base [(F.PT_CTRL_role, unitL 0 0, 1), (F.SP_STATUS_state, unitL 0 0, 5), (F.SP_STATUS_pgood, unitL 0 0, 1)], 0,
    0, by decide⟩

end Sys2Proof.Tests
end

/-! PROOFS of the statements of chapter 0: every step goes on and keeps the queue and the register file, absent dies and discarded
writes, fields, and 64-bit pairs. -/

namespace Sys2Proof.Machine

/-! ## What a step answers -/

theorem step_of_pending_nil {s : State} (h : s.pending = []) : step s = .next s.tick := by
  unfold step
  rw [h]

theorem step_of_pending_cons {s : State} {c : Instr} {r : List Instr} (h : s.pending = c :: r) :
    step s = exec c { s with pending := r } := by
  unfold step
  rw [h]

theorem State.tick_leads (s : State) : s.Leads s.tick := .of (State.tick_core s) (State.tick_ok s)

/-- The state at which the front command is carried out: the rest of the queue waits. -/
def State.popped (s : State) : State := { s with pending := s.pending.tail }

theorem State.popped_of_pending_nil {s : State} (h : s.pending = []) : s.popped = s := by
  cases s
  cases h
  rfl

/-- Every step answers a next state, which follows the state whose front command has been taken off. -/
theorem step_goes (s : State) : ∃ t, step s = .next t ∧ s.popped.Leads t := by
  cases h : s.pending with
  | nil => exact ⟨s.tick, step_of_pending_nil h, (State.popped_of_pending_nil h).symm ▸ s.tick_leads⟩
  | cons c r =>
    have hp : s.popped = { s with pending := r } := by rw [State.popped, h, List.tail_cons]
    rw [step_of_pending_cons h, ← hp]
    exact exec_goes c s.popped

/-- Taking the front command off leaves a queue of well-formed commands. -/
theorem State.queueOk_popped {s : State} (h : s.queueOk = true) : s.popped.queueOk = true := by
  unfold State.queueOk at h ⊢
  rw [List.all_eq_true] at h ⊢
  exact fun c hc => h c (List.mem_of_mem_tail hc)

/-- A state that follows has the same queue for the same part. -/
theorem State.Follows.queueOk {s t : State} (h : s.Follows t) : t.queueOk = s.queueOk := by
  obtain ⟨hpart, hpending, -⟩ := h
  rw [State.queueOk, State.queueOk, hpart, hpending]

/-- Settles O34: a step answers a state that follows the rest of the queue. -/
theorem queueStaysWellFormed : Obligations.QueueStaysWellFormed := by
  intro s hq
  obtain ⟨t, ht, hfollows, -⟩ := step_goes s
  exact ⟨t, ht, hfollows.queueOk.trans (State.queueOk_popped hq)⟩

/-- Settles O35, by induction on the number of steps. -/
theorem neverStops : Obligations.NeverStops := by
  intro s n
  induction n generalizing s with
  | zero => trivial
  | succ n ih =>
    obtain ⟨t, ht, -⟩ := step_goes s
    exact ⟨t, ht, ih t⟩

/-- Settles O37: the queue is no part of the register file, and a state that follows keeps the canonical form. -/
theorem registerFileStaysCanonical : Obligations.RegisterFileStaysCanonical := by
  intro s t hok hstep
  obtain ⟨u, hu, -, hkeeps⟩ := step_goes s
  obtain rfl : u = t := Host.Outcome.next.inj (hu.symm.trans hstep)
  exact hkeeps hok

/-! ## What a command answers -/

/-- Settles O31: it is the second half of what a command of a die answers. -/
theorem absentDieDoesNothing : Obligations.AbsentDieDoesNothing := by
  intro c s d hdie habsent
  have hsays := exec_says c s
  rw [hdie] at hsays
  exact hsays.2 habsent

/-- Settles O32: what every command answers goes on. -/
theorem commandsComplete : Obligations.CommandsComplete := by
  intro c s
  obtain ⟨t, ht, -⟩ := exec_goes c s
  exact ⟨t, ht⟩

/-- Settles O33: a next state of a command follows the state before. -/
theorem execKeepsPartAndQueue : Obligations.ExecKeepsPartAndQueue := by
  intro c s t h
  obtain ⟨⟨hpart, hpending, -⟩, -⟩ := exec_leads h
  exact ⟨hpart, hpending⟩

/-! ## Discarded writes -/

/-- `o` leaves `s` as it is where a write by `src` at die `d` is discarded, and where `src` is function 1 of an upstream port that does
not reach what is written (`reach`, R350). -/
def State.Shields (s : State) (src : Src) (d : Nat) (reach : Bool) (o : Outcome) : Prop :=
  (s.discards src d → o = .next s) ∧ ((tenantOf src).isSome = true → reach = false → o = .next s)

theorem onWrite_tenant {src : Src} (d : Nat) {s : State} (f : State → State) (h : (tenantOf src).isSome = true) :
    onWrite src d s f = .next s := if_pos h

theorem onWrite_shields {src : Src} {d : Nat} {s : State} {reach : Bool} (f : State → State) :
    s.Shields src d reach (onWrite src d s f) :=
  ⟨onWrite_discards f, fun ht _ => onWrite_tenant d f ht⟩

theorem onQueue_shields {src : Src} {d : Nat} {q : QTo} {db : Bool} {s : State} {reach : Bool} (f : Nat → State → State)
    (h : reach = paged s src d q) : s.Shields src d reach (onQueue src d q db s f) := by
  subst h
  refine ⟨onQueue_discards f, fun ht hreach => ?_⟩
  cases q with
  | reg q => exact onWrite_tenant d _ ht
  | page i j =>
    have hpage : s.pageFor src d i = false := hreach
    simp [onQueue, hpage, Option.isSome_iff_ne_none.mp ht]

theorem onPn_shields {src : Src} {d chan : Nat} {s : State} {reach : Bool} (f : State → State) (h : reach = ownChan src d chan) :
    s.Shields src d reach (onPn src d chan s f) :=
  ⟨onPn_discards f, fun _ hreach => by rw [onPn, ← h, hreach, if_neg Bool.false_ne_true]⟩

/-- A flush is a write with an effect of its own while the port is holding, one without an effect at other times. -/
theorem execFlushNow_shields (src : Src) (d : Fin 8) (q : Fin 16) (s : State) (reach : Bool) :
    s.Shields src d reach (execFlushNow src d q s) := by
  unfold execFlushNow
  split
  · exact onWrite_shields _
  · refine ⟨onVoid_discards, fun ht _ => ?_⟩
    have hdenied : s.denied src = false := by
      by_contra hd
      simp [tenantOf_denied (Bool.eq_true_of_not_eq_false hd)] at ht
    simp [onVoid, hdenied]

/-- Every write command goes through one of the guards of a register write: of a queue, of a Pantry channel, or of any other
register. (`exec` is opened at once, so that each case compares the guard with one meaning and not with the whole dispatch.) -/
theorem exec_shields {c : Instr} {s : State} {src : Src} {d : Nat} (h : c.write = some (src, d)) :
    s.Shields src d (forTenant s c) (exec c s) := by
  cases c <;> cases h
  all_goals delta exec
  case flushNow => exact execFlushNow_shields ..
  case dmDoorbell | dmQPause | dmQUnpause | dmQResume | dmQInvalidate | cqHeadWrite => exact onQueue_shields _ rfl
  case pnReadEntry | pnCreate | pnRemove | pnReset | pnSetQueue | pnSetShaper | pnSetCounter | pnFreeze | pnSave | pnRestore |
    pnThaw => exact onPn_shields _ rfl
  all_goals exact onWrite_shields _

theorem State.outerDone_of_not_takes {s : State} {src : Src} {a : Nat} (v : Nat) (h : s.takes src a = false) :
    s.outerDone src a v = s := by
  rw [State.outerDone, h, if_neg Bool.false_ne_true]

theorem exec_registerWrite_of_not_takes {s : State} {src : Src} {addr : Fin 268435456} (val : BitVec 32)
    (h : s.takes src (addr / 4 * 4) = false) : exec (.registerWrite src addr val) s = .next s :=
  congrArg Host.Outcome.next (State.outerDone_of_not_takes _ h)

theorem exec_pairHighWrite_of_not_takes {s : State} {src : Src} {addr : Fin 268435456} (val : BitVec 32)
    (h : s.takes src (addr / 4 * 4) = false) : exec (.pairHighWrite src addr val) s = .next s := by
  refine congrArg Host.Outcome.next ?_
  split
  · rw [State.outerDone_of_not_takes _ h, ite_self]
  · rfl

/-- Settles O39: a write command stops at its guard, a write of the register space at `takes`. -/
theorem discardedWrites : Obligations.DiscardedWrites :=
  ⟨fun _ _ _ _ hwrite => (exec_shields hwrite).1,
    fun _ _ _ _ hwrite => (exec_shields hwrite).2 rfl,
    fun _ _ _ val h => ⟨exec_registerWrite_of_not_takes val h, exec_pairHighWrite_of_not_takes val h⟩⟩

/-! ## Fields -/

/-- Settles O41, by the rules of a field write at the same and at another key. -/
theorem fieldWrites : Obligations.FieldWrites :=
  fun _ f l v hok hf => ⟨State.rd_wr_same f l v hok, rfl, fun _ _ hg hne => State.rd_wr_other v hok hf hg hne⟩

/-- A field for which nothing is listed reads its reset value. -/
theorem State.rd_of_regs_nil {s : State} (h : s.regs = []) (f : Fld) (l : Loc) : s.rd f l = s.rst f l := by
  rw [State.rd, h]
  rfl

/-- Settles O3: at reset the register file lists nothing. -/
theorem resetState : Obligations.ResetState :=
  ⟨rfl, rfl, rfl, rfl, rfl, State.rd_of_regs_nil rfl⟩

/-! ## Pairs -/

theorem mem_regPairs_of_pairHigh {r hi : Reg} (h : pairHigh r = some hi) : (r, hi) ∈ regPairs := by
  obtain ⟨⟨lo, _⟩, hfind, rfl⟩ := Option.map_eq_some_iff.mp h
  obtain rfl : lo = r := by simpa using List.find?_some hfind
  exact List.mem_of_find?_eq_some hfind

/-- The high word of a pair is the low word of none. -/
theorem pairHigh_high {r hi : Reg} (h : pairHigh r = some hi) : pairHigh hi = none :=
  (by decide : ∀ x ∈ regPairs, pairHigh x.2 = none) _ (mem_regPairs_of_pairHigh h)

theorem pairLow_high {r hi : Reg} (h : pairHigh r = some hi) : pairLow hi = some r :=
  (by decide : ∀ x ∈ regPairs, pairLow x.2 = some x.1) _ (mem_regPairs_of_pairHigh h)

/-- The high word of a pair, but for the counter values, is none of the registers whose reads have rules of their own. -/
theorem high_ne_of_pairHigh {r hi : Reg} (h : pairHigh r = some hi) (hr : r ≠ .CNT_LO) :
    hi ≠ .CNT_LO ∧ hi ≠ .CNT_HI ∧ hi ≠ .MB_DR_DATA_s :=
  (by decide : ∀ x ∈ regPairs, x.1 ≠ .CNT_LO → x.2 ≠ .CNT_LO ∧ x.2 ≠ .CNT_HI ∧ x.2 ≠ .MB_DR_DATA_s) _
    (mem_regPairs_of_pairHigh h) hr

/-- Nor is its low word. -/
theorem low_ne_of_pairHigh {r hi : Reg} (h : pairHigh r = some hi) : r ≠ .CNT_HI ∧ r ≠ .MB_DR_DATA_s :=
  (by decide : ∀ x ∈ regPairs, x.1 ≠ .CNT_HI ∧ x.1 ≠ .MB_DR_DATA_s) _ (mem_regPairs_of_pairHigh h)

/-- A read of the low word of a pair (R9). -/
theorem State.readAt_low {s : State} {r hi : Reg} {l : Loc} (h : pairHigh r = some hi) (hr : r ≠ .CNT_LO)
    (hd : s.dark r l = false) : s.readAt r l = s.pairRead r hi l := by
  obtain ⟨hcnt, hdr⟩ := low_ne_of_pairHigh h
  simp [State.readAt, hd, h]

/-- A read of the high word of a pair (R9). -/
theorem State.readAt_high {s : State} {r hi : Reg} {l : Loc} (h : pairHigh r = some hi) (hr : r ≠ .CNT_LO)
    (hd : s.dark hi l = false) : s.readAt hi l = ((Tbl.get s.capture (rkey hi l)).getD (s.rstWord hi l), s) := by
  obtain ⟨hlo, hcnt, hdr⟩ := high_ne_of_pairHigh h hr
  simp [State.readAt, hd, pairHigh_high h, pairLow_high h]

/-- Settles O45: the read of the low word lists the high word among the captured ones. -/
theorem pairReads : Obligations.PairReads := by
  intro s r hi l h hr hdlo hdhi t
  have ht : t = { s with capture := Tbl.put s.capture (rkey hi l) (s.shown hi l) } :=
    congrArg Prod.snd (State.readAt_low h hr hdlo)
  have hcaptured : Tbl.get t.capture (rkey hi l) = some (s.shown hi l) := by rw [ht, Tbl.get_put_same]
  have hdark : t.dark hi l = false := ht ▸ hdhi
  refine ⟨congrArg Prod.fst (State.readAt_low h hr hdlo), ?_, fun hnone => ?_⟩
  · rw [State.readAt_high h hr hdark, hcaptured, Option.getD_some]
  · rw [State.readAt_high h hr hdhi, hnone, Option.getD_none]

/-- A write to the low word of a writable pair (R8). -/
theorem State.writeAt_low {s : State} {r hi : Reg} {l : Loc} (src : Src) (v : Nat) (h : pairHigh r = some hi)
    (hd : s.dark r l = false) (hrw : (r.fields.any fun f => f.acc = .rw) = true) : s.writeAt src r l v = s.holdLow r l v := by
  simp [State.writeAt, hd, h, hrw]

/-- A write to the high word of a writable pair (R8). -/
theorem State.writeAt_high {s : State} {r hi : Reg} {l : Loc} (src : Src) (v : Nat) (h : pairHigh r = some hi) (hr : r ≠ .CNT_LO)
    (hd : s.dark hi l = false) (hrw : (hi.fields.any fun f => f.acc = .rw) = true) :
    s.writeAt src hi l v = s.commitPair src r hi l v := by
  obtain ⟨-, hcnt, -⟩ := high_ne_of_pairHigh h hr
  simp [State.writeAt, hd, pairHigh_high h, pairLow_high h, hrw, hcnt]

theorem State.holdLow_unpowered {s : State} {r : Reg} {l : Loc} (v : Nat) (h : s.unpowered r l = true) : s.holdLow r l v = s :=
  if_pos h

theorem State.holdLow_powered {s : State} {r : Reg} {l : Loc} (v : Nat) (h : s.unpowered r l = false) :
    s.holdLow r l v = { s with held := Tbl.put s.held (rkey r l) v } :=
  if_neg (ne_true_of_eq_false h)

/-- Settles O46: the word held is listed for the pair, and whether a place shows something does not depend on it. -/
theorem pairWrites : Obligations.PairWrites := by
  intro s src r hi l v w h hr hdlo hdhi hlo hhi
  rw [State.writeAt_low src v h hdlo hlo]
  refine ⟨State.holdLow_unpowered v, fun hpower => ?_⟩
  rw [State.holdLow_powered v hpower]
  refine ⟨rfl, ?_, State.writeAt_high src w h hr hdhi hhi⟩
  simp [State.heldLow]

/-! ## Absent dies -/

/-- The block of die `d` (Table 1.14). -/
theorem addrDie_of_block {a d : Nat} (hd : d < 8) (hlo : (d + 1) * 2 ^ 24 ≤ a) (hhi : a < (d + 2) * 2 ^ 24) : addrDie a = some d := by
  unfold addrDie
  rw [if_pos (by omega)]
  congr 1
  omega

/-- The part lacks the block of an absent die (R10). -/
theorem State.present_of_absent {s : State} {a d : Nat} (hd : d < 8) (habsent : s.part.dies ≤ d) (hlo : (d + 1) * 2 ^ 24 ≤ a)
    (hhi : a < (d + 2) * 2 ^ 24) : s.present a = false := by
  have hblock : ¬ a < 0x100_0000 := by omega
  have hhere : s.dieHere d = false := by simp [State.dieHere, Nat.not_lt.mpr habsent]
  simp [State.present, hblock, addrDie_of_block hd hlo hhi, hhere]

theorem State.outerRead_of_not_present {s : State} {a : Nat} (h : s.present a = false) : s.outerRead a = (allOnes, s) := by
  simp [State.outerRead, State.readReg, h]

theorem State.takes_of_not_present {s : State} {a : Nat} (src : Src) (h : s.present a = false) : s.takes src a = false := by
  simp [State.takes, h]

theorem exec_pairLowRead_of_not_present {s : State} {addr : Fin 268435456} (h : s.present (addr / 4 * 4) = false) :
    exec (.pairLowRead addr) s = .next s := by
  refine congrArg Host.Outcome.next ?_
  rw [State.outerRead_of_not_present h]
  split
  · rfl
  · split
    · exact ite_self _
    · rfl

/-- Settles O44: the word that holds an address of the block lies in the block. -/
theorem absentDieBlock : Obligations.AbsentDieBlock := by
  intro s src addr val d hd habsent hlo hhi
  have hpresent : s.present (addr / 4 * 4) = false := State.present_of_absent hd habsent (by omega) (by omega)
  have htakes := State.takes_of_not_present src hpresent
  exact ⟨State.outerRead_of_not_present hpresent, exec_registerWrite_of_not_takes val htakes,
    exec_pairHighWrite_of_not_takes val htakes, exec_pairLowRead_of_not_present hpresent⟩

end Sys2Proof.Machine

/-! PROOFS of the statements of chapter 1: what an empty queue answers, the commands of fabric time, temperature and power domains,
the correction of fabric time, and the frame of the commands of small effect. -/

namespace Sys2Proof.Machine

/-! ## A core cycle -/

theorem State.tick_stopped {s : State} (h : s.clocks = false) : s.tick = s := by
  simp [State.tick, h]

theorem State.tick_running {s : State} (h : s.clocks = true) :
    s.tick = (((s.forEach s.dies State.countCycle).forEach s.dies State.genCycle).forEach s.dies State.checkCycle).forEach s.dies
      State.timeStep :=
  if_pos h

/-- Settles O2: the queue decides what a step is, the clocks what a core cycle is. -/
theorem emptyQueueTicks : Obligations.EmptyQueueTicks :=
  fun _ h => ⟨step_of_pending_nil h, State.tick_stopped, State.tick_running⟩

/-! ## Fabric time, temperature and power domains -/

/-- With the clocks running a count from a path of known delay corrects any die but the master (R37, R38). -/
theorem exec_masterCountReceive {s : State} {d : Fin 8} {path : CountPath} {delay : Nat} (count : Nat) (h : s.ready d)
    (hd : ¬(d.val = 0 ∨ !s.clocks)) (k : s.countDelay d path.site (path.relay.map Fin.val) = some delay) :
    exec (.masterCountReceive d count path) s = .next (s.correct d count delay) := by
  change execMasterCountReceive d count path s = _
  rw [execMasterCountReceive, onDie_eq _ h, if_neg hd, k]

/-- The time limit clears the bit of any die but the master (R39). -/
theorem exec_alignmentTimeout {s : State} {d : Fin 8} (h : s.ready d) (hd : ¬ d.val = 0) :
    exec (.alignmentTimeout d) s =
      .next { s.off (F.CK_FTIME_STATUS_aligned_mask d) pkgL with aligning := s.aligning.filter (· != d.val) } := by
  change execAlignmentTimeout d s = _
  rw [execAlignmentTimeout, onDie_eq _ h, if_neg hd]

/-- Settles O7: each command goes through the guard of an event of a die, of an event of the package, or of a register write, and
then does what its condition selects. -/
theorem fabricTimePowerComplete : Obligations.FabricTimePowerComplete := by
  refine ⟨?masterCountSend, ?masterCountReceive, ?alignmentTimeout, ?thermalSample, ?powerMonitorUpdate, ?domReqWrite,
    ?p1ReqWrite, ?domainPowered, ?lullEntry, ?lullWake, ?lullExitDone⟩
  case masterCountSend =>
    intro s h hc
    change execMasterCountSend s = _
    simp [execMasterCountSend, onPkg_eq _ h, hc]
  case masterCountReceive => exact fun s d count path delay h hd k => exec_masterCountReceive count h hd k
  case alignmentTimeout => exact fun s d h hd => exec_alignmentTimeout h hd
  case thermalSample =>
    intro s d temps h ht
    change execThermalSample d temps s = _
    rw [execThermalSample, onDie_eq _ h, if_pos ht]
  case powerMonitorUpdate =>
    intro s dies pkg h
    change execPowerMonitorUpdate dies pkg s = _
    rw [execPowerMonitorUpdate, onPkg_eq _ h]
  case domReqWrite => exact fun s src d v hs h => onWrite_eq _ hs h
  case p1ReqWrite => exact fun s src on hs h => onWrite_eq _ hs h
  case domainPowered =>
    intro s d k h
    change execDomainPowered d k s = _
    rw [execDomainPowered, runOn_eq _ h]
  case lullEntry =>
    intro s d k h hl
    change execLullEntry d k s = _
    rw [execLullEntry, onDie_eq _ h, if_pos hl]
  case lullWake =>
    intro s d k h
    change execLullWake d k s = _
    rw [execLullWake, onDie_eq _ h]
  case lullExitDone =>
    intro s d k h hl
    change execLullExitDone d k s = _
    rw [execLullExitDone, onDie_eq _ h, if_pos hl]

/-! ## The correction of fabric time -/

/-- A saturating count reads as it stands, one less than a power of two at most. -/
theorem State.rd_inc_same {s : State} (f : Fld) (l : Loc) (h : s.regsOk = true) :
    (s.inc f l).rd f l = min (s.rd f l + 1) (2 ^ f.width - 1) := by
  refine (State.rd_wr_same f l _ h).trans (Nat.mod_eq_of_lt ?_)
  have := Nat.two_pow_pos f.width
  omega

theorem State.rd_aligned (s : State) (d : Nat) (f : Fld) (l : Loc) :
    (s.aligned d).rd f l = (s.on (F.CK_FTIME_STATUS_aligned_mask d) pkgL).rd f l := rfl

theorem State.rd_aligned_same {s : State} (d : Nat) (h : s.regsOk = true) :
    (s.aligned d).rd (F.CK_FTIME_STATUS_aligned_mask d) pkgL = 1 := by
  rw [State.rd_aligned, State.on, State.rd_wr_same _ _ _ h]
  simp [Fld.width, F.CK_FTIME_STATUS_aligned_mask]

/-- The bits of the dies and the count of jumps are different fields of one register. -/
theorem step_count_ne_aligned_mask {d : Nat} (hd : d < 8) :
    ¬(F.CK_FTIME_STATUS_step_count.reg = (F.CK_FTIME_STATUS_aligned_mask d).reg ∧
      F.CK_FTIME_STATUS_step_count.lo = (F.CK_FTIME_STATUS_aligned_mask d).lo ∧ pkgL = pkgL) := by
  rintro ⟨-, hlo, -⟩
  simp only [F.CK_FTIME_STATUS_step_count, F.CK_FTIME_STATUS_aligned_mask] at hlo
  omega

theorem aligned_mask_lo_lt {d : Nat} (hd : d < 8) : (F.CK_FTIME_STATUS_aligned_mask d).lo < 32 := by
  simp only [F.CK_FTIME_STATUS_aligned_mask]
  omega

/-- A jump sets the bit of its die and is counted. -/
theorem State.rd_inc_aligned {s : State} {d : Nat} (hd : d < 8) (h : s.regsOk = true) :
    ((s.aligned d).inc F.CK_FTIME_STATUS_step_count pkgL).rd (F.CK_FTIME_STATUS_aligned_mask d) pkgL = 1 ∧
      ((s.aligned d).inc F.CK_FTIME_STATUS_step_count pkgL).rd F.CK_FTIME_STATUS_step_count pkgL =
        min (s.rd F.CK_FTIME_STATUS_step_count pkgL + 1) (2 ^ F.CK_FTIME_STATUS_step_count.width - 1) := by
  have hlo := aligned_mask_lo_lt hd
  have hne := step_count_ne_aligned_mask hd
  have haligned := State.aligned_ok s d h
  constructor
  · refine (State.rd_wr_other _ haligned (by decide) hlo fun e => hne ⟨e.1.symm, e.2.1.symm, rfl⟩).trans ?_
    exact State.rd_aligned_same d h
  · rw [State.rd_inc_same _ _ haligned, State.rd_aligned, State.on, State.rd_wr_other 1 h hlo (by decide) hne]

/-- What is written beside the default is read, in whatever form the table is. -/
theorem Tbl.getD_set_of_ne {α : Type} [DecidableEq α] (t : Tbl α) (k : Nat) {v x : α} (h : v ≠ x) :
    Tbl.getD (Tbl.set t k v x) k x = v := by
  rw [Tbl.set, if_neg h, Tbl.getD, Tbl.get_put_same, Option.getD_some]

/-- A die behind by more than 2 cycles is at the master's value, with its bit set and the jump counted. -/
theorem State.correct_behind {s : State} {d count path : Nat} (hd : d < 8) (hok : s.regsOk = true)
    (h : s.now d + 2 < count + path) :
    (s.correct d count path).rd (F.CK_FTIME_STATUS_aligned_mask d) pkgL = 1 ∧ (s.correct d count path).now d = count + path ∧
      (s.correct d count path).rd F.CK_FTIME_STATUS_step_count pkgL =
        min (s.rd F.CK_FTIME_STATUS_step_count pkgL + 1) (2 ^ F.CK_FTIME_STATUS_step_count.width - 1) := by
  unfold State.correct
  rw [if_pos h]
  obtain ⟨hmask, hcount⟩ := State.rd_inc_aligned
    (s := { s with ftime := Tbl.set s.ftime d (count + path) 0, ftAdj := Tbl.set s.ftAdj d 0 0 }) hd hok
  exact ⟨hmask, Tbl.getD_set_of_ne s.ftime d (by omega), hcount⟩

/-- Any other die keeps its value and corrects itself by the difference, with its bit set within 1 cycle. -/
theorem State.correct_near {s : State} {d count path : Nat} (hok : s.regsOk = true) (h : count + path ≤ s.now d + 2) :
    (s.correct d count path).rd (F.CK_FTIME_STATUS_aligned_mask d) pkgL =
        (if count + path ≤ s.now d + 1 ∧ s.now d ≤ count + path + 1 then 1 else 0) ∧
      (s.correct d count path).ftime = s.ftime ∧
      (s.correct d count path).ftAdj = Tbl.set s.ftAdj d ((s.now d : Int) - (count + path : Nat)) 0 := by
  unfold State.correct
  rw [if_neg (Nat.not_lt.mpr h)]
  split
  · exact ⟨State.rd_aligned_same d hok, rfl, rfl⟩
  · refine ⟨?_, rfl, rfl⟩
    exact (State.rd_wr_same (s := { s with ftAdj := _ }) _ _ _ hok).trans (Nat.zero_mod _)

/-- Settles O50: a count finds the die behind by more than 2 cycles, or not. -/
theorem fabricTimeCorrection : Obligations.FabricTimeCorrection := by
  refine ⟨?direct, ?relayed, ?receive, ?timeout⟩
  case direct =>
    intro s d t h
    simp [State.countDelay, h]
  case relayed =>
    intro s d t u h0 hd hu
    simp [State.countDelay, h0, hd, hu]
  case receive =>
    intro s d count delay path h hd hc hok hp
    refine ⟨_, exec_masterCountReceive count h (by simp [hd, hc]) hp, ?_⟩
    by_cases hb : s.now d + 2 < count + delay
    · obtain ⟨hmask, htime, hcount⟩ := State.correct_behind d.isLt hok hb
      exact ⟨by rw [hmask, if_pos (.inl hb)], fun _ => ⟨htime, hcount⟩, fun hle => absurd hb (Nat.not_lt.mpr hle)⟩
    · obtain ⟨hmask, htime, hadj⟩ := State.correct_near hok (Nat.not_lt.mp hb)
      exact ⟨by rw [hmask]; simp only [hb, false_or], fun hlt => absurd hlt hb, fun _ => ⟨htime, hadj⟩⟩
  case timeout =>
    intro s d h hd hok
    exact ⟨_, exec_alignmentTimeout h hd, (State.rd_wr_same _ _ 0 hok).trans (Nat.zero_mod _)⟩

/-! ## Frames -/

/-- `t` shows every field as `s` shows it, but for those of the registers `rs` and of those in which log records show; its register
file is canonical. -/
def State.ShowsBut (s t : State) (rs : List Reg) : Prop :=
  t.regsOk = true ∧ ∀ (g : Fld) (m : Loc), g.lo < 32 → g.reg ∉ logRegs → g.reg ∉ rs → t.rd g m = s.rd g m

section
variable {s t u : State} {rs : List Reg}

theorem State.ShowsBut.same (h : s.regsOk = true) : s.ShowsBut s rs := ⟨h, fun _ _ _ _ _ => rfl⟩

theorem State.ShowsBut.trans (h : s.ShowsBut t rs) (k : t.ShowsBut u rs) : s.ShowsBut u rs :=
  ⟨k.1, fun g m hg hn hx => (k.2 g m hg hn hx).trans (h.2 g m hg hn hx)⟩

theorem State.Shows.showsBut (h : s.Shows t) : s.ShowsBut t rs := ⟨h.1, fun g m hg hn _ => h.2 g m hg hn⟩

/-- The register file and the part decide what is shown. -/
theorem State.ShowsBut.regs (h : s.ShowsBut t rs) (hp : u.part = t.part) (hr : u.regs = t.regs) : s.ShowsBut u rs :=
  h.trans (State.Shows.regs (.same h.1) hp hr).showsBut

theorem State.ShowsBut.ite {c : Prop} [Decidable c] (ht : s.ShowsBut t rs) (hu : s.ShowsBut u rs) :
    s.ShowsBut (if c then t else u) rs := by
  split
  · exact ht
  · exact hu

theorem State.ShowsBut.forEach {α : Type} (xs : List α) (f : State → α → State) (h : s.ShowsBut t rs)
    (hf : ∀ v, ∀ a ∈ xs, s.ShowsBut v rs → s.ShowsBut (f v a) rs) : s.ShowsBut (t.forEach xs f) rs := by
  unfold State.forEach
  induction xs generalizing t with
  | nil => exact h
  | cons a r ih => exact ih (hf t a List.mem_cons_self h) fun v b hb => hf v b (List.mem_cons_of_mem a hb)

theorem State.ShowsBut.wr (h : s.ShowsBut t rs) (f : Fld) (l : Loc) (v : Nat) (hf : f.lo < 32) (hr : f.reg ∈ rs) :
    s.ShowsBut (t.wr f l v) rs :=
  h.trans ⟨State.wr_ok _ _ _ _ h.1, fun _ _ hg _ hx => State.rd_wr_reg v h.1 hf hg fun e => hx (e ▸ hr)⟩

theorem State.ShowsBut.inc (h : s.ShowsBut t rs) (f : Fld) (l : Loc) (hf : f.lo < 32) (hr : f.reg ∈ rs) :
    s.ShowsBut (t.inc f l) rs := h.wr f l _ hf hr

theorem State.ShowsBut.emit (h : s.ShowsBut t rs) (o : Out) : s.ShowsBut (t.emit o) rs := h.regs rfl rfl

/-- An event shows in its own register and in those of the log. -/
theorem State.ShowsBut.ev (h : s.ShowsBut t rs) (f : Fld) (l : Loc) (unit : Nat) (hf : f.lo < 32) (hr : f.reg ∈ rs) :
    s.ShowsBut (t.ev f l unit) rs := by
  have hon : s.ShowsBut (t.on f l) rs := h.wr f l 1 hf hr
  exact hon.trans (State.Shows.log (.same hon.1) _ _ _ _ _ _).showsBut

end

/-! ## What the operations of the commands show -/

section
variable {s t : State} {rs : List Reg}

theorem mem_upTo {n k : Nat} : k ∈ upTo n ↔ k < n := List.mem_range

theorem State.sendCount_shows (h : s.ShowsBut t rs) (d : Nat) : s.ShowsBut (t.sendCount d) rs := by
  unfold State.sendCount
  split
  · exact h.emit _
  · exact h

theorem State.wr_aligned_mask_shows {d : Nat} (h : s.ShowsBut t [.CK_FTIME_STATUS]) (hd : d < 8) (v : Nat) :
    s.ShowsBut (t.wr (F.CK_FTIME_STATUS_aligned_mask d) pkgL v) [.CK_FTIME_STATUS] :=
  h.wr _ _ _ (aligned_mask_lo_lt hd) (by simp [F.CK_FTIME_STATUS_aligned_mask])

theorem State.aligned_shows {d : Nat} (h : s.ShowsBut t [.CK_FTIME_STATUS]) (hd : d < 8) :
    s.ShowsBut (t.aligned d) [.CK_FTIME_STATUS] := (State.wr_aligned_mask_shows h hd 1).regs rfl rfl

/-- A correction shows in CK_FTIME_STATUS (R38). -/
theorem State.correct_shows {d : Nat} (hd : d < 8) (count path : Nat) (h : s.regsOk = true) :
    s.ShowsBut (s.correct d count path) [.CK_FTIME_STATUS] := by
  have hsame : s.ShowsBut s [.CK_FTIME_STATUS] := .same h
  unfold State.correct
  refine .ite (.inc (State.aligned_shows (hsame.regs rfl rfl) hd) _ _ (by decide) (by decide))
    (.ite (State.aligned_shows (hsame.regs rfl rfl) hd) ?_)
  exact (State.wr_aligned_mask_shows hsame hd 0).regs rfl rfl

/-- The partner's request changes the transmitter registers of its lane (R103). -/
theorem State.coefRequest_shows (d q l : Nat) (ask : TxAsk) (h : s.regsOk = true) :
    s.ShowsBut (s.coefRequest d q l ask) [.LQ_TX_n] := by
  unfold State.coefRequest
  extract_lets x t
  have ht : s.ShowsBut t [.LQ_TX_n] := by
    cases ask with
    | preset k => exact .wr (.same h) _ _ _ (by decide) (by decide)
    | cursors => exact .same h
  split
  · exact .emit (.wr (.wr (ht.wr _ _ _ (by decide) (by decide)) _ _ _ (by decide) (by decide)) _ _ _ (by decide) (by decide)) _
  · exact ht.emit _

/-- A step of margining shows in LQ_MARGIN_STATUS (R108). -/
theorem State.marginStep_shows (d q l errors : Nat) (h : s.regsOk = true) :
    s.ShowsBut (s.marginStep d q l errors) [.LQ_MARGIN_STATUS] := by
  unfold State.marginStep
  split
  · exact .same h
  · extract_lets u total hit reached fin t1 t2 t3
    have h1 : s.ShowsBut t1 [.LQ_MARGIN_STATUS] := (State.ShowsBut.same h).regs rfl rfl
    have h2 : s.ShowsBut t2 [.LQ_MARGIN_STATUS] :=
      (h1.wr _ _ _ (by decide) (by decide)).wr _ _ _ (by decide) (by decide)
    have h3 : s.ShowsBut t3 [.LQ_MARGIN_STATUS] := .ite (h2.wr _ _ _ (by decide) (by decide)) h2
    exact h3.wr _ _ _ (by decide) (by decide)

/-! ### Casub sites -/

theorem State.updSite_shows (h : s.ShowsBut t rs) (d k : Nat) (f : SiteSt → SiteSt) : s.ShowsBut (t.updSite d k f) rs :=
  h.regs rfl rfl

theorem State.atActive_shows (d k : Nat) (f : State → State) (h : s.regsOk = true) (hf : s.ShowsBut (f s) rs) :
    s.ShowsBut (s.atActive d k f) rs := .ite hf (.same h)

theorem State.takeAck_shows (h : s.ShowsBut t rs) (d k ack : Nat) (hseq : .CL_SEQ ∈ rs) (hreplay : .CL_REPLAY ∈ rs) :
    s.ShowsBut (t.takeAck d k ack) rs :=
  .ite (.wr (.wr (State.updSite_shows h _ _ _) _ _ _ (by decide) hseq) _ _ _ (by decide) hreplay) h

theorem State.showAvail_shows (h : s.ShowsBut t rs) (d k : Nat) (hr : .CL_CREDIT_AVAIL_c ∈ rs) :
    s.ShowsBut (t.showAvail d k) rs := by
  refine .ite h (h.forEach _ _ fun v c _ hv => ?_)
  exact .wr (hv.wr _ _ _ (by decide) hr) _ _ _ (by decide) hr

theorem State.takeCredit_shows (h : s.ShowsBut t rs) (d k : Nat) (f : Flit) (hxoff : .CL_XOFF ∈ rs)
    (havail : .CL_CREDIT_AVAIL_c ∈ rs) : s.ShowsBut (t.takeCredit d k f) rs := by
  refine .ite (h.forEach _ _ fun v c hc hv => ?_) (State.showAvail_shows (State.updSite_shows h _ _ _) _ _ havail)
  have hlt := mem_upTo.mp hc
  exact hv.wr _ _ _ (by simp only [F.CL_XOFF_xoff_recv]; omega) hxoff

theorem State.newTxMap_shows (d k : Nat) (m : LaneMap) (h : s.regsOk = true) : s.ShowsBut (s.newTxMap d k m) rs := by
  unfold State.newTxMap
  split
  · exact .same h
  · exact .ite (.same h) (.emit (State.updSite_shows (State.updSite_shows (.same h) _ _ _) _ _ _) _)

theorem State.returnStreams_shows (d k : Nat) (h : s.regsOk = true) : s.ShowsBut (s.returnStreams d k) rs :=
  .forEach _ _ (State.updSite_shows (.same h) _ _ _) fun _ _ _ hv => hv.regs rfl rfl

/-! ### HDM decoders -/

theorem State.hdmAccess_shows (v n k : Nat) (acc : HdmAcc) (h : s.regsOk = true) : s.ShowsBut (s.hdmAccess v n k acc) rs := by
  have hsame : s.ShowsBut s rs := .same h
  unfold State.hdmAccess
  extract_lets d i x set e
  refine .ite hsame ?_
  split
  · refine .emit ?_ _
    split
    · exact hsame.regs rfl rfl
    · exact hsame
  · refine .emit ?_ _
    exact hsame.regs rfl rfl

theorem State.mend_shows (h : s.ShowsBut t rs) (d table i : Nat) : s.ShowsBut (t.mend d table i) rs := by
  unfold State.mend
  split
  · exact h
  · exact h.regs rfl rfl

theorem State.putDec_shows (h : s.ShowsBut t rs) (d i : Nat) (x : Dec) : s.ShowsBut (t.putDec d i x) rs :=
  (State.mend_shows h d 0 i).regs rfl rfl

theorem State.putHostDec_shows (h : s.ShowsBut t rs) (d i : Nat) (x : HostDec) : s.ShowsBut (t.putHostDec d i x) rs :=
  h.regs rfl rfl

theorem State.decoderCommit_shows (v n : Nat) (x : HostDec) (h : s.regsOk = true) : s.ShowsBut (s.decoderCommit v n x) rs := by
  have hsame : s.ShowsBut s rs := .same h
  unfold State.decoderCommit
  extract_lets d i ok c
  refine .ite hsame (.ite (hsame.emit _) ?_)
  cases ok with
  | some y => exact .emit (State.putHostDec_shows (State.putDec_shows hsame _ _ _) _ _ _) _
  | none => exact .emit (State.putHostDec_shows hsame _ _ _) _

theorem State.decoderClear_shows (v n : Nat) (h : s.regsOk = true) : s.ShowsBut (s.decoderClear v n) rs := by
  have hsame : s.ShowsBut s rs := .same h
  exact .ite hsame (.ite (hsame.emit _) (.emit (State.putHostDec_shows (State.putDec_shows hsame _ _ _) _ _ _) _))

/-! ### Channels, the Strongroom and the chain -/

theorem State.updChan_shows (h : s.ShowsBut t rs) (d c : Nat) (f : Chan → Chan) (hr : .MB_CHAN_c ∈ rs) :
    s.ShowsBut (t.updChan d c f) rs := by
  have hchans : s.ShowsBut { t with chans := Tbl.mod t.chans (key2 d c) {} f } rs := h.regs rfl rfl
  exact .wr (hchans.wr _ _ _ (by decide) hr) _ _ _ (by decide) hr

theorem State.closeSession_shows (h : s.ShowsBut t rs) (c : Nat) (hr : .SEC_SESSION_c ∈ rs) :
    s.ShowsBut (t.closeSession c) rs := by
  have hopen : s.ShowsBut (t.off F.SEC_SESSION_c_open (idxL 0 0 c)) rs := h.wr _ _ _ (by decide) hr
  exact (hopen.wr F.SEC_SESSION_c_remaining_ms (idxL 0 0 c) 0 (by decide) hr).regs rfl rfl

theorem State.updIsland_shows (h : s.ShowsBut t rs) (f : Island → Island) : s.ShowsBut (t.updIsland f) rs := h.regs rfl rfl

theorem State.frameOut_shows (h : s.regsOk = true) : s.ShowsBut s.frameOut [.CH_CNT] := by
  have hsent (f : Island → Island) (o : Out) :
      s.ShowsBut (((s.updIsland f).inc F.CH_CNT_tx_frames pkgL).emit o) [.CH_CNT] :=
    .emit (.inc (State.updIsland_shows (.same h) f) _ _ (by decide) (by decide)) o
  unfold State.frameOut
  split
  · exact hsent _ _
  · exact hsent _ _
  · exact .same h

theorem State.chEv_shows (h : s.ShowsBut t rs) (f : Fld) (hf : f.lo < 32) (hr : f.reg ∈ rs) : s.ShowsBut (t.chEv f) rs :=
  .ite (h.wr _ _ _ hf hr) (h.ev _ _ _ hf hr)

/-! ### The performance monitor -/

/-- A capture shows in the value and the stamp of the counter (R512, R513). -/
theorem State.cntCapture_shows (d k : Nat) (h : s.regsOk = true) :
    s.ShowsBut (s.cntCapture d k) [.CNT_LO, .CNT_HI, .STAMP_LO, .STAMP_HI] := by
  unfold State.cntCapture State.wr64
  extract_lets l v t1 t2
  have h1 : s.ShowsBut t1 [.CNT_LO, .CNT_HI, .STAMP_LO, .STAMP_HI] := .regs (.same h) rfl rfl
  have h2 : s.ShowsBut t2 [.CNT_LO, .CNT_HI, .STAMP_LO, .STAMP_HI] :=
    .wr (.wr (h1.wr _ _ _ (by decide) (by decide)) _ _ _ (by decide) (by decide)) _ _ _ (by decide) (by decide)
  exact .wr (h2.wr _ _ _ (by decide) (by decide)) _ _ _ (by decide) (by decide)

theorem State.frostArmDie_shows (h : s.ShowsBut t rs) (d target : Nat) (all : Bool) (hr : .PM_FROST_STATUS ∈ rs) :
    s.ShowsBut (t.frostArmDie d target all) rs := by
  have hfrost : s.ShowsBut { t with frost := Tbl.put t.frost d ⟨target, all⟩ } rs := h.regs rfl rfl
  exact hfrost.wr _ _ _ (by decide) hr

end

/-! ## What the commands show -/

/-- A next state that `o` answers at `s` shows all but `rs` and the log as `s` does. -/
def State.Frames (s : State) (o : Outcome) (rs : List Reg) : Prop := ∀ t, o = .next t → s.ShowsBut t rs

section
variable {s : State} {rs : List Reg}

theorem State.ShowsBut.frames {t : State} (h : s.ShowsBut t rs) : s.Frames (.next t) rs := by
  rintro _ ⟨⟩
  exact h

theorem onDie_frames {d : Nat} {f : State → State} (h : s.regsOk = true) (hf : s.ShowsBut (f s) rs) :
    s.Frames (onDie d s f) rs := (State.ShowsBut.ite (.same h) hf).frames

theorem onPkg_frames {f : State → State} (h : s.regsOk = true) (hf : s.ShowsBut (f s) rs) : s.Frames (onPkg s f) rs :=
  (State.ShowsBut.ite (.same h) hf).frames

theorem onChain_frames {f : State → State} (h : s.regsOk = true) (hf : s.ShowsBut (f s) rs) : s.Frames (onChain s f) rs :=
  (State.ShowsBut.ite hf (.same h)).frames

/-- An event of an Active site of a die. -/
theorem onActive_frames {d k : Nat} {f : State → State} (h : s.regsOk = true) (hf : s.ShowsBut (f s) rs) :
    s.Frames (onDie d s fun s => s.atActive d k f) rs := onDie_frames h (State.atActive_shows d k f h hf)

end

/-! ## Commands of small effect -/

section
variable {s : State} {rs : List Reg}

theorem execIslandSourceChange_frames (toVaux : Bool) (h : s.regsOk = true) :
    s.Frames (execIslandSourceChange toVaux s) [.PD_PKG_STATUS] := by
  refine State.ShowsBut.frames (.ite ?_ (.same h))
  exact .regs (.wr (.same h) F.PD_PKG_STATUS_island_source pkgL _ (by decide) (by decide)) rfl rfl

theorem execRailRecovered_frames (h : s.regsOk = true) : s.Frames (execRailRecovered s) [.PD_PKG_STATUS] := by
  have hrails : s.ShowsBut (s.forEach (upTo 7) fun s k => s.off (F.PD_PKG_STATUS_rail_low k) pkgL) [.PD_PKG_STATUS] :=
    .forEach _ _ (.same h) fun v k hk hv => by
      have hlt := mem_upTo.mp hk
      exact hv.wr _ _ _ (by simp only [F.PD_PKG_STATUS_rail_low]; omega) (by simp [F.PD_PKG_STATUS_rail_low])
  exact State.ShowsBut.frames (hrails.regs rfl rfl)

theorem execResetHoldExpiry_frames (h : s.regsOk = true) : s.Frames (execResetHoldExpiry s) rs :=
  State.ShowsBut.frames (.regs (.same h) rfl rfl)

theorem execInvFlashDirectoryRead_frames (sfdp : Option Sfdp) (copy0 copy1 : List (BitVec 8)) (h : s.regsOk = true) :
    s.Frames (execInvFlashDirectoryRead sfdp copy0 copy1 s) rs :=
  onPkg_frames h (.ite (.regs (.same h) rfl rfl) (.same h))

theorem execInvImageRead_frames (got : Option Image) (h : s.regsOk = true) : s.Frames (execInvImageRead got s) rs :=
  onPkg_frames h (.ite (.regs (.same h) rfl rfl) (.same h))

theorem execMasterCountSend_frames (h : s.regsOk = true) : s.Frames (execMasterCountSend s) rs := by
  refine onPkg_frames h (.ite (.same h) (.forEach _ _ (.same h) fun v k _ hv => ?_))
  exact State.sendCount_shows hv _

theorem execMasterCountReceive_frames (d : Fin 8) (count : Nat) (path : CountPath) (h : s.regsOk = true) :
    s.Frames (execMasterCountReceive d count path s) [.CK_FTIME_STATUS] := by
  refine onDie_frames h (.ite (.same h) ?_)
  split
  · exact State.correct_shows d.isLt _ _ h
  · exact .same h

theorem execAlignmentTimeout_frames (d : Fin 8) (h : s.regsOk = true) :
    s.Frames (execAlignmentTimeout d s) [.CK_FTIME_STATUS] := by
  refine onDie_frames h (.ite (.same h) ?_)
  exact .regs (State.wr_aligned_mask_shows (.same h) d.isLt 0) rfl rfl

theorem execPowerMonitorUpdate_frames (dies : List Nat) (pkg : Nat) (h : s.regsOk = true) :
    s.Frames (execPowerMonitorUpdate dies pkg s) [.TM_DIE_POWER, .PD_PKG_POWER] := by
  refine onPkg_frames h (.wr (.forEach _ _ (.same h) fun v d _ hv => ?_) _ _ _ (by decide) (by decide))
  exact hv.wr _ _ _ (by decide) (by decide)

theorem execLullWake_frames (d : Fin 8) (k : Fin 23) (h : s.regsOk = true) : s.Frames (execLullWake d k s) rs := by
  refine onDie_frames h ?_
  extract_lets t
  have ht : s.ShowsBut t rs := .regs (.same h) rfl rfl
  exact .ite (ht.regs rfl rfl) ht

theorem execLaneDetectPulse_frames (d : Fin 8) (q : Fin 16) (l : Fin 4) (h : s.regsOk = true) :
    s.Frames (execLaneDetectPulse d q l s) [.LQ_STATUS] := by
  refine onDie_frames h (.ite ?_ (.same h))
  exact .wr (.same h) (F.LQ_STATUS_partner_detect l) _ _ (by simp only [F.LQ_STATUS_partner_detect]; omega)
    (by simp [F.LQ_STATUS_partner_detect])

theorem execCoefficientRequest_frames (d : Fin 8) (q : Fin 16) (l : Fin 4) (ask : TxAsk) (h : s.regsOk = true) :
    s.Frames (execCoefficientRequest d q l ask s) [.LQ_TX_n] :=
  onDie_frames h (.ite (State.coefRequest_shows d q l ask h) (.same h))

theorem execMarginStepDone_frames (d : Fin 8) (q : Fin 16) (l : Fin 4) (errors : Nat) (h : s.regsOk = true) :
    s.Frames (execMarginStepDone d q l errors s) [.LQ_MARGIN_STATUS] :=
  onDie_frames h (State.marginStep_shows d q l errors h)

theorem execNegFailRetry_frames (d : Fin 8) (q : Fin 16) (h : s.regsOk = true) : s.Frames (execNegFailRetry d q s) rs :=
  onDie_frames h (.ite (.regs (.same h) rfl rfl) (.same h))

/-- A replay request carries an acknowledgement and credits, and shows in their registers (R150). -/
theorem execReplayReqReceive_frames (d : Fin 8) (t : Fin 7) (req : ReplayReq) (h : s.regsOk = true) :
    s.Frames (execReplayReqReceive d t req s) [.CL_SEQ, .CL_REPLAY, .CL_XOFF, .CL_CREDIT_AVAIL_c] := by
  refine onActive_frames h (State.updSite_shows (State.takeCredit_shows ?_ _ _ _ (by decide) (by decide)) _ _ _)
  exact State.takeAck_shows (.same h) _ _ _ (by decide) (by decide)

theorem execReplayTimeout_frames (d : Fin 8) (t : Fin 7) (h : s.regsOk = true) : s.Frames (execReplayTimeout d t s) rs :=
  onActive_frames h (State.updSite_shows (.same h) _ _ _)

theorem execAckTimer_frames (d : Fin 8) (t : Fin 7) (h : s.regsOk = true) : s.Frames (execAckTimer d t s) rs :=
  onActive_frames h (.ite (.same h) (State.updSite_shows (.same h) _ _ _))

theorem execDroughtSuspicion_frames (d : Fin 8) (t : Fin 7) (c : Fin 12) (h : s.regsOk = true) :
    s.Frames (execDroughtSuspicion d t c s) rs :=
  onActive_frames h (.ite (State.updSite_shows (.same h) _ _ _) (.same h))

theorem execAuditCommandReceive_frames (d : Fin 8) (t : Fin 7) (c : Fin 12) (h : s.regsOk = true) :
    s.Frames (execAuditCommandReceive d t c s) rs :=
  onActive_frames h (State.updSite_shows (.same h) _ _ _)

theorem execMapChangeCmdReceive_frames (d : Fin 8) (t : Fin 7) (map : LaneMap) (h : s.regsOk = true) :
    s.Frames (execMapChangeCmdReceive d t map s) rs :=
  onActive_frames h (State.newTxMap_shows d t map h)

theorem execPeriodicMarker_frames (d : Fin 8) (t : Fin 7) (h : s.regsOk = true) :
    s.Frames (execPeriodicMarker d t s) rs := by
  refine onActive_frames h ?_
  split
  · exact .ite (.emit (State.updSite_shows (State.updSite_shows (.same h) _ _ _) _ _ _) _) (.same h)
  · exact .same h

theorem execHandoverQueryReceive_frames (d : Fin 8) (t : Fin 7) (h : s.regsOk = true) :
    s.Frames (execHandoverQueryReceive d t s) rs :=
  onDie_frames h (.emit (State.updSite_shows (.same h) _ _ _) _)

theorem execRelayReturn_frames (d : Fin 8) (t : Fin 7) (h : s.regsOk = true) : s.Frames (execRelayReturn d t s) rs :=
  onActive_frames h (State.returnStreams_shows d t h)

theorem execHdmConfigAccess_frames (v : Fin 128) (n : Fin 256) (k : Fin 32) (acc : HdmAcc) (h : s.regsOk = true) :
    s.Frames (execHdmConfigAccess v n k acc s) rs :=
  onDie_frames h (State.hdmAccess_shows v n k acc h)

theorem execHostDecoderCommit_frames (v : Fin 128) (n : Fin 32) (base size : Fin 16777216) (ways gran : Fin 16)
    (targets : List (Fin 256)) (h : s.regsOk = true) :
    s.Frames (execHostDecoderCommit v n base size ways gran targets s) rs :=
  onDie_frames h (State.decoderCommit_shows v n _ h)

theorem execHostDecoderCommitClear_frames (v : Fin 128) (n : Fin 32) (h : s.regsOk = true) :
    s.Frames (execHostDecoderCommitClear v n s) rs :=
  onDie_frames h (State.decoderClear_shows v n h)

theorem execSessionExpiry_frames (c : Fin 5) (h : s.regsOk = true) : s.Frames (execSessionExpiry c s) [.SEC_SESSION_c] :=
  onPkg_frames h (.ite (State.closeSession_shows (.same h) c (by decide)) (.same h))

theorem execNonceExpiry_frames (h : s.regsOk = true) : s.Frames (execNonceExpiry s) rs :=
  onPkg_frames h (.regs (.same h) rfl rfl)

theorem execLockoutExpiry_frames (c : Fin 5) (h : s.regsOk = true) : s.Frames (execLockoutExpiry c s) [.MB_CHAN_c] :=
  onPkg_frames h (State.updChan_shows (.same h) 0 c _ (by decide))

theorem execChainFrameForward_frames (h : s.regsOk = true) : s.Frames (execChainFrameForward s) [.CH_CNT] :=
  onChain_frames h (State.frameOut_shows h)

/-- A break shows in the state of the chain, in its count of breaks and in its event (R498). -/
theorem execChainBreak_frames (h : s.regsOk = true) : s.Frames (execChainBreak s) [.CH_STATUS, .CH_CNT_ERR, .CH_EVENT] := by
  refine onChain_frames h (State.chEv_shows (.inc (.wr ?_ _ _ _ (by decide) (by decide)) _ _ (by decide) (by decide)) _
    (by decide) (by decide))
  exact (State.updIsland_shows (.same h) _).wr F.CH_STATUS_line_ok pkgL 0 (by decide) (by decide)

theorem execCounterCaptureRead_frames (d : Fin 8) (k : Fin 512) (h : s.regsOk = true) :
    s.Frames (execCounterCaptureRead d k s) [.CNT_LO, .CNT_HI, .STAMP_LO, .STAMP_HI] :=
  onDie_frames h (.ite (State.cntCapture_shows d k h) (.same h))

/-- A wrap shows in the log registers alone (R510). -/
theorem execCounterWrap_frames (d : Fin 8) (k : Fin 512) (h : s.regsOk = true) : s.Frames (execCounterWrap d k s) rs :=
  onDie_frames h (.ite (State.Shows.cntAdd (.same h) d k 1).showsBut (.same h))

theorem execFrostArmReceive_frames (d : Fin 8) (target : Nat) (h : s.regsOk = true) :
    s.Frames (execFrostArmReceive d target s) [.PM_FROST_STATUS] :=
  onDie_frames h (.ite (.emit (State.frostArmDie_shows (.same h) d target true (by decide)) _) (.same h))

theorem execFrostAckReceive_frames (d : Fin 8) (h : s.regsOk = true) :
    s.Frames (execFrostAckReceive d s) [.PM_FROST_STATUS] := by
  refine onDie_frames h (.ite ?_ (.same h))
  exact .wr (.same h) (F.PM_FROST_STATUS_ack_mask d) _ _ (by simp only [F.PM_FROST_STATUS_ack_mask]; omega)
    (by simp [F.PM_FROST_STATUS_ack_mask])

/-- The registers that `touches` lists are all that a command of small effect changes beside those of the log. -/
theorem exec_frames {c : Instr} (hc : touches c = some rs) (h : s.regsOk = true) : s.Frames (exec c s) rs := by
  cases c with
  | islandSourceChange toVaux => cases hc; exact execIslandSourceChange_frames toVaux h
  | railRecovered => cases hc; exact execRailRecovered_frames h
  | resetHoldExpiry => cases hc; exact execResetHoldExpiry_frames h
  | invFlashDirectoryRead sfdp copy0 copy1 => cases hc; exact execInvFlashDirectoryRead_frames sfdp copy0 copy1 h
  | invImageRead got => cases hc; exact execInvImageRead_frames got h
  | masterCountSend => cases hc; exact execMasterCountSend_frames h
  | masterCountReceive d count path => cases hc; exact execMasterCountReceive_frames d count path h
  | alignmentTimeout d => cases hc; exact execAlignmentTimeout_frames d h
  | powerMonitorUpdate dies pkg => cases hc; exact execPowerMonitorUpdate_frames dies pkg h
  | lullWake d k => cases hc; exact execLullWake_frames d k h
  | laneDetectPulse d q l => cases hc; exact execLaneDetectPulse_frames d q l h
  | coefficientRequest d q l ask => cases hc; exact execCoefficientRequest_frames d q l ask h
  | marginStepDone d q l errors => cases hc; exact execMarginStepDone_frames d q l errors h
  | negFailRetry d q => cases hc; exact execNegFailRetry_frames d q h
  | replayReqReceive d t req => cases hc; exact execReplayReqReceive_frames d t req h
  | replayTimeout d t => cases hc; exact execReplayTimeout_frames d t h
  | ackTimer d t => cases hc; exact execAckTimer_frames d t h
  | droughtSuspicion d t c => cases hc; exact execDroughtSuspicion_frames d t c h
  | auditCommandReceive d t c => cases hc; exact execAuditCommandReceive_frames d t c h
  | mapChangeCmdReceive d t map => cases hc; exact execMapChangeCmdReceive_frames d t map h
  | periodicMarker d t => cases hc; exact execPeriodicMarker_frames d t h
  | handoverQueryReceive d t => cases hc; exact execHandoverQueryReceive_frames d t h
  | relayReturn d t => cases hc; exact execRelayReturn_frames d t h
  | hdmConfigAccess v n k acc => cases hc; exact execHdmConfigAccess_frames v n k acc h
  | hostDecoderCommit v n base size ways gran targets => cases hc; exact execHostDecoderCommit_frames v n base size ways gran targets h
  | hostDecoderCommitClear v n => cases hc; exact execHostDecoderCommitClear_frames v n h
  | sessionExpiry c => cases hc; exact execSessionExpiry_frames c h
  | nonceExpiry => cases hc; exact execNonceExpiry_frames h
  | lockoutExpiry c => cases hc; exact execLockoutExpiry_frames c h
  | chainFrameForward => cases hc; exact execChainFrameForward_frames h
  | chainBreak => cases hc; exact execChainBreak_frames h
  | counterCaptureRead d k => cases hc; exact execCounterCaptureRead_frames d k h
  | counterWrap d k => cases hc; exact execCounterWrap_frames d k h
  | frostArmReceive d target => cases hc; exact execFrostArmReceive_frames d target h
  | frostAckReceive d => cases hc; exact execFrostAckReceive_frames d h
  | _ => cases hc

end

/-- Settles O40: the frame of each command that `touches` lists. -/
theorem smallEffectsFrame : Obligations.SmallEffectsFrame :=
  fun _ _ t _ hc ht h => (exec_frames hc h t ht).2

end Sys2Proof.Machine

/-! PROOFS of the statements of chapter 2: when the package leaves reset. -/

namespace Sys2Proof.Machine

/-! ## Leaving reset -/

@[simp] theorem State.bootFail_pkg (s : State) (e : Nat) : (s.bootFail e).pkg = s.pkg := by
  unfold State.bootFail
  split
  · rfl
  · rfl

@[simp] theorem State.fuseError_pkg (s : State) : s.fuseError.pkg = s.pkg := State.bootFail_pkg _ 6

/-- Leaving reset raises the two pins and ends the waits, whether or not the fuse check then fails. -/
@[simp] theorem State.leaveReset_pkg (s : State) (fuseBad : Bool) :
    (s.leaveReset fuseBad).pkg = { s.pkg with inReset := false, pwrOk := true, sysRstHigh := true, wait := {} } := by
  cases fuseBad with
  | false => rfl
  | true => exact State.fuseError_pkg _

/-- The conditions of R54, R55 and R527, of which `mayLeave` is the check. -/
theorem State.mayLeave_iff (s : State) (pwrLow : Bool) :
    s.mayLeave pwrLow = true ↔
      s.pkg.inReset = true ∧ s.pkg.islandUp = true ∧ s.pkg.vaux = true ∧ s.pkg.thermtrip = false ∧
        (s.pkg.wait.pwrLow = true → pwrLow = true) ∧ s.pkg.wait.rails = false ∧ s.pkg.wait.hold = false ∧
        s.pkg.lowRails = [] := by
  have hlow : (pwrLow || !s.pkg.wait.pwrLow) = true ↔ (s.pkg.wait.pwrLow = true → pwrLow = true) := by
    cases pwrLow <;> simp
  simp [State.mayLeave, hlow, and_assoc]

theorem exec_packageResetExit_of_mayLeave {s : State} {pwrLow : Bool} (fuseBad : Bool) (h : s.mayLeave pwrLow = true) :
    exec (.packageResetExit pwrLow fuseBad) s = .next (s.leaveReset fuseBad) :=
  congrArg Host.Outcome.next (if_pos h)

theorem exec_packageResetExit_of_not_mayLeave {s : State} {pwrLow : Bool} (fuseBad : Bool) (h : ¬ s.mayLeave pwrLow = true) :
    exec (.packageResetExit pwrLow fuseBad) s = .next s :=
  congrArg Host.Outcome.next (if_neg h)

/-- Settles O49: each condition of the first half contradicts one of `mayLeave`, those of the second half are all of them. -/
theorem resetExit : Obligations.ResetExit := by
  refine fun s pwrLow fuseBad => ⟨fun hblocked => ?stays, fun hreset hisland hvaux htherm hrails hhold hlow hpwr => ?leaves⟩
  case stays =>
    refine exec_packageResetExit_of_not_mayLeave fuseBad fun hmay => ?_
    obtain ⟨-, -, hvaux, htherm, hpwr, hrails, hhold, hlow⟩ := (s.mayLeave_iff pwrLow).mp hmay
    rcases hblocked with h | h | h | h | h | ⟨hwait, h⟩
    · exact Bool.false_ne_true (h.symm.trans hvaux)
    · exact Bool.false_ne_true (htherm.symm.trans h)
    · exact Bool.false_ne_true (hrails.symm.trans h)
    · exact Bool.false_ne_true (hhold.symm.trans h)
    · exact h hlow
    · exact Bool.false_ne_true (h.symm.trans (hpwr hwait))
  case leaves =>
    have hmay : s.mayLeave pwrLow = true :=
      (s.mayLeave_iff pwrLow).mpr ⟨hreset, hisland, hvaux, htherm, hpwr, hrails, hhold, hlow⟩
    exact ⟨s.leaveReset fuseBad, exec_packageResetExit_of_mayLeave fuseBad hmay, by simp [State.live]⟩

end Sys2Proof.Machine

/-! PROOFS of the statements of chapter 3: the order of the Barometer thresholds, and the commands of the lane quads. -/

namespace Sys2Proof.Machine

/-! ## Shadows of Staged fields -/

/-- A shadow holds what was last put into it, kept to the width of its field (R14). -/
theorem State.staged_stage_same (s : State) (f : Fld) (l : Loc) (v : Nat) :
    Tbl.get (s.stage f l v).staged (fkey f l) = some (v % 2 ^ f.width) :=
  Tbl.get_put_same _ _ _

/-- A write to one Staged field leaves the shadow of every other. -/
theorem State.staged_stage_other (s : State) {f g : Fld} {l m : Loc} (v : Nat) (hf : f.lo < 32) (hg : g.lo < 32)
    (n : ¬(g.reg = f.reg ∧ g.lo = f.lo ∧ m = l)) :
    Tbl.get (s.stage f l v).staged (fkey g m) = Tbl.get s.staged (fkey g m) :=
  Tbl.get_put_other _ _ fun e => n (fkey_inj hg hf e)

/-! ## The Barometer thresholds -/

/-- The four fields of a threshold register (Table 3.14): 8 bits each, the two Staged ones in different
places, and so the two others. -/
structure ThresholdFields (accept target degrade fail : Fld) : Prop where
  byte : ∀ f ∈ [accept, target, degrade, fail], f.lo < 32 ∧ f.width = 8
  staged : target.lo ≠ accept.lo
  live : degrade.lo ≠ fail.lo

theorem thresholdFields_nrz :
    ThresholdFields F.LQ_BARO_THR_NRZ_accept F.LQ_BARO_THR_NRZ_target F.LQ_BARO_THR_NRZ_degrade F.LQ_BARO_THR_NRZ_fail :=
  ⟨by decide, by decide, by decide⟩

theorem thresholdFields_pam4 :
    ThresholdFields F.LQ_BARO_THR_PAM4_accept F.LQ_BARO_THR_PAM4_target F.LQ_BARO_THR_PAM4_degrade F.LQ_BARO_THR_PAM4_fail :=
  ⟨by decide, by decide, by decide⟩

/-- What a write in order does to the fields of its threshold register (Table 3.14). -/
def State.takeThresholds (s : State) (accept target degrade fail : Fld) (l : Loc) (acc tgt deg fl : Nat) : State :=
  (((s.stage accept l acc).stage target l tgt).wr degrade l deg).wr fail l fl

theorem State.setBaroThr_nrz {s : State} {d q acc tgt deg fl : Nat} (h : fl < deg ∧ deg < acc ∧ acc ≤ tgt) :
    s.setBaroThr d q false acc tgt deg fl =
      s.takeThresholds F.LQ_BARO_THR_NRZ_accept F.LQ_BARO_THR_NRZ_target F.LQ_BARO_THR_NRZ_degrade F.LQ_BARO_THR_NRZ_fail
        (unitL d q) acc tgt deg fl :=
  if_pos h

theorem State.setBaroThr_pam4 {s : State} {d q acc tgt deg fl : Nat} (h : fl < deg ∧ deg < acc ∧ acc ≤ tgt) :
    s.setBaroThr d q true acc tgt deg fl =
      s.takeThresholds F.LQ_BARO_THR_PAM4_accept F.LQ_BARO_THR_PAM4_target F.LQ_BARO_THR_PAM4_degrade F.LQ_BARO_THR_PAM4_fail
        (unitL d q) acc tgt deg fl :=
  if_pos h

/-- Out of order, only the event remains of a write (R99). -/
theorem State.setBaroThr_refused {s : State} {d q acc tgt deg fl : Nat} (pam4 : Bool)
    (h : ¬(fl < deg ∧ deg < acc ∧ acc ≤ tgt)) :
    s.setBaroThr d q pam4 acc tgt deg fl = s.ev F.LQ_EVENT_thr_refused (unitL d q) (portNo d q) :=
  if_neg h

/-- degrade and fail take effect at once, accept and target wait in their shadows (Table 3.14). -/
theorem State.takeThresholds_shows {s : State} {accept target degrade fail : Fld} (l : Loc) {acc tgt deg fl : Nat}
    (hf : ThresholdFields accept target degrade fail) (hok : s.regsOk = true) (ha : acc < 2 ^ 8) (ht : tgt < 2 ^ 8)
    (hd : deg < 2 ^ 8) (hl : fl < 2 ^ 8) :
    let t := s.takeThresholds accept target degrade fail l acc tgt deg fl
    t.rd degrade l = deg ∧ t.rd fail l = fl ∧
      Tbl.get t.staged (fkey accept l) = some acc ∧ Tbl.get t.staged (fkey target l) = some tgt := by
  obtain ⟨hbyte, hstaged, hlive⟩ := hf
  obtain ⟨⟨loA, widthA⟩, ⟨loT, widthT⟩, ⟨loD, widthD⟩, ⟨loF, widthF⟩⟩ := by simpa using hbyte
  have hstage : ((s.stage accept l acc).stage target l tgt).regsOk = true := hok
  refine ⟨?degrade, ?fail, ?accept, ?target⟩
  case degrade =>
    rw [State.takeThresholds, State.rd_wr_other _ (State.wr_ok _ _ _ _ hstage) loF loD fun e => hlive e.2.1,
      State.rd_wr_same _ _ _ hstage, widthD, Nat.mod_eq_of_lt hd]
  case fail => rw [State.takeThresholds, State.rd_wr_same _ _ _ (State.wr_ok _ _ _ _ hstage), widthF, Nat.mod_eq_of_lt hl]
  case accept =>
    change Tbl.get ((s.stage accept l acc).stage target l tgt).staged (fkey accept l) = _
    rw [State.staged_stage_other _ _ loT loA fun e => hstaged e.2.1.symm, State.staged_stage_same, widthA, Nat.mod_eq_of_lt ha]
  case target =>
    change Tbl.get ((s.stage accept l acc).stage target l tgt).staged (fkey target l) = _
    rw [State.staged_stage_same, widthT, Nat.mod_eq_of_lt ht]

/-- A write to a register that has power has its effect (R61). -/
theorem State.gated_powered {s : State} {r : Reg} {l : Loc} (f : State → State) (h : s.unpowered r l = false) :
    s.gated r l f = f s :=
  if_neg (ne_true_of_eq_false h)

/-- The bytes of a word are the fields of LQ_BARO_THR_NRZ. -/
theorem State.writeDie_baroThr_nrz {s : State} (src : Src) {l : Loc} {v : Nat} (h : s.unpowered .LQ_BARO_THR_NRZ l = false) :
    s.writeDie src .LQ_BARO_THR_NRZ l v =
      s.setBaroThr l.die l.unit false (v / 2 ^ 24 % 256) (v / 2 ^ 16 % 256) (v / 2 ^ 8 % 256) (v % 256) := by
  change s.writeIo src .LQ_BARO_THR_NRZ l v = _
  rw [State.writeIo, State.gated_powered _ h]
  simp [bitsOf]

/-- The bytes of a word are the fields of LQ_BARO_THR_PAM4. -/
theorem State.writeDie_baroThr_pam4 {s : State} (src : Src) {l : Loc} {v : Nat} (h : s.unpowered .LQ_BARO_THR_PAM4 l = false) :
    s.writeDie src .LQ_BARO_THR_PAM4 l v =
      s.setBaroThr l.die l.unit true (v / 2 ^ 24 % 256) (v / 2 ^ 16 % 256) (v / 2 ^ 8 % 256) (v % 256) := by
  change s.writeIo src .LQ_BARO_THR_PAM4 l v = _
  rw [State.writeIo, State.gated_powered _ h]
  simp [bitsOf]

/-- Settles O54: a write in order gives the four fields of its register their values, one out of order is an event alone. -/
theorem thresholdOrder : Obligations.ThresholdOrder := by
  refine ⟨?command, ?word, ?refused, ?taken⟩
  case command => exact fun s src d q pam4 accept target degrade fail hs h => onWrite_eq _ hs h
  case word => exact fun s src l v _ hn hp => ⟨State.writeDie_baroThr_nrz src hn, State.writeDie_baroThr_pam4 src hp⟩
  case refused =>
    intro s d q pam4 accept target degrade fail hok hbroken
    rw [State.setBaroThr_refused pam4 hbroken]
    exact ⟨State.ev_onlyLogs _ _ _ hok (by decide) (by decide) (.same s _),
      State.rd_evD_same _ _ _ _ _ hok (by decide) (by decide)⟩
  case taken =>
    intro s d q accept target degrade fail hok htarget hfail hdegrade haccept
    have hacc : accept < 256 := haccept.trans_lt htarget
    have hdeg : degrade < 256 := hdegrade.trans hacc
    have hfl : fail < 256 := hfail.trans hdeg
    rw [State.setBaroThr_nrz ⟨hfail, hdegrade, haccept⟩, State.setBaroThr_pam4 ⟨hfail, hdegrade, haccept⟩]
    obtain ⟨nrzDegrade, nrzFail, nrzAccept, nrzTarget⟩ :=
      State.takeThresholds_shows (unitL d q) thresholdFields_nrz hok hacc htarget hdeg hfl
    exact ⟨nrzDegrade, nrzFail, nrzAccept, nrzTarget,
      State.takeThresholds_shows (unitL d q) thresholdFields_pam4 hok hacc htarget hdeg hfl⟩

/-! ## The commands of the lane quads -/

/-- An event of a die whose condition holds. -/
theorem onDie_of_pos {d : Nat} {s : State} {c : State → Prop} [DecidablePred c] (f : State → State) (h : s.ready d) (k : c s) :
    onDie d s (fun s => if c s then f s else s) = .next (f s) := by
  rw [onDie_eq _ h, if_pos k]

/-- An event of a die that may make work, whose condition holds. -/
theorem runOn_of_pos {d : Nat} {s : State} {c : State → Prop} [DecidablePred c] (f : State → State) (h : s.ready d) (k : c s) :
    runOn d s (fun s => if c s then f s else s) = .next (f s).finish := by
  rw [runOn_eq _ h, if_pos k]

/-- Settles O8: a write of quad_en passes the guard of register writes, and every other command is an event of its die. -/
theorem lanesTrainingComplete : Obligations.LanesTrainingComplete := by
  refine ⟨?quadEnWrite, ?laneDetectPulse, ?partnerTerminationSensed, ?laneSymbolLock, ?eqEvaluationEnd, ?eqBudgetExpired,
    ?laneLockTimeout, ?laneAlignmentFound, ?exchangeDone, ?barometerRefresh, ?lossOfSignal, ?farEndLoopbackRequest,
    ?farEndLoopbackExit⟩
  case quadEnWrite => exact fun s src d q en hs h => onWrite_eq _ hs h
  case laneDetectPulse => exact fun s d q l h k => (onDie_of_pos _ h k : execLaneDetectPulse d q l s = _)
  case partnerTerminationSensed => exact fun s d q l h k => (onDie_of_pos _ h k : execPartnerTerminationSensed d q l s = _)
  case laneSymbolLock => exact fun s d q l inverted h k => (onDie_of_pos _ h k : execLaneSymbolLock d q l inverted s = _)
  case eqEvaluationEnd => exact fun s d q l got h k => (runOn_of_pos _ h k : execEqEvaluationEnd d q l got s = _)
  case eqBudgetExpired => exact fun s d q l h k => (runOn_of_pos _ h k : execEqBudgetExpired d q l s = _)
  case laneLockTimeout => exact fun s d q l h => (runOn_eq _ h : execLaneLockTimeout d q l s = _)
  case laneAlignmentFound => exact fun s d q l h k => (onDie_of_pos _ h k : execLaneAlignmentFound d q l s = _)
  case exchangeDone =>
    intro s d q l accepted h k
    change execExchangeDone d q l accepted s = _
    rw [execExchangeDone, runOn_eq _ h, if_neg (not_not_intro k)]
  case barometerRefresh => exact fun s d q l got h k => (onDie_of_pos _ h k : execBarometerRefresh d q l got s = _)
  case lossOfSignal => exact fun s d q l h k => (onDie_of_pos _ h k : execLossOfSignal d q l s = _)
  case farEndLoopbackRequest => exact fun s d q l h k => (onDie_of_pos _ h k : execFarEndLoopbackRequest d q l s = _)
  case farEndLoopbackExit => exact fun s d q l h k => (onDie_of_pos _ h k : execFarEndLoopbackExit d q l s = _)

/-- Settles O9: the writes pass the guard of register writes, the requests and the end of a margin step are events of their die. -/
theorem lanesServiceComplete : Obligations.LanesServiceComplete := by
  refine ⟨?loopGoWrite, ?coefficientRequest, ?checkEnRise, ?laneMarginStart, ?protocolMarginRequest, ?marginStepDone,
    ?baroMinClear, ?baroThrWrite⟩
  case loopGoWrite => exact fun s src d q go hs h => onWrite_eq _ hs h
  case coefficientRequest => exact fun s d q l ask h k => (onDie_of_pos _ h k : execCoefficientRequest d q l ask s = _)
  case checkEnRise => exact fun s src d q hs h => onWrite_eq _ hs h
  case laneMarginStart => exact fun s src d q ask hs h => onWrite_eq _ hs h
  case protocolMarginRequest => exact fun s d q ask h k => (onDie_of_pos _ h k : execProtocolMarginRequest d q ask s = _)
  case marginStepDone => exact fun s d q l errors h => (onDie_eq _ h : execMarginStepDone d q l errors s = _)
  case baroMinClear => exact fun s src d q l hs h => onWrite_eq _ hs h
  case baroThrWrite => exact fun s src d q pam4 accept target degrade fail hs h => onWrite_eq _ hs h

end Sys2Proof.Machine

/-! PROOFS of the statements of chapter 4: the commands of the ports and Cellars, and flush_now. -/

namespace Sys2Proof.Machine

/-! ## Flushing a Cellar -/

/-- What each step of a loop leaves as it was, the loop leaves as it was. -/
theorem State.forEach_keeps {α β : Type} (get : State → β) (s : State) (xs : List α) (g : State → α → State)
    (h : ∀ s a, get (g s a) = get s) : get (s.forEach xs g) = get s :=
  List.foldlRecOn xs g (motive := fun t => get t = get s) rfl fun t ht a _ => (h t a).trans ht

/-- Pushing a piece of work for each element appends them in order. -/
theorem State.forEach_push_todo {α : Type} (s : State) (xs : List α) (w : α → Work) :
    (s.forEach xs fun s x => s.push (w x)).todo = s.todo ++ xs.map w := by
  induction xs generalizing s with
  | nil => exact (List.append_nil s.todo).symm
  | cons x xs ih =>
    calc ((s.push (w x)).forEach xs fun s x => s.push (w x)).todo
        = (s.todo ++ [w x]) ++ xs.map w := ih (s.push (w x))
      _ = s.todo ++ (x :: xs).map w := List.append_assoc _ _ _

/-- Forgetting late copies touches crossbars only. -/
theorem State.forgetLate_keeps {β : Type} (get : State → β) (h : ∀ (s : State) d f, get (s.updXb d f) = get s) (s : State) (p : Nat) :
    get (s.forgetLate p) = get s := by
  refine State.forEach_keeps get s _ _ fun t d => ?_
  split
  case isTrue => exact h _ _ _
  case isFalse => rfl

@[simp] theorem State.forgetLate_port (s : State) (p q : Nat) : (s.forgetLate p).port q = s.port q :=
  State.forgetLate_keeps (·.port q) (fun _ _ _ => rfl) s p

@[simp] theorem State.forgetLate_holding (s : State) (p q : Nat) : (s.forgetLate p).holding q = s.holding q :=
  State.forgetLate_keeps (·.holding q) (fun _ _ _ => rfl) s p

/-- A flush of a port that holds disposes of every frame of its Cellar (R135). -/
theorem State.flush_disposes {s : State} {p : Nat} (h : s.holding p = true) {e : QEnt} (he : e ∈ (s.port p).cellar) :
    Work.dispose p e true ∈ (s.flush p).todo := by
  have hholds : ¬(!(s.forgetLate p).holding p) = true := by simp [h]
  rw [State.flush, State.flushAll, if_neg fun k => hholds k.1, State.forEach_push_todo, State.forgetLate_port, List.nil_append]
  exact List.mem_append_right _ (List.mem_map_of_mem (List.mem_append_left _ he))

/-- On a port that holds, a write of 1 to flush_now that is taken flushes the Cellar. -/
theorem exec_flushNow_of_holding {s : State} {src : Src} {d : Fin 8} {q : Fin 16} (hs : tenantOf src = none) (h : s.writable src d)
    (k : s.holding (portNo d q) = true) : exec (.flushNow src d q) s = .next (s.flush (portNo d q)).finish :=
  calc exec (.flushNow src d q) s
      = onWrite src d s fun s => s.flush (portNo d q) := if_pos k
    _ = .next (s.flush (portNo d q)).finish := onWrite_eq _ hs h

/-- A write without an effect that is not denied leaves the state as it is. -/
theorem onVoid_of_not_denied {src : Src} {s : State} (d : Nat) (h : s.denied src = false) : onVoid src d s = .next s := by
  rw [onVoid, h, Bool.and_false, if_neg Bool.false_ne_true]

/-- On a port that does not hold, a write of 1 to flush_now that is not denied does nothing. -/
theorem exec_flushNow_of_not_holding {s : State} {src : Src} {d : Fin 8} {q : Fin 16} (h : s.denied src = false)
    (k : s.holding (portNo d q) = false) : exec (.flushNow src d q) s = .next s :=
  calc exec (.flushNow src d q) s
      = onVoid src d s := if_neg (ne_true_of_eq_false k)
    _ = .next s := onVoid_of_not_denied d h

/-- Settles O47: whether the port holds decides between a flush and a write without an effect (R134). -/
theorem flushNow : Obligations.FlushNow := by
  refine ⟨?holding, ?notHolding, ?disposes⟩
  case holding => exact fun s src d q hs h k => exec_flushNow_of_holding hs h k
  case notHolding => exact fun s src d q h k => exec_flushNow_of_not_holding h k
  case disposes => exact fun s p h e he => State.flush_disposes h he

/-! ## The commands of the ports and Cellars -/

/-- Settles O10: the writes of flush_now, retrain and port_en pass the guard of register writes, and every other command
is an event of its die. -/
theorem portsComplete : Obligations.PortsComplete := by
  refine ⟨?portTrainingStart, ?protocolNegotiationEnd, ?negFailRetry, ?dlActive, ?identityReadDone, ?identityReadTimeout,
    ?linkDown, ?cellarHoldExpiry, ?flushNow, ?ptRetrain, ?portEnWrite, ?l0pWidthChange, ?hostPerstAssert⟩
  case portTrainingStart => exact fun s d q h => (onDie_eq _ h : execPortTrainingStart d q s = _)
  case protocolNegotiationEnd => exact fun s d q offer h => (runOn_eq _ h : execProtocolNegotiationEnd d q offer s = _)
  case negFailRetry => exact fun s d q h k => (onDie_of_pos _ h k : execNegFailRetry d q s = _)
  case dlActive => exact fun s d up h => (runOn_eq _ h : execDlActive d up s = _)
  case identityReadDone =>
    exact fun s d q walk caps h k => (runOn_of_pos _ h k : execIdentityReadDone d q walk caps s = _)
  case identityReadTimeout => exact fun s d q h k => (runOn_of_pos _ h k : execIdentityReadTimeout d q s = _)
  case linkDown => exact fun s d q cause unacked h k => (runOn_of_pos _ h k : execLinkDown d q cause unacked s = _)
  case cellarHoldExpiry => exact fun s d q h k => (runOn_of_pos _ h k : execCellarHoldExpiry d q s = _)
  case flushNow => exact fun s src d q hs h k => exec_flushNow_of_holding hs h k
  case ptRetrain => exact fun s src d q unacked hs h => onWrite_eq _ hs h
  case portEnWrite => exact fun s src d q en hs h => onWrite_eq _ hs h
  case l0pWidthChange => exact fun s d q width h => (onDie_eq _ h : execL0pWidthChange d q width s = _)
  case hostPerstAssert => exact fun s d q hotReset h k => (runOn_of_pos _ h k : execHostPerstAssert d q hotReset s = _)

end Sys2Proof.Machine

/-! PROOFS of the statements of chapter 5: the commands of the flits, credits, lane maps and states of Casub sites. -/

namespace Sys2Proof.Machine

/-! ## Events of a site -/

/-- What an Active site does with an event that reaches Active sites only. -/
theorem State.atActive_of_active {s : State} {d t : Nat} (f : State → State) (a : s.siteActive d t = true) :
    s.atActive d t f = f s :=
  if_pos a

/-- An event of an Active site of a die. -/
theorem onDie_atActive {d t : Nat} {s : State} (f : State → State) (h : s.ready d) (a : s.siteActive d t = true) :
    onDie d s (fun s => s.atActive d t f) = .next (f s) := by
  rw [onDie_eq _ h, State.atActive_of_active f a]

/-- An event of an Active site of a die that may make work. -/
theorem runOn_atActive {d t : Nat} {s : State} (f : State → State) (h : s.ready d) (a : s.siteActive d t = true) :
    runOn d s (fun s => s.atActive d t f) = .next (f s).finish := by
  rw [runOn_eq _ h, State.atActive_of_active f a]

/-- An event of an Active site of a die, where the condition that stops it does not hold. -/
theorem onDie_atActive_of_neg {d t : Nat} {s : State} {c : State → Prop} [DecidablePred c] (f : State → State) (h : s.ready d)
    (a : s.siteActive d t = true) (k : ¬ c s) :
    onDie d s (fun s => s.atActive d t fun s => if c s then s else f s) = .next (f s) := by
  rw [onDie_atActive _ h a, if_neg k]

/-- An event of an Active site of a die that may make work, where the condition that stops it does not hold. -/
theorem runOn_atActive_of_neg {d t : Nat} {s : State} {c : State → Prop} [DecidablePred c] (f : State → State) (h : s.ready d)
    (a : s.siteActive d t = true) (k : ¬ c s) :
    runOn d s (fun s => s.atActive d t fun s => if c s then s else f s) = .next (f s).finish := by
  rw [runOn_atActive _ h a, if_neg k]

/-- An event of a die that may make work and does nothing where its condition fails, under that condition. -/
theorem runOn_if_not_of_pos {d : Nat} {s : State} {c : State → Prop} [DecidablePred c] (f : State → State) (h : s.ready d)
    (k : c s) : runOn d s (fun s => if ¬ c s then s else f s) = .next (f s).finish := by
  rw [runOn_eq _ h, if_neg (not_not_intro k)]

/-! ## The commands of flits, credits and lane maps -/

/-- Settles O11: each command but the refresh of the Barometers is an event of an Active site. -/
theorem casubFlitsComplete : Obligations.CasubFlitsComplete := by
  refine ⟨?flitSend, ?flitReceive, ?replayReqReceive, ?replayTimeout, ?ackTimer, ?droughtSuspicion, ?auditCommandReceive,
    ?auditReplyReceive, ?casubBaroRefresh, ?mapChangeCmdReceive, ?markerReceive, ?periodicMarker⟩
  case flitSend => exact fun s d t h a k => (runOn_atActive_of_neg _ h a k : execFlitSend d t s = _)
  case flitReceive => exact fun s d t f e0 e1 h a k => (runOn_atActive_of_neg _ h a k : execFlitReceive d t f e0 e1 s = _)
  case replayReqReceive => exact fun s d t req h a => (onDie_atActive _ h a : execReplayReqReceive d t req s = _)
  case replayTimeout => exact fun s d t h a => (onDie_atActive _ h a : execReplayTimeout d t s = _)
  case ackTimer => exact fun s d t h a k => (onDie_atActive_of_neg _ h a k : execAckTimer d t s = _)
  case droughtSuspicion => exact fun s d t c h a => (onDie_atActive _ h a : execDroughtSuspicion d t c s = _)
  case auditCommandReceive => exact fun s d t c h a => (onDie_atActive _ h a : execAuditCommandReceive d t c s = _)
  case auditReplyReceive =>
    exact fun s d t c freeH retH freeD retD h a =>
      (onDie_atActive _ h a : execAuditReplyReceive d t c freeH retH freeD retD s = _)
  case casubBaroRefresh => exact fun s d t got h k => (runOn_of_pos _ h k : execCasubBaroRefresh d t got s = _)
  case mapChangeCmdReceive => exact fun s d t map h a => (onDie_atActive _ h a : execMapChangeCmdReceive d t map s = _)
  case markerReceive => exact fun s d t words h a => (runOn_atActive _ h a : execMarkerReceive d t words s = _)
  case periodicMarker =>
    intro s d t m h a hmap hdue
    change execPeriodicMarker d t s = _
    rw [execPeriodicMarker, onDie_atActive _ h a]
    simp only [hmap, if_pos hdue]

/-! ## The commands of the states of a site -/

/-- Settles O12: the writes of CL_CTRL pass the guard of register writes, a site in the state that an event asks for takes
the event's effect, and the hand-over has its own conditions. -/
theorem casubSitesComplete : Obligations.CasubSitesComplete := by
  refine ⟨?siteEnWrite, ?siteCalibrateDone, ?siteCalibrateTimeout, ?siteAlignFound, ?siteAlignTimeout, ?siteInitExchange,
    ?siteInitTimeout, ?clRetrain, ?clRetire, ?clRevive, ?holdUsExpiry, ?handoverQueryReceive, ?handoverReplyReceive,
    ?relayReturn, ?casubLaneSignalLoss⟩
  case siteEnWrite => exact fun s src d t en hs h => onWrite_eq _ hs h
  case siteCalibrateDone =>
    intro s d t got h k
    refine (runOn_if_not_of_pos _ h k : execSiteCalibrateDone d t got s = _).trans ?_
    cases hbest : (s.measured d t got 20).bestMap d t true with
    | none => simp only [hbest]
    | some m => simp only [hbest]
  case siteCalibrateTimeout => exact fun s d t h k => (runOn_of_pos _ h k : execSiteCalibrateTimeout d t s = _)
  case siteAlignFound => exact fun s d t delay h k => (onDie_of_pos _ h k : execSiteAlignFound d t delay s = _)
  case siteAlignTimeout => exact fun s d t h k => (onDie_of_pos _ h k : execSiteAlignTimeout d t s = _)
  case siteInitExchange =>
    exact fun s d t peerDie peerSite adv rxExp h k =>
      (runOn_if_not_of_pos _ h k : execSiteInitExchange d t peerDie peerSite adv rxExp s = _)
  case siteInitTimeout => exact fun s d t h k => (onDie_of_pos _ h k : execSiteInitTimeout d t s = _)
  case clRetrain => exact fun s src d t hs h => onWrite_eq _ hs h
  case clRetire => exact fun s src d t hs h => onWrite_eq _ hs h
  case clRevive => exact fun s src d t hs h => onWrite_eq _ hs h
  case holdUsExpiry => exact fun s d t h => (runOn_eq _ h : execHoldUsExpiry d t s = _)
  case handoverQueryReceive => exact fun s d t h => (onDie_eq _ h : execHandoverQueryReceive d t s = _)
  case handoverReplyReceive => exact fun s d t rxExp h k => (runOn_of_pos _ h k : execHandoverReplyReceive d t rxExp s = _)
  case relayReturn => exact fun s d t h a => (onDie_atActive _ h a : execRelayReturn d t s = _)
  case casubLaneSignalLoss => exact fun s d t n h k => (runOn_of_pos _ h k : execCasubLaneSignalLoss d t n s = _)

end Sys2Proof.Machine

/-! PROOFS of the statements of chapter 6: the commands of the crossbar, and the table writes that the part refuses. -/

namespace Sys2Proof.Machine

/-! ## The commands of the crossbar -/

/-- Settles O13: an arrival and a match are events of their die, every other command passes the guard of register writes. -/
theorem switchComplete : Obligations.SwitchComplete := by
  refine ⟨?messageArrival, ?crossbarMatch, ?xbGrpRead, ?xbGrpWrite, ?xbGrpClear, ?xbCommit, ?xbLarderMinClear⟩
  case messageArrival => exact fun s d input m own h => (runOn_eq _ h : execMessageArrival d input m own s = _)
  case crossbarMatch => exact fun s d full errs h => (runOn_eq _ h : execCrossbarMatch d full errs s = _)
  case xbGrpRead => exact fun s src d index hs h => onWrite_eq _ hs h
  case xbGrpWrite => exact fun s src d index hs h => onWrite_eq _ hs h
  case xbGrpClear => exact fun s src d index hs h => onWrite_eq _ hs h
  case xbCommit => exact fun s src d hs h => onWrite_eq _ hs h
  case xbLarderMinClear => exact fun s src d hs h => onWrite_eq _ hs h

/-! ## Refusals of table commands -/

/-- `t` differs from `s` by log records and in the command register `cmd` alone, and its register file is canonical. -/
structure State.Took (s t : State) (cmd : Reg) : Prop where
  ok : t.regsOk = true
  only : s.onlyLogs t [cmd]

/-- `u` differs from `s` by log records, in the command register `cmd` and in the register of event `f`, whose bit is set on
die `d`. -/
def State.Refused (s u : State) (d : Nat) (cmd : Reg) (f : Fld) : Prop :=
  s.onlyLogs u [cmd, f.reg] ∧ u.rd f (dieL d) = 1

section
variable {s t : State} {cmd : Reg}

/-- What leaves all but some registers leaves all but more of them. -/
theorem State.onlyLogs.mono {rs rs' : List Reg} (h : s.onlyLogs t rs) (hsub : rs ⊆ rs') : s.onlyLogs t rs' :=
  ⟨h.1, fun g m hg hlog hn => h.2 g m hg hlog fun hmem => hn (hsub hmem)⟩

theorem State.Took.same (h : s.regsOk = true) : s.Took s cmd := ⟨h, .same s _⟩

/-- A command register takes a value into one of its fields. -/
theorem State.Took.wr (h : s.Took t cmd) (f : Fld) (l : Loc) (v : Nat) (hf : f.lo < 32) (hr : f.reg = cmd) :
    s.Took (t.wr f l v) cmd :=
  ⟨State.wr_ok _ _ _ _ h.ok, State.wr_onlyLogs f l v h.ok hf (hr ▸ List.mem_singleton_self _) h.only⟩

/-- The fields of other registers read as before. -/
theorem State.Took.rd (h : s.Took t cmd) {g : Fld} {l : Loc} (hg : g.lo < 32) (hn : g.reg ∉ logRegs) (hr : g.reg ≠ cmd) :
    t.rd g l = s.rd g l :=
  h.only.2 g l hg hn fun hmem => hr (List.mem_singleton.mp hmem)

/-- A refusal sets its event and changes nothing else after the command register. -/
theorem State.Took.refuse (h : s.Took t cmd) {f : Fld} {d : Nat} (unit : Nat) (hf : f.lo < 32) (hw : f.width = 1)
    (hn : f.reg ∉ logRegs) : s.Refused (t.ev f (dieL d) unit) d cmd f := by
  have honly : s.onlyLogs t [cmd, f.reg] := h.only.mono (List.cons_subset_cons cmd (List.nil_subset _))
  refine ⟨State.ev_onlyLogs f _ unit h.ok hf (by simp) honly, ?_⟩
  rw [State.ev, State.rd_evD_same f _ unit 0 0 h.ok hf hn, hw]
  rfl

end

section
variable {s : State} {d : Nat}

/-! ### The VCS and vPPB tables (R234) -/

/-- The VCS and vPPB tables are read-only: neither a write nor a clear reaches them. -/
theorem State.bdOp_refused {op table : Nat} (i : Nat) (hok : s.regsOk = true) (hbusy : s.flag F.BD_TBL_CMD_busy (dieL d) = false)
    (hop : op = 1 ∨ op = 2) (htable : table < 2) : s.Refused (s.bdOp d op table i) d .BD_TBL_CMD F.BD_EVENT_tbl_refused := by
  have htook := (((State.Took.same hok).wr F.BD_TBL_CMD_op (dieL d) op (by decide) rfl).wr F.BD_TBL_CMD_table (dieL d) table
    (by decide) rfl).wr F.BD_TBL_CMD_index (dieL d) i (by decide) rfl
  have hrefused := htook.refuse (f := F.BD_EVENT_tbl_refused) (d := d) i (by decide) (by decide) (by decide)
  have hread : op ≠ 0 := by omega
  have hset : op ≠ 3 := by omega
  have hcases : table = 0 ∨ table = 1 := by omega
  unfold State.bdOp
  rcases hcases with rfl | rfl
  · simp only [hbusy, Bool.false_eq_true, if_false, hread, hset]
    exact hrefused
  · simp only [hbusy, Bool.false_eq_true, if_false, hread, hset]
    exact hrefused

/-! ### Crossbar groups (R202) -/

/-- The words of XB_GRP_DATA0 to XB_GRP_DATA7. -/
def State.grpData (s : State) (d : Nat) : List Nat := (upTo 8).map fun k => s.rd F.XB_GRP_DATAw_data (idxL d 0 k)

/-- The command register takes its fields without a change of the data registers. -/
theorem State.Took.grpData {t : State} (h : s.Took t .XB_GRP_CMD) : t.grpData d = s.grpData d :=
  List.map_congr_left fun _ _ => h.rd (by decide) (by decide) (by decide)

/-- No write reaches entry 0, and none that breaks R202 reaches any entry. -/
theorem State.grpOp_write_refused {i : Nat} (hok : s.regsOk = true) (hbusy : s.flag F.XB_GRP_CMD_busy (dieL d) = false)
    (hbad : i = 0 ∨ grpValid (s.grpData d) = true ∧ grpOk (s.grpData d) = false) :
    s.Refused (s.grpOp d 1 i) d .XB_GRP_CMD F.XB_EVENT_grp_refused := by
  have htook := ((State.Took.same hok).wr F.XB_GRP_CMD_op (dieL d) 1 (by decide) rfl).wr F.XB_GRP_CMD_index (dieL d) i
    (by decide) rfl
  have hrefused := htook.refuse (f := F.XB_EVENT_grp_refused) (d := d) i (by decide) (by decide) (by decide)
  have hdata := htook.grpData (d := d)
  unfold State.grpOp
  rw [if_neg (ne_true_of_eq_false hbusy)]
  by_cases hi : i = 0
  · rwa [if_pos hi]
  · obtain ⟨hvalid, hbroken⟩ := hbad.resolve_left hi
    rw [← hdata] at hvalid hbroken
    rw [if_neg hi]
    have hbreaks : grpValid _ ∧ (!grpOk _) = true := ⟨hvalid, by rw [hbroken]; rfl⟩
    exact (if_pos hbreaks).symm ▸ hrefused

/-! ### Mirror entry 0 (R272) -/

/-- No operation reaches mirror entry 0. -/
theorem State.mrTblOp_zero_refused (op : Nat) (hok : s.regsOk = true) (hbusy : s.flag F.MR_TBL_CMD_busy (dieL d) = false) :
    s.Refused (s.mrTblOp d op 0) d .MR_TBL_CMD F.MR_EVENT_mr_refused := by
  have htook := ((State.Took.same hok).wr F.MR_TBL_CMD_op (dieL d) op (by decide) rfl).wr F.MR_TBL_CMD_index (dieL d) 0
    (by decide) rfl
  unfold State.mrTblOp
  rw [if_neg (ne_true_of_eq_false hbusy), if_pos rfl]
  exact htook.refuse 0 (by decide) (by decide) (by decide)

/-! ### Owned shapers (R315) -/

@[simp] theorem State.wr_shp (s : State) (f : Fld) (l : Loc) (v d i : Nat) : (s.wr f l v).shp d i = s.shp d i := rfl

/-- A write to an owned shaper is accepted on the mediated path only. -/
theorem State.shpOk_of_owned {w : ShpWrite} (h : (s.shp d w.index).owned = true) : s.shpOk d w false = false := by
  simp [State.shpOk, h]

/-- Neither a write nor a clear through SC_SHP_CMD reaches an owned shaper. -/
theorem State.shpOp_owned_refused {op i : Nat} (tok : Nat) (hok : s.regsOk = true)
    (hbusy : s.flag F.SC_SHP_CMD_busy (dieL d) = false) (hop : op = 1 ∨ op = 2) (howned : (s.shp d i).owned = true) :
    s.Refused (s.shpOp d op i tok) d .SC_SHP_CMD F.SC_EVENT_shp_refused := by
  have htook := (((State.Took.same hok).wr F.SC_SHP_CMD_op (dieL d) op (by decide) rfl).wr F.SC_SHP_CMD_index (dieL d) i
    (by decide) rfl).wr F.SC_SHP_CMD_tok_reset (dieL d) (if tok = 3 then 0 else tok) (by decide) rfl
  have hrefused := htook.refuse (f := F.SC_EVENT_shp_refused) (d := d) i (by decide) (by decide) (by decide)
  unfold State.shpOp
  rcases hop with rfl | rfl
  · simp only [hbusy, Bool.false_eq_true, if_false, State.shpOk_of_owned, State.wr_shp, howned]
    exact hrefused
  · simp only [hbusy, Bool.false_eq_true, if_false, State.wr_shp, howned, if_true]
    exact hrefused

end

/-- Settles O56: each command passes the guard of register writes, and its operation is then a refusal. -/
theorem refusedTableWrites : Obligations.RefusedTableWrites := by
  refine ⟨?binding, ?group, ?mirror, ?shaper⟩
  case binding =>
    exact fun s src d table index hs h hok hbusy htable =>
      ⟨⟨_, onWrite_eq _ hs h, State.bdOp_refused index hok hbusy (.inl rfl) htable⟩,
        ⟨_, onWrite_eq _ hs h, State.bdOp_refused index hok hbusy (.inr rfl) htable⟩⟩
  case group =>
    exact fun s src d index hs h hok hbusy hbad => ⟨_, onWrite_eq _ hs h, State.grpOp_write_refused hok hbusy hbad⟩
  case mirror =>
    exact fun s src d hs h hok hbusy =>
      ⟨⟨_, onWrite_eq _ hs h, State.mrTblOp_zero_refused 1 hok hbusy⟩,
        ⟨_, onWrite_eq _ hs h, State.mrTblOp_zero_refused 2 hok hbusy⟩⟩
  case shaper =>
    exact fun s src d index tok hs h hok hbusy howned =>
      ⟨⟨_, onWrite_eq _ hs h, State.shpOp_owned_refused tok hok hbusy (.inl rfl) howned⟩,
        ⟨_, onWrite_eq _ hs h, State.shpOp_owned_refused tok hok hbusy (.inr rfl) howned⟩⟩

end Sys2Proof.Machine

/-! PROOFS of the statements of chapter 7: the commands of the host configuration and binding tables, and those of the Fabric Manager
that ask for information, bind and tunnel. -/

namespace Sys2Proof.Machine

/-! ## The commands of the host configuration and binding tables -/

/-- Settles O14: a host's configuration accesses and decoder commits are events of the port's die, and the commands of the binding
tables pass the guard of register writes. -/
theorem hostConfigTablesComplete : Obligations.HostConfigTablesComplete := by
  refine ⟨?hdmConfigAccess, ?hostConfigRequest, ?hostDecoderCommit, ?hostDecoderCommitClear, ?bdTblRead, ?bdTblWrite, ?bdTblClear,
    ?bdSetMirror⟩
  case hdmConfigAccess => exact fun s v n k acc h => (onDie_eq _ h : execHdmConfigAccess v n k acc s = _)
  case hostConfigRequest => exact fun s v goal acc h => (runOn_eq _ h : execHostConfigRequest v goal acc s = _)
  case hostDecoderCommit =>
    exact fun s v n base size ways gran targets h => (onDie_eq _ h : execHostDecoderCommit v n base size ways gran targets s = _)
  case hostDecoderCommitClear => exact fun s v n h => (onDie_eq _ h : execHostDecoderCommitClear v n s = _)
  case bdTblRead => exact fun s src d table index hs h => onWrite_eq _ hs h
  case bdTblWrite => exact fun s src d table index hs h => onWrite_eq _ hs h
  case bdTblClear => exact fun s src d table index hs h => onWrite_eq _ hs h
  case bdSetMirror => exact fun s src d table index hs h => onWrite_eq _ hs h

/-! ## The commands of the Fabric Manager -/

/-- A started command that no row has, or that its kind of message may not carry, is answered Unsupported. -/
theorem exec_unsupportedOpcode_of_unknown {s : State} {c : Fin 5} {cmd : Cmd} (h : s.live)
    (hrunning : (s.chan 0 c).running = some cmd) (hunknown : ¬(knownOps.contains cmd.opcode ∧ cmd.typeOk)) :
    exec (.unsupportedOpcode c) s = .next (s.respond 0 c .unsupported .none).finish := by
  change execUnsupportedOpcode c s = _
  rw [execUnsupportedOpcode, runPkg_eq _ h]
  simp only [hrunning, if_neg hunknown]

/-- Settles O15: each command but the unsupported opcode is one that its channel has started under its own opcode. -/
theorem fmInformationComplete : Obligations.FmInformationComplete := by
  refine ⟨?identifySwitchDevice, ?getPhysicalPortState, ?physicalPortControl, ?sendPpbConfigRequest, ?getVirtualCxlSwitchInfo,
    ?getBindingTable, ?unsupportedOpcode, ?identify, ?backgroundOperationStatus, ?getResponseMessageLimit,
    ?setResponseMessageLimit, ?getFwInfo⟩
  case identifySwitchDevice => exact fun s c cmd h => (onCmd_eq _ h : execIdentifySwitchDevice c s = _)
  case getPhysicalPortState => exact fun s c ports cmd h => (onCmd_eq _ h : execGetPhysicalPortState c ports s = _)
  case physicalPortControl => exact fun s c port act cmd h => (onCmd_eq _ h : execPhysicalPortControl c port act s = _)
  case sendPpbConfigRequest =>
    exact fun s c port reg put got cmd h => (onCmd_eq _ h : execSendPpbConfigRequest c port reg put got s = _)
  case getVirtualCxlSwitchInfo =>
    exact fun s c vcss start count cmd h => (onCmd_eq _ h : execGetVirtualCxlSwitchInfo c vcss start count s = _)
  case getBindingTable => exact fun s c vcs cmd h => (onCmd_eq _ h : execGetBindingTable c vcs s = _)
  case unsupportedOpcode => exact fun s c cmd h hrunning hunknown => exec_unsupportedOpcode_of_unknown h hrunning hunknown
  case identify => exact fun s c cmd h => (onCmd_eq _ h : execIdentify c s = _)
  case backgroundOperationStatus => exact fun s c cmd h => (onCmd_eq _ h : execBackgroundOperationStatus c s = _)
  case getResponseMessageLimit => exact fun s c cmd h => (onCmd_eq _ h : execGetResponseMessageLimit c s = _)
  case setResponseMessageLimit => exact fun s c n cmd h => (onCmd_eq _ h : execSetResponseMessageLimit c n s = _)
  case getFwInfo => exact fun s c versions cmd h => (onCmd_eq _ h : execGetFwInfo c versions s = _)

/-- Settles O16: each command of the Fabric Manager is one that its channel has started under its own opcode, and the ends of a
binding, a drain and an unbind time are events of the slot's die. -/
theorem fmBindingComplete : Obligations.FmBindingComplete := by
  refine ⟨?bindVppb, ?vppbBindingDone, ?unbindVppb, ?unbindDrainDone, ?unbindTmoExpiry, ?generateAerEvent,
    ?tunnelManagementCommand, ?sendLdConfigRequest, ?sendLdMemoryRequest, ?mldComponentCommand, ?dcdManagementCommand, ?setLdShare⟩
  case bindVppb => exact fun s c vcs n port ld cmd h => (onCmd_eq _ h : execBindVppb c vcs n port ld s = _)
  case vppbBindingDone => exact fun s d slot h => (onDie_eq _ h : execVppbBindingDone d slot s = _)
  case unbindVppb => exact fun s c vcs n option cmd h => (onCmd_eq _ h : execUnbindVppb c vcs n option s = _)
  case unbindDrainDone => exact fun s d slot h => (runOn_eq _ h : execUnbindDrainDone d slot s = _)
  case unbindTmoExpiry => exact fun s d slot h => (runOn_eq _ h : execUnbindTmoExpiry d slot s = _)
  case generateAerEvent => exact fun s c vcs n bytes cmd h => (onCmd_eq _ h : execGenerateAerEvent c vcs n bytes s = _)
  case tunnelManagementCommand =>
    exact fun s c port ld opcode bytes got cmd h =>
      (onCmd_eq _ h : execTunnelManagementCommand c port ld opcode bytes got s = _)
  case sendLdConfigRequest =>
    exact fun s c port ld reg put got cmd h => (onCmd_eq _ h : execSendLdConfigRequest c port ld reg put got s = _)
  case sendLdMemoryRequest =>
    exact fun s c port ld addr len put got cmd h =>
      (onCmd_eq _ h : execSendLdMemoryRequest c port ld addr len put got s = _)
  case mldComponentCommand =>
    exact fun s c port bytes got cmd h => (onCmd_eq _ h : execMldComponentCommand c port bytes got s = _)
  case dcdManagementCommand =>
    exact fun s c port ld bytes got cmd h => (onCmd_eq _ h : execDcdManagementCommand c port ld bytes got s = _)
  case setLdShare => exact fun s c port ld share cmd h => (onCmd_eq _ h : execSetLdShare c port ld share s = _)

end Sys2Proof.Machine

/-! PROOFS of the statement of chapter 8: the commands of the coherency agent. -/

namespace Sys2Proof.Machine

/-! ## The commands of the coherency agent -/

/-- Settles O18: the operations of CA_TBL_CMD pass the guard of register writes, and every other command is an event of its die, which a
BIRsp is by its kind. -/
theorem agentComplete : Obligations.AgentComplete := by
  refine ⟨?agentMessage, ?deviceResponsePass, ?snoopIssue, ?birspReceive, ?birspHoldRelease, ?biconflict, ?snoopTimeout, ?caTblRead,
    ?caRegionWrite, ?caRegionClear, ?caLoftLookup, ?loftWalkStart, ?loftWalkEnd⟩
  case agentMessage => exact fun s d bad h => (runOn_eq _ h : execAgentMessage d bad s = _)
  case deviceResponsePass => exact fun s d trkDie trk h => (runOn_eq _ h : execDeviceResponsePass d trkDie trk s = _)
  case snoopIssue => exact fun s d h => (runOn_eq _ h : execSnoopIssue d s = _)
  case birspReceive => exact fun s d tag v kind h k => (runOn_of_pos _ h k : execBirspReceive d tag v kind s = _)
  case birspHoldRelease => exact fun s d h => (runOn_eq _ h : execBirspHoldRelease d s = _)
  case biconflict => exact fun s d v quad ld line tag h => (runOn_eq _ h : execBiconflict d v quad ld line tag s = _)
  case snoopTimeout => exact fun s d tag h => (runOn_eq _ h : execSnoopTimeout d tag s = _)
  case caTblRead => exact fun s src d table index hs h => onWrite_eq _ hs h
  case caRegionWrite => exact fun s src d table index hs h => onWrite_eq _ hs h
  case caRegionClear => exact fun s src d table index hs h => onWrite_eq _ hs h
  case caLoftLookup => exact fun s src d table index hs h => onWrite_eq _ hs h
  case loftWalkStart => exact fun s d h => (runOn_eq _ h : execLoftWalkStart d s = _)
  case loftWalkEnd => exact fun s d h => (runOn_eq _ h : execLoftWalkEnd d s = _)

end Sys2Proof.Machine

/-! PROOFS of the statements of chapter 9: the commands of the mirror and of the migration overlay. -/

namespace Sys2Proof.Machine

/-! ## The commands of the mirror -/

/-- A read of a mirrored group is returned to the die that chose its copy (R278). -/
theorem execMirrorReadReturn_of_chooser {s : State} {d trkDie : Fin 8} {trk : Fin 16384} {x : Trk} (h : s.ready d)
    (hx : s.trk trkDie trk = some x) (k : x.mirror.isSome ∧ readsMem x.kind ∧ s.chooser trkDie x = d) :
    execMirrorReadReturn d trkDie trk s = .next (s.reissue trkDie trk).finish := by
  rw [execMirrorReadReturn, runOn_eq _ h]
  simp only [hx, if_pos k]

/-- Poisoned data reaches the tracker of a mirrored read (R279). -/
theorem execPoisonedReadRepair_of_mirrored {s : State} {d : Fin 8} {trk : Fin 16384} {x : Trk} (data : Nat) (h : s.ready d)
    (hx : s.trk d trk = some x) (k : x.mirror.isSome ∧ readsData x.kind) :
    execPoisonedReadRepair d trk data s = .next (s.poisonedRead d trk [data] none).finish := by
  rw [execPoisonedReadRepair, runOn_eq _ h]
  simp only [hx, if_pos k]

/-- blk_gap passes while a resilver waits for it (R287). -/
theorem execBlkGapExpiry_of_gap {s : State} {d : Fin 8} {r : Resilver} (h : s.ready d) (hr : (s.mrd d).resilver = some r)
    (k : r.gap) :
    execBlkGapExpiry d s = .next (s.updMr d fun m => { m with resilver := some { r with gap := false } }).finish := by
  rw [execBlkGapExpiry, runOn_eq _ h]
  simp only [hr, if_pos k]

/-- Settles O19: the operations of MR_TBL_CMD pass the guard of register writes, and every other command is an event of its die. A
returned read and poisoned data need their tracker, a request to arm a guard needs lines that one guard covers and a port of the
die, and blk_gap needs its resilver. -/
theorem mirrorComplete : Obligations.MirrorComplete := by
  refine ⟨?writeCopyNdr, ?copyTmoExpiry, ?mirrorReadReturn, ?poisonedReadRepair, ?guardArmRequest, ?guardAck, ?pairQuery,
    ?pairQueryAnswered, ?guardedRewrite, ?copyStateMessage, ?mrTblRead, ?mrTblWrite, ?mrTblClear, ?mrCopyFail, ?mrCopyResilver,
    ?mrCopyForceHealthy, ?mrCopyStopResilver, ?resilverStateAck, ?resilverBlockDone, ?blkGapExpiry⟩
  case writeCopyNdr => exact fun s d trk copy h => (runOn_eq _ h : execWriteCopyNdr d trk copy s = _)
  case copyTmoExpiry => exact fun s d trk copy h => (runOn_eq _ h : execCopyTmoExpiry d trk copy s = _)
  case mirrorReadReturn => exact fun s d trkDie trk x h hx k => execMirrorReadReturn_of_chooser h hx k
  case poisonedReadRepair => exact fun s d trk data x h hx k => execPoisonedReadRepair_of_mirrored data h hx k
  case guardArmRequest =>
    exact fun s d chooser grp copy port ld lines h k =>
      (runOn_of_pos _ h k : execGuardArmRequest d chooser grp copy port ld lines s = _)
  case guardAck => exact fun s d grp copy lines h => (runOn_eq _ h : execGuardAck d grp copy lines s = _)
  case pairQuery => exact fun s d chooser grp copy lines h => (runOn_eq _ h : execPairQuery d chooser grp copy lines s = _)
  case pairQueryAnswered => exact fun s d grp copy line h => (runOn_eq _ h : execPairQueryAnswered d grp copy line s = _)
  case guardedRewrite =>
    exact fun s d chooser grp copy line poison data h =>
      (runOn_eq _ h : execGuardedRewrite d chooser grp copy line poison data s = _)
  case copyStateMessage => exact fun s d from_ m h => (runOn_eq _ h : execCopyStateMessage d from_ m s = _)
  case mrTblRead => exact fun s src d index hs h => onWrite_eq _ hs h
  case mrTblWrite => exact fun s src d index hs h => onWrite_eq _ hs h
  case mrTblClear => exact fun s src d index hs h => onWrite_eq _ hs h
  case mrCopyFail => exact fun s src d index copy hs h => onWrite_eq _ hs h
  case mrCopyResilver => exact fun s src d index copy hs h => onWrite_eq _ hs h
  case mrCopyForceHealthy => exact fun s src d index copy hs h => onWrite_eq _ hs h
  case mrCopyStopResilver => exact fun s src d index copy hs h => onWrite_eq _ hs h
  case resilverStateAck => exact fun s d h => (runOn_eq _ h : execResilverStateAck d s = _)
  case resilverBlockDone => exact fun s d line h => (runOn_eq _ h : execResilverBlockDone d line s = _)
  case blkGapExpiry => exact fun s d r h hr k => execBlkGapExpiry_of_gap h hr k

/-! ## The commands of the migration overlay -/

/-- Settles O20: the operations of OV_CMD pass the guard of register writes, and every other command is an event of its die. -/
theorem overlayComplete : Obligations.OverlayComplete := by
  refine ⟨?ovLookup, ?ovStart, ?ovAbort, ?ovClear, ?lineCopyReadReturn, ?lineCopyDone, ?migrationDrained, ?dualWriteNdr⟩
  case ovLookup => exact fun s src d hs h => onWrite_eq _ hs h
  case ovStart => exact fun s src d hs h => onWrite_eq _ hs h
  case ovAbort => exact fun s src d hs h => onWrite_eq _ hs h
  case ovClear => exact fun s src d hs h => onWrite_eq _ hs h
  case lineCopyReadReturn =>
    exact fun s d slot line poison data h => (runOn_eq _ h : execLineCopyReadReturn d slot line poison data s = _)
  case lineCopyDone => exact fun s d slot line h => (runOn_eq _ h : execLineCopyDone d slot line s = _)
  case migrationDrained => exact fun s d slot h => (runOn_eq _ h : execMigrationDrained d slot s = _)
  case dualWriteNdr => exact fun s d tag newCopy h => (runOn_eq _ h : execDualWriteNdr d tag newCopy s = _)

end Sys2Proof.Machine

/-! PROOFS of the statements of chapter 10: the commit of arbitration, and the commands of the scheduler and shapers. -/

namespace Sys2Proof.Machine

/-! ## The commit of arbitration (R304) -/

/-- The level that a commit would give entry `e` of output `q`: that of its shadow, if one was written. -/
def State.committedLevel (s : State) (d q e : Nat) : Nat :=
  (Tbl.get s.staged (fkey (F.SC_ARB_PRIO_q_level e) (idxL d 0 q))).getD (s.rd (F.SC_ARB_PRIO_q_level e) (idxL d 0 q))

/-- A commit asks for TC8 (entry 5) to be no higher in number than TC3 and TC4 (entries 1 and 2) on every output. -/
theorem State.arbOk_iff (s : State) (d : Nat) :
    s.arbOk d = true ↔
      ∀ q < 16, s.committedLevel d q 5 ≤ s.committedLevel d q 1 ∧ s.committedLevel d q 5 ≤ s.committedLevel d q 2 := by
  simp only [State.arbOk, upTo, List.all_eq_true, List.mem_range, Bool.and_eq_true, decide_eq_true_eq]
  rfl

/-- TC8 would wait on some output, so the levels are not in order on all of them. -/
theorem State.arbOk_of_waits {s : State} {d q : Nat} (hq : q < 16)
    (hwaits : s.committedLevel d q 1 < s.committedLevel d q 5 ∨ s.committedLevel d q 2 < s.committedLevel d q 5) :
    s.arbOk d = false := by
  refine Bool.eq_false_iff.mpr fun hok => ?_
  obtain ⟨htc3, htc4⟩ := (s.arbOk_iff d).mp hok q hq
  omega

/-- Of a refused commit only the event remains. -/
theorem State.scCommit_refused {s : State} {d : Nat} (h : s.arbOk d = false) :
    s.scCommit d = s.ev F.SC_EVENT_arb_refused (dieL d) 0 :=
  if_pos (by rw [h]; rfl)

/-- A commit that is not refused is a boundary for the arbitration registers of every output. -/
theorem State.scCommit_taken {s : State} {d : Nat} (h : s.arbOk d = true) :
    s.scCommit d = s.forEach (upTo 16) fun s q =>
      s.forEach [.SC_ARB_PRIO_q, .SC_ARB_WGT0_q, .SC_ARB_WGT1_q, .SC_ARB_WGT2_q, .SC_ARB_STARVE_q] fun s r =>
        s.commitReg r (idxL d 0 q) :=
  if_neg (by rw [h]; exact Bool.false_ne_true)

/-- Settles O55: the command passes the guard of register writes, and the levels that it would give decide between the event alone
and the boundary. -/
theorem arbitrationCommit : Obligations.ArbitrationCommit := by
  intro s src d hs h hok level
  have hcommit : exec (.scCommit src d) s = .next (s.scCommit d).finish := onWrite_eq _ hs h
  refine ⟨?refused, ?taken⟩
  case refused =>
    rintro ⟨q, hq, hwaits⟩
    rw [State.scCommit_refused (State.arbOk_of_waits hq hwaits)] at hcommit
    exact ⟨_, hcommit, State.ev_onlyLogs _ _ _ hok (by decide) (by decide) (.same s _),
      State.rd_evD_same _ _ _ _ _ hok (by decide) (by decide)⟩
  case taken =>
    intro hlevels
    rwa [State.scCommit_taken ((s.arbOk_iff d).mpr hlevels)] at hcommit

/-! ## The commands of the scheduler and shapers -/

/-- Settles O21: the commit and the operations of SC_SHP_CMD pass the guard of register writes, and every other command is an event of
its die. -/
theorem schedulerComplete : Obligations.SchedulerComplete := by
  refine ⟨?starvePromotion, ?scCommit, ?wheelSlot, ?scShpRead, ?scShpWrite, ?scShpClear, ?shaperWriteEffect, ?policerCreditReturn⟩
  case starvePromotion => exact fun s d o e h => (runOn_eq _ h : execStarvePromotion d o e s = _)
  case scCommit => exact fun s src d hs h => onWrite_eq _ hs h
  case wheelSlot => exact fun s d h => (runOn_eq _ h : execWheelSlot d s = _)
  case scShpRead => exact fun s src d index hs h => onWrite_eq _ hs h
  case scShpWrite => exact fun s src d index tokReset hs h => onWrite_eq _ hs h
  case scShpClear => exact fun s src d index tokReset hs h => onWrite_eq _ hs h
  case shaperWriteEffect => exact fun s d h => (runOn_eq _ h : execShaperWriteEffect d s = _)
  case policerCreditReturn => exact fun s d q c h => (runOn_eq _ h : execPolicerCreditReturn d q c s = _)

end Sys2Proof.Machine

/-! PROOFS of the statements of chapter 11: the commands of the data movers, and what doorbells and writes of cq_head do. -/

namespace Sys2Proof.Machine

/-! ## Work for a domain of the die base -/

/-- The states of domains 16 to 21 stand in PD_DOM_STATE1. -/
theorem State.setDom_upper (s : State) (d : Nat) {k : Nat} (v : Nat) (hlo : 16 ≤ k) (hhi : k < 22) :
    s.setDom d k v = s.wr (F.PD_DOM_STATE1_state_d16_d21 (k - 16)) (dieL d) v := by
  rw [State.setDom, if_neg (Nat.not_lt.mpr hlo), if_pos hhi]

/-- Work for such a domain changes its state and what is known of its idleness. -/
theorem State.wake_onlyLogs {s : State} (d : Nat) {k : Nat} (rs : List Reg) (h : s.regsOk = true) (hlo : 16 ≤ k) (hhi : k < 22) :
    s.onlyLogs (s.wake d k) rs := by
  have hfield : (F.PD_DOM_STATE1_state_d16_d21 (k - 16)).lo < 32 := by
    simp only [F.PD_DOM_STATE1_state_d16_d21]
    omega
  have hreg : (F.PD_DOM_STATE1_state_d16_d21 (k - 16)).reg ∈ logRegs := by simp [logRegs, F.PD_DOM_STATE1_state_d16_d21]
  unfold State.wake
  dsimp only
  rw [State.setDom_upper _ _ _ hlo hhi]
  split
  · exact ⟨rfl, fun g m hg hlog _ => State.rd_wr_reg (s := { s with lastWork := _, waking := _ }) 3 h hfield hg
      fun e => hlog (e ▸ hreg)⟩
  · exact ⟨rfl, fun _ _ _ _ _ => rfl⟩

/-- So every field outside the log registers reads as before. -/
theorem State.rd_wake {s : State} {d k : Nat} {g : Fld} (m : Loc) (h : s.regsOk = true) (hlo : 16 ≤ k) (hhi : k < 22)
    (hg : g.lo < 32) (hlog : g.reg ∉ logRegs) : (s.wake d k).rd g m = s.rd g m :=
  (State.wake_onlyLogs d [] h hlo hhi).2 g m hg hlog List.not_mem_nil

/-- The domain of an engine is 17 or 18. -/
theorem engDom_bounds (e : Nat) : 16 ≤ engDom e ∧ engDom e < 22 := by
  unfold engDom
  split
  · decide
  · decide

/-! ## Doorbells (Table 11.5) -/

section
variable {s : State} {d q : Nat}

theorem State.qst_wake {k : Nat} (h : s.regsOk = true) (hlo : 16 ≤ k) (hhi : k < 22) : (s.wake d k).qst d q = s.qst d q :=
  State.rd_wake _ h hlo hhi (by decide) (by decide)

theorem State.qEng_wake {k : Nat} (h : s.regsOk = true) (hlo : 16 ≤ k) (hhi : k < 22) : (s.wake d k).qEng d q = s.qEng d q :=
  State.rd_wake _ h hlo hhi (by decide) (by decide)

/-- A doorbell is work for the engine's domain and leaves the state of the queue. -/
theorem State.qst_wake_engine (h : s.regsOk = true) : (s.wake d (engDom (s.qEng d q))).qst d q = s.qst d q :=
  State.qst_wake h (engDom_bounds _).1 (engDom_bounds _).2

/-- An Active or a Paused queue is scanned again. -/
theorem State.doorbell_rescan (h : s.regsOk = true) (hst : s.qst d q = 2 ∨ s.qst d q = 4) :
    s.doorbell d q = (s.wake d (engDom (s.qEng d q))).on F.DM_Q_STATUS_rescan (unitL d q) := by
  have hsame := State.qst_wake_engine (d := d) (q := q) h
  unfold State.doorbell
  rcases hst with hst | hst
  · simp only [hsame, hst]
  · simp only [hsame, hst]

/-- A Disabled, Halted or Draining queue ignores the doorbell. -/
theorem State.doorbell_ignored (h : s.regsOk = true) (hst : s.qst d q = 0 ∨ 5 ≤ s.qst d q) :
    s.doorbell d q = (s.wake d (engDom (s.qEng d q))).inc F.DM_CNT_MISC_db_ignored (dieL d) := by
  have hsame := State.qst_wake_engine (d := d) (q := q) h
  unfold State.doorbell
  dsimp only
  split
  case h_5 => rfl
  all_goals omega

end

/-- Through a page a doorbell is discarded at a slot beyond the listed queues, and where the page does not hear (R351, R358). -/
theorem State.onPage_discarded {s : State} {src : Src} {d i j : Nat} (f : Nat → State → State) (hpage : s.pageFor src d i = true)
    (h : (s.inst d i).queues.length ≤ j ∨ (s.inst d i).deaf = true) :
    s.onPage src d i j true f = s.inc F.PN_CNT_MISC_db_discard (dieL d) := by
  simp only [State.onPage, hpage, if_true, Bool.true_and]
  split
  · rfl
  case h_2 q hq =>
    obtain ⟨hlt, -⟩ := List.getElem?_eq_some_iff.mp hq
    rw [if_pos (h.resolve_left (Nat.not_le.mpr hlt))]

theorem exec_dmDoorbell_page_discarded {s : State} {src : Src} {d : Fin 8} {i : Fin 512} {j : Fin 16} (h : s.writable src d)
    (hpage : s.pageFor src d i = true) (hdiscard : (s.inst d i).queues.length ≤ j.val ∨ (s.inst d i).deaf = true) :
    exec (.dmDoorbell src d (.page i j)) s = .next ((s.wake d 19).inc F.PN_CNT_MISC_db_discard (dieL d)).finish := by
  have hwake : (s.wake d 19).pageFor src d i = true := (State.wake_pageFor ..).trans hpage
  have hreach : ((tenantOf src).isNone || s.pageFor src d i) = true := by rw [hpage, Bool.or_true]
  calc exec (.dmDoorbell src d (.page i j)) s
      = anyWrite src d s fun s => (s.wake d 19).onPage src d i j true fun q s => s.doorbell d q := if_pos hreach
    _ = .next ((s.wake d 19).onPage src d i j true fun q s => s.doorbell d q).finish := anyWrite_eq _ h
    _ = _ := by rw [State.onPage_discarded _ hwake (by rwa [State.wake_inst])]

/-! ## Writes of cq_head (R337) -/

/-- The completions from `head` to `x`, modulo 2^32. -/
def cqAhead (head x : Nat) : Nat := (x + 2 ^ 32 - head) % 2 ^ 32

section
variable {s : State} {d q v : Nat}

theorem State.cqHead_taken
    (h : cqAhead (s.rd F.DM_Q_CQ_HEAD_cq_head (unitL d q)) v ≤
      cqAhead (s.rd F.DM_Q_CQ_HEAD_cq_head (unitL d q)) (s.rd F.DM_Q_CQ_TAIL_cq_tail (unitL d q))) :
    s.cqHead d q v = (s.wr F.DM_Q_CQ_HEAD_cq_head (unitL d q) v).retGo d q :=
  if_pos h

theorem State.cqHead_bad
    (h : cqAhead (s.rd F.DM_Q_CQ_HEAD_cq_head (unitL d q)) (s.rd F.DM_Q_CQ_TAIL_cq_tail (unitL d q)) <
      cqAhead (s.rd F.DM_Q_CQ_HEAD_cq_head (unitL d q)) v) :
    s.cqHead d q v = s.ev F.DM_EVENT_cq_head_bad (dieL d) q :=
  if_neg (Nat.not_le.mpr h)

end

/-- Settles O57: the state of the queue, the page, and the completions ahead decide what is written. -/
theorem queueWrites : Obligations.QueueWrites := by
  refine ⟨?doorbell, ?page, ?cqHead⟩
  case doorbell =>
    intro s src d q hs h hok
    have hwake : (s.wake d 19).regsOk = true := State.wake_ok s d 19 hok
    have hst : (s.wake d 19).qst d q = s.qst d q := State.qst_wake hok (by decide) (by decide)
    have heng : (s.wake d 19).qEng d q = s.qEng d q := State.qEng_wake hok (by decide) (by decide)
    have hdoorbell : exec (.dmDoorbell src d (.reg q)) s = .next ((s.wake d 19).doorbell d q).finish := onWrite_eq _ hs h
    refine ⟨fun hrescan => ?_, fun hignored => ?_⟩
    · rw [hdoorbell, State.doorbell_rescan hwake (hst ▸ hrescan), heng]
    · rw [hdoorbell, State.doorbell_ignored hwake (hst ▸ hignored), heng]
  case page => exact fun s src d i j h hpage hdiscard => exec_dmDoorbell_page_discarded h hpage hdiscard
  case cqHead =>
    intro s src d q v hs h hok head ahead tail
    have hwake : (s.wake d 19).regsOk = true := State.wake_ok s d 19 hok
    have hhead : (s.wake d 19).rd F.DM_Q_CQ_HEAD_cq_head (unitL d q) = head :=
      State.rd_wake _ hok (by decide) (by decide) (by decide) (by decide)
    have htail : (s.wake d 19).rd F.DM_Q_CQ_TAIL_cq_tail (unitL d q) = tail :=
      State.rd_wake _ hok (by decide) (by decide) (by decide) (by decide)
    have hwrite : exec (.cqHeadWrite src d (.reg q) v) s = .next ((s.wake d 19).cqHead d q v.toNat).finish := onWrite_eq _ hs h
    refine ⟨fun htaken => ?_, fun hbad => ?_⟩
    · rw [hwrite, State.cqHead_taken (by rw [hhead, htail]; exact htaken)]
    · rw [State.cqHead_bad (by rw [hhead, htail]; exact hbad)] at hwrite
      exact ⟨_, hwrite, State.ev_onlyLogs _ _ _ hwake (by decide) (by decide) (State.wake_onlyLogs d _ hok (by decide) (by decide)),
        State.rd_evD_same _ _ _ _ _ hwake (by decide) (by decide)⟩

/-! ## The commands of the data movers -/

/-- Settles O22: a write to a queue passes the guard of register writes or that of its doorbell page, and every other command is an
event of its die. -/
theorem dataMoverComplete : Obligations.DataMoverComplete := by
  refine ⟨?doorbellReg, ?doorbellPage, ?scanReadReturn, ?engineArbitration, ?dmLineResponse, ?descriptorRetire, ?migrateReply,
    ?linkRereadReturn, ?enable, ?disable, ?pauseReg, ?pausePage, ?unpauseReg, ?unpausePage, ?resumeReg, ?resumePage,
    ?invalidateReg, ?invalidatePage, ?cqHeadReg, ?cqHeadPage⟩
  case doorbellReg => exact fun s src d q hs h => (onWrite_eq _ hs h : execDmDoorbell src d (.reg q) s = _)
  case doorbellPage => exact fun s src d i j q h hpage hhears hq =>
    (onQueue_page _ h hpage hhears hq : execDmDoorbell src d (.page i j) s = _)
  case scanReadReturn => exact fun s d tag line poison h => (runOn_eq _ h : execScanReadReturn d tag line poison s = _)
  case engineArbitration => exact fun s d e h => (runOn_eq _ h : execEngineArbitration d e s = _)
  case dmLineResponse => exact fun s d tag line poison h => (runOn_eq _ h : execDmLineResponse d tag line poison s = _)
  case descriptorRetire => exact fun s d q h => (runOn_eq _ h : execDescriptorRetire d q s = _)
  case migrateReply => exact fun s d tag answer h => (runOn_eq _ h : execMigrateReply d tag answer s = _)
  case linkRereadReturn => exact fun s d tag line poison h => (runOn_eq _ h : execLinkRereadReturn d tag line poison s = _)
  case enable => exact fun s src d q hs h => (onWrite_eq _ hs h : execDmQEnable src d q s = _)
  case disable => exact fun s src d q hs h => (onWrite_eq _ hs h : execDmQDisable src d q s = _)
  case pauseReg => exact fun s src d q hs h => (onWrite_eq _ hs h : execDmQPause src d (.reg q) s = _)
  case pausePage => exact fun s src d i j q h hpage hq => (onQueue_page _ h hpage rfl hq : execDmQPause src d (.page i j) s = _)
  case unpauseReg => exact fun s src d q hs h => (onWrite_eq _ hs h : execDmQUnpause src d (.reg q) s = _)
  case unpausePage => exact fun s src d i j q h hpage hq => (onQueue_page _ h hpage rfl hq : execDmQUnpause src d (.page i j) s = _)
  case resumeReg => exact fun s src d q hs h => (onWrite_eq _ hs h : execDmQResume src d (.reg q) s = _)
  case resumePage => exact fun s src d i j q h hpage hq => (onQueue_page _ h hpage rfl hq : execDmQResume src d (.page i j) s = _)
  case invalidateReg => exact fun s src d q hs h => (onWrite_eq _ hs h : execDmQInvalidate src d (.reg q) s = _)
  case invalidatePage => exact fun s src d i j q h hpage hq =>
    (onQueue_page _ h hpage rfl hq : execDmQInvalidate src d (.page i j) s = _)
  case cqHeadReg => exact fun s src d q v hs h => (onWrite_eq _ hs h : execCqHeadWrite src d (.reg q) v s = _)
  case cqHeadPage => exact fun s src d i j v q h hpage hq =>
    (onQueue_page _ h hpage rfl hq : execCqHeadWrite src d (.page i j) v s = _)

end Sys2Proof.Machine

/-! PROOFS of the statement of chapter 12: the commands of the Pantry. -/

namespace Sys2Proof.Machine

/-! ## The commands of the Pantry -/

/-- Settles O23: the operations of a channel pass the guard of the Pantry's channels, the ends of a freeze and of stale output are
events of their die. -/
theorem pantryComplete : Obligations.PantryComplete := by
  refine ⟨?readEntry, ?create, ?remove, ?reset, ?setQueue, ?setShaper, ?setCounter, ?freeze, ?freezeComplete, ?freezeTmoExpiry,
    ?save, ?restore, ?thaw, ?staleOutZero⟩
  case readEntry => exact fun s src d chan i hown h hchan => (onPn_eq _ hown h hchan : execPnReadEntry src d chan i s = _)
  case create => exact fun s src d chan i hown h hchan => (onPn_eq _ hown h hchan : execPnCreate src d chan i s = _)
  case remove => exact fun s src d chan i hown h hchan => (onPn_eq _ hown h hchan : execPnRemove src d chan i s = _)
  case reset => exact fun s src d chan i hown h hchan => (onPn_eq _ hown h hchan : execPnReset src d chan i s = _)
  case setQueue => exact fun s src d chan i j hown h hchan => (onPn_eq _ hown h hchan : execPnSetQueue src d chan i j s = _)
  case setShaper =>
    exact fun s src d chan i j tokReset hown h hchan => (onPn_eq _ hown h hchan : execPnSetShaper src d chan i j tokReset s = _)
  case setCounter => exact fun s src d chan i k hown h hchan => (onPn_eq _ hown h hchan : execPnSetCounter src d chan i k s = _)
  case freeze => exact fun s src d chan i hown h hchan => (onPn_eq _ hown h hchan : execPnFreeze src d chan i s = _)
  case freezeComplete => exact fun s d i h k => (runOn_of_pos _ h k : execFreezeComplete d i s = _)
  case freezeTmoExpiry => exact fun s d i h k => (runOn_of_pos _ h k : execFreezeTmoExpiry d i s = _)
  case save => exact fun s src d chan i hown h hchan => (onPn_eq _ hown h hchan : execPnSave src d chan i s = _)
  case restore => exact fun s src d chan i hown h hchan => (onPn_eq _ hown h hchan : execPnRestore src d chan i s = _)
  case thaw => exact fun s src d chan i hown h hchan => (onPn_eq _ hown h hchan : execPnThaw src d chan i s = _)
  case staleOutZero => exact fun s d i h k => (runOn_of_pos _ h k : execStaleOutZero d i s = _)

end Sys2Proof.Machine

/-! PROOFS of the statements of chapter 13: an event and its bit, the layout of a log record, and the commands of the RAS unit. -/

namespace Sys2Proof.Machine

/-! ## Events -/

/-- Settles O42, by what an event shows at its own bit and at every other field. -/
theorem eventSetsItsBit : Obligations.EventSetsItsBit := by
  intro s f l unit cls detail hok hf hlog hwidth t
  refine ⟨?_, State.evD_logless _ _ _ _ _ _, fun g m hg hglog hne => State.rd_evD_other f l unit cls detail hok hf hg hglog hne⟩
  exact (State.rd_evD_same f l unit cls detail hok hf hlog).trans (Nat.mod_eq_of_lt (Nat.one_lt_two_pow hwidth.ne'))

/-! ## Log records (Table 13.8) -/

/-- Word `k` of entry `n` of the ring of die `d`. -/
def ringL (d n k : Nat) : Loc := idxL d 0 (n % 256 * 4 + k)

theorem ringL_ne {d n j k : Nat} (h : j ≠ k) : ringL d n j ≠ ringL d n k := by
  intro e
  have hidx : n % 256 * 4 + j = n % 256 * 4 + k := congrArg Loc.idx e
  omega

/-- Word `k` of the next entry is written. -/
def State.ringWord (s : State) (d n k v : Nat) : State := s.wr F.RS_LOG_r_word (ringL d n k) v

section
variable {s : State} {d n j k : Nat} (v : Nat)

theorem State.ringWord_ok (h : s.regsOk = true) : (s.ringWord d n k v).regsOk = true := State.wr_ok _ _ _ _ h

theorem State.rd_ringWord_same (h : s.regsOk = true) : (s.ringWord d n k v).rd F.RS_LOG_r_word (ringL d n k) = v % 2 ^ 32 :=
  State.rd_wr_same _ _ _ h

theorem State.rd_ringWord_other (h : s.regsOk = true) (hne : j ≠ k) :
    (s.ringWord d n k v).rd F.RS_LOG_r_word (ringL d n j) = s.rd F.RS_LOG_r_word (ringL d n j) :=
  State.rd_wr_other v h (by decide) (by decide) fun e => ringL_ne hne e.2.2

end

/-- The four words of record `n` stand in the ring. -/
def State.ringRecord (s : State) (d n w0 w1 w2 w3 : Nat) : State :=
  (((s.ringWord d n 0 w0).ringWord d n 1 w1).ringWord d n 2 w2).ringWord d n 3 w3

section
variable {s : State} {d n w0 w1 w2 w3 : Nat}

theorem State.ringRecord_ok (h : s.regsOk = true) : (s.ringRecord d n w0 w1 w2 w3).regsOk = true :=
  State.ringWord_ok _ (State.ringWord_ok _ (State.ringWord_ok _ (State.ringWord_ok _ h)))

theorem State.rd_ringRecord (h : s.regsOk = true) :
    let t := s.ringRecord d n w0 w1 w2 w3
    t.rd F.RS_LOG_r_word (ringL d n 0) = w0 % 2 ^ 32 ∧ t.rd F.RS_LOG_r_word (ringL d n 1) = w1 % 2 ^ 32 ∧
      t.rd F.RS_LOG_r_word (ringL d n 2) = w2 % 2 ^ 32 ∧ t.rd F.RS_LOG_r_word (ringL d n 3) = w3 % 2 ^ 32 := by
  have h0 := State.ringWord_ok (d := d) (n := n) (k := 0) w0 h
  have h1 := State.ringWord_ok (d := d) (n := n) (k := 1) w1 h0
  have h2 := State.ringWord_ok (d := d) (n := n) (k := 2) w2 h1
  refine ⟨?_, ?_, ?_, ?_⟩
  · rw [State.ringRecord, State.rd_ringWord_other _ h2 (by decide), State.rd_ringWord_other _ h1 (by decide),
      State.rd_ringWord_other _ h0 (by decide), State.rd_ringWord_same _ h]
  · rw [State.ringRecord, State.rd_ringWord_other _ h2 (by decide), State.rd_ringWord_other _ h1 (by decide),
      State.rd_ringWord_same _ h0]
  · rw [State.ringRecord, State.rd_ringWord_other _ h2 (by decide), State.rd_ringWord_same _ h1]
  · rw [State.ringRecord, State.rd_ringWord_same _ h2]

end

/-- The registers in which a record is counted and summarised, beside its words and HEAD. -/
def logCounts : List Reg := [.RS_CNT_CLASS, .RS_STATUS, .RS_EVENT]

/-- Counting a record shows in `logCounts` alone. -/
theorem State.rd_countClass {s : State} (d cls : Nat) {g : Fld} (m : Loc) (h : s.regsOk = true) (hg : g.lo < 32)
    (hn : g.reg ∉ logCounts) : (s.countClass d cls).rd g m = s.rd g m := by
  have hclass : g.reg ≠ .RS_CNT_CLASS := fun e => hn (by simp [logCounts, e])
  have hstatus : g.reg ≠ .RS_STATUS := fun e => hn (by simp [logCounts, e])
  unfold State.countClass
  split
  · exact State.rd_wr_reg _ h (by decide) hg hclass
  · exact State.rd_wr_reg _ h (by decide) hg hclass
  · exact (State.rd_wr_reg _ (State.wr_ok _ _ _ _ h) (by decide) hg hstatus).trans (State.rd_wr_reg _ h (by decide) hg hclass)
  · rfl

/-- A record with its HEAD, before it is counted. -/
def State.logEntry (s : State) (d blk bit cls unit detail : Nat) : State :=
  let n := s.rd F.RS_LOG_HEAD_head (dieL d)
  let s' := { s with recent := Tbl.set s.recent d (s.recents d ++ [Recent.mk blk bit unit cls (s.now d)]) [] }
  (s'.ringRecord d n (s.now d) (s.now d / 2 ^ 32) (2 ^ 28 * blk + 2 ^ 23 * bit + 2 ^ 20 * cls + unit % 2 ^ 16) detail).wr
    F.RS_LOG_HEAD_head (dieL d) (n + 1)

section
variable {s : State}

theorem State.logEntry_ok (d blk bit cls unit detail : Nat) (h : s.regsOk = true) :
    (s.logEntry d blk bit cls unit detail).regsOk = true :=
  State.wr_ok _ _ _ _ (State.ringRecord_ok h)

/-- A record is counted after its words and HEAD are written, and an overrun is then shown. -/
theorem State.rd_logPut (d blk bit cls unit detail : Nat) {g : Fld} (m : Loc) (h : s.regsOk = true) (hg : g.lo < 32)
    (hn : g.reg ∉ logCounts) :
    (s.logPut d blk bit cls unit detail).rd g m = (s.logEntry d blk bit cls unit detail).rd g m := by
  have hentry := State.logEntry_ok d blk bit cls unit detail h
  have hcounted := State.rd_countClass d cls m hentry hg hn
  have hevent : g.reg ≠ .RS_EVENT := fun e => hn (by simp [logCounts, e])
  unfold State.logPut
  extract_lets n w u t1 t2 t3 t4 t5 t6 t7
  change t7.rd g m = _ at hcounted
  split
  · exact (State.rd_wr_reg _ (State.countClass_ok _ d cls hentry) (by decide) hg hevent).trans hcounted
  · exact hcounted

end

/-- Settles O43: the words are those of the entry, and HEAD stands in a register of its own. -/
theorem logRecordLayout : Obligations.LogRecordLayout := by
  intro s d blk bit cls unit detail hok t n w
  have hword (k : Nat) : w k = (s.logEntry d blk bit cls unit detail).rd F.RS_LOG_r_word (ringL d n k) :=
    State.rd_logPut d blk bit cls unit detail _ hok (by decide) (by decide)
  have hhead : t.rd F.RS_LOG_HEAD_head (dieL d) = (s.logEntry d blk bit cls unit detail).rd F.RS_LOG_HEAD_head (dieL d) :=
    State.rd_logPut d blk bit cls unit detail _ hok (by decide) (by decide)
  rw [hword, hword, hword, hword, hhead]
  unfold State.logEntry
  extract_lets s'
  have hs' : s'.regsOk = true := hok
  have hring : (s'.ringRecord d n (s.now d) (s.now d / 2 ^ 32)
      (2 ^ 28 * blk + 2 ^ 23 * bit + 2 ^ 20 * cls + unit % 2 ^ 16) detail).regsOk = true := State.ringRecord_ok hs'
  obtain ⟨h0, h1, h2, h3⟩ := State.rd_ringRecord (d := d) (n := n) (w0 := s.now d) (w1 := s.now d / 2 ^ 32)
    (w2 := 2 ^ 28 * blk + 2 ^ 23 * bit + 2 ^ 20 * cls + unit % 2 ^ 16) (w3 := detail) hs'
  have hkeep (k : Nat) := State.rd_wr_reg (f := F.RS_LOG_HEAD_head) (g := F.RS_LOG_r_word) (l := dieL d) (m := ringL d n k)
    (n + 1) hring (by decide) (by decide) (by decide)
  exact ⟨(hkeep 0).trans h0, (hkeep 1).trans h1, (hkeep 2).trans h2, (hkeep 3).trans h3, State.rd_wr_same _ _ _ hring⟩

/-! ## The commands of the RAS unit -/

/-- An event of a die that may make work, where the condition that stops it does not hold. -/
theorem runOn_of_neg {d : Nat} {s : State} {c : State → Prop} [DecidablePred c] (f : State → State) (h : s.ready d) (k : ¬ c s) :
    runOn d s (fun s => if c s then s else f s) = .next (f s).finish := by
  rw [runOn_eq _ h, if_neg k]

/-- A truth value that is set does not stop an event that asks for its opposite. -/
theorem not_not_eq_true {b : Bool} (h : b = true) : ¬(!b) = true := by
  rw [h]
  decide

/-- Settles O24: fences and kicks of the watchdog pass the guard of register writes, and every other command is an event of its die. -/
theorem rasComplete : Obligations.RasComplete := by
  refine ⟨?fenceCmd, ?unfenceCmd, ?scrubStep, ?watchdogKick, ?watchdogExpiry, ?viralIndication⟩
  case fenceCmd => exact fun s src d q hs h => onWrite_eq _ hs h
  case unfenceCmd => exact fun s src d q hs h => onWrite_eq _ hs h
  case scrubStep => exact fun s d hit h hen => (runOn_of_neg _ h (not_not_eq_true hen) : execScrubStep d hit s = _)
  case watchdogKick => exact fun s src d v hs h => onWrite_eq _ hs h
  case watchdogExpiry => exact fun s d h k => (runOn_of_pos _ h k : execWatchdogExpiry d s = _)
  case viralIndication => exact fun s d q h k => (runOn_of_pos _ h k : execViralIndication d q s = _)

end Sys2Proof.Machine

/-! PROOFS of the statements of chapter 14: the loss of PGOOD, and the commands of the slot controllers. -/

namespace Sys2Proof.Machine

/-! ## Events of a slot -/

/-- An event of a slot whose condition holds. -/
theorem onSlot_of_pos {d q : Nat} {s : State} {c : Nat → State → Prop} [∀ p s, Decidable (c p s)] (f : Nat → State → State)
    (h : s.ready d) (hslot : s.isSlot (portNo d q) = true) (k : c (portNo d q) s) :
    onSlot d q s (fun p s => if c p s then f p s else s) = .next (f (portNo d q) s).finish := by
  rw [onSlot_eq _ h hslot, if_pos k]

/-- The presence pin is none of the pins of the package. -/
theorem State.prsntPin_pkg (s : State) (p : Nat) (low : Bool) : (s.prsntPin p low).pkg = s.pkg := by
  unfold State.prsntPin
  split
  · rfl
  · rfl

/-- A change of the presence pin of a slot, while the package is out of reset. -/
theorem onPrsnt_of_live {d q : Nat} {low : Bool} {s : State} (f : Nat → State → State) (hd : d < s.part.dies) (h : s.live)
    (hslot : (s.prsntPin (portNo d q) low).isSlot (portNo d q) = true) :
    onPrsnt d q low s f = .next (f (portNo d q) (s.prsntPin (portNo d q) low)).finish :=
  onPrsnt_eq f hd (by rw [State.live, State.prsntPin_pkg]; exact h) hslot

/-! ## PGOOD (R401) -/

/-- What the loss of PGOOD does to a slot. -/
theorem exec_pgoodLost_of_good {s : State} {d : Fin 8} {q : Fin 16} (h : s.ready d) (hslot : s.isSlot (portNo d q) = true)
    (k : s.slotState (portNo d q) = 5 ∧ s.flag F.SP_STATUS_pgood (portL (portNo d q))) :
    exec (.pgoodLost d q) s = .next
      ((s.off F.SP_STATUS_pgood (portL (portNo d q))).spEv F.SP_EVENT_pgood_lost (portNo d q) 0).finish :=
  (onSlot_of_pos _ h hslot k : execPgoodLost d q s = _)

/-- An event of a class shows as one of class 0 does. -/
theorem State.evC_onlyLogs {s t : State} {rs : List Reg} (f : Fld) (l : Loc) (unit cls : Nat) (h : t.regsOk = true) (hf : f.lo < 32)
    (hr : f.reg ∈ rs) (k : s.onlyLogs t rs) : s.onlyLogs (t.evC f l unit cls) rs := by
  obtain ⟨hbeside, hfields⟩ := k
  refine ⟨(State.evD_logless _ _ _ _ _ _).trans hbeside, fun g m hg hlog hn => ?_⟩
  rw [State.evC, State.rd_evD_other f l unit cls 0 h hf hg hlog fun e => hn (e.1 ▸ hr)]
  exact hfields g m hg hlog hn

/-- Settles O60: PGOOD, the state of the slot and the event are different fields. -/
theorem pgoodLossDoesNotTrip : Obligations.PgoodLossDoesNotTrip := by
  intro s d q h hslot hon hgood hok
  have hoff : (s.off F.SP_STATUS_pgood (portL (portNo d q))).regsOk = true := State.off_ok _ _ _ hok
  have hshown {g : Fld} (hg : g.lo < 32) (hlog : g.reg ∉ logRegs) (hne : g.reg ≠ .SP_EVENT) :=
    State.rd_evD_other F.SP_EVENT_pgood_lost (portL (portNo d q)) (portNo d q) 0 0 hoff (by decide) (m := portL (portNo d q)) hg hlog
      fun e => hne e.1
  refine ⟨_, exec_pgoodLost_of_good h hslot ⟨hon, hgood⟩, ?stays, ?frame, ?cleared, ?event⟩
  case stays =>
    refine ((hshown (by decide) (by decide) (by decide)).trans ?_).trans hon
    exact State.rd_wr_other 0 hok (by decide) (by decide) fun e => absurd e.2.1 (by decide)
  case frame =>
    exact State.evC_onlyLogs _ _ _ _ hoff (by decide) (by decide)
      (State.wr_onlyLogs _ _ _ hok (by decide) (by decide) (.same s _))
  case cleared => exact (hshown (by decide) (by decide) (by decide)).trans (State.rd_wr_same _ _ _ hok)
  case event => exact State.rd_evD_same _ _ _ _ _ hoff (by decide) (by decide)

/-! ## The commands of the slots -/

/-- Settles O25: the writes pass the guard of a slot's registers, a change of the presence pin shows first, and every other command is
an event of its slot. -/
theorem slotPowerComplete : Obligations.SlotPowerComplete := by
  refine ⟨?slotEnWrite, ?prsntFall, ?presenceConfirmed, ?prsntRise, ?slotPowerWrite, ?rampShortCheck, ?gateCheck, ?rampComplete,
    ?rampTimeout, ?faultTimerExpiry, ?fastTrip, ?outputUnderVoltage, ?pgoodLost, ?retryTimerEnd, ?slotUnlock⟩
  case slotEnWrite => exact fun s src d q en hs h hslot => (onSlotWrite_eq _ hs h hslot : execSlotEnWrite src d q en s = _)
  case prsntFall => exact fun s d q hd h hslot => (onPrsnt_of_live _ hd h hslot : execPrsntFall d q s = _)
  case presenceConfirmed => exact fun s d q h hslot => (onSlot_eq _ h hslot : execPresenceConfirmed d q s = _)
  case prsntRise => exact fun s d q hd h hslot => (onPrsnt_of_live _ hd h hslot : execPrsntRise d q s = _)
  case slotPowerWrite => exact fun s src d q on hs h hslot => (onSlotWrite_eq _ hs h hslot : execSlotPowerWrite src d q on s = _)
  case rampShortCheck =>
    intro s d q vout h hslot k
    change execRampShortCheck d q vout s = _
    rw [execRampShortCheck, onSlot_eq _ h hslot, if_neg (not_not_intro k)]
  case gateCheck => exact fun s d q gate h hslot k => (onSlot_of_pos _ h hslot k : execGateCheck d q gate s = _)
  case rampComplete =>
    exact fun s d q gate vout feedsHigh h hslot => (onSlot_eq _ h hslot : execRampComplete d q gate vout feedsHigh s = _)
  case rampTimeout => exact fun s d q h hslot k => (onSlot_of_pos _ h hslot k : execRampTimeout d q s = _)
  case faultTimerExpiry => exact fun s d q h hslot k => (onSlot_of_pos _ h hslot k : execFaultTimerExpiry d q s = _)
  case fastTrip => exact fun s d q sense h hslot k => (onSlot_of_pos _ h hslot k : execFastTrip d q sense s = _)
  case outputUnderVoltage => exact fun s d q h hslot k => (onSlot_of_pos _ h hslot k : execOutputUnderVoltage d q s = _)
  case pgoodLost => exact fun s d q h hslot k => exec_pgoodLost_of_good h hslot k
  case retryTimerEnd => exact fun s d q h hslot k => (onSlot_of_pos _ h hslot k : execRetryTimerEnd d q s = _)
  case slotUnlock => exact fun s src d q hs h hslot => (onSlotWrite_eq _ hs h hslot : execSlotUnlock src d q s = _)

/-- Settles O26: a write of perst_hold passes the guard of a slot's registers, and every other command is an event of its slot. -/
theorem slotFeedsComplete : Obligations.SlotFeedsComplete := by
  refine ⟨?feedGood, ?feedLost, ?reverseCurrent, ?oringReenable, ?slotSample, ?fetTempSample, ?slotMeasurementUpdate,
    ?forecastAssert, ?forecastClear, ?perstReleaseTimer, ?perstHoldWrite, ?fcLeadExpiry, ?gateOffDelay, ?stoppingEnd⟩
  case feedGood => exact fun s d q feed h hslot => (onSlot_eq _ h hslot : execFeedGood d q feed s = _)
  case feedLost => exact fun s d q feed high h hslot => (onSlot_eq _ h hslot : execFeedLost d q feed high s = _)
  case reverseCurrent => exact fun s d q feed h hslot => (onSlot_eq _ h hslot : execReverseCurrent d q feed s = _)
  case oringReenable => exact fun s d q feed h hslot k => (onSlot_of_pos _ h hslot k : execOringReenable d q feed s = _)
  case slotSample => exact fun s d q got h hslot => (onSlot_eq _ h hslot : execSlotSample d q got s = _)
  case fetTempSample => exact fun s d q got h hslot => (onSlot_eq _ h hslot : execFetTempSample d q got s = _)
  case slotMeasurementUpdate => exact fun s d q h hslot => (onSlot_eq _ h hslot : execSlotMeasurementUpdate d q s = _)
  case forecastAssert => exact fun s d q h hslot k => (onSlot_of_pos _ h hslot k : execForecastAssert d q s = _)
  case forecastClear => exact fun s d q h hslot k => (onSlot_of_pos _ h hslot k : execForecastClear d q s = _)
  case perstReleaseTimer => exact fun s d q h hslot => (onSlot_eq _ h hslot : execPerstReleaseTimer d q s = _)
  case perstHoldWrite => exact fun s src d q hold hs h hslot => (onSlotWrite_eq _ hs h hslot : execPerstHoldWrite src d q hold s = _)
  case fcLeadExpiry => exact fun s d q h hslot k => (onSlot_of_pos _ h hslot k : execFcLeadExpiry d q s = _)
  case gateOffDelay => exact fun s d q h hslot k => (onSlot_of_pos _ h hslot k : execGateOffDelay d q s = _)
  case stoppingEnd => exact fun s d q h hslot k => (onSlot_of_pos _ h hslot k : execStoppingEnd d q s = _)

end Sys2Proof.Machine

/-! PROOFS of the statements of chapter 15: commands that find their channel full, and the commands of the channels, Hatch and
expansion buses. -/

namespace Sys2Proof.Machine

/-! ## A command arrives (R415, R416) -/

/-- A command for channel 5 is work for the Wardens' domain. -/
def State.channelWork (s : State) (d c : Nat) : State := s.when (c == 5) fun s => s.wake d 21

section
variable {s : State} {d c : Nat}

theorem State.channelWork_ok (h : s.regsOk = true) : (s.channelWork d c).regsOk = true :=
  State.when_ok s _ _ (fun s hs => State.wake_ok s d 21 hs) h

theorem State.channelWork_onlyLogs (h : s.regsOk = true) : s.onlyLogs (s.channelWork d c) [] := by
  unfold State.channelWork State.when
  split
  · exact State.wake_onlyLogs d [] h (by decide) (by decide)
  · exact .same s []

theorem State.rd_channelWork {g : Fld} (m : Loc) (h : s.regsOk = true) (hg : g.lo < 32) (hlog : g.reg ∉ logRegs) :
    (s.channelWork d c).rd g m = s.rd g m :=
  (State.channelWork_onlyLogs h).2 g m hg hlog List.not_mem_nil

theorem State.channelWork_flag {g : Fld} (m : Loc) (h : s.regsOk = true) (hg : g.lo < 32) (hlog : g.reg ∉ logRegs) :
    (s.channelWork d c).flag g m = s.flag g m := by
  rw [State.flag, State.rd_channelWork m h hg hlog]
  rfl

theorem State.channelWork_chan (h : s.regsOk = true) (e k : Nat) : (s.channelWork d c).chan e k = s.chan e k := by
  have hchans : (s.channelWork d c).chans = s.chans := (congrArg State.chans (State.channelWork_onlyLogs h).1 :)
  rw [State.chan, hchans]
  rfl

theorem State.channelWork_now (h : s.regsOk = true) (e : Nat) : (s.channelWork d c).now e = s.now e := by
  have htime : (s.channelWork d c).ftime = s.ftime := (congrArg State.ftime (State.channelWork_onlyLogs h).1 :)
  rw [State.now, htime]
  rfl

/-- A command on a present channel of a pair that runs finds its queue full, or joins it. -/
theorem State.acceptCmd_running (cmd : Cmd) (hpresent : s.flag F.MB_CHAN_c_present (idxL d 0 c) = true)
    (hrunning : s.running d = true) (h : s.regsOk = true) :
    s.acceptCmd d c cmd =
      if 256 ≤ (s.chan d c).depth ∨ (cmd.origin = .mailbox ∧ 256 ≤ (s.chan d c).slotsBusy) then
        (s.channelWork d c).rejectBusy d c cmd
      else
        ((s.channelWork d c).updChan d c fun x => { x with queue := x.queue ++ [{ cmd with time := s.now d }] }).pm d 0xB000 c 1 := by
  have hpresent' : ¬(!(s.channelWork d c).flag F.MB_CHAN_c_present (idxL d 0 c)) = true := by
    rw [State.channelWork_flag _ h (by decide) (by decide), hpresent]
    decide
  have hrunning' : ¬(!(s.channelWork d c).running d) = true := by
    rw [State.running, State.channelWork_flag _ h (by decide) (by decide)]
    simpa [State.running] using hrunning
  rw [← State.channelWork_chan h, ← State.channelWork_now h]
  exact (if_neg hpresent').trans (if_neg hrunning')

end

/-! ## A command is rejected -/

section
variable {s : State} {d c : Nat} {g : Fld}

/-- A change of a channel shows in its depth and in bg_running. -/
theorem State.rd_updChan (f : Chan → Chan) (m : Loc) (h : s.regsOk = true) (hg : g.lo < 32)
    (hne : ¬(g.reg = .MB_CHAN_c ∧ (g.lo = 16 ∨ g.lo = 30))) : (s.updChan d c f).rd g m = s.rd g m := by
  have hchans : State.regsOk { s with chans := Tbl.mod s.chans (key2 d c) {} f } = true := h
  refine (State.rd_wr_other _ (State.wr_ok _ _ _ _ hchans) (by decide) hg fun e => hne ⟨e.1, .inr e.2.1⟩).trans ?_
  exact State.rd_wr_other _ hchans (by decide) hg fun e => hne ⟨e.1, .inl e.2.1⟩

theorem State.rd_turnAway (cmd : Cmd) (rc : Rc) (m : Loc) (h : s.regsOk = true) (hg : g.lo < 32)
    (hne : ¬(g.reg = .MB_CHAN_c ∧ (g.lo = 16 ∨ g.lo = 30))) : (s.turnAway d c cmd rc).rd g m = s.rd g m := by
  refine Eq.trans ?_ (State.rd_updChan (d := d) (c := c) (fun x => x.slotDone cmd.origin rc .none) m h hg hne)
  unfold State.turnAway
  dsimp only
  split
  · split
    · rfl
    · rfl
  · rfl

/-- Whoever is turned away is answered. -/
theorem State.mem_out_turnAway (cmd : Cmd) (rc : Rc) :
    .cmdReply d c cmd.opcode cmd.origin rc .none ∈ (s.turnAway d c cmd rc).out := by
  have hreply (t : State) (o : Out) : o ∈ (t.emit o).out := List.mem_append_right _ (List.mem_singleton_self o)
  unfold State.turnAway
  dsimp only
  split
  · split
    · exact List.mem_append_left _ (hreply _ _)
    · exact hreply _ _
  · exact hreply _ _

/-- A rejection shows in busy_rejects and busy_reject, and in what turning away shows. -/
theorem State.rd_rejectBusy (cmd : Cmd) (m : Loc) (h : s.regsOk = true) (hg : g.lo < 32) (hlog : g.reg ∉ logRegs)
    (hne : ¬(g.reg = .MB_CHAN_c ∧ (g.lo = 16 ∨ g.lo = 30))) :
    (s.rejectBusy d c cmd).rd g m =
      ((s.inc F.MB_CHAN_c_busy_rejects (idxL d 0 c)).ev F.MB_EVENT_busy_reject (dieL d) c).rd g m := by
  have hev : ((s.inc F.MB_CHAN_c_busy_rejects (idxL d 0 c)).ev F.MB_EVENT_busy_reject (dieL d) c).regsOk = true :=
    State.ev_ok _ _ _ _ (State.inc_ok _ _ _ h)
  obtain ⟨hpm, hshows⟩ := State.Shows.pm (.same hev) d 0xB001 c 1
  refine (State.rd_turnAway (s := State.updWarden _ _ _) cmd .busy m hpm hg hne).trans ?_
  exact hshows g m hg hlog

/-- The event bit of a rejection is set. -/
theorem State.rd_busy_reject (cmd : Cmd) (h : s.regsOk = true) :
    (s.rejectBusy d c cmd).rd F.MB_EVENT_busy_reject (dieL d) = 1 := by
  rw [State.rd_rejectBusy cmd _ h (by decide) (by decide) (by decide)]
  exact State.rd_evD_same _ _ _ _ _ (State.inc_ok _ _ _ h) (by decide) (by decide)

/-- A rejection is counted. -/
theorem State.rd_busy_rejects (cmd : Cmd) (h : s.regsOk = true) :
    (s.rejectBusy d c cmd).rd F.MB_CHAN_c_busy_rejects (idxL d 0 c) =
      min (s.rd F.MB_CHAN_c_busy_rejects (idxL d 0 c) + 1) (2 ^ F.MB_CHAN_c_busy_rejects.width - 1) := by
  rw [State.rd_rejectBusy cmd _ h (by decide) (by decide) (by decide)]
  refine (State.rd_evD_other _ _ _ _ _ (State.inc_ok _ _ _ h) (by decide) (by decide) (by decide) fun e => ?_).trans
    (State.rd_inc_same _ _ h)
  exact absurd e.1 (by decide)

end

/-- Settles O52: the entries of the queue decide between a rejection and a place in it. -/
theorem commandQueueFull : Obligations.CommandQueueFull := by
  intro s d c cmd hpresent hrunning hok t
  have hwork : t.regsOk = true := State.channelWork_ok hok
  have hcount : t.rd F.MB_CHAN_c_busy_rejects (idxL d 0 c) = s.rd F.MB_CHAN_c_busy_rejects (idxL d 0 c) :=
    State.rd_channelWork _ hok (by decide) (by decide)
  rw [State.acceptCmd_running cmd hpresent hrunning hok]
  refine ⟨fun hfull => ?full, fun hroom horigin => ?room⟩
  case full =>
    rw [if_pos (.inl hfull)]
    exact ⟨rfl, State.mem_out_turnAway _ _, State.rd_busy_reject cmd hwork, hcount ▸ State.rd_busy_rejects cmd hwork⟩
  case room =>
    rw [if_neg (not_or.mpr ⟨Nat.not_le.mpr hroom, fun hslots => horigin hslots.1⟩)]
    rfl

/-! ## The commands of the channels, Hatch and expansion buses -/

/-- An event of the package that may make work, where the condition that stops it does not hold. -/
theorem runPkg_of_neg {s : State} {c : State → Prop} [DecidablePred c] (f : State → State) (h : s.live) (k : ¬ c s) :
    runPkg s (fun s => if c s then s else f s) = .next (f s).finish := by
  rw [runPkg_eq _ h, if_neg k]

/-- Settles O27: a doorbell of the slots is an event of the package, the start of a delayed read passes the guard of register writes,
and every other command is an event of its die. -/
theorem wardenHatchComplete : Obligations.WardenHatchComplete := by
  refine ⟨?commandAccept, ?commandStart, ?mbQdoorbell, ?hatchInboundAccess, ?hatchAccessDone, ?delayedReadStart, ?delayedReadData,
    ?delayedReadCollect, ?drTmoExpiry, ?pfTmoExpiry, ?xbusTransactionEnd, ?xbusRecovery, ?overcastUpdate⟩
  case commandAccept =>
    exact fun s d c opcode payload requester tag h =>
      (runOn_eq _ h : execCommandAccept d c opcode payload requester tag s = _)
  case commandStart => exact fun s d h => (runOn_eq _ h : execCommandStart d s = _)
  case mbQdoorbell =>
    exact fun s k n wrote h hpresent => (runPkg_of_neg _ h (not_not_eq_true hpresent) : execMbQdoorbell k n wrote s = _)
  case hatchInboundAccess =>
    exact fun s d fm tag addr words conflict h =>
      (runOn_eq _ h : execHatchInboundAccess d fm tag addr words conflict s = _)
  case hatchAccessDone => exact fun s d h => (runOn_eq _ h : execHatchAccessDone d s = _)
  case delayedReadStart => exact fun s src d k space addr hs h => onWrite_eq _ hs h
  case delayedReadData => exact fun s d k words h => (runOn_eq _ h : execDelayedReadData d k words s = _)
  case delayedReadCollect => exact fun s d k h => (runOn_eq _ h : execDelayedReadCollect d k s = _)
  case drTmoExpiry => exact fun s d k h hdone => (runOn_of_pos _ h hdone : execDrTmoExpiry d k s = _)
  case pfTmoExpiry => exact fun s d h => (runOn_eq _ h : execPfTmoExpiry d s = _)
  case xbusTransactionEnd => exact fun s d g how h hactive => (runOn_of_pos _ h hactive : execXbusTransactionEnd d g how s = _)
  case xbusRecovery =>
    exact fun s d g sdaHigh h hclearing => (runOn_of_neg _ h (not_not_eq_true hclearing) : execXbusRecovery d g sdaHigh s = _)
  case overcastUpdate => exact fun s d load0 load1 h => (runOn_eq _ h : execOvercastUpdate d load0 load1 s = _)

end Sys2Proof.Machine

/-! PROOFS of the statements of chapter 16: what a step carries out, the commands of the register space, and those of the firmware and
the Inventory. -/

namespace Sys2Proof.Machine

/-! ## Steps -/

/-- Settles O1: a step looks at the front of the queue. -/
theorem stepRunsFront : Obligations.StepRunsFront := fun _ _ _ h => step_of_pending_cons h

/-! ## The register space -/

/-- A write of the high word of a pair acts as a write of the register space does (R8). -/
theorem exec_pairHighWrite_of_pair {s : State} {addr : Fin 268435456} {r : Reg} {l : Loc} (src : Src) (val : BitVec 32)
    (hreg : regAt (addr / 4 * 4) = some (r, l)) (hpair : (pairLow r).isSome) :
    exec (.pairHighWrite src addr val) s = .next (s.outerDone src (addr / 4 * 4) val.toNat) := by
  change execPairHighWrite src addr val s = _
  rw [execPairHighWrite, hreg]
  exact congrArg Host.Outcome.next (if_pos hpair)

/-- Settles O4: a write of the register space and a read of a low word are what the definitions say of them, and a write of a high word
asks for a pair. -/
theorem registerSpaceComplete : Obligations.RegisterSpaceComplete :=
  ⟨fun _ _ _ _ => rfl, fun _ _ => rfl, fun _ src _ val _ _ hreg hpair => exec_pairHighWrite_of_pair src val hreg hpair⟩

/-! ## The commands of the firmware and the Inventory -/

/-- Settles O17: three commands are ones that their channel has started under their own opcode, and the ends of an operation of INV_CMD
are events of the package. -/
theorem firmwareInventoryComplete : Obligations.FirmwareInventoryComplete := by
  refine ⟨?transferFw, ?activateFw, ?inventoryControl, ?invVerify, ?invApply, ?invArm⟩
  case transferFw => exact fun s c slot bytes cmd h => (onCmd_eq _ h : execTransferFw c slot bytes s = _)
  case activateFw => exact fun s c slot cmd h => (onCmd_eq _ h : execActivateFw c slot s = _)
  case inventoryControl => exact fun s c op slot cmd h => (onCmd_eq _ h : execInventoryControl c op slot s = _)
  case invVerify => exact fun s got h => (runPkg_eq _ h : execInvVerify got s = _)
  case invApply => exact fun s got h => (runPkg_eq _ h : execInvApply got s = _)
  case invArm => exact fun s got h => (runPkg_eq _ h : execInvArm got s = _)

end Sys2Proof.Machine

/-! PROOFS of the statements of chapter 17: the life-cycle fuses, the sessions of the channels, the writes that are denied, and the
commands of the Strongroom. -/

namespace Sys2Proof.Machine

/-! ## The life-cycle fuses (R478) -/

/-- Settles O36: a step answers a state that follows the one whose front command has been taken off, and the fuses are no part of the
queue. -/
theorem lifecycleOnlyRises : Obligations.LifecycleOnlyRises := by
  intro s t hstep
  obtain ⟨u, hu, ⟨-, -, hlc⟩, -⟩ := step_goes s
  obtain rfl : u = t := Host.Outcome.next.inj (hu.symm.trans hstep)
  exact hlc

/-! ## Denied writes (R476) -/

/-- A denied flush stops at its guard, with and without an effect of its own. -/
theorem execFlushNow_denied {src : Src} {d : Fin 8} {s : State} (q : Fin 16) (h : ¬ s.discards src d) (k : s.denied src = true) :
    execFlushNow src d q s = .next s.deny := by
  unfold execFlushNow
  split
  · exact onWrite_denied _ h k
  · exact onVoid_denied h k

/-- Whatever a write command would do, its guard denies it first. (`exec` is opened at once, as in `exec_shields`.) -/
theorem exec_denied {c : Instr} {s : State} {src : Src} {d : Nat} (hwrite : c.write = some (src, d)) (h : ¬ s.discards src d)
    (k : s.denied src = true) : exec c s = .next s.deny := by
  cases c <;> cases hwrite
  all_goals delta exec
  case flushNow => exact execFlushNow_denied _ h k
  case dmDoorbell | dmQPause | dmQUnpause | dmQResume | dmQInvalidate | cqHeadWrite => exact onQueue_denied _ h k
  case pnReadEntry | pnCreate | pnRemove | pnReset | pnSetQueue | pnSetShaper | pnSetCounter | pnFreeze | pnSave | pnRestore |
    pnThaw => exact onPn_denied _ h k
  all_goals exact onWrite_denied _ h k

theorem State.outerDone_denied {s : State} {src : Src} {a : Nat} (v : Nat) (h : s.takes src a = true) (k : s.denied src = true) :
    s.outerDone src a v = s.deny := by
  rw [State.outerDone, if_pos h, if_pos k]

section
variable {s : State}

/-- A denial shows in its count and its event. -/
theorem State.deny_onlyLogs (h : s.regsOk = true) : s.onlyLogs s.deny [.SEC_CNT_AUTH, .SEC_EVENT] :=
  State.ev_onlyLogs _ _ _ (State.inc_ok _ _ _ h) (by decide) (by decide)
    (State.wr_onlyLogs F.SEC_CNT_AUTH_reg_denied pkgL _ h (by decide) (by decide) (.same s _))

theorem State.rd_deny_event (h : s.regsOk = true) : s.deny.rd F.SEC_EVENT_reg_denied pkgL = 1 :=
  State.rd_evD_same _ _ _ _ _ (State.inc_ok _ _ _ h) (by decide) (by decide)

theorem State.rd_deny_count (h : s.regsOk = true) :
    s.deny.rd F.SEC_CNT_AUTH_reg_denied pkgL =
      min (s.rd F.SEC_CNT_AUTH_reg_denied pkgL + 1) (2 ^ F.SEC_CNT_AUTH_reg_denied.width - 1) :=
  (State.rd_evD_other _ _ _ _ _ (State.inc_ok _ _ _ h) (by decide) (by decide) (by decide) fun e => absurd e.1 (by decide)).trans
    (State.rd_inc_same _ _ h)

end

/-- Settles O38: a write command stops at its guard, a write of the register space where it is taken, and a denial is a count and an
event. -/
theorem deniedWrites : Obligations.DeniedWrites :=
  ⟨fun _ _ _ _ hwrite h k => exec_denied hwrite h k,
    fun _ _ _ val h k => congrArg Host.Outcome.next (State.outerDone_denied val.toNat h k),
    fun _ h => ⟨State.deny_onlyLogs h, State.rd_deny_event h, State.rd_deny_count h⟩⟩

/-! ## Sessions (R476, R477) -/

/-- The session of channel `c` is closed, or its time has run out. -/
def State.sessionOver (s : State) (c : Nat) : Bool :=
  !s.flag F.SEC_SESSION_c_open (idxL 0 0 c) || (Tbl.get s.strong.sessionEnd c).any fun t => decide (t ≤ s.now 0)

theorem State.denied_eq {s : State} {src : Src} {c : Nat} (h : Src.session src = some c) :
    s.denied src = (s.needsSession && s.sessionOver c) := by
  rw [State.denied, h]
  rfl

section
variable {s t : State}

/-- Whether sessions are needed stands in LC_STATE alone. -/
theorem State.ShowsBut.needsSession (h : s.ShowsBut t [.SEC_SESSION_c]) : t.needsSession = s.needsSession := by
  have hlc : t.rd F.LC_STATE_state pkgL = s.rd F.LC_STATE_state pkgL := h.2 _ _ (by decide) (by decide) (by decide)
  rw [State.needsSession, State.needsSession, hlc]

/-- A field of one channel's session is given a value beside those of the other channels. -/
theorem State.rd_open_other {c e : Nat} {f : Fld} (v : Nat) (h : s.regsOk = true) (hf : f.lo < 32) (hne : e ≠ c) :
    (s.wr f (idxL 0 0 c) v).rd F.SEC_SESSION_c_open (idxL 0 0 e) = s.rd F.SEC_SESSION_c_open (idxL 0 0 e) :=
  State.rd_wr_other v h hf (by decide) fun x => hne (congrArg Loc.idx x.2.2)

end

/-- The fields of SEC_SESSION_c and the end of the session of channel `c`. -/
def State.setSession (s : State) (c isOpen ms end_ : Nat) : State :=
  let t := (s.wr F.SEC_SESSION_c_open (idxL 0 0 c) isOpen).wr F.SEC_SESSION_c_remaining_ms (idxL 0 0 c) ms
  t.updStrong fun g => { g with sessionEnd := Tbl.put g.sessionEnd c end_ }

theorem State.openSession_eq (s : State) (c ms : Nat) : s.openSession c ms = s.setSession c 1 ms (s.now 0 + msCycles * ms) := rfl

theorem State.closeSession_eq (s : State) (c : Nat) : s.closeSession c = s.setSession c 0 0 (s.now 0) := rfl

section
variable {s : State} {c : Nat} (isOpen ms end_ : Nat)

theorem State.setSession_shows (h : s.regsOk = true) : s.ShowsBut (s.setSession c isOpen ms end_) [.SEC_SESSION_c] := by
  have hopen : s.ShowsBut (s.wr F.SEC_SESSION_c_open (idxL 0 0 c) isOpen) [.SEC_SESSION_c] :=
    (State.ShowsBut.same h).wr _ _ _ (by decide) (by decide)
  exact (hopen.wr F.SEC_SESSION_c_remaining_ms (idxL 0 0 c) ms (by decide) (by decide)).regs rfl rfl

theorem State.rd_setSession_same (h : s.regsOk = true) :
    (s.setSession c isOpen ms end_).rd F.SEC_SESSION_c_open (idxL 0 0 c) = isOpen % 2 :=
  (State.rd_wr_other ms (State.wr_ok _ _ _ _ h) (by decide) (by decide) fun e => absurd e.2.1 (by decide)).trans
    (State.rd_wr_same _ _ _ h)

theorem State.rd_setSession_other {e : Nat} (h : s.regsOk = true) (hne : e ≠ c) :
    (s.setSession c isOpen ms end_).rd F.SEC_SESSION_c_open (idxL 0 0 e) = s.rd F.SEC_SESSION_c_open (idxL 0 0 e) :=
  (State.rd_open_other ms (State.wr_ok _ _ _ _ h) (by decide) hne).trans (State.rd_open_other isOpen h (by decide) hne)

/-- A session is over where it is closed or its end has come. -/
theorem State.sessionOver_setSession_same (h : s.regsOk = true) :
    (s.setSession c isOpen ms end_).sessionOver c = (isOpen % 2 == 0 || decide (end_ ≤ s.now 0)) := by
  have hend : Tbl.get (s.setSession c isOpen ms end_).strong.sessionEnd c = some end_ := Tbl.get_put_same _ _ _
  rw [State.sessionOver, State.flag, State.rd_setSession_same isOpen ms end_ h, hend]
  simp only [bne, Bool.not_not, Option.any_some]
  rfl

/-- The session of another channel is left alone. -/
theorem State.sessionOver_setSession_other {e : Nat} (h : s.regsOk = true) (hne : e ≠ c) :
    (s.setSession c isOpen ms end_).sessionOver e = s.sessionOver e := by
  have hend : Tbl.get (s.setSession c isOpen ms end_).strong.sessionEnd e = Tbl.get s.strong.sessionEnd e :=
    Tbl.get_put_other _ _ hne
  rw [State.sessionOver, State.flag, State.rd_setSession_other isOpen ms end_ h hne, hend]
  rfl

/-- Writes of a source of another channel are denied as before. -/
theorem State.denied_setSession_other {src : Src} {e : Nat} (h : s.regsOk = true) (hsrc : Src.session src = some e) (hne : e ≠ c) :
    (s.setSession c isOpen ms end_).denied src = s.denied src := by
  rw [State.denied_eq hsrc, State.denied_eq hsrc, (State.setSession_shows isOpen ms end_ h).needsSession,
    State.sessionOver_setSession_other isOpen ms end_ h hne]

end

section
variable {s : State} {src : Src} {c : Nat}

theorem State.denied_openSession {ms : Nat} (h : s.regsOk = true) (hsrc : Src.session src = some c) (hms : 0 < ms) :
    (s.openSession c ms).denied src = false := by
  have hlasts : ¬ s.now 0 + msCycles * ms ≤ s.now 0 := by
    have : 0 < msCycles * ms := Nat.mul_pos (by decide) hms
    omega
  rw [State.openSession_eq, State.denied_eq hsrc, State.sessionOver_setSession_same _ _ _ h, decide_eq_false hlasts]
  exact Bool.and_false _

theorem State.denied_closeSession (h : s.regsOk = true) (hsrc : Src.session src = some c) :
    (s.closeSession c).denied src = s.needsSession := by
  rw [State.closeSession_eq, State.denied_eq hsrc, State.sessionOver_setSession_same _ _ _ h,
    (State.setSession_shows _ _ _ h).needsSession]
  exact Bool.and_true _

end

/-- Settles O53: opening and closing set the fields of one session. -/
theorem sessionsOpenAndClose : Obligations.SessionsOpenAndClose := by
  intro s src c ms hok hsrc hms
  refine ⟨State.denied_openSession hok hsrc hms, State.denied_closeSession hok hsrc,
    fun other e hother hne => ⟨?opens, ?closes⟩⟩
  case opens => exact State.denied_setSession_other _ _ _ hok hother hne
  case closes => exact State.denied_setSession_other _ _ _ hok hother hne

/-! ## The commands of the Strongroom -/

/-- An event of the package whose condition holds. -/
theorem onPkg_of_pos {s : State} {c : State → Prop} [DecidablePred c] (f : State → State) (h : s.live) (k : c s) :
    onPkg s (fun s => if c s then f s else s) = .next (f s) := by
  rw [onPkg_eq _ h, if_pos k]

/-- Settles O28: the ends of a session, a nonce and a lockout and the provisioning are events of the package, and every other command
is one that its channel has started under its own opcode. -/
theorem strongroomComplete : Obligations.StrongroomComplete := by
  refine ⟨?getIdentity, ?getAttestationReport, ?openRegisterSession, ?closeRegisterSession, ?sessionExpiry, ?getCounter, ?getNonce,
    ?nonceExpiry, ?submitToken, ?takeOwnership, ?rotateCommandRoot, ?releaseReservation, ?tapProvisionMaker, ?lockoutExpiry⟩
  case getIdentity => exact fun s c cmd h => (onCmd_eq _ h : execGetIdentity c s = _)
  case getAttestationReport => exact fun s c cmd h => (onCmd_eq _ h : execGetAttestationReport c s = _)
  case openRegisterSession => exact fun s c cmd h => (onCmd_eq _ h : execOpenRegisterSession c s = _)
  case closeRegisterSession => exact fun s c cmd h => (onCmd_eq _ h : execCloseRegisterSession c s = _)
  case sessionExpiry => exact fun s c h hopen => (onPkg_of_pos _ h hopen : execSessionExpiry c s = _)
  case getCounter => exact fun s c cmd h => (onCmd_eq _ h : execGetCounter c s = _)
  case getNonce => exact fun s c cmd h => (onCmd_eq _ h : execGetNonce c s = _)
  case nonceExpiry => exact fun s h => (onPkg_eq _ h : execNonceExpiry s = _)
  case submitToken => exact fun s c cmd h => (onCmd_eq _ h : execSubmitToken c s = _)
  case takeOwnership => exact fun s c cmd h => (onCmd_eq _ h : execTakeOwnership c s = _)
  case rotateCommandRoot => exact fun s c cmd h => (onCmd_eq _ h : execRotateCommandRoot c s = _)
  case releaseReservation => exact fun s c cmd h => (onCmd_eq _ h : execReleaseReservation c s = _)
  case tapProvisionMaker =>
    exact fun s secret id keys cert h => (onPkg_eq _ h : execTapProvisionMaker secret id keys cert s = _)
  case lockoutExpiry => exact fun s c h => (onPkg_eq _ h : execLockoutExpiry c s = _)

end Sys2Proof.Machine

/-! PROOFS of the statements of chapter 18: breaks and forwarded frames of the management chain, and its commands. -/

namespace Sys2Proof.Machine

/-! ## Breaks (R498) -/

section
variable {s : State}

theorem State.chEv_of_inReset {f : Fld} (h : s.pkg.inReset = true) : s.chEv f = s.on f pkgL := if_pos h

theorem State.chEv_of_live {f : Fld} (h : s.live) : s.chEv f = s.ev f pkgL 0 := if_neg (ne_true_of_eq_false h)

/-- An event of the island sets its bit, logged or not. -/
theorem State.rd_chEv_same (f : Fld) (h : s.regsOk = true) (hf : f.lo < 32) (hlog : f.reg ∉ logRegs) :
    (s.chEv f).rd f pkgL = 1 % 2 ^ f.width := by
  cases hreset : s.pkg.inReset with
  | true => rw [State.chEv_of_inReset hreset, State.on, State.rd_wr_same _ _ _ h]
  | false => rw [State.chEv_of_live hreset, State.ev, State.rd_evD_same f _ _ _ _ h hf hlog]

/-- And leaves the fields of other registers. -/
theorem State.rd_chEv_reg {f g : Fld} (m : Loc) (h : s.regsOk = true) (hf : f.lo < 32) (hg : g.lo < 32) (hlog : g.reg ∉ logRegs)
    (hne : g.reg ≠ f.reg) : (s.chEv f).rd g m = s.rd g m := by
  cases hreset : s.pkg.inReset with
  | true => rw [State.chEv_of_inReset hreset, State.on, State.rd_wr_reg _ h hf hg hne]
  | false => rw [State.chEv_of_live hreset, State.ev, State.rd_evD_other f _ _ _ _ h hf hg hlog fun e => hne e.1]

/-- The state of the chain after a break: neither a line nor an address. -/
def State.lineLost (s : State) : State :=
  ((s.updIsland fun i => { i with chIn := false }).off F.CH_STATUS_line_ok pkgL).wr F.CH_STATUS_addr pkgL noAddr

/-- What a break does: the line is lost, which is counted, with its event. -/
def State.broken (s : State) : State := (s.lineLost.inc F.CH_CNT_ERR_breaks pkgL).chEv F.CH_EVENT_ch_break

theorem exec_chainBreak (h : s.pkg.islandUp = true) : exec .chainBreak s = .next s.broken := (onChain_eq _ h : execChainBreak s = _)

theorem State.lineLost_ok (h : s.regsOk = true) : s.lineLost.regsOk = true := State.wr_ok _ _ _ _ (State.off_ok (s.updIsland _) _ _ h)

/-- The endpoint ID, the generation and all else but line_ok and the address read as before. -/
theorem State.rd_lineLost {g : Fld} (m : Loc) (h : s.regsOk = true) (hg : g.lo < 32)
    (hne : ¬(g.reg = .CH_STATUS ∧ (g.lo = 7 ∨ g.lo = 16))) : s.lineLost.rd g m = s.rd g m := by
  have hisland : (s.updIsland fun i => { i with chIn := false }).regsOk = true := h
  refine (State.rd_wr_other _ (State.off_ok _ _ _ hisland) (by decide) hg fun e => hne ⟨e.1, .inr e.2.1⟩).trans ?_
  exact State.rd_wr_other _ hisland (by decide) hg fun e => hne ⟨e.1, .inl e.2.1⟩

theorem State.rd_lineLost_addr (h : s.regsOk = true) : s.lineLost.rd F.CH_STATUS_addr pkgL = 0xFE :=
  State.rd_wr_same _ _ _ (State.off_ok (s.updIsland _) _ _ h)

theorem State.rd_lineLost_line_ok (h : s.regsOk = true) : s.lineLost.rd F.CH_STATUS_line_ok pkgL = 0 :=
  (State.rd_wr_other _ (State.off_ok (s.updIsland _) _ _ h) (by decide) (by decide) fun e => absurd e.2.1 (by decide)).trans
    (State.rd_wr_same (s := s.updIsland _) _ _ _ h)

/-- After the loss of the line a break changes its count and its event. -/
theorem State.rd_broken {g : Fld} (m : Loc) (h : s.regsOk = true) (hg : g.lo < 32) (hlog : g.reg ∉ logRegs)
    (hcount : g.reg ≠ .CH_CNT_ERR) (hevent : g.reg ≠ .CH_EVENT) : s.broken.rd g m = s.lineLost.rd g m :=
  (State.rd_chEv_reg m (State.inc_ok _ _ _ (State.lineLost_ok h)) (by decide) hg hlog hevent).trans
    (State.rd_wr_reg _ (State.lineLost_ok h) (by decide) hg hcount)

theorem State.rd_broken_event (h : s.regsOk = true) : s.broken.rd F.CH_EVENT_ch_break pkgL = 1 :=
  State.rd_chEv_same _ (State.inc_ok _ _ _ (State.lineLost_ok h)) (by decide) (by decide)

theorem State.rd_broken_count (h : s.regsOk = true) :
    s.broken.rd F.CH_CNT_ERR_breaks pkgL = min (s.rd F.CH_CNT_ERR_breaks pkgL + 1) (2 ^ F.CH_CNT_ERR_breaks.width - 1) := by
  have hline := State.lineLost_ok h
  rw [← State.rd_lineLost pkgL h (g := F.CH_CNT_ERR_breaks) (by decide) (by decide)]
  exact (State.rd_chEv_reg _ (State.inc_ok _ _ _ hline) (by decide) (by decide) (by decide) (by decide)).trans
    (State.rd_inc_same _ _ hline)

end

/-! ## Frames out (R493) -/

section
variable {s : State} {b : List Nat} {r : List (List Nat)}

/-- A frame to be forwarded leaves first. -/
theorem State.frameOut_forward (h : s.island.fwd = b :: r) :
    s.frameOut = ((s.updIsland fun i => { i with fwd := r }).inc F.CH_CNT_tx_frames pkgL).emit (.chainFrame (withCrc b)) := by
  unfold State.frameOut
  rw [h]

/-- With none to be forwarded the package's own leaves. -/
theorem State.frameOut_own (hnone : s.island.fwd = []) (h : s.island.own = b :: r) :
    s.frameOut = ((s.updIsland fun i => { i with own := r }).inc F.CH_CNT_tx_frames pkgL).emit (.chainFrame (withCrc b)) := by
  unfold State.frameOut
  rw [hnone, h]

end

/-- Settles O59: a break touches the line, the address, its count and its event, and a frame leaves from the queue that is looked at
first. -/
theorem chainBreakAndForward : Obligations.ChainBreakAndForward := by
  refine ⟨?breaks, ?forwards, ?owns⟩
  case breaks =>
    intro s h hok
    have hshown {g : Fld} (hreg : g.reg = .CH_STATUS) (hg : g.lo < 32) : s.broken.rd g pkgL = s.lineLost.rd g pkgL :=
      State.rd_broken pkgL hok hg (hreg ▸ (by decide)) (hreg ▸ (by decide)) (hreg ▸ (by decide))
    exact ⟨_, exec_chainBreak h, (hshown rfl (by decide)).trans (State.rd_lineLost_line_ok hok),
      (hshown rfl (by decide)).trans (State.rd_lineLost_addr hok),
      (hshown rfl (by decide)).trans (State.rd_lineLost _ hok (by decide) (by decide)),
      (hshown rfl (by decide)).trans (State.rd_lineLost _ hok (by decide) (by decide)),
      State.rd_broken_event hok, State.rd_broken_count hok⟩
  case forwards =>
    intro s b r h hok hfwd
    have hforward : exec .chainFrameForward s = .next s.frameOut := (onChain_eq _ h : execChainFrameForward s = _)
    rw [State.frameOut_forward hfwd] at hforward
    exact ⟨_, hforward, rfl, rfl, rfl, State.rd_inc_same (s := s.updIsland _) _ _ hok⟩
  case owns =>
    intro s b r h hfwd hown
    have hforward : exec .chainFrameForward s = .next s.frameOut := (onChain_eq _ h : execChainFrameForward s = _)
    rw [State.frameOut_own hfwd hown] at hforward
    exact ⟨_, hforward, rfl, rfl⟩

/-! ## The commands of the management chain -/

/-- Settles O29: each command is an event of the powered island; a packet and a Stocktake ask for a frame that was taken, a message of
control or register access for the message. -/
theorem chainComplete : Obligations.ChainComplete := by
  refine ⟨?frameReceive, ?frameForward, ?stocktake, ?chainBreak, ?noticeSend, ?mctpPacket, ?setEndpointId, ?getEndpointId,
    ?getEndpointUuid, ?getMctpVersionSupport, ?getMessageTypeSupport, ?regAccessRead, ?regAccessWrite⟩
  case frameReceive => exact fun s f h => (onChain_eq _ h : execChainFrameReceive f s = _)
  case frameForward => exact fun s h => (onChain_eq _ h : execChainFrameForward s = _)
  case stocktake =>
    intro s b r h htaken
    refine (onChain_eq _ h : execStocktake s = _).trans ?_
    rw [htaken]
  case chainBreak => exact fun s h => exec_chainBreak h
  case noticeSend => exact fun s h => (onChain_eq _ h : execNoticeSend s = _)
  case mctpPacket =>
    intro s b r h htaken
    refine (onChain_eq _ h : execMctpPacket s = _).trans ?_
    rw [htaken]
  case setEndpointId => exact fun s m h hm => (onMsg_eq _ h hm : execSetEndpointId s = _)
  case getEndpointId => exact fun s m h hm => (onMsg_eq _ h hm : execGetEndpointId s = _)
  case getEndpointUuid => exact fun s m h hm => (onMsg_eq _ h hm : execGetEndpointUuid s = _)
  case getMctpVersionSupport => exact fun s m h hm => (onMsg_eq _ h hm : execGetMctpVersionSupport s = _)
  case getMessageTypeSupport => exact fun s m h hm => (onMsg_eq _ h hm : execGetMessageTypeSupport s = _)
  case regAccessRead => exact fun s m h hm => (onMsg_eq _ h hm : execRegAccessRead s = _)
  case regAccessWrite => exact fun s m h hm => (onMsg_eq _ h hm : execRegAccessWrite s = _)

end Sys2Proof.Machine

/-! PROOFS of the statements of chapter 19: a counter that wraps, how a Frost is armed and refused, and the commands of the monitor. -/

namespace Sys2Proof.Machine

/-! ## Bits of the monitor that log records and counts leave set

A log record is itself counted, and a wrap of a counter is logged: both set bits of PM_OVF_j and ovf of PM_EVENT, and clear none. -/

/-- A bit of PM_EVENT or PM_OVF_j: at the place of one that a wrap sets, it is that one. -/
structure MonitorBit (g : Fld) : Prop where
  lo : g.lo < 32
  reg : g.reg = .PM_EVENT ∨ g.reg = .PM_OVF_j
  event : g.reg = .PM_EVENT → g.lo = 0 → g = F.PM_EVENT_ovf
  wrapped : g.reg = .PM_OVF_j → g = F.PM_OVF_j_ovf g.lo

theorem monitorBit_ovf : MonitorBit F.PM_EVENT_ovf :=
  ⟨by decide, by decide, fun _ _ => rfl, fun e => absurd e (by decide)⟩

theorem monitorBit_frost_refused : MonitorBit F.PM_EVENT_frost_refused :=
  ⟨by decide, by decide, fun _ e => absurd e (by decide), fun e => absurd e (by decide)⟩

theorem PM_OVF_j_ovf_lo (i : Nat) : (F.PM_OVF_j_ovf i).lo = i := by simp [F.PM_OVF_j_ovf]

theorem monitorBit_wrapped {i : Nat} (h : i < 32) : MonitorBit (F.PM_OVF_j_ovf i) where
  lo := by rwa [PM_OVF_j_ovf_lo]
  reg := .inr rfl
  event := fun e => absurd e (by simp [F.PM_OVF_j_ovf])
  wrapped := fun _ => by rw [PM_OVF_j_ovf_lo]

/-- The bit shows, in a canonical register file. -/
def State.Sets (s : State) (g : Fld) (m : Loc) : Prop := s.regsOk = true ∧ s.rd g m = 1

section
variable {s t : State} {g : Fld} {m : Loc}

/-- The register file and the part decide what is set. -/
theorem State.Sets.regs (h : s.Sets g m) (hp : t.part = s.part) (hr : t.regs = s.regs) : t.Sets g m := by
  obtain ⟨hok, hset⟩ := h
  refine ⟨?_, ?_⟩
  · rwa [State.regsOk, hr]
  · rwa [State.rd, State.rst, hr, hp]

/-- A field of another register takes a value. -/
theorem State.Sets.wr_reg (h : s.Sets g m) (hg : g.lo < 32) (f : Fld) (l : Loc) (v : Nat) (hf : f.lo < 32) (hne : g.reg ≠ f.reg) :
    (s.wr f l v).Sets g m :=
  ⟨State.wr_ok _ _ _ _ h.1, (State.rd_wr_reg v h.1 hf hg hne).trans h.2⟩

theorem State.Sets.wr (h : s.Sets g m) (hg : MonitorBit g) (f : Fld) (l : Loc) (v : Nat) (hf : f.lo < 32)
    (hevent : f.reg ≠ .PM_EVENT) (hwrapped : f.reg ≠ .PM_OVF_j) : (s.wr f l v).Sets g m :=
  h.wr_reg hg.lo f l v hf fun e => hg.reg.elim (fun k => hevent (e ▸ k)) fun k => hwrapped (e ▸ k)

theorem State.sets_on (f : Fld) (l : Loc) (h : s.regsOk = true) (hw : f.width = 1) : (s.on f l).Sets f l :=
  ⟨State.on_ok _ _ _ h, (State.rd_wr_same _ _ _ h).trans (by rw [hw]; rfl)⟩

/-- A bit is set: the bit itself, or another one. -/
theorem State.Sets.on (h : s.Sets g m) (hg : g.lo < 32) (f : Fld) (l : Loc) (hf : f.lo < 32) (hw : f.width = 1)
    (hsame : g.reg = f.reg → g.lo = f.lo → g = f) : (s.on f l).Sets g m := by
  by_cases e : g.reg = f.reg ∧ g.lo = f.lo ∧ m = l
  · obtain ⟨hreg, hlo, rfl⟩ := e
    obtain rfl := hsame hreg hlo
    exact State.sets_on _ _ h.1 hw
  · exact ⟨State.on_ok _ _ _ h.1, (State.rd_wr_other 1 h.1 hf hg e).trans h.2⟩

theorem State.Sets.forEach {α : Type} (xs : List α) (f : State → α → State) (h : s.Sets g m)
    (hf : ∀ u a, State.Sets u g m → (f u a).Sets g m) : (s.forEach xs f).Sets g m := by
  unfold State.forEach
  induction xs generalizing s with
  | nil => exact h
  | cons a r ih => exact ih (hf s a h)

theorem State.Sets.ite {c : Prop} [Decidable c] (hs : s.Sets g m) (ht : t.Sets g m) : (if c then s else t).Sets g m := by
  split
  · exact hs
  · exact ht

theorem State.Sets.wrapped (h : s.Sets g m) (hg : MonitorBit g) {i : Nat} (hi : i < 32) (l : Loc) :
    (s.on (F.PM_OVF_j_ovf i) l).Sets g m := by
  refine h.on hg.lo _ l (by rwa [PM_OVF_j_ovf_lo]) (by simp [Fld.width, F.PM_OVF_j_ovf]) fun hreg hlo => ?_
  rw [hg.wrapped hreg, hlo, PM_OVF_j_ovf_lo]

theorem State.Sets.cntBump (h : s.Sets g m) (hg : MonitorBit g) (d k n : Nat) : (s.cntBump d k n).Sets g m := by
  have hcount (v : Nat) : State.Sets { s with cnt := Tbl.set s.cnt (cntKey d k) v 0 } g m := h.regs rfl rfl
  exact .ite (hcount _) ((hcount _).wrapped hg (Nat.mod_lt _ (by decide)) _)

theorem State.Sets.countClass (h : s.Sets g m) (hg : MonitorBit g) (d cls : Nat) : (s.countClass d cls).Sets g m := by
  unfold State.countClass
  split
  · exact h.wr hg _ _ _ (by decide) (by decide) (by decide)
  · exact h.wr hg _ _ _ (by decide) (by decide) (by decide)
  · exact (h.wr hg F.RS_CNT_CLASS_outside (dieL d) _ (by decide) (by decide) (by decide)).wr hg _ _ _ (by decide) (by decide)
      (by decide)
  · exact h

theorem State.Sets.logPut (h : s.Sets g m) (hg : MonitorBit g) (d blk bit cls unit detail : Nat) :
    (s.logPut d blk bit cls unit detail).Sets g m := by
  unfold State.logPut
  extract_lets n w u t1 t2 t3 t4 t5 t6 t7
  have h1 : t1.Sets g m := h.regs rfl rfl
  have h2 : t2.Sets g m := h1.wr hg _ _ _ (by decide) (by decide) (by decide)
  have h3 : t3.Sets g m := h2.wr hg _ _ _ (by decide) (by decide) (by decide)
  have h4 : t4.Sets g m := h3.wr hg _ _ _ (by decide) (by decide) (by decide)
  have h5 : t5.Sets g m := h4.wr hg _ _ _ (by decide) (by decide) (by decide)
  have h6 : t6.Sets g m := h5.wr hg _ _ _ (by decide) (by decide) (by decide)
  have h7 : t7.Sets g m := h6.countClass hg d cls
  exact .ite (h7.wr hg _ _ _ (by decide) (by decide) (by decide)) h7

theorem State.Sets.wake (h : s.Sets g m) (hg : MonitorBit g) (d : Nat) : (s.wake d 21).Sets g m := by
  unfold State.wake
  extract_lets t
  have ht : t.Sets g m := h.regs rfl rfl
  refine .ite ?_ ht
  rw [State.setDom_upper _ _ _ (by decide) (by decide)]
  exact State.Sets.wr (ht.regs (t := { t with waking := _ }) rfl rfl) hg _ _ _ (by decide) (by decide) (by decide)

theorem State.Sets.irqWarden (h : s.Sets g m) (hg : MonitorBit g) (d core : Nat) : (s.irqWarden d core).Sets g m :=
  (h.wake hg d).regs rfl rfl

end

/-- The record of a wrap, itself counted, or its repetition (R387, R510). -/
def State.wrapRecord (s : State) (d : Nat) : State :=
  if s.logRepeats d 13 0 0 0 then s.inc F.RS_CNT_CLASS_suppressed (dieL d)
  else (s.logPut d 13 0 0 0 0).forEach (s.cntsOf d 0xF000 0 none) fun s k => s.cntBump d k 1

theorem State.cntIrq_eq (s : State) (d : Nat) : s.cntIrq d = ((s.on F.PM_EVENT_ovf (dieL d)).irqWarden d 1).wrapRecord d := rfl

section
variable {s : State} {g : Fld} {m : Loc}

theorem State.Sets.wrapRecord (h : s.Sets g m) (hg : MonitorBit g) (d : Nat) : (s.wrapRecord d).Sets g m :=
  .ite (h.wr hg _ _ _ (by decide) (by decide) (by decide))
    (.forEach _ _ (h.logPut hg d 13 0 0 0 0) fun _ k hu => hu.cntBump hg d k 1)

/-- ovf of PM_EVENT is set, which leaves every other bit. -/
theorem State.Sets.eventOvf (h : s.Sets g m) (hg : MonitorBit g) (d : Nat) : (s.on F.PM_EVENT_ovf (dieL d)).Sets g m :=
  h.on hg.lo _ _ (by decide) (by decide) hg.event

theorem State.Sets.cntIrq (h : s.Sets g m) (hg : MonitorBit g) (d : Nat) : (s.cntIrq d).Sets g m :=
  ((h.eventOvf hg d).irqWarden hg d 1).wrapRecord hg d

theorem State.Sets.cntAdd (h : s.Sets g m) (hg : MonitorBit g) (d k n : Nat) : (s.cntAdd d k n).Sets g m :=
  .ite ((h.cntBump hg d k n).cntIrq hg d) (h.cntBump hg d k n)

theorem State.Sets.log (h : s.Sets g m) (hg : MonitorBit g) (d blk bit cls unit detail : Nat) :
    (s.log d blk bit cls unit detail).Sets g m :=
  .ite (h.wr hg _ _ _ (by decide) (by decide) (by decide))
    (.forEach _ _ (h.logPut hg d blk bit cls unit detail) fun _ k hu => hu.cntAdd hg d k 1)

/-- An event of the monitor shows its own bit, though its register is one of those of the log. -/
theorem State.sets_ev (hg : MonitorBit g) (hw : g.width = 1) (h : s.regsOk = true) (unit : Nat) : (s.ev g m unit).Sets g m :=
  (State.sets_on g m h hw).log hg _ _ _ _ _ _

end

/-! ## A counter wraps (R510) -/

/-! A log record sends nothing out. -/

theorem State.countClass_out (s : State) (d cls : Nat) : (s.countClass d cls).out = s.out := by
  unfold State.countClass
  split <;> rfl

theorem State.logPut_out (s : State) (d blk bit cls unit detail : Nat) : (s.logPut d blk bit cls unit detail).out = s.out := by
  unfold State.logPut
  extract_lets n w u t1 t2 t3 t4 t5 t6 t7
  have hcounted : t7.out = s.out := State.countClass_out t6 d cls
  split
  · exact hcounted
  · exact hcounted

theorem State.cntBump_out (s : State) (d k n : Nat) : (s.cntBump d k n).out = s.out := by
  unfold State.cntBump
  dsimp only
  split <;> rfl

theorem State.wrapRecord_out (s : State) (d : Nat) : (s.wrapRecord d).out = s.out := by
  unfold State.wrapRecord
  split
  · rfl
  · exact (State.forEach_keeps State.out _ _ _ fun t k => State.cntBump_out t d k 1).trans (State.logPut_out _ _ _ _ _ _ _)

section
variable {s : State} {d k : Nat}

/-- The interrupt of a wrap sets ovf of PM_EVENT and goes to Warden core 1. -/
theorem State.cntIrq_sets (d : Nat) (h : s.regsOk = true) : (s.cntIrq d).Sets F.PM_EVENT_ovf (dieL d) :=
  ((State.sets_on F.PM_EVENT_ovf (dieL d) h (by decide)).irqWarden monitorBit_ovf d 1).wrapRecord monitorBit_ovf d

theorem State.mem_out_cntIrq (s : State) (d : Nat) : .wardenIrq d 1 ∈ (s.cntIrq d).out := by
  rw [State.cntIrq_eq, State.wrapRecord_out]
  exact List.mem_append_right _ (List.mem_singleton_self _)

/-- One more at 2^48 - 1 leaves 0, and the bit of the counter. -/
theorem State.cntBump_last (h : s.cntVal d k = 2 ^ 48 - 1) :
    s.cntBump d k 1 = ({ s with cnt := Tbl.set s.cnt (cntKey d k) 0 0 }).on (F.PM_OVF_j_ovf (k % 32)) (idxL d 0 (k / 32)) := by
  have hval : Tbl.getD s.cnt (cntKey d k) 0 = 2 ^ 48 - 1 := h
  unfold State.cntBump
  rw [hval]
  rfl

theorem State.cntWraps_last (h : s.cntVal d k = 2 ^ 48 - 1) : s.cntWraps d k 1 = true := by
  have hval : Tbl.getD s.cnt (cntKey d k) 0 = 2 ^ 48 - 1 := h
  rw [State.cntWraps, hval]
  rfl

/-- int_en decides whether a wrap interrupts. -/
theorem State.cntAdd_quiet (n : Nat) (hint : s.flag F.EVT_int_en (idxL d 0 k) = false) : s.cntAdd d k n = s.cntBump d k n :=
  if_neg (by simp [hint])

theorem State.cntAdd_last (h : s.cntVal d k = 2 ^ 48 - 1) (hint : s.flag F.EVT_int_en (idxL d 0 k) = true)
    (howned : s.flag F.OWN_owned (idxL d 0 k) = false) : s.cntAdd d k 1 = (s.cntBump d k 1).cntIrq d :=
  if_pos (by simp [State.cntWraps_last h, hint, howned])

/-- The bit of a counter that wraps is set. -/
theorem State.cntBump_sets (h : s.cntVal d k = 2 ^ 48 - 1) (hok : s.regsOk = true) :
    (s.cntBump d k 1).Sets (F.PM_OVF_j_ovf (k % 32)) (idxL d 0 (k / 32)) := by
  rw [State.cntBump_last h]
  exact State.sets_on (s := { s with cnt := _ }) _ _ hok (by simp [Fld.width, F.PM_OVF_j_ovf])

end

/-- Settles O51: int_en decides whether the interrupt follows the wrap, and the interrupt leaves the bit of the counter set. -/
theorem counterWraps : Obligations.CounterWraps := by
  intro s d k h hen hon hlast hok
  have hwrap : exec (.counterWrap d k) s = .next (s.cntAdd d k 1) :=
    (onDie_of_pos _ h ⟨hen, hon, hlast⟩ : execCounterWrap d k s = _)
  refine ⟨fun hint => ?quiet, fun hint howned => ?interrupts⟩
  case quiet => rw [hwrap, State.cntAdd_quiet 1 hint, State.cntBump_last hlast]
  case interrupts =>
    rw [State.cntAdd_last hlast hint howned] at hwrap
    have hbit : MonitorBit (F.PM_OVF_j_ovf (k % 32)) := monitorBit_wrapped (Nat.mod_lt _ (by decide))
    exact ⟨_, hwrap, ((State.cntBump_sets hlast hok).cntIrq hbit d).2, (State.cntIrq_sets d (State.cntBump_ok _ _ _ _ hok)).2,
      State.mem_out_cntIrq _ _⟩

/-! ## Frost (R514) -/

/-- An arm is asked for: the operation shows in PM_FROST_CTRL. -/
def State.frostAsked (s : State) (d op : Nat) : State := s.wr F.PM_FROST_CTRL_op (dieL d) op

/-- Die 0 alone has acknowledged. -/
def State.frostAcks (s : State) : State :=
  s.forEach (upTo 8) fun s k => s.wrB (F.PM_FROST_STATUS_ack_mask k) (dieL 0) (k == 0)

/-- The other dies are told. -/
def State.frostTell (s : State) (target : Nat) : State := s.forEach s.otherDies fun s k => s.emit (.frostArm k target)

section
variable {s : State} {d : Nat}

theorem State.frostAsked_ok (op : Nat) (h : s.regsOk = true) : (s.frostAsked d op).regsOk = true := State.wr_ok _ _ _ _ h

/-- The target stands in registers of its own. -/
theorem State.frostTarget_frostAsked (op e : Nat) (h : s.regsOk = true) : (s.frostAsked d op).frostTarget e = s.frostTarget e := by
  have hlow : (s.frostAsked d op).rd F.PM_FROST_AT_LO_target (dieL e) = s.rd F.PM_FROST_AT_LO_target (dieL e) :=
    State.rd_wr_reg _ h (by decide) (by decide) (by decide)
  have hhigh : (s.frostAsked d op).rd F.PM_FROST_AT_HI_target (dieL e) = s.rd F.PM_FROST_AT_HI_target (dieL e) :=
    State.rd_wr_reg _ h (by decide) (by decide) (by decide)
  rw [State.frostTarget, State.rd64, hlow, hhigh]
  rfl

theorem State.frostGo_all (h : s.regsOk = true) (hfar : s.now 0 + 4096 ≤ s.frostTarget 0) :
    s.frostGo 0 0 = ((s.frostAsked 0 0).frostAcks.frostArmDie 0 (s.frostTarget 0) true).frostTell (s.frostTarget 0) := by
  rw [← State.frostTarget_frostAsked (d := 0) 0 0 h] at hfar ⊢
  exact if_neg fun hbad => hbad.elim (fun hne => hne rfl) fun hnear => Nat.not_le.mpr hnear hfar

theorem State.frostGo_die (h : s.regsOk = true) (hfar : s.now d + 4096 ≤ s.frostTarget d) :
    s.frostGo d 1 = (s.frostAsked d 1).frostArmDie d (s.frostTarget d) false := by
  rw [← State.frostTarget_frostAsked (d := d) 1 d h] at hfar ⊢
  exact if_neg (Nat.not_lt.mpr hfar)

theorem State.frostGo_all_refused (h : s.regsOk = true) (hbad : d ≠ 0 ∨ s.frostTarget d < s.now d + 4096) :
    s.frostGo d 0 = (s.frostAsked d 0).frostRefuse d := by
  rw [← State.frostTarget_frostAsked (d := d) 0 d h] at hbad
  exact if_pos hbad

theorem State.frostGo_die_refused (h : s.regsOk = true) (hnear : s.frostTarget d < s.now d + 4096) :
    s.frostGo d 1 = (s.frostAsked d 1).frostRefuse d := by
  rw [← State.frostTarget_frostAsked (d := d) 1 d h] at hnear
  exact if_pos hnear

/-- Of a refused arm the operation and the event remain. -/
theorem State.frostAsked_refused (op : Nat) (h : s.regsOk = true) :
    s.onlyLogs ((s.frostAsked d op).frostRefuse d) [.PM_FROST_CTRL, .PM_EVENT] ∧
      ((s.frostAsked d op).frostRefuse d).rd F.PM_EVENT_frost_refused (dieL d) = 1 := by
  have hasked := State.frostAsked_ok (d := d) op h
  have honly : s.onlyLogs (s.frostAsked d op) [.PM_FROST_CTRL, .PM_EVENT] :=
    State.wr_onlyLogs _ _ _ h (by decide) (by decide) (.same s _)
  exact ⟨State.ev_onlyLogs _ _ _ hasked (by decide) (by decide) honly,
    (State.sets_ev monitorBit_frost_refused (by decide) hasked 0).2⟩

end

/-! ### Writing fields of one place, one after another -/

/-- Fields that stand apart: no two are one field of one register. -/
abbrev FieldsApart {α : Type} (f : α → Fld) (xs : List α) : Prop :=
  xs.Pairwise fun a b => ¬((f a).reg = (f b).reg ∧ (f a).lo = (f b).lo)

section
variable {α : Type} {f : α → Fld} {l : Loc} {v : α → Nat} {s : State} {xs : List α}

theorem State.forEach_wr_ok (h : s.regsOk = true) : (s.forEach xs fun s a => s.wr (f a) l (v a)).regsOk = true :=
  State.forEach_ok _ _ _ (fun _ _ hu => State.wr_ok _ _ _ _ hu) h

/-- A field apart from those written reads as before. -/
theorem State.rd_forEach_wr_other {g : Fld} {m : Loc} (h : s.regsOk = true) (hg : g.lo < 32) (hlo : ∀ a ∈ xs, (f a).lo < 32)
    (hne : ∀ a ∈ xs, ¬(g.reg = (f a).reg ∧ g.lo = (f a).lo)) :
    (s.forEach xs fun s a => s.wr (f a) l (v a)).rd g m = s.rd g m := by
  unfold State.forEach
  induction xs generalizing s with
  | nil => rfl
  | cons b r ih =>
    rw [List.forall_mem_cons] at hlo hne
    refine (ih (State.wr_ok _ _ _ _ h) hlo.2 hne.2).trans ?_
    exact State.rd_wr_other _ h hlo.1 hg fun e => hne.1 ⟨e.1, e.2.1⟩

/-- Each of some fields apart reads as it was written. -/
theorem State.rd_forEach_wr {a : α} (h : s.regsOk = true) (hlo : ∀ a ∈ xs, (f a).lo < 32) (hapart : FieldsApart f xs)
    (ha : a ∈ xs) :
    (s.forEach xs fun s a => s.wr (f a) l (v a)).rd (f a) l = v a % 2 ^ (f a).width := by
  induction xs generalizing s with
  | nil => cases ha
  | cons b r ih =>
    rw [List.forall_mem_cons] at hlo
    obtain ⟨hfirst, hrest⟩ := List.pairwise_cons.mp hapart
    have hwritten : (s.wr (f b) l (v b)).regsOk = true := State.wr_ok _ _ _ _ h
    rcases List.mem_cons.mp ha with rfl | har
    · exact (State.rd_forEach_wr_other hwritten hlo.1 hlo.2 hfirst).trans (State.rd_wr_same _ _ _ h)
    · exact ih hwritten hlo.2 hrest har

end

/-! ### Arms and acknowledgements -/

/-- Sending something for each element appends it in order. -/
theorem State.forEach_emit_out {α : Type} (s : State) (xs : List α) (o : α → Out) :
    (s.forEach xs fun s x => s.emit (o x)).out = s.out ++ xs.map o := by
  induction xs generalizing s with
  | nil => exact (List.append_nil s.out).symm
  | cons x xs ih =>
    calc ((s.emit (o x)).forEach xs fun s x => s.emit (o x)).out
        = (s.out ++ [o x]) ++ xs.map o := ih (s.emit (o x))
      _ = s.out ++ (x :: xs).map o := List.append_assoc _ _ _

section
variable {s : State}

theorem ack_mask_lo {k : Nat} (h : k < 8) : (F.PM_FROST_STATUS_ack_mask k).lo < 8 := by
  simp only [F.PM_FROST_STATUS_ack_mask]
  omega

theorem State.frostAcks_ok (h : s.regsOk = true) : s.frostAcks.regsOk = true := State.forEach_wr_ok h

/-- After die 0 is armed for all, its own bit alone is set. -/
theorem State.rd_frostAcks {k : Nat} (h : s.regsOk = true) (hk : k < 8) :
    s.frostAcks.rd (F.PM_FROST_STATUS_ack_mask k) (dieL 0) = if k = 0 then 1 else 0 := by
  have hwritten := State.rd_forEach_wr (f := F.PM_FROST_STATUS_ack_mask) (l := dieL 0) (v := fun k => b2n (k == 0)) h
    (by decide) (by decide) (mem_upTo.mpr hk)
  refine hwritten.trans ?_
  by_cases hzero : k = 0
  · subst hzero
    rfl
  · simp [hzero, b2n]

/-- An arm shows in the state of Frost alone. -/
theorem State.rd_frostArmDie (d e target : Nat) (all : Bool) {k : Nat} (h : s.regsOk = true) (hk : k < 8) :
    (s.frostArmDie d target all).rd (F.PM_FROST_STATUS_ack_mask k) (dieL e) = s.rd (F.PM_FROST_STATUS_ack_mask k) (dieL e) := by
  have hlo := ack_mask_lo hk
  refine State.rd_wr_other (s := { s with frost := _ }) _ h (by decide) (by omega) fun heq => ?_
  have hstate : F.PM_FROST_STATUS_state.lo < 8 := heq.2.1 ▸ hlo
  exact absurd hstate (by decide)

theorem State.frostArmDie_frost_same (d target : Nat) (all : Bool) :
    Tbl.get (s.frostArmDie d target all).frost d = some ⟨target, all⟩ :=
  Tbl.get_put_same _ _ _

theorem State.frostArmDie_frost_other {d e : Nat} (target : Nat) (all : Bool) (hne : e ≠ d) :
    Tbl.get (s.frostArmDie d target all).frost e = Tbl.get s.frost e :=
  Tbl.get_put_other _ _ hne

theorem mem_otherDies {k : Nat} (h : 0 < k) (hk : k < s.part.dies) : k ∈ s.otherDies :=
  List.mem_filter.mpr ⟨mem_upTo.mpr hk, bne_iff_ne.mpr h.ne'⟩

theorem State.frostTell_frost (target : Nat) : (s.frostTell target).frost = s.frost :=
  State.forEach_keeps State.frost s _ _ fun _ _ => rfl

theorem State.rd_frostTell (target : Nat) (g : Fld) (m : Loc) : (s.frostTell target).rd g m = s.rd g m :=
  State.forEach_keeps (·.rd g m) s _ _ fun _ _ => rfl

theorem State.mem_out_frostTell {target k : Nat} (h : 0 < k) (hk : k < s.part.dies) :
    .frostArm k target ∈ (s.frostTell target).out := by
  rw [State.frostTell, State.forEach_emit_out]
  exact List.mem_append_right _ (List.mem_map.mpr ⟨k, mem_otherDies h hk, rfl⟩)

end

/-- Arming die 0 for all leaves the part. -/
theorem State.part_frostArmDie_frostAcks (s : State) (d target : Nat) (all : Bool) :
    (s.frostAcks.frostArmDie d target all).part = s.part :=
  State.forEach_keeps State.part s _ _ fun _ _ => rfl

/-- Settles O58: the die and the distance of the target decide between an arm and a refusal. -/
theorem frostArms : Obligations.FrostArms := by
  refine ⟨?all, ?die, ?allRefused, ?dieRefused, ?receive, ?ack⟩
  case all =>
    intro s src hs h hon hok hfar
    have harm : exec (.frostArmAll src 0) s = .next (s.frostGo 0 0).finish := (onPm_eq _ hs h hon : execFrostArmAll src 0 s = _)
    rw [State.frostGo_all hok hfar] at harm
    have hasked := State.frostAsked_ok (d := 0) 0 hok
    refine ⟨_, harm, ?armed, fun k hk => ?acks, fun k hpos hk => ?told⟩
    case armed => rw [State.frostTell_frost, State.frostArmDie_frost_same]
    case acks =>
      rw [State.rd_frostTell, State.rd_frostArmDie _ _ _ _ (State.frostAcks_ok hasked) hk, State.rd_frostAcks hasked hk]
    case told =>
      refine State.mem_out_frostTell hpos ?_
      rw [State.part_frostArmDie_frostAcks]
      exact hk
  case die =>
    intro s src d hs h hon hok hfar
    have harm : exec (.frostArmDie src d) s = .next (s.frostGo d 1).finish := (onPm_eq _ hs h hon : execFrostArmDie src d s = _)
    rw [State.frostGo_die hok hfar] at harm
    exact ⟨_, harm, State.frostArmDie_frost_same _ _ _, fun k hne => State.frostArmDie_frost_other _ _ hne, rfl⟩
  case allRefused =>
    intro s src d hs h hon hok hbad
    have harm : exec (.frostArmAll src d) s = .next (s.frostGo d 0).finish := (onPm_eq _ hs h hon : execFrostArmAll src d s = _)
    rw [State.frostGo_all_refused hok hbad] at harm
    exact ⟨_, harm, State.frostAsked_refused 0 hok⟩
  case dieRefused =>
    intro s src d hs h hon hok hnear
    have harm : exec (.frostArmDie src d) s = .next (s.frostGo d 1).finish := (onPm_eq _ hs h hon : execFrostArmDie src d s = _)
    rw [State.frostGo_die_refused hok hnear] at harm
    exact ⟨_, harm, State.frostAsked_refused 1 hok⟩
  case receive =>
    intro s d target h hd hon
    exact ⟨_, (onDie_of_pos _ h ⟨hd, hon⟩ : execFrostArmReceive d target s = _), State.frostArmDie_frost_same _ _ _,
      List.mem_append_right _ (List.mem_singleton_self _)⟩
  case ack =>
    intro s d h hon hok
    refine ⟨_, (onDie_of_pos _ h hon : execFrostAckReceive d s = _), (State.rd_wr_same _ _ _ hok).trans ?_⟩
    simp [Fld.width, F.PM_FROST_STATUS_ack_mask]

/-! ## The commands of the monitor -/

/-- Settles O30: the writes pass the guard of the monitor's registers, and every other command is an event of its die; a snap asks for
an arm whose target is reached. -/
theorem monitorComplete : Obligations.MonitorComplete := by
  refine ⟨?counterEvtWrite, ?counterCaptureRead, ?counterWrap, ?frostArmAll, ?frostArmDie, ?frostCancel, ?frostArmReceive,
    ?frostAckReceive, ?frostSnap, ?atticEnWrite, ?atticTailWrite⟩
  case counterEvtWrite => exact fun s src d k val hs h hon => (onPm_eq _ hs h hon : execCounterEvtWrite src d k val s = _)
  case counterCaptureRead => exact fun s d k h hserves => (onDie_of_pos _ h hserves : execCounterCaptureRead d k s = _)
  case counterWrap => exact fun s d k h hlast => (onDie_of_pos _ h hlast : execCounterWrap d k s = _)
  case frostArmAll => exact fun s src d hs h hon => (onPm_eq _ hs h hon : execFrostArmAll src d s = _)
  case frostArmDie => exact fun s src d hs h hon => (onPm_eq _ hs h hon : execFrostArmDie src d s = _)
  case frostCancel => exact fun s src d hs h hon => (onPm_eq _ hs h hon : execFrostCancel src d s = _)
  case frostArmReceive => exact fun s d target h hon => (onDie_of_pos _ h hon : execFrostArmReceive d target s = _)
  case frostAckReceive => exact fun s d h hon => (onDie_of_pos _ h hon : execFrostAckReceive d s = _)
  case frostSnap =>
    intro s d a h harm hdue
    refine (onDie_eq _ h : execFrostSnap d s = _).trans ?_
    rw [harm]
    exact congrArg Host.Outcome.next (if_pos hdue)
  case atticEnWrite => exact fun s src d val hs h hon => (onPm_eq _ hs h hon : execAtticEnWrite src d val s = _)
  case atticTailWrite => exact fun s src d val hs h hon => (onPm_eq _ hs h hon : execAtticTailWrite src d val s = _)

end Sys2Proof.Machine

/-! PROOFS of the statements of chapter 20: the recorded cause of a package reset, and the commands of the reset, the supplies, and the
start of the package. -/

namespace Sys2Proof.Machine

/-! ## The bits that reset sources leave (R529) -/

/-- Of fields that stand apart, one place of one register is one field. -/
theorem eq_of_fieldsApart {xs : List Fld} (h : FieldsApart (fun f => f) xs) {f g : Fld} (hf : f ∈ xs) (hg : g ∈ xs)
    (hreg : f.reg = g.reg) (hlo : f.lo = g.lo) : f = g := by
  by_contra hne
  have hsymm : Std.Symm fun f g : Fld => ¬(f.reg = g.reg ∧ f.lo = g.lo) := ⟨fun _ _ hapart e => hapart ⟨e.1.symm, e.2.symm⟩⟩
  exact h.forall hf hg hne ⟨hreg, hlo⟩

/-- The bits of PD_PKG_STATUS that sources leave. -/
def resetMarks : List Fld := [F.PD_PKG_STATUS_thermtrip_seen, F.PD_PKG_STATUS_rail_reset, F.PD_PKG_STATUS_refclk_lost]

/-- Which source leaves which of these bits. -/
inductive ResetSrc.Leaves : ResetSrc → Fld → Prop where
  | thermtrip : Leaves .thermtrip F.PD_PKG_STATUS_thermtrip_seen
  | rail : Leaves .rail F.PD_PKG_STATUS_rail_reset
  | refclk : Leaves .refclk F.PD_PKG_STATUS_refclk_lost

section
variable {s : State} {x : ResetSrc} {f g : Fld} {srcs : List ResetSrc}

theorem resetMarks_bit (hf : f ∈ resetMarks) : f.lo < 32 ∧ f.width = 1 ∧ f.reg = .PD_PKG_STATUS :=
  (by decide : ∀ f ∈ resetMarks, f.lo < 32 ∧ f.width = 1 ∧ f.reg = .PD_PKG_STATUS) f hf

theorem State.Sets.resetMark (h : s.Sets f pkgL) (hf : f ∈ resetMarks) (hg : g ∈ resetMarks) : (s.on g pkgL).Sets f pkgL := by
  obtain ⟨hlo, -, -⟩ := resetMarks_bit hf
  obtain ⟨hlo', hw', -⟩ := resetMarks_bit hg
  exact h.on hlo g pkgL hlo' hw' (eq_of_fieldsApart (by decide) hf hg)

/-- No source clears a bit that another has left. -/
theorem State.Sets.srcMarks (h : s.Sets f pkgL) (hf : f ∈ resetMarks) (x : ResetSrc) : (s.srcMarks x).Sets f pkgL := by
  cases x with
  | thermtrip => exact (h.resetMark hf (g := F.PD_PKG_STATUS_thermtrip_seen) (by simp [resetMarks])).regs rfl rfl
  | rail => exact (h.resetMark hf (g := F.PD_PKG_STATUS_rail_reset) (by simp [resetMarks])).regs rfl rfl
  | refclk => exact (h.resetMark hf (g := F.PD_PKG_STATUS_refclk_lost) (by simp [resetMarks])).regs rfl rfl
  | pwrOk | sysRst | lifecycle | command => exact h.regs rfl rfl

theorem mem_resetMarks (h : ResetSrc.Leaves x f) : f ∈ resetMarks := by
  cases h with
  | thermtrip | rail | refclk => simp [resetMarks]

theorem State.srcMarks_sets (h : s.regsOk = true) (hx : ResetSrc.Leaves x f) : (s.srcMarks x).Sets f pkgL := by
  obtain ⟨-, hw, -⟩ := resetMarks_bit (mem_resetMarks hx)
  have hset := State.sets_on f pkgL h hw
  cases hx with
  | thermtrip | rail | refclk => exact hset.regs rfl rfl

/-- Every source that arises leaves its bit. -/
theorem State.forEach_srcMarks_sets (h : s.regsOk = true) (hx : ResetSrc.Leaves x f) (hmem : x ∈ srcs) :
    (s.forEach srcs State.srcMarks).Sets f pkgL := by
  unfold State.forEach
  induction srcs generalizing s with
  | nil => cases hmem
  | cons y r ih =>
    rcases List.mem_cons.mp hmem with rfl | hr
    · exact (State.srcMarks_sets h hx).forEach r State.srcMarks fun u a hu => hu.srcMarks (mem_resetMarks hx) a
    · exact ih (State.srcMarks_ok _ _ h) hr

theorem State.forEach_srcMarks_inReset (s : State) (srcs : List ResetSrc) :
    (s.forEach srcs State.srcMarks).pkg.inReset = s.pkg.inReset :=
  State.forEach_keeps (·.pkg.inReset) s _ _ fun t x => by cases x <;> rfl

end

/-! ## What a package reset keeps (Table 20.2) -/

section
variable {s : State} {f : Fld}

/-- Finishing the store's record in flight is no matter of the register file. -/
theorem State.rd_tearRec (s : State) (g : Fld) (m : Loc) : s.tearRec.rd g m = s.rd g m := by
  unfold State.tearRec
  split
  · rfl
  · rfl

theorem keptFields_apart : FieldsApart (fun f => f) keptFields := by decide

theorem keptFields_lo : ∀ f ∈ keptFields, f.lo < 32 := by decide

theorem mem_keptFields (h : f ∈ resetMarks) : f ∈ keptFields :=
  (by simp [resetMarks, keptFields] : resetMarks ⊆ keptFields) h

/-- The bits of the sources are among what is kept. -/
theorem State.Sets.cleared (h : s.Sets f pkgL) (hf : f ∈ resetMarks) : s.cleared.Sets f pkgL := by
  obtain ⟨hlo, hw, hreg⟩ := resetMarks_bit hf
  have hother {g : Fld} (hne : g.reg ≠ .PD_PKG_STATUS) : f.reg ≠ g.reg := fun e => hne (e.symm.trans hreg)
  unfold State.cleared State.showFuses State.wr64
  extract_lets s1 fresh pkg island t0 t1 t2
  have hkept : t1.Sets f pkgL := by
    refine ⟨State.forEach_wr_ok rfl, ?_⟩
    refine (State.rd_forEach_wr (f := fun f => f) rfl keptFields_lo keptFields_apart (mem_keptFields hf)).trans ?_
    rw [State.rd_tearRec, h.2, hw]
    rfl
  have hports : t2.Sets f pkgL := hkept.forEach _ _ fun u p hu => by
    have hpin := hu.wr_reg hlo F.SP_STATUS_prsnt_raw (unitL (portDie p) (portQuad p))
      (s1.rd F.SP_STATUS_prsnt_raw (unitL (portDie p) (portQuad p))) (by decide) (hother (by decide))
    exact .ite (hpin.regs rfl rfl) hpin
  exact ((hports.wr_reg hlo _ _ _ (by decide) (hother (by decide))).wr_reg hlo _ _ _ (by decide) (hother (by decide))).wr_reg hlo
    _ _ _ (by decide) (hother (by decide))

theorem State.cleared_inReset (s : State) : s.cleared.pkg.inReset = true := by
  unfold State.cleared
  extract_lets s1 fresh pkg island t0 t1 t2
  have hkept : t1.pkg.inReset = true := State.forEach_keeps (·.pkg.inReset) t0 _ _ fun _ _ => rfl
  have hports : t2.pkg.inReset = t1.pkg.inReset := State.forEach_keeps (·.pkg.inReset) t1 _ _ fun t p => by
    dsimp only
    split
    · rfl
    · rfl
  exact hports.trans hkept

end

/-! ## The recorded cause -/

theorem ResetSrc.code_lt (x : ResetSrc) : ResetSrc.code x < 2 ^ 4 := by
  cases x <;> decide

section
variable {s : State} {x y : ResetSrc} {srcs : List ResetSrc} {f : Fld}

/-- The package out of reset enters it: it is cleared, and the reset is counted with its cause. -/
theorem State.enterReset_of_live (hfirst : firstSrc srcs = some x) (h : s.live) :
    s.enterReset srcs =
      ((s.forEach srcs State.srcMarks).cleared.inc F.CK_RESET_CAUSE_pkg_resets pkgL).wr F.CK_RESET_CAUSE_cause pkgL
        (ResetSrc.code x) := by
  have hout : ¬(s.forEach srcs State.srcMarks).pkg.inReset = true := by
    rw [State.forEach_srcMarks_inReset, h]
    exact Bool.false_ne_true
  unfold State.enterReset
  rw [hfirst]
  exact if_neg hout

theorem State.cleared_srcMarks_ok (srcs : List ResetSrc) (hok : s.regsOk = true) :
    ((s.forEach srcs State.srcMarks).cleared.inc F.CK_RESET_CAUSE_pkg_resets pkgL).regsOk = true :=
  State.inc_ok _ _ _ (State.cleared_ok _ (State.forEach_ok _ _ _ (fun _ _ => State.srcMarks_ok _ _) hok))

theorem State.rd_cause (hfirst : firstSrc srcs = some x) (h : s.live) (hok : s.regsOk = true) :
    (s.enterReset srcs).rd F.CK_RESET_CAUSE_cause pkgL = ResetSrc.code x := by
  rw [State.enterReset_of_live hfirst h, State.rd_wr_same _ _ _ (State.cleared_srcMarks_ok srcs hok)]
  exact Nat.mod_eq_of_lt (ResetSrc.code_lt x)

/-- The cause stands in a register apart from the bits that the sources leave. -/
theorem State.rd_left (hfirst : firstSrc srcs = some x) (h : s.live) (hok : s.regsOk = true) (hy : ResetSrc.Leaves y f)
    (hmem : y ∈ srcs) :
    (s.enterReset srcs).rd f pkgL = 1 := by
  have hf := mem_resetMarks hy
  obtain ⟨hlo, -, hreg⟩ := resetMarks_bit hf
  have hother : f.reg ≠ .CK_RESET_CAUSE := hreg ▸ (by decide)
  have hcleared := (State.forEach_srcMarks_sets hok hy hmem).cleared hf
  rw [State.enterReset_of_live hfirst h]
  exact ((hcleared.wr_reg hlo F.CK_RESET_CAUSE_pkg_resets _ _ (by decide) hother).wr_reg hlo F.CK_RESET_CAUSE_cause _ _ (by decide)
    hother).2

end

/-- Settles O48: the sources are searched in the order of R529, and what they leave is kept. -/
theorem resetCause : Obligations.ResetCause := by
  intro s srcs x hok hisland hlive hfirst
  have hleft {y : ResetSrc} {f : Fld} (hy : ResetSrc.Leaves y f) (hmem : y ∈ srcs) := State.rd_left hfirst hlive hok hy hmem
  refine ⟨s.enterReset srcs, congrArg Host.Outcome.next (if_pos hisland), ?inReset, State.rd_cause hfirst hlive hok,
    hleft .thermtrip, hleft .rail, hleft .refclk⟩
  rw [State.enterReset_of_live hfirst hlive]
  exact State.cleared_inReset _

/-! ## The commands of the reset and the supplies -/

/-- An event of the package, where the condition that stops it does not hold. -/
theorem onPkg_of_neg {s : State} {c : State → Prop} [DecidablePred c] (f : State → State) (h : s.live) (k : ¬ c s) :
    onPkg s (fun s => if c s then s else f s) = .next (f s) := by
  rw [onPkg_eq _ h, if_neg k]

/-- Settles O5: what happens to the supplies happens in reset as well, the clocks and the die chain are events of the package, and
CK_RST_CMD passes the guard of register writes. -/
theorem resetAndSuppliesComplete : Obligations.ResetAndSuppliesComplete := by
  refine ⟨?islandPowerOn, ?islandSourceChange, ?pwrOkFall, ?sysRstAssert, ?railDip, ?railDipV12, ?railRecovered, ?v12BiasLow,
    ?refclkLoss, ?packageReset, ?packageResetExit, ?resetHoldExpiry, ?pllLock, ?pllLockTimeout, ?dieChainComplete,
    ?dieChainTimeout, ?transitionResetTimer, ?ckRstPackage, ?ckRstDelayExpiry, ?ckRstWarden, ?v12BiasValid, ?islandPowerLoss⟩
  case islandPowerOn => exact fun s vaux h => congrArg Host.Outcome.next (if_neg h)
  case islandSourceChange => exact fun s toVaux h => congrArg Host.Outcome.next (if_pos h)
  case pwrOkFall => exact fun s h => congrArg Host.Outcome.next (if_pos h)
  case sysRstAssert => exact fun s h => congrArg Host.Outcome.next (if_pos h)
  case railDip =>
    intro s d rail hd hrail
    exact (if_neg (Nat.not_le.mpr hd) : execRailDip d rail s = _).trans (congrArg Host.Outcome.next (if_neg hrail))
  case railDipV12 => exact fun s d hd => (if_neg (Nat.not_le.mpr hd) : execRailDip d .v12Bias s = _)
  case railRecovered => exact fun s => rfl
  case v12BiasLow =>
    exact fun s h =>
      (runPkg_eq (s := { s.on (F.PD_PKG_STATUS_rail_low 7) pkgL with pkg := { s.pkg with v12ok := false } }) _ h :
        execV12BiasLow s = _)
  case refclkLoss =>
    intro s d hd h
    have hbar : ¬(s.part.dies ≤ d ∨ (!s.pkg.islandUp) = true) := not_or.mpr ⟨Nat.not_le.mpr hd, not_not_eq_true h⟩
    exact congrArg Host.Outcome.next (if_neg hbar)
  case packageReset => exact fun s srcs h => congrArg Host.Outcome.next (if_pos h)
  case packageResetExit => exact fun s pwrLow fuseBad h => exec_packageResetExit_of_mayLeave fuseBad h
  case resetHoldExpiry => exact fun s => rfl
  case pllLock => exact fun s h hclocks => (onPkg_of_neg _ h hclocks : execPllLock s = _)
  case pllLockTimeout => exact fun s h hclocks => (onPkg_of_neg _ h hclocks : execPllLockTimeout s = _)
  case dieChainComplete =>
    exact fun s number mask h hruns => (runPkg_of_neg _ h (not_not_eq_true hruns) : execDieChainComplete number mask s = _)
  case dieChainTimeout => exact fun s mask h hruns => (onPkg_of_pos _ h hruns : execDieChainTimeout mask s = _)
  case transitionResetTimer => exact fun s h hreset => (onPkg_of_pos _ h hreset : execTransitionResetTimer s = _)
  case ckRstPackage => exact fun s src key hs h => (onWrite_eq _ hs h : execCkRstPackage src key s = _)
  case ckRstDelayExpiry => exact fun s h hreset => (onPkg_of_pos _ h hreset : execCkRstDelayExpiry s = _)
  case ckRstWarden => exact fun s src key die hs h => (onWrite_eq _ hs h : execCkRstWarden src key die s = _)
  case v12BiasValid =>
    exact fun s h =>
      (runPkg_eq (s := { s.off (F.PD_PKG_STATUS_rail_low 7) pkgL with pkg := { s.pkg with v12ok := true } }) _ h :
        execV12BiasValid s = _)
  case islandPowerLoss => exact fun s h => congrArg Host.Outcome.next (if_pos h)

/-! ## The commands of the start -/

/-- Settles O6: a self-test, the loading of the Inventory and its checks are events of the package, and a check of the firmware is one
of its die. -/
theorem bootAndLoadComplete : Obligations.BootAndLoadComplete := by
  refine ⟨?strongroomSelftest, ?storeRecordDurable, ?invFlashDirectoryRead, ?invImageRead, ?invChecks, ?invSectionsApply,
    ?firmwareVerify⟩
  case strongroomSelftest => exact fun s pass h hdue => (onPkg_of_neg _ h hdue : execStrongroomSelftest pass s = _)
  case storeRecordDurable => exact fun s h => (runPkg_eq _ h : execStoreRecordDurable s = _)
  case invFlashDirectoryRead =>
    exact fun s sfdp copy0 copy1 h hdue => (onPkg_of_pos _ h hdue : execInvFlashDirectoryRead sfdp copy0 copy1 s = _)
  case invImageRead => exact fun s got h hdue => (onPkg_of_pos _ h hdue : execInvImageRead got s = _)
  case invChecks =>
    intro s g h hgot hdue
    refine (onPkg_eq _ h : execInvChecks s = _).trans ?_
    rw [hgot]
    exact congrArg Host.Outcome.next (if_pos hdue)
  case invSectionsApply => exact fun s h => (runPkg_eq _ h : execInvSectionsApply s = _)
  case firmwareVerify =>
    exact fun s d img0 img1 h hdue => (runOn_of_neg _ h (not_not_eq_true hdue) : execFirmwareVerify d img0 img1 s = _)

end Sys2Proof.Machine
